-- ==== Sys2Proof/Word.lean ====
section
/-! DEFINITION. The word types of the MH-9616 package: the widths that the spec names again and again. -/
namespace Sys2Proof

/-- One byte of a row, a packet or a memory. -/
abbrev Byte := BitVec 8
/-- A 16-bit field (event codes, TENSOR_IDs, key identifiers). -/
abbrev Half := BitVec 16
/-- A 32-bit register of BAR0 (R8). -/
abbrev Word := BitVec 32
/-- A 64-bit counter, address or payload word. -/
abbrev Word64 := BitVec 64
/-- A pod-store row of 512 bytes; row bit i is bit i of the vector (R42). -/
abbrev Row := BitVec 4096
/-- A 256-bit bundle, bit i as R99 gives. -/
abbrev Bundle := BitVec 256
/-- A 128-bit table entry: descriptor (R40), requantisation entry (R73), transfer entry (R228), observer (R83), tally. -/
abbrev Entry128 := BitVec 128
/-- A 544-bit flit (R216). -/
abbrev Flit := BitVec 544
/-- The 512-bit payload of a flit (R216). -/
abbrev Payload := BitVec 512
/-- A 256-bit digest or key. -/
abbrev Digest := BitVec 256

end Sys2Proof
end

