-- ==== Sys2Proof/Syntax.lean ====
section
/-! DEFINITION. The commands of the block: one constructor per row of the opcode table, with the operands that the spec
gives the operation (slot fields, frame and packet fields, arguments) and the readings and outcomes that only the outside
knows (sensor readings, whether a check or a write holds, bytes of host memory). -/
namespace Sys2Proof

/-! ### Operands of slot commands (R99 to R120) -/

/-- A pod: shallot 0–7 and pod number 0–511 (R97). -/
structure PodRef where
  /-- shallot -/
  sh : Fin 8
  /-- pod number aa × 32 + pp -/
  pod : Fin 512
deriving DecidableEq, Repr

/-- What the bond does with one ROW transfer (R403, R404): how many tries on the row path fail their check (at most the
first try and 3 retries), in which row group, and whether a transfer on the pod's own vertical channel fails too. -/
structure RowEnv where
  /-- failed tries on the row path, 0 to 4 -/
  fails : Fin 5 := 0
  /-- the row group whose check fails -/
  group : Fin 16 := 0
  /-- the vertical channel fails as well -/
  chanFails : Bool := false
deriving DecidableEq, Repr

/-- Fields of a ROW slot other than OP (R108). -/
structure RowArgs where
  /-- W96 -/
  w96 : Bool := false
  /-- IDX, the address counter -/
  idx : Fin 4 := 0
  /-- BUF -/
  buf : Fin 8 := 0
  /-- BANK -/
  bank : Fin 16 := 0
  /-- PART -/
  part : Fin 8 := 0
  /-- FPAIR -/
  fpair : BitVec 5 := 0
  /-- ADDR -/
  addr : BitVec 12 := 0
deriving DecidableEq, Repr

/-- Fields of an ARR STREAM (R112). -/
structure ArrArgs where
  /-- BANK -/
  bank : Fin 16 := 0
  /-- DBUF -/
  dbuf : Fin 8 := 0
  /-- SBUF -/
  sbuf : Fin 8 := 0
  /-- OFS -/
  ofs : BitVec 6 := 0
  /-- SOFS -/
  sofs : BitVec 9 := 0
  /-- A32 -/
  a32 : Bool := false
  /-- IDX -/
  idx : Fin 4 := 0
deriving DecidableEq, Repr

/-- The source of an ACC operation (R115). -/
inductive AccSrc where
  /-- 0b00, the A192 long accumulators -/
  | accs
  /-- 0b01, the A32 lanes -/
  | lanes
  /-- 0b10, the snapshot -/
  | snap
deriving DecidableEq, Repr, Inhabited

/-- Fields of an ACC slot other than OP (R115). -/
structure AccArgs where
  /-- SRC -/
  src : AccSrc := .accs
  /-- CLR -/
  clr : Bool := false
  /-- BUF -/
  buf : Fin 8 := 0
  /-- SBUF -/
  sbuf : Fin 8 := 0
  /-- PART -/
  part : Fin 4 := 0
  /-- POS -/
  pos : BitVec 6 := 0
  /-- SPOS -/
  spos : BitVec 9 := 0
  /-- RQE -/
  rqe : Fin 64 := 0
  /-- DESC -/
  desc : Fin 256 := 0
deriving DecidableEq, Repr

/-- The fields of a VEC slot other than its OP (R117, R129). -/
structure VecArgs where
  /-- element width code: 0 = 8 bits, 1 = 16 bits, 2 = 32 bits -/
  w : Fin 3 := 0
  /-- S: operand B is K(SRCB[3:0]) in every element -/
  s : Bool := false
  /-- predicate register, 0 = always -/
  pred : Fin 8 := 0
  /-- SRCA -/
  a : BitVec 12 := 0
  /-- SRCB -/
  b : BitVec 12 := 0
  /-- DST -/
  d : BitVec 12 := 0
deriving DecidableEq, Repr, Inhabited

/-- Fields of an ST slot other than OP (R118). -/
structure StArgs where
  /-- BUF -/
  buf : Fin 8 := 0
  /-- LSLOT -/
  lslot : Fin 16 := 0
  /-- XFER -/
  xfer : Fin 1024 := 0
deriving DecidableEq, Repr

/-- Fields of a SYN slot other than OP (R120). -/
structure SynArgs where
  /-- PLAZA, P00–P07, P24 or P25 -/
  plaza : Fin 32 := 0
  /-- INDEX -/
  index : BitVec 16 := 0
  /-- ARG -/
  arg : BitVec 8 := 0
deriving DecidableEq, Repr

/-- Fields of a CTL LOOP (R104). -/
structure LoopArgs where
  /-- LC -/
  lc : Fin 3 := 0
  /-- END -/
  stop : BitVec 12 := 0
  /-- TRIPS -/
  trips : BitVec 9 := 0
  /-- STRIDE -/
  stride : BitVec 6 := 0
deriving DecidableEq, Repr

/-! ### Operands of the Boulevard (chapter 09) -/

/-- A plaza P00–P26 (R16). -/
abbrev PlazaNo := Fin 27

/-- A wavelength of a street by its street-local number (R213, R214). -/
structure WaveRef where
  /-- source plaza -/
  src : PlazaNo
  /-- destination plaza -/
  dst : PlazaNo
  /-- street-local wavelength -/
  wave : Fin 64
deriving DecidableEq, Repr, Inhabited

/-- A lane group: END, plaza and lane (R241, R249). -/
structure LaneRef where
  /-- END: receive rings -/
  rx : Bool
  /-- plaza -/
  plaza : PlazaNo
  /-- lane at that plaza -/
  lane : Fin 128
deriving DecidableEq, Repr, Inhabited

/-- An arbiter: kind, plaza and unit (R231). -/
structure ArbRef where
  /-- KIND 0 avenue ingress, 1 pseudo-channel scheduler, 2 gateway egress -/
  kind : Fin 3
  /-- plaza -/
  plaza : PlazaNo
  /-- avenue, pseudo-channel or port -/
  unit : Fin 64
deriving DecidableEq, Repr, Inhabited

/-- A request that becomes visible at an arbiter (R234). -/
structure NewReq where
  /-- source plaza -/
  source : PlazaNo
  /-- TARGET, or the pod within the avenue -/
  target : BitVec 10
  /-- LSLOT of an avenue -/
  lslot : Fin 16 := 0
  /-- the row that has arrived for the slot (avenue) -/
  data : BitVec 4096 := 0
  /-- its second row in a wide execution -/
  ext : BitVec 4096 := 0
  /-- it carries two rows -/
  wide : Bool := false
  /-- the store row of a barrier row -/
  barrierRow : Option (BitVec 12) := none
deriving DecidableEq, Repr, Inhabited

/-- A flit as a receiver sees it after unscrambling (R216). -/
structure RxFlit where
  /-- street-local wavelength -/
  wave : Fin 64
  /-- the 544 bits -/
  flit : BitVec 544
deriving DecidableEq, Repr, Inhabited

/-- One ring of a lane group in a lock-loop update (R240, R241): the lock error in 0.1 GHz, whether the detector signal is
lost, and the loop output u before the feed-forward term. -/
structure RingReading where
  /-- lock error e in 0.1 GHz -/
  err : Int := 0
  /-- detector signal lost -/
  lost : Bool := false
  /-- loop output u, 16 bits -/
  u : BitVec 16 := 0
deriving DecidableEq, Repr, Inhabited

/-! ### Operands of calibration (chapter 10) -/

/-- What a calibration measures of one lane group (R241, R268). -/
structure CalReading where
  /-- the group -/
  group : LaneRef
  /-- heater codes at lock, ring 0 first -/
  codes : List (BitVec 16) := []
  /-- heater gain G in codes per K -/
  gain : Nat := 0
  /-- its factory value, which the part keeps -/
  gainRef : Nat := 0
  /-- couplings k_ij in units of 2^-20, ring i and ring i + k - 3 at 7 × i + k, own ring 0 (full calibration) -/
  couplings : List Int := []
  /-- a coupling beyond three rings reads above 0.01 (full calibration) -/
  farCoupling : Bool := false
  /-- modulator bias codes -/
  bias : List (BitVec 12) := []
  /-- lowest extinction in 0.1 dB -/
  extinction : Nat := 50
  /-- receiver offset codes -/
  offsets : List (BitVec 10) := []
  /-- T_cal less the nearest die sensor, in 1/128 °C -/
  tcalError : Int := 0
  /-- lowest Q of the margin check, in tenths -/
  q : Nat := 71
  /-- T_cal in 1/128 °C -/
  tcal : Int := 0
  /-- H_cal, the mean heater power at calibration -/
  hcal : Nat := 0
  /-- g in codes per K -/
  thermoGain : Nat := 0
  /-- wavelengths that cannot lock on the old values, where the group fails -/
  noLock : List WaveRef := []
deriving DecidableEq, Repr, Inhabited

/-! ### Operands of the bonds (chapter 16) -/

/-- A training unit (R400). -/
inductive BondUnit where
  /-- interface groups of the die at a plaza: direction (inbound of the die), unit -/
  | interface (plaza : PlazaNo) (inbound : Bool) (unit : Fin 64)
  /-- the row groups of a pod -/
  | row (pod : PodRef)
  /-- the private group of a pod -/
  | priv (pod : PodRef)
deriving DecidableEq, Repr

/-- What a wire test finds (R405, R411): the physical wires that show an error. -/
inductive WireTest where
  /-- a suspect row group (0 to 15) or private group (16) of a pod -/
  | podGroup (pod : PodRef) (group : Fin 17) (bad : List (Fin 272))
  /-- a suspect interface group: plaza, direction, group -/
  | interfaceGroup (plaza : PlazaNo) (inbound : Bool) (group : Fin 640) (bad : List (Fin 34))
  /-- every group of a unit in training, as one end reads it: Boulevard or SD side, wires by position -/
  | training (unit : BondUnit) (far : Bool) (bad : List (List (Fin 512)))
deriving DecidableEq, Repr

/-- A sideband frame as it arrives (R409): its unit and the end that receives it (far: the Boulevard or SD side), the 64-bit
word and its CRC-16. -/
structure SideFrame where
  /-- the training unit -/
  unit : BondUnit
  /-- the receiving end is the far one -/
  far : Bool
  /-- the frame word -/
  word : BitVec 64
  /-- CRC-16 -/
  crc : BitVec 16
deriving DecidableEq, Repr

/-- A sideband (R408): of one direction of a die, of a row path or of a private channel. -/
inductive SideRef where
  /-- a direction of the die at a plaza -/
  | die (plaza : PlazaNo) (inbound : Bool)
  /-- a direction of a pod's row path -/
  | row (pod : PodRef) (inbound : Bool)
  /-- a direction of a pod's private channel -/
  | priv (pod : PodRef) (inbound : Bool)
deriving DecidableEq, Repr

/-! ### Operands of clocks, power and heat (chapter 17) -/

/-- The measured power of a shallot over 10 µs, in 0.25 W: in all, and of its AD alone (R427). -/
structure PowerReading where
  /-- the shallot -/
  sh : Fin 8
  /-- shallot power -/
  power : BitVec 16
  /-- AD power -/
  ad : BitVec 16
deriving DecidableEq, Repr

/-- The AD power that the activity model of a shallot gives at a check, in 0.25 W (R437). -/
structure Activity where
  /-- the shallot -/
  sh : Fin 8
  /-- P -/
  power : BitVec 16
deriving DecidableEq, Repr

/-! ### Operands of the memory stacks (chapter 11) -/

/-- What the check symbols say of a 64-byte unit of a request (R281, R283): the unit's index in the request, its DRAM row, and
whether the second reading fails too. A unit that is not named reads correct. -/
structure MemFault where
  /-- index of the unit in the request -/
  unit : Nat := 0
  /-- the DRAM row that holds it -/
  row : Nat := 0
  /-- uncorrectable; otherwise corrected -/
  fails : Bool := false
deriving DecidableEq, Repr, Inhabited

/-- What the DRAM of a stack does with one request. -/
structure MemEnv where
  /-- units that do not read correct -/
  faults : List MemFault := []
  /-- corrections by the core dies' on-die ECC (R289) -/
  odecc : Nat := 0
  /-- the bank has no spare row for a repair (R282) -/
  noSpare : Bool := false
deriving DecidableEq, Repr, Inhabited

/-! ### Operands of the gateways (chapters 12 and 13) -/

/-- A sub-port: port × 8 + sub-port, with port 8g + p of gateway g (R291). -/
abbrev SubPortNo := Fin 128

/-- A received Ethernet frame, as the checks of R294 and R295 see it. -/
structure RxEth where
  /-- bytes from the destination address to the FCS -/
  len : Nat := 64
  /-- the FCS holds -/
  fcsOk : Bool := true
  /-- receive secure channel of the SecTAG -/
  sc : Fin 4 := 0
  /-- secure association of the channel -/
  an : Fin 2 := 0
  /-- MACsec packet number -/
  pn : Nat := 0
  /-- the association came into use with a new key at this frame, so its packet numbers start again (R295) -/
  newKey : Bool := false
  /-- the MACsec integrity check holds -/
  macOk : Bool := true
  /-- the frame is IPv6 -/
  ipv6 : Bool := true
  /-- it is an IEEE 1588 message -/
  ptp : Bool := false
  /-- a datagram to the Reach UDP port whose OP is reserved (R323, R324) -/
  badOp : Bool := false
  /-- destination address -/
  dst : BitVec 128 := 0
  /-- payload -/
  payload : List (BitVec 8) := []
deriving DecidableEq, Repr, Inhabited

/-- A scheduled DATA datagram (R302). -/
structure SchedPkt where
  /-- STREAM -/
  stream : BitVec 16 := 0
  /-- STEP -/
  step : BitVec 64 := 0
  /-- SEQ -/
  seq : Nat := 0
  /-- COUNT -/
  count : Nat := 1
  /-- OFFSET in units of 64 B -/
  offset : Nat := 0
  /-- the data, LENGTH bytes -/
  data : List (BitVec 8) := []
deriving DecidableEq, Repr, Inhabited

/-- A datagram to the service endpoint (R309). -/
structure SvcCall where
  /-- SESSION -/
  session : BitVec 32 := 0
  /-- CALL -/
  call : BitVec 64 := 0
  /-- LENGTH -/
  len : BitVec 32 := 0
  /-- ciphertext and tag -/
  sealed : List (BitVec 8) := []
  /-- source address -/
  src : BitVec 128 := 0
deriving DecidableEq, Repr, Inhabited

/-- A Reach packet as a gateway receives it (R321); the command says its OP. -/
structure ReachIn where
  /-- the sub-port that received it -/
  sub : SubPortNo := 0
  /-- source package, by its address (R306) -/
  src : Fin 2048 := 0
  /-- destination package, by its address -/
  dst : Fin 2048 := 0
  /-- VERSION -/
  version : BitVec 8 := 1
  /-- FLAGS -/
  flags : BitVec 16 := 0
  /-- ENGINE -/
  engine : BitVec 8 := 0
  /-- AOP -/
  aop : BitVec 8 := 0
  /-- STATUS -/
  status : BitVec 8 := 0
  /-- HFLAG -/
  hflag : BitVec 4 := 0
  /-- SEQ -/
  seq : BitVec 32 := 0
  /-- LENGTH -/
  length : BitVec 16 := 0
  /-- REGION -/
  region : BitVec 16 := 0
  /-- OFFSET -/
  offset : BitVec 64 := 0
  /-- KEY -/
  key : BitVec 64 := 0
  /-- STEP -/
  step : BitVec 64 := 0
  /-- MSG -/
  msg : BitVec 32 := 0
  /-- COUNT -/
  count : BitVec 32 := 0
  /-- TALLY -/
  tally : BitVec 32 := 0
  /-- data bytes -/
  data : List (BitVec 8) := []
deriving DecidableEq, Repr, Inhabited

/-! ### Operands of the loader and of Mews (chapters 08 and 19) -/

/-- An uncorrectable error met while the staged image is read (R520): the check that runs, the image offset of the unit, and
the stack and unit that hold it. -/
structure StagedUe where
  /-- the check that runs -/
  check : Fin 9 := 1
  /-- image offset of the 64-byte unit -/
  off : Nat := 0
  /-- stack -/
  stack : Fin 16 := 0
  /-- unit number -/
  unit : BitVec 30 := 0
deriving DecidableEq, Repr, Inhabited

/-- The report of one twin at a step completion (R396). -/
structure TwinReport where
  /-- the shallot -/
  sh : Fin 8 := 0
  /-- CRC-64 over its outbound writes of the step -/
  digest : BitVec 64 := 0
  /-- TWIN_FAULT -/
  fault : Bool := false
deriving DecidableEq, Repr, Inhabited

/-- A Mews request as its last packet completes it (R478): the port that received it, the header fields, BODY and AUTH; the
command says its OPCODE. -/
structure MewsReq where
  /-- port: 0 RGMII, 1 I3C or SMBus -/
  port : Fin 2 := 0
  /-- TAG -/
  tag : BitVec 16 := 0
  /-- CRED -/
  cred : BitVec 8 := 0xFF
  /-- SEQ -/
  seq : BitVec 64 := 0
  /-- BODY -/
  body : List (BitVec 8) := []
  /-- AUTH -/
  auth : List (BitVec 8) := []
deriving DecidableEq, Repr, Inhabited

/-! ### Operands of bring-up and resets (chapter 20) -/

/-- A failure of the shallot self-test (R492): the test of its table, 1 to 5, and the pod that fails it. -/
structure BistFail where
  /-- the shallot -/
  sh : Fin 8
  /-- the test's order -/
  test : Fin 6
  /-- the pod -/
  pod : Fin 512
deriving DecidableEq, Repr

/-- A stack that fails its training (R274): the pseudo-channels of it that are up. -/
structure StackDown where
  /-- the stack -/
  stack : Fin 16
  /-- pseudo-channels up -/
  pcUp : BitVec 7
deriving DecidableEq, Repr

/-- What the end of a phase of R489 shows. -/
inductive PhaseEnd where
  /-- phase 1: fuses read, firmware verified -/
  | firmware
  /-- phase 2: every rail within tolerance -/
  | rails
  /-- phase 3: which conductors pass their self-test, and the units that fell to lane zero or are down -/
  | joins (c0 c1 : Bool) (fallback down : List BondUnit)
  /-- phase 4: lamps warm, due crossfades done -/
  | lamps
  /-- phase 5: full calibration done -/
  | calibration
  /-- phase 6: stacks that failed training -/
  | trainStacks (down : List StackDown)
  /-- phase 7: gateway ports enabled -/
  | ports
  /-- phase 8: failures of the shallot self-test -/
  | selfTest (fails : List BistFail)
deriving DecidableEq, Repr

/-! ### Operands of security (chapter 18) -/

/-- The way of a session message (R451). -/
inductive HelloVia where
  /-- the DOE mailbox of the PCI Express function -/
  | doe
  /-- a datagram to the service endpoint from this address -/
  | net (src : BitVec 128)
deriving DecidableEq, Repr

/-- An OPEN (R451). -/
structure OpenMsg where
  /-- OFFER -/
  offer : BitVec 64 := 0
  /-- ROLE -/
  role : BitVec 8 := 0
  /-- FLAGS -/
  flags : BitVec 8 := 0
  /-- the 6 reserved bytes -/
  reserved : BitVec 48 := 0
  /-- IMAGE, 32 bytes -/
  image : List (BitVec 8) := []
  /-- CT, 1,568 bytes -/
  ct : List (BitVec 8) := []
  /-- CONFIRM, 32 bytes -/
  confirm : List (BitVec 8) := []
deriving DecidableEq, Repr

/-! ### Operands of the host interface (chapter 14) -/

/-- An opcode outside the command set, with the way it came (R367, R481). -/
inductive UnknownCmd where
  /-- a write of CMD_GO with this CMD_OPCODE and these arguments -/
  | host (opcode : BitVec 8) (args : List (BitVec 32))
  /-- a Mews request with this OPCODE -/
  | mews (opcode : BitVec 8) (m : MewsReq)
deriving DecidableEq, Repr

/-- The commands of the MH-9616: one constructor per row of spec/opcode_table.json, first those with
operands and then those without, each in the table's order. -/
inductive Instr where
  /-- LOAD_IMAGE (R194). Host command that runs the loader checks on the image in the incoming staging half. -/
  | loadImage (a : List (BitVec 32)) (ue : Option StagedUe)
  /-- IMAGE_LOAD_DONE (R195). The writing of stores, tables, timetables, regions and the run key completes, and the package becomes LOADED. -/
  | imageLoadDone (ue : Option StagedUe)
  /-- START (R370). Host command that begins a new run or continues the current one. -/
  | start (a : List (BitVec 32))
  /-- STOP_AT_STEP (R371). Host command that arms or disarms a stop at a given step. -/
  | stopAtStep (a : List (BitVec 32))
  /-- SWEEP (R462). Host command that ends the run, unloads the image and starts the fixed 250 ms sweep. -/
  | sweep (a : List (BitVec 32))
  /-- SWEEP_PHASE_END (R462). A timed phase of the sweep ends: key destruction, zeroing, read-back, new staging key, then IDLE. -/
  | sweepPhaseEnd (nonzero : Bool)
  /-- PARK (R491). Host command that takes the bring-up phases back and leaves only the always-on rails powered. -/
  | park (a : List (BitVec 32))
  /-- UNPARK (R491). Command that runs bring-up phases 2 to 9 from PARKED. -/
  | unpark (m : MewsReq)
  /-- QUERY (R375). Command that returns the state, fence, retirement or session item named by ARG0. -/
  | query (a : List (BitVec 32))
  /-- RECALIBRATE_FULL (R373). RECALIBRATE with ARG0 = 0 runs the full 1.2 s calibration. -/
  | recalibrateFull (a : List (BitVec 32))
  /-- RECALIBRATE_GROUP (R373). RECALIBRATE with ARG0 = 1 recalibrates one lane group at once, or demands it for the next recess. -/
  | recalibrateGroup (a : List (BitVec 32))
  /-- REPLAY (R183). Command that runs the loaded image from a RUN_START record, taking inputs from the journal. -/
  | replay (a : List (BitVec 32))
  /-- ROTATE_KEYS (R460). Command that draws new epoch keys, brings the epoch into force and starts the re-key walker. -/
  | rotateKeys (a : List (BitVec 32))
  /-- RETIRE_POD (R374). Command that fuses a pod's retirement and changes placement or unloads the image. -/
  | retirePod (a : List (BitVec 32))
  /-- EXPORT_JOURNAL (R376). Command that copies a range of the journal ring into host memory. -/
  | exportJournal (a : List (BitVec 32))
  /-- BAR0_BAD_ACCESS (R355). A BAR0 access of a wrong size or alignment completes with Completer Abort or is dropped, and is counted. -/
  | bar0BadAccess (write : Bool)
  /-- REGISTER_WRITE (R8). A host write to a register that has no behaviour of its own, by its access type. -/
  | registerWrite (off : BitVec 26) (v : BitVec 32) (hi : Option (BitVec 32))
  /-- JOURNAL_TAIL_WRITE (R177). A write of JOURNAL_TAIL_HI applies the whole consumed count. -/
  | journalTailWrite (v : BitVec 32)
  /-- HOST_TAIL_WRITE (R486). A write of HOST_TAIL_HI applies the host's event tail. -/
  | hostTailWrite (v : BitVec 32)
  /-- BAR2_TARGET_WRITE (R358). A write of BAR2_TARGET moves the window, or is ignored as a whole when it carries a reserved value. -/
  | bar2TargetWrite (v : BitVec 32)
  /-- FREEZE_WRITE (R237). A write of ARB_CTRL.FREEZE stops or resumes all grants of the selected arbiter. -/
  | freezeWrite (v : BitVec 32)
  /-- FREQ_TARGET_WRITE (R421). A write of FREQ_TARGET sets the selected shallot's target code, capped at the grade ceiling and floored at 16. -/
  | freqTargetWrite (v : BitVec 32)
  /-- MODE_WRITE (R398). A write of COND.MODE sets comparison mode, and is ignored outside IDLE. -/
  | modeWrite (v : BitVec 32)
  /-- SLEW_BUDGET_WRITE (R429). A write of SLEW_BUDGET or PKG_SLEW sets the wake buckets, and is ignored while RUNNING. -/
  | slewBudgetWrite (pkg : Bool) (v : BitVec 32)
  /-- BAR2_READ (R359). A host read through the BAR2 window, served by state and target. -/
  | bar2Read (off : BitVec 36) (len : Nat) (env : MemEnv)
  /-- BAR2_WRITE (R359). A host write through the BAR2 window, applied or dropped by state and target. -/
  | bar2Write (off : BitVec 36) (data : List (BitVec 8))
  /-- PCIE_LINK_UP (R378). The host link trains again and raises EV_HOST_LINK_UP. -/
  | pcieLinkUp (flit : Bool) (width rate : BitVec 4)
  /-- IDE_KM (R354). An IDE_KM message over SPDM on the DOE mailbox sets up IDE stream keys. -/
  | ideKm (stream : Fin 5)
  /-- INPUT_WINDOW_POLL (R361). A read of an input window's producer word, repeated every 1 µs until the word reaches n + 1. -/
  | inputWindowPoll (w : Fin 64) (word : BitVec 64)
  /-- INPUT_WINDOW_PULL_DONE (R361). A pull of window bytes completes; the bytes are journaled and the consumer word is written. -/
  | inputWindowPullDone (w : Fin 64) (data header : List (BitVec 8)) (tags : List (BitVec 64))
  /-- OUTPUT_WINDOW_POLL (R362). A read of an output window's consumer word, repeated every 1 µs until there is room. -/
  | outputWindowPoll (w : Fin 64) (word : BitVec 64)
  /-- OUTPUT_WINDOW_PUSH_DONE (R362). A window push completes; the producer word is written and the vector may be signalled. -/
  | outputWindowPushDone (w : Fin 64)
  /-- STEP_START (R170). Beat 0 of a step issues at the start time fixed by the step sequencer. -/
  | stepStart (skew : BitVec 32)
  /-- LOOP (R105). CTL LOOP opens a loop body with a fixed trip count and stride. -/
  | loopCtl (p : PodRef) (a : LoopArgs)
  /-- STEP_END (R101). CTL STEP_END ends the pod's bundles for the step; the last one ends the shallot's count. -/
  | stepEnd (p : PodRef)
  /-- ROW_READ (R108). ROW READ copies a store row into a row buffer. -/
  | rowRead (p : PodRef) (a : RowArgs) (env : RowEnv)
  /-- ROW_WRITE (R108). ROW WRITE copies a row buffer into a store row. -/
  | rowWrite (p : PodRef) (a : RowArgs) (env : RowEnv)
  /-- LOADW (R109). ROW LOADW writes one data part of a weight tile into a bank. -/
  | loadw (p : PodRef) (a : RowArgs) (env : RowEnv)
  /-- LOADS (R109). ROW LOADS writes a tile's scale bytes into a bank. -/
  | loads (p : PodRef) (a : RowArgs) (env : RowEnv)
  /-- LOADC (R109). ROW LOADC writes 64 QM8 channel multipliers into a bank. -/
  | loadc (p : PodRef) (a : RowArgs) (env : RowEnv)
  /-- ROW_ZERO (R108). ROW ZERO writes a row of zeros. -/
  | rowZero (p : PodRef) (a : RowArgs) (env : RowEnv)
  /-- STREAM (R113). ARR STREAM feeds one activation vector through a weight bank into the accumulators or lanes. -/
  | stream (p : PodRef) (a : ArrArgs)
  /-- ACC_CLEAR (R116). ACC CLEAR zeroes all 64 accumulator or lane values and their flags. -/
  | accClear (p : PodRef) (a : AccArgs)
  /-- SNAP (R116). ACC SNAP copies the accumulators or lanes into the snapshot and zeroes the source. -/
  | accSnap (p : PodRef) (a : AccArgs)
  /-- RQ (R78). ACC RQ requantises 64 values through a requantisation entry into a row buffer. -/
  | accRq (p : PodRef) (a : AccArgs)
  /-- NARROW96 (R116). ACC NARROW96 writes 32 values as A96 slots at the tensor's window. -/
  | narrow96 (p : PodRef) (a : AccArgs)
  /-- WIDE192 (R116). ACC WIDE192 writes 16 values as A192 slots. -/
  | wide192 (p : PodRef) (a : AccArgs)
  /-- OUT32 (R116). ACC OUT32 writes 64 A32 values, checked by R60 or converted by class O. -/
  | out32 (p : PodRef) (a : AccArgs)
  /-- ACC_ADD96 (R116). ACC ADD96 adds the 32 A96 slots of a buffer into accumulators. -/
  | accAdd96 (p : PodRef) (a : AccArgs)
  /-- ACC_ADD192 (R116). ACC ADD192 adds the 16 A192 slots of a buffer into accumulators. -/
  | accAdd192 (p : PodRef) (a : AccArgs)
  /-- ACC_ADD32 (R116). ACC ADD32 adds 64 A32 values of a buffer into the lanes. -/
  | accAdd32 (p : PodRef) (a : AccArgs)
  /-- LOAD192 (R116). ACC LOAD192 replaces 16 accumulators with the A192 slots of a buffer. -/
  | load192 (p : PodRef) (a : AccArgs)
  /-- SEND (R228). ST SEND sends a row buffer as flits by its transfer entry. -/
  | send (p : PodRef) (a : StArgs)
  /-- FETCH (R219). ST FETCH sends a READ request whose reply lands in a landing slot. -/
  | fetch (p : PodRef) (a : StArgs)
  /-- RECV (R119). ST RECV copies a landing slot into a row buffer, holding the shallot while the slot is incomplete. -/
  | recv (p : PodRef) (a : StArgs)
  /-- SYN_ADD (R338). SYN ADD adds ARG to a tally's VALUE. -/
  | synAdd (p : PodRef) (a : SynArgs)
  /-- SETF (R338). SYN SETF sets one flag of a tally. -/
  | setf (p : PodRef) (a : SynArgs)
  /-- WAIT (R120). SYN WAIT holds the shallot until a tally's VALUE reaches ARG. -/
  | waitTally (p : PodRef) (a : SynArgs)
  /-- WAIT_RETEST (R120). At each held beat, the failed WAIT condition is tested again. -/
  | waitRetest (p : PodRef)
  /-- SYN_CLR (R338). SYN CLR zeroes a whole tally entry. -/
  | synClr (p : PodRef) (a : SynArgs)
  /-- VEC_ADD (R132). VEC ADD adds elements modulo 2^W. -/
  | vecAdd (p : PodRef) (v : VecArgs)
  /-- VEC_SUB (R132). VEC SUB subtracts elements modulo 2^W. -/
  | vecSub (p : PodRef) (v : VecArgs)
  /-- ADDS (R132). VEC ADDS adds elements with clamping. -/
  | adds (p : PodRef) (v : VecArgs)
  /-- SUBS (R132). VEC SUBS subtracts elements with clamping. -/
  | subs (p : PodRef) (v : VecArgs)
  /-- MULLO (R132). VEC MULLO keeps the low W bits of the product. -/
  | mullo (p : PodRef) (v : VecArgs)
  /-- MULR (R132). VEC MULR forms a rounded Q30 product, clamped to 32 bits. -/
  | mulr (p : PodRef) (v : VecArgs)
  /-- SCALE (R132). VEC SCALE multiplies 32-bit words by a K multiplier and shift, with rounding and clamping. -/
  | vecScale (p : PodRef) (v : VecArgs)
  /-- SHL (R132). VEC SHL shifts elements left. -/
  | shl (p : PodRef) (v : VecArgs)
  /-- SHR (R132). VEC SHR shifts elements right, arithmetically. -/
  | shr (p : PodRef) (v : VecArgs)
  /-- SHRU (R132). VEC SHRU shifts elements right, filling with zeros. -/
  | shru (p : PodRef) (v : VecArgs)
  /-- VEC_MIN (R132). VEC MIN takes the signed minimum. -/
  | vecMin (p : PodRef) (v : VecArgs)
  /-- VEC_MAX (R132). VEC MAX takes the signed maximum. -/
  | vecMax (p : PodRef) (v : VecArgs)
  /-- MINU (R132). VEC MINU takes the unsigned minimum. -/
  | minu (p : PodRef) (v : VecArgs)
  /-- MAXU (R132). VEC MAXU takes the unsigned maximum. -/
  | maxu (p : PodRef) (v : VecArgs)
  /-- VEC_AND (R132). VEC AND forms the bitwise AND. -/
  | vecAnd (p : PodRef) (v : VecArgs)
  /-- VEC_OR (R132). VEC OR forms the bitwise OR. -/
  | vecOr (p : PodRef) (v : VecArgs)
  /-- VEC_XOR (R132). VEC XOR forms the bitwise XOR. -/
  | vecXor (p : PodRef) (v : VecArgs)
  /-- SEL (R132). VEC SEL selects A or B element by element by a predicate. -/
  | vecSel (p : PodRef) (v : VecArgs)
  /-- CMPEQ (R134). VEC CMPEQ writes an equality predicate. -/
  | cmpeq (p : PodRef) (v : VecArgs)
  /-- CMPLT (R134). VEC CMPLT writes a signed less-than predicate. -/
  | cmplt (p : PodRef) (v : VecArgs)
  /-- CMPLTU (R134). VEC CMPLTU writes an unsigned less-than predicate. -/
  | cmpltu (p : PodRef) (v : VecArgs)
  /-- CLZ (R132). VEC CLZ counts leading zeros. -/
  | clz (p : PodRef) (v : VecArgs)
  /-- WIDEN (R132). VEC WIDEN sign-extends a quarter or half of a row into 32-bit words. -/
  | widen (p : PodRef) (v : VecArgs)
  /-- WIDENU (R132). VEC WIDENU zero-extends a quarter or half of a row into 32-bit words. -/
  | widenu (p : PodRef) (v : VecArgs)
  /-- NARROW (R132). VEC NARROW clamps 32-bit words into narrower elements. -/
  | narrow (p : PodRef) (v : VecArgs)
  /-- FEXP2 (R137). FUNC function 0 evaluates 2^x from the set A ROM. -/
  | fexp2 (p : PodRef) (v : VecArgs)
  /-- FLOG2 (R137). FUNC function 1 evaluates log2 u from the set A ROM. -/
  | flog2 (p : PodRef) (v : VecArgs)
  /-- FRCP (R137). FUNC function 2 evaluates a reciprocal from the set B ROM. -/
  | frcp (p : PodRef) (v : VecArgs)
  /-- FRSQ (R137). FUNC function 3 evaluates a reciprocal square root from the set B ROM. -/
  | frsq (p : PodRef) (v : VecArgs)
  /-- FTANH (R137). FUNC function 4 evaluates tanh from the set C ROM. -/
  | ftanh (p : PodRef) (v : VecArgs)
  /-- FSIGM (R137). FUNC function 5 evaluates the sigmoid from the set C ROM. -/
  | fsigm (p : PodRef) (v : VecArgs)
  /-- FSGATE (R137). FUNC function 6 evaluates the smooth gate x·σ(x). -/
  | fsgate (p : PodRef) (v : VecArgs)
  /-- RSUM (R132). RED RSUM adds the sum of a row into a Z register. -/
  | rsum (p : PodRef) (v : VecArgs)
  /-- RSSQ (R132). RED RSSQ adds the sum of squares of a row into a Z register. -/
  | rssq (p : PodRef) (v : VecArgs)
  /-- RMAX (R132). RED RMAX takes the maximum of a row into a Z register. -/
  | rmax (p : PodRef) (v : VecArgs)
  /-- RMIN (R132). RED RMIN takes the minimum of a row into a Z register. -/
  | rmin (p : PodRef) (v : VecArgs)
  /-- GATHER (R144). VEC GATHER reads elements by index from a 32-row window. -/
  | gather (p : PodRef) (v : VecArgs)
  /-- SCATTER (R144). VEC SCATTER writes elements by index into a 32-row window; the highest i wins a collision. -/
  | scatter (p : PodRef) (v : VecArgs)
  /-- LDK (R133). LDK loads four K registers from a row. -/
  | ldk (p : PodRef) (v : VecArgs)
  /-- ZCLR (R133). ZCLR sets a Z register to 0, −2^63 or 2^63 − 1 and clears its flag. -/
  | zclr (p : PodRef) (v : VecArgs)
  /-- ZOUT (R133). ZOUT writes the Z registers into a row. -/
  | zout (p : PodRef) (v : VecArgs)
  /-- ZACC (R133). ZACC adds, or takes the maximum of, row values into the Z registers. -/
  | zacc (p : PodRef) (v : VecArgs)
  /-- ZRCP (R141). ZRCP writes the reciprocal of a Z register into two K registers. -/
  | zrcp (p : PodRef) (v : VecArgs)
  /-- ZRSQ (R141). ZRSQ writes the reciprocal square root of a Z register into two K registers. -/
  | zrsq (p : PodRef) (v : VecArgs)
  /-- PSET (R133). PSET combines two predicates into a third. -/
  | pset (p : PodRef) (v : VecArgs)
  /-- PLD (R133). PLD loads a predicate from a row. -/
  | pld (p : PodRef) (v : VecArgs)
  /-- TOPK (R142). TOPK merges enabled row words into the running top-k list. -/
  | topk (p : PodRef) (v : VecArgs)
  /-- TKMERGE (R142). TKMERGE merges value and index pairs from a row into the top-k list. -/
  | tkmerge (p : PodRef) (v : VecArgs)
  /-- TKOUT (R143). TKOUT writes the top-k list into a row. -/
  | tkout (p : PodRef) (v : VecArgs)
  /-- TKCLR (R133). TKCLR empties the top-k list. -/
  | tkclr (p : PodRef) (v : VecArgs)
  /-- ROWSEL (R145). ROWSEL copies the table row that an index selects into DST, or zeros. -/
  | rowsel (p : PodRef) (v : VecArgs)
  /-- ROW_ARRIVAL (R229). The eight flits of a DATA row land at an ingress and complete a landing slot. -/
  | rowArrival (src : PlazaNo) (dst : Fin 8) (flits : List RxFlit)
  /-- REQ_READ (R280). A REQ flit with OP READ is served by a gate die in owned or background slots. -/
  | reqRead (src : PlazaNo) (h : Fin 16) (flits : List RxFlit) (env : MemEnv)
  /-- REQ_WRITE (R280). A REQ flit with OP WRITE and its data units are written by a gate die. -/
  | reqWrite (src : PlazaNo) (h : Fin 16) (flits : List RxFlit)
  /-- REQ_ATOMIC (R285). A REQ flit with OP ATOMIC applies its AOP to every cell at the gate die. -/
  | reqAtomic (src : PlazaNo) (h : Fin 16) (flits : List RxFlit) (env : MemEnv)
  /-- LINK_ACK (R221). A LINK ACK entry frees the sender's replay buffer up to the acknowledged flit. -/
  | linkAck (w : WaveRef) (seq : BitVec 5)
  /-- LINK_NAK (R221). A LINK NAK entry makes the sender resend from the named flit. -/
  | linkNak (w : WaveRef) (seq : BitVec 5) (g : LaneRef)
  /-- LINK_PAUSE (R244). A LINK PAUSE entry stops new flits on a wavelength. -/
  | linkPause (w : WaveRef)
  /-- LINK_RESUME (R244). A LINK RESUME entry restarts the wavelength, with replay from the last ACK. -/
  | linkResume (w : WaveRef)
  /-- REPLAY_TIMEOUT (R221). No ACK for 1 µs makes the sender resend from the oldest unacknowledged flit. -/
  | replayTimeout (w : WaveRef) (g : LaneRef)
  /-- ARBITER_DECISION (R234). In each period, an arbiter grants the next slot to its owner or to the highest background request. -/
  | arbiterDecision (a : ArbRef) (reqs : List NewReq)
  /-- STALE_REQUEST (R235). A request that reaches age 2^15 becomes stale and ranks first. -/
  | staleRequest (a : ArbRef)
  /-- LOCK_LOOP_UPDATE (R240). A 2 MHz update of each ring's lock loop and heater codes. -/
  | lockLoopUpdate (g : LaneRef) (rings : List RingReading)
  /-- FEEDFORWARD_UPDATE (R242). The 1 µs update of a lane group's thermal feed-forward term. -/
  | feedforwardUpdate (g : LaneRef)
  /-- RING_SLIP (R244). A lock error above 12 GHz for 2 µs slips the ring; the wavelength is paused and swept. -/
  | ringSlip (g : LaneRef) (ring : Fin 16) (w : WaveRef) (lost : Bool)
  /-- RELOCK_DONE (R244). A slipped ring relocks, or after 3 failures its wavelength is declared down. -/
  | relockDone (g : LaneRef) (ring : Fin 16) (w : WaveRef) (ok : Bool)
  /-- LOCK_THERMO_REPORT (R245). A lane group reports its ring-lock temperature every 10 µs. -/
  | lockThermoReport (g : LaneRef) (temp : Option (BitVec 16))
  /-- FADE_VALUE (R253). Every 1 ms a lamp's fade value is formed and tested against the thresholds. -/
  | fadeValue (l : Fin 32) (f : Int)
  /-- DRIVE_ADJUST (R255). Every 10 ms the lamp drive is raised or lowered by 1 % of I0. -/
  | driveAdjust (l : Fin 32)
  /-- SPARE_READY (R256). At 40 ms a warming spare locks, tries again, or becomes FAILED. -/
  | spareReady (l : Fin 32) (locked : Bool)
  /-- CROSSFADE_DEADLINE (R258). 1 s after a crossing with no suitable recess point, the package forces a recess. -/
  | crossfadeDeadline (l : Fin 32)
  /-- CROSSFADE (R259). A granted crossfade opens the spare's gate and begins the ramp. -/
  | crossfade (l : Fin 32) (ps : Nat)
  /-- CROSSFADE_STEP (R259). Each 5 µs step moves 2.5 % of the feed's light; the last one retires the fading lamp. -/
  | crossfadeStep (l : Fin 32)
  /-- P0_UPDATE (R261). After a crossfade the new lamp's P0 and I0 are measured and written. -/
  | p0Update (l : Fin 32) (p0 : BitVec 16)
  /-- P0_WRITE_RETRY (R261). A P0 write refused by temperature is tried again every 1 s. -/
  | p0WriteRetry (l : Fin 32)
  /-- CAL_PHASE_END (R265). A phase of full calibration ends, and the next phase or EV_LAMP_CAL_DONE follows. -/
  | calPhaseEnd (readings : List CalReading) (weak : List WaveRef)
  /-- LANE_GROUP_RECAL (R267). A granted lane-group recalibration starts. -/
  | laneGroupRecal (g : LaneRef)
  /-- LANE_GROUP_RECAL_DONE (R268). After 150 µs, new values are committed or old values restored. -/
  | laneGroupRecalDone (r : CalReading)
  /-- RECESS_DEMAND (R175). The management plane demands a recess at the recess crossing. -/
  | recessDemand (us : Nat) (overdue : Bool)
  /-- DRAIN_COMPLETE (R163). The drain of a step completes, and the package decides to fail, recover, re-execute or commit. -/
  | drainComplete (twins : List TwinReport)
  /-- READY (R171). A READY message from a domain package arrives; a complete set fixes start time T. -/
  | readyMsg (member : Fin 2048) (step t : BitVec 64)
  /-- INPUT_STAGE_ARRIVAL (R379). A control input is numbered and copied to both conductors. -/
  | inputStageArrival (plaza : PlazaNo)
  /-- INPUT_DELIVERY (R379). Each conductor consumes its input copy at the delivery cycle. -/
  | inputDelivery (iseq : BitVec 64) (late0 late1 : Bool)
  /-- LATE_INPUT_COPY (R380). A copy that arrives after its delivery cycle is consumed on arrival and sets INPUT_LATE. -/
  | lateInputCopy (iseq : BitVec 64) (c : Bool)
  /-- OUTPUT_ARRIVAL (R382). A conductor output reaches a stage and is accepted, held or discarded by claim. -/
  | outputArrival (stage : Fin 40) (c : Bool) (oseq : BitVec 32) (payload : List (BitVec 8))
  /-- LAG_ALARM (R387). A LAG alarm reaches the umpire, which declares the active conductor failed at once. -/
  | lagAlarm (stage : Fin 40)
  /-- HEARTBEAT (R386). At the end of each interval, each conductor sends its heartbeat and digest. -/
  | heartbeat (c : Bool) (selfFault : Bool) (upset : BitVec 64)
  /-- CLAIM_WRITE (R389). A raised claim takes force at a stage, and the stage releases its held outputs. -/
  | claimWrite (stage : Fin 40)
  /-- HELD_RELEASE (R389). Every 4 cycles the stage accepts the next held output in OSEQ order. -/
  | heldRelease (stage : Fin 40)
  /-- RESYNC_READY (R392). A reset conductor passes its self-test and awaits resynchronisation. -/
  | resyncReady (c : Bool)
  /-- RESYNC_SNAPSHOT_DONE (R392). The snapshot transfer completes, and the conductor becomes STANDBY. -/
  | resyncSnapshotDone (us : Nat)
  /-- STANDBY_BIST (R393). Every 10 ms the standby runs the next test of its rotation. -/
  | standbyBist (passed : Bool)
  /-- HEALTH_REPORT (R394). Every 1 s the umpire writes the health report. -/
  | healthReport (corrected0 corrected1 : BitVec 16)
  /-- WIRE_TEST_DONE (R405). The test of a suspect group ends, and failed wires are steered or the join falls back. -/
  | wireTestDone (t : WireTest)
  /-- TREQ (R411). A TREQ frame discards the trained state and starts a training attempt. -/
  | treqFrame (f : SideFrame)
  /-- REPAIR (R409). A REPAIR frame gives the marked wires that the transmitter applies. -/
  | repairFrame (f : SideFrame) (words : List (BitVec 64))
  /-- MAP (R411). A MAP frame gives the peer's lane-good map for the AND. -/
  | mapFrame (f : SideFrame)
  /-- ECHO (R411). An ECHO frame carries the trained map and CHECK for comparison. -/
  | echoFrame (f : SideFrame)
  /-- DONE (R411). A DONE frame; when both ends have sent it, the unit is trained. -/
  | doneFrame (f : SideFrame)
  /-- TRAIN_TIMEOUT (R412). An attempt not complete within 100 µs fails, and the next one starts or the width falls back. -/
  | trainTimeout (u : BondUnit)
  /-- SIDEBAND_CLOCK_STOP (R411). A clock stop with no TREQ within 1 µs counts as a failure of the sideband group. -/
  | sidebandClockStop (b : SideRef) (follows : Bool) (passing : Option (Fin 640))
  /-- GOVERNOR_TICK (R422). Every 1 µs the governor reads the slack margins and adjusts voltage or frequency. -/
  | governorTick (sh : Fin 8) (marginAd marginSd : BitVec 8)
  /-- FREQ_STOP_END (R423). After 2 µs the pair resumes at the new frequency. -/
  | freqStopEnd (sh : Fin 8)
  /-- DROOP_DETECT (R424). A droop detector fires and stretches the next period by 25 % or 50 %. -/
  | droopDetect (sh : Fin 8) (depth : BitVec 10)
  /-- RAIL_CHECK (R426). Every 10 µs the rails are read, and three readings out of tolerance are a rail fault. -/
  | railCheck (rail : Fin 19) (mv amps : BitVec 16)
  /-- SENSOR_READ (R420). Every 10 µs the die temperature sensors are read and their validity judged. -/
  | sensorRead (p : PlazaNo) (sd : Bool) (sensor : Fin 64) (t : Option (BitVec 16))
  /-- POWER_MEASURE (R427). Every 10 µs the shallot and package power are measured and the power duty adjusted. -/
  | powerMeasure (pkg : BitVec 16) (shallots : List PowerReading)
  /-- FORECAST_FRAME (R432). A forecast frame is sent on LFPn ending 20 µs before its segment. -/
  | forecastFrame (sh : Fin 8) (next : Bool) (segment : Nat)
  /-- FORECAST_HOLD_END (R432). A segment held for a late frame resumes once 20 µs have passed. -/
  | forecastHoldEnd (sh : Fin 8)
  /-- VR_LIMIT_ASSERT (R434). A filtered assertion of VR_LIMITn# pauses the shallot within 200 ns. -/
  | vrLimitAssert (sh : Fin 8)
  /-- VR_LIMIT_DEASSERT (R434). A filtered deassertion ends the VR_LIMIT pause at the next bundle boundary. -/
  | vrLimitDeassert (sh : Fin 8)
  /-- VR_LIMIT_TIMER (R434). Every 10 ms of assertion raises EV_CLKPWR_VR_LIMIT. -/
  | vrLimitTimer (sh : Fin 8)
  /-- THERMAL_CHECK (R435). Every 100 µs the effective temperatures are tested against the limits. -/
  | thermalCheck (activity : List Activity) (boulevard : Option (BitVec 16))
  /-- SHALLOT_COOLDOWN_END (R436). A tripped shallot's cooling period ends, and a waiting reset may start. -/
  | shallotCooldownEnd (sh : Fin 8)
  /-- THERMISTOR_READ (R439). Every 10 ms the coolant thermistors are read and compared with the limit. -/
  | thermistorRead (n : Fin 4) (t : Option (BitVec 16))
  /-- SCRUB_UNIT (R281). The patrol scrub reads, checks and corrects a unit. -/
  | scrubUnit (h : Fin 16) (u : BitVec 30) (fault : Option MemFault) (noSpare : Bool)
  /-- ROW_REPAIR (R282). A DRAM row is remapped by soft repair in a recess. -/
  | rowRepair (h : Fin 16) (row : Nat)
  /-- WALKER_STEP (R288). The re-key walker re-encrypts one unit of the old epoch. -/
  | walkerStep (h : Fin 16)
  /-- NET_LINK_DOWN (R293). A sub-port loses alignment or its FEC fails, goes down, and its routes move. -/
  | netLinkDown (sub : SubPortNo) (fec : Nat) (lanes : BitVec 8)
  /-- NET_LINK_UP (R293). A sub-port comes up again. -/
  | netLinkUp (sub : SubPortNo) (lanes : BitVec 8) (macsec : Bool)
  /-- ROUTE_RESTORE (R307). A destination returns to a better route 1 s after that route comes up. -/
  | routeRestore (dest : Fin 2048)
  /-- RX_FRAME (R294). A received Ethernet frame is checked, dispatched, forwarded or discarded. -/
  | rxFrame (sub : SubPortNo) (f : RxEth)
  /-- NEIGHBOR_SOLICITATION (R294). A Neighbor Solicitation for the package's own address is answered. -/
  | neighborSolicitation (sub : SubPortNo) (target : BitVec 128)
  /-- PTP_MESSAGE (R297). An IEEE 1588 event message is timestamped and steers the time base. -/
  | ptpMessage (sub : SubPortNo) (selected : Bool) (offset : BitVec 32)
  /-- SCHED_WINDOW (R300). A stream's gate window opens, and its scheduled frames are sent. -/
  | schedWindow (num : BitVec 16)
  /-- SCHED_DATA (R303). A scheduled DATA packet is written at its offset and journaled. -/
  | schedData (p : SchedPkt)
  /-- SCHED_ACK (R304). A scheduled ACK marks packets received, and the missing ones are resent. -/
  | schedAck (num : BitVec 16) (step : BitVec 64) (bits : List Bool)
  /-- SCHED_ACK_TIMER (R304). 2 µs after the last packet, with bits missing, the receiver sends an ACK. -/
  | schedAckTimer (num : BitVec 16) (step : BitVec 64)
  /-- SCHED_RESEND_TIMER (R304). An unacknowledged packet is resent 20 µs after its last send. -/
  | schedResendTimer (num : BitVec 16) (step : BitVec 64) (seq : Nat)
  /-- SERVICE_CALL (R309). A service call is admitted into a slot, or answered busy or refused. -/
  | serviceCall (c : SvcCall)
  /-- HELLO (R450). A HELLO is answered with a signed report and a new ML-KEM offer. -/
  | hello (via : HelloVia) (nonce : List (BitVec 8))
  /-- OPEN (R452). An OPEN is checked and opens a tenant or client session. -/
  | openSession (via : HelloVia) (m : OpenMsg)
  /-- REACH_LOAD (R331). A Reach LOAD is accepted and answered from DRAM. -/
  | reachLoad (p : ReachIn) (env : MemEnv)
  /-- REACH_STORE (R327). A Reach STORE is applied on arrival or at a boundary, by its stamp. -/
  | reachStore (p : ReachIn)
  /-- REACH_ATOMIC (R330). A Reach ATOMIC is applied through the gate die. -/
  | reachAtomic (p : ReachIn) (env : MemEnv)
  /-- STAGE_WRITE (R347). A Reach STAGE_WRITE writes image bytes into the incoming staging half. -/
  | stageWrite (p : ReachIn)
  /-- STAGE_LOAD (R347). A Reach STAGE_LOAD runs the loader checks and replies with the load status. -/
  | stageLoad (p : ReachIn) (ue : Option StagedUe)
  /-- REFUSED_REPLY (R326). 2 µs after a refused request, the STATUS REFUSED reply leaves. -/
  | refusedReply (g : Fin 2)
  /-- LOAD_REPLY (R319). A LOAD_REPLY writes its data into the source's local region and frees the slot. -/
  | loadReply (p : ReachIn)
  /-- REACH_ACK (R334). A Reach ACK completes the SEQ values that it covers. -/
  | reachAck (p : ReachIn)
  /-- ATOMIC_REPLY (R316). An ATOMIC_REPLY completes a returning atomic. -/
  | atomicReply (p : ReachIn)
  /-- FETCH_MISSING (R336). A FETCH_MISSING reply makes the source resend the packets it shows missing. -/
  | fetchMissing (p : ReachIn)
  /-- REACH_STATUS (R332). A STATUS reply at the source: BUSY resends later; REFUSED or ERROR fails or recovers the step. -/
  | reachStatus (p : ReachIn)
  /-- REACH_RESEND_TIMER (R336). A request without ACK or reply is resent after 2 × FENCE_US. -/
  | reachResendTimer (engine : Fin 32) (peer : Fin 2048) (seq : BitVec 32)
  /-- FENCE_TIMEOUT (R342). A flag held past FENCE_US sends FETCH_MISSING, repeated every FENCE_US. -/
  | fenceTimeout (g : Fin 2) (plaza : PlazaNo) (index : BitVec 16)
  /-- REPLY_STORE_EXPIRY (R335). A stored atomic reply leaves the store 10 ms after it was written. -/
  | replyStoreExpiry (g : Fin 2) (src : Fin 2048) (engine : BitVec 8) (seq : BitVec 32)
  /-- COMBINE_WINDOW_END (R345). 2 µs after the first of identical passing requests, combining closes and the request is forwarded. -/
  | combineWindowEnd (g : Fin 2) (dst : Fin 2048) (region : Nat) (offset : Nat)
  /-- KEY_UNWRAP (R446). A wrapped key reaches a die; a second unwrap failure faults the package. -/
  | keyUnwrap (p : PlazaNo) (ok : Bool)
  /-- GET_INFO (R481). Mews request that returns identity, state and BOOT. -/
  | getInfo (m : MewsReq)
  /-- ATTEST (R449). Mews request carrying a HELLO that returns a signed report. -/
  | attest (m : MewsReq)
  /-- CERT_CHAIN (R481). Mews request that returns part of the device certificate chain. -/
  | certChain (m : MewsReq)
  /-- REG_READ (R484). Mews request that returns up to 64 registers using private select values. -/
  | regRead (m : MewsReq)
  /-- EVENT_READ (R486). Mews request that returns up to 64 event records from a given SEQ. -/
  | eventRead (m : MewsReq)
  /-- EVENT_ACK (R486). Mews request that sets the Mews tail of the event ring. -/
  | eventAck (m : MewsReq)
  /-- MAP_READ (R481). Mews request that returns bytes of a congestion map. -/
  | mapRead (m : MewsReq)
  /-- MAP_ACK (R246). Mews request that acknowledges a congestion map. -/
  | mapAck (m : MewsReq)
  /-- HOST_COMMAND (R365). Mews request that runs a command-block opcode. -/
  | hostCommand (m : MewsReq)
  /-- MEWS_STAGE_WRITE (R192). Mews STAGE_WRITE writes bytes into the incoming staging half. -/
  | mewsStageWrite (m : MewsReq)
  /-- TIME_SOURCE (R481). Mews request to use SYNC_IO as PPS input until the next load. -/
  | timeSource (m : MewsReq)
  /-- FREQ_SET (R421). Mews request that writes one shallot's frequency target. -/
  | freqSet (m : MewsReq)
  /-- CONDUCTOR_RESET (R392). Mews request that releases a LOCKED_OUT conductor. -/
  | conductorReset (m : MewsReq)
  /-- FIELD_TEST (R502). Mews request that runs the interconnect test and loopback in IDLE. -/
  | fieldTest (m : MewsReq) (wires : List WireTest) (waves : List WaveRef)
  /-- MGMT_NET_SET (R476). Mews request that adds or removes a Mews IPv6 address. -/
  | mgmtNetSet (m : MewsReq)
  /-- FW_WRITE (R499). Mews request that writes bytes into the firmware buffer. -/
  | fwWrite (m : MewsReq)
  /-- FW_COMMIT (R499). Mews request that verifies the buffered firmware and starts storing it. -/
  | fwCommit (m : MewsReq)
  /-- PACKAGE_RESET (R494). Mews RESET with KIND 0 resets every die. -/
  | packageReset (m : MewsReq)
  /-- PLAZA_RESET (R496). Mews RESET with KIND 1 sweeps, unloads and resets one gate die or gateway. -/
  | plazaReset (m : MewsReq)
  /-- PLAZA_RESET_DONE (R496). The reset plaza has trained, FREEZE clears and EV_PKG_RESET is raised. -/
  | plazaResetDone (pcUp : BitVec 7)
  /-- SHALLOT_RESET (R497). Mews RESET with KIND 2 resets one shallot pair. -/
  | shallotReset (m : MewsReq)
  /-- SHALLOT_RESET_DONE (R497). The shallot pair has reset, trained and passed its self-test. -/
  | shallotResetDone (sh : Fin 8) (fails : List BistFail)
  /-- CRED_SET (R479). Signed Mews request that installs, replaces or removes a credential slot. -/
  | credSet (m : MewsReq)
  /-- CHANGE_SUBMIT (R470). One signature of a two-party change, held as pending or applied on quorum. -/
  | changeSubmit (m : MewsReq)
  /-- MEWS_MESSAGE_TIMEOUT (R477). A message whose next packet does not arrive within 100 ms is discarded. -/
  | mewsMessageTimeout (port : Fin 2) (tag : Fin 8)
  /-- SET_ENDPOINT_ID (R477). MCTP control message that sets the endpoint ID. -/
  | setEndpointId (port : Fin 2) (op : BitVec 2) (eid : BitVec 8)
  /-- GET_ENDPOINT_ID (R477). MCTP control message that returns the endpoint ID. -/
  | getEndpointId (port : Fin 2)
  /-- GET_MCTP_VERSION_SUPPORT (R477). MCTP control message that returns the supported MCTP versions. -/
  | getMctpVersionSupport (port : Fin 2) (type : BitVec 8)
  /-- GET_MESSAGE_TYPE_SUPPORT (R477). MCTP control message that returns the supported message types. -/
  | getMessageTypeSupport (port : Fin 2)
  /-- GET_VENDOR_DEFINED_MESSAGE_SUPPORT (R477). MCTP control message that returns vendor-defined message support. -/
  | getVendorDefinedMessageSupport (port : Fin 2) (selector : BitVec 8)
  /-- BRINGUP_PHASE_END (R489). A power-up phase ends, and the next phase starts or IDLE is reached. -/
  | bringupPhaseEnd (p : PhaseEnd)
  /-- VDD_AON_LOSS (R488). The always-on rails VDD_AON or VDD_IO leave tolerance, the management die stops, and the package falls to OFF. -/
  | vddAonLoss (io : Bool)
  /-- HELD_ROW_TRANSFER_DONE (R122). A ROW transfer carried on the private channel, or a wide two-row transfer, completes after its held beats, and the shallot issues its next bundle. -/
  | heldRowTransferDone (sh : Fin 8)
  /-- DUTY_FRAME_BOUNDARY (R427). Within each 64-period frame, a shallot with a pause duty d enters PAUSED after 64 − d periods and leaves PAUSED at the frame's end. -/
  | dutyFrameBoundary (sh : Fin 8)
  /-- JOURNAL_EXPORT_DONE (R376). The copy of a journal range into host memory completes and EXPORT_JOURNAL ends. -/
  | journalExportDone (env : MemEnv)
  /-- UNKNOWN_COMMAND (R367). A CMD_GO write or Mews request that carries an opcode outside the command set is answered ST_UNKNOWN_COMMAND with no effect. -/
  | unknownCommand (c : UnknownCmd)
  /-- I3C_ADDRESS_ASSIGNED (R476). The I3C controller assigns a dynamic address, and Mews leaves the SMBus fall-back for I3C. -/
  | i3cAddressAssigned (addr : BitVec 7)
  /-- PERST_DEASSERT (R352). Deassertion of PERST#, which starts function readiness or wakes a PARKED package. -/
  | perstDeassert
  /-- FUNCTION_READY (R352). The PCI Express function stops answering retry and serves configuration requests. -/
  | functionReady
  /-- PCIE_LINK_DOWN (R353). The host link goes down, which resets the function only, makes window transfers wait and raises EV_HOST_LINK_DOWN. -/
  | pcieLinkDown
  /-- D3HOT_ENTRY (R353). D3hot stops the function's own requests and leaves the package running. -/
  | d3hotEntry
  /-- MAP_COMPLETE (R246). At each 1 ms, a congestion map is completed into MAP0 or MAP1. -/
  | mapComplete
  /-- FORCED_RECESS_WAIT_END (R175). The wait for flits in flight ends when the streets are empty or after 10 µs. -/
  | forcedRecessWaitEnd
  /-- RECESS_WORK_DONE (R176). The last piece of recess work reports done, and the shallots resume. -/
  | recessWorkDone
  /-- JOURNAL_STALL_RESUME (R181). A record waiting under STALL is written once JOURNAL_TAIL leaves room. -/
  | journalStallResume
  /-- COMMIT_COMPLETE (R164). After the window pushes, releases leave, the checkpoint is released and the step counters advance. -/
  | commitComplete
  /-- RESTORE_DONE (R167). Every touched plaza completes its checkpoint restore, and the next execution may start. -/
  | restoreDone
  /-- PACKAGE_READY (R171). The package becomes ready for the next step and sends READY to the domain. -/
  | packageReady
  /-- READY_RESEND (R171). READY is sent again every 20 µs until the step starts. -/
  | readyResend
  /-- DOMAIN_WAIT_TIMER (R172). Every 10 ms of an incomplete READY set raises EV_PKG_DOMAIN_WAIT. -/
  | domainWaitTimer
  /-- SYNC_IO_RISE (R173). A rise of the external barrier line starts the next step 1 µs later. -/
  | syncIoRise
  /-- PPS_EDGE (R297). A rising edge of SYNC_IO under PPS_IN aligns the time base. -/
  | ppsEdge
  /-- HEARTBEAT_CHECK (R387). At the heartbeat deadline, the umpire decides which conductor, if any, has failed. -/
  | heartbeatCheck
  /-- SWITCHOVER_COMPLETE (R388). The last stage acknowledges, and the new active is marked ACTIVE. -/
  | switchoverComplete
  /-- UMPIRE_TICK (R390). The umpire's tick reaches the conductors every 10 µs. -/
  | umpireTick
  /-- TICK_TIMEOUT (R390). No tick for 100 µs sets UMPIRE_LOST. -/
  | tickTimeout
  /-- BOND_LOG_RETRY (R402). A repair-log write refused by temperature is tried again every 1 s. -/
  | bondLogRetry
  /-- WAKE_TICK (R430). Every 100 ns the wake buckets refill and due wakes are served or deferred. -/
  | wakeTick
  /-- ROTATE_DONE (R461). Once the walker is finished and no read is in flight, the old epoch slot is destroyed. -/
  | rotateDone
  /-- PTP_LOST (R315). Loss of the time transmitter for 1 s raises EV_NET_PTP_LOST. -/
  | ptpLost
  /-- OFFER_EXPIRY (R450). An offer becomes invalid 60 s after its report. -/
  | offerExpiry
  /-- TRNG_HEALTH_FAIL (R445). A failed generator health test stops key making and faults the package. -/
  | trngHealthFail
  /-- QUORUM_LAPSE (R471). A pending two-party change lapses 600 s after its first signature. -/
  | quorumLapse
  /-- EVENT_IRQ_TIMER (R487). At the end of a 10 µs hold-off, a pending event interrupt is signalled. -/
  | eventIrqTimer
  /-- FW_BLOCK_WRITE (R499). One 1 MiB block of the firmware store is written when the temperature window is open. -/
  | fwBlockWrite
  /-- VDD_AON_UP (R489). The always-on rails come within tolerance for 10 ms, and power-up starts. -/
  | vddAonUp
  /-- PKG_RST_ASSERT (R494). PKG_RST# held low for 1 µs or more resets the whole package. -/
  | pkgRstAssert
  /-- PERST_ASSERT (R353). Assertion of PERST# resets only the PCI Express function and the RW registers of HOSTIF. -/
  | perstAssert
  /-- PCIE_HOT_RESET (R353). A hot reset on the link resets only the PCI Express function and the RW registers of HOSTIF. -/
  | pcieHotReset
  /-- PKG_RST_RELEASE (R494). PKG_RST# returns high after a package reset, and bring-up toward IDLE starts, bounded at 6 s from the release. -/
  | pkgRstRelease
  /-- PARK_COMPLETE (R491). The reverse bring-up of PARK ends, PKG_PWR_REQ falls and the package reaches PARKED within 500 ms. -/
  | parkComplete
  /-- NV_WRITE_DONE (R440). A started non-volatile write of fuses, repair log, XMSS state or lamp P0 completes within 50 ms, and the command or state that waited on it goes on. -/
  | nvWriteDone
  /-- D3HOT_EXIT (R353). The function returns from D3hot to D0 and resumes its own requests, so waiting window transfers can go on. -/
  | d3hotExit
deriving DecidableEq, Repr

end Sys2Proof
end

