-- ==== Sys2Proof/Decode.lean ====
section
/-! DEFINITION. Words of the opcode table. No row of spec/opcode_table.json gives a command bits: the commands are operations of the
package, not words of an instruction memory, so no table word spells one. The bundles of the pods, which are words of a store, are read
in Machine/Bundle.lean. -/
namespace Sys2Proof

/-- The command that a word of the opcode table spells: none, as no row gives bits. -/
def decodeTableWord (_nbits _w : Nat) : Option Instr := none

end Sys2Proof
end

