-- ==== Sys2Proof/Machine/Tbl.lean ====
section
/-! DEFINITION. Numbered files of like things, and byte memories. A table holds its entries by number; a number
that is not listed holds the default of its type, which is the reset value of such an entry. -/
namespace Sys2Proof.Machine

/-- A file of like things by number: registers, rows, units. An unlisted number holds `default`, the reset value.
Canonical form (`Tbl.wf`): numbers strictly rising, no entry equal to the default. -/
structure Tbl (α : Type) where
  cells : List (Nat × α) := []
deriving DecidableEq, Repr, Inhabited

variable {α : Type}

/-- The first value listed under number `k`. -/
def cellsFind : List (Nat × α) → Nat → Option α
  | [], _ => none
  | (j, v) :: l, k => if j = k then some v else cellsFind l k

/-- Insert or replace at number `k`, keeping the numbers rising. -/
def cellsIns : List (Nat × α) → Nat → α → List (Nat × α)
  | [], k, v => [(k, v)]
  | (j, w) :: l, k, v =>
    if k < j then (k, v) :: (j, w) :: l
    else if j = k then (k, v) :: l
    else (j, w) :: cellsIns l k v

/-- Remove number `k`. -/
def cellsDel : List (Nat × α) → Nat → List (Nat × α)
  | [], _ => []
  | (j, w) :: l, k => if j = k then cellsDel l k else (j, w) :: cellsDel l k

/-- Are the numbers strictly rising, all above `lo` where given? -/
def cellsRising : List (Nat × α) → Bool
  | [] => true
  | [_] => true
  | (i, _) :: (j, w) :: l => decide (i < j) && cellsRising ((j, w) :: l)

/-- Entry `k` of the table. -/
def Tbl.get [Inhabited α] (t : Tbl α) (k : Nat) : α := (cellsFind t.cells k).getD default

/-- The table with entry `k` set to `v`; setting the default removes the entry, so equal contents are equal data. -/
def Tbl.set [Inhabited α] [DecidableEq α] (t : Tbl α) (k : Nat) (v : α) : Tbl α :=
  if v = default then ⟨cellsDel t.cells k⟩ else ⟨cellsIns t.cells k v⟩

/-- The table with entry `k` changed by `f`. -/
def Tbl.mod [Inhabited α] [DecidableEq α] (t : Tbl α) (k : Nat) (f : α → α) : Tbl α := t.set k (f (t.get k))

/-- The listed numbers. -/
def Tbl.keys (t : Tbl α) : List Nat := t.cells.map Prod.fst

/-- The table with `f` applied to each listed entry, kept canonical. -/
def Tbl.mapAll [Inhabited α] [DecidableEq α] (t : Tbl α) (f : Nat → α → α) : Tbl α :=
  ⟨(t.cells.map (fun p => (p.1, f p.1 p.2))).filter (fun p => decide (p.2 ≠ default))⟩

/-- Canonical form of a table. -/
def Tbl.wf [Inhabited α] [DecidableEq α] (t : Tbl α) : Bool :=
  cellsRising t.cells && t.cells.all (fun p => decide (p.2 ≠ default))

/-- Set a run of entries from `k` onward. -/
def Tbl.setRun [Inhabited α] [DecidableEq α] (t : Tbl α) (k : Nat) : List α → Tbl α
  | [] => t
  | v :: vs => (t.set k v).setRun (k + 1) vs

/-- The `n` entries from `k` onward. -/
def Tbl.getRun [Inhabited α] (t : Tbl α) (k : Nat) : Nat → List α
  | 0 => []
  | n + 1 => t.get k :: t.getRun (k + 1) n

end Sys2Proof.Machine
end

