-- ==== Sys2Proof/Machine/Bits.lean ====
section
/-! DEFINITION. Bit fields, signs, clamps, counts and byte orders: the small helpers that every family uses (R6, R8, R42). -/
namespace Sys2Proof.Machine

/-- `n` bits of `x` from bit `lo` up, as a number (R6). -/
def bitsOf (x lo n : Nat) : Nat := (x >>> lo) % (2 ^ n)

/-- The two's-complement value of the low `w` bits of `n`. -/
def sInt (w n : Nat) : Int :=
  if bitsOf n 0 w < 2 ^ (w - 1) then (bitsOf n 0 w : Int) else (bitsOf n 0 w : Int) - ((2 ^ w : Nat) : Int)

/-- The low `w` bits of a two's-complement integer, as a number. -/
def uOf (w : Nat) (i : Int) : Nat := (i % ((2 ^ w : Nat) : Int)).toNat

/-- Two to the power `n` as an integer. -/
def p2 (n : Nat) : Int := ((2 ^ n : Nat) : Int)

/-- Clamp into `lo` to `hi`. -/
def clampI (lo hi x : Int) : Int := if x < lo then lo else if hi < x then hi else x

/-- `bitlen`: the number of bits of a natural number, with bitlen(0) = 0 (R81). -/
def bitlen (n : Nat) : Nat := if n = 0 then 0 else Nat.log2 n + 1

/-- One bit of a number. -/
def bitAt (x i : Nat) : Bool := bitsOf x i 1 == 1

/-- A number with bit `i` set. -/
def setBit (x i : Nat) : Nat := if bitAt x i then x else x + 2 ^ i

/-- A number with bit `i` cleared. -/
def clrBit (x i : Nat) : Nat := if bitAt x i then x - 2 ^ i else x

/-- The number with `n` bits from `lo` replaced by `v`. -/
def setBits (x lo n v : Nat) : Nat := x - (bitsOf x lo n) * 2 ^ lo + (v % 2 ^ n) * 2 ^ lo

/-- Bool as a number. -/
def b2n (b : Bool) : Nat := if b then 1 else 0

/-- The numbers 0 to n − 1, rising. -/
def upto (n : Nat) : List Nat := List.range n

/-- The numbers k to k + n − 1, rising. -/
def fromN (k : Nat) : Nat → List Nat
  | 0 => []
  | n + 1 => k :: fromN (k + 1) n

/-- A 32-bit count raised by `n`, saturating at 0xFFFF_FFFF (R96, R125, R188). -/
def satAdd (c : Word) (n : Nat) : Word := BitVec.ofNat 32 (min (c.toNat + n) 0xFFFFFFFF)

/-- The low half of a 64-bit value. -/
def lo32 (x : Word64) : Word := x.setWidth 32
/-- The high half of a 64-bit value. -/
def hi32 (x : Word64) : Word := (x >>> 32).setWidth 32
/-- A 64-bit value from two halves. -/
def join32 (hi lo : Word) : Word64 := (hi.setWidth 64 <<< 32) ||| lo.setWidth 64

/-- Little-endian bytes of the low 8·n bits of a number. -/
def leBytes : Nat → Nat → List Byte
  | 0, _ => []
  | n + 1, x => BitVec.ofNat 8 x :: leBytes n (x / 256)

/-- The number that little-endian bytes spell. -/
def leVal : List Byte → Nat
  | [] => 0
  | b :: bs => b.toNat + 256 * leVal bs

/-- Padded with zero bytes to a multiple of `m`. -/
def padTo (m : Nat) (bs : List Byte) : List Byte :=
  bs ++ List.replicate ((m - bs.length % m) % m) 0

/-- Ceiling division. -/
def cdiv (a b : Nat) : Nat := (a + b - 1) / b

/-- Split into pieces of `n` (with fuel from the length). -/
def chunksGo {α : Type} (n : Nat) : Nat → List α → List (List α)
  | 0, _ => []
  | _ + 1, [] => []
  | f + 1, l => l.take n :: chunksGo n f (l.drop n)

/-- Split into pieces of `n`, the last one perhaps shorter. -/
def chunks {α : Type} (n : Nat) (l : List α) : List (List α) := chunksGo n l.length l

/-- The least number of a list, or the default of none. -/
def minOf (d : Nat) : List Nat → Nat
  | [] => d
  | x :: xs => min x (minOf x xs)

/-- The largest number of a list, 0 for none. -/
def maxOf : List Nat → Nat
  | [] => 0
  | x :: xs => max x (maxOf xs)

/-- The sum of a list of integers. -/
def sumI : List Int → Int
  | [] => 0
  | x :: xs => x + sumI xs

/-! ### Rows (R42) -/

/-- Element `k` of `w` bits of a row, as an unsigned number (R42). -/
def rowU (w k : Nat) (r : Row) : Nat := bitsOf r.toNat (k * w) w

/-- Element `k` of `w` bits of a row, two's complement (R42). -/
def rowS (w k : Nat) (r : Row) : Int := sInt w (rowU w k r)

/-- The number whose elements 0 to n − 1 of `w` bits are `f 0` to `f (n − 1)` (R42). -/
def packN (w : Nat) (f : Nat → Nat) : Nat → Nat
  | 0 => 0
  | n + 1 => packN w f n + (f n % 2 ^ w) * 2 ^ (n * w)

/-- A row whose first `n` elements of `w` bits are `f 0` to `f (n − 1)`, the rest zero (R42, R46). -/
def rowOf (w n : Nat) (f : Nat → Nat) : Row := BitVec.ofNat 4096 (packN w f n)

/-- Byte `i` of a row. -/
def rowByte (i : Nat) (r : Row) : Byte := BitVec.ofNat 8 (rowU 8 i r)

/-- The row with `n` bits from bit `lo` replaced by `v`. -/
def rowPut (r : Row) (lo n v : Nat) : Row :=
  (r &&& ~~~ (BitVec.ofNat 4096 ((2 ^ n - 1) * 2 ^ lo))) ||| BitVec.ofNat 4096 ((v % 2 ^ n) * 2 ^ lo)

/-- The row that keeps `old` outside `mask` and takes `new` inside it. -/
def rowMerge (old new mask : Row) : Row := (old &&& ~~~ mask) ||| (new &&& mask)

/-- A row from its bytes, byte 0 first; missing bytes read zero. -/
def rowOfBytes (bs : List Byte) : Row := BitVec.ofNat 4096 (leVal (bs.take 512))

/-- The 512 bytes of a row. -/
def rowBytes (r : Row) : List Byte := leBytes 512 r.toNat

end Sys2Proof.Machine
end

