-- ==== Sys2Proof/Machine/Codes.lean ====
section
/-! DEFINITION. Check codes, the PRBS-31 sequence and SHAKE256. The CRC-16, CRC-64, CRC-8 and PRBS-31 follow the polynomials
that the spec prints (R216, R386, R431); CRC-32C and SHAKE256 are named by the spec and taken from their standards
(PRESUMED, log 7). -/
namespace Sys2Proof.Machine

/-- The bits of a byte, most significant first. -/
def byteBitsMsb (b : Byte) : List Bool := (upto 8).map (fun i => bitAt b.toNat (7 - i))

/-- The bits of the low `n` bits of a number, most significant first. -/
def natBitsMsb (n x : Nat) : List Bool := (upto n).map (fun i => bitAt x (n - 1 - i))

/-- One bit into a most-significant-first CRC of width `w`. -/
def crcBit (w poly : Nat) (c : Nat) (b : Bool) : Nat :=
  if (bitAt c (w - 1)) != b then ((c * 2) % 2 ^ w) ^^^ poly else (c * 2) % 2 ^ w

/-- A CRC without reflection and without a final XOR, most significant bit first. -/
def crcMsb (w poly init : Nat) (bits : List Bool) : Nat := bits.foldl (crcBit w poly) init

/-- CRC-16 of a flit: polynomial 0x8BB7, initial value 0xFFFF (R216). -/
def crc16 (bits : List Bool) : BitVec 16 := BitVec.ofNat 16 (crcMsb 16 0x8BB7 0xFFFF bits)

/-- CRC-64 of R386: polynomial 0x42F0_E1EB_A9EA_3693, initial value 0. -/
def crc64 (bits : List Bool) : Word64 := BitVec.ofNat 64 (crcMsb 64 0x42F0E1EBA9EA3693 0 bits)

/-- CRC-8 of R431: polynomial 0x07, initial value 0. -/
def crc8 (bits : List Bool) : BitVec 8 := BitVec.ofNat 8 (crcMsb 8 0x07 0 bits)

/-- One byte into CRC-32C (reflected, polynomial 0x1EDC_6F41). -/
def crc32cByte (c : Nat) (b : Byte) : Nat :=
  (upto 8).foldl (fun x _ => if bitAt x 0 then (x / 2) ^^^ 0x82F63B78 else x / 2) (c ^^^ b.toNat)

/-- CRC-32C of a byte string (R178, R321, R485). -/
def crc32c (bs : List Byte) : Word := BitVec.ofNat 32 ((bs.foldl crc32cByte 0xFFFFFFFF) ^^^ 0xFFFFFFFF)

/-- PRBS-31 (x^31 + x^28 + 1): the next `n` bits from a 31-bit state, first bit first, and the state after them. -/
def prbs31 : Nat → Nat → List Bool × Nat
  | 0, s => ([], s)
  | n + 1, s =>
    let b := (bitAt s 30) != (bitAt s 27)
    let r := prbs31 n ((s * 2 + b2n b) % 2 ^ 31)
    (b :: r.1, r.2)

/-! ### SHAKE256 (FIPS 202) -/

/-- The rotation offset of lane x + 5y of Keccak-f[1600]. -/
def keccakRot : List Nat :=
  [0, 1, 62, 28, 27, 36, 44, 6, 55, 20, 3, 10, 43, 25, 39, 41, 45, 15, 21, 8, 18, 2, 61, 56, 14]

/-- The round constants of Keccak-f[1600]. -/
def keccakRc : List Nat :=
  [0x0000000000000001, 0x0000000000008082, 0x800000000000808A, 0x8000000080008000, 0x000000000000808B,
   0x0000000080000001, 0x8000000080008081, 0x8000000000008009, 0x000000000000008A, 0x0000000000000088,
   0x0000000080008009, 0x000000008000000A] ++
  [0x000000008000808B, 0x800000000000008B, 0x8000000000008089, 0x8000000000008003, 0x8000000000008002,
   0x8000000000000080, 0x000000000000800A, 0x800000008000000A, 0x8000000080008081, 0x8000000000008080,
   0x0000000080000001, 0x8000000080008008]

/-- Rotation of a 64-bit lane to the left. -/
def rotl64 (x n : Nat) : Nat := ((x * 2 ^ n) % 2 ^ 64) ||| (x / 2 ^ (64 - n))

/-- Lane x, y of the state. -/
def kLane (a : List Nat) (x y : Nat) : Nat := (a[(x % 5) + 5 * (y % 5)]?).getD 0

/-- The column parity of theta. -/
def kCol (a : List Nat) (x : Nat) : Nat := kLane a x 0 ^^^ kLane a x 1 ^^^ kLane a x 2 ^^^ kLane a x 3 ^^^ kLane a x 4

/-- Theta. -/
def kTheta (a : List Nat) : List Nat :=
  let c := (upto 5).map (kCol a)
  let d := (upto 5).map (fun x => c.getD ((x + 4) % 5) 0 ^^^ rotl64 (c.getD ((x + 1) % 5) 0) 1)
  (upto 25).map (fun i => (a[i]?).getD 0 ^^^ (d[i % 5]?).getD 0)

/-- Rho and pi: lane (x, y) of the result comes from lane (x + 3y, x). -/
def kRhoPi (a : List Nat) : List Nat :=
  (upto 25).map (fun i =>
    let j := (i % 5 + 3 * (i / 5)) % 5 + 5 * (i % 5)
    rotl64 ((a[j]?).getD 0) ((keccakRot[j]?).getD 0))

/-- Chi. -/
def kChi (a : List Nat) : List Nat :=
  (upto 25).map (fun i =>
    let x := i % 5
    let y := i / 5
    kLane a x y ^^^ ((kLane a (x + 1) y ^^^ (2 ^ 64 - 1)) &&& kLane a (x + 2) y))

/-- One round. -/
def keccakRound (a : List Nat) (rc : Nat) : List Nat :=
  match kChi (kRhoPi (kTheta a)) with
  | [] => []
  | l :: ls => (l ^^^ rc) :: ls

/-- Keccak-f[1600]. -/
def keccakF (a : List Nat) : List Nat := keccakRc.foldl keccakRound a

/-- XOR one block of 136 bytes into the state. -/
def kAbsorb (a : List Nat) (block : List Byte) : List Nat :=
  let ls := (chunks 8 block).map leVal
  keccakF ((upto 25).map (fun i => (a[i]?).getD 0 ^^^ (ls[i]?).getD 0))

/-- The padded message of SHAKE256: suffix 0x1F, then zeros, then 0x80 in the last byte of the block. -/
def shakePad (m : List Byte) : List Byte :=
  let n := 136 - m.length % 136
  if n = 1 then m ++ [0x9F] else m ++ [0x1F] ++ List.replicate (n - 2) 0 ++ [0x80]

/-- Squeeze blocks of 136 bytes. -/
def kSqueeze : Nat → List Nat → List Byte
  | 0, _ => []
  | n + 1, a => ((a.take 17).flatMap (leBytes 8)) ++ kSqueeze n (keccakF a)

/-- SHAKE256 with `n` bytes of output. -/
def shake256 (n : Nat) (m : List Byte) : List Byte :=
  (kSqueeze (cdiv n 136) ((chunks 136 (shakePad m)).foldl kAbsorb (List.replicate 25 0))).take n

/-- SHAKE256 with 32 bytes of output, as a little-endian number. -/
def shakeDigest (m : List Byte) : Digest := BitVec.ofNat 256 (leVal (shake256 32 m))

/-- The bytes of an ASCII text. -/
def ascii (t : String) : List Byte := t.toList.map (fun c => BitVec.ofNat 8 c.toNat)

/-- The bytes of a 256-bit digest or key, byte 0 first. -/
def digestBytes (d : Digest) : List Byte := leBytes 32 d.toNat

end Sys2Proof.Machine
end

