-- ==== Sys2Proof/Config.lean ====
section
/-! DEFINITION. What the spec leaves open, as constants with no body: nothing in Lean can evaluate them or prove a
value of them, so every statement holds for every value. Each is named in a row of notes/assumptions. -/
namespace Sys2Proof.Config

/-! ### Values that no rule fixes (free values, by the counter `State.free` and a place) -/

/-- A row that nothing has defined: a row buffer, bank part or landing slot read before the step wrote it (R98). -/
opaque freeRow : Nat → Nat → BitVec 4096
/-- A number that no rule fixes, by the free-value counter and a place. -/
opaque freeNat : Nat → Nat → Nat
/-- A byte of HBM that nothing has written, or whose key was destroyed (R288, R519). -/
opaque freeByte : Nat → Nat → BitVec 8

/-- The street-local wavelength that line `j` of a lane of a plaza carries (R214): destination × 64 + wavelength. The light paths
are fixed, and the spec does not print the map. -/
opaque lightPath : Nat → Nat → Nat → Nat

/-- The modulator ring of a street-local wavelength at its source plaza: 16 × lane + line (R214). The spec does not print the map. -/
opaque waveRing : Nat → Nat → Nat → Nat

/-- The filter ring of a street-local wavelength at its destination plaza: 16 × lane + line (R214). The spec does not print the map. -/
opaque waveFilter : Nat → Nat → Nat → Nat

/-- The feed, 3 × bank + feed number, that lights a transmit lane of a plaza (R251). The map is fixed at manufacture, and the spec does
not print it. -/
opaque laneFeed : Nat → Nat → Nat

/-- The wavelength that half-group 0 or 1 of an interface group carries (R226): plaza, direction (1 inbound), group, half ↦ (source × 32 +
destination) × 64 + street-local wavelength. The map is fixed, and the spec does not print it. -/
opaque halfWave : Nat → Nat → Nat → Nat → Nat

/-! ### Random draws (R444): the generator's output by the number of the draw -/

/-- A 256-bit draw of the random generators. -/
opaque trng : Nat → BitVec 256

/-! ### Function ROM contents (R138): coefficient `c` of segment `seg` of function `fn`, supplied by Baspor -/

/-- A ROM coefficient that the spec does not print. -/
opaque romCoef : Nat → Nat → Nat → BitVec 32

/-! ### Cryptographic primitives, named by the spec and not defined in it -/

/-- AES-256-XTS encryption of a 64-byte unit: key draw number, tweak, plaintext. -/
opaque xts : Nat → Nat → List (BitVec 8) → List (BitVec 8)
/-- AES-256-GCM counter mode: key, nonce, bytes; the same function turns plaintext to ciphertext and back. -/
opaque gcmCrypt : BitVec 256 → BitVec 96 → List (BitVec 8) → List (BitVec 8)
/-- AES-256-GCM authentication tag: key, nonce, associated data, ciphertext. -/
opaque gcmTag : BitVec 256 → BitVec 96 → List (BitVec 8) → List (BitVec 8) → BitVec 128
/-- The bytes of a tag, the first one first. -/
def tagBytes (t : BitVec 128) : List (BitVec 8) := (List.range 16).map (fun i => (t >>> (8 * i)).setWidth 8)
/-- AES-256-GCM sealing: key, nonce, associated data, plaintext; ciphertext followed by the 16-byte tag. -/
def gcmSeal (k : BitVec 256) (n : BitVec 96) (aad p : List (BitVec 8)) : List (BitVec 8) :=
  gcmCrypt k n p ++ tagBytes (gcmTag k n aad (gcmCrypt k n p))
/-- AES-256-GCM opening: key, nonce, associated data, ciphertext with tag; none when the tag fails. -/
def gcmOpen (k : BitVec 256) (n : BitVec 96) (aad c : List (BitVec 8)) : Option (List (BitVec 8)) :=
  let ct := c.take (c.length - 16)
  if c.drop (c.length - 16) = tagBytes (gcmTag k n aad ct) then some (gcmCrypt k n ct) else none
/-- XMSS verification: public key, message digest, signature. -/
opaque xmssVerify : List (BitVec 8) → BitVec 256 → List (BitVec 8) → Bool
/-- XMSS^MT signing by the device identity key (R448): number of the key's renewals, index, message. -/
opaque xmssSign : Nat → Nat → List (BitVec 8) → List (BitVec 8)
/-- KMAC256 (NIST SP 800-185) giving 16 bytes: key, customisation string, input (R479). -/
opaque kmac : BitVec 256 → List (BitVec 8) → List (BitVec 8) → BitVec 128
/-- The public root of the device identity key, by the number of its renewals (R448, R470, R480). -/
opaque devRoot : Nat → List (BitVec 8)
/-- The maker's public keys by index (R480, R498). -/
opaque makerKey : Nat → List (BitVec 8)
/-- ML-KEM encapsulation key of the key pair with the given draw number. -/
opaque kemPublic : Nat → List (BitVec 8)
/-- ML-KEM decapsulation by the key pair with the given draw number. -/
opaque kemDecap : Nat → List (BitVec 8) → BitVec 256
/-- Baspor's PCI-SIG vendor identifier (R351, R477), which the spec does not print. -/
opaque vendorId : BitVec 16
/-- The device certificate chain, by the number of the key's renewals (R448). -/
opaque certChain : Nat → List (BitVec 8)

end Sys2Proof.Config
end

