-- ==== Sys2Proof/Machine/Operands.lean ====
section
/-! DEFINITION. Number formats and shared scales (chapter 02): the element operand forms, the ranges, the scale bytes,
the descriptor fields and the exact conversions. -/
namespace Sys2Proof.Machine

/-- The fifteen number formats (R29). -/
inductive Fmt where
  | t2 | i4 | u4 | i8 | u8 | i16 | i32 | qb4 | qb6 | qb8 | qb16 | qm8 | a32 | a96 | a192
deriving DecidableEq, Repr, Inhabited

/-- The format of a 4-bit code; 0xF is reserved (R29). -/
def Fmt.ofCode : Nat → Option Fmt
  | 0 => some .t2 | 1 => some .i4 | 2 => some .u4 | 3 => some .i8 | 4 => some .u8 | 5 => some .i16 | 6 => some .i32
  | 7 => some .qb4 | 8 => some .qb6 | 9 => some .qb8 | 10 => some .qb16 | 11 => some .qm8
  | 12 => some .a32 | 13 => some .a96 | 14 => some .a192 | _ => none

/-- Element width in a row, slots included: A96 in 128 bits and A192 in 256 (R29, R46). -/
def Fmt.width : Fmt → Nat
  | .t2 => 2 | .i4 => 4 | .u4 => 4 | .i8 => 8 | .u8 => 8 | .i16 => 16 | .i32 => 32
  | .qb4 => 4 | .qb6 => 6 | .qb8 => 8 | .qb16 => 16 | .qm8 => 8 | .a32 => 32 | .a96 => 128 | .a192 => 256

/-- Elements per row (R43). -/
def Fmt.perRow : Fmt → Nat
  | .t2 => 2048 | .i4 => 1024 | .u4 => 1024 | .i8 => 512 | .u8 => 512 | .i16 => 256 | .i32 => 128
  | .qb4 => 1024 | .qb6 => 672 | .qb8 => 512 | .qb16 => 256 | .qm8 => 512 | .a32 => 128 | .a96 => 32 | .a192 => 16

/-- Blocks per row (R43); A192 has no whole block. -/
def Fmt.blocks (f : Fmt) : Nat := f.perRow / 32

/-- Block-scaled formats carry a scale byte per 32 elements (R29). -/
def Fmt.isBlock : Fmt → Bool
  | .qb4 | .qb6 | .qb8 | .qb16 | .qm8 => true
  | _ => false

/-- Accumulator formats never saturate (R33). -/
def Fmt.isAcc : Fmt → Bool
  | .a32 | .a96 | .a192 => true
  | _ => false

/-- Unsigned formats. -/
def Fmt.isUnsigned : Fmt → Bool
  | .u4 | .u8 => true
  | _ => false

/-- The smallest integer field of a format, with SYM applied (R33, R34). -/
def Fmt.minV (f : Fmt) (sym : Bool) : Int :=
  match f with
  | .t2 => -1 | .i4 => if sym then -7 else -8 | .u4 => 0 | .i8 => if sym then -127 else -128 | .u8 => 0
  | .i16 => -32768 | .i32 => -2147483648 | .qb4 => -8 | .qb6 => -32 | .qb8 => -128 | .qb16 => -32768 | .qm8 => -128
  | .a32 => -2147483648 | .a96 => - p2 95 | .a192 => - p2 191

/-- The largest integer field of a format (R33). -/
def Fmt.maxV : Fmt → Int
  | .t2 => 1 | .i4 => 7 | .u4 => 15 | .i8 => 127 | .u8 => 255 | .i16 => 32767 | .i32 => 2147483647
  | .qb4 => 7 | .qb6 => 31 | .qb8 => 127 | .qb16 => 32767 | .qm8 => 127
  | .a32 => 2147483647 | .a96 => p2 95 - 1 | .a192 => p2 191 - 1

/-- The T2 code that the package never writes (R31). -/
def t2Reserved (code : Nat) : Bool := code % 4 == 2

/-- The integer field that an element's bits denote; T2 0b10 reads as 0 (R30, R31). -/
def Fmt.decodeElem (f : Fmt) (bits : Nat) : Int :=
  match f with
  | .t2 => if bits % 4 == 1 then 1 else if bits % 4 == 3 then -1 else 0
  | .u4 => (bits % 16 : Nat) | .u8 => (bits % 256 : Nat)
  | .a96 => sInt 96 bits | .a192 => sInt 192 bits
  | g => sInt g.width bits

/-- The bits that an in-range integer field is written as (R29, R31, R46). -/
def Fmt.encodeElem (f : Fmt) (q : Int) : Nat :=
  match f with
  | .t2 => if q == 0 then 0 else if 0 < q then 1 else 3
  | .a96 => uOf 96 q | .a192 => uOf 192 q
  | g => uOf g.width q

/-- Element `k` of a row in a format (R42, R43). -/
def Fmt.elem (f : Fmt) (r : Row) (k : Nat) : Int := f.decodeElem (rowU f.width k r)

/-- A clamp by R33 and R34: the value written and whether it was clamped (counted by R35). -/
def Fmt.clamp (f : Fmt) (sym : Bool) (q : Int) : Int × Bool :=
  if q < f.minV sym then (f.minV sym, true) else if f.maxV < q then (f.maxV, true) else (q, false)

/-- The block exponent b of a scale byte; SPARE is ignored (R37). -/
def bexpOf (byte : Nat) : Int := sInt 6 byte

/-- The scale byte of block exponent b, with SPARE 0b00 (R37). -/
def scaleByteOf (b : Int) : Nat := uOf 6 b

/-! ### The tensor descriptor (R40) -/

/-- FMT. -/
def descFmtCode (d : Entry128) : Nat := bitsOf d.toNat 0 4
/-- The format named; the reserved code never loads (R29) and is read as T2. -/
def descFmt (d : Entry128) : Fmt := (Fmt.ofCode (descFmtCode d)).getD .t2
/-- SYM. -/
def descSym (d : Entry128) : Bool := bitAt d.toNat 4
/-- WIN, the A96 window position. -/
def descWin (d : Entry128) : Nat := bitsOf d.toNat 8 7
/-- MULT, the tensor multiplier. -/
def descMult (d : Entry128) : Nat := bitsOf d.toNat 16 16
/-- TEXP, the tensor exponent. -/
def descTexp (d : Entry128) : Int := sInt 8 (bitsOf d.toNat 32 8)
/-- TENSOR_ID. -/
def descTid (d : Entry128) : Half := BitVec.ofNat 16 (bitsOf d.toNat 48 16)
/-- DATA_ROW. -/
def descDataRow (d : Entry128) : Nat := bitsOf d.toNat 64 12
/-- SCALE_ROW. -/
def descScaleRow (d : Entry128) : Nat := bitsOf d.toNat 76 12
/-- CMUL_ROW. -/
def descCmulRow (d : Entry128) : Nat := bitsOf d.toNat 88 12
/-- NROWS, the number of data rows minus 1. -/
def descNRows (d : Entry128) : Nat := bitsOf d.toNat 100 12

/-- Number of scale rows a descriptor occupies (R517). -/
def descScaleCount (d : Entry128) : Nat :=
  if (descFmt d).isBlock then cdiv ((descNRows d + 1) * (descFmt d).blocks) 512 else 0
/-- Number of multiplier rows a descriptor occupies (R517). -/
def descCmulCount (d : Entry128) : Nat :=
  if descFmt d == .qm8 then cdiv (descNRows d + 1) 16 else 0

/-- Are any reserved bits of the descriptor non-zero (R40, R41)? -/
def descReserved (d : Entry128) : Bool :=
  bitsOf d.toNat 5 3 != 0 || bitAt d.toNat 15 || bitsOf d.toNat 40 8 != 0 || bitsOf d.toNat 112 16 != 0

/-- The descriptor faults of R41 that one descriptor shows by itself. -/
def descFault (d : Entry128) : Bool :=
  descFmtCode d == 15 || descMult d == 0 || ((descFmt d).isBlock && descMult d != 1) || decide (96 < descWin d) ||
  (descWin d != 0 && descFmt d != .a96) || (descSym d && descFmt d != .i8 && descFmt d != .i4) ||
  (descScaleRow d != 0 && !(descFmt d).isBlock) || (descCmulRow d != 0 && descFmt d != .qm8) || descReserved d ||
  decide (4096 < descDataRow d + descNRows d + 1) ||
  decide (4096 < descScaleRow d + descScaleCount d) || decide (4096 < descCmulRow d + descCmulCount d)

/-- Do the data rows of the descriptor contain store row `r` (R31, R124, R135)? -/
def descHasRow (d : Entry128) (r : Nat) : Bool := decide (descDataRow d ≤ r) && decide (r ≤ descDataRow d + descNRows d)

/-! ### Conversions (R48 to R51) -/

/-- Conversion classes (R48). -/
inductive ConvClass where
  | e | c | b | x | o | q | na
deriving DecidableEq, Repr

/-- The conversion table of R49, by source and target, before the SYM exception. -/
def convTable (src dst : Fmt) : ConvClass :=
  match dst with
  | .a192 => .e
  | .a96 => .x
  | .a32 => if src.isBlock || src == .a96 || src == .a192 then .o else .e
  | .qm8 => if src == .qm8 then .e else .na
  | .qb4 | .qb6 | .qb8 | .qb16 =>
    match src with
    | .qb4 => .e
    | .qb6 => if dst == .qb4 then .q else .e
    | .qb8 => if dst == .qb8 || dst == .qb16 then .e else .q
    | .qb16 => if dst == .qb16 then .e else .q
    | .qm8 | .a32 | .a96 | .a192 => .q
    | _ => if decide (dst.minV false ≤ src.minV false) && decide (src.maxV ≤ dst.maxV) then .b else .q
  | .i32 => if src.isBlock || src == .a96 || src == .a192 then .q else .e
  | _ =>
    if src.isBlock || src.isAcc then .q
    else if decide (dst.minV false ≤ src.minV false) && decide (src.maxV ≤ dst.maxV) then .e else .c

/-- The class of a conversion; a symmetric I4 or I8 target of its own format is class C, and class B applies only
with MULT 1 (R48, R49). -/
def convClass (src dst : Fmt) (sym : Bool) (srcMult : Nat) : ConvClass :=
  if src == dst && sym && (dst == .i4 || dst == .i8) then .c
  else if convTable src dst == .b && srcMult != 1 then .q
  else convTable src dst

/-- Class E into A192 of a plain or A32 value: a = q × 2^64 (R48). -/
def expandPlain (q : Int) : Int := q * p2 64

/-- Class E into A192 of a block element: a = m × C_c × 2^(b + 64) (R48). -/
def expandBlock (m : Int) (b : Int) (cmul : Nat) : Int := m * (cmul : Int) * p2 (b + 64).toNat

/-- R50: an A192 value into an A96 window at position w; none is a window miss. -/
def toA96 (a : Int) (w : Nat) : Option Int :=
  if a % p2 w = 0 ∧ - p2 95 ≤ a / p2 w ∧ a / p2 w ≤ p2 95 - 1 then some (a / p2 w) else none

/-- R51: an A192 value into A32; none is an accumulator overflow. -/
def toA32 (a : Int) : Option Int :=
  if a % p2 64 = 0 ∧ - p2 31 ≤ a / p2 64 ∧ a / p2 64 ≤ p2 31 - 1 then some (a / p2 64) else none

/-- R60: a 48-bit lane value written out as A32: bits [47:31] all copies of bit 31. -/
def laneOk (v : BitVec 48) : Bool := decide (- p2 31 ≤ v.toInt) && decide (v.toInt ≤ p2 31 - 1)

end Sys2Proof.Machine
end

