-- ==== Sys2Proof/Machine/Requant.lean ====
section
/-! DEFINITION. Requantisation, rounding, the Chard mixer, block exponents and scale decisions (chapter 04). -/
namespace Sys2Proof.Machine

/-! ### The requantisation entry (R73) -/

/-- A requantisation entry; an entry never written holds the Reset column of R73 (RQ_MULT 1, no observers). -/
structure RqEntry where
  raw : Entry128 := BitVec.ofNat 128 (1 + 0xFFFFFFFFF * 2 ^ 28)
deriving DecidableEq, Repr, Inhabited

/-- RQ_MULT, the multiplier M. -/
def RqEntry.mult (e : RqEntry) : Nat := bitsOf e.raw.toNat 0 16
/-- RMODE. -/
def RqEntry.rmode (e : RqEntry) : Nat := bitsOf e.raw.toNat 16 3
/-- SHIFT, the base shift. -/
def RqEntry.shift (e : RqEntry) : Int := sInt 9 (bitsOf e.raw.toNat 19 9)
/-- OBS_IN_A. -/
def RqEntry.obsA (e : RqEntry) : Nat := bitsOf e.raw.toNat 28 12
/-- OBS_IN_B. -/
def RqEntry.obsB (e : RqEntry) : Nat := bitsOf e.raw.toNat 40 12
/-- OBS_OUT. -/
def RqEntry.obsOut (e : RqEntry) : Nat := bitsOf e.raw.toNat 52 12
/-- LIDX_ROW_STEP. -/
def RqEntry.lidxStep (e : RqEntry) : Nat := bitsOf e.raw.toNat 64 16
/-- LIDX_BASE. -/
def RqEntry.lidxBase (e : RqEntry) : Nat := bitsOf e.raw.toNat 80 48

/-- The offset d(k) in force for the execution; d(0xFFF) is 0 (R74). -/
def obsOffset (offs : Tbl Int) (k : Nat) : Int := if k = 0xFFF then 0 else offs.get k

/-- The effective shift of R74. -/
def RqEntry.effShift (e : RqEntry) (offs : Tbl Int) : Int :=
  e.shift - obsOffset offs e.obsA - obsOffset offs e.obsB + obsOffset offs e.obsOut

/-! ### Rounding (R76, R77) -/

/-- Whether R76 and R77 round up from the floor q0, with remainder r, at shift s > 0. -/
def roundUp (mode : Nat) (x q0 r : Int) (s d : Nat) : Bool :=
  match mode with
  | 0 => decide (p2 (s - 1) < r) || (decide (r = p2 (s - 1)) && decide (q0 % 2 = 1))
  | 1 => decide (p2 (s - 1) < r) || (decide (r = p2 (s - 1)) && decide (0 ≤ x))
  | 2 => decide (x < 0) && decide (r ≠ 0)
  | 3 => decide (r ≠ 0) && decide (q0 % 2 = 0)
  | _ =>
    if s ≤ 64 then decide (((d / 2 ^ (64 - s) : Nat) : Int) < r)
    else decide ((d : Int) < r / p2 (s - 64))

/-- R76 and R77: round x × 2^−s by a mode, with a 64-bit draw for STOCHASTIC. -/
def roundShift (x s : Int) (mode d : Nat) : Int :=
  if s ≤ 0 then x * p2 (-s).toNat
  else
    let q0 := x / p2 s.toNat
    let r := x % p2 s.toNat
    q0 + (if roundUp mode x q0 r s.toNat d then 1 else 0)

/-- Rounding to nearest, ties to even, of x × 2^−s (the rne of R132 and R137). -/
def rne (x s : Int) : Int := roundShift x s 0 0

/-! ### The Chard mixer (R79) -/

/-- One round of the Chard mixer on (lo, hi) with round number r. -/
def chardRound (k0 k1 : Nat) (r : Nat) (lo hi : Nat) : Nat × Nat :=
  let tLo := lo ^^^ ((k0 + r * 0x8F1D3C57A2E64B09) % 2 ^ 64)
  let tHi := hi ^^^ ((k1 + r * 0x5B7E91C30D4FA62D) % 2 ^ 64)
  let p := tLo * 0xC4A35B2DE871F0B5
  let q := tHi * 0xE19B0F6352D7A84D
  let lo' := (p % 2 ^ 64) ^^^ (q / 2 ^ 64)
  let hi' := (q % 2 ^ 64) ^^^ (p / 2 ^ 64)
  (lo' ^^^ (lo' / 2 ^ 29), hi' ^^^ (hi' / 2 ^ 31))

/-- The 64-bit draw of the Chard mixer: run seed, step, TENSOR_ID, logical index (R79). -/
def chard (seed : BitVec 128) (step : Word64) (tid : Half) (lidx : Nat) : Nat :=
  let k0 := bitsOf seed.toNat 0 64
  let k1 := bitsOf seed.toNat 64 64
  let a := chardRound k0 k1 0 step.toNat (tid.toNat * 2 ^ 48 + lidx % 2 ^ 48)
  let b := chardRound k0 k1 1 a.1 a.2
  let c := chardRound k0 k1 2 b.1 b.2
  let d := chardRound k0 k1 3 c.1 c.2
  d.1 ^^^ d.2

/-- The logical index of the element at buffer position j in the k-th RQ of the entry (R79). -/
def lidxOf (e : RqEntry) (k j : Nat) : Nat := (e.lidxBase + k * e.lidxStep + j) % 2 ^ 48

/-! ### Block exponents (R81) -/

/-- The g of R81: bitlen(x) for x ≥ 0 and bitlen(−x − 1) for x < 0. -/
def magBits (x : Int) : Nat := if 0 ≤ x then bitlen x.toNat else bitlen (-x - 1).toNat

/-- Step 2 of R81: the first block exponent. -/
def firstBexp (xs : List Int) (s : Int) (n : Nat) : Int :=
  clampI (-32) 31 ((maxOf (xs.map magBits) : Int) - ((n : Int) - 1) - s)

/-- R81: the mantissas before the last clamp, and the block exponent. Each element keeps its draw. -/
def chooseBlock (xs : List (Int × Nat)) (s : Int) (n : Nat) (mode : Nat) : List Int × Int :=
  let b := firstBexp (xs.map Prod.fst) s n
  let ms := xs.map (fun p => roundShift p.1 (s + b) mode p.2)
  if b < 31 ∧ ms.any (fun m => decide (m = p2 (n - 1))) = true then
    (xs.map (fun p => roundShift p.1 (s + (b + 1)) mode p.2), b + 1)
  else (ms, b)

/-- The E of R85 for one element: bitlen(|x|) − SHIFT + d(OBS_IN_A) + d(OBS_IN_B). -/
def obsE (e : RqEntry) (offs : Tbl Int) (x : Int) : Int :=
  (bitlen x.natAbs : Int) - e.shift + obsOffset offs e.obsA + obsOffset offs e.obsB

/-! ### Observers (R83, R88, R89) -/

/-- An observer entry; one never written holds the Reset column of R83. -/
structure ObserverEntry where
  raw : Entry128 := BitVec.ofNat 128 (0xFFFFFFFF * 2 ^ 96 + 0x20 * 2 ^ 36 + 0x1F * 2 ^ 30)
deriving DecidableEq, Repr, Inhabited

/-- TRACK. -/
def ObserverEntry.track (e : ObserverEntry) : Bool := bitAt e.raw.toNat 13
/-- ACTION. -/
def ObserverEntry.action (e : ObserverEntry) : Bool := bitAt e.raw.toNat 14
/-- TOP_BITS. -/
def ObserverEntry.topBits (e : ObserverEntry) : Nat := bitsOf e.raw.toNat 15 8
/-- HYST. -/
def ObserverEntry.hyst (e : ObserverEntry) : Nat := bitsOf e.raw.toNat 23 3
/-- The history length H. -/
def ObserverEntry.histLen (e : ObserverEntry) : Nat := bitsOf e.raw.toNat 26 4 + 1
/-- D_MAX. -/
def ObserverEntry.dMax (e : ObserverEntry) : Int := sInt 6 (bitsOf e.raw.toNat 30 6)
/-- D_MIN. -/
def ObserverEntry.dMin (e : ObserverEntry) : Int := sInt 6 (bitsOf e.raw.toNat 36 6)
/-- D_INIT. -/
def ObserverEntry.dInit (e : ObserverEntry) : Int := sInt 6 (bitsOf e.raw.toNat 42 6)
/-- TENSOR_ID. -/
def ObserverEntry.tid (e : ObserverEntry) : Half := BitVec.ofNat 16 (bitsOf e.raw.toNat 48 16)
/-- SAT_LIMIT. -/
def ObserverEntry.satLimit (e : ObserverEntry) : Nat := bitsOf e.raw.toNat 96 32

/-- The faults of R84 that one observer entry shows by itself (the TEXP limits need the descriptor). -/
def ObserverEntry.fault (e : ObserverEntry) : Bool :=
  decide (e.dInit < e.dMin) || decide (e.dMax < e.dInit) || e.topBits == 0 || decide (208 < e.topBits) ||
  (e.action && !e.track) || bitsOf e.raw.toNat 0 13 != 0 || bitsOf e.raw.toNat 64 32 != 0

/-- The largest of the non-empty entries of a history; none when all are empty. -/
def histMax : List (Option Int) → Option Int
  | [] => none
  | none :: l => histMax l
  | some e :: l => match histMax l with
    | none => some e
    | some m => some (if m < e then e else m)

/-- R88: the new offset, and whether EV_ARITH_SCALE_LIMIT is raised. -/
def decideScale (hist : List (Option Int)) (d : Int) (e : ObserverEntry) : Int × Bool :=
  match histMax hist with
  | none => (d, false)
  | some m =>
    let raw := m - (e.topBits : Int)
    let cand := clampI e.dMin e.dMax raw
    (if d < cand then cand else if cand + (e.hyst : Int) < d then d - 1 else d, decide (e.dMax < raw))

/-- R89: the raised offset d_r, from the current offset and the observation of the execution (none when empty). -/
def raisedOffset (e : ObserverEntry) (d : Int) (ek : Option Int) : Int :=
  match ek with
  | none => clampI e.dMin e.dMax (d + 1)
  | some k => clampI e.dMin e.dMax (if d + 1 < k - (e.topBits : Int) then k - (e.topBits : Int) else d + 1)

end Sys2Proof.Machine
end

