-- ==== Sys2Proof/Machine/PodState.lean ====
section
/-! DEFINITION. The state of one pod (chapters 05 and 06): stores, buffers, banks, accumulators, snapshot, tables, lane
registers, loop counters and the writes that are still on their way to their visibility beat. -/
namespace Sys2Proof.Machine

/-- A row buffer RB0–RB7: 512 B, a 512 B wide extension (chapter 05 storage table, R124); reset 0, content not defined
until the step writes it (R98). -/
structure RowBuf where
  /-- 4096 bits; 05 storage table; reset 0 (DESIGN CHOICE 0, log 3) -/
  data : Row := 0
  /-- 4096 bits, the wide extension; 05 R124; reset 0 (DESIGN CHOICE 0, log 3) -/
  ext : Row := 0
  /-- model's own mark: the step has written the data (R98); reset false -/
  written : Bool := false
  /-- model's own mark: the last write filled the extension too (R69, R124); reset false -/
  wide : Bool := false
deriving DecidableEq, Repr, Inhabited

/-- A landing slot: 512 B and a 512 B wide extension (chapter 05 storage table, R119, R229). -/
structure Landing where
  /-- 4096 bits; 05 storage table; reset 0 (DESIGN CHOICE 0, log 3) -/
  data : Row := 0
  /-- 4096 bits, the wide extension; 05 storage table; reset 0 (DESIGN CHOICE 0, log 3) -/
  ext : Row := 0
  /-- the slot is complete (R119, R160); reset false -/
  complete : Bool := false
  /-- the completed row came with its extension (R69); reset false -/
  wide : Bool := false
  /-- a barrier row waits here for its pod's STEP_END, with its store row (R229); reset none -/
  barrierRow : Option (BitVec 12) := none
deriving DecidableEq, Repr, Inhabited

/-- A weight bank TB0–TB15: 4 KiB data in 8 parts, 256 B scale bytes, 128 B channel multipliers (chapter 05, R108, R109). -/
structure Bank where
  /-- 8 parts of 4096 bits; 05 R108; reset 0 (DESIGN CHOICE 0, log 3) -/
  parts : Tbl Row := {}
  /-- 2048 bits of scale bytes; 05 R108; reset 0 (DESIGN CHOICE 0, log 3) -/
  scales : BitVec 2048 := 0
  /-- 1024 bits of channel multipliers; 05 R108; reset 0 (DESIGN CHOICE 0, log 3) -/
  cmuls : BitVec 1024 := 0
  /-- the FPAIR tag of the last load, 5 bits (R108); reset 0 -/
  fpair : BitVec 5 := 0
  /-- data parts written under this tag, one bit each (R109); reset 0 -/
  loadedParts : BitVec 8 := 0
  /-- scale bytes written under this tag (R109); reset false -/
  hasScales : Bool := false
  /-- multipliers written under this tag (R109); reset false -/
  hasCmuls : Bool := false
  /-- the source tensor's descriptor index of each part, none where no descriptor holds the row (R31); reset none -/
  src : Tbl (Option Nat) := {}
deriving DecidableEq, Repr, Inhabited

/-- An A192 long accumulator with its overflow flag (R55, R59). -/
structure Acc where
  /-- 192 bits; 03 R55; reset 0 (DESIGN CHOICE 0, log 3; R98 zeroes it at each step start) -/
  v : BitVec 192 := 0
  /-- overflow flag; 03 R59; reset 0 -/
  ovf : Bool := false
deriving DecidableEq, Repr, Inhabited

/-- An A32 lane of 48 bits with its overflow flag (R55, R60). -/
structure Lane where
  /-- 48 bits; 03 R60; reset 0 (DESIGN CHOICE 0, log 3; R98 zeroes it at each step start) -/
  v : BitVec 48 := 0
  /-- overflow flag; 03 R60; reset 0 -/
  ovf : Bool := false
deriving DecidableEq, Repr, Inhabited

/-- Z0–Z7: 64 bits with an overflow flag (R127, R136). -/
structure ZReg where
  /-- 64 bits; 06 R127; reset 0 (DESIGN CHOICE 0, log 3; R128 zeroes it at each step start) -/
  v : BitVec 64 := 0
  /-- overflow flag; 06 R127; reset 0 -/
  ovf : Bool := false
deriving DecidableEq, Repr, Inhabited

/-- A write on its way to its visibility beat (R102, R131). -/
inductive PodWrite where
  /-- the bits of store row `r` under `mask` take `v` -/
  | storeRow (r : BitVec 12) (v mask : Row)
  /-- row buffer `b` takes this content -/
  | buf (b : Fin 8) (v : RowBuf)
  /-- LOADW lands in a data part of a bank -/
  | bankPart (b : Fin 16) (fp : BitVec 5) (part : Nat) (v : Row) (src : Option Nat)
  /-- LOADS lands in a bank: `n` scale bytes -/
  | bankScales (b : Fin 16) (fp : BitVec 5) (n : Nat) (v : BitVec 2048)
  /-- LOADC lands in a bank -/
  | bankCmuls (b : Fin 16) (fp : BitVec 5) (v : BitVec 1024)
  /-- terms of a STREAM reach the long accumulators, column 0 first -/
  | accTerms (ts : List Int)
  /-- terms of a STREAM reach the A32 lanes -/
  | laneTerms (ts : List Int)
deriving DecidableEq, Repr

/-- A pending write and the beat from which it is visible (R102). -/
structure Pend where
  /-- the first beat whose slots see the write -/
  vis : Nat := 0
  /-- the write -/
  w : PodWrite := .accTerms []
deriving DecidableEq, Repr, Inhabited

/-- An open loop of CTL LOOP (R104, R105). -/
structure LoopFrame where
  /-- first address of the body -/
  start : BitVec 12 := 0
  /-- last address of the body -/
  stop : BitVec 12 := 0
  /-- iterations still to come after the present one -/
  left : Nat := 0
  /-- the counter LC0–LC2 -/
  lc : Fin 3 := 0
  /-- increase of the counter per iteration -/
  stride : BitVec 6 := 0
deriving DecidableEq, Repr, Inhabited

/-- An entry of the T list: a 32-bit value and a 32-bit index (R127). -/
structure TopEntry where
  /-- value, 32 bits -/
  v : BitVec 32 := 0
  /-- index, 32 bits -/
  i : BitVec 32 := 0
deriving DecidableEq, Repr, Inhabited

/-- One pod (chapters 05 and 06). -/
structure Pod where
  /-- pod store, 4,096 rows of 512 B; 05 storage table; unlisted rows read 0 (DESIGN CHOICE 0, log 3) -/
  store : Tbl Row := {}
  /-- bundle store, 4,096 bundles of 256 bits; 05 R99; unlisted bundles read 0 (DESIGN CHOICE 0, log 3) -/
  bundles : Tbl Bundle := {}
  /-- entry address of each step kind, 0xFFFF where unlisted entries take no part; 08 R199; reset 0xFFFF held as none -/
  entries : Tbl (Option (BitVec 12)) := {}
  /-- row buffers RB0–RB7, 8 × (512 B + 512 B); 05 storage table; reset as RowBuf -/
  bufs : Tbl RowBuf := {}
  /-- weight banks TB0–TB15; 05 storage table; reset as Bank -/
  banks : Tbl Bank := {}
  /-- landing store, 16 slots; 05 storage table; reset as Landing -/
  landing : Tbl Landing := {}
  /-- 64 A192 long accumulators; 03 R55; reset as Acc -/
  accs : Tbl Acc := {}
  /-- 64 A32 lanes; 03 R55; reset as Lane -/
  lanes : Tbl Lane := {}
  /-- snapshot, 64 × 192 bits with overflow flags; 05 storage table, R518; reset 0 -/
  snap : Tbl Acc := {}
  /-- the snapshot's origin: true when its last SNAP read the lanes; 05 R518; reset false -/
  snapLanes : Bool := false
  /-- tensor descriptors, 256 × 128 bits, none where the image gives no entry; 02 R40; reset none -/
  descs : Tbl (Option Entry128) := {}
  /-- requantisation table, 64 × 128 bits; 04 R73; reset column of R73 -/
  rqs : Tbl RqEntry := {}
  /-- transfer table, 1,024 × 128 bits; 05 storage table, 09 R228; reset 0 (DESIGN CHOICE 0, log 3) -/
  xfers : Tbl Entry128 := {}
  /-- K0–K15, 32 bits each; 06 R127; reset 0 (R128 at each step start) -/
  k : Tbl (BitVec 32) := {}
  /-- Z0–Z7; 06 R127; reset 0 -/
  z : Tbl ZReg := {}
  /-- PR1–PR7, 512 bits each; PR0 reads all ones and is not stored; 06 R127; reset 0 -/
  pr : Tbl (BitVec 512) := {}
  /-- the running top-k list T, up to 64 pairs; 06 R127; reset empty -/
  t : List TopEntry := []
  /-- loop counters LC0–LC2 as the bundle issued last reads them, 12 bits each; 05 R104, R105; reset 0 -/
  lc : Tbl (BitVec 12) := {}
  /-- loop counters LC0–LC2 as the next bundle reads them: the iterations that the last bundle completed are added; 05 R105; reset 0 -/
  lcNext : Tbl (BitVec 12) := {}
  /-- open loops, innermost first, at most 3; 05 R105, R106; reset none -/
  loops : List LoopFrame := []
  /-- address of the next bundle to issue, 12 bits; 05 R101; reset 0 -/
  pc : BitVec 12 := 0
  /-- POD_STATUS.PC, address of the last bundle issued, 12 bits; 05 R125; reset 0x000 -/
  lastPc : BitVec 12 := 0
  /-- the pod takes part in the running step and has not issued its STEP_END; 05 R100; reset false -/
  issuing : Bool := false
  /-- RQ operations of this execution per requantisation entry (the k of R79); reset 0 -/
  rqCount : Tbl Nat := {}
  /-- bundles issued in a row with every slot NOP and nothing in flight; 17 R429; reset 0 -/
  nopRun : Nat := 0
  /-- writes on their way to their visibility beat; 05 R102, 06 R131; reset none -/
  pend : List Pend := []
  /-- POD_STATUS.PLACED; 05 R125; reset 0 -/
  placed : Bool := false
  /-- POD_STATUS.ROW_PATH, 2 bits; 05 R125; reset 0b00 -/
  rowPath : BitVec 2 := 0
  /-- the row path has failed beyond its spares: from the next step boundary every ROW operation takes the private channel;
  05 R122; reset false -/
  privNext : Bool := false
  /-- runs of constant rows, first row and count, as the image's POD_ROWS records give them; 08 R199; reset none -/
  consts : List (Nat × Nat) := []
  /-- the retirement is fused (08 R201, 14 R374); reset false (per part: DESIGN CHOICE none fused, log 4) -/
  fused : Bool := false
  /-- checkpoint copies of the rows the step writes and reads: store row and content, in CKPT_BASE order; 07 R166; reset none -/
  ckpt : List (Nat × Row) := []
  /-- the pod is powered (01 R18); reset false -/
  powered : Bool := false
deriving DecidableEq, Repr, Inhabited

/-- What a pod operation reports to its shallot and to the step sequencer. -/
inductive Report where
  /-- window miss at an output column, tensor of the destination (R50, R64) -/
  | miss (tid : Half) (col : Nat)
  /-- A32 overflow (R51, R60) -/
  | a32 (tid : Half) (col : Nat)
  /-- A192 overflow (R59, R136) -/
  | a192 (tid : Half) (col : Nat)
  /-- `n` elements written at a saturation value (R35) -/
  | sat (tid : Half) (n : Nat)
  /-- an observation: the largest E of this operation, none when every x was 0 (R85) -/
  | obs (tid : Half) (e : Option Int)
  /-- `n` T2 codes 0b10 read from this source tensor, none when no descriptor holds the row (R31) -/
  | t2 (tid : Option Half) (n : Nat)
  /-- `n` lane clamps (R135) -/
  | vecSat (n : Nat)
  /-- `n` inputs outside their domain (R137) -/
  | vecDomain (n : Nat)
  /-- `n` indices out of range (R144) -/
  | vecRange (n : Nat)
deriving DecidableEq, Repr

/-- What an execution fixes for every pod: width, step, run seed, observer offsets (R67, R74, R79). -/
structure ExecCtx where
  /-- wide transport (R67) -/
  wide : Bool := false
  /-- step number (R79) -/
  step : Word64 := 0
  /-- run seed (R79) -/
  seed : BitVec 128 := 0
  /-- the offset d of each observer in this execution (R74) -/
  offs : Tbl Int := {}
  /-- the shallot's beat (R149) -/
  beat : Nat := 0
  /-- the free-value counter -/
  free : Nat := 0
deriving DecidableEq, Repr, Inhabited

end Sys2Proof.Machine
end

