-- ==== Sys2Proof/Machine/StateShallot.lean ====
section
/-! DEFINITION. The state of one shallot (an AD and an SD): pods, tallies, the beat counter with its stops, the fault and
lane registers, the row bond, clock, power and heat (chapters 03, 05 to 07, 13, 16 and 17). -/
namespace Sys2Proof.Machine

/-- A tally entry of 128 bits (R337). -/
structure Tally where
  /-- 32 bits; 13 R337; reset 0 -/
  value : Word := 0
  /-- MSGCOUNT, 32 bits; 13 R337; reset 0 -/
  msgCount : Word := 0
  /-- FLAGS, 16 bits; 13 R337; reset 0 -/
  flags : Half := 0
  /-- HFLAG, 4 bits; 13 R337; reset 0 -/
  hflag : BitVec 4 := 0
  /-- HELD; 13 R337; reset 0 -/
  held : Bool := false
  /-- HTARGET, 32 bits; 13 R337; reset 0 -/
  htarget : Word := 0
deriving DecidableEq, Repr, Inhabited

/-- A RECV that waits for its landing slot (R119). -/
structure RecvHold where
  /-- the pod -/
  pod : Nat := 0
  /-- the landing slot -/
  slot : Fin 16 := 0
  /-- the row buffer it fills -/
  buf : Fin 8 := 0
deriving DecidableEq, Repr, Inhabited

/-- A WAIT that waits for its tally (R120). -/
structure WaitHold where
  /-- the pod -/
  pod : Nat := 0
  /-- the plaza of the tally -/
  plaza : Nat := 0
  /-- the index of the tally -/
  index : Nat := 0
  /-- the value to reach -/
  arg : BitVec 8 := 0
deriving DecidableEq, Repr, Inhabited

/-- A recess of a shallot (R175). -/
inductive RecessKind where
  | scheduled | forced
deriving DecidableEq, Repr, Inhabited

/-- One bond group of a pod: row groups 0 to 15 and private group 16 (R400, R416). -/
structure BondGroup where
  /-- wires marked in fuses; 16 R402; reset none (per part: DESIGN CHOICE, log 4) -/
  fused : List Nat := []
  /-- wires marked in the repair log of the firmware store; 16 R402; reset none (per part: DESIGN CHOICE, log 4) -/
  logged : List Nat := []
  /-- wires steered in service that the log does not hold yet; 16 R402; reset none -/
  fresh : List Nat := []
  /-- SUSPECT, a wire test is due; 16 R403, R416; reset 0 -/
  suspect : Bool := false
  /-- BEYOND, more failures than spares; 16 R406, R416; reset 0 -/
  beyond : Bool := false
  /-- the group lies outside the trained map of its unit; 16 R407; reset false -/
  untrained : Bool := false
deriving DecidableEq, Repr, Inhabited

/-- The clock of a shallot pair (R421 to R424). -/
structure ShClock where
  /-- FREQ_TARGET as written, 32 bits with [6:0] used; 17 R441; reset 0x0000_003C -/
  target : Word := 0x3C
  /-- current code f, 25 MHz each, 7 bits; 17 R421; reset 0 (FREQ_STATUS) -/
  code : Nat := 0
  /-- nanoseconds left of the frequency stops in progress; 17 R423; reset 0 -/
  stopNs : Nat := 0
  /-- demanded codes whose 2 µs stops have not ended, the one in progress first; 17 R423; reset none -/
  demands : List Nat := []
  /-- FREQ_DOWN_COUNT; 17 R441; reset 0 -/
  downCount : Word := 0
  /-- FREQ_UP_COUNT; 17 R441; reset 0 -/
  upCount : Word := 0
  /-- DROOP_COUNT; 17 R441; reset 0 -/
  droopCount : Word := 0
  /-- set point of VDD_ADn in mV, 10 bits; 17 R422, R441; reset 0 -/
  setPoint : Nat := 0
  /-- VDD_ADn readings of the last 1 ms: time in ns and mV; VOLT_STATUS[25:16] is their least; 17 R441; reset none -/
  volts : List (Nat × Nat) := []
  /-- worst AD margin in ps, 8 bits; 17 R441; reset 0 -/
  marginAd : Nat := 0
  /-- worst SD margin in ps, 8 bits; 17 R441; reset 0 -/
  marginSd : Nat := 0
  /-- governor readings in a row above 60 ps, 1 µs each; 17 R422; reset 0 -/
  highRun : Nat := 0
  /-- microseconds since the last rise of the frequency; 17 R422, R423; reset 1000 -/
  sinceRise : Nat := 1000
  /-- microseconds since the last set point sent to the regulator; 17 R422; reset 10 -/
  sinceAvs : Nat := 10
  /-- progress through the present clock period: 1000 × ns × code × 25 / 1000 units; the model's own; reset 0 -/
  phase : Nat := 0
  /-- stretch of the next period in quarters, 0 to 2; 17 R424; reset 0 -/
  stretch : Nat := 0
deriving DecidableEq, Repr, Inhabited

/-- Power, heat and forecast state of a shallot (R427 to R438). -/
structure ShPower where
  /-- SHALLOT_POWER in 0.25 W, 16 bits; 17 R441; reset 0 -/
  power : Nat := 0
  /-- measured power of the AD alone in 0.25 W; 09 R242, 17 R437; reset 0 -/
  adPower : Nat := 0
  /-- PAUSE_DUTY.POWER in 1/64; 17 R427; reset 0 -/
  dutyPower : Nat := 0
  /-- PAUSE_DUTY.HEAT in 1/64; 17 R436; reset 0 -/
  dutyHeat : Nat := 0
  /-- PAUSE_DUTY.STACK in 1/64; 17 R435; reset 0 -/
  dutyStack : Nat := 0
  /-- measurements in a row below 97 % of the limit that raised the duty; 17 R427; reset 0 -/
  calmRun : Nat := 0
  /-- the package limit, not the shallot's own, raised the duty last; 17 R427; reset false -/
  pkgRaised : Bool := false
  /-- position in the 64-period frame; 17 R427; reset 0 -/
  framePos : Nat := 0
  /-- the duty's pause is in force; 17 R427; reset false -/
  dutyPause : Bool := false
  /-- VR_LIMITn# asserted after its filter; 17 R434; reset 0 -/
  vrLimit : Bool := false
  /-- time in ns since which the assertion is not yet in VR_LIMIT_US; 17 R434; reset 0 -/
  vrSince : Nat := 0
  /-- VR_LIMIT_US but for the assertion in progress; 17 R434, R441; reset 0 -/
  vrLimitUs : Word := 0
  /-- FORECAST.POWER of the last frame, 12 bits; 17 R441; reset 0 -/
  forecast : BitVec 12 := 0
  /-- FORECAST[31], a profile is in use; 17 R441; reset 0 -/
  profile : Bool := false
  /-- time in ns at which the last forecast frame ended; 17 R432; reset none -/
  frameEnd : Option Nat := none
  /-- FORECAST_LATE_COUNT; 17 R432; reset 0 -/
  forecastLate : Word := 0
  /-- measurements in a row more than 72 W above the forecast; 17 R433; reset 0 -/
  overRun : Nat := 0
  /-- WAKE_DEFER_COUNT; 17 R430; reset 0 -/
  wakeDefer : Word := 0
  /-- credits in the rail bucket, in tenths; 17 R429; reset 64 credits (full at image load) -/
  credits : Nat := 640
  /-- pods whose wake is due and not served; 17 R430; reset none -/
  dueWakes : List Nat := []
  /-- XCHK_STATUS.SUSPECT; 17 R438; reset 0 -/
  suspect : Bool := false
  /-- the suspicion was declared at the present check and counts from the next one; 17 R438; reset false -/
  suspectNew : Bool := false
  /-- XCHK_STATUS.TRIP_EST; 17 R438; reset 0 -/
  tripEst : Bool := false
  /-- XCHK_STATUS.RUN, 2 bits; 17 R438; reset 0 -/
  xchkRun : Nat := 0
  /-- XCHK_AD in 1/128 °C; 17 R441; reset 0 -/
  xchkAd : Half := 0
  /-- XCHK_EST in 1/128 °C; 17 R437, R441; reset 0 -/
  xchkEst : Half := 0
  /-- HEAT_STATE bit above 95 °C; 17 R441; reset 0 -/
  hot : Bool := false
  /-- HEAT_STATE bit tripped; 17 R435, R441; reset 0 -/
  tripped : Bool := false
  /-- time of the trip in ns; 17 R436; reset 0 -/
  tripAt : Nat := 0
  /-- temperature T of the last check in 1/128 °C; 17 R436; reset 0 -/
  temp : Int := 0
  /-- a reset of the shallot waits for the end of its cooling; 17 R436, 20 R497; reset false -/
  resetWaits : Bool := false
  /-- THERMO_Sn in 1/128 °C; 09 R245, R249; reset invalid -/
  thermo : Option Half := none
deriving DecidableEq, Repr, Inhabited

/-- One shallot: the AD and SD of plazas P00 to P07. -/
structure Shallot where
  /-- 512 pods; 05 R97; reset as Pod -/
  pods : Tbl Pod := {}
  /-- 16,384 tallies; 13 R337; reset 0 -/
  tallies : Tbl Tally := {}
  /-- the shallot is powered; 01 R18; reset false -/
  powered : Bool := false
  /-- the placement in force uses the shallot; 01 R18; reset false -/
  placed : Bool := false
  /-- FENCED; 07 R154; reset false -/
  fenced : Bool := false
  /-- STEP_BEAT, 64 bits; 07 R149, R189; reset 0 -/
  beat : Word64 := 0
  /-- the shallot runs a step: beat 0 is due or issued and its last STEP_END is not; 07 R149; reset false -/
  inStep : Bool := false
  /-- the next counted period is beat 0; 07 R149; reset false -/
  beatZeroDue : Bool := false
  /-- RECV operations that wait for their slot; 07 R152; reset none -/
  recvHolds : List RecvHold := []
  /-- WAIT operations that wait for their tally; 07 R152; reset none -/
  waitHolds : List WaitHold := []
  /-- held periods left for row retries; 16 R404; reset 0 -/
  retryHold : Nat := 0
  /-- pods whose ROW operation waits while their row path or private channel trains; 16 R413; reset none -/
  rowWaits : List Nat := []
  /-- held periods left for private-channel transfers; 05 R122; reset 0 -/
  privHold : Nat := 0
  /-- held periods left for wide two-row transfers; 05 R124; reset 0 -/
  wideHold : Nat := 0
  /-- pods whose deferred wake holds the shallot; 17 R430; reset none -/
  wakeHeld : List Nat := []
  /-- periods left of the 32 beats that served deferred wakes still take; 17 R430; reset 0 -/
  wakeHold : Nat := 0
  /-- time in ns until which a late forecast holds the shallot; 17 R432; reset none -/
  forecastHold : Option Nat := none
  /-- recess in progress; 07 R154, R175; reset none -/
  recess : Option RecessKind := none
  /-- time in ns at which the recess began; 07 R189; reset 0 -/
  recessAt : Nat := 0
  /-- HOLD_BEATS; 07 R189; reset 0 -/
  holdBeats : Word := 0
  /-- RECV_HOLD_BEATS; 05 R125; reset 0 -/
  recvHoldBeats : Word := 0
  /-- WAIT_HOLD_BEATS; 07 R189; reset 0 -/
  waitHoldBeats : Word := 0
  /-- WAKE_HOLD_BEATS; 07 R189; reset 0 -/
  wakeHoldBeats : Word := 0
  /-- ROWRETRY_HOLD_BEATS; 07 R189; reset 0 -/
  retryHoldBeats : Word := 0
  /-- PRIV_HOLD_BEATS; 05 R125; reset 0 -/
  privHoldBeats : Word := 0
  /-- WIDE_ROW_HOLD_BEATS; 05 R125; reset 0 -/
  wideHoldBeats : Word := 0
  /-- PAUSE_BEATS; 07 R189; reset 0 -/
  pauseBeats : Word := 0
  /-- STOP_COUNT; 07 R189; reset 0 -/
  stopCount : Word := 0
  /-- the frequency stop in progress began while the counter stood for another cause that still stands it; 17 R423; reset false -/
  stopInside : Bool := false
  /-- RECESS_COUNT; 07 R189; reset 0 -/
  recessCount : Word := 0
  /-- RECESS_US; 07 R189; reset 0 -/
  recessUs : Word := 0
  /-- STRETCH_COUNT; 07 R156, R189; reset 0 -/
  stretchCount : Word := 0
  /-- ARITH_STATUS bits [3:0]; 03 R64; reset 0 -/
  arithStatus : BitVec 4 := 0
  /-- ARITH_FIRST; 03 R64; reset 0 -/
  arithFirst : Word := 0
  /-- ARITH_FIRST_BEAT; 03 R64; reset 0 -/
  arithFirstBeat : Word := 0
  /-- output column of the first fault, for the order of R65; the model's own; reset 0 -/
  firstCol : Nat := 0
  /-- MISS_COUNT; 03 R64; reset 0 -/
  missCount : Word := 0
  /-- A32_OVF_COUNT; 03 R64; reset 0 -/
  a32Count : Word := 0
  /-- A192_OVF_COUNT; 03 R64; reset 0 -/
  a192Count : Word := 0
  /-- WIDE_COUNT; 03 R64; reset 0 -/
  wideCount : Word := 0
  /-- POD_SEL, 32 bits with [8:0] used; 05 R125; reset 0 -/
  podSel : Word := 0
  /-- VEC_SAT_COUNT; 06 R147; reset 0 -/
  vecSat : Word := 0
  /-- VEC_DOMAIN_COUNT; 06 R147; reset 0 -/
  vecDomain : Word := 0
  /-- VEC_RANGE_COUNT; 06 R147; reset 0 -/
  vecRange : Word := 0
  /-- ROWBOND_SEL, 32 bits with [13:0] used; 16 R416; reset 0 -/
  rowbondSel : Word := 0
  /-- ROW_CHECK_FAILS; 16 R416; reset 0 -/
  rowCheckFails : Word := 0
  /-- ROW_REPAIRS; 16 R416; reset 0 -/
  rowRepairs : Word := 0
  /-- bond groups, numbered pod × 17 + group; 16 R400; reset as BondGroup -/
  bonds : Tbl BondGroup := {}
  /-- the AD-to-SD joins have been trained since the last reset that reached them; 16 R411; reset false -/
  bondsUp : Bool := false
  /-- pods that the self-test retired since the last package reset; 20 R492; reset none -/
  bistRetired : List Nat := []
  /-- a shallot reset is in progress; 20 R497; reset false -/
  resetting : Bool := false
  /-- clock; 17; reset as ShClock -/
  clk : ShClock := {}
  /-- power and heat; 17; reset as ShPower -/
  pwr : ShPower := {}
deriving DecidableEq, Repr, Inhabited

/-- Bond group `g` of pod `p`. -/
def Shallot.bond (s : Shallot) (p g : Nat) : BondGroup := s.bonds.get (p * 17 + g)

/-- The wires that a group's repair map marks (R401, R402). -/
def BondGroup.marked (g : BondGroup) : List Nat := (g.fused ++ g.logged ++ g.fresh).eraseDups

end Sys2Proof.Machine
end

