-- ==== Sys2Proof/Machine/StateBlv.lean ====
section
/-! DEFINITION. The state of the Boulevard: arbiters, streets, ring locks, congestion maps (chapter 09) and interface bonds
with their training ends (chapter 16). -/
namespace Sys2Proof.Machine

/-- A visible request at an arbiter (R234, R235). -/
structure ArbReq where
  /-- source plaza -/
  source : Nat := 0
  /-- POD within the avenue and LSLOT, or the TARGET -/
  target : Nat := 0
  /-- LSLOT; 0 for other kinds -/
  lslot : Nat := 0
  /-- age stamp: the free-running period counter when the request became visible, 16 bits; 09 R235 -/
  stamp : BitVec 16 := 0
  /-- the request reached age 2^15 and ranks above all others; 09 R235 -/
  stale : Bool := false
  /-- the row that moves when granted (avenue ingress) -/
  data : Row := 0
  /-- its wide extension -/
  ext : Row := 0
  /-- the row comes with its extension -/
  wide : Bool := false
  /-- barrier row: destination store row -/
  barrierRow : Option (BitVec 12) := none
deriving DecidableEq, Repr, Inhabited

/-- The three counters of a requester (R238). -/
structure ReqCount where
  /-- GRANTS; 09 R238; reset 0 -/
  grants : Word := 0
  /-- WAITS; 09 R238; reset 0 -/
  waits : Word := 0
  /-- LONGEST; 09 R238; reset 0 -/
  longest : Word := 0
deriving DecidableEq, Repr, Inhabited

/-- What an arbiter gathers for the congestion map of the present interval (R248). -/
structure MapCount where
  ownedUsed : Nat := 0
  ownedIdle : Nat := 0
  bgGrants : Nat := 0
  idle : Nat := 0
  lateOwned : Nat := 0
  bgWaitMax : Nat := 0
  frozenPeriods : Nat := 0
  frozen : Bool := false
  /-- slot codes of the detail: highest code per slot -/
  slots : Tbl Nat := {}
deriving DecidableEq, Repr, Inhabited

/-- One arbiter (R231). -/
structure Arbiter where
  /-- ARB_CTRL.FREEZE; 09 R237; reset 0 -/
  freeze : Bool := false
  /-- the timetable, 4,096 entries of 16 bits; 09 R232; reset 0 -/
  table : Tbl Half := {}
  /-- visible requests; 09 R234; reset none -/
  reqs : List ArbReq := []
  /-- the request granted and in flight; 09 R233; reset none -/
  granted : Option ArbReq := none
  /-- the slot of the next period is decided, at an avenue; 09 R233; reset false -/
  decided : Bool := false
  /-- free-running period counter, 16 bits; 09 R235; reset 0 -/
  counter : BitVec 16 := 0
  /-- ARB_STATUS.SLOT, the slot being decided; 09 R249; reset 0 -/
  slot : Nat := 0
  /-- owners granted early in the step, whose owned slot will find them idle: source, target, LSLOT; 09 R234; reset none -/
  early : List (Nat × Nat × Nat) := []
  /-- owned slots of the step that found their owner idle: slot, source, target, LSLOT; 09 R234; reset none -/
  missed : List (Nat × Nat × Nat × Nat) := []
  /-- counters of the 27 requesters; 09 R238; reset 0 -/
  counts : Tbl ReqCount := {}
  /-- congestion map counts of the interval; 09 R248; reset 0 -/
  map : MapCount := {}
deriving DecidableEq, Repr, Inhabited

/-- One wavelength of a street (R221, R224). -/
structure Wave where
  /-- declared down; 09 R224; reset false -/
  down : Bool := false
  /-- down because its light fell by 6.0 dB (10 R254); reset false -/
  dark : Bool := false
  /-- parked by STREET_USE; 08 R202; reset false -/
  parked : Bool := false
  /-- paused by a PAUSE entry; 09 R244; reset false -/
  paused : Bool := false
  /-- number of the next flit sent, modulo 32; 09 R221; reset 0 -/
  txSeq : BitVec 5 := 0
  /-- replay buffer: flits sent and not acknowledged, oldest first, with their numbers; 09 R221; reset none -/
  replay : List (BitVec 5 × Flit) := []
  /-- flits that wait behind 32 unacknowledged ones or a pause; 09 R221, R244; reset none -/
  queue : List Flit := []
  /-- number of the next flit expected at the receiver; 09 R221; reset 0 -/
  rxSeq : BitVec 5 := 0
  /-- the receiver discards until the failed number arrives; 09 R221; reset false -/
  discarding : Bool := false
  /-- consecutive failed resends of one flit; 09 R224; reset 0 -/
  fails : Nat := 0
  /-- rings of the wavelength that have slipped and not relocked; 09 R244; reset 0 -/
  slips : Nat := 0
deriving DecidableEq, Repr, Inhabited

/-- One street (R213). -/
structure Street where
  /-- wavelengths by street-local number; reset as Wave -/
  waves : Tbl Wave := {}
  /-- STREET_RETRIES; 09 R249; reset 0 -/
  retries : Word := 0
  /-- STREET_CRC_FAILS; 09 R249; reset 0 -/
  crcFails : Word := 0
  /-- retries of the present map interval; 09 R248; reset 0 -/
  mapRetries : Nat := 0
  /-- hold beats charged to this street at the receiver in the interval; 09 R248; reset 0 -/
  mapHolds : Nat := 0
  /-- CRC failures of the interval; 09 R248; reset 0 -/
  mapCrcFails : Nat := 0
deriving DecidableEq, Repr, Inhabited

/-- State of a ring (R240). -/
inductive RingState where
  | locked | tracking | slipped | down
deriving DecidableEq, Repr, Inhabited

/-- The 2-bit code of LOCK_STATE (R249). -/
def RingState.code : RingState → Nat
  | .locked => 0 | .tracking => 1 | .slipped => 2 | .down => 3

/-- One lane group: the 16 rings of one lane at one plaza end (R241 to R245, R263 to R270). -/
structure LaneGroup where
  /-- ring states; 09 R249; reset LOCKED -/
  rings : Tbl RingState := {}
  /-- loop outputs u, 16 bits each; 09 R241; reset 0 -/
  outputs : Tbl Nat := {}
  /-- heater codes, 16 bits each, never readable; 09 R241, 10 R264; reset 0 -/
  codes : Tbl Nat := {}
  /-- crosstalk matrix C, rows of 7 entries in Q2.14, ring i entry k at 7 × i + k; 09 R241; reset 0 (set by calibration) -/
  matrix : Tbl Int := {}
  /-- heater gain G in codes per K; 09 R242; reset 0 (set by calibration) -/
  gain : Nat := 0
  /-- modulator bias codes of the transmit rings, 12 bits each, never readable; 10 R263, R264; reset 0 (set by calibration; per part: log 101) -/
  bias : Tbl Nat := {}
  /-- receiver offset codes of the receive rings, 10 bits each, never readable; 10 R263, R264; reset 0 (set by calibration; per part: log 101) -/
  offsets : Tbl Nat := {}
  /-- thermometry constant T_cal in 1/128 °C; 09 R245, 10 R265; reset 0 (set by calibration; per part: log 101) -/
  tcal : Int := 0
  /-- thermometry constant H_cal, in codes of the mean heater power; 09 R245, 10 R265; reset 0 (set by calibration; per part: log 101) -/
  hcal : Nat := 0
  /-- thermometry constant g in codes per K; 09 R245, 10 R265; reset 0 (set by calibration; per part: log 101) -/
  thermoGain : Nat := 0
  /-- first filter of the feed-forward term, in 2^-16 K; 09 R242; reset 0 -/
  ff1 : Int := 0
  /-- second filter of the feed-forward term, in 2^-16 K; 09 R242; reset 0 -/
  ff2 : Int := 0
  /-- the feed-forward term added to every u, in codes; 09 R242; reset 0 -/
  ffTerm : Int := 0
  /-- consecutive updates with the lock error above 12 GHz, by ring; 09 R240; reset 0 -/
  errRun : Tbl Nat := {}
  /-- failed relocks of each slipped ring; 09 R244; reset 0 -/
  relocks : Tbl Nat := {}
  /-- LOCK_THERMO; 09 R245; reset invalid -/
  thermo : Option Half := none
  /-- CAL_GROUP_STATUS marked, last calibration failed plausibility; 10 R269; reset false -/
  marked : Bool := false
  /-- AUTO_OFF; 10 R269; reset false -/
  autoOff : Bool := false
  /-- a recalibration is demanded and waits for a recess; 10 R267; reset false -/
  pending : Bool := false
  /-- a recalibration of the group runs; 10 R268; reset false -/
  running : Bool := false
  /-- consecutive failed recalibrations; 10 R269; reset 0 -/
  failRun : Nat := 0
  /-- number of the calibration whose values are in force; 10 R268; reset 0 -/
  calNumber : Nat := 0
  /-- time in ns at which the demand was raised; 08 R211; reset 0 -/
  demandAt : Nat := 0
  /-- slips of the map interval; 09 R248; reset 0 -/
  mapSlips : Nat := 0
  /-- retries of the map interval; 09 R248; reset 0 -/
  mapRetries : Nat := 0
  /-- largest lock error of the interval in 0.1 GHz; 09 R248; reset 0 -/
  mapErr : Nat := 0
  /-- worst ring states of the interval; 09 R248; reset LOCKED -/
  mapRings : Tbl RingState := {}
deriving DecidableEq, Repr, Inhabited

/-- One end of a training unit (R400, R407 to R415). -/
structure TrainEnd where
  /-- trained map of the last training by frames, 0 while not trained; none where the unit is as bring-up or a reset of its die trained it;
  16 R407; reset none -/
  map : Option (BitVec 16) := none
  /-- an attempt runs; 16 R411; reset false -/
  training : Bool := false
  /-- the attempt, 1 to 3; 16 R412; reset 0 -/
  attempt : Nat := 0
  /-- this end's own lane-good map from the last wire test; 16 R407; reset 0xFFFF -/
  good : BitVec 16 := 0xFFFF
  /-- the peer's map received in this attempt; 16 R411; reset none -/
  peer : Option (BitVec 16) := none
  /-- this end has sent DONE; 16 R411; reset false -/
  sentDone : Bool := false
  /-- the peer has sent DONE; 16 R411; reset false -/
  peerDone : Bool := false
  /-- FALLBACK; 16 R415; reset 0 -/
  fallback : Bool := false
  /-- DOWN; 16 R413; reset 0 -/
  down : Bool := false
  /-- repair maps by position: marked wires learnt in service; 16 R409, R414; reset none -/
  wires : Tbl (List Nat) := {}
  /-- repair maps by position: fuses and repair log; 16 R402; reset none (per part: DESIGN CHOICE, log 4) -/
  fused : Tbl (List Nat) := {}
deriving DecidableEq, Repr, Inhabited

/-- The Boulevard and its bonds: block PBL. -/
structure Boulevard where
  /-- ARB_SEL; 09 R249; reset 0 -/
  arbSel : Word := 0
  /-- REQ_SEL; 09 R249; reset 0 -/
  reqSel : Word := 0
  /-- TT_INDEX; 09 R249; reset 0 -/
  ttIndex : Word := 0
  /-- STREET_SEL; 09 R249; reset 0 -/
  streetSel : Word := 0
  /-- LOCK_SEL; 09 R249; reset 0 -/
  lockSel : Word := 0
  /-- MAP_SEQ; 09 R249; reset 0 -/
  mapSeq : Word := 0
  /-- MAP_ACK; 09 R249; reset 0 -/
  mapAck : Word := 0
  /-- MAP_LOST; 09 R249; reset 0 -/
  mapLost : Word := 0
  /-- MAP_CTRL; 09 R249; reset 0 -/
  mapCtrl : Word := 0
  /-- MAP_DETAIL0 to MAP_DETAIL31; 09 R249; reset 0 -/
  mapDetail : Tbl Word := {}
  /-- window MAP0, 256 KiB, bytes by offset; 09 R249; reset 0 -/
  map0 : List Byte := []
  /-- window MAP1, 256 KiB; 09 R249; reset 0 -/
  map1 : List Byte := []
  /-- maps completed: the number of the next one; 09 R246; reset 0 -/
  mapNext : Nat := 0
  /-- second of the last EV_BLVD_MAP_LOST; 09 R246; reset none -/
  mapLostSec : Option Nat := none
  /-- package time at the start of the map interval in ns; 09 R247; reset 0 -/
  mapStart : Nat := 0
  /-- STEP_CURRENT at the start of the interval; 09 R247; reset 0 -/
  mapStep : Word64 := 0
  /-- RUNNING for the whole interval so far; 09 R247; reset false -/
  mapRunning : Bool := false
  /-- arbiters, kind × 2^16 + plaza × 2^8 + unit; 09 R231; reset as Arbiter -/
  arbs : Tbl Arbiter := {}
  /-- streets, source × 32 + destination; 09 R213; reset as Street -/
  streets : Tbl Street := {}
  /-- lane groups, end × 2^24 + plaza × 2^16 + lane; 09 R241; reset as LaneGroup -/
  lanes : Tbl LaneGroup := {}
  /-- rows whose flits are arriving at a shallot, by plaza × 2^16 + pod × 16 + slot: the first row of a wide pair; 09 R229;
  reset none -/
  firstHalf : Tbl (Option Row) := {}
  /-- times in ns of the last CRC failures of a wavelength's half-group at its receiver, by street × 64 + wavelength, at most
  16; 16 R403; reset none -/
  halfFails : Tbl (List Nat) := {}
  /-- accepted flits that wait for the rest of their row, by street: wavelength and flit; 09 R218, R229; reset none -/
  rxBuf : Tbl (List (Nat × Flit)) := {}
  /-- half-groups whose interface group is suspect, 2 × (street × 64 + wavelength), plus 1 at the destination; 16 R403; reset none -/
  suspects : List Nat := []
  /-- interface groups disabled beyond their spares, plaza × 2^12 + direction × 2^11 + group; 09 R227; reset none -/
  groupsDown : List Nat := []
  /-- BOND_SEL; 16 R417; reset 0 -/
  bondSel : Word := 0
  /-- BOND_TRAIN_COUNT; 16 R417; reset 0 -/
  trainCount : Word := 0
  /-- BOND_LOG_PENDING: repair-log writes refused by temperature that wait; 16 R402, R417; reset none -/
  logPending : List (Nat × Nat) := []
  /-- BOND_LOG[31:16]; 16 R417; reset 0 -/
  logged : Nat := 0
  /-- training ends by end × 2^24 + unit number; 16 R400; reset as TrainEnd -/
  ends : Tbl TrainEnd := {}
  /-- group that carries the sideband, by sideband: plaza × 2 + direction of a die, 2^16 + pod × 2 + direction of a row path, 2^17 + pod ×
  2 + direction of a private channel; 16 R408; reset 0 -/
  sideband : Tbl Nat := {}
  /-- streets trained since the last reset that reached them; 16 R411; reset false -/
  trained : Bool := false
deriving DecidableEq, Repr, Inhabited

end Sys2Proof.Machine
end

