-- ==== Sys2Proof/Machine/StateCond.lean ====
section
/-! DEFINITION. The state of the conductor pair and the umpire: block COND (chapter 15). -/
namespace Sys2Proof.Machine

/-- Conductor states (R398), in code order. -/
inductive CondState where
  | off | active | standby | failed | resync | lockedOut
deriving DecidableEq, Repr, Inhabited

/-- The 3-bit code of a conductor state (R398). -/
def CondState.code : CondState → Nat
  | .off => 0 | .active => 1 | .standby => 2 | .failed => 3 | .resync => 4 | .lockedOut => 5

/-- An output as a stage receives it (R381). -/
structure CondOut where
  /-- stage -/
  stage : Nat := 0
  /-- OSEQ -/
  oseq : Word := 0
  /-- payload -/
  payload : List Byte := []
deriving DecidableEq, Repr, Inhabited

/-- One conductor (R379 to R394). -/
structure Conductor where
  /-- COND_STATUS.C0_STATE or C1_STATE; 15 R398; reset OFF (0b000) -/
  state : CondState := .off
  /-- CLAIM_C0 or CLAIM_C1, 16 bits; 15 R382, R384; reset 0 (written at the end of bring-up: DESIGN CHOICE 0 before, log 4) -/
  claim : Half := 0
  /-- SELF_FAULT of the present interval; 15 R386; reset 0 -/
  selfFault : Bool := false
  /-- BIST_FAIL that the next heartbeat carries; 15 R386, R393; reset 0 -/
  bistFail : Bool := false
  /-- INPUT_LATE that the next heartbeat carries; 15 R380; reset 0 -/
  inputLate : Bool := false
  /-- RESYNC_READY; 15 R386, R392; reset 0 -/
  resyncReady : Bool := false
  /-- ISEQ of the inputs consumed in the interval, in order; 15 R386; reset none -/
  consumed : List Word64 := []
  /-- outputs issued in the interval, in order; 15 R386; reset none -/
  issued : List CondOut := []
  /-- the heartbeat of the interval that the umpire awaits, as received; 15 R387; reset none -/
  heartbeat : Option (BitVec 192) := none
  /-- time in ns of the last failure within the last 24 h; 15 R392; reset none -/
  failedAt : Option Nat := none
deriving DecidableEq, Repr, Inhabited

/-- An input on its way to the conductors (R379). -/
structure CondInput where
  /-- ISEQ -/
  iseq : Word64 := 0
  /-- input stage: the plaza where the input arises -/
  plaza : Nat := 0
  /-- delivery cycle a + 160 -/
  due : Nat := 0
  /-- consumed by C0 -/
  got0 : Bool := false
  /-- consumed by C1 -/
  got1 : Bool := false
deriving DecidableEq, Repr, Inhabited

/-- One output stage (R381 to R385, R395, R397). -/
structure OutStage where
  /-- claim register of C0; 15 R382; reset 0 (log 4) -/
  claim0 : Half := 0
  /-- claim register of C1; 15 R382; reset 0 (log 4) -/
  claim1 : Half := 0
  /-- last OSEQ accepted, none before the first (OSEQ starts at 0); 15 R382; reset none -/
  last : Option Word := none
  /-- hold buffer of at most 64 entries: the output and its conductor; 15 R383; reset empty -/
  held : List (Bool × CondOut) := []
  /-- a LAG alarm was sent for the present filling; 15 R383; reset false -/
  lagged : Bool := false
  /-- the stage still holds the claims of before the switch-over in progress; 15 R388; reset false -/
  claimDue : Bool := false
  /-- the conductor whose late outputs count as stale; 15 R383; reset none -/
  oldActive : Option Bool := none
deriving DecidableEq, Repr, Inhabited

/-- A switch-over in progress (R388). -/
structure SwitchOver where
  /-- cycle of the decision -/
  decided : Nat := 0
  /-- cause code of LAST_SWITCH -/
  cause : Nat := 0
  /-- the new active -/
  newActive : Bool := false
  /-- largest hold-buffer occupancy -/
  held : Nat := 0
deriving DecidableEq, Repr, Inhabited

/-- What the umpire counts for the next health report (R394). -/
structure HealthCount where
  compared : Nat := 0
  delivered : Nat := 0
  tests : Nat := 0
  maxHeld : Nat := 0
  late0 : Nat := 0
  late1 : Nat := 0
deriving DecidableEq, Repr, Inhabited

/-- The conductor pair and the umpire: block COND. -/
structure Cond where
  /-- C0; reset as Conductor -/
  c0 : Conductor := {}
  /-- C1; reset as Conductor -/
  c1 : Conductor := {}
  /-- COND_STATUS.ACTIVE: true when C1 is active; 15 R398; reset 0 -/
  active : Bool := false
  /-- COND_STATUS.UMPIRE_LOST; 15 R390; reset 0 -/
  umpireLost : Bool := false
  /-- MODE, 32 bits with [0] COMPARE; 15 R395, R398; reset 0 -/
  mode : Word := 0
  /-- comparison is in force: MODE.COMPARE with both conductors running; 15 R395; reset false -/
  comparing : Bool := false
  /-- SWITCH_COUNT; 15 R398; reset 0 -/
  switches : Word := 0
  /-- LAST_SWITCH; 15 R398; reset 0 -/
  lastSwitch : Word := 0
  /-- STALE_REJECTS; 15 R383; reset 0 -/
  stale : Word := 0
  /-- INPUT_LATE_COUNT; 15 R380; reset 0 -/
  lateCount : Word := 0
  /-- BIST_STATUS[23:16], last test index; 15 R393; reset 0 -/
  bistIndex : Nat := 0
  /-- BIST_STATUS[7:0]; 15 R393; reset 0 -/
  bistFails : BitVec 8 := 0
  /-- RESYNC_US; 15 R392; reset 0 -/
  resyncUs : Word := 0
  /-- TWIN_STATUS[3:0], pairs in twin mode; 15 R396; reset 0 -/
  twins : BitVec 4 := 0
  /-- TWIN_STATUS[19:16]: S(2n+1) holds the higher twin claim; 15 R397; reset 0 -/
  twinHigh : BitVec 4 := 0
  /-- TWIN_STATUS[15:12], S(2n+1) DEGRADED; 15 R397; reset 0 -/
  degradedOdd : BitVec 4 := 0
  /-- TWIN_STATUS[11:8], S(2n) DEGRADED; 15 R397; reset 0 -/
  degradedEven : BitVec 4 := 0
  /-- twin reports of the running step, by shallot: digest and TWIN_FAULT; 15 R396; reset none -/
  twinReports : Tbl (Option (Word64 × Bool)) := {}
  /-- HEALTH0 to HEALTH7; 15 R394; reset 0 -/
  health : Tbl Word := {}
  /-- counts for the next report; 15 R394; reset 0 -/
  counts : HealthCount := {}
  /-- next ISEQ; 15 R379; reset 0 -/
  iseq : Word64 := 0
  /-- inputs on their way; 15 R379; reset none -/
  inputs : List CondInput := []
  /-- output stages 0–2 and 8–39; 15 R381; reset as OutStage -/
  stages : Tbl OutStage := {}
  /-- the interval m whose heartbeats the umpire awaits; 15 R386; reset 0 -/
  interval : Nat := 0
  /-- switch-over in progress; 15 R388; reset none -/
  switching : Option SwitchOver := none
  /-- a comparison mismatch waits for SELF_FAULT of its interval or the next: stage and interval; 15 R395; reset none -/
  mismatch : Option (Nat × Nat) := none
  /-- time in ns of the last umpire tick; 15 R390; reset 0 -/
  lastTick : Nat := 0
  /-- index of the standby's next self-test; 15 R393; reset 0 -/
  bistNext : Nat := 0
deriving DecidableEq, Repr, Inhabited

end Sys2Proof.Machine
end

