-- ==== Sys2Proof/Machine/StateNet.lean ====
section
/-! DEFINITION. The state of the gateways: Ethernet sub-ports, scheduled streams, the service endpoint (chapter 12) and
Reach (chapter 13). -/
namespace Sys2Proof.Machine

/-- One sub-port of a gateway (R291 to R293). -/
structure SubPort where
  /-- aligned PMD lanes of the port, 8 bits, held at its sub-port 0; 12 R314; reset 0 -/
  lanes : BitVec 8 := 0
  /-- PORT_STATUS.UP; 12 R293, R314; reset 0 -/
  up : Bool := false
  /-- PORT_STATUS.MACSEC, secure channels live; 12 R314; reset 0 -/
  macsec : Bool := false
  /-- RX_FRAMES; 12 R314; reset 0 -/
  rx : Word := 0
  /-- TX_FRAMES; 12 R314; reset 0 -/
  tx : Word := 0
  /-- RX_DROPS; 12 R314; reset 0 -/
  drops : Word := 0
  /-- FEC_UNCORR; 12 R314; reset 0 -/
  fec : Word := 0
  /-- MACsec: packet number last accepted, by receive secure channel × 2 + secure association; 12 R295; reset none -/
  lastPn : Tbl Nat := {}
  /-- MACsec: packet number last sent on the transmit secure channel; 12 R295; reset 0 -/
  txPn : Nat := 0
  /-- time in ns at which the sub-port came up; 12 R307; reset 0 -/
  upAt : Nat := 0
  /-- second of the last EV_NET_MACSEC_FAIL; 12 R315; reset none -/
  macsecSec : Option Nat := none
deriving DecidableEq, Repr, Inhabited

/-- The route in force of a destination (R307). -/
structure RouteState where
  /-- ROUTE_STATUS.ACTIVE, 7 when none is up; 12 R314; reset 0 -/
  active : Nat := 0
  /-- ROUTE_STATUS.REROUTES, 16 bits; 12 R314; reset 0 -/
  moves : Nat := 0
deriving DecidableEq, Repr, Inhabited

/-- A scheduled packet sent and not acknowledged (R304). -/
structure SchedOut where
  /-- stream number -/
  stream : Nat := 0
  /-- STEP -/
  step : Word64 := 0
  /-- SEQ -/
  seq : Nat := 0
  /-- COUNT -/
  count : Nat := 0
  /-- data bytes -/
  data : List Byte := []
  /-- not sent yet -/
  unsent : Bool := true
deriving DecidableEq, Repr, Inhabited

/-- What has arrived of a scheduled stream (R303, R304). -/
structure SchedIn where
  /-- stream number -/
  stream : Nat := 0
  /-- STEP -/
  step : Word64 := 0
  /-- COUNT -/
  count : Nat := 0
  /-- SEQ values received -/
  got : List Nat := []
deriving DecidableEq, Repr, Inhabited

/-- An admitted call (R310). -/
structure Call where
  /-- session identifier -/
  session : Nat := 0
  /-- call number -/
  call : Word64 := 0
  /-- the serving step -/
  step : Word64 := 0
  /-- the slot i -/
  slot : Nat := 0
  /-- the caller's address -/
  src : BitVec 128 := 0
deriving DecidableEq, Repr, Inhabited

/-- A reply of LENGTH 0 that leaves at the next commit (R312). -/
structure CallRefusal where
  /-- session identifier -/
  session : Nat := 0
  /-- call number -/
  call : Word64 := 0
  /-- STATUS: 1 busy, 2 refused -/
  status : Nat := 0
  /-- the caller's address -/
  src : BitVec 128 := 0
deriving DecidableEq, Repr, Inhabited

/-- The Reach header fields that travel (R321). -/
structure ReachHdr where
  /-- OP -/
  op : Nat := 0
  /-- FLAGS -/
  flags : Half := 0
  /-- ENGINE -/
  engine : Nat := 0
  /-- AOP -/
  aop : Nat := 0
  /-- STATUS -/
  status : Nat := 0
  /-- HFLAG -/
  hflag : BitVec 4 := 0
  /-- SEQ -/
  seq : Word := 0
  /-- LENGTH -/
  length : Nat := 0
  /-- REGION -/
  region : Nat := 0
  /-- OFFSET -/
  offset : Nat := 0
  /-- KEY -/
  key : Word64 := 0
  /-- STEP -/
  step : Word64 := 0
  /-- MSG -/
  msg : Word := 0
  /-- COUNT -/
  count : Nat := 0
  /-- TALLY -/
  tally : Word := 0
deriving DecidableEq, Repr, Inhabited

/-- A request that holds a slot of its source engine (R316, R336). -/
structure ReachReq where
  /-- engine 0–31 -/
  engine : Nat := 0
  /-- destination package -/
  peer : Nat := 0
  /-- header as sent -/
  hdr : ReachHdr := {}
  /-- data bytes as sent -/
  data : List Byte := []
  /-- local region and offset of a load -/
  lregion : Nat := 0
  loffset : Nat := 0
  /-- DONE of the operation, and whether this is its last open packet -/
  done : Word := 0
  /-- number of the operation (its first SEQ), by which packets of one operation are found -/
  opSeq : Word := 0
  /-- the step that issued a load, or whose commit released a store -/
  step : Word64 := 0
deriving DecidableEq, Repr, Inhabited

/-- The receive window of one source address and engine (R333). -/
structure ReachWin where
  /-- base B, 32 bits; 13 R333; reset 0 -/
  base : Word := 0
  /-- 4,096 bits; 13 R333; reset 0 -/
  bits : BitVec 4096 := 0
deriving DecidableEq, Repr, Inhabited

/-- An accepted store or atomic that waits for its boundary, or a DEP store that waits for lower SEQ values (R327 to R329). -/
structure Stamped where
  /-- source package -/
  src : Nat := 0
  /-- header -/
  hdr : ReachHdr := {}
  /-- data -/
  data : List Byte := []
  /-- the step before which it applies; 0 where it waits only for lower SEQ values -/
  step : Word64 := 0
  /-- it waits for lower SEQ values only (R329) -/
  dep : Bool := false
deriving DecidableEq, Repr, Inhabited

/-- A stored reply of a returning atomic (R335). -/
structure StoredReply where
  /-- source package -/
  src : Nat := 0
  /-- engine -/
  engine : Nat := 0
  /-- SEQ -/
  seq : Word := 0
  /-- old values, at most 512 bytes -/
  data : List Byte := []
deriving DecidableEq, Repr, Inhabited

/-- A flag that is held at a tally (R340 to R342). -/
structure HeldFlag where
  /-- plaza and index of the tally -/
  plaza : Nat := 0
  index : Nat := 0
  /-- source package and engine -/
  src : Nat := 0
  engine : Nat := 0
  /-- SEQ of the FLAG packet -/
  seq : Word := 0
  /-- COUNT -/
  count : Nat := 0
  /-- REGION, OFFSET and MSG of the FLAG packet, which its replies carry (R322) -/
  region : Nat := 0
  offset : Nat := 0
  msg : Word := 0
  /-- the event of R342 was raised -/
  raised : Bool := false
deriving DecidableEq, Repr, Inhabited

/-- A request that waits in a forwarding gateway to be combined (R345). -/
structure Combining where
  /-- header of the first -/
  hdr : ReachHdr := {}
  /-- destination package -/
  dst : Nat := 0
  /-- combined operands -/
  data : List Byte := []
  /-- originals: source package, engine, SEQ -/
  origs : List (Nat × Nat × Word) := []
  /-- the 2 µs are over, or the first was forwarded at once (LOAD): the SEQ it was sent with -/
  sent : Option Word := none
  /-- LOAD: the 2 µs are over, and no other joins it (R345) -/
  closed : Bool := false
deriving DecidableEq, Repr, Inhabited

/-- One gateway: blocks GW0 and GW1. -/
structure Gateway where
  /-- PORT_SEL; 12 R314; reset 0 -/
  portSel : Word := 0
  /-- RESENDS; 12 R314; reset 0 -/
  resends : Word := 0
  /-- ROUTE_SEL; 12 R314; reset 0 -/
  routeSel : Word := 0
  /-- PTP_OFFSET in ps; 12 R314; reset 0 -/
  ptpOffset : Word := 0
  /-- PTP_STATUS[7:4], sub-port in the time-receiver role, 0xF none; 12 R314; reset 0 -/
  ptpPort : BitVec 4 := 0
  /-- the sub-port in the time-receiver role, by its number in the package; 12 R297; reset 0 -/
  ptpSub : Nat := 0
  /-- PTP_STATUS[1], time transmitter; 12 R314; reset 0 -/
  ptpMaster : Bool := false
  /-- PTP_STATUS[0], locked; 12 R314; reset 0 -/
  ptpLocked : Bool := false
  /-- SVC_ADMITTED; 12 R314; reset 0 -/
  svcAdmitted : Word := 0
  /-- SVC_BUSY; 12 R314; reset 0 -/
  svcBusy : Word := 0
  /-- SVC_REJECTED; 12 R314; reset 0 -/
  svcRejected : Word := 0
  /-- JOURNAL_DGRAMS; 12 R314; reset 0 -/
  dgrams : Word := 0
  /-- JOURNAL_WITHHELD; 12 R314; reset 0 -/
  withheld : Word := 0
  /-- 65,536 tallies; 13 R337; reset 0 -/
  tallies : Tbl Tally := {}
  /-- ENGINE_SEL; 13 R348; reset 0 -/
  engineSel : Word := 0
  /-- SENT_COUNT by engine; 13 R348; reset 0 -/
  sent : Tbl Word := {}
  /-- RESENT_COUNT by engine; 13 R348; reset 0 -/
  resent : Tbl Word := {}
  /-- REFUSED_TX; 13 R348; reset 0 -/
  refusedTx : Word := 0
  /-- BUSY_TX; 13 R348; reset 0 -/
  busyTx : Word := 0
  /-- DUPLICATES; 13 R348; reset 0 -/
  duplicates : Word := 0
  /-- COMBINED_COUNT; 13 R348; reset 0 -/
  combined : Word := 0
  /-- FENCE_TIMEOUTS; 13 R348; reset 0 -/
  fenceTimeouts : Word := 0
  /-- LATE_COUNT; 13 R348; reset 0 -/
  late : Word := 0
  /-- BAD_PACKETS; 13 R348; reset 0 -/
  badPackets : Word := 0
  /-- request slots held, oldest first; 13 R316; reset none -/
  slots : List ReachReq := []
  /-- requests that wait for a free slot, oldest first; 13 R316; reset none -/
  queue : List ReachReq := []
  /-- next SEQ by engine × 2,048 + destination package; 13 R333; reset 0 -/
  nextSeq : Tbl Word := {}
  /-- next MSG by engine; 13 R339; reset 0 -/
  nextMsg : Tbl Word := {}
  /-- the stamp buffer of 32 MiB; 13 R328; reset empty -/
  stamped : List Stamped := []
  /-- the reply store of 16,384 replies; 13 R335; reset empty -/
  replies : List StoredReply := []
  /-- refused requests whose replies are due 2 µs later: destination package and header; 13 R326; reset none -/
  refusals : List (Nat × ReachHdr) := []
  /-- flags held at tallies; 13 R341; reset none -/
  heldFlags : List HeldFlag := []
  /-- requests in passing; 13 R345; reset none -/
  combining : List Combining := []
  /-- own SEQ of combined requests by destination; 13 R345; reset 0 -/
  combineSeq : Tbl Word := {}
  /-- second of the last EV_NET_REACH_REFUSED; 13 R350; reset none -/
  refusedSec : Option Nat := none
deriving DecidableEq, Repr, Inhabited

/-- A frame of a sub-port: kind of traffic, destination address, the UDP ports of a journal datagram, payload (R294, R308). -/
structure Frame where
  sub : Nat := 0
  kind : Nat := 0
  dst : Nat := 0
  /-- source and destination UDP port of a journal datagram (R308) -/
  udp : Option (Nat × Nat) := none
  bytes : List Byte := []
deriving DecidableEq, Repr, Inhabited

/-- What the two gateways share: sub-ports, routes, scheduled streams, sessions of the endpoint, and block SYNC. -/
structure Net where
  /-- gateways G0 and G1; reset as Gateway -/
  gw : Tbl Gateway := {}
  /-- sub-ports, (port × 8 + sub-port) with port 0–15; reset as SubPort -/
  ports : Tbl SubPort := {}
  /-- routes in force by destination; 12 R307; reset as RouteState -/
  routes : Tbl RouteState := {}
  /-- scheduled packets not acknowledged; 12 R304; reset none -/
  schedOut : List SchedOut := []
  /-- scheduled streams received; 12 R303; reset none -/
  schedIn : List SchedIn := []
  /-- admitted calls whose reply has not left; 12 R310, R311; reset none -/
  calls : List Call := []
  /-- replies of calls not admitted, until the next commit; 12 R312; reset none -/
  callRefusals : List CallRefusal := []
  /-- last admitted call by session; 12 R309; reset none -/
  lastCall : Tbl (Option Word64) := {}
  /-- frames that wait while FREEZE of their egress port is 1; 09 R237, 12 R299; reset none -/
  egress : List Frame := []
  /-- the package time base minus its free-running time, in ns; 12 R297; reset 0 -/
  timeOffset : Int := 0
  /-- by stream: the period up to which its window is taken by packets that left; 12 R300; reset 0 -/
  schedBusy : Tbl Nat := {}
  /-- sub-ports that change their mode when the sweep in progress ends; 12 R313; reset none -/
  sweepDown : List Nat := []
  /-- receive windows of the target by source package × 256 + engine; 13 R333; reset B = 0 -/
  wins : Tbl ReachWin := {}
  /-- TALLY_SEL; 13 R349; reset 0 -/
  tallySel : Word := 0
  /-- RELEASES; 13 R349; reset 0 -/
  releases : Word := 0
deriving DecidableEq, Repr, Inhabited

end Sys2Proof.Machine
end

