-- ==== Sys2Proof/Machine/StateHost.lean ====
section
/-! DEFINITION. The state of the package as a whole (block TOP), of the host interface (block HOSTIF, chapter 14), of the
event log (chapter 19) and what the package has sent out. -/
namespace Sys2Proof.Machine

/-- The package states (R15), in the code order of R356. -/
inductive PkgState where
  | off | parked | bringup | idle | loaded | running | sweeping | faulted
deriving DecidableEq, Repr, Inhabited

/-- The 3-bit code of a package state (R356). -/
def PkgState.code : PkgState → Nat
  | .off => 0 | .parked => 1 | .bringup => 2 | .idle => 3 | .loaded => 4 | .running => 5 | .sweeping => 6 | .faulted => 7

/-- Command status codes (R11). -/
inductive Status where
  | ok | badArgument | unknownCommand | stateRefused | claimed | authFailed | quorumPending | temperatureBlocked
  | imageInvalid | claimConflict | identityMismatch
deriving DecidableEq, Repr, Inhabited

/-- The 8-bit code of a status (R11). -/
def Status.code : Status → Nat
  | .ok => 0 | .badArgument => 1 | .unknownCommand => 2 | .stateRefused => 3 | .claimed => 4 | .authFailed => 5
  | .quorumPending => 6 | .temperatureBlocked => 7 | .imageInvalid => 8 | .claimConflict => 9 | .identityMismatch => 10

/-- The path that sent a command (R347, R365): the host block, a Mews port, or Reach. -/
inductive CmdPath where
  | host
  | mews (port : Nat)
  /-- a STAGE_LOAD over Reach (R347): source package and header -/
  | reach (src : Nat) (h : ReachHdr)
deriving DecidableEq, Repr, Inhabited

/-- A command that runs (R364, R365). -/
structure RunningCmd where
  /-- the path -/
  path : CmdPath := .host
  /-- the opcode of the command block; 0 for a Mews request of its own -/
  opcode : Nat := 0
  /-- MEWS: the opcode of the request (R481); 0 on the host path -/
  mewsOp : Nat := 0
  /-- the twelve arguments -/
  args : List Word := []
  /-- MEWS: header TAG, CRED and SEQ that the response copies (R478) -/
  tag : Half := 0
  cred : Byte := 0
  seq : Word64 := 0
  /-- ACCEPT mask of the command (R366) -/
  accept : Nat := 0
deriving DecidableEq, Repr, Inhabited

/-- The state of one host window in the run (R360 to R363). -/
structure WindowState where
  /-- count n, 64 bits; 14 R360; reset 0 -/
  n : Word64 := 0
  /-- microseconds waited for this window in this step; 14 R363; reset 0 -/
  waited : Nat := 0
  /-- EV_HOST_WINDOW_WAIT raised in this step; 14 R363; reset false -/
  waitRaised : Bool := false
  /-- input: the producer word reached n + 1 and the pull runs; output: there is room and the push runs; reset false -/
  moving : Bool := false
  /-- the transfer of this step has been made; reset false -/
  moved : Bool := false
deriving DecidableEq, Repr, Inhabited

/-- What the configuration space of the function reads as (R351): it never changes but for the grade. -/
structure PciFunction where
  /-- Device ID -/
  device : Nat := 0x9616
  /-- Subsystem ID: by the grade -/
  subsystem : Nat := 0x000A
  /-- class code: processing accelerator -/
  cls : Nat := 0x120000
  /-- physical and virtual functions -/
  physical : Nat := 1
  virtual : Nat := 0
  /-- BAR0: bytes, 64-bit, prefetchable -/
  bar0 : Nat × Bool × Bool := (2 ^ 26, true, false)
  /-- BAR2 -/
  bar2 : Nat × Bool × Bool := (2 ^ 36, true, true)
  /-- BAR4 is implemented -/
  bar4 : Bool := false
  /-- MSI-X vectors -/
  vectors : Nat := 64
  /-- largest payload and read request in bytes -/
  maxPayload : Nat := 512
  maxRead : Nat := 4096
deriving DecidableEq, Repr, Inhabited

/-- The host interface: block HOSTIF, the PCI Express function and MSI-X (chapter 14). -/
structure HostIf where
  /-- CMD_OPCODE; 14 R377; reset 0 -/
  opcode : Word := 0
  /-- CMD_ARG0 to CMD_ARG11; 14 R377; reset 0 -/
  args : Tbl Word := {}
  /-- CMD_STATUS.BUSY; 14 R368; reset 0 -/
  busy : Bool := false
  /-- CMD_STATUS.DONE; 14 R368; reset 0 -/
  done : Bool := false
  /-- CMD_STATUS.ABORTED; 14 R368; reset 0 -/
  aborted : Bool := false
  /-- CMD_STATUS.OTHER_PATH; 14 R368; reset 0 -/
  otherPath : Bool := false
  /-- CMD_STATUS.ACCEPT, 8 bits; 14 R368; reset 0 -/
  accept : BitVec 8 := 0
  /-- CMD_STATUS.STATE, 3 bits; 14 R368; reset 0 -/
  stateCode : BitVec 3 := 0
  /-- CMD_STATUS.STATUS, 8 bits; 14 R368; reset 0 -/
  status : BitVec 8 := 0
  /-- CMD_OVERRUN; 14 R364; reset 0 -/
  overrun : Word := 0
  /-- CMD_RESULT0 to CMD_RESULT7; 14 R377; reset 0 -/
  results : Tbl Word := {}
  /-- REFUSE_COUNT; 14 R366; reset 0 -/
  refuseCount : Word := 0
  /-- LAST_REFUSED; 14 R366; reset 0 -/
  lastRefused : Word := 0
  /-- BAR2_TARGET; 14 R358; reset 0 -/
  bar2Target : Word := 0
  /-- BAR2_OFFSET; 14 R358; reset 0 -/
  bar2Offset : Word := 0
  /-- BAR2_DROPS; 14 R359; reset 0 -/
  bar2Drops : Word := 0
  /-- BAR_ERRORS; 14 R355; reset 0 -/
  barErrors : Word := 0
  /-- WINDOW_WAIT_US; 14 R363; reset 0 -/
  windowWaitUs : Word := 0
  /-- LINK_STATUS.UP; 14 R377; reset 0 -/
  linkUp : Bool := false
  /-- the link went down, so that the next training is raised; 14 R378; reset false -/
  linkLost : Bool := false
  /-- LINK_STATUS.FLIT; 14 R377; reset 0 -/
  linkFlit : Bool := false
  /-- LINK_STATUS width; 14 R377; reset 0 -/
  linkWidth : BitVec 4 := 0
  /-- LINK_STATUS rate; 14 R377; reset 0 -/
  linkRate : BitVec 4 := 0
  /-- the IDE link stream has its keys; 14 R354; reset false -/
  ideLink : Bool := false
  /-- the 4 selective IDE streams that have their keys; 14 R354; reset 0 -/
  ideSel : BitVec 4 := 0
  /-- draw numbers of the IDE keys, link stream at 0 and selective streams at 1 to 4; 14 R354; reset 0 -/
  ideKeys : Tbl Nat := {}
  /-- WINDOW_SEL; 14 R377; reset 0 -/
  windowSel : Word := 0
  /-- the 64 windows; 14 R360; reset as WindowState -/
  windows : Tbl WindowState := {}
  /-- MSI-X table, 64 vectors of 4 words, word 3 holds the mask bit; 14 R357; reset 0 with every vector masked (PRESUMED: the
  PCI-SIG standard, log 5) -/
  msix : Tbl Word := {}
  /-- pending-bit array; 14 R357; reset 0 -/
  pba : Word64 := 0
  /-- PERST# is deasserted; 14 R352; reset false -/
  perstHigh : Bool := false
  /-- the function is ready and serves configuration requests; 14 R352; reset false -/
  ready : Bool := false
  /-- the function is in D3hot; 14 R353; reset false -/
  d3hot : Bool := false
  /-- the command that runs, of either path; 14 R365; reset none -/
  running : Option RunningCmd := none
  /-- words of windows that wait for the link to be written, oldest first: address and value; 14 R353, R360, R361; reset none -/
  lateWords : List (Nat × Nat) := []
  /-- second in which EV_HOST_BAR2_DROP was last raised; 14 R359; reset none -/
  lastDrop : Option Nat := none
deriving DecidableEq, Repr, Inhabited

/-- An event record (R485) before its CRC. -/
structure EventRec where
  /-- SEQ, 64 bits -/
  seq : Word64 := 0
  /-- TIME in ns, 64 bits -/
  time : Word64 := 0
  /-- STEP, 64 bits -/
  step : Word64 := 0
  /-- CODE, 16 bits -/
  code : Half := 0
  /-- plaza 0 to 26, or 31 for the package -/
  plaza : BitVec 5 := 0
  /-- unit, 11 bits -/
  unit : BitVec 11 := 0
  /-- STEP_VALID -/
  stepValid : Bool := false
  /-- HOST_LOSS -/
  hostLoss : Bool := false
  /-- MEWS_LOSS -/
  mewsLoss : Bool := false
  /-- DETAIL, at most 28 bytes -/
  detail : List Byte := []
deriving DecidableEq, Repr, Inhabited

/-- The event log: block EVENT but its Mews status (R485 to R487). -/
structure EventLog where
  /-- the ring of 8,192 records, by SEQ mod 8,192, none where empty; 19 R485; reset empty (kept over resets while VDD_AON holds) -/
  ring : Tbl (Option EventRec) := {}
  /-- HEAD, SEQ of the newest record; 19 R487; reset 0 (empty when VDD_AON comes up) -/
  head : Word64 := 0
  /-- HOST_TAIL in force; 19 R486; reset 0 -/
  hostTail : Word64 := 0
  /-- HOST_TAIL_LO as last written; 19 R487; reset 0 -/
  hostTailLo : Word := 0
  /-- HOST_LOST; 19 R487; reset 0 -/
  hostLost : Word := 0
  /-- EVENT_CTRL.IRQ_EN; 19 R487; reset 0 -/
  irqEn : Bool := false
  /-- the Mews tail; 19 R486; reset 0 -/
  mewsTail : Word64 := 0
  /-- the loss count of the Mews tail; 19 R486; reset 0 -/
  mewsLost : Word := 0
  /-- the 10 µs hold-off runs; 19 R487; reset false -/
  holdOff : Bool := false
  /-- a signal is held back; 19 R487; reset false -/
  irqPending : Bool := false
deriving DecidableEq, Repr, Inhabited

/-- What the package sends to the outside, in order of sending (the model's own log of outputs, no register). -/
inductive Out where
  /-- MSI-X: the vector is signalled -/
  | msix (vector : Nat)
  /-- the completion of a host read -/
  | readData (bytes : List Byte)
  /-- Completer Abort of a host read (R355), or the completion status of a failed memory read (R283) -/
  | completerAbort
  /-- bytes written into host memory -/
  | hostWrite (addr : Nat) (bytes : List Byte)
  /-- a Mews response on a port: header, body and AUTH as R478 lays them down -/
  | mews (port : Nat) (message : List Byte)
  /-- a data object on the DOE mailbox (18 R451) -/
  | doe (bytes : List Byte)
  /-- an MCTP control response on a port -/
  | mctp (port : Nat) (bytes : List Byte)
  /-- flits on a street: source and destination plaza, street-local wavelength, flit -/
  | flit (src dst wave : Nat) (f : Flit)
  /-- a network frame payload out of a sub-port of a gateway: kind of traffic, destination package or address, bytes -/
  | net (gw port : Nat) (kind : Nat) (dst : Nat) (bytes : List Byte)
  /-- a journal datagram out of a sub-port of a gateway: UDP source and destination port, destination address, bytes (R308) -/
  | udp (gw port : Nat) (sport dport dst : Nat) (bytes : List Byte)
  /-- a forecast frame on LFPn -/
  | lfp (n : Nat) (frame : BitVec 24)
  /-- a voltage set point in mV sent to the regulator of VDD_ADn -/
  | avs (n mv : Nat)
  /-- a sideband frame word of a training end -/
  | sideband (frame : Word64)
deriving DecidableEq, Repr

end Sys2Proof.Machine
end

