-- ==== Sys2Proof/Machine/StateImage.lean ====
section
/-! DEFINITION. The configuration image as the package holds it once loaded (chapter 08), with the records that chapters 12
and 13 lay down. -/
namespace Sys2Proof.Machine

/-- A record of a section: kind, placement, offset of the record in the image, and its bytes after the 8-byte header. -/
structure Rec where
  /-- KIND -/
  kind : Nat := 0
  /-- PLACE -/
  place : Nat := 0
  /-- offset of the record in the image -/
  off : Nat := 0
  /-- bytes from offset 8 on -/
  body : List Byte := []
deriving DecidableEq, Repr, Inhabited

/-- A placement (R198). -/
structure Placement where
  /-- SHALLOTS -/
  shallots : BitVec 8 := 0
  /-- TWIN -/
  twin : BitVec 4 := 0
  /-- POD_MAP, 512 bits per shallot -/
  pods : Tbl (BitVec 512) := {}
deriving DecidableEq, Repr, Inhabited

/-- A memory region (R203). -/
structure Region where
  /-- KIND: 0 data, 1 journal, 2 checkpoint, 3 tag pages, 4 outbound, 5 service -/
  kind : Nat := 0
  /-- FLAGS -/
  flags : BitVec 8 := 0
  /-- STACKS -/
  stackMask : BitVec 16 := 0
  /-- INTERLEAVE -/
  interleave : BitVec 8 := 0
  /-- BASE -/
  base : Nat := 0
  /-- SIZE in bytes -/
  size : Nat := 0
  /-- REACH_KEY -/
  key : Word64 := 0
deriving DecidableEq, Repr, Inhabited

/-- A host window (R205). -/
structure Window where
  /-- WINDOW -/
  num : Nat := 0
  /-- FLAGS -/
  flags : BitVec 8 := 0
  /-- MSIX -/
  msix : Nat := 0
  /-- PERIOD -/
  period : Nat := 1
  /-- PHASE -/
  phase : Nat := 0
  /-- HOST_ADDR -/
  addr : Nat := 0
  /-- SEQ_ADDR -/
  seqAddr : Nat := 0
  /-- bytes of the window (SIZE, with 0 standing for 4 GiB) -/
  size : Nat := 0
  /-- REGION -/
  region : Nat := 0
  /-- REGION_OFFSET -/
  regionOffset : Nat := 0
deriving DecidableEq, Repr, Inhabited

/-- A claim (R206). -/
structure Claim where
  /-- RESOURCE -/
  resource : Nat := 0
  /-- FEATURE -/
  feature : Nat := 0
  /-- INDEX -/
  index : Nat := 0
  /-- COUNT -/
  count : Nat := 0
  /-- PARAM -/
  param : Nat := 0
  /-- offset of the record in the image -/
  off : Nat := 0
deriving DecidableEq, Repr, Inhabited

/-- A Reach operation entry (R318). -/
structure ReachOp where
  /-- engine 0–31 -/
  engine : Nat := 0
  /-- KIND, the step kind -/
  kind : Nat := 0
  /-- TRIGGER -/
  trigger : Nat := 0
  /-- OP -/
  op : Nat := 0
  /-- AOP -/
  aop : Nat := 0
  /-- HFLAG -/
  hflag : Nat := 0
  /-- PEER -/
  peer : Nat := 0
  /-- LREGION -/
  lregion : Nat := 0
  /-- RREGION -/
  rregion : Nat := 0
  /-- LENGTH -/
  length : Nat := 0
  /-- LOFFSET -/
  loffset : Nat := 0
  /-- ROFFSET -/
  roffset : Nat := 0
  /-- KEY -/
  key : Word64 := 0
  /-- TALLY -/
  tally : Word := 0
  /-- DONE -/
  done : Word := 0
deriving DecidableEq, Repr, Inhabited

/-- A port mode (R292). -/
structure PortMode where
  /-- MODE -/
  mode : Nat := 0
  /-- MACSEC -/
  macsec : Bool := false
deriving DecidableEq, Repr, Inhabited

/-- One route of a destination (R306). -/
structure RouteEntry where
  /-- sub-port, port × 8 + sub-port -/
  subport : Nat := 0
  /-- next-hop MAC address -/
  mac : BitVec 48 := 0
  /-- the destination's IPv6 address -/
  ip : BitVec 128 := 0
deriving DecidableEq, Repr, Inhabited

/-- A scheduled stream: a gate entry of a port schedule (R300). -/
structure Stream where
  /-- sub-port of the schedule -/
  subport : Nat := 0
  /-- CYCLE in periods -/
  cycle : Nat := 1
  /-- STREAM -/
  num : Nat := 0
  /-- DIR, 0 send or 1 receive -/
  dir : Nat := 0
  /-- ENGINE -/
  engine : Nat := 0
  /-- PEER -/
  peer : Nat := 0
  /-- REGION -/
  region : Nat := 0
  /-- START -/
  start : Nat := 0
  /-- LENGTH in periods -/
  length : Nat := 0
  /-- BYTES per step -/
  bytes : Nat := 0
  /-- ROFFSET -/
  roffset : Nat := 0
deriving DecidableEq, Repr, Inhabited

/-- The service endpoint (chapter 12). -/
structure Endpoint where
  /-- UDP_PORT -/
  udpPort : Nat := 0
  /-- SUBPORT -/
  subport : Nat := 0
  /-- SESSIONS -/
  sessions : Nat := 0
  /-- CALLS -/
  calls : Nat := 0
  /-- PAYLOAD -/
  payload : Nat := 0
  /-- PERIOD -/
  period : Nat := 1
  /-- PHASE -/
  phase : Nat := 0
  /-- DELAY -/
  delay : Nat := 0
  /-- REQ_REGION -/
  reqRegion : Nat := 0
  /-- REPLY_REGION -/
  replyRegion : Nat := 0
  /-- DEPTH -/
  depth : Nat := 1
deriving DecidableEq, Repr, Inhabited

/-- A recess point (R211). -/
structure RecessPoint where
  /-- PERIOD -/
  period : Nat := 1
  /-- PHASE -/
  phase : Nat := 0
  /-- MAX_US -/
  maxUs : Nat := 0
  /-- ALLOW -/
  allow : BitVec 8 := 0
deriving DecidableEq, Repr, Inhabited

/-- A heat profile of one shallot and step kind (R210): segments (START_BEAT, POWER, WAKE). -/
structure Profile where
  /-- shallot -/
  sh : Nat := 0
  /-- step kind -/
  kind : Nat := 0
  /-- segments -/
  segs : List (Nat × Nat × Nat) := []
deriving DecidableEq, Repr, Inhabited

/-- The parts of the image that the package keeps beside its pods' tables. -/
structure Image where
  /-- DIGEST, 32 bytes -/
  digest : List Byte := []
  /-- placements, from 0 -/
  placements : List Placement := []
  /-- KINDS -/
  kinds : Nat := 1
  /-- SEQ, the step kind of each sequence position -/
  seq : List Nat := [0]
  /-- records of pods (PROGRAM section), which a change of placement reads again (R201) -/
  podRecs : List Rec := []
  /-- TIMETABLE records: placement, kind, plaza, unit, 4,096 entries -/
  timetables : List (Nat × Nat × Nat × Nat × List Nat) := []
  /-- observers, from a first index -/
  observers : List (Nat × Entry128) := []
  /-- STREET_USE masks: plaza, masks by lane -/
  streetUse : List (Nat × List Nat) := []
  /-- regions by number -/
  regions : Tbl (Option Region) := {}
  /-- CKPT_BASE -/
  ckptBase : Nat := 0
  /-- CKPT_ROWS -/
  ckptRows : Nat := 0
  /-- port modes by port 0–15 -/
  portModes : Tbl (Option PortMode) := {}
  /-- addresses by sub-port: MAC and IPv6 -/
  addrs : Tbl (Option (BitVec 48 × BitVec 128)) := {}
  /-- the domain: members, this package's index, the lead D in µs -/
  domain : Option (Nat × Nat × Nat) := none
  /-- routes by destination index: primary, then up to 4 alternates -/
  routes : Tbl (List RouteEntry) := {}
  /-- scheduled streams -/
  streams : List Stream := []
  /-- Reach UDP port, FENCE_US and STAGE_KEY -/
  reach : Option (Nat × Nat × Word64) := none
  /-- Reach operation entries in entry order -/
  reachOps : List ReachOp := []
  /-- engines that have an operation list -/
  reachEngines : List Nat := []
  /-- the journal port: sub-port, own UDP port, address and UDP port of the collector -/
  journalPort : Option (Nat × Nat × BitVec 128 × Nat) := none
  /-- claims in record order -/
  claims : List Claim := []
  /-- windows in record order -/
  windows : List Window := []
  /-- the endpoint -/
  endpoint : Option Endpoint := none
  /-- heat profiles by placement -/
  profiles : List (Nat × Profile) := []
  /-- recess points -/
  recess : List RecessPoint := []
deriving DecidableEq, Repr, Inhabited

/-- READ, WRITE, ATOMIC, EXPORT, SCHEDULED, SESSION and WRAP flags of a region (R203). -/
def Region.session (r : Region) : Bool := r.flags.getLsbD 0
def Region.exported (r : Region) : Bool := r.flags.getLsbD 1
def Region.scheduled (r : Region) : Bool := r.flags.getLsbD 2
def Region.canRead (r : Region) : Bool := r.flags.getLsbD 3
def Region.canWrite (r : Region) : Bool := r.flags.getLsbD 4
def Region.canAtomic (r : Region) : Bool := r.flags.getLsbD 5
def Region.wrap (r : Region) : Bool := r.flags.getLsbD 6

/-- Is the window an output window (R205)? -/
def Window.isOutput (w : Window) : Bool := w.flags.getLsbD 0
/-- EXT_GCM -/
def Window.extGcm (w : Window) : Bool := w.flags.getLsbD 1
/-- IRQ on push -/
def Window.irq (w : Window) : Bool := w.flags.getLsbD 2
/-- Is the window active in step k (R205)? -/
def Window.active (w : Window) (k : Nat) : Bool := w.period != 0 && k % w.period == w.phase

/-- Does a claim cover an index of a resource (R206)? -/
def Claim.covers (c : Claim) (res idx : Nat) : Bool :=
  c.resource == res && decide (c.index ≤ idx) && decide (idx < c.index + c.count)

/-- The feature that claims an index of a resource in an image. -/
def Image.claimOf (i : Image) (res idx : Nat) : Option Claim := (i.claims.filter (fun c => c.covers res idx)).head?

/-- The step kind of step k (R198, SEQ[k mod L]). -/
def Image.kindOf (i : Image) (k : Nat) : Nat := (i.seq[k % i.seq.length]?).getD 0

/-- The image loader and its registers: block IMAGE (R191 to R212). -/
structure Loader where
  /-- LOAD_STATUS.LOADED with the image that is loaded; 08 R212; reset none -/
  image : Option Image := none
  /-- LOAD_STATUS.CHECK, 4 bits; 08 R212; reset 0 -/
  check : Nat := 0
  /-- LOAD_STATUS.STATUS, 8 bits; 08 R212; reset 0 -/
  status : Nat := 0
  /-- DETAIL_RES; 08 R212; reset 0 -/
  detailRes : Word := 0
  /-- DETAIL_INDEX; 08 R212; reset 0 -/
  detailIndex : Word := 0
  /-- DETAIL_FEAT; 08 R212; reset 0 -/
  detailFeat : Word := 0
  /-- DETAIL_OFFSET, 64 bits; 08 R212; reset 0 -/
  detailOffset : Word64 := 0
  /-- ACTIVE, 3 bits; 08 R212; reset 0 -/
  active : Nat := 0
  /-- REFUSE_COUNT; 08 R212; reset 0 -/
  refuseCount : Word := 0
  /-- STAGING_SIZE in MiB, 16 bits; 08 R192, R212; reset 0 (set by bring-up) -/
  stagingMiB : Nat := 0
  /-- the two staging halves, bytes by offset, unlisted bytes read 0 (DESIGN CHOICE, log 3); 08 R191; reset 0 -/
  half0 : Tbl Byte := {}
  /-- the second staging half; 08 R191; reset 0 -/
  half1 : Tbl Byte := {}
  /-- which half is the active one; 08 R191, R195; reset false (half 0 active, half 1 incoming) -/
  swapped : Bool := false
  /-- the image whose checks have passed and whose writing runs; 08 R195; reset none -/
  writing : Option Image := none
  /-- pods retired by R123 since the last package reset, shallot × 512 + pod; 05 R123; reset none -/
  retired : List Nat := []
deriving DecidableEq, Repr, Inhabited

/-- The incoming half (R191). -/
def Loader.incoming (l : Loader) : Tbl Byte := if l.swapped then l.half0 else l.half1
/-- The active half (R191). -/
def Loader.activeHalf (l : Loader) : Tbl Byte := if l.swapped then l.half1 else l.half0
/-- The loader with another incoming half. -/
def Loader.setIncoming (l : Loader) (t : Tbl Byte) : Loader := if l.swapped then { l with half0 := t } else { l with half1 := t }

end Sys2Proof.Machine
end

