-- ==== Sys2Proof/Machine/StateLamp.lean ====
section
/-! DEFINITION. The state of the lamps and of calibration: block LAMP (chapter 10). -/
namespace Sys2Proof.Machine

/-- Lamp states (R252), in the code order of R271. -/
inductive LampState where
  | active | spareCold | spareWarming | spareReady | crossfading | retired | failed
deriving DecidableEq, Repr, Inhabited

/-- The 3-bit code of a lamp state (R271). -/
def LampState.code : LampState → Nat
  | .active => 0 | .spareCold => 1 | .spareWarming => 2 | .spareReady => 3 | .crossfading => 4 | .retired => 5 | .failed => 6

/-- Is a lamp of this state lit (R252)? -/
def LampState.lit : LampState → Bool
  | .spareCold | .retired | .failed => false
  | _ => true

/-- One lamp (R251 to R262). -/
structure Lamp where
  /-- LAMP_STATUS.STATE; 10 R252, R271; reset ACTIVE for lamps 4b to 4b + 2 and SPARE_COLD for 4b + 3 (per part: DESIGN CHOICE,
  log 4) -/
  state : LampState := .active
  /-- LAMP_STATUS.FEED: the feed served, none where 0b11; 10 R251; reset F0 to F2 for lamps 4b to 4b + 2 -/
  feed : Option Nat := some 0
  /-- LAMP_FADE, the last fade value F in 0.01 dB; 10 R253; reset 0 -/
  fade : Int := 0
  /-- LAMP_DRIVE in 0.1 % of I0, 12 bits; 10 R255; reset 1000 (at I0: DESIGN CHOICE, log 4) -/
  drive : Nat := 1000
  /-- LAMP_P0 in 0.01 mW, 16 bits; 10 R261; reset per part (DESIGN CHOICE 4000, log 4) -/
  p0 : Nat := 4000
  /-- stored P0 in non-volatile memory; 10 R261; reset per part (DESIGN CHOICE 4000, log 4) -/
  storedP0 : Nat := 4000
  /-- I0, commissioning drive current in 0.1 % of the factory current; 10 R255, R261; reset per part (DESIGN CHOICE 1000, log 4) -/
  i0 : Nat := 1000
  /-- stored I0 in non-volatile memory; 10 R261; reset per part (DESIGN CHOICE 1000, log 4) -/
  storedI0 : Nat := 1000
  /-- LAMP_STATUS.P0_PENDING; 10 R261; reset 0 -/
  p0Pending : Bool := false
  /-- a crossfade to this lamp is complete and its output is not measured yet; 10 R261; reset false -/
  p0Due : Bool := false
  /-- LAMP_STATUS.LEVEL, 0 to 5; 10 R254, R271; reset 0 -/
  level : Nat := 0
  /-- consecutive fade values at or below each threshold, by level 1 to 5; 10 R253; reset 0 -/
  runs : Tbl Nat := {}
  /-- the drive control raises: F ≤ −1.0 dB was read and F ≥ −0.5 dB was not since; 10 R255; reset false -/
  raising : Bool := false
  /-- warming tries that failed, 0 to 2; 10 R256; reset 0 -/
  tries : Nat := 0
  /-- a crossfade of this lamp's feed is demanded since this time in ns; 10 R258; reset none -/
  demandAt : Option Nat := none
  /-- the spare of the bank that serves the lamp's crossfade; 10 R257; reset none -/
  bySpare : Option Nat := none
  /-- steps of the crossfade done, 0 to 40; 10 R259; reset 0 -/
  step : Nat := 0
  /-- feed power P_s at the start of the crossfade in 0.01 mW; 10 R259; reset 0 -/
  ps : Nat := 0
deriving DecidableEq, Repr, Inhabited

/-- The lamps and the calibration results: block LAMP. -/
structure Lamps where
  /-- LAMP_SEL; 10 R271; reset 0 -/
  sel : Word := 0
  /-- the 32 lamps; 10 R251; reset as Lamp, with the place in the bank giving state and feed -/
  lamps : Tbl Lamp := {}
  /-- CROSSFADE_COUNT; 10 R271; reset 0 -/
  crossfades : Word := 0
  /-- FORCED_COUNT; 10 R271; reset 0 -/
  forced : Word := 0
  /-- CAL_RESULT.DONE; 10 R271; reset 0 -/
  calDone : Bool := false
  /-- CAL_RESULT.PACKAGE_PASS; 10 R270, R271; reset 0 -/
  packagePass : Bool := false
  /-- CAL_RESULT.PLAZA_PASS, 27 bits; 10 R270, R271; reset 0 -/
  plazaPass : BitVec 27 := 0
  /-- CAL_GROUP_SEL; 10 R271; reset 0 -/
  groupSel : Word := 0
  /-- CAL_FAIL_COUNT; 10 R271; reset 0 -/
  calFails : Word := 0
  /-- phase of the full calibration that runs, 1 to 8; 10 R265; reset 0 (none) -/
  calPhase : Nat := 0
deriving DecidableEq, Repr, Inhabited

/-- A lamp that has not changed since manufacture: its place in the bank gives its role (R251). -/
def lampFresh (n : Nat) : Lamp :=
  if n % 4 = 3 then { state := .spareCold, feed := none } else { feed := some (n % 4) }

end Sys2Proof.Machine
end

