-- ==== Sys2Proof/Machine/StateMem.lean ====
section
/-! DEFINITION. The state of one memory stack with its gate die: block MEM (chapter 11). The bytes of all stacks stand in
State.hbm. -/
namespace Sys2Proof.Machine

/-- An entry of the combining buffer (R284). -/
structure CombineEntry where
  /-- REGION of the first READ -/
  region : Nat := 0
  /-- OFFSET of the first READ, units of 64 B -/
  offset : Nat := 0
  /-- FLITS of the first READ -/
  flits : Nat := 0
  /-- period of the first READ's DRAM access -/
  period : Nat := 0
deriving DecidableEq, Repr, Inhabited

/-- An entry of the undo log (R287). -/
structure UndoEntry where
  /-- stack byte address of the cell -/
  addr : Nat := 0
  /-- old bytes of the cell -/
  old : List Byte := []
  /-- region -/
  region : Nat := 0
deriving DecidableEq, Repr, Inhabited

/-- One memory stack. -/
structure Stack where
  /-- MEM_STATUS.VALID; 11 R289; reset 0 -/
  valid : Bool := false
  /-- MEM_STATUS.DOWN; 11 R274, R289; reset 0 -/
  down : Bool := false
  /-- MEM_STATUS.HOT; 11 R289; reset 0 -/
  hot : Bool := false
  /-- the core temperature last read lies above 95 °C; 11 R290; reset false -/
  above95 : Bool := false
  /-- MEM_STATUS.EPOCH; 11 R288, R289; reset 0 -/
  epoch : Bool := false
  /-- the even session key slot: the draw number of its key; 11 R288; reset empty -/
  keyEven : Option Nat := none
  /-- the odd session key slot; 11 R288; reset empty -/
  keyOdd : Option Nat := none
  /-- the RUN key slot; 11 R288; reset empty -/
  keyRun : Option Nat := none
  /-- MEM_STATUS.SHARE, 7 bits; 11 R284, R289; reset 0x4B -/
  share : Nat := 0x4B
  /-- MEM_STATUS.PC_UP, 7 bits; 11 R289; reset 0 -/
  pcUp : Nat := 0
  /-- MEM_TEMP in 1/128 °C, 16 bits; 11 R289; reset 0 -/
  temp : Half := 0
  /-- CE_COUNT; 11 R289; reset 0 -/
  ce : Word := 0
  /-- ODECC_COUNT; 11 R289; reset 0 -/
  odecc : Word := 0
  /-- UE_COUNT; 11 R289; reset 0 -/
  ue : Word := 0
  /-- ERR_ADDR, 64 bits; 11 R289; reset 0 -/
  errAddr : Word64 := 0
  /-- ERR_INFO; 11 R289; reset 0 -/
  errInfo : Word := 0
  /-- SCRUB_PASSES; 11 R289; reset 0 -/
  scrubPasses : Word := 0
  /-- COMBINE_HITS; 11 R289; reset 0 -/
  combineHits : Word := 0
  /-- COMBINE_FULL; 11 R289; reset 0 -/
  combineFull : Word := 0
  /-- ATOMIC_COUNT; 11 R289; reset 0 -/
  atomics : Word := 0
  /-- A96_OVF_COUNT; 11 R286, R289; reset 0 -/
  a96Ovf : Word := 0
  /-- REPAIR_STATUS[31:16], rows repaired in service; 11 R289; reset 0 -/
  repaired : Nat := 0
  /-- the lost-unit list, at most 256 unit numbers U; 11 R282; reset none -/
  lost : List Nat := []
  /-- WALK_STATUS.ACTIVE; 11 R289; reset 0 -/
  walking : Bool := false
  /-- unit number that the walker visits next; 11 R288, R289; reset 0 -/
  walkUnit : Nat := 0
  /-- combining buffer; 11 R284; reset empty -/
  combine : List CombineEntry := []
  /-- undo log of the step, newest first; 11 R287; reset empty -/
  undo : List UndoEntry := []
  /-- corrected errors per DRAM row in this scrub pass; 11 R282; reset 0 -/
  corrected : Tbl Nat := {}
  /-- rows whose repair waits for a recess; 11 R282; reset none -/
  repairs : List Nat := []
  /-- the stack admits only refresh until it cools below 95 °C; 17 R435; reset false -/
  refreshOnly : Bool := false
deriving DecidableEq, Repr, Inhabited

end Sys2Proof.Machine
end

