-- ==== Sys2Proof/Machine/StatePkg.lean ====
section
/-! DEFINITION. The package as a whole: block TOP, bring-up, resets, the sweep and non-volatile writes (chapters 01, 14,
18, 20, 21), and the package-wide part of PWR, CLK and THERM (chapter 17). -/
namespace Sys2Proof.Machine

/-- A non-volatile write that runs (R440). -/
inductive NvWrite where
  /-- retirement of a pod: shallot, pod (14 R374) -/
  | retire (sh pod : Nat)
  /-- the XMSS signing state: indices below this are used (18 R449) -/
  | xmss (limit : Nat)
  /-- a wire into the repair log: group and wire (16 R402) -/
  | bondLog (unit wire : Nat)
  /-- lamp P0 and I0 (10 R261) -/
  | lampP0 (lamp : Nat)
  /-- life-cycle fuses: target state, and the parameters that follow it (18 R467) -/
  | lifecycle (target : Nat) (params : List Byte)
deriving DecidableEq, Repr

/-- What follows the sweep (R467, R494, R496). -/
inductive AfterSweep where
  /-- IDLE -/
  | idle
  /-- a plaza reset goes on -/
  | plaza (p : Nat)
  /-- a transition out of OWNED writes its fuses -/
  | lifecycle (target : Nat) (params : List Byte)
deriving DecidableEq, Repr, Inhabited

/-- A plaza reset in progress (R496). -/
structure PlazaRst where
  /-- plaza P08–P25 -/
  plaza : Nat := 8
  /-- an image was loaded when it began -/
  loaded : Bool := false
deriving DecidableEq, Repr, Inhabited

/-- The package as a whole. -/
structure Top where
  /-- TOP.IDENTITY, 32 bits; 00 R2; reset 0x01B0_0003 (per part: DESIGN CHOICE grade A, log 4) -/
  identity : Word := 0x01B00003
  /-- TOP.STATE; 14 R356; reset BRINGUP -/
  state : PkgState := .bringup
  /-- time since VDD_AON came up in ns; 19 R485; reset 0 -/
  now : Nat := 0
  /-- time in ns at which the package time base started; 07 R170; reset 0 -/
  timeBase : Nat := 0
  /-- bring-up phase that runs, 1 to 8, where 3 stands for 3 and 4 side by side; 0 when none runs; 20 R489; reset 1 -/
  phase : Nat := 1
  /-- phase 3 has ended; 20 R489; reset false -/
  phase3 : Bool := false
  /-- phase 4 has ended; 20 R489; reset false -/
  phase4 : Bool := false
  /-- PKG_RST# is low; 20 R494; reset false -/
  pkgRst : Bool := false
  /-- VDD_AON and VDD_IO are within tolerance; 17 R426; reset true -/
  aon : Bool := true
  /-- only VDD_IO left its tolerance, so that the time, BOOT and the event ring are kept; 19 R479, R485; reset false -/
  ioOnly : Bool := false
  /-- the bring-up in progress is an UNPARK: from phase 2 on, and the command ends at IDLE; 20 R491; reset false -/
  unparking : Bool := false
  /-- PARK runs; 20 R491; reset false -/
  parking : Bool := false
  /-- phase of the sweep that runs, 1 to 4 (0–2, 2–150, 150–240, 240–250 ms), 0 when none; 18 R462; reset 0 -/
  sweepPhase : Nat := 0
  /-- the read-back of the present sweep found a non-zero word, or a fault came; 18 R465; reset false -/
  sweepBad : Bool := false
  /-- what follows the sweep; 18 R467, 20 R496; reset IDLE -/
  after : AfterSweep := .idle
  /-- plaza reset in progress; 20 R496; reset none -/
  plazaReset : Option PlazaRst := none
  /-- non-volatile writes that run, oldest first; 17 R440; reset none -/
  nv : List NvWrite := []
  /-- FAULTED was entered with the hardware in doubt (15 R391); reset false -/
  doubt : Bool := false
deriving DecidableEq, Repr, Inhabited

/-- Package-wide part of PWR, CLK and THERM (R441). -/
structure PkgPwr where
  /-- CLK_SEL; 17 R441; reset 0 -/
  clkSel : Word := 0
  /-- PWR_SEL; 17 R441; reset 0 -/
  pwrSel : Word := 0
  /-- SLEW_BUDGET; 17 R429, R441; reset 0x0040_0010 -/
  slew : Word := 0x00400010
  /-- PKG_SLEW; 17 R429, R441; reset 0x0100_0040 -/
  pkgSlew : Word := 0x01000040
  /-- credits in the package bucket, in tenths; 17 R429; reset 256 credits -/
  credits : Nat := 2560
  /-- PKG_POWER in W, 16 bits; 17 R441; reset 0 -/
  power : Nat := 0
  /-- RAIL_SEL; 17 R441; reset 0 -/
  railSel : Word := 0
  /-- RAIL_STATUS by rail: current in A × 2^16 + voltage in mV; 17 R441; reset 0 -/
  rails : Tbl Word := {}
  /-- readings in a row outside the total tolerance, at most 3, by rail (16 VDD_AON, 17 VDD_IO 1.8 V, 18 VDD_IO 3.3 V); 17 R426; reset 0 -/
  railRuns : Tbl Nat := {}
  /-- SENSOR_SEL; 17 R441; reset 0 -/
  sensorSel : Word := 0
  /-- temperature sensors by SENSOR_SEL value, none where invalid; 17 R420, R441; reset invalid -/
  sensors : Tbl (Option Half) := {}
  /-- XCHK_SEL; 17 R441; reset 0 -/
  xchkSel : Word := 0
  /-- TH0 to TH3, none where invalid; 17 R439, R441; reset invalid -/
  th : Tbl (Option Half) := {}
  /-- COOLANT_LIMIT; 17 R441; reset 0x0000_1680 -/
  coolant : Word := 0x1680
  /-- management die temperature in 1/128 °C; 17 R440, R441; reset 0 -/
  mgmtTemp : Half := 0
  /-- NV_WINDOW.OPEN; 17 R440, R441; reset 0 -/
  nvOpen : Bool := false
  /-- NV_BLOCKED_COUNT; 17 R440; reset 0 -/
  nvBlocked : Word := 0
  /-- minute of the last EV_HEAT_NV_BLOCKED; 17 R440; reset none -/
  nvMinute : Option Nat := none
  /-- minute of the last EV_HEAT_COOLANT; 17 R439; reset none -/
  coolantMinute : Option Nat := none
deriving DecidableEq, Repr, Inhabited

end Sys2Proof.Machine
end

