-- ==== Sys2Proof/Machine/StateSec.lean ====
section
/-! DEFINITION. The state of security and life-cycle (block SEC, chapter 18) and of the Mews management port (chapter 19). -/
namespace Sys2Proof.Machine

/-- An offer: the key pair of one report (R450). -/
structure Offer where
  /-- OFFER -/
  num : Nat := 0
  /-- number of the draw that made the ML-KEM key pair -/
  draw : Nat := 0
  /-- report bytes 0x000 to 0x6BF -/
  report : List Byte := []
  /-- time in ns at which it was made -/
  made : Nat := 0
deriving DecidableEq, Repr, Inhabited

/-- An open session (R453, R454). -/
structure Session where
  /-- SESSION identifier -/
  id : Nat := 0
  /-- session secret S, 256 bits -/
  secret : Digest := 0
  /-- IMAGE that the OPEN named -/
  image : List Byte := []
  /-- EXPORT_OK -/
  exportOk : Bool := false
deriving DecidableEq, Repr, Inhabited

/-- A two-party change with its first signature (R470). -/
structure PendingChange where
  /-- KIND -/
  kind : Nat := 0
  /-- the digest D that the first owner signed -/
  digest : Digest := 0
  /-- parameters -/
  params : List Byte := []
  /-- index of the first signer's key -/
  signer : Nat := 0
  /-- time in ns of the first signature -/
  since : Nat := 0
deriving DecidableEq, Repr, Inhabited

/-- The way that a HELLO came and its report goes (R451, R481). -/
inductive HelloPath where
  /-- the DOE mailbox -/
  | doe
  /-- a datagram of the service endpoint, from this address -/
  | net (src : BitVec 128)
  /-- ATTEST: port, TAG, CRED and SEQ -/
  | mews (port : Nat) (tag : Half) (cred : Byte) (seq : Word64)
deriving DecidableEq, Repr, Inhabited

/-- A report that waits for the write of the XMSS signing state (R449). -/
structure ReportWait where
  /-- the way back -/
  path : HelloPath := .doe
  /-- NONCE -/
  nonce : List Byte := []
deriving DecidableEq, Repr, Inhabited

/-- Security and life-cycle: block SEC. -/
structure Sec where
  /-- SEC_STATUS.LIFECYCLE, 3 bits; 18 R466, R474; reset per part (DESIGN CHOICE 2 OWNED, log 4) -/
  lifecycle : Nat := 2
  /-- SEC_STATUS.GOVERNANCE: true for ROT_GOVERNED; 18 R468; reset per part (DESIGN CHOICE MEWS_GOVERNED, log 4) -/
  rot : Bool := false
  /-- POLICY, 64 bits; 18 R473; reset per part (DESIGN CHOICE 0, log 4) -/
  policy : Word64 := 0
  /-- registered owner keys by index 0–7, 68 bytes each; 18 R469; reset per part (DESIGN CHOICE keys 0 and 1, log 4) -/
  owners : Tbl (List Byte) := ⟨[(0, List.replicate 68 1), (1, List.replicate 68 2)]⟩
  /-- firmware signer list by index 0–3; 18 R469; reset per part (DESIGN CHOICE key 0, log 4) -/
  fwSigners : Tbl (List Byte) := ⟨[(0, List.replicate 68 3)]⟩
  /-- pending two-party change; 18 R470; reset none -/
  pending : Option PendingChange := none
  /-- CHANGE_COUNTER, 64 bits; 18 R470, R474; reset per part (DESIGN CHOICE 0, log 4) -/
  changes : Word64 := 0
  /-- EPOCH, 64 bits; 18 R460, R474; reset 0 -/
  epoch : Word64 := 0
  /-- the tenant session; 18 R454; reset none -/
  tenant : Option Session := none
  /-- open client sessions; 18 R452; reset none -/
  clients : List Session := []
  /-- identifier of the next session, counted from 1 since the last sweep; 18 R453; reset 1 -/
  nextSession : Nat := 1
  /-- offers, oldest first, at most 64; 18 R450; reset none -/
  offers : List Offer := []
  /-- number of the next offer, from 1 at package reset; 18 R450; reset 1 -/
  nextOffer : Nat := 1
  /-- index of the next device signature; 18 R449; reset per part (DESIGN CHOICE 0, log 4) -/
  xmssNext : Nat := 0
  /-- indices below this are written as used; 18 R449; reset per part (DESIGN CHOICE 0, log 4) -/
  xmssBlock : Nat := 0
  /-- reports that wait for the write of a new index block, oldest first; 18 R449; reset none -/
  waiting : List ReportWait := []
  /-- EV_SEC_XMSS_LOW was raised since package reset; 18 R449; reset false -/
  xmssLow : Bool := false
  /-- SWEEP_COUNT; 18 R474; reset 0 -/
  sweeps : Word := 0
  /-- SEC_STATUS.SWEEP_FAIL; 18 R465; reset 0 -/
  sweepFail : Bool := false
  /-- INTEGRITY_FAILS; 18 R457; reset 0 -/
  integrityFails : Word := 0
  /-- SESSION_REFUSALS; 18 R452; reset 0 -/
  refusals : Word := 0
  /-- second of the last EV_SEC_SESSION_REFUSED; 18 R475; reset none -/
  refusedSec : Option Nat := none
  /-- SEC_STATUS.DEBUG_UNLOCKED; 18 R469; reset 0 -/
  debug : Bool := false
  /-- SEC_STATUS.OLD_SLOT_LIVE; 18 R461; reset 0 -/
  oldLive : Bool := false
  /-- a rotation is drawn and waits for the next step boundary; 18 R460; reset false -/
  rotateDue : Bool := false
  /-- draws taken from the random generator so far, which number its outputs; 18 R445; reset 0 (DESIGN CHOICE, log 2) -/
  draws : Nat := 0
  /-- a health test of the generator failed: no further key is made; 18 R445; reset false -/
  trngFailed : Bool := false
  /-- failed unwraps in a row by plaza; 18 R446; reset 0 -/
  unwrapFails : Tbl Nat := {}
  /-- transport keys by plaza: the draw number of the boot nonce; 18 R444; reset none -/
  transport : Tbl (Option Nat) := {}
  /-- staging key: the draw number; 18 R444; reset none -/
  staging : Option Nat := none
  /-- the device identity key exists; 18 R448; reset per part (DESIGN CHOICE true, log 4) -/
  identity : Bool := true
  /-- renewals of the device identity by the maker; 18 R467; reset per part (DESIGN CHOICE 0, log 4) -/
  identityGen : Nat := 0
  /-- fused minimum SVN of firmware; 20 R498; reset per part (DESIGN CHOICE 0, log 4) -/
  minSvn : Nat := 0
deriving DecidableEq, Repr, Inhabited

/-- A Mews credential slot (R479). -/
structure Cred where
  /-- key of 32 bytes -/
  key : Digest := 0
  /-- role OPERATE; otherwise READ -/
  operate : Bool := false
deriving DecidableEq, Repr, Inhabited

/-- A Mews message of which not every packet has arrived (R477). -/
structure Partial where
  /-- port -/
  port : Nat := 0
  /-- MCTP message tag -/
  tag : Nat := 0
  /-- bytes so far -/
  bytes : List Byte := []
deriving DecidableEq, Repr, Inhabited

/-- The Mews management port and the firmware of the management die. -/
structure Mews where
  /-- BOOT: the number of the draw that made it; 19 R479; reset 0 (drawn when VDD_AON comes up: DESIGN CHOICE, log 2) -/
  boot : Nat := 0
  /-- credential slots 0–15; 19 R479; reset per part (DESIGN CHOICE none, log 4) -/
  creds : Tbl (Option Cred) := {}
  /-- last SEQ accepted by slot since BOOT was drawn, none before the first; 19 R479; reset none -/
  seqs : Tbl (Option Word64) := {}
  /-- last signed SEQ since BOOT, none before the first; 19 R480; reset none -/
  signedSeq : Option Word64 := none
  /-- MEWS_STATUS.DROPS, 16 bits; 19 R483, R487; reset 0 -/
  drops : Nat := 0
  /-- MEWS_STATUS.RECOVERY; 19 R488; reset 0 -/
  recovery : Bool := false
  /-- I3C dynamic address; 19 R476; reset none (SMBus fall-back in use) -/
  i3c : Option (BitVec 7) := none
  /-- MEWS_STATUS.RGMII; 19 R487; reset 0 -/
  rgmii : Bool := false
  /-- requests not yet answered by port 0 RGMII, 1 I3C or SMBus; 19 R483; reset 0 -/
  openReqs : Tbl Nat := {}
  /-- messages in parts; 19 R477; reset none -/
  parts : List Partial := []
  /-- MCTP endpoint identifiers by port; 19 R477; reset 0 (DESIGN CHOICE 0, log 3) -/
  eids : Tbl Nat := {}
  /-- IPv6 addresses added by MGMT_NET_SET, at most 2; 19 R476; reset none -/
  ipv6 : List (BitVec 128) := []
  /-- the 64 MiB firmware buffer by offset; 20 R499; reset 0 (DESIGN CHOICE 0, log 3) -/
  fwBuf : Tbl Byte := {}
  /-- the firmware store by offset; 20 R498; reset per part (DESIGN CHOICE 0 bytes, log 4) -/
  fwStore : Tbl Byte := {}
  /-- the store holds a whole image; without a byte of it listed, the one of manufacture, which is valid; 20 R498, R499; reset per part (DESIGN CHOICE true, log 4) -/
  fwWhole : Bool := true
  /-- blocks of a commit still to write, 0 when none runs; 20 R499; reset 0 -/
  fwLeft : Nat := 0
  /-- digest of the running firmware; 18 R450; reset per part (DESIGN CHOICE 0, log 4) -/
  fwDigest : Digest := 0
  /-- TIME_SOURCE is in force; 19 R481; reset false -/
  timeSource : Bool := false
  /-- second of the last EV_MGMT_AUTH_FAIL; 19 R487; reset none -/
  authSec : Option Nat := none
deriving DecidableEq, Repr, Inhabited

end Sys2Proof.Machine
end

