-- ==== Sys2Proof/Machine/StateStep.lean ====
section
/-! DEFINITION. The state of the step sequencer, the journal writer and the scale tracker (chapters 04 and 07). -/
namespace Sys2Proof.Machine

/-- The phases of STEP_STATUS.PHASE (R163, R188). -/
inductive Phase where
  | idle | start | execute | drain | decide | commit | restore | recess | barrier
deriving DecidableEq, Repr, Inhabited

/-- The code of a phase in STEP_STATUS (R188). -/
def Phase.code : Phase → Nat
  | .idle => 0 | .start => 1 | .execute => 2 | .drain => 3 | .decide => 4 | .commit => 5 | .restore => 6
  | .recess => 7 | .barrier => 8

/-- An observer with its offset and history (R83, R86, R87, R96). -/
structure Observer where
  /-- the 128-bit entry, none where the image gives none; 04 R83; reset none -/
  entry : Option ObserverEntry := none
  /-- current offset d, 6 bits two's complement; 04 R87; reset 0 -/
  d : Int := 0
  /-- history, newest first, up to 16 observations, none where empty; 04 R86; reset none -/
  hist : List (Option Int) := []
  /-- SCALE_STATE.E_LAST; 04 R96; reset 0 -/
  eLast : Int := 0
  /-- SCALE_STATE.EMPTY_LAST; 04 R96; reset 0 -/
  emptyLast : Bool := false
  /-- SCALE_SAT_LAST; 04 R96; reset 0 -/
  satLast : Word := 0
  /-- SCALE_SAT_TOTAL; 04 R96; reset 0 -/
  satTotal : Word := 0
deriving DecidableEq, Repr, Inhabited

/-- A hardware fault that ends an execution (R168). -/
inductive HwFault where
  | memory
  | podRetired
  | reachError
deriving DecidableEq, Repr, Inhabited

/-- Why an execution ends before its last STEP_END (R155, R168, R426, R435). -/
inductive EndCause where
  | hardware (k : HwFault)
  | fence
  | other
deriving DecidableEq, Repr, Inhabited

/-- What the decide phase chose when it does not commit (R66, R67, R90, R155, R168, R169): the restore leads there. -/
inductive Verdict where
  /-- the step fails with a cause of R179: 1 overflow, 2 recoveries spent, 3 ended as R155 gives -/
  | fail (cause : Nat)
  /-- the step runs again, wide (R67, R90) -/
  | rerun
  /-- the step runs again after a hardware fault (R168) -/
  | recover
deriving DecidableEq, Repr, Inhabited

/-- A transfer of the step that has not landed (R161): its source, destination, pod and landing slot. -/
structure Flight where
  /-- source plaza -/
  src : Nat := 0
  /-- destination plaza -/
  dst : Nat := 0
  /-- pod of the landing slot; 0 for a stack -/
  pod : Nat := 0
  /-- landing slot, or the request tag of a stack write -/
  slot : Nat := 0
  /-- a FETCH reply, not a SEND -/
  fetch : Bool := false
  /-- request tag at the stack; 0 for a shallot -/
  tag : Nat := 0
deriving DecidableEq, Repr, Inhabited

/-- What one execution of a step gathers (R64 to R69, R79, R85, R89, R168). -/
structure Execution where
  /-- the execution is wide; 03 R67; reset false -/
  wide : Bool := false
  /-- the execution uses raised offsets; 04 R90; reset false -/
  satRerun : Bool := false
  /-- the execution follows a hardware fault; 07 R168; reset false -/
  recovery : Bool := false
  /-- the execution is the second of R90; reset false -/
  second : Bool := false
  /-- offsets in force, by observer; 04 R74; reset 0 -/
  offs : Tbl Int := {}
  /-- observers raised by R89; reset none -/
  raised : List Nat := []
  /-- a window miss of the step's first execution asked for the wide one; 07 R179; reset false -/
  missCause : Bool := false
  /-- ARITH_FIRST and ARITH_FIRST_BEAT of the lowest shallot that missed; 07 R179; reset 0 -/
  missFirst : Word × Word := (0, 0)
  /-- saturation counts by TENSOR_ID; 02 R35; reset 0 -/
  sats : Tbl Nat := {}
  /-- observations by TENSOR_ID: none where not written, some none where empty; 04 R85; reset none -/
  obs : Tbl (Option (Option Int)) := {}
  /-- beat counts reported by S0 to S7; 07 R163; reset 0 -/
  beats : Tbl Nat := {}
  /-- what follows the restore; 07 R163; reset none -/
  verdict : Option Verdict := none
  /-- a cause that ends the execution; 07 R155, R168; reset none -/
  ending : Option EndCause := none
  /-- an ADD96 of the step left its range (11 R286), or a load of it was refused (13 R332); reset false -/
  failed : Bool := false
  /-- transfers of the step that have not landed; 07 R161, R163; reset none -/
  flights : List Flight := []
deriving DecidableEq, Repr, Inhabited

/-- One journal record as R178 lays it down. -/
structure JRecord where
  /-- STEP -/
  step : Word64 := 0
  /-- SEQ -/
  seq : Word64 := 0
  /-- TYPE -/
  type : Half := 0
  /-- SOURCE -/
  source : Half := 0
  /-- INDEX -/
  index : Word := 0
  /-- payload before padding -/
  payload : List Byte := []
deriving DecidableEq, Repr, Inhabited

/-- What waits until the records that STALL holds back are written (R164, R181). -/
inductive HeldAct where
  /-- the end of a pull: the consumer word of an input window -/
  | window (num : Nat)
  /-- the acknowledgement of an arrival: destination package, kind of traffic, bytes -/
  | packet (peer kind : Nat) (bytes : List Byte)
  /-- step 2 of a commit: the scale tracker -/
  | scale
  /-- the end of a failed step -/
  | failed
deriving DecidableEq, Repr, Inhabited

/-- Events that a step raises at most once (R31, R90, R427, R430, R433, R435). -/
structure StepOnce where
  t2 : Bool := false
  wide : Bool := false
  satRerun : Bool := false
  powerLimit : Bool := false
  wakeDefer : Bool := false
  forecast : List Nat := []
  warning : List Nat := []
  throttle : Bool := false
  stale : List Nat := []
  scaleLimit : List Nat := []
deriving DecidableEq, Repr, Inhabited

/-- The work granted to a recess and not reported done (R176, R211). -/
structure RecessWork where
  /-- fading lamps whose crossfade runs or waits for its spare -/
  lamps : List Nat := []
  /-- lane groups, by end × 2^24 + plaza × 2^16 + lane -/
  lanes : List Nat := []
  /-- other management work, by its duration in µs -/
  other : List Nat := []
deriving DecidableEq, Repr, Inhabited

/-- The step sequencer, journal writer and scale tracker: block STEP. -/
structure StepSeq where
  /-- STEP_COMMITTED, 64 bits; 07 R188; reset 0 -/
  committed : Word64 := 0
  /-- STEP_CURRENT, 64 bits; 07 R188; reset 0 -/
  current : Word64 := 0
  /-- STEP_STATUS.PHASE; 07 R188; reset idle -/
  phase : Phase := .idle
  /-- STEP_STATUS.DONE, 8 bits; 07 R188; reset 0 -/
  done : BitVec 8 := 0
  /-- STEP_STATUS.REPLAY; 07 R183; reset 0 -/
  replay : Bool := false
  /-- a step has started since the image load; 14 R370; reset false -/
  ranLoad : Bool := false
  /-- START gave the start time of the first step and it had not passed; 14 R363, R370; reset false -/
  startTimed : Bool := false
  /-- STEP_STATUS.LAST_RESULT, 2 bits; 07 R188; reset 0 -/
  lastResult : BitVec 2 := 0
  /-- RECOVERY_COUNT; 07 R188; reset 0 -/
  recoveryCount : Word := 0
  /-- BARRIER_SKEW_MAX in ps; 07 R188; reset 0 -/
  skewMax : Word := 0
  /-- DOMAIN_LATE_COUNT; 07 R188; reset 0 -/
  domainLate : Word := 0
  /-- JOURNAL_HEAD, 64 bits; 07 R177, R188; reset 0 -/
  head : Word64 := 0
  /-- JOURNAL_TAIL in force, 64 bits; 07 R177; reset 0 -/
  tail : Word64 := 0
  /-- JOURNAL_TAIL_LO as last written; 07 R188; reset 0 -/
  tailLo : Word := 0
  /-- JOURNAL_GAP_COUNT; 07 R181; reset 0 -/
  gapCount : Word := 0
  /-- JOURNAL_WAIT_US; 07 R181; reset 0 -/
  waitUs : Word := 0
  /-- REPLAY_DROP_COUNT; 07 R183; reset 0 -/
  replayDrops : Word := 0
  /-- SCALE_SEL; 04 R96; reset 0 -/
  scaleSel : Word := 0
  /-- SAT_RERUN_COUNT; 04 R96; reset 0 -/
  satReruns : Word := 0
  /-- SAT_EVENT_COUNT; 04 R96; reset 0 -/
  satEvents : Word := 0
  /-- observers by number; 04 R83; reset as Observer -/
  observers : Tbl Observer := {}
  /-- malformed-element counts by TENSOR_ID; 02 R31; reset 0 -/
  malformed : Tbl Nat := {}
  /-- run seed, 128 bits; 04 R79, 14 R370; reset 0 (DESIGN CHOICE 0, log 3) -/
  seed : BitVec 128 := 0
  /-- the first step of the run; 07 R179; reset 0 -/
  firstStep : Word64 := 0
  /-- a run has begun since the image was loaded (START with CONTINUE needs one); 14 R370; reset false -/
  ran : Bool := false
  /-- armed stop; 14 R371; reset none -/
  stopAt : Option Word64 := none
  /-- number of recoveries of the current step, 0 to 4; 07 R169; reset 0 -/
  recoveries : Nat := 0
  /-- the execution in progress or last ended; 07; reset as Execution -/
  exe : Execution := {}
  /-- events already raised in this step; reset none -/
  once : StepOnce := {}
  /-- the start time of the next step is fixed and its start message sent, in ns; 07 R170; reset none -/
  startAt : Option Nat := none
  /-- tally entries saved by the checkpoint: plaza, index, entry; 07 R166; reset none -/
  tallySave : List (Nat × Nat × Tally) := []
  /-- records that wait under STALL, oldest first; 07 R181; reset none -/
  stalled : List JRecord := []
  /-- time in ns since which a record waits under STALL and its wait is not counted; 07 R181; reset none -/
  stallSince : Option Nat := none
  /-- SEQ of the next record; 07 R178; reset 0 -/
  jseq : Word64 := 0
  /-- the records held in the ring: count of the first byte, and the record; 07 R177; reset none -/
  ring : List (Nat × JRecord) := []
  /-- datagram sequence number of the journal port; 12 R308; reset 0 -/
  dseq : Word64 := 0
  /-- in replay: the journal records still to come, oldest first; 07 R183; reset none -/
  replayLeft : List JRecord := []
  /-- READY held for the next step: member and time t_r in ns; 07 R171; reset none -/
  ready : List (Nat × Nat) := []
  /-- the package's own t_r; 07 R171; reset none -/
  ownReady : Option Nat := none
  /-- a recess that the control plane has granted; 07 R175; reset none -/
  grant : Option RecessKind := none
  /-- recess demands of the management plane that wait; 07 R175, R176; reset none -/
  demands : List Nat := []
  /-- the wait for flits in flight of a forced recess runs; 07 R175; reset false -/
  flitWait : Bool := false
  /-- work of the recess in progress; 07 R176; reset none -/
  work : RecessWork := {}
  /-- STEP_FAILED cause and ARITH_FIRST of the execution that is being restored; 07 R179; reset none -/
  failInfo : Nat × Word := (0, 0)
  /-- the boundary's wire tests are not over, so that its change of placement and its recess wait; 16 R405; reset false -/
  boundaryDue : Bool := false
  /-- a forced recess that waits for a decided switch-over; 01 R22; reset false -/
  forceDue : Bool := false
  /-- what waits behind the records that STALL holds back, oldest first; 07 R164, R181; reset none -/
  heldActs : List HeldAct := []
  /-- a stack tripped outside an execution: the run ends once the commit in progress is complete; 17 R435; reset false -/
  leave : Bool := false
  /-- in replay: a record differed, and the run ends at this step boundary; 07 R184; reset false -/
  mismatch : Bool := false
deriving DecidableEq, Repr, Inhabited

end Sys2Proof.Machine
end

