-- ==== Sys2Proof/Machine/State.lean ====
section
/-! DEFINITION. The state of the whole package, its faults and refusals, and the state right after reset. -/
namespace Sys2Proof.Machine

/-- Which key a 64-byte unit of HBM was written under (11 R288): the draw number of the key and the epoch bit. -/
structure UnitTag where
  /-- draw number of the key, none where nothing was written -/
  key : Option Nat := none
  /-- epoch bit -/
  epoch : Bool := false
deriving DecidableEq, Repr, Inhabited

/-- The state of the MH-9616. -/
structure State where
  /-- the package as a whole; chapters 01, 14, 18, 20, 21; reset as Top -/
  top : Top := {}
  /-- host interface; chapter 14; reset as HostIf -/
  host : HostIf := {}
  /-- event log; chapter 19; reset as EventLog -/
  ev : EventLog := {}
  /-- step sequencer, journal and scale tracker; chapters 04 and 07; reset as StepSeq -/
  seq : StepSeq := {}
  /-- shallots S0 to S7; chapters 03, 05 to 07, 16, 17; reset as Shallot -/
  sh : Tbl Shallot := {}
  /-- the image loader; chapter 08; reset as Loader -/
  img : Loader := {}
  /-- stacks H0 to H15 with their gate dies; chapter 11; reset as Stack -/
  mem : Tbl Stack := {}
  /-- the bytes of the 16 stacks: stack × 2^36 + stack byte address (11 R273, R276), plaintext as the present keys read it;
  unlisted bytes read Config.freeByte (log 6); reset nothing listed -/
  hbm : List Host.Cell := []
  /-- the key that each written 64-byte unit was written under, by stack × 2^30 + unit number; 11 R288; reset none -/
  tags : Tbl UnitTag := {}
  /-- gateways, Ethernet, Reach; chapters 12 and 13; reset as Net -/
  net : Net := {}
  /-- the Boulevard; chapters 09 and 16; reset as Boulevard -/
  blv : Boulevard := {}
  /-- lamps and calibration; chapter 10; reset: lamps by their place in the bank (lampFresh) -/
  lamp : Lamps := { lamps := ⟨(upto 32).filterMap (fun n => if n % 4 = 0 then none else some (n, lampFresh n))⟩ }
  /-- conductors and umpire; chapter 15; reset as Cond -/
  cond : Cond := {}
  /-- security and life-cycle; chapter 18; reset as Sec -/
  sec : Sec := {}
  /-- Mews and firmware; chapters 19 and 20; reset as Mews -/
  mews : Mews := {}
  /-- package-wide clocks, power and heat; chapter 17; reset as PkgPwr -/
  pp : PkgPwr := {}
  /-- the model's own: what has been sent to the outside, oldest first; reset none -/
  out : List Out := []
  /-- the model's own: the counter of free values; reset 0 (DESIGN CHOICE, log 2) -/
  free : Nat := 0
  /-- the model's own: the commands that wait, first in, first out; reset none -/
  pending : List Instr := []
deriving DecidableEq, Repr

/-- Why the machine stops. No meaning of this block stops with a fault: errors of the package are events, counts and
states (chapter 19). -/
inductive Fault where
  /-- raised by no meaning; kept so that the type of faults is not empty; safe -/
  | none
deriving DecidableEq, Repr

/-- Why a command is refused by the model. -/
inductive Refusal where
  /-- the command of this mnemonic has no meaning yet; raised by the dispatch; safe -/
  | notModelled (mnemonic : String)
  /-- a slot command in a form that the image loader refuses (R126, R148): no image can issue it and the spec gives it no
  effect; raised by slot commands; safe -/
  | loaderRefuses
deriving DecidableEq, Repr

/-- The machine right after a package reset: bring-up phase 1 runs and no command waits. -/
def State.reset : State := {}

end Sys2Proof.Machine
end

