-- ==== Sys2Proof/Machine/PodOps.lean ====
section
/-! DEFINITION. The pod's operations on the AD: row buffers and store rows, weight banks, the array, the accumulators
and the snapshot (chapters 03 to 05). Each operation answers the pod and what it reports. -/
namespace Sys2Proof.Machine

/-! ### Pending writes and visibility beats (R102) -/

/-- A bank after a load with tag `fp`: another tag starts it afresh (R108, R109). -/
def Bank.retag (b : Bank) (fp : BitVec 5) : Bank :=
  if b.fpair = fp then b
  else { b with fpair := fp, loadedParts := 0, hasScales := false, hasCmuls := false, src := {} }

/-- An addition into a long accumulator, checked by R59. -/
def Acc.add (a : Acc) (t : Int) : Acc :=
  { v := BitVec.ofInt 192 (a.v.toInt + t),
    ovf := a.ovf || decide (a.v.toInt + t < - p2 191) || decide (p2 191 - 1 < a.v.toInt + t) }

/-- An addition into an A32 lane, checked by R60. -/
def Lane.add (a : Lane) (t : Int) : Lane :=
  { v := BitVec.ofInt 48 (a.v.toInt + t),
    ovf := a.ovf || decide (a.v.toInt + t < - p2 47) || decide (p2 47 - 1 < a.v.toInt + t) }

/-- Add a list of terms to the accumulators from column `c` (R53, R59). -/
def addAccs (accs : Tbl Acc) (c : Nat) : List Int → Tbl Acc
  | [] => accs
  | t :: ts => addAccs (accs.set c ((accs.get c).add t)) (c + 1) ts

/-- Add a list of terms to the lanes from column `c` (R53, R60). -/
def addLanes (lanes : Tbl Lane) (c : Nat) : List Int → Tbl Lane
  | [] => lanes
  | t :: ts => addLanes (lanes.set c ((lanes.get c).add t)) (c + 1) ts

/-- One pending write lands (R102). -/
def Pod.landOne (p : Pod) : PodWrite → Pod
  | .storeRow r v m => { p with store := p.store.mod r.toNat (fun o => rowMerge o v m) }
  | .buf b v => { p with bufs := p.bufs.set b.val v }
  | .bankPart b fp part v src =>
    { p with banks := p.banks.mod b.val (fun k =>
        let k := k.retag fp
        { k with parts := k.parts.set part v, src := k.src.set part src,
                 loadedParts := k.loadedParts ||| BitVec.ofNat 8 (2 ^ part) }) }
  | .bankScales b fp n v =>
    { p with banks := p.banks.mod b.val (fun k =>
        let k := k.retag fp
        { k with scales := (k.scales &&& ~~~ (BitVec.ofNat 2048 (2 ^ (8 * n) - 1))) ||| v, hasScales := true }) }
  | .bankCmuls b fp v =>
    { p with banks := p.banks.mod b.val (fun k => { k.retag fp with cmuls := v, hasCmuls := true }) }
  | .accTerms ts => { p with accs := addAccs p.accs 0 ts }
  | .laneTerms ts => { p with lanes := addLanes p.lanes 0 ts }

/-- Land a list of pending writes in order. -/
def Pod.landList (p : Pod) : List Pend → Pod
  | [] => p
  | e :: es => (p.landOne e.w).landList es

/-- The pod as the slots of beat `b` see it: every write visible from `b` or earlier has landed (R102). -/
def Pod.land (p : Pod) (b : Nat) : Pod :=
  { p with pend := p.pend.filter (fun e => decide (b < e.vis)) }.landList (p.pend.filter (fun e => decide (e.vis ≤ b)))

/-- A pending write takes its place among others by its visibility beat, behind those of the same beat (R102). -/
def insertVis (e : Pend) : List Pend → List Pend
  | [] => [e]
  | x :: l => if e.vis < x.vis then e :: x :: l else x :: insertVis e l

/-- Pending writes by their visibility beats; of one beat, in the order of their issue (R102). -/
def byVis (l : List Pend) : List Pend := l.foldl (fun acc e => insertVis e acc) []

/-- Every pending write lands, each at its visibility beat: the pipeline empties after the last STEP_END (R100, R102). -/
def Pod.landAll (p : Pod) : Pod := { p with pend := [] }.landList (byVis p.pend)

/-- A write on its way, visible from beat `vis`. -/
def Pod.push (p : Pod) (vis : Nat) (w : PodWrite) : Pod := { p with pend := p.pend ++ [{ vis := vis, w := w }] }

/-! ### Tables and addresses -/

/-- The counter that a slot field IDX selects (R107). -/
def Pod.counter (p : Pod) (idx : Fin 4) : Nat :=
  if idx.val = 0 then 0 else (p.lc.get (idx.val - 1)).toNat

/-- The lowest descriptor whose data rows contain store row `r` (R31, R135). A step names a descriptor by a DESC field and by the
rows that its slots touch, so each descriptor that contains a touched row counts as one of the step's (DEDUCED, log 17). -/
def Pod.descOfRow (p : Pod) (r : Nat) : Option Nat :=
  (p.descs.cells.filter (fun c => match c.2 with | some d => descHasRow d r | none => false)).head?.map Prod.fst

/-- Descriptor `i` of the pod; an entry that the image never wrote holds the Reset column of R40 (MULT 1). -/
def Pod.desc (p : Pod) (i : Nat) : Entry128 := (p.descs.get i).getD (BitVec.ofNat 128 0x10000)

/-- TENSOR_ID of the descriptor that holds a store row (R31, R135). -/
def Pod.tidOfRow (p : Pod) (r : Nat) : Option Half := (p.descOfRow r).map (fun i => descTid (p.desc i))

/-- Is a store row one of the image's constant rows (R199)? -/
def Pod.isConst (p : Pod) (r : Nat) : Bool := p.consts.any (fun c => decide (c.1 ≤ r) && decide (r < c.1 + c.2))

/-- The A96 descriptor whose data rows contain `r` (R124, R126). -/
def Pod.a96OfRow (p : Pod) (r : Nat) : Option Entry128 :=
  ((p.descs.cells.filterMap (fun c => c.2)).filter (fun d => descFmt d == .a96 && descHasRow d r)).head?

/-- The two rows that a W96 ROW operation moves in a wide execution (R124); none when it moves one. Rows past the end of the store read as they
stand and are written modulo 4,096 (R70; DESIGN CHOICE, log 109). -/
def Pod.wideRows (p : Pod) (ctx : ExecCtx) (w96 : Bool) (r : Nat) : Option (Nat × Nat) :=
  if ctx.wide && w96 then
    (p.a96OfRow r).map (fun d => (descDataRow d + 2 * (r - descDataRow d), descDataRow d + 2 * (r - descDataRow d) + 1))
  else none

/-- A row buffer as a slot reads it: content that the step has not written is not defined (R98). -/
def Pod.readBuf (p : Pod) (ctx : ExecCtx) (b : Fin 8) : RowBuf :=
  let r := p.bufs.get b.val
  if r.written then r
  else { r with data := Sys2Proof.Config.freeRow ctx.free b.val, ext := Sys2Proof.Config.freeRow ctx.free (8 + b.val) }

/-! ### ROW (R108) -/

/-- The store row that a ROW slot addresses (R107). -/
def Pod.rowAddr (p : Pod) (addr : BitVec 12) (idx : Fin 4) : Nat := (addr.toNat + p.counter idx) % 4096

/-- ROW READ: a store row into a row buffer, visible at t + 2 (R102, R108, R124). -/
def Pod.rowRead (p : Pod) (ctx : ExecCtx) (buf : Fin 8) (w96 : Bool) (r : Nat) : Pod :=
  match p.wideRows ctx w96 r with
  | some (a, b) => p.push (ctx.beat + 2) (.buf buf { data := p.store.get a, ext := p.store.get b, written := true, wide := true })
  | none => p.push (ctx.beat + 2) (.buf buf { p.bufs.get buf.val with data := p.store.get r, written := true, wide := false })

/-- ROW WRITE: a row buffer into a store row, visible at t + 2 (R102, R108, R124). -/
def Pod.rowWrite (p : Pod) (ctx : ExecCtx) (buf : Fin 8) (w96 : Bool) (r : Nat) : Pod :=
  let v := p.readBuf ctx buf
  match p.wideRows ctx w96 r with
  | some (a, b) =>
    (p.push (ctx.beat + 2) (.storeRow (BitVec.ofNat 12 a) v.data (BitVec.allOnes 4096))).push (ctx.beat + 2)
      (.storeRow (BitVec.ofNat 12 b) v.ext (BitVec.allOnes 4096))
  | none => p.push (ctx.beat + 2) (.storeRow (BitVec.ofNat 12 r) v.data (BitVec.allOnes 4096))

/-- ROW ZERO: a row of zeros, visible at t + 2 (R102, R108). -/
def Pod.rowZero (p : Pod) (ctx : ExecCtx) (r : Nat) : Pod :=
  p.push (ctx.beat + 2) (.storeRow (BitVec.ofNat 12 r) 0 (BitVec.allOnes 4096))

/-! ### Format pairs (R110) -/

/-- One row of the format-pair table (R110). -/
structure PairInfo where
  /-- weight format -/
  w : Fmt
  /-- activation format -/
  a : Fmt
  /-- reduction depth K -/
  k : Nat
  /-- output width N -/
  n : Nat
  /-- beats V of one vector -/
  v : Nat
  /-- weight data rows -/
  rows : Nat
  /-- sums into the A32 lanes allowed -/
  a32 : Bool
deriving DecidableEq, Repr

/-- The pair of a code; 0x13 to 0x1F are reserved (R110). -/
def pairOf : Nat → Option PairInfo
  | 0x00 => some ⟨.t2, .i8, 256, 64, 1, 8, true⟩
  | 0x01 => some ⟨.t2, .qb8, 64, 64, 1, 2, false⟩
  | 0x02 => some ⟨.i4, .i4, 128, 64, 1, 8, true⟩
  | 0x03 => some ⟨.u4, .u4, 128, 64, 1, 8, true⟩
  | 0x04 => some ⟨.qb4, .qb4, 128, 64, 1, 8, false⟩
  | 0x05 => some ⟨.i4, .i8, 64, 64, 1, 4, true⟩
  | 0x06 => some ⟨.qb4, .qb8, 64, 64, 1, 4, false⟩
  | 0x07 => some ⟨.i8, .i8, 64, 64, 1, 8, true⟩
  | 0x08 => some ⟨.i8, .u8, 64, 64, 1, 8, true⟩
  | 0x09 => some ⟨.u8, .u8, 64, 64, 1, 8, true⟩
  | 0x0A => some ⟨.qb6, .qb6, 64, 64, 1, 7, false⟩
  | 0x0B => some ⟨.qb6, .qb8, 64, 64, 1, 7, false⟩
  | 0x0C => some ⟨.qb8, .qb8, 64, 64, 1, 8, false⟩
  | 0x0D => some ⟨.qm8, .qb8, 64, 64, 1, 8, false⟩
  | 0x0E => some ⟨.i16, .i8, 32, 64, 2, 8, true⟩
  | 0x0F => some ⟨.i16, .i16, 32, 64, 2, 8, true⟩
  | 0x10 => some ⟨.qb8, .qb16, 32, 64, 2, 4, false⟩
  | 0x11 => some ⟨.qb16, .qb16, 32, 64, 2, 8, false⟩
  | 0x12 => some ⟨.i32, .i32, 32, 32, 4, 8, false⟩
  | _ => none

/-- Weight scale bytes of the tile: one per weight block of a block format (R110). -/
def PairInfo.scaleBytes (p : PairInfo) : Nat := if p.w.isBlock then p.n * (p.k / 32) else 0

/-- Is the bank loaded for its pair (R109)? -/
def Bank.loaded (b : Bank) : Bool :=
  match pairOf b.fpair.toNat with
  | none => false
  | some p => (b.loadedParts.toNat % 2 ^ p.rows == 2 ^ p.rows - 1) && (!p.w.isBlock || b.hasScales) &&
              (p.w != .qm8 || b.hasCmuls)

/-- LOADW: a store row into data part PART of a bank (R108). -/
def Pod.loadW (p : Pod) (ctx : ExecCtx) (bank : Fin 16) (fp : BitVec 5) (part : Nat) (r : Nat) : Pod :=
  p.push (ctx.beat + 2) (.bankPart bank fp part (p.store.get r) (p.descOfRow r))

/-- LOADS: the tile's scale bytes, from byte PART × 64 of the store row (R108). -/
def Pod.loadS (p : Pod) (ctx : ExecCtx) (bank : Fin 16) (fp : BitVec 5) (part : Nat) (r : Nat) : Pod :=
  let n := ((pairOf fp.toNat).map PairInfo.scaleBytes).getD 0
  p.push (ctx.beat + 2) (.bankScales bank fp n (BitVec.ofNat 2048 (bitsOf (p.store.get r).toNat (part * 512) (8 * n))))

/-- LOADC: 64 channel multipliers, from byte PART × 128 of the store row (R108). -/
def Pod.loadC (p : Pod) (ctx : ExecCtx) (bank : Fin 16) (fp : BitVec 5) (part : Nat) (r : Nat) : Pod :=
  p.push (ctx.beat + 2) (.bankCmuls bank fp (BitVec.ofNat 1024 (bitsOf (p.store.get r).toNat (part * 1024) 1024)))

/-! ### ARR STREAM (R52 to R54, R111, R113) -/

/-- A data part as STREAM reads it: a part not loaded since the last other tag is not defined (R98). -/
def Bank.readPart (b : Bank) (free place part : Nat) : Row :=
  if bitAt b.loadedParts.toNat part then b.parts.get part else Sys2Proof.Config.freeRow free (place + part)

/-- Element position `i` of tile block `j`, in the parts of a bank (R44, R111). -/
def Bank.bits (b : Bank) (f : Fmt) (free place j i : Nat) : Nat :=
  rowU f.width (j % f.blocks * 32 + i) (b.readPart free place (j / f.blocks))

/-- The exact sum of 32 element products (R52, R53). -/
def blockProduct (w a : Nat → Int) : Nat → Int
  | 0 => 0
  | n + 1 => blockProduct w a n + w n * a n

/-- The shift s of R54. -/
def alignShift (pr : PairInfo) (bw ba : Int) : Int :=
  (if pr.w.isBlock then bw else 0) + (if pr.a.isBlock then ba else 0) + 64

/-- The term of activation block `i` at column `c`: the aligned block product (R53, R54); no shift on the way to a
lane. -/
def streamTerm (pr : PairInfo) (b : Bank) (act : Row) (scal : Row) (ctx : ExecCtx) (place ofs spos : Nat) (a32 : Bool)
    (c i : Nat) : Int :=
  let j := c * (pr.k / 32) + i
  let p := blockProduct (fun x => pr.w.decodeElem (b.bits pr.w ctx.free place j x)) (fun x => pr.a.elem act ((ofs + i) * 32 + x)) 32
  let p := if pr.w == .qm8 then p * (bitsOf b.cmuls.toNat (16 * c) 16 : Int) else p
  if a32 then p
  else p * p2 (alignShift pr (bexpOf (bitsOf b.scales.toNat (8 * j) 8)) (bexpOf (rowU 8 ((spos + i) % 512) scal))).toNat

/-- The sum of the terms of one column: one ADD stage (R113). -/
def streamColumn (pr : PairInfo) (b : Bank) (act scal : Row) (ctx : ExecCtx) (place ofs spos : Nat) (a32 : Bool) (c : Nat) : Int :=
  sumI ((upto (pr.k / 32)).map (streamTerm pr b act scal ctx place ofs spos a32 c))

/-- The T2 codes 0b10 of one data part that the array reads (R31). -/
def t2CountPart (b : Bank) (free place part : Nat) : Nat :=
  ((upto 2048).filter (fun i => t2Reserved (rowU 2 i (b.readPart free place part)))).length

/-- The reports of T2 codes 0b10 in a tile (R31). -/
def t2Reports (p : Pod) (pr : PairInfo) (b : Bank) (free place : Nat) : List Report :=
  if pr.w == .t2 then
    (upto pr.rows).filterMap (fun part =>
      let n := t2CountPart b free place part
      if n = 0 then none else some (.t2 ((b.src.get part).map (fun i => descTid (p.desc i))) n))
  else []

/-- ARR STREAM issued in beat t: terms reach the accumulators or lanes at the end of beat t + 3 + V (R53, R102, R113). -/
def Pod.stream (p : Pod) (ctx : ExecCtx) (bank : Fin 16) (dbuf sbuf : Fin 8) (ofs sofs : Nat) (a32 : Bool) (idx : Fin 4) :
    Pod × List Report :=
  let b := p.banks.get bank.val
  match pairOf b.fpair.toNat with
  | none => (p, [])
  | some pr =>
    let act := (p.readBuf ctx dbuf).data
    let scal := (p.readBuf ctx sbuf).data
    let spos := (sofs + pr.a.blocks * p.counter idx) % 512
    let ts := (upto pr.n).map (streamColumn pr b act scal ctx (16 + 8 * bank.val) ofs spos a32)
    (p.push (ctx.beat + 4 + pr.v) (if a32 then .laneTerms ts else .accTerms ts),
     t2Reports p pr b ctx.free (16 + 8 * bank.val))

/-! ### ACC sources (R56, R518) -/

/-- A value as its origin's format gives it: an A192 value, or an A32 lane value (R518). -/
inductive SrcVal where
  | a192 (v : Int) (ovf : Bool)
  | a32 (v : BitVec 48) (ovf : Bool)
deriving DecidableEq, Repr

/-- Value `i` of a source (R518). -/
def Pod.srcVal (p : Pod) (src : AccSrc) (i : Nat) : SrcVal :=
  match src with
  | .accs => .a192 (p.accs.get i).v.toInt (p.accs.get i).ovf
  | .lanes => .a32 (p.lanes.get i).v (p.lanes.get i).ovf
  | .snap =>
    if p.snapLanes then .a32 ((p.snap.get i).v.setWidth 48) (p.snap.get i).ovf
    else .a192 (p.snap.get i).v.toInt (p.snap.get i).ovf

/-- The value as an A192 integer by class E, or the overflow that stops it: true for A192, false for A32 (R59, R60, R518). -/
def SrcVal.toA192 : SrcVal → Except Bool Int
  | .a192 v false => .ok v
  | .a192 _ true => .error true
  | .a32 v ovf => if laneOk v && !ovf then .ok (expandPlain v.toInt) else .error false

/-- The value as an A32 integer: lanes by R60, A192 values by class O (R51, R116, R518). -/
def SrcVal.toA32 : SrcVal → Except Bool Int
  | .a192 v false => match Sys2Proof.Machine.toA32 v with
    | some q => .ok q
    | none => .error false
  | .a192 _ true => .error true
  | .a32 v ovf => if laneOk v && !ovf then .ok v.toInt else .error false

/-- The report of an overflow that stopped a value. -/
def ovfReport (a192 : Bool) (tid : Half) (col : Nat) : Report := if a192 then .a192 tid col else .a32 tid col

/-- Zero `n` values of a source from column `c`, clearing their flags (CLR of R115). -/
def Pod.clearSrc (p : Pod) (src : AccSrc) (c n : Nat) : Pod :=
  match src with
  | .accs => { p with accs := (fromN c n).foldl (fun a i => a.set i default) p.accs }
  | .lanes => { p with lanes := (fromN c n).foldl (fun a i => a.set i default) p.lanes }
  | .snap => p

/-- ACC CLEAR (R116). -/
def Pod.accClear (p : Pod) (src : AccSrc) : Pod := p.clearSrc src 0 64

/-- ACC SNAP: all 64 values and flags into the snapshot, then the source is zeroed (R116). -/
def Pod.accSnap (p : Pod) (src : AccSrc) : Pod :=
  match src with
  | .accs => { p with snap := p.accs, snapLanes := false, accs := {} }
  | .lanes =>
    { p with snap := (upto 64).foldl (fun t i => t.set i { v := (p.lanes.get i).v.signExtend 192, ovf := (p.lanes.get i).ovf }) {},
             snapLanes := true, lanes := {} }
  | .snap => p

/-- Apply CLR to the values read (R115). -/
def Pod.clrIf (p : Pod) (clr : Bool) (src : AccSrc) (c n : Nat) : Pod := if clr then p.clearSrc src c n else p

/-! ### ACC RQ (R74 to R85) -/

/-- The x of one source value: a × M, or the overflow that stops it (R78). -/
def rqX (e : RqEntry) (v : SrcVal) : Except Bool Int :=
  match v.toA192 with
  | .ok a => .ok (a * (e.mult : Int))
  | .error b => .error b

/-- One element of a plain or A32 target: the bits to write, whether it saturated; none when it overflows A32 (R78). -/
def rqPlain (f : Fmt) (sym : Bool) (q : Int) : Option (Nat × Bool) :=
  if f == .a32 then (if f.minV false ≤ q ∧ q ≤ f.maxV then some (f.encodeElem q, false) else none)
  else some (f.encodeElem (f.clamp sym q).1, (f.clamp sym q).2)

/-- The draw of the element at buffer position j (R79). -/
def rqDraw (ctx : ExecCtx) (e : RqEntry) (tid : Half) (k j : Nat) : Nat := chard ctx.seed ctx.step tid (lidxOf e k j)

/-- The running result of an RQ: the buffer row, the scale row, saturations, faults. -/
structure RqAcc where
  data : Row
  scal : Row
  sats : Nat
  faults : List Report

/-- One element of a plain or A32 target goes into the buffer (R78). -/
def rqPlainStep (p : Pod) (ctx : ExecCtx) (e : RqEntry) (src : AccSrc) (f : Fmt) (sym : Bool) (tid : Half) (s : Int) (k pos : Nat)
    (r : RqAcc) (i : Nat) : RqAcc :=
  match rqX e (p.srcVal src i) with
  | .error b => { r with faults := r.faults ++ [ovfReport b tid i] }
  | .ok x =>
    match rqPlain f sym (roundShift x s e.rmode (rqDraw ctx e tid k (pos * 32 + i))) with
    | none => { r with faults := r.faults ++ [.a32 tid i] }
    | some (bits, sat) => { r with data := rowPut r.data ((pos * 32 + i) * f.width) f.width bits, sats := r.sats + b2n sat }

/-- The elements of a block that have a value: position in the block, x and draw. -/
def rqBlockElems (p : Pod) (ctx : ExecCtx) (e : RqEntry) (src : AccSrc) (tid : Half) (k pos blk : Nat) : List (Nat × Int × Nat) :=
  (upto 32).filterMap (fun i =>
    match rqX e (p.srcVal src (blk * 32 + i)) with
    | .ok x => some (i, x, rqDraw ctx e tid k (pos * 32 + blk * 32 + i))
    | .error _ => none)

/-- The overflows that keep elements of a block unwritten. -/
def rqBlockFaults (p : Pod) (e : RqEntry) (src : AccSrc) (tid : Half) (blk : Nat) : List Report :=
  (upto 32).filterMap (fun i =>
    match rqX e (p.srcVal src (blk * 32 + i)) with
    | .ok _ => none
    | .error b => some (ovfReport b tid (blk * 32 + i)))

/-- Bytes from `lo` up to `hi` of a row become zero (R46). -/
def rowZeroBytes (r : Row) (lo hi : Nat) : Row := if lo < hi then rowPut r (8 * lo) (8 * (hi - lo)) 0 else r

/-- The unused bytes of a data row of a format: those behind its last element (R43, R46). -/
def padDataRow (f : Fmt) (r : Row) : Row := rowZeroBytes r (f.perRow * f.width / 8) 512

/-- The unused scale bytes of a descriptor's scale row, where one row holds them all (R46; DEDUCED, log 94). -/
def padScaleRow (f : Fmt) (d : Entry128) (spos : Nat) (r : Row) : Row :=
  rowZeroBytes r (max (spos + 2) (f.blocks * (descNRows d + 1))) 512

/-- One block of a QB target goes into the buffer, and its scale byte into the scale buffer (R81). -/
def rqBlockStep (p : Pod) (ctx : ExecCtx) (e : RqEntry) (src : AccSrc) (f : Fmt) (tid : Half) (s : Int) (k pos spos : Nat)
    (r : RqAcc) (blk : Nat) : RqAcc :=
  let els := rqBlockElems p ctx e src tid k pos blk
  let mb := chooseBlock (els.map (fun t => (t.2.1, t.2.2))) s f.width e.rmode
  let ms := (els.map (fun t => t.1)).zip (mb.1.map (f.clamp false))
  { data := ms.foldl (fun d t => rowPut d ((pos * 32 + blk * 32 + t.1) * f.width) f.width (f.encodeElem t.2.1)) r.data,
    scal := rowPut r.scal (8 * (spos + blk)) 8 (scaleByteOf mb.2),
    sats := r.sats + (ms.filter (fun t => t.2.2)).length,
    faults := r.faults ++ rqBlockFaults p e src tid blk }

/-- The observation of an RQ: the largest E over elements with x ≠ 0 (R85). -/
def rqObs (p : Pod) (ctx : ExecCtx) (e : RqEntry) (src : AccSrc) : Option Int :=
  histMax ((upto 64).map (fun i =>
    match rqX e (p.srcVal src i) with
    | .ok x => if x = 0 then none else some (obsE e ctx.offs x)
    | .error _ => none))

/-- ACC RQ (R46, R78, R81, R116): 64 elements into BUF from block POS, and for a block target 2 scale bytes into SBUF from
SPOS; the unused bytes of both take zero, and neither buffer counts as two rows afterwards (R124). -/
def Pod.rq (p : Pod) (ctx : ExecCtx) (src : AccSrc) (clr : Bool) (buf sbuf : Fin 8) (pos spos rqe descI : Nat) : Pod × List Report :=
  let e := p.rqs.get rqe
  let d := p.desc descI
  let f := descFmt d
  let tid := descTid d
  let s := e.effShift ctx.offs
  let k := p.rqCount.get rqe
  let b := p.readBuf ctx buf
  let sb := p.readBuf ctx sbuf
  let r0 : RqAcc := { data := b.data, scal := sb.data, sats := 0, faults := [] }
  let r := if f.isBlock then (upto 2).foldl (rqBlockStep p ctx e src f tid s k pos spos) r0
           else (upto 64).foldl (rqPlainStep p ctx e src f (descSym d) tid s k pos) r0
  let p1 := p.push (ctx.beat + 1) (.buf buf { b with data := padDataRow f r.data, written := true, wide := false })
  let p2 := if f.isBlock then p1.push (ctx.beat + 1) (.buf sbuf { sb with data := padScaleRow f d spos r.scal, written := true, wide := false })
    else p1
  ({ p2 with rqCount := p2.rqCount.set rqe (k + 1) }.clrIf clr src 0 64,
   r.faults ++ (if r.sats = 0 then [] else [.sat tid r.sats]) ++ [.obs tid (rqObs p ctx e src)])

/-! ### Narrowing, widening and adding (R116) -/

/-- Slot writes into a buffer: the rows and the reports so far. -/
structure SlotAcc where
  data : Row
  ext : Row
  reps : List Report

/-- One element of NARROW96 outside a wide execution (R50). -/
def narrowStep (p : Pod) (src : AccSrc) (part w : Nat) (tid : Half) (r : SlotAcc) (i : Nat) : SlotAcc :=
  match (p.srcVal src (part * 32 + i)).toA192 with
  | .error b => { r with reps := r.reps ++ [ovfReport b tid (part * 32 + i)] }
  | .ok a =>
    match toA96 a w with
    | none => { r with reps := r.reps ++ [.miss tid (part * 32 + i)] }
    | some v => { r with data := rowPut r.data (i * 128) 128 (uOf 96 v) }

/-- One A192 slot of WIDE192 or of a wide NARROW96: slots 0–15 in the row, 16–31 in its extension (R46, R124). -/
def wideStep (p : Pod) (src : AccSrc) (base : Nat) (tid : Half) (r : SlotAcc) (i : Nat) : SlotAcc :=
  match (p.srcVal src (base + i)).toA192 with
  | .error b => { r with reps := r.reps ++ [ovfReport b tid (base + i)] }
  | .ok a =>
    if i < 16 then { r with data := rowPut r.data (i * 256) 256 (uOf 192 a) }
    else { r with ext := rowPut r.ext ((i - 16) * 256) 256 (uOf 192 a) }

/-- ACC NARROW96 (R50, R67, R116): class X into 32 A96 slots; in a wide execution class E into 32 A192 slots. -/
def Pod.narrow96 (p : Pod) (ctx : ExecCtx) (src : AccSrc) (clr : Bool) (buf : Fin 8) (part descI : Nat) : Pod × List Report :=
  let d := p.desc descI
  let b := p.readBuf ctx buf
  let r0 : SlotAcc := { data := b.data, ext := b.ext, reps := [] }
  let r := if ctx.wide then (upto 32).foldl (wideStep p src (part * 32) (descTid d)) r0
           else (upto 32).foldl (narrowStep p src part (descWin d) (descTid d)) r0
  ((p.push (ctx.beat + 1) (.buf buf { data := r.data, ext := r.ext, written := true, wide := ctx.wide })).clrIf clr src (part * 32) 32, r.reps)

/-- ACC WIDE192 (R116): class E into the 16 A192 slots of BUF. -/
def Pod.wide192 (p : Pod) (ctx : ExecCtx) (src : AccSrc) (clr : Bool) (buf : Fin 8) (part descI : Nat) : Pod × List Report :=
  let b := p.readBuf ctx buf
  let r := (upto 16).foldl (wideStep p src (part * 16) (descTid (p.desc descI))) { data := b.data, ext := b.ext, reps := [] }
  ((p.push (ctx.beat + 1) (.buf buf { b with data := r.data, written := true, wide := false })).clrIf clr src (part * 16) 16, r.reps)

/-- One element of OUT32 (R60, R116). -/
def out32Step (p : Pod) (src : AccSrc) (part : Nat) (tid : Half) (r : SlotAcc) (i : Nat) : SlotAcc :=
  match (p.srcVal src i).toA32 with
  | .error b => { r with reps := r.reps ++ [ovfReport b tid i] }
  | .ok q => { r with data := rowPut r.data ((part * 64 + i) * 32) 32 (uOf 32 q) }

/-- ACC OUT32 (R116): 64 A32 values into bytes PART × 256 onward of BUF. -/
def Pod.out32 (p : Pod) (ctx : ExecCtx) (src : AccSrc) (clr : Bool) (buf : Fin 8) (part descI : Nat) : Pod × List Report :=
  let b := p.readBuf ctx buf
  let r := (upto 64).foldl (out32Step p src part (descTid (p.desc descI))) { data := b.data, ext := b.ext, reps := [] }
  ((p.push (ctx.beat + 1) (.buf buf { b with data := r.data, written := true, wide := false })).clrIf clr src 0 64, r.reps)

/-- ACC ADD96 (R62, R116): 32 A96 slots at the window of DESC; in a wide execution 32 A192 slots (R67, R124). CLR, which R115
gives to values read from SRC, does nothing in the operations whose SRC is the destination (DEDUCED, log 93). -/
def Pod.add96 (p : Pod) (ctx : ExecCtx) (buf : Fin 8) (part descI : Nat) : Pod :=
  let b := p.readBuf ctx buf
  let ts := if ctx.wide then
      (upto 32).map (fun i => if i < 16 then sInt 192 (rowU 256 i b.data) else sInt 192 (rowU 256 (i - 16) b.ext))
    else (upto 32).map (fun i => sInt 96 (rowU 128 i b.data) * p2 (descWin (p.desc descI)))
  { p with accs := addAccs p.accs (part * 32) ts }

/-- ACC ADD192 (R116): 16 A192 slots into accumulators PART × 16 onward. -/
def Pod.add192 (p : Pod) (ctx : ExecCtx) (buf : Fin 8) (part : Nat) : Pod :=
  { p with accs := addAccs p.accs (part * 16) ((upto 16).map (fun i => sInt 192 (rowU 256 i (p.readBuf ctx buf).data))) }

/-- ACC ADD32 (R116): 64 A32 values from bytes PART × 256 onward into the lanes. -/
def Pod.add32 (p : Pod) (ctx : ExecCtx) (buf : Fin 8) (part : Nat) : Pod :=
  { p with lanes := addLanes p.lanes 0 ((upto 64).map (fun i => rowS 32 (part * 64 + i) (p.readBuf ctx buf).data)) }

/-- ACC LOAD192 (R116): replaces 16 accumulators and clears their flags. -/
def Pod.load192 (p : Pod) (ctx : ExecCtx) (buf : Fin 8) (part : Nat) : Pod :=
  { p with accs := p.accs.setRun (part * 16) ((upto 16).map (fun i =>
      ({ v := BitVec.ofNat 192 (rowU 256 i (p.readBuf ctx buf).data), ovf := false } : Acc))) }

/-! ### ST RECV, step start and loops -/

/-- RECV of a complete slot: the slot's content into a row buffer, visible at t + 1 (R102, R119). -/
def Pod.recv (p : Pod) (ctx : ExecCtx) (slot : Fin 16) (buf : Fin 8) : Pod :=
  let l := p.landing.get slot.val
  { p.push (ctx.beat + 1) (.buf buf { data := l.data, ext := l.ext, written := true, wide := l.wide }) with
    landing := p.landing.set slot.val { l with complete := false } }

/-- R98, R128: what a step start zeroes in a placed pod, and where its bundles begin (R101). -/
def Pod.stepStart (p : Pod) (kind : Nat) : Pod :=
  { p with
    accs := {}, lanes := {}, snap := {}, snapLanes := false, k := {}, z := {}, pr := {}, t := [], lc := {}, lcNext := {}, loops := [],
    rqCount := {}, pend := [], nopRun := 0,
    bufs := p.bufs.mapAll (fun _ b => { b with written := false }),
    banks := p.banks.mapAll (fun _ b => { b with loadedParts := 0, hasScales := false, hasCmuls := false, src := {} }),
    landing := p.landing.mapAll (fun _ l => { l with complete := false, barrierRow := none }),
    pc := (p.entries.get kind).getD 0, issuing := p.placed && (p.entries.get kind).isSome }

/-- CTL LOOP at address a (R104, R105): the body is a + 1 to END, TRIPS + 1 iterations. -/
def Pod.openLoop (p : Pod) (a : BitVec 12) (lc : Fin 3) (stop : BitVec 12) (trips : BitVec 9) (stride : BitVec 6) : Pod :=
  { p with loops := { start := a + 1, stop := stop, left := trips.toNat, lc := lc, stride := stride } :: p.loops }

/-- After the bundle at `a`: the loop counters, the open loops and the next address (R105). The inner loop is tested
first, and a finished loop may end together with its outer one. -/
def nextAddr (a : BitVec 12) (lc : Tbl (BitVec 12)) : List LoopFrame → Tbl (BitVec 12) × List LoopFrame × BitVec 12
  | [] => (lc, [], a + 1)
  | f :: fs =>
    if f.stop = a then
      let lc' := lc.mod f.lc.val (fun c => c + f.stride.setWidth 12)
      if f.left = 0 then nextAddr a lc' fs
      else (lc', { f with left := f.left - 1 } :: fs, f.start)
    else (lc, f :: fs, a + 1)

/-- The pod after it issued the bundle at its pc, whose CTL slot opened no loop: the bundle's own slots still read the counters
as they were before it, and a completed iteration counts for the next bundle (R105). -/
def Pod.advance (p : Pod) : Pod :=
  let r := nextAddr p.pc p.lcNext p.loops
  { p with lc := p.lcNext, lcNext := r.1, loops := r.2.1, pc := r.2.2 }

/-- The pod whose current bundle is the next one: its slots read the counters of that bundle. -/
def Pod.atNext (p : Pod) : Pod := { p with lc := p.lcNext }

end Sys2Proof.Machine
end

