-- ==== Sys2Proof/Machine/VecOps.lean ====
section
/-! DEFINITION. The lane unit of a pod (chapter 06): element operations, reductions, functions, top-k, gathers. A row
result is a masked write visible one beat after its DST is written; lane registers change at once (R131). -/
namespace Sys2Proof

/-- Element width in bits (R129). -/
def VecArgs.width (v : VecArgs) : Nat := if v.w = 0 then 8 else if v.w = 1 then 16 else 32
/-- Elements per row at the operation's width (R130). -/
def VecArgs.count (v : VecArgs) : Nat := 4096 / v.width
/-- The quarter or half q of WIDEN and NARROW (R132). -/
def VecArgs.q (v : VecArgs) : Nat := v.b.toNat % 4

end Sys2Proof
namespace Sys2Proof.Machine

/-- A predicate register; PR0 is not stored and reads as all ones (R127). -/
def Pod.predOf (p : Pod) (i : Fin 8) : BitVec 512 := if i.val = 0 then BitVec.allOnes 512 else p.pr.get i.val

/-- Is the element whose lowest byte is `byte` enabled (R134)? -/
def Pod.enabled (p : Pod) (pred : Fin 8) (byte : Nat) : Bool := (p.predOf pred).getLsbD byte

/-- K register `i`, two's complement. -/
def Pod.kS (p : Pod) (i : Nat) : Int := (p.k.get (i % 16)).toInt

/-- Source row A. -/
def Pod.rowA (p : Pod) (v : VecArgs) : Row := p.store.get v.a.toNat
/-- Source row B. -/
def Pod.rowB (p : Pod) (v : VecArgs) : Row := p.store.get v.b.toNat

/-- Element `i` of operand A, unsigned. -/
def Pod.aU (p : Pod) (v : VecArgs) (i : Nat) : Nat := rowU v.width i (p.rowA v)
/-- Element `i` of operand A, signed. -/
def Pod.aS (p : Pod) (v : VecArgs) (i : Nat) : Int := rowS v.width i (p.rowA v)
/-- Element `i` of operand B, unsigned: the row, or bits [W−1:0] of K(SRCB[3:0]) with S = 1 (R129). -/
def Pod.bU (p : Pod) (v : VecArgs) (i : Nat) : Nat :=
  if v.s then bitsOf (p.k.get (bitsOf v.b.toNat 0 4)).toNat 0 v.width else rowU v.width i (p.rowB v)
/-- Element `i` of operand B, signed. -/
def Pod.bS (p : Pod) (v : VecArgs) (i : Nat) : Int := sInt v.width (p.bU v i)

/-- The mask of the enabled ones of `n` elements of `w` bits (R134). -/
def Pod.enMask (p : Pod) (pred : Fin 8) (w n : Nat) : Row :=
  rowOf w n (fun i => if p.enabled pred (i * w / 8) then 2 ^ w - 1 else 0)

/-- Write the enabled ones of `n` elements of `w` bits into DST, visible at t + O + 1 (R130, R131, R134). -/
def Pod.vecWrite (p : Pod) (ctx : ExecCtx) (o : Nat) (v : VecArgs) (w n : Nat) (f : Nat → Nat) : Pod :=
  p.push (ctx.beat + o + 1) (.storeRow v.d (rowOf w n f) (p.enMask v.pred w n))


/-- A clamp to the signed W-bit range (R132). -/
def clampW (w : Nat) (x : Int) : Int := clampI (- p2 (w - 1)) (p2 (w - 1) - 1) x

/-- The clamps of an operation, counted for the shallot and for the tensor that holds DST (R135). -/
def Pod.clampReports (p : Pod) (v : VecArgs) (n : Nat) : List Report :=
  if n = 0 then []
  else .vecSat n :: (match p.tidOfRow v.d.toNat with | some t => [.sat t n] | none => [])

/-- How many enabled ones of `n` elements of `w` bits a clamp to `cw` bits changes. -/
def Pod.clampCount (p : Pod) (pred : Fin 8) (w n base cw : Nat) (f : Nat → Int) : Nat :=
  ((upto n).filter (fun i => p.enabled pred ((base + i) * w / 8) && decide (clampW cw (f i) ≠ f i))).length

/-- A plain element operation of two operands on bit patterns (R132). -/
def Pod.vecBin (p : Pod) (ctx : ExecCtx) (v : VecArgs) (f : Nat → Nat) : Pod × List Report :=
  (p.vecWrite ctx 2 v v.width v.count f, [])

/-- An element operation that clamps an exact integer result (R132, R135). -/
def Pod.vecClamp (p : Pod) (ctx : ExecCtx) (v : VecArgs) (f : Nat → Int) : Pod × List Report :=
  (p.vecWrite ctx 2 v v.width v.count (fun i => uOf v.width (clampW v.width (f i))),
   p.clampReports v (p.clampCount v.pred v.width v.count 0 v.width f))

/-- ADD: A + B modulo 2^W. -/
def Pod.vAdd (p : Pod) (ctx : ExecCtx) (v : VecArgs) := p.vecBin ctx v (fun i => (p.aU v i + p.bU v i) % 2 ^ v.width)
/-- SUB: A − B modulo 2^W. -/
def Pod.vSub (p : Pod) (ctx : ExecCtx) (v : VecArgs) := p.vecBin ctx v (fun i => (p.aU v i + 2 ^ v.width - p.bU v i) % 2 ^ v.width)
/-- ADDS: clamp_W(A + B). -/
def Pod.vAdds (p : Pod) (ctx : ExecCtx) (v : VecArgs) := p.vecClamp ctx v (fun i => p.aS v i + p.bS v i)
/-- SUBS: clamp_W(A − B). -/
def Pod.vSubs (p : Pod) (ctx : ExecCtx) (v : VecArgs) := p.vecClamp ctx v (fun i => p.aS v i - p.bS v i)
/-- MULLO: the low W bits of A × B. -/
def Pod.vMullo (p : Pod) (ctx : ExecCtx) (v : VecArgs) := p.vecBin ctx v (fun i => (p.aU v i * p.bU v i) % 2 ^ v.width)
/-- MULR: clamp_32(rne(A × B × 2^−30)). -/
def Pod.vMulr (p : Pod) (ctx : ExecCtx) (v : VecArgs) := p.vecClamp ctx v (fun i => rne (p.aS v i * p.bS v i) 30)
/-- SHL: amounts of W or more give 0; B counts as an unsigned amount (DEDUCED, log 93). -/
def Pod.vShl (p : Pod) (ctx : ExecCtx) (v : VecArgs) :=
  p.vecBin ctx v (fun i => if v.width ≤ p.bU v i then 0 else (p.aU v i * 2 ^ p.bU v i) % 2 ^ v.width)
/-- SHR: arithmetic; amounts of W or more give copies of the sign; B counts as an unsigned amount (DEDUCED, log 93). -/
def Pod.vShr (p : Pod) (ctx : ExecCtx) (v : VecArgs) :=
  p.vecBin ctx v (fun i => uOf v.width (p.aS v i / p2 (min (p.bU v i) v.width)))
/-- SHRU: fills with zeros; amounts of W or more give 0; B counts as an unsigned amount (DEDUCED, log 93). -/
def Pod.vShru (p : Pod) (ctx : ExecCtx) (v : VecArgs) :=
  p.vecBin ctx v (fun i => if v.width ≤ p.bU v i then 0 else p.aU v i / 2 ^ p.bU v i)
/-- MIN, signed. -/
def Pod.vMin (p : Pod) (ctx : ExecCtx) (v : VecArgs) := p.vecBin ctx v (fun i => if p.bS v i < p.aS v i then p.bU v i else p.aU v i)
/-- MAX, signed. -/
def Pod.vMax (p : Pod) (ctx : ExecCtx) (v : VecArgs) := p.vecBin ctx v (fun i => if p.aS v i < p.bS v i then p.bU v i else p.aU v i)
/-- MINU. -/
def Pod.vMinu (p : Pod) (ctx : ExecCtx) (v : VecArgs) := p.vecBin ctx v (fun i => min (p.aU v i) (p.bU v i))
/-- MAXU. -/
def Pod.vMaxu (p : Pod) (ctx : ExecCtx) (v : VecArgs) := p.vecBin ctx v (fun i => max (p.aU v i) (p.bU v i))
/-- AND. -/
def Pod.vAnd (p : Pod) (ctx : ExecCtx) (v : VecArgs) := p.vecBin ctx v (fun i => p.aU v i &&& p.bU v i)
/-- OR. -/
def Pod.vOr (p : Pod) (ctx : ExecCtx) (v : VecArgs) := p.vecBin ctx v (fun i => p.aU v i ||| p.bU v i)
/-- XOR. -/
def Pod.vXor (p : Pod) (ctx : ExecCtx) (v : VecArgs) := p.vecBin ctx v (fun i => p.aU v i ^^^ p.bU v i)

/-- SEL: A where the predicate is 1, B elsewhere; writes every element. -/
def Pod.vSel (p : Pod) (ctx : ExecCtx) (v : VecArgs) : Pod × List Report :=
  (p.push (ctx.beat + 3) (.storeRow v.d
     (rowOf v.width v.count (fun i => if p.enabled v.pred (i * v.width / 8) then p.aU v i else p.bU v i)) (BitVec.allOnes 4096)), [])

/-- CLZ: leading zeros of A; 0 gives W. -/
def Pod.vClz (p : Pod) (ctx : ExecCtx) (v : VecArgs) := p.vecBin ctx v (fun i => v.width - bitlen (p.aU v i))

/-- A compare writes predicate PRd, d = DST[2:0]: every bit of an enabled element's bytes takes the result, the bits of
an element that is not enabled are cleared (R134). -/
def Pod.vCmp (p : Pod) (v : VecArgs) (f : Nat → Bool) : Pod × List Report :=
  ({ p with pr := p.pr.set (bitsOf v.d.toNat 0 3)
                (BitVec.ofNat 512 (packN (v.width / 8) (fun i => if p.enabled v.pred (i * v.width / 8) && f i then 2 ^ (v.width / 8) - 1 else 0) v.count)) }, [])
/-- CMPEQ. -/
def Pod.vCmpeq (p : Pod) (v : VecArgs) := p.vCmp v (fun i => p.aU v i == p.bU v i)
/-- CMPLT, signed. -/
def Pod.vCmplt (p : Pod) (v : VecArgs) := p.vCmp v (fun i => decide (p.aS v i < p.bS v i))
/-- CMPLTU. -/
def Pod.vCmpltu (p : Pod) (v : VecArgs) := p.vCmp v (fun i => decide (p.aU v i < p.bU v i))

/-- SCALE: clamp_W(rne(A × K(j) × 2^−n)) sign-extended into each 32-bit word; j = SRCB[3:0], n = K(j+1)[6:0]. -/
def Pod.scaleVal (p : Pod) (v : VecArgs) (i : Nat) : Int :=
  let j := bitsOf v.b.toNat 0 4
  rne (rowS 32 i (p.rowA v) * p.kS j) ((bitsOf (p.k.get ((j + 1) % 16)).toNat 0 7 : Nat) : Int)
/-- SCALE (R132). -/
def Pod.vScale (p : Pod) (ctx : ExecCtx) (v : VecArgs) : Pod × List Report :=
  (p.vecWrite ctx 2 v 32 128 (fun i => uOf 32 (clampW v.width (p.scaleVal v i))),
   p.clampReports v (p.clampCount v.pred 32 128 0 v.width (p.scaleVal v)))

/-- WIDEN: W-bit elements 128q onward, sign-extended into 128 words. -/
def Pod.vWiden (p : Pod) (ctx : ExecCtx) (v : VecArgs) : Pod × List Report :=
  (p.vecWrite ctx 2 v 32 128 (fun i => uOf 32 (rowS v.width (128 * v.q + i) (p.rowA v))), [])
/-- WIDENU: as WIDEN, zero-extended. -/
def Pod.vWidenu (p : Pod) (ctx : ExecCtx) (v : VecArgs) : Pod × List Report :=
  (p.vecWrite ctx 2 v 32 128 (fun i => rowU v.width (128 * v.q + i) (p.rowA v)), [])
/-- NARROW: clamp_W of the 128 words of A into W-bit elements 128q onward of DST. -/
def Pod.vNarrow (p : Pod) (ctx : ExecCtx) (v : VecArgs) : Pod × List Report :=
  let f := fun i => rowS 32 i (p.rowA v)
  let lo := 128 * v.q
  let inR := fun i => decide (lo ≤ i) && decide (i < lo + 128)
  (p.push (ctx.beat + 3) (.storeRow v.d
     (rowOf v.width v.count (fun i => if inR i then uOf v.width (clampW v.width (f (i - lo))) else 0))
     (rowOf v.width v.count (fun i => if inR i && p.enabled v.pred (i * v.width / 8) then 2 ^ v.width - 1 else 0))),
   p.clampReports v (p.clampCount v.pred v.width 128 lo v.width f))

/-! ### Functions (R137, R138) -/

/-- Coefficient `c` of a segment; the first coefficient of segment 0 is exact in sets A and C (R138). -/
def romC (fn seg c : Nat) : Int :=
  if seg = 0 ∧ c = 0 ∧ fn = 0 then p2 30
  else if seg = 0 ∧ c = 0 ∧ fn = 1 then 0
  else if seg = 0 ∧ c = 0 ∧ fn = 4 then 0
  else if seg = 0 ∧ c = 0 ∧ fn = 5 then p2 29
  else (Sys2Proof.Config.romCoef fn seg c).toInt

/-- One stage of the segment procedure of R138. -/
def polyStage (acc t c : Int) : Int := (acc * t + p2 23) / p2 24 + c

/-- The segment procedure of R138; sets A and B have degree 2. -/
def poly (fn seg : Nat) (t : Nat) : Int :=
  let c3 := if fn = 4 ∨ fn = 5 then romC fn seg 3 else 0
  polyStage (polyStage (polyStage c3 t (romC fn seg 2)) t (romC fn seg 1)) t (romC fn seg 0)

/-- FEXP2 of a Q8.24 word: the result, and whether the input is counted (R137, R138). -/
def fexp2 (x : Int) : Int × Bool :=
  let c := decide (0 < x)
  let x := if 0 < x then 0 else x
  if x < -32 * p2 24 then (0, c)
  else
    let i := x / p2 24
    let f := (x % p2 24).toNat
    (rne (poly 0 (f / 2 ^ 16) (f % 2 ^ 16 * 2 ^ 8)) (-i), c)

/-- FLOG2 of an unsigned word. -/
def flog2 (u : Nat) : Int × Bool :=
  if u = 0 then (- p2 31, true)
  else
    let e := bitlen u - 1
    let f := u * 2 ^ (31 - e) - 2 ^ 31
    (((e * 2 ^ 16 : Nat) : Int) + poly 1 (f / 2 ^ 23) (f / 2 ^ 7 % 2 ^ 24), false)

/-- FRCP of m in [2^30, 2^31). -/
def frcp (m : Nat) : Int × Bool :=
  if m = 0 then (0, false)
  else if 2 ^ 30 ≤ m ∧ m < 2 ^ 31 then
    let f := m - 2 ^ 30
    (poly 2 (f / 2 ^ 21) (f % 2 ^ 21 * 2 ^ 3), false)
  else (0, true)

/-- FRSQ of m in [2^29, 2^31). -/
def frsq (m : Nat) : Int × Bool :=
  if m = 0 then (0, false)
  else if 2 ^ 29 ≤ m ∧ m < 2 ^ 31 then
    let f := m - 2 ^ 29
    (poly 3 (f / 2 ^ 22) (f % 2 ^ 22 * 2 ^ 2), false)
  else (0, true)

/-- FTANH of a Q16.16 word. -/
def ftanh (x : Int) : Int × Bool :=
  if 16 * p2 16 ≤ x then (p2 30, false)
  else if x ≤ -16 * p2 16 then (- p2 30, false)
  else
    let y := poly 4 (x.natAbs / 2 ^ 11) (x.natAbs % 2 ^ 11 * 2 ^ 13)
    (if 0 ≤ x then y else -y, false)

/-- FSIGM of a Q16.16 word. At x = −32 exactly the table of R138 has no segment: its y is a free value, the coefficient of a
segment 512 that no ROM has (log 48). -/
def fsigm (x : Int) : Int × Bool :=
  if 32 * p2 16 ≤ x then (p2 30, false)
  else if x < -32 * p2 16 then (0, false)
  else
    let y := poly 5 (x.natAbs / 2 ^ 12) (x.natAbs % 2 ^ 12 * 2 ^ 12)
    (if 0 ≤ x then y else p2 30 - y, false)

/-- FSGATE of a Q16.16 word: rne(x × FSIGM(x) × 2^−30). -/
def fsgate (x : Int) : Int × Bool :=
  if 32 * p2 16 ≤ x then (x, false)
  else if x < -32 * p2 16 then (0, false)
  else (rne (x * (fsigm x).1) 30, false)

/-- A function on each enabled word of A (R137). -/
def Pod.vFunc (p : Pod) (ctx : ExecCtx) (v : VecArgs) (f : Nat → Int × Bool) : Pod × List Report :=
  let n := ((upto 128).filter (fun i => p.enabled v.pred (4 * i) && (f (rowU 32 i (p.rowA v))).2)).length
  (p.vecWrite ctx 8 v 32 128 (fun i => uOf 32 (f (rowU 32 i (p.rowA v))).1), if n = 0 then [] else [.vecDomain n])

/-! ### Reductions and Z registers (R132, R133, R136, R141) -/

/-- An addition into a Z register (R136). -/
def ZReg.add (z : ZReg) (t : Int) : ZReg :=
  { v := BitVec.ofInt 64 (z.v.toInt + t),
    ovf := z.ovf || decide (z.v.toInt + t < - p2 63) || decide (p2 63 - 1 < z.v.toInt + t) }

/-- The enabled elements of A, signed, at width W (R134). -/
def Pod.enElems (p : Pod) (v : VecArgs) : List Int :=
  (upto v.count).filterMap (fun i => if p.enabled v.pred (i * v.width / 8) then some (p.aS v i) else none)

/-- RSUM (R132). -/
def Pod.vRsum (p : Pod) (v : VecArgs) : Pod × List Report :=
  ({ p with z := p.z.mod (bitsOf v.d.toNat 0 3) (fun z => z.add (sumI (p.enElems v))) }, [])
/-- RSSQ (R132). -/
def Pod.vRssq (p : Pod) (v : VecArgs) : Pod × List Report :=
  ({ p with z := p.z.mod (bitsOf v.d.toNat 0 3) (fun z => z.add (sumI ((p.enElems v).map (fun x => x * x)))) }, [])
/-- The larger of a Z register and a list. -/
def zMax (z : ZReg) (l : List Int) : ZReg :=
  { z with v := BitVec.ofInt 64 (l.foldl (fun m x => if m < x then x else m) z.v.toInt) }
/-- The smaller of a Z register and a list. -/
def zMin (z : ZReg) (l : List Int) : ZReg :=
  { z with v := BitVec.ofInt 64 (l.foldl (fun m x => if x < m then x else m) z.v.toInt) }
/-- RMAX (R132). -/
def Pod.vRmax (p : Pod) (v : VecArgs) : Pod × List Report :=
  ({ p with z := p.z.mod (bitsOf v.d.toNat 0 3) (fun z => zMax z (p.enElems v)) }, [])
/-- RMIN (R132). -/
def Pod.vRmin (p : Pod) (v : VecArgs) : Pod × List Report :=
  ({ p with z := p.z.mod (bitsOf v.d.toNat 0 3) (fun z => zMin z (p.enElems v)) }, [])

/-- LDK: words 4h to 4h + 3 of SRCA into K(4g) to K(4g + 3) (R133). -/
def Pod.vLdk (p : Pod) (v : VecArgs) : Pod × List Report :=
  let g := bitsOf v.d.toNat 0 2
  let h := bitsOf v.b.toNat 0 5
  ({ p with k := p.k.setRun (4 * g) ((upto 4).map (fun i => BitVec.ofNat 32 (rowU 32 (4 * h + i) (p.rowA v)))) }, [])
/-- ZCLR (R133). -/
def Pod.vZclr (p : Pod) (v : VecArgs) : Pod × List Report :=
  let c := bitsOf v.b.toNat 0 2
  ({ p with z := p.z.set (bitsOf v.d.toNat 0 3)
                { v := if c = 0 then 0 else if c = 1 then BitVec.ofInt 64 (- p2 63) else BitVec.ofInt 64 (p2 63 - 1), ovf := false } }, [])
/-- The tensor named by a fault of a lane operation: that of the descriptor that holds DST, and a free value where none
does. -/
def Pod.vecTid (p : Pod) (ctx : ExecCtx) (d : BitVec 12) : Half :=
  (p.tidOfRow d.toNat).getD (BitVec.ofNat 16 (Sys2Proof.Config.freeNat ctx.free 300))
/-- Is no Z register flagged? -/
def Pod.zClean (p : Pod) : Bool := (upto 8).all (fun k => !(p.z.get k).ovf)

/-- ZOUT: words 2k and 2k + 1 take Zk, words 16 to 127 take 0; with a flagged Z register it writes nothing (R133, R136). The
faults name the tensor of DST and, as output column, the number of the register (DESIGN CHOICE, log 49). -/
def Pod.vZout (p : Pod) (ctx : ExecCtx) (v : VecArgs) : Pod × List Report :=
  (p.push (ctx.beat + 2) (.storeRow v.d (rowOf 64 8 (fun k => (p.z.get k).v.toNat)) (if p.zClean then BitVec.allOnes 4096 else 0)),
   (upto 8).filterMap (fun k => if (p.z.get k).ovf then some (.a192 (p.vecTid ctx v.d) k) else none))
/-- ZACC: add, or take the maximum of, row values (R133). -/
def Pod.vZacc (p : Pod) (v : VecArgs) : Pod × List Report :=
  let val := fun k => rowS 64 k (p.rowA v)
  ({ p with z := (upto 8).foldl (fun z k =>
      z.mod k (fun r => if bitAt v.b.toNat 0 then zMax r [val k] else r.add (val k))) p.z }, [])

/-- The shifted m of R141. -/
def zM (z sh : Int) : Nat := if 0 ≤ sh then (z / p2 sh.toNat).toNat else (z * p2 (-sh).toNat).toNat

/-- The tensor that a fault names where no row belongs to it: a free value (log 49). -/
def freeTid (ctx : ExecCtx) : Half := BitVec.ofNat 16 (Sys2Proof.Config.freeNat ctx.free 300)

/-- ZRCP and ZRSQ: two K registers from Zk; a flagged Zk writes nothing (R136, R141). DST names no row, so the tensor of the fault is a
free value, and its output column is the number of the register (DESIGN CHOICE, log 49). -/
def Pod.zInto (p : Pod) (ctx : ExecCtx) (v : VecArgs) (rsq : Bool) : Pod × List Report :=
  let z := p.z.get (bitsOf v.a.toNat 0 3)
  let j := bitsOf v.d.toNat 0 4
  let f := ((bitsOf v.b.toNat 0 5 : Nat) : Int)
  if z.ovf then (p, [.a192 (freeTid ctx) (bitsOf v.a.toNat 0 3)])
  else if z.v.toInt ≤ 0 then ({ p with k := (p.k.set j 0).set ((j + 1) % 16) 0 }, [.vecDomain 1])
  else
    let l := ((bitlen z.v.toInt.toNat : Nat) : Int)
    let sh := if rsq && decide ((l - 31) % 2 = 1) then l - 30 else l - 31
    let y := if rsq then (frsq (zM z.v.toInt sh)).1 else (frcp (zM z.v.toInt sh)).1
    let e := if rsq then 45 + sh / 2 - f else 60 + sh - f
    ({ p with k := (p.k.set j (BitVec.ofInt 32 y)).set ((j + 1) % 16) (BitVec.ofInt 32 e) }, [])

/-- PSET (R133). -/
def Pod.vPset (p : Pod) (v : VecArgs) : Pod × List Report :=
  let a := p.predOf ⟨bitsOf v.a.toNat 0 3 % 8, Nat.mod_lt _ (by decide)⟩
  let b := p.predOf ⟨bitsOf v.b.toNat 0 3 % 8, Nat.mod_lt _ (by decide)⟩
  let f := bitsOf v.b.toNat 4 2
  ({ p with pr := p.pr.set (bitsOf v.d.toNat 0 3)
                (if f = 0 then a &&& b else if f = 1 then a ||| b else if f = 2 then a &&& ~~~ b else a ^^^ b) }, [])
/-- PLD (R133). -/
def Pod.vPld (p : Pod) (v : VecArgs) : Pod × List Report :=
  ({ p with pr := p.pr.set (bitsOf v.d.toNat 0 3) ((p.rowA v).setWidth 512) }, [])

/-! ### Top-k (R142, R143) -/

/-- Does entry `x` come before `y` in T: larger value first, then smaller index (R142)? -/
def topBefore (x y : TopEntry) : Bool :=
  decide (y.v.toInt < x.v.toInt) || (x.v == y.v && decide (x.i.toNat < y.i.toNat))

/-- Insert a candidate into the ordered list, once (R142). -/
def topIns (l : List TopEntry) (c : TopEntry) : List TopEntry :=
  if c.i = 0xFFFFFFFF then l
  else match l with
  | [] => [c]
  | x :: xs => if x = c then x :: xs else if topBefore c x then c :: x :: xs else x :: topIns xs c

/-- The first k entries of the ordered union of T and the candidates (R142). -/
def topMerge (t : List TopEntry) (cs : List TopEntry) (k : Nat) : List TopEntry := (cs.foldl topIns t).take k

/-- TOPK: each enabled word of SRCA with index K(j) + i (R142). -/
def Pod.vTopk (p : Pod) (v : VecArgs) : Pod × List Report :=
  ({ p with t := topMerge p.t
                ((upto 128).filterMap (fun i => if p.enabled v.pred (4 * i) then
                some { v := BitVec.ofNat 32 (rowU 32 i (p.rowA v)), i := p.k.get (bitsOf v.b.toNat 0 4) + BitVec.ofNat 32 i } else none))
                (bitsOf v.b.toNat 4 6 + 1) }, [])
/-- TKMERGE: the pairs of SRCA (R142). -/
def Pod.vTkmerge (p : Pod) (v : VecArgs) : Pod × List Report :=
  ({ p with t := topMerge p.t
                ((upto 64).map (fun i => { v := BitVec.ofNat 32 (rowU 32 (2 * i) (p.rowA v)), i := BitVec.ofNat 32 (rowU 32 (2 * i + 1) (p.rowA v)) }))
                (bitsOf v.b.toNat 4 6 + 1) }, [])
/-- TKOUT: the entries in order, then value −2^31 and index 0xFFFF_FFFF (R143). -/
def Pod.vTkout (p : Pod) (ctx : ExecCtx) (v : VecArgs) : Pod × List Report :=
  let e : Nat → TopEntry := fun i => (p.t[i]?).getD { v := 0x80000000, i := 0xFFFFFFFF }
  (p.push (ctx.beat + 2) (.storeRow v.d (rowOf 64 64 (fun i => (e i).v.toNat + (e i).i.toNat * 2 ^ 32)) (BitVec.allOnes 4096)), [])
/-- TKCLR: empties T (R133). -/
def Pod.vTkclr (p : Pod) : Pod × List Report := ({ p with t := [] }, [])

/-! ### Gather, scatter and row selection (R144, R145) -/

/-- GATHER: element by index from the 32-row window at SRCB; an index out of range gives 0 and counts. -/
def Pod.vGather (p : Pod) (ctx : ExecCtx) (v : VecArgs) : Pod × List Report :=
  let x := fun i => rowU 32 i (p.rowA v)
  let ok := fun i => decide (x i < 32 * v.count)
  let n := ((upto 128).filter (fun i => p.enabled v.pred (4 * i) && !ok i)).length
  (p.vecWrite ctx 8 v 32 128 (fun i =>
      if ok i then uOf 32 (rowS v.width (x i % v.count) (p.store.get (v.b.toNat + x i / v.count))) else 0),
   if n = 0 then [] else [.vecRange n])

/-- One scattered element: its write, when its index is in range and its destination element is enabled. -/
def Pod.scatterOne (p : Pod) (ctx : ExecCtx) (v : VecArgs) (q : Pod) (i : Nat) : Pod :=
  let x := rowU 32 i (p.rowB v)
  let e := x % v.count
  if x < 32 * v.count ∧ p.enabled v.pred (e * v.width / 8) = true then
    q.push (ctx.beat + 9) (.storeRow (BitVec.ofNat 12 (v.d.toNat + x / v.count))
      (BitVec.ofNat 4096 (rowU 32 i (p.rowA v) % 2 ^ v.width * 2 ^ (e * v.width)))
      (BitVec.ofNat 4096 ((2 ^ v.width - 1) * 2 ^ (e * v.width))))
  else q

/-- SCATTER: elements by index into the 32-row window at DST, in rising order (R144). -/
def Pod.vScatter (p : Pod) (ctx : ExecCtx) (v : VecArgs) : Pod × List Report :=
  let n := ((upto 128).filter (fun i => decide (32 * v.count ≤ rowU 32 i (p.rowB v)))).length
  ((upto 128).foldl (p.scatterOne ctx v) p, if n = 0 then [] else [.vecRange n])

/-- ROWSEL: the table row that an index selects, or zeros (R145). -/
def Pod.vRowsel (p : Pod) (ctx : ExecCtx) (v : VecArgs) : Pod × List Report :=
  let x := ((rowU 32 (bitsOf v.b.toNat 0 7) (p.rowA v) : Nat) : Int)
  let part := bitsOf v.b.toNat 7 4
  let lo := p.kS 14
  let k15 := (p.k.get 15).toNat
  let base := bitsOf k15 0 12
  let n := bitsOf k15 16 12
  let r := bitsOf k15 28 4 + 1
  let hit := decide (lo ≤ x) && decide (x < lo + (n : Int)) && decide (part < r)
  let row := base + (x - lo).toNat * r + part
  let out := if hit && decide (row ≤ 4095) then p.store.get row else 0
  (p.push (ctx.beat + 3) (.storeRow v.d out (BitVec.allOnes 4096)),
   if hit && decide (4095 < row) then [.vecRange 1] else [])

end Sys2Proof.Machine
end

