-- ==== Sys2Proof/Machine/Ops.lean ====
section
/-! DEFINITION. The named operations that every family shares: parts of the state, time, events and interrupts, the end of
a command, fences, hardware faults, the ways out of RUNNING, and the report of a pod operation. -/
namespace Sys2Proof.Machine

/-- The three outcomes of a command on this machine. -/
abbrev Res := Host.Outcome State Fault Refusal

/-! ### Parts of the state -/

/-- Shallot `n`. -/
def State.shal (s : State) (n : Nat) : Shallot := s.sh.get n
/-- The state with shallot `n` changed. -/
def State.modSh (s : State) (n : Nat) (f : Shallot → Shallot) : State := { s with sh := s.sh.mod n f }
/-- Pod `p` of shallot `n`. -/
def State.pod (s : State) (n p : Nat) : Pod := (s.shal n).pods.get p
/-- The state with pod `p` of shallot `n` changed. -/
def State.modPod (s : State) (n p : Nat) (f : Pod → Pod) : State :=
  s.modSh n (fun h => { h with pods := h.pods.mod p f })
/-- The state with stack `h` changed. -/
def State.modMem (s : State) (h : Nat) (f : Stack → Stack) : State := { s with mem := s.mem.mod h f }
/-- The state with gateway `g` changed. -/
def State.modGw (s : State) (g : Nat) (f : Gateway → Gateway) : State := { s with net := { s.net with gw := s.net.gw.mod g f } }
/-- The state with lamp `l` changed. -/
def State.modLamp (s : State) (l : Nat) (f : Lamp → Lamp) : State := { s with lamp := { s.lamp with lamps := s.lamp.lamps.mod l f } }
/-- The eight shallots in order. -/
def shallotNums : List Nat := upto 8

/-- Apply a change to every shallot that satisfies a test. -/
def State.modShs (s : State) (test : Shallot → Bool) (f : Shallot → Shallot) : State :=
  shallotNums.foldl (fun t n => if test (t.shal n) then t.modSh n f else t) s

/-- The execution of the step. -/
def State.modExe (s : State) (f : Execution → Execution) : State := { s with seq := { s.seq with exe := f s.seq.exe } }

/-! ### Time (R379, R485) -/

/-- Wall time in whole microseconds. -/
def State.us (s : State) : Nat := s.top.now / 1000
/-- Wall time in whole seconds. -/
def State.second (s : State) : Nat := s.top.now / 1000000000
/-- Wall time in whole minutes. -/
def State.minute (s : State) : Nat := s.top.now / 60000000000
/-- The conductor cycle: nanoseconds since the time base started at bring-up (R379). -/
def State.cycle (s : State) : Nat := s.top.now - s.top.timeBase

/-! ### Outputs and interrupts (R357) -/

/-- Something leaves the package. -/
def State.emit (s : State) (o : Out) : State := { s with out := s.out ++ [o] }

/-- Word `w` of MSI-X vector `v` as it reads: the mask bit stands set until it is written (log 5). -/
def HostIf.msixWord (h : HostIf) (v w : Nat) : Word :=
  if w = 3 then h.msix.get (4 * v + 3) ^^^ 1 else h.msix.get (4 * v + w)

/-- Is vector `v` masked? -/
def HostIf.masked (h : HostIf) (v : Nat) : Bool := (h.msixWord v 3).getLsbD 0

/-- Can the function send requests now: ready, link up, not in D3hot (R353)? -/
def HostIf.canSend (h : HostIf) : Bool := h.ready && h.linkUp && !h.d3hot

/-- Signal a vector: a message, or its pending bit where the vector is masked or the function cannot send. -/
def State.msix (s : State) (v : Nat) : State :=
  if s.host.masked v || !s.host.canSend then
    { s with host := { s.host with pba := s.host.pba ||| BitVec.ofNat 64 (2 ^ v) } }
  else s.emit (.msix v)

/-- A word of a window is written to host memory, or waits while the function cannot send (R353). -/
def State.hostWord (s : State) (addr n : Nat) : State :=
  if s.host.canSend then s.emit (.hostWrite addr (leBytes 8 n))
  else { s with host := { s.host with lateWords := s.host.lateWords ++ [(addr, n)] } }

/-- The words that waited for the link are written. -/
def State.flushWords (s : State) : State :=
  if s.host.canSend then
    s.host.lateWords.foldl (fun t x => t.emit (.hostWrite x.1 (leBytes 8 x.2))) { s with host := { s.host with lateWords := [] } }
  else s

/-- Send the messages of every pending vector that is no longer masked (R357). -/
def State.flushMsix (s : State) : State :=
  (upto 64).foldl (fun t v =>
    if t.host.pba.getLsbD v && !t.host.masked v && t.host.canSend then
      { t with host := { t.host with pba := t.host.pba &&& ~~~ (BitVec.ofNat 64 (2 ^ v)) } }.emit (.msix v)
    else t) s

/-! ### Events (R12, R485 to R487) -/

/-- The bytes 0x00 to 0x3B of an event record. -/
def EventRec.body (e : EventRec) : List Byte :=
  leBytes 8 e.seq.toNat ++ leBytes 8 e.time.toNat ++ leBytes 8 e.step.toNat ++ leBytes 2 e.code.toNat ++
  leBytes 2 (e.plaza.toNat * 2048 + e.unit.toNat) ++
  leBytes 2 (b2n e.stepValid + 2 * b2n e.hostLoss + 4 * b2n e.mewsLoss) ++ [0, 0] ++
  (e.detail ++ List.replicate 28 0).take 28

/-- The 64 bytes of an event record, with its CRC-32C. -/
def EventRec.bytes (e : EventRec) : List Byte := e.body ++ leBytes 4 (crc32c e.body).toNat

/-- The vector that events signal: the one that the image claims for EVENT_IRQ, or vector 0 (R206, R357, R487). -/
def State.eventVector (s : State) : Nat :=
  match s.img.image with
  | none => 0
  | some i => ((i.claims.filter (fun c => c.resource == 4 && c.feature == 0x31)).head?.map (fun c => c.index)).getD 0

/-- A record has entered the ring: ask for a signal (R487). -/
def State.eventSignal (s : State) : State :=
  if s.ev.irqEn && decide (s.ev.hostTail.toNat < s.ev.head.toNat) then
    if s.ev.holdOff then { s with ev := { s.ev with irqPending := true } }
    else { s with ev := { s.ev with holdOff := true } }.msix s.eventVector
  else s

/-- STEP is valid while an image is loaded: in LOADED and RUNNING (DESIGN CHOICE, log 8). -/
def State.stepValid (s : State) : Bool := s.top.state == .loaded || s.top.state == .running

/-- Would the next record overwrite one above a tail (R486)? -/
def EventLog.loses (e : EventLog) (tail : Word64) : Bool :=
  decide (8192 ≤ e.head.toNat) && decide (tail.toNat < e.head.toNat + 1 - 8192)

/-- The record that the package would write now (R485). -/
def State.eventRec (s : State) (code plaza unit : Nat) (detail : List Byte) : EventRec :=
  { seq := s.ev.head + 1, time := BitVec.ofNat 64 s.top.now, step := if s.stepValid then s.seq.current else 0,
    code := BitVec.ofNat 16 code, plaza := BitVec.ofNat 5 plaza, unit := BitVec.ofNat 11 unit, stepValid := s.stepValid,
    hostLoss := s.ev.loses s.ev.hostTail, mewsLoss := s.ev.loses s.ev.mewsTail, detail := detail }

/-- Raise an event: its record enters the ring at SEQ mod 8,192 (R485, R486), and the interrupt is asked for (R487). -/
def State.raise (s : State) (code plaza unit : Nat) (detail : List Byte) : State :=
  let r := s.eventRec code plaza unit detail
  { s with ev := { s.ev with
      ring := s.ev.ring.set (r.seq.toNat % 8192) (some r), head := r.seq,
      hostLost := satAdd s.ev.hostLost (b2n r.hostLoss), mewsLost := satAdd s.ev.mewsLost (b2n r.mewsLoss) } }.eventSignal

/-- Plaza number of an event of the package as a whole (R485). -/
def pkgPlaza : Nat := 31

/-- The IEEE 1588 time of the package in ns: its free-running time, steered (R297). -/
def State.ptpTime (s : State) : Nat := ((s.top.now : Int) + s.net.timeOffset).toNat

/-! ### Sending on the network (R294, R313) -/

/-- The number of an arbiter in the tables (R231). -/
def arbIx (kind plaza unit : Nat) : Nat := kind * 2 ^ 16 + plaza * 2 ^ 8 + unit
/-- An arbiter. -/
def State.arb (s : State) (k : Nat) : Arbiter := s.blv.arbs.get k

/-- Does FREEZE of the egress port of a sub-port stand (R237, R299)? -/
def State.egressFrozen (s : State) (sub : Nat) : Bool := (s.arb (arbIx 2 (24 + sub / 64) (sub % 64 / 8))).freeze

/-- A frame as it leaves its port. -/
def Frame.out (f : Frame) : Out :=
  match f.udp with
  | none => .net (f.sub / 64) (f.sub % 64) f.kind f.dst f.bytes
  | some (a, b) => .udp (f.sub / 64) (f.sub % 64) a b f.dst f.bytes

/-- Does the package carry all traffic of chapter 12 (R313)? -/
def State.netOpen (s : State) : Bool := s.top.state == .loaded || s.top.state == .running

/-- May a frame leave in the package's state (R313): all traffic in LOADED and RUNNING, a Neighbor Advertisement in IDLE too? -/
def State.mayLeave (s : State) (f : Frame) : Bool := s.netOpen || (f.kind == 6 && s.top.state == .idle)

/-- Has the current step started (R309, R327)? A step that is to run again has. -/
def State.stepStarted (s : State) : Bool :=
  s.top.state == .running && (s.seq.phase == .execute || s.seq.phase == .drain || s.seq.phase == .decide || s.seq.phase == .commit ||
    s.seq.phase == .restore || (s.seq.phase == .start && (s.seq.exe.second || s.seq.exe.recovery)))

/-- A frame leaves a sub-port that is up, and is counted, with MACsec under the next packet number (R295); a sub-port that is down, or a
package whose state carries no such traffic (R313), sends nothing. -/
def State.leave (s : State) (f : Frame) : State :=
  if (s.net.ports.get f.sub).up && s.mayLeave f then
    { s with net := { s.net with ports := s.net.ports.mod f.sub (fun p => { p with tx := satAdd p.tx 1, txPn := p.txPn + b2n p.macsec }) } }.emit f.out
  else s

/-- A frame for a sub-port: it leaves, or waits while the arbiter of its port is frozen and grants nothing (R237). -/
def State.sendFrame (s : State) (f : Frame) : State :=
  if (s.net.ports.get f.sub).up && s.egressFrozen f.sub then { s with net := { s.net with egress := s.net.egress ++ [f] } } else s.leave f

/-- A frame of a kind of traffic to an address. -/
def State.sendNet (s : State) (sub kind dst : Nat) (bytes : List Byte) : State :=
  s.sendFrame { sub := sub, kind := kind, dst := dst, bytes := bytes }

/-- The order of unowned egress periods (R209, R301): resends of the scheduled network (kind 1), then Reach and service frames, then the
journal (kind 4). -/
def Frame.rank (f : Frame) : Nat := if f.kind = 1 then 0 else if f.kind = 4 then 2 else 1

/-- The frames that have waited at a port leave by rank, within a rank the oldest first (R301). -/
def State.thawEgress (s : State) (gw port : Nat) : State :=
  let here := fun (f : Frame) => f.sub / 8 == gw * 8 + port
  let l := s.net.egress.filter here
  (((upto 3).flatMap (fun r => l.filter (fun f => f.rank == r)))).foldl State.leave
    { s with net := { s.net with egress := s.net.egress.filter (fun f => !here f) } }

/-- The route in force of a destination package (R307). -/
def State.routeOf (s : State) (dest : Nat) : Option RouteEntry :=
  match s.img.image with
  | none => none
  | some i => (i.routes.get dest)[(s.net.routes.get dest).active]?

/-- Is route `r` of a destination up: its sub-port is up (R307)? -/
def State.routeUp (s : State) (dest r : Nat) : Bool :=
  match (s.img.image.bind (fun i => (i.routes.get dest)[r]?)) with
  | none => false
  | some e => (s.net.ports.get e.subport).up

/-- The destinations of the image's routes. -/
def State.routeDests (s : State) : List Nat := match s.img.image with | none => [] | some i => i.routes.keys

/-- Would a frame to a package leave: its route in force has a sub-port that is up? -/
def State.canSendTo (s : State) (dest : Nat) : Bool := match s.routeOf dest with | none => false | some r => (s.net.ports.get r.subport).up

/-- Send to a package by its route in force. -/
def State.sendTo (s : State) (dest kind : Nat) (bytes : List Byte) : State :=
  match s.routeOf dest with
  | none => s
  | some r => s.sendNet r.subport kind r.ip.toNat bytes

/-! ### Reach headers (R321) -/

/-- The 64 bytes of a Reach header (R321). -/
def ReachHdr.bytes (h : ReachHdr) : List Byte :=
  [1, BitVec.ofNat 8 h.op] ++ leBytes 2 h.flags.toNat ++
  [BitVec.ofNat 8 h.engine, BitVec.ofNat 8 h.aop, BitVec.ofNat 8 h.status, BitVec.ofNat 8 h.hflag.toNat] ++ leBytes 4 h.seq.toNat ++
  leBytes 2 h.length ++ leBytes 2 h.region ++ leBytes 8 h.offset ++ leBytes 8 h.key.toNat ++ leBytes 8 h.step.toNat ++
  leBytes 4 h.msg.toNat ++ leBytes 4 h.count ++ leBytes 4 h.tally.toNat ++ List.replicate 12 0

/-- The header of a reply: it copies SEQ, ENGINE, REGION, OFFSET and MSG (R322). -/
def ReachHdr.reply (h : ReachHdr) (op status length : Nat) : ReachHdr :=
  { op := op, engine := h.engine, status := status, seq := h.seq, length := length, region := h.region, offset := h.offset, msg := h.msg }

/-! ### Mews responses (R478, R479) -/

/-- The BOOT value (R479). -/
def Mews.bootBytes (m : Mews) : List Byte := leBytes 8 (Sys2Proof.Config.trng m.boot).toNat

/-- The 16-byte Mews header (R478). -/
def mewsHeader (op : Nat) (tag : Half) (cred : Byte) (st len : Nat) (seq : Word64) : List Byte :=
  [1, BitVec.ofNat 8 op] ++ leBytes 2 tag.toNat ++ [cred, BitVec.ofNat 8 st] ++ leBytes 2 len ++ leBytes 8 seq.toNat

/-- The KMAC tag of a slot over BOOT, header and body (R479). -/
def Mews.tag (m : Mews) (slot : Nat) (header body : List Byte) : List Byte :=
  match m.creds.get slot with
  | none => []
  | some c => leBytes 16 (Sys2Proof.Config.kmac c.key (ascii "MEWS") (m.bootBytes ++ header ++ body)).toNat

/-- Answer a Mews request (R478, R479); `auth` is false where the response carries no AUTH. -/
def State.mewsReply (s : State) (port op : Nat) (tag : Half) (cred : Byte) (seq : Word64) (st : Status) (auth : Bool)
    (body : List Byte) : State :=
  let h := mewsHeader op tag cred st.code body.length seq
  { s with mews := { s.mews with openReqs := s.mews.openReqs.set port (s.mews.openReqs.get port - 1) } }.emit
    (.mews port (h ++ body ++ (if auth && decide (cred.toNat < 16) then s.mews.tag cred.toNat h body else [])))

/-! ### The end of a command (R364 to R368) -/

/-- The words of CMD_RESULT0 to CMD_RESULT7. -/
def resultWords (res : List Word) : Tbl Word := (Tbl.setRun {} 0 (res.take 8))

/-- CMD_STATUS as a word (R368). -/
def cmdStatus (busy done aborted other : Bool) (accept state status : Nat) : Nat :=
  b2n busy * 2 ^ 31 + b2n done * 2 ^ 30 + b2n aborted * 2 ^ 29 + b2n other * 2 ^ 28 + accept * 2 ^ 16 + state * 2 ^ 8 + status

/-- The body of the response to a Mews request that ends (R365, R481): for HOST_COMMAND the status word and the eight results. -/
def mewsBody (c : RunningCmd) (word : Nat) (res : List Word) : List Byte :=
  if c.mewsOp = 0x20 then leBytes 4 word ++ (upto 8).flatMap (fun i => leBytes 4 ((resultWords res).get i).toNat)
  else res.flatMap (fun w => leBytes 4 w.toNat)

/-- Answer a command on its path (R364, R365, R368). -/
def State.answerCmd (s : State) (c : RunningCmd) (st : Status) (aborted other : Bool) (res : List Word) : State :=
  match c.path with
  | .host =>
    { s with host := { s.host with
        busy := false, done := true, aborted := aborted, otherPath := other,
        accept := BitVec.ofNat 8 c.accept, stateCode := BitVec.ofNat 3 s.top.state.code,
        status := BitVec.ofNat 8 st.code, results := resultWords res } }.msix 0
  | .reach src h => s.sendTo src 2 (h.reply 0x86 st.code 0).bytes
  | .mews port =>
    s.mewsReply port c.mewsOp c.tag c.cred c.seq st true
      (mewsBody c (cmdStatus false true aborted other c.accept s.top.state.code st.code) res)

/-- The running command ends with a status and its results (R364, R365). -/
def State.endCmd (s : State) (st : Status) (res : List Word) : State :=
  match s.host.running with
  | none => s
  | some c => { s with host := { s.host with running := none } }.answerCmd c st false false res

/-- The package entered FAULTED while a command runs: it ends with ST_STATE_REFUSED and ABORTED = 1 (R368). -/
def State.abortCmd (s : State) : State :=
  match s.host.running with
  | none => s
  | some c => { s with host := { s.host with running := none } }.answerCmd c .stateRefused true false []

/-- A command refused by R366 is counted, and its opcode recorded. -/
def State.countRefusal (s : State) (opcode : Nat) : State :=
  { s with host := { s.host with refuseCount := satAdd s.host.refuseCount 1, lastRefused := BitVec.ofNat 32 opcode } }

/-! ### The ways out of an execution (R155, R168, R391) -/

/-- Every shallot stops issuing: the execution has ended at a bundle boundary. -/
def State.stopShallots (s : State) : State :=
  s.modShs (fun h => h.inStep || h.beatZeroDue) (fun h =>
    { h with
      inStep := false, beatZeroDue := false, recvHolds := [], waitHolds := [], retryHold := 0, rowWaits := [], privHold := 0, wideHold := 0,
      wakeHeld := [], wakeHold := 0, forecastHold := none,
      pods := h.pods.mapAll (fun _ p => { p with issuing := false }) })

/-! ### Why a beat counter stands (R152, R153, R428) -/

/-- A cause of a held period, in the order of R153. -/
inductive HoldCause where
  | wake | retry | priv | wide | landing | wait
deriving DecidableEq, Repr, Inhabited

/-- What stands the counter in a period: the first of stop, recess, pause and hold (R153). -/
inductive StandKind where
  | none
  | stop
  | recess (k : RecessKind)
  | pause
  | hold (c : HoldCause)
deriving DecidableEq, Repr, Inhabited

/-- The first cause of a hold that applies; `landed` where a RECV copies its slot in this period (R119, R153). -/
def Shallot.holdCause (h : Shallot) (landed : Bool) : Option HoldCause :=
  if !h.wakeHeld.isEmpty || h.wakeHold != 0 || h.forecastHold.isSome then some .wake
  else if h.retryHold != 0 || !h.rowWaits.isEmpty then some .retry
  else if h.privHold != 0 then some .priv
  else if h.wideHold != 0 then some .wide
  else if landed || !h.recvHolds.isEmpty then some .landing
  else if !h.waitHolds.isEmpty then some .wait
  else none

/-- What stands the shallot's counter beside a stop: the first of recess, pause and hold (R153). -/
def Shallot.standsElse (h : Shallot) (landed : Bool) : StandKind :=
  match h.recess with
  | some k => .recess k
  | none =>
    if h.pwr.vrLimit || h.pwr.dutyPause then .pause
    else match h.holdCause landed with
      | some c => .hold c
      | none => .none

/-- Why the shallot's counter stands now. A stop comes first; but of one that began within a standstill only the part that outlasts the
standstill is a stop (R153, R423). -/
def Shallot.stands (h : Shallot) (landed : Bool) : StandKind :=
  let k := h.standsElse landed
  if h.clk.stopNs != 0 && (!h.stopInside || k == .none) then .stop else k

/-- Does an execution run that has not reached its commit? -/
def State.executing (s : State) : Bool :=
  s.top.state == .running && (s.seq.phase == .start || s.seq.phase == .execute || s.seq.phase == .drain || s.seq.phase == .decide)

/-- End the running execution uncommitted. A fence and the other paths of R155 go to the restore and then fail the step;
a hardware fault drains first (R168). The first cause governs, but a fence governs a hardware fault. -/
def State.endExec (s : State) (c : EndCause) : State :=
  if s.executing then
    let t := s.stopShallots
    match c with
    | .hardware k =>
      if s.seq.exe.ending.isSome then s
      else { t with seq := { t.seq with phase := .drain, exe := { t.seq.exe with ending := some (.hardware k) } } }
    | c => { t with seq := { t.seq with phase := .restore, exe := { t.seq.exe with ending := some c, verdict := some (.fail 3) } } }
  else s

/-- A hardware fault ends the execution (R168). -/
def State.hwFault (s : State) (k : HwFault) : State := s.endExec (.hardware k)

/-- A fence cause: the shallot becomes FENCED, and a running execution that places it ends (R154, R155). -/
def State.fence (s : State) (n : Nat) : State :=
  if (s.shal n).fenced then s
  else
    let placed := (s.shal n).placed
    let t := s.modSh n (fun h => { h with fenced := true })
    if placed then (t.raise 0x0012 n 0 []).endExec .fence else t

/-- A START or REPLAY whose first step never began ends with ST_OK when the run is over: it had its effect, and a refusal without ABORTED has
none (R366, R368; DESIGN CHOICE, log 24). -/
def State.endStart (s : State) : State :=
  match s.host.running with
  | some c => if c.opcode = 2 ∨ c.opcode = 9 then s.endCmd .ok [] else s
  | none => s

/-- A drawn rotation comes into force: the epoch rises, writes take the other slot, the re-key walkers start, and ROTATE_KEYS ends
with the new epoch (R288, R460). -/
def State.rotateInForce (s : State) : State :=
  if s.sec.rotateDue then
    let e := s.sec.epoch + 1
    { s with
      sec := { s.sec with rotateDue := false, oldLive := true, epoch := e },
      mem := (upto 16).foldl (fun (t : Tbl Stack) h => t.mod h (fun m => { m with epoch := !m.epoch, walking := true, walkUnit := 0 })) s.mem
      }.endCmd .ok [lo32 e, hi32 e]
  else s

/-- The package moves to LOADED: no step runs, an armed stop is disarmed (R371), no window moves, and a rotation that waits for a step boundary is
in force at once (R460). -/
def State.toLoaded (s : State) : State :=
  ({ s with
    top := { s.top with state := .loaded }, blv := { s.blv with mapRunning := false },
    host := { s.host with windows := s.host.windows.mapAll (fun _ w => { w with moving := false }) },
    seq := { s.seq with phase := .idle, stopAt := none, replay := false, startAt := none, ready := [], ownReady := none,
                        recoveries := 0, leave := false } }).endStart.rotateInForce

/-- What the first 2 ms of a sweep destroy: the session secrets, every session and RUN slot, the staging key and every offer (R462). -/
def State.destroyKeys (s : State) : State :=
  { s with
    sec := { s.sec with tenant := none, clients := [], offers := [], staging := none, nextSession := 1, epoch := 0, oldLive := false, rotateDue := false },
    mem := (upto 16).foldl (fun (t : Tbl Stack) h => t.mod h (fun m =>
      { m with keyEven := none, keyOdd := none, keyRun := none, walking := false, walkUnit := 0, epoch := false })) s.mem }

/-- The package enters FAULTED (R391). With the hardware in doubt, a running execution ends at once, uncommitted and without
a drain; otherwise the running step completes in the data plane and stays uncommitted. Out of a sweep the key destruction comes first (R465). A running command is aborted (R368). -/
def State.toFaulted (s : State) (doubt : Bool) : State :=
  let t := if doubt then s.stopShallots else s
  let t := if s.top.sweepPhase = 1 then t.destroyKeys else t
  { t with
    top := { t.top with state := .faulted, doubt := t.top.doubt || doubt, sweepPhase := 0, after := .idle, plazaReset := none, phase := 0, parking := false, unparking := false },
    blv := { t.blv with mapRunning := false },
    seq := { t.seq with phase := if doubt then .idle else t.seq.phase } }.abortCmd

/-! ### Retired pods and placements (R123, R201, R374) -/

/-- Is the pod retired by fuses, RETIRE_POD, R123 or the self-test (R375)? -/
def State.retired (s : State) (n p : Nat) : Bool :=
  (s.pod n p).fused || s.img.retired.contains (n * 512 + p) || (s.shal n).bistRetired.contains p

/-- Does a placement avoid every retired pod? -/
def State.avoidsRetired (s : State) (pl : Placement) : Bool :=
  shallotNums.all (fun n => (upto 512).all (fun p => !((pl.pods.get n).getLsbD p) || !s.retired n p))

/-- The lowest placement of the image that avoids every retired pod (R201). -/
def State.usablePlacement (s : State) (i : Image) : Option Nat :=
  (upto i.placements.length).find? (fun k => match i.placements[k]? with | some pl => s.avoidsRetired pl | none => false)

/-- A pod whose private channel fails is retired: the step runs again on a fall-back placement that avoids it, and where
there is none the shallot becomes FENCED (R123). -/
def State.retirePod (s : State) (n p : Nat) : State :=
  let t := (s.modPod n p (fun q => { q with rowPath := 2 }))
  let t := { t with img := { t.img with retired := if t.img.retired.contains (n * 512 + p) then t.img.retired else t.img.retired ++ [n * 512 + p] } }
  let t := t.raise 0x8003 n p []
  if (s.pod n p).placed then
    match t.img.image with
    | none => t
    | some i => match t.usablePlacement i with
      | some _ => t.hwFault .podRetired
      | none => t.fence n
  else t

/-! ### Reports of pod operations (R31, R35, R64, R65, R85, R135, R137, R144) -/

/-- What the running execution gives every pod of a shallot. -/
def State.ctx (s : State) (n : Nat) : ExecCtx :=
  { wide := s.seq.exe.wide, step := s.seq.current, seed := s.seq.seed, offs := s.seq.exe.offs,
    beat := (s.shal n).beat.toNat, free := s.free }

/-- KIND of ARITH_FIRST (R64): 1 window miss, 2 A32 overflow, 3 A192 overflow. -/
def firstWord (tid : Half) (kind pod : Nat) : Word := BitVec.ofNat 32 (tid.toNat * 2 ^ 16 + kind * 2 ^ 14 + pod)

/-- Does a fault at (beat, pod, column) come before the one recorded (R65)? -/
def Shallot.earlier (h : Shallot) (beat pod col : Nat) : Bool :=
  bitsOf h.arithFirst.toNat 14 2 == 0 ||
  decide (beat < h.arithFirstBeat.toNat) ||
  (beat == h.arithFirstBeat.toNat &&
    (decide (pod < bitsOf h.arithFirst.toNat 0 9) || (pod == bitsOf h.arithFirst.toNat 0 9 && decide (col < h.firstCol))))

/-- An arithmetic fault: status bit, first fault, count (R64, R65). -/
def Shallot.arithFault (h : Shallot) (kind : Nat) (tid : Half) (pod col : Nat) : Shallot :=
  let early := h.earlier h.beat.toNat pod col
  { h with
    arithStatus := h.arithStatus ||| BitVec.ofNat 4 (2 ^ (kind - 1)),
    arithFirst := if early then firstWord tid kind pod else h.arithFirst,
    arithFirstBeat := if early then h.beat.setWidth 32 else h.arithFirstBeat,
    firstCol := if early then col else h.firstCol,
    missCount := satAdd h.missCount (b2n (kind == 1)),
    a32Count := satAdd h.a32Count (b2n (kind == 2)),
    a192Count := satAdd h.a192Count (b2n (kind == 3)) }

/-- The event of an arithmetic fault, at the first of its kind in the execution (R65). -/
def State.arithFault (s : State) (n pod kind : Nat) (tid : Half) (col : Nat) : State :=
  let first := !((s.shal n).arithStatus.getLsbD (kind - 1))
  let t := s.modSh n (fun h => h.arithFault kind tid pod col)
  if first then t.raise (if kind = 1 then 0x1010 else if kind = 2 then 0x1012 else 0x1013) n pod (leBytes 4 (t.shal n).arithFirst.toNat)
  else t

/-- Observers that name a TENSOR_ID. -/
def StepSeq.observerOf (q : StepSeq) (tid : Half) : Option Nat :=
  (q.observers.cells.filter (fun c => match c.2.entry with | some e => e.tid == tid | none => false)).head?.map Prod.fst

/-- A maximum of observations, where none is an empty one (R85). -/
def obsJoin (a b : Option Int) : Option Int := histMax [a, b]

/-- One report of a pod operation takes effect. -/
def State.report (s : State) (n pod : Nat) : Report → State
  | .miss tid col => s.arithFault n pod 1 tid col
  | .a32 tid col => s.arithFault n pod 2 tid col
  | .a192 tid col => s.arithFault n pod 3 tid col
  | .sat tid k => s.modExe (fun e => { e with sats := e.sats.mod tid.toNat (fun c => c + k) })
  | .obs tid o =>
    if (s.seq.observerOf tid).isSome then
      s.modExe (fun e => { e with obs := e.obs.mod tid.toNat (fun c => match c with
        | none => some o
        | some c => some (obsJoin c o)) })
    else s
  | .t2 tid k =>
    let s := match tid with
      | some t => { s with seq := { s.seq with malformed := s.seq.malformed.mod t.toNat (fun c => c + k) } }
      | none => s
    if s.seq.once.t2 then s
    else { s with seq := { s.seq with once := { s.seq.once with t2 := true } } }.raise 0x1001 n pod (leBytes 2 ((tid.map BitVec.toNat).getD 0xFFFF))
  | .vecSat k => s.modSh n (fun h => { h with vecSat := satAdd h.vecSat k })
  | .vecDomain k => s.modSh n (fun h => { h with vecDomain := satAdd h.vecDomain k })
  | .vecRange k => s.modSh n (fun h => { h with vecRange := satAdd h.vecRange k })

/-- The reports of an operation take effect in order. -/
def State.reports (s : State) (n pod : Nat) (rs : List Report) : State := rs.foldl (fun t r => t.report n pod r) s

/-- A slot operation on a pod: the pod's new state, the reports, and the next free value. -/
def State.podOp (s : State) (r : PodRef) (f : ExecCtx → Pod → Pod × List Report) : Res :=
  let q := f (s.ctx r.sh.val) (s.pod r.sh.val r.pod.val)
  .next ({ (s.modPod r.sh.val r.pod.val (fun _ => q.1)) with free := s.free + 1 }.reports r.sh.val r.pod.val q.2)

/-- A slot operation in a form that the loader admits; another form is refused by name (R126, R148). -/
def State.podOpIf (s : State) (ok : Bool) (r : PodRef) (f : ExecCtx → Pod → Pod × List Report) : Res :=
  if ok then s.podOp r f else .refused .loaderRefuses

end Sys2Proof.Machine
end

