-- ==== Sys2Proof/Machine/Street.lean ====
section
/-! DEFINITION. Streets: widths, flits, link replay, wavelengths that go down, and rows that land (R213 to R230). -/
namespace Sys2Proof.Machine

/-! ### Streets and wavelengths (R213, R224, R225) -/

/-- The occupant of a plaza: 0 shallot, 1 stack, 2 gateway, 3 management die (R16). -/
def plazaKind (p : Nat) : Nat := if p < 8 then 0 else if p < 24 then 1 else if p < 26 then 2 else 3

/-- The width of the street from one plaza to another in wavelengths (R213); 0 where there is none. -/
def streetWidth (src dst : Nat) : Nat :=
  if src = dst ∨ 26 < src ∨ 26 < dst then 0
  else match plazaKind src, plazaKind dst with
    | 0, 0 => 64 | 0, 1 => 16 | 0, 2 => 48 | 0, _ => 1
    | 1, 0 => 40 | 1, 1 => 2 | 1, 2 => 16 | 1, _ => 1
    | 2, 0 => 48 | 2, 1 => 16 | 2, 2 => 32 | 2, _ => 1
    | _, 3 => 0 | _, _ => 1

/-- The number of a street in the tables. -/
def streetIx (src dst : Nat) : Nat := src * 32 + dst

/-- The street from `src` to `dst`. -/
def State.street (s : State) (src dst : Nat) : Street := s.blv.streets.get (streetIx src dst)
/-- The state with a street changed. -/
def State.modStreet (s : State) (src dst : Nat) (f : Street → Street) : State :=
  { s with blv := { s.blv with streets := s.blv.streets.mod (streetIx src dst) f } }
/-- The state with a wavelength changed. -/
def State.modWave (s : State) (src dst w : Nat) (f : Wave → Wave) : State :=
  s.modStreet src dst (fun t => { t with waves := t.waves.mod w f })

/-- Can a wavelength carry flits: neither down nor parked (R202, R224)? -/
def Wave.up (w : Wave) : Bool := !w.down && !w.parked

/-- Wavelengths of a street that are up: a parked one is not declared down, and counts as not up for sending alone (R202). -/
def Street.widthUp (t : Street) (width : Nat) : Nat := ((upto width).filter (fun w => !(t.waves.get w).down)).length

/-- The wavelength that a flit for `w` travels on: `w`, or the next one that is up in cyclic order (R224, R228). -/
def Street.next (t : Street) (width w : Nat) : Option Nat :=
  ((upto width).map (fun i => (w + i) % width)).find? (fun v => (t.waves.get v).up)

/-! ### Flits (R216 to R222) -/

/-- A flit of a header and a payload with the CRC for its number (R216, R220). -/
def mkFlit (seq : Nat) (header payload : Nat) : Flit :=
  BitVec.ofNat 544 (header % 2 ^ 16 * 2 ^ 528 + payload % 2 ^ 512 * 2 ^ 16 +
    (crc16 (natBitsMsb 16 (seq % 32) ++ natBitsMsb 16 header ++ natBitsMsb 512 payload)).toNat)

/-- HEADER of a flit. -/
def flitHeader (f : Flit) : Nat := bitsOf f.toNat 528 16
/-- PAYLOAD of a flit. -/
def flitPayload (f : Flit) : Nat := bitsOf f.toNat 16 512
/-- KIND: 0 IDLE, 1 DATA, 2 REQ, 3 LINK (R217). -/
def flitKind (f : Flit) : Nat := bitsOf f.toNat 542 2
/-- PART of a DATA flit (R217). -/
def flitPart (f : Flit) : Nat := bitsOf f.toNat 539 3
/-- LAST of a DATA flit (R217). -/
def flitLast (f : Flit) : Bool := bitAt f.toNat 538
/-- ROUTE or RTAG (R217). -/
def flitRoute (f : Flit) : Nat := bitsOf f.toNat 528 10

/-- Does the flit pass its CRC as number `seq` of its wavelength (R220)? -/
def flitOk (seq : Nat) (f : Flit) : Bool := f == mkFlit seq (flitHeader f) (flitPayload f)

/-- Header of a DATA flit (R217). -/
def dataHeader (part : Nat) (last : Bool) (route : Nat) : Nat := 2 ^ 14 + part * 2 ^ 11 + b2n last * 2 ^ 10 + route % 1024
/-- Header of a REQ flit (R217). -/
def reqHeader (rtag : Nat) : Nat := 2 * 2 ^ 14 + rtag % 1024
/-- Header of a LINK flit (R217). -/
def linkHeader : Nat := 3 * 2 ^ 14

/-- The payload of flit `p` of a row: row bytes 64p to 64p + 63 (R216). -/
def rowPayload (r : Row) (p : Nat) : Nat := bitsOf r.toNat (512 * p) 512

/-- The route word of part `p` of a row into a shallot (R218). -/
def routeWord (p pod : Nat) (half : Bool) (lslot : Nat) (row : Option Nat) : Nat :=
  match p % 4 with
  | 0 => bitsOf pod 0 9
  | 1 => b2n row.isSome * 512 + b2n half * 256 + lslot % 16
  | 2 => (row.getD 0) % 1024
  | _ => (row.getD 0) / 1024 % 4

/-! ### Sending (R221, R222, R224) -/

/-- Send what the wavelength can send now: nothing while it is paused or holds 32 unacknowledged flits (R221, R244). -/
def pumpGo (src dst w : Nat) : Nat → State → State
  | 0, s => s
  | n + 1, s =>
    let v := (s.street src dst).waves.get w
    match v.queue with
    | [] => s
    | f :: q =>
      if v.paused || !v.up || decide (32 ≤ v.replay.length) then s
      else
        let g := mkFlit v.txSeq.toNat (flitHeader f) (flitPayload f)
        pumpGo src dst w n ((s.modWave src dst w (fun x =>
          { x with queue := q, txSeq := x.txSeq + 1, replay := x.replay ++ [(x.txSeq, g)] })).emit (.flit src dst w g))

/-- Send the flits that wait on a wavelength, as far as it may. -/
def State.pump (s : State) (src dst w : Nat) : State := pumpGo src dst w ((s.street src dst).waves.get w).queue.length s

/-- A flit joins the queue of its wavelength: a LINK flit goes before DATA and REQ flits, behind the LINK flits that wait (R222). -/
def queueFlit (f : Flit) (q : List Flit) : List Flit :=
  if flitKind f = 3 then q.takeWhile (fun x => flitKind x == 3) ++ f :: q.dropWhile (fun x => flitKind x == 3) else q ++ [f]

/-- Hand a flit to a wavelength, or to the next one that is up (R224), in the order of R222.
With no wavelength up the street is down and carries nothing (R225). -/
def State.sendFlit (s : State) (src dst w : Nat) (header payload : Nat) : State :=
  match (s.street src dst).next (streetWidth src dst) (w % max 1 (streetWidth src dst)) with
  | none => s
  | some v =>
    let f := BitVec.ofNat 544 (header % 2 ^ 16 * 2 ^ 528 + payload % 2 ^ 512 * 2 ^ 16)
    (s.modWave src dst v (fun x => { x with queue := queueFlit f x.queue })).pump src dst v

/-- A LINK entry (R222). -/
def linkEntry (type wave seq : Nat) : Nat := type * 2 ^ 14 + wave * 2 ^ 8 + seq % 32

/-- The receiver of street src → dst sends a LINK entry on the reverse street's lowest wavelength that is up (R222). -/
def State.sendLink (s : State) (src dst type wave seq : Nat) : State := s.sendFlit dst src 0 linkHeader (linkEntry type wave seq)

/-- Send the flits of one row as DATA flits from part 0 on (R217, R228). -/
def State.sendRow (s : State) (src dst wfirst n : Nat) (last : Bool) (route : Nat → Nat) (r : Row) : State :=
  (upto n).foldl (fun t p => t.sendFlit src dst (wfirst + p) (dataHeader p last (route p)) (rowPayload r p)) s

/-! ### Wavelengths and streets that go down (R224, R225) -/

/-- Does the running step use the street: some wavelength of it is not parked by STREET_USE (R202; DESIGN CHOICE, log 9)? -/
def State.streetUsed (s : State) (src dst : Nat) : Bool :=
  (upto (streetWidth src dst)).any (fun w => !((s.street src dst).waves.get w).parked)

/-- STREET_SEL layout, as street events carry it. -/
def streetDetail (src dst : Nat) : List Byte := leBytes 2 (src * 32 + dst)

/-- A street with no wavelength up is down: shallots at its ends are fenced, or the execution that uses it ends (R225). -/
def State.streetDown (s : State) (src dst : Nat) : State :=
  let t := s.raise 0x2002 src dst (streetDetail src dst)
  if src < 8 ∨ dst < 8 then
    let t := if src < 8 then t.fence src else t
    if dst < 8 then t.fence dst else t
  else if t.executing && t.streetUsed src dst then t.endExec .other
  else t

/-! ### Lane groups and their recalibration demands (R244, R267) -/

/-- A ring takes a state; the worst of the interval enters the congestion map (R240, R248). -/
def LaneGroup.setRing (l : LaneGroup) (i : Nat) (st : RingState) : LaneGroup :=
  { l with rings := l.rings.set i st,
           mapRings := l.mapRings.mod i (fun w => if w.code < st.code then st else w) }

/-- The state with a lane group changed, by end, plaza and lane number. -/
def State.modLaneAt (s : State) (rx : Bool) (plaza lane : Nat) (f : LaneGroup → LaneGroup) : State :=
  { s with blv := { s.blv with lanes := s.blv.lanes.mod (b2n rx * 2 ^ 24 + plaza * 2 ^ 16 + lane) f } }

/-- The number of a lane group in the tables. -/
def laneIx (g : LaneRef) : Nat := b2n g.rx * 2 ^ 24 + g.plaza.val * 2 ^ 16 + g.lane.val
/-- A lane group. -/
def State.lane (s : State) (g : LaneRef) : LaneGroup := s.blv.lanes.get (laneIx g)
/-- The state with a lane group changed. -/
def State.modLane (s : State) (g : LaneRef) (f : LaneGroup → LaneGroup) : State :=
  { s with blv := { s.blv with lanes := s.blv.lanes.mod (laneIx g) f } }

/-- Demand a recalibration of a lane group, unless it is switched off after two failures (R267, R269). -/
def State.demandLane (s : State) (g : LaneRef) : State :=
  if (s.lane g).autoOff then s
  else s.modLane g (fun l => { l with pending := true, demandAt := if l.pending then l.demandAt else s.top.now })

/-- The two rings of a wavelength are DOWN: the modulator ring at its source and the filter ring at its destination (R224, R240). The
lane and the place of both come from a map that the spec does not print (R214; DEDUCED, log 100). -/
def State.ringsDown (s : State) (src dst w : Nat) : State :=
  let a := Sys2Proof.Config.waveRing src dst w
  let b := Sys2Proof.Config.waveFilter src dst w
  (s.modLaneAt false src (a / 16) (fun l => l.setRing (a % 16) .down)).modLaneAt true dst (b / 16) (fun l => l.setRing (b % 16) .down)

/-- Neither of two plazas passes, so the package does not pass (R270). -/
def State.notPassing (s : State) (p q : Nat) : State :=
  { s with lamp := { s.lamp with packagePass := false, plazaPass := s.lamp.plazaPass &&& ~~~(BitVec.ofNat 27 (2 ^ p ||| 2 ^ q)) } }

/-- A wavelength is declared down: nothing of it waits or is paused, its rings are DOWN, and neither plaza at its ends passes any more
(R224, R240, R270). -/
def State.markDown (s : State) (src dst w : Nat) (dark : Bool) : State :=
  ((s.modWave src dst w (fun x => { x with down := true, dark := x.dark || dark, paused := false, slips := 0, replay := [], queue := [], fails := 0 })).ringsDown
    src dst w).notPassing src dst

/-- The flits of the replay buffer that the receiver has not accepted: those from the number on that it expects. The others were applied,
and each flit is applied once (R174, R221). -/
def Wave.unaccepted (v : Wave) : List Flit := (v.replay.dropWhile (fun e => e.1 != v.rxSeq)).map Prod.snd

/-- The accepted flits of a wavelength that wait for the rest of their row count, once it is down, as of the wavelength that now carries its
parts (R218, R224). -/
def State.moveWaiting (s : State) (src dst w : Nat) : State :=
  match (s.street src dst).next (streetWidth src dst) w with
  | none => s
  | some v => { s with blv := { s.blv with rxBuf := s.blv.rxBuf.mod (streetIx src dst) (List.map (fun e => if e.1 = w then (v, e.2) else e)) } }

/-- Declare a wavelength down: its waiting flits and those that the receiver has not accepted travel behind those of the next wavelength
(R224). -/
def State.waveDown (s : State) (src dst w : Nat) : State :=
  let v := (s.street src dst).waves.get w
  if v.down then s
  else
    let t := ((s.markDown src dst w false).moveWaiting src dst w).raise 0x2001 src w (streetDetail src dst ++ [BitVec.ofNat 8 w])
    let t := (v.unaccepted ++ v.queue).foldl (fun t f => t.sendFlit src dst w (flitHeader f) (flitPayload f)) t
    if (t.street src dst).widthUp (streetWidth src dst) = 0 then t.streetDown src dst else t

/-! ### Link entries (R221, R222, R244) -/

/-- Resend the flits of the replay buffer from `l` on; each adds 1 to the street's retries and its lane group's (R221). -/
def State.resend (s : State) (src dst w : Nat) (l : List (BitVec 5 × Flit)) : State :=
  let t := l.foldl (fun t e => t.emit (.flit src dst w e.2)) s
  t.modStreet src dst (fun x => { x with retries := satAdd x.retries l.length, mapRetries := x.mapRetries + l.length })

/-- Count retries for a lane group; more than 10,000 in one map interval demand its recalibration (R267). -/
def State.laneRetries (s : State) (g : LaneRef) (n : Nat) : State :=
  let before := (s.lane g).mapRetries
  let t := s.modLane g (fun l => { l with mapRetries := l.mapRetries + n })
  if before ≤ 10000 ∧ 10000 < before + n then t.demandLane g else t

/-- The replay entries after the one numbered `seq`, or all of them where no entry has that number. -/
def dropThrough (seq : BitVec 5) (l : List (BitVec 5 × Flit)) : List (BitVec 5 × Flit) :=
  if l.any (fun e => e.1 == seq) then (l.dropWhile (fun e => e.1 != seq)).drop 1 else l

/-- LINK_ACK (R221): the replay buffer is freed up to the acknowledged flit, and what waited is sent. -/
def execLinkAck (w : WaveRef) (seq : BitVec 5) (s : State) : Res :=
  let t := s.modWave w.src.val w.dst.val w.wave.val (fun x =>
    let r := dropThrough seq x.replay
    { x with replay := r, fails := if r.length = x.replay.length then x.fails else 0 })
  .next (t.pump w.src.val w.dst.val w.wave.val)

/-- LINK_NAK (R221): resend from the named flit on; after 8 failed resends of it the wavelength is down (R224). -/
def execLinkNak (w : WaveRef) (seq : BitVec 5) (g : LaneRef) (s : State) : Res :=
  let v := (s.street w.src.val w.dst.val).waves.get w.wave.val
  let l := v.replay.dropWhile (fun e => e.1 != seq)
  if v.down || v.parked || l.isEmpty then .next s
  else
    let n := if l.length = v.replay.length then v.fails else 0
    let t := s.modWave w.src.val w.dst.val w.wave.val (fun x => { x with replay := l, fails := n + 1 })
    if 8 ≤ n then .next (t.waveDown w.src.val w.dst.val w.wave.val)
    else .next ((t.resend w.src.val w.dst.val w.wave.val l).laneRetries g l.length)

/-- LINK_PAUSE (R244): the sender places nothing new on the wavelength. -/
def execLinkPause (w : WaveRef) (s : State) : Res :=
  .next (s.modWave w.src.val w.dst.val w.wave.val (fun x => { x with paused := true }))

/-- LINK_RESUME (R202, R244): replay restarts from the last ACK, then what waited is sent. -/
def execLinkResume (w : WaveRef) (s : State) : Res :=
  let t := s.modWave w.src.val w.dst.val w.wave.val (fun x => { x with paused := false })
  let v := (t.street w.src.val w.dst.val).waves.get w.wave.val
  let l := if v.parked then [] else v.replay
  .next ((t.resend w.src.val w.dst.val w.wave.val l).pump w.src.val w.dst.val w.wave.val)

/-- REPLAY_TIMEOUT (R221): no ACK for 1 µs, so the sender resends from the oldest unacknowledged flit; after 8 failed resends
the wavelength is down (R224). -/
def execReplayTimeout (w : WaveRef) (g : LaneRef) (s : State) : Res :=
  let v := (s.street w.src.val w.dst.val).waves.get w.wave.val
  if v.down || v.parked || v.replay.isEmpty || v.paused then .next s
  else
    let t := s.modWave w.src.val w.dst.val w.wave.val (fun x => { x with fails := x.fails + 1 })
    if 8 ≤ v.fails then .next (t.waveDown w.src.val w.dst.val w.wave.val)
    else .next ((t.resend w.src.val w.dst.val w.wave.val v.replay).laneRetries g v.replay.length)

/-! ### Receiving (R218, R221, R229, R403) -/

/-- A CRC failure at the receiver: 16 within 1 ms make the interface group of the wavelength's half-group suspect, at both dies that the
flits cross (R403; log 31). -/
def State.halfFail (s : State) (src dst w : Nat) : State :=
  let k := streetIx src dst * 64 + w
  let l := (s.blv.halfFails.get k ++ [s.top.now]).reverse.take 16
  let t := { s with blv := { s.blv with halfFails := s.blv.halfFails.set k l.reverse } }
  if l.length = 16 ∧ s.top.now ≤ (l.getLast?.getD 0) + 1000000 then
    { t with blv := { t.blv with suspects := t.blv.suspects ++ [2 * k, 2 * k + 1].filter (fun x => !t.blv.suspects.contains x) } }
  else t

/-- A flit fails: it and its followers are discarded and a NAK names its number (R221). -/
def State.rxFail (s : State) (src dst w : Nat) : State :=
  let seq := ((s.street src dst).waves.get w).rxSeq
  let t := s.modStreet src dst (fun x => { x with crcFails := satAdd x.crcFails 1, mapCrcFails := x.mapCrcFails + 1 })
  let t := (t.modWave src dst w (fun v => { v with discarding := true })).halfFail src dst w
  t.sendLink src dst 2 w seq.toNat

/-- One flit arrives at a receiver: the state, and whether it is accepted. While the receiver discards, only the failed
number is taken; a cumulative ACK is returned at every eighth flit (R221). The receiver of a parked wavelength discards what it detects
(R202). -/
def State.rxFlit (s : State) (src dst w : Nat) (f : Flit) : State × Bool :=
  let v := (s.street src dst).waves.get w
  if v.parked then (s, false)
  else if flitOk v.rxSeq.toNat f then
    let t := s.modWave src dst w (fun x => { x with rxSeq := x.rxSeq + 1, discarding := false })
    (if v.rxSeq.toNat % 8 = 7 then t.sendLink src dst 1 w v.rxSeq.toNat else t, true)
  else if v.discarding then (s, false)
  else (s.rxFail src dst w, false)

/-- Receive a list of flits; the accepted ones in order. -/
def State.rxFlits (s : State) (src dst : Nat) : List RxFlit → State × List (Nat × Flit)
  | [] => (s, [])
  | f :: fs =>
    let a := s.rxFlit src dst f.wave.val f.flit
    let r := a.1.rxFlits src dst fs
    (r.1, if a.2 then (f.wave.val, f.flit) :: r.2 else r.2)

/-- The flit of part `p` among the waiting flits of a street. -/
def partOf (l : List (Nat × Flit)) (p : Nat) : Option (Nat × Flit) := l.find? (fun e => flitPart e.2 == p)

/-- Does a waiting flit lie on the wavelength that its part has in a row whose flit 0 was sent on wavelength `f` (R224, R228)? -/
def Street.fits (t : Street) (width f : Nat) (e : Nat × Flit) : Bool := t.next width ((f + flitPart e.2) % width) == some e.1

/-- A whole row whose flit 0 was sent on wavelength `f`: its eight flits in order of PART, of each the one that came first. -/
def Street.rowFrom (t : Street) (width : Nat) (l : List (Nat × Flit)) (f : Nat) : Option (List (Nat × Flit)) :=
  let m := l.filter (t.fits width f)
  if (upto 8).all (fun p => (partOf m p).isSome) then some ((upto 8).filterMap (partOf m)) else none

/-- A whole row among the waiting flits of a street. The flits of one row lie on the wavelengths from WFIRST on (R228), which tells rows in
flight at the same time apart (DEDUCED, log 100). -/
def Street.wholeRow (t : Street) (width : Nat) (l : List (Nat × Flit)) : Option (List (Nat × Flit)) :=
  (upto width).findSome? (t.rowFrom width l)

/-- The waiting flits without those of a row. -/
def withoutRow (l row : List (Nat × Flit)) : List (Nat × Flit) := row.foldl (fun l e => l.erase e) l

/-- Do both copies of every route field agree (R218)? -/
def routesAgree (l : List (Nat × Flit)) : Bool :=
  (upto 4).all (fun p => match partOf l p, partOf l (p + 4) with
    | some a, some b => flitRoute a.2 == flitRoute b.2
    | _, _ => false)

/-- The row that eight flits carry (R216). -/
def rowOfFlits (l : List (Nat × Flit)) : Row :=
  BitVec.ofNat 4096 (packN 512 (fun p => match partOf l p with | some e => flitPayload e.2 | none => 0) 8)

/-- The store rows that a barrier row occupies: one, or two in a wide execution (R229). -/
def Pod.barrierRows (p : Pod) (r : Nat) (wide : Bool) : Nat × Nat :=
  if wide then match p.a96OfRow r with
    | some d => (descDataRow d + 2 * (r - descDataRow d), descDataRow d + 2 * (r - descDataRow d) + 1)
    | none => (r, r)
  else (r, r)

/-- Write the barrier row of a landing slot to its store row and free the slot (R229). -/
def Pod.drainSlot (p : Pod) (k : Nat) : Pod :=
  let l := p.landing.get k
  match l.barrierRow with
  | none => p
  | some r =>
    let rr := p.barrierRows r.toNat l.wide
    let st := p.store.set rr.1 l.data
    { p with store := if l.wide then st.set rr.2 l.ext else st, landing := p.landing.set k { l with barrierRow := none, complete := false } }

/-- Write every barrier row that waits in the pod's landing store (R229), from the pod's STEP_END on, when it issues nothing more (DESIGN CHOICE,
log 115). -/
def Pod.drainAll (p : Pod) : Pod := (upto 16).foldl Pod.drainSlot p

/-- Is the landing slot still occupied by a row that nothing has consumed (R229)? -/
def Landing.busy (l : Landing) : Bool := l.complete || l.barrierRow.isSome

/-- A granted row lands: it completes its slot, or waits there as a barrier row until its pod has ended (R229). -/
def State.deliver (s : State) (sh pod slot : Nat) (data ext : Row) (wide : Bool) (barrier : Option (BitVec 12)) : State :=
  let land : Landing := { data := data, ext := ext, wide := wide, complete := barrier.isNone, barrierRow := barrier }
  s.modPod sh pod (fun p =>
    let q := { p with landing := p.landing.set slot land }
    if barrier.isSome && !p.issuing then q.drainSlot slot else q)

/-- The transfer of the step that lands here is no longer in flight (R161). -/
def State.landed (s : State) (src dst pod slot : Nat) : State :=
  s.modExe (fun e => { e with flights := e.flights.eraseP (fun f => f.src == src && f.dst == dst && f.pod == pod && f.slot == slot) })

/-- The state with an arbiter changed. -/
def State.modArb (s : State) (k : Nat) (f : Arbiter → Arbiter) : State := { s with blv := { s.blv with arbs := s.blv.arbs.mod k f } }

/-- A complete row (or pair of rows) that has reached the ingress of a shallot is a request at its avenue's arbiter, and lands when a
decision has granted it (R229, R233, R234; log 106 for the pair). -/
def State.askIngress (s : State) (src sh pod slot : Nat) (data ext : Row) (wide : Bool) (barrier : Option (BitVec 12)) : State :=
  s.modArb (arbIx 0 sh (pod / 32)) (fun a =>
    { a with reqs := a.reqs ++ [{ source := src, target := pod % 32, lslot := slot, stamp := a.counter, data := data, ext := ext,
                                  wide := wide, barrierRow := barrier }] })

/-- The timetable slot that the next period of an arbiter has: STEP_BEAT + 1 of an avenue in a step, the next number of the
resource's periods otherwise; none in a period that the step does not count, such as one in which the shallot's counter stands, and none
between steps (R231). -/
def State.arbSlot (s : State) (kind plaza unit : Nat) : Option Nat :=
  if kind = 0 then
    if (s.shal plaza).beatZeroDue then some 0
    else if (s.shal plaza).inStep && (s.shal plaza).stands false == .none then some (((s.shal plaza).beat.toNat + 1) % 4096) else none
  else if s.executing then some ((s.arb (arbIx kind plaza unit)).slot % 4096) else none

/-- Does a timetable entry name this requester as its owner (R232)? -/
def ownerIs (kind : Nat) (e : Half) (r : ArbReq) : Bool :=
  e.getLsbD 15 && bitsOf e.toNat 10 5 == r.source &&
  (if kind = 0 then bitsOf e.toNat 5 5 == r.target && bitsOf e.toNat 1 4 == r.lslot else bitsOf e.toNat 0 10 == r.target)

/-- A granted slot counts for its requester (R238). -/
def Arbiter.countGrant (a : Arbiter) (source age : Nat) : Arbiter :=
  { a with counts := a.counts.mod source (fun c =>
      { c with grants := satAdd c.grants 1, longest := BitVec.ofNat 32 (max c.longest.toNat age) }) }

/-- The highest code of a slot in the interval: 1 owner, 2 background, 3 owned slot missed (R248). -/
def MapCount.code (m : MapCount) (slot : Option Nat) (c : Nat) : MapCount :=
  match slot with
  | none => m
  | some k => { m with slots := m.slots.mod k (fun o => max o c) }

/-- A grant to the owner of the slot (R234, R248). -/
def Arbiter.ownedGrant (a : Arbiter) (slot : Option Nat) (r : ArbReq) (age : Nat) : Arbiter :=
  { a.countGrant r.source age with map := { a.map.code slot 1 with ownedUsed := a.map.ownedUsed + 1 } }

/-- Is a scheduled request the owner of a slot of the timetable? -/
def Arbiter.owns (a : Arbiter) (kind : Nat) (r : ArbReq) : Bool := a.table.cells.any (fun e => ownerIs kind e.2 r)

/-- A grant to a background request. A scheduled row that missed its owned slot adds 1 to LATE_OWNED and marks the slot; one
that is granted early leaves its owned slot idle (R234, R248). -/
def Arbiter.backgroundGrant (a : Arbiter) (kind : Nat) (slot : Option Nat) (r : ArbReq) (age : Nat) : Arbiter :=
  let b := a.countGrant r.source age
  let m := { b.map.code slot 2 with bgGrants := b.map.bgGrants + 1, bgWaitMax := max b.map.bgWaitMax age }
  match a.missed.find? (fun x => x.2 == (r.source, r.target, r.lslot)) with
  | some x => { b with missed := b.missed.erase x, map := { m.code (some x.1) 3 with lateOwned := m.lateOwned + 1 } }
  | none => if a.owns kind r then { b with map := m, early := b.early ++ [(r.source, r.target, r.lslot)] } else { b with map := m }

/-- Eight agreeing flits make a row at a shallot: the first row of a wide pair waits for the second (R218, R229). -/
def State.rowAtShallot (s : State) (src dst : Nat) (l : List (Nat × Flit)) : State :=
  let rt := fun p => match partOf l p with | some e => flitRoute e.2 | none => 0
  let pod := bitsOf (rt 0) 0 9
  let slot := bitsOf (rt 1) 0 4
  let barrier : Option (BitVec 12) := if bitAt (rt 1) 9 then some (BitVec.ofNat 12 (rt 2 + bitsOf (rt 3) 0 2 * 1024)) else none
  let last := match partOf l 7 with | some e => flitLast e.2 | none => true
  let row := rowOfFlits l
  let k := src * 2 ^ 20 + dst * 2 ^ 16 + pod * 16 + slot
  if bitAt (rt 1) 8 then
    let first := (s.blv.firstHalf.get k).getD 0
    ({ s with blv := { s.blv with firstHalf := s.blv.firstHalf.set k none } }).askIngress src dst pod slot first row true barrier
  else if last then s.askIngress src dst pod slot row 0 false barrier
  else { s with blv := { s.blv with firstHalf := s.blv.firstHalf.set k (some row) } }

/-- The implicit number of an accepted flit: the one that its CRC passes under (R220, R221). -/
def flitNumber (f : Flit) : Nat := ((upto 32).find? (fun n => flitOk n f)).getD 0

/-- The waiting flits without one of them and without the later flits of its wavelength, which come again after its NAK (R221). -/
def withoutLater (l : List (Nat × Flit)) (e : Nat × Flit) : List (Nat × Flit) :=
  l.takeWhile (· != e) ++ (l.dropWhile (· != e)).filter (fun x => x.1 != e.1)

/-- Copies that disagree: the row's odd-part flits count as CRC failures, each under its own number (R218, R221). -/
def State.routeMismatch (s : State) (src dst : Nat) (l row : List (Nat × Flit)) : State :=
  let odd := row.filter (fun e => flitPart e.2 % 2 == 1)
  let t := s.raise 0x2006 dst 0 (streetDetail src dst)
  let t := odd.foldl (fun t e => (t.modWave src dst e.1 (fun v => { v with rxSeq := BitVec.ofNat 5 (flitNumber e.2) })).rxFail src dst e.1) t
  { t with blv := { t.blv with rxBuf := t.blv.rxBuf.set (streetIx src dst) (odd.foldl withoutLater l) } }

/-- Each whole row among the waiting flits of a street into a shallot is taken, at most `n` of them (R218). -/
def State.takeRows (src dst : Nat) : Nat → State → State
  | 0, s => s
  | n + 1, s =>
    let k := streetIx src dst
    let l := s.blv.rxBuf.get k
    match (s.street src dst).wholeRow (streetWidth src dst) l with
    | none => s
    | some r =>
      if routesAgree r then
        takeRows src dst n ({ s with blv := { s.blv with rxBuf := s.blv.rxBuf.set k (withoutRow l r) } }.rowAtShallot src dst r)
      else takeRows src dst n (s.routeMismatch src dst l r)

/-- ROW_ARRIVAL (R229): flits of DATA rows arrive at a shallot's ingress; eight that pass make a row. -/
def execRowArrival (src : PlazaNo) (dst : Fin 8) (flits : List RxFlit) (s : State) : Res :=
  let k := streetIx src.val dst.val
  let a := s.rxFlits src.val dst.val flits
  let l := a.1.blv.rxBuf.get k ++ a.2.filter (fun e => flitKind e.2 == 1)
  .next ({ a.1 with blv := { a.1.blv with rxBuf := a.1.blv.rxBuf.set k l } }.takeRows src.val dst.val (l.length / 8))

end Sys2Proof.Machine
end

