-- ==== Sys2Proof/Machine/Arb.lean ====
section
/-! DEFINITION. The timetable arbiters: decisions, ages, stale requests, freezes (R231 to R239). -/
namespace Sys2Proof.Machine

/-- Does the arbiter exist (R231)? -/
def arbExists (kind plaza unit : Nat) : Bool :=
  (kind == 0 && decide (plaza < 8) && decide (unit < 16)) || (kind == 1 && plazaKind plaza == 1 && decide (unit < 64)) ||
  (kind == 2 && plazaKind plaza == 2 && decide (unit < 8))

/-- Age of a request, 16 bits (R235). -/
def ArbReq.age (r : ArbReq) (now : BitVec 16) : Nat := (now - r.stamp).toNat

/-- Does the first request rank above the second in the background (R235)? -/
def ArbReq.before (now : BitVec 16) (x y : ArbReq) : Bool :=
  if x.stale != y.stale then x.stale
  else if x.age now != y.age now then decide (y.age now < x.age now)
  else if x.source != y.source then decide (x.source < y.source)
  else if x.target != y.target then decide (x.target < y.target)
  else decide (x.lslot < y.lslot)

/-- The highest-ranked request of a list. -/
def bestReq (now : BitVec 16) : List ArbReq → Option ArbReq
  | [] => none
  | r :: rs => match bestReq now rs with
    | none => some r
    | some b => if b.before now r then some b else some r

/-- The event of a stale request, once per resource per step (R235). -/
def State.staleEvent (s : State) (kind plaza unit : Nat) : State :=
  let k := arbIx kind plaza unit
  if s.seq.once.stale.contains k then s
  else { s with seq := { s.seq with once := { s.seq.once with stale := s.seq.once.stale ++ [k] } } }.raise 0x2007 plaza unit
    (leBytes 2 (kind * 2 ^ 14 + plaza * 2 ^ 9 + unit))

/-- Requests that reach age 2^15 become stale (R235). -/
def State.markStale (s : State) (kind plaza unit : Nat) : State :=
  let a := s.arb (arbIx kind plaza unit)
  if a.reqs.any (fun r => !r.stale && decide (2 ^ 15 ≤ r.age a.counter)) then
    (s.modArb (arbIx kind plaza unit) (fun a =>
      { a with reqs := a.reqs.map (fun r => { r with stale := r.stale || decide (2 ^ 15 ≤ r.age a.counter) }) })).staleEvent kind plaza unit
  else s

/-- The request in flight completes: at an avenue its row lands (R233). -/
def State.arbComplete (s : State) (kind plaza unit : Nat) : State :=
  let k := arbIx kind plaza unit
  match (s.arb k).granted with
  | none => s
  | some r =>
    let t := s.modArb k (fun a => { a with granted := none })
    if kind = 0 then (t.deliver plaza (unit * 32 + r.target) r.lslot r.data r.ext r.wide r.barrierRow).landed r.source plaza
      (unit * 32 + r.target) r.lslot
    else t

/-- The requests that may be granted: an ingress never grants a row whose landing slot is occupied (R229). -/
def State.grantable (s : State) (kind plaza unit : Nat) (reqs : List ArbReq) : List ArbReq :=
  if kind = 0 then reqs.filter (fun r => !((s.pod plaza (unit * 32 + r.target)).landing.get r.lslot).busy) else reqs

/-- Every requester with a visible request and no grant waits one period (R238). -/
def Arbiter.countWaits (a : Arbiter) (granted : Option ArbReq) : Arbiter :=
  let srcs := (a.reqs.map (fun r => r.source)).eraseDups.filter (fun x => match granted with | some g => g.source != x | none => true)
  { a with counts := srcs.foldl (fun c x => c.mod x (fun q => { q with waits := satAdd q.waits 1 })) a.counts }

/-- An owned slot finds its owner idle: it was granted early, or it misses the slot (R234). -/
def Arbiter.ownerIdle (a : Arbiter) (kind : Nat) (slot : Nat) (e : Half) : Arbiter :=
  let key := (bitsOf e.toNat 10 5, if kind = 0 then bitsOf e.toNat 5 5 else bitsOf e.toNat 0 10, if kind = 0 then bitsOf e.toNat 1 4 else 0)
  let b := { a with map := { a.map with ownedIdle := a.map.ownedIdle + 1 } }
  if a.early.contains key then { b with early := b.early.erase key } else { b with missed := b.missed ++ [(slot, key)] }

/-- Take the request out and put it on the data path. -/
def Arbiter.take (a : Arbiter) (r : ArbReq) : Arbiter := { a with reqs := a.reqs.erase r, granted := some r }

/-- The decision of one period over the visible requests (R234 to R238). -/
def Arbiter.decide' (a : Arbiter) (kind : Nat) (slot : Option Nat) (may : List ArbReq) : Arbiter :=
  if a.freeze then { a.countWaits none with map := { a.map with frozenPeriods := a.map.frozenPeriods + 1, frozen := true } }
  else
    let e : Half := match slot with | some k => a.table.get k | none => 0
    match may.find? (ownerIs kind e) with
    | some r => ((a.countWaits (some r)).ownedGrant slot r (r.age a.counter)).take r
    | none =>
      let b := match slot with | some k => if e.getLsbD 15 then a.ownerIdle kind k e else a | none => a
      match bestReq a.counter may with
      | some r => ((b.countWaits (some r)).backgroundGrant kind slot r (r.age a.counter)).take r
      | none => { b.countWaits none with map := { b.map with idle := b.map.idle + 1 } }

/-- The decision of one period: it ages the requests that wait and moves on to its slot (R233 to R238). -/
def Arbiter.turn (a : Arbiter) (kind : Nat) (slot : Option Nat) (may : List ArbReq) : Arbiter :=
  let c := a.decide' kind slot may
  { c with counter := c.counter + 1, decided := true,
           slot := match slot with | some m => (if kind = 0 then m else (m + 1) % 4096) | none => c.slot }

/-- ARBITER_DECISION (R233, R234): the granted request of the period before completes, the new requests become visible, and
the next slot goes to its owner, to the highest background request, or stays idle. -/
def execArbiterDecision (a : ArbRef) (reqs : List NewReq) (s : State) : Res :=
  let kind := a.kind.val
  let k := arbIx kind a.plaza.val a.unit.val
  if arbExists kind a.plaza.val a.unit.val then
    let t := s.arbComplete kind a.plaza.val a.unit.val
    let t := t.modArb k (fun b => { b with reqs := b.reqs ++ reqs.map (fun r =>
      { source := r.source.val, target := r.target.toNat, lslot := r.lslot.val, stamp := b.counter, data := r.data, ext := r.ext,
        wide := r.wide, barrierRow := r.barrierRow }) })
    let t := t.markStale kind a.plaza.val a.unit.val
    let n := t.arbSlot kind a.plaza.val a.unit.val
    let may := t.grantable kind a.plaza.val a.unit.val (t.arb k).reqs
    .next (t.modArb k (fun b => b.turn kind n may))
  else .next s

/-- STALE_REQUEST (R235): the requests of the resource that have reached age 2^15 rank above all others. -/
def execStaleRequest (a : ArbRef) (s : State) : Res :=
  .next (if arbExists a.kind.val a.plaza.val a.unit.val then s.markStale a.kind.val a.plaza.val a.unit.val else s)

/-- KIND, PLAZA and UNIT of ARB_SEL (R249). -/
def Boulevard.selArb (b : Boulevard) : Nat × Nat × Nat :=
  (bitsOf b.arbSel.toNat 30 2, bitsOf b.arbSel.toNat 8 5, bitsOf b.arbSel.toNat 0 6)

/-- FREEZE of an arbiter takes a value: setting it while RUNNING raises the event once per freeze (R237). -/
def State.setFreeze (s : State) (kind plaza unit : Nat) (f : Bool) : State :=
  let k := arbIx kind plaza unit
  let t := s.modArb k (fun b => { b with freeze := f })
  let t := if !f && kind == 2 then t.thawEgress (plaza - 24) unit else t
  if f && !(s.arb k).freeze && s.top.state == .running then t.raise 0x2008 plaza unit (leBytes 2 (kind * 2 ^ 14 + plaza * 2 ^ 9 + unit))
  else t

end Sys2Proof.Machine
end

