-- ==== Sys2Proof/Machine/Forms.lean ====
section
/-! DEFINITION. The forms of slot commands that the image loader admits, as far as the slot's own fields show it (R126,
R148): a slot in another form is in no image that loads. -/
namespace Sys2Proof.Machine

/-- LOADW: FPAIR is a pair of the table (R108, R110, R126). -/
def pairForm (a : RowArgs) : Bool := (pairOf a.fpair.toNat).isSome

/-- READ, WRITE and ZERO carry FPAIR 0 (R108). -/
def plainRowForm (a : RowArgs) : Bool := a.fpair == 0

/-- LOADS: the tile's scale bytes lie within the row (R108, R126). -/
def loadsForm (a : RowArgs) : Bool :=
  match pairOf a.fpair.toNat with
  | none => false
  | some p => decide (a.part.val * 64 + p.scaleBytes ≤ 512)

/-- LOADC: PART 0 to 3, for QM8 weights only (R108). -/
def loadcForm (a : RowArgs) : Bool := decide (a.part.val < 4) && a.fpair == 0x0D

/-- The SRC values that each ACC operation allows (R116). -/
def srcForm (allowed : List AccSrc) (a : AccArgs) : Bool := allowed.contains a.src

/-- SPOS leaves room for the two scale bytes of a block target (R116, R126). -/
def rqForm (a : AccArgs) : Bool := decide (a.spos.toNat + 2 ≤ 512)

/-- PART 0 or 1 (R116). -/
def halfForm (a : AccArgs) : Bool := decide (a.part.val < 2)

/-- A plaza that has tallies, and an index that it has (R120, R126, R337). -/
def synForm (a : SynArgs) : Bool :=
  (decide (a.plaza.val < 8) && decide (a.index.toNat < 16384)) || a.plaza.val == 24 || a.plaza.val == 25

/-- With S = 1, SRCB[11:4] is 0 (R129, R148). -/
def sForm (v : VecArgs) : Bool := !v.s || bitsOf v.b.toNat 4 8 == 0

/-- An element operation of any width with S = 0 or 1 (R132). -/
def binForm (v : VecArgs) : Bool := sForm v

/-- MULR: W = 32 (R132). -/
def mulrForm (v : VecArgs) : Bool := sForm v && v.w == 2

/-- SCALE: S = 0 and an even j (R132, R148). -/
def scaleForm (v : VecArgs) : Bool := !v.s && bitsOf v.b.toNat 0 1 == 0

/-- A compare: its predicate is not PR0 (R148). -/
def cmpForm (v : VecArgs) : Bool := sForm v && bitsOf v.d.toNat 0 3 != 0

/-- S = 0 (R132). -/
def noSForm (v : VecArgs) : Bool := !v.s

/-- WIDEN, WIDENU, NARROW: W = 8 with q 0 to 3, or W = 16 with q 0 to 1 (R132, R148). -/
def widenForm (v : VecArgs) : Bool := !v.s && (v.w == 0 || (v.w == 1 && decide (v.q < 2)))

/-- FUNC: W = 32, S = 0 (R132). -/
def funcForm (v : VecArgs) : Bool := !v.s && v.w == 2

/-- RSSQ: W = 8 or 16 (R132, R148). -/
def rssqForm (v : VecArgs) : Bool := !v.s && v.w != 2

/-- GATHER: its 32-row window ends at row 4,095 or before (R148). -/
def gatherForm (v : VecArgs) : Bool := !v.s && decide (v.b.toNat + 31 ≤ 4095)

/-- SCATTER: its 32-row window ends at row 4,095 or before (R148). -/
def scatterForm (v : VecArgs) : Bool := !v.s && decide (v.d.toNat + 31 ≤ 4095)

/-- A control operation: PRED is 0 (R134, R148). -/
def ctlForm (v : VecArgs) : Bool := v.pred == 0 && !v.s

/-- ZCLR: SRCB[1:0] is 0, 1 or 2 (R133); 3 has no effect in R133 and is refused as a reserved code (DEDUCED, log 93). -/
def zclrForm (v : VecArgs) : Bool := ctlForm v && decide (bitsOf v.b.toNat 0 2 < 3)

/-- ZRCP and ZRSQ: an even j, and F at most 30 (R148). -/
def zrcpForm (v : VecArgs) : Bool := ctlForm v && bitsOf v.d.toNat 0 1 == 0 && decide (bitsOf v.b.toNat 0 5 ≤ 30)

/-- A predicate write: d is not 0 (R148). -/
def predForm (v : VecArgs) : Bool := ctlForm v && bitsOf v.d.toNat 0 3 != 0

/-- TOPK may be predicated (R134). -/
def topkForm (v : VecArgs) : Bool := !v.s

end Sys2Proof.Machine
end

