-- ==== Sys2Proof/Machine/Hbm.lean ====
section
/-! DEFINITION. The memory of the stacks: cells, regions and addresses, keys, uncorrectable errors, whole reads and writes
(R273 to R283, R288, R519). -/
namespace Sys2Proof.Machine

/-! ### Cells -/

/-- The cells after `bs` is written from address `a` on. -/
def memPut (l : List Host.Cell) (a : Nat) (bs : List Byte) : List Host.Cell :=
  l.filter (fun c => decide (c.1 < a)) ++ bs.zipIdx.map (fun p => (a + p.2, p.1)) ++ l.filter (fun c => decide (a + bs.length ≤ c.1))

/-- The cells after the `n` addresses from `a` on are forgotten. -/
def memDrop (l : List Host.Cell) (a n : Nat) : List Host.Cell :=
  l.filter (fun c => decide (c.1 < a)) ++ l.filter (fun c => decide (a + n ≤ c.1))

/-- The byte listed at an address. -/
def memGet (l : List Host.Cell) (a : Nat) : Option Byte := cellsFind l a

/-- Canonical form of the memory: addresses strictly rising. An unlisted byte reads a value that no rule fixes, so no
listed byte repeats it (log 6). -/
def Memory.wf (l : List Host.Cell) : Bool := cellsRising l

/-! ### Regions and addresses (R203, R275, R276) -/

/-- Region `n` of the image in force. -/
def State.region (s : State) (n : Nat) : Option Region := s.img.image.bind (fun i => i.regions.get n)

/-- The stacks of a region, rising. -/
def Region.stackList (r : Region) : List Nat := (upto 16).filter (fun h => r.stackMask.getLsbD h)

/-- The granule Q of a region (R275). -/
def Region.granule (r : Region) : Nat := 2 ^ (9 + bitsOf r.interleave.toNat 0 4)

/-- The stack and the stack byte address of a region offset (R275). -/
def Region.locate (r : Region) (o : Nat) : Nat × Nat :=
  let st := r.stackList
  let n := max 1 st.length
  let q := r.granule
  ((st[(o / q) % n]?).getD 0, r.base + (o / (q * n)) * q + o % q)

/-- The number of a byte of a stack among all stacks. -/
def hbmAddr (h a : Nat) : Nat := h * 2 ^ 36 + a
/-- The number of a 64-byte unit of a stack among all stacks. -/
def hbmUnit (h u : Nat) : Nat := h * 2 ^ 30 + u

/-! ### Keys (R288, R519) -/

/-- The session slot that an epoch bit names. -/
def Stack.sessionKey (m : Stack) (epoch : Bool) : Option Nat := if epoch then m.keyOdd else m.keyEven

/-- The key that serves a unit of a region, and its epoch bit: RUN regions have bit 0 and the RUN slot (R288, R519). -/
def State.readKey (s : State) (h u : Nat) (session : Bool) : Option Nat :=
  if session then (s.mem.get h).sessionKey (s.tags.get (hbmUnit h u)).epoch else some ((s.mem.get h).keyRun.getD 0)

/-- The 64 bytes that a unit reads under a key: what was written under it, and else bytes that no rule fixes (R519). -/
def State.unitUnder (s : State) (h u key : Nat) : List Byte :=
  let same := (s.tags.get (hbmUnit h u)).key == some key
  (upto 64).map (fun i =>
    let a := hbmAddr h (64 * u + i)
    let free := Sys2Proof.Config.freeByte key a
    if same then (memGet s.hbm a).getD free else free)

/-- The 64 bytes of a unit as they read now; none where its epoch bit names an empty slot (R288). -/
def State.unitBytes (s : State) (h u : Nat) (session : Bool) : Option (List Byte) :=
  (s.readKey h u session).map (s.unitUnder h u)

/-- Store 64 bytes in a unit under a key and an epoch bit. -/
def State.putUnit (s : State) (h u : Nat) (key : Option Nat) (epoch : Bool) (bs : List Byte) : State :=
  { s with hbm := memPut s.hbm (hbmAddr h (64 * u)) bs, tags := s.tags.set (hbmUnit h u) { key := key, epoch := epoch } }

/-- Store 64 bytes in a unit under the key that writes take now: RUN, or the session slot of the current epoch (R288). -/
def State.storeUnit (s : State) (h u : Nat) (session : Bool) (bs : List Byte) : State :=
  let m := s.mem.get h
  if session then s.putUnit h u (m.sessionKey m.epoch) m.epoch bs else s.putUnit h u (some (m.keyRun.getD 0)) false bs

/-! ### Errors (R282, R283, R289) -/

/-- ERR_INFO (R289). -/
def errInfo (kind region src : Nat) : Word := BitVec.ofNat 32 (kind * 2 ^ 28 + region % 4096 * 2 ^ 16 + src % 32)

/-- What a memory event carries: the stack byte address of the unit. -/
def memDetail (u : Nat) : List Byte := leBytes 8 (64 * u)

/-- A repair of a row is wanted: it waits for a recess, or cannot run (R282). -/
def State.wantRepair (s : State) (h u row : Nat) (noSpare : Bool) : State :=
  if noSpare then s.raise 0x4003 (8 + h) 0 (memDetail u)
  else if (s.mem.get h).repairs.contains row then s
  else s.modMem h (fun m => { m with repairs := m.repairs ++ [row] })

/-- A unit enters the lost-unit list at its first uncorrectable error, and its row is repaired; with 256 units listed neither
happens, and a repair of the row that waits is given up (R282). -/
def State.loseUnit (s : State) (h u row : Nat) (noSpare : Bool) : State :=
  if (s.mem.get h).lost.contains u then s
  else if 256 ≤ (s.mem.get h).lost.length then (s.modMem h (fun m => { m with repairs := m.repairs.erase row })).raise 0x4003 (8 + h) 0 (memDetail u)
  else (s.modMem h (fun m => { m with lost := m.lost ++ [u] })).wantRepair h u row noSpare

/-- The counts and the error registers of an uncorrectable error (R289). -/
def State.countUe (s : State) (h u kind region src : Nat) : State :=
  s.modMem h (fun m => { m with ue := satAdd m.ue 1, errAddr := BitVec.ofNat 64 (64 * u), errInfo := errInfo kind region src })

/-- A corrected unit; the sixteenth in its row within a scrub pass starts a repair (R281, R282). -/
def State.correctUnit (s : State) (h u row : Nat) (noSpare : Bool) : State :=
  let n := (s.mem.get h).corrected.get row + 1
  let t := s.modMem h (fun m => { m with ce := satAdd m.ce 1, corrected := m.corrected.set row n })
  if n = 16 then t.wantRepair h u row noSpare else t

/-- One unit is read: its bytes, or none at an uncorrectable error (R283, R288). `kind` is 1 for a read and 2 for an atomic;
`quiet` leaves out the event, for reads whose error has an event of its own. -/
def State.readUnit (s : State) (h u region : Nat) (session : Bool) (src kind : Nat) (f : Option MemFault) (noSpare quiet : Bool) :
    State × Option (List Byte) :=
  let bad := fun (t : State) => if quiet then t else t.raise 0x4001 (8 + h) 0 (memDetail u)
  if (s.mem.get h).lost.contains u then (bad (s.countUe h u 5 region src), none)
  else match s.unitBytes h u session with
    | none => (bad ((s.countUe h u 4 region src).raise 0x4005 (8 + h) 0 (memDetail u)), none)
    | some bs =>
      match f with
      | none => (s, some bs)
      | some f =>
        if f.fails then (bad ((s.countUe h u kind region src).loseUnit h u f.row noSpare), none)
        else (s.correctUnit h u f.row noSpare, some bs)

/-! ### Whole requests -/

/-- Is a stack in service? -/
def Stack.serves (m : Stack) : Bool := m.valid && !m.down

/-- Read `n` units of a region from unit offset `o` on (units of 64 B): none where one of them fails. Every unit is read
(R283). -/
def State.readUnits (s : State) (r : Region) (region o src kind : Nat) (env : MemEnv) (quiet : Bool) :
    List Nat → State × Option (List Byte)
  | [] => (s, some [])
  | i :: is =>
    let l := r.locate (64 * (o + i))
    let a := s.readUnit l.1 (l.2 / 64) region r.session src kind (env.faults.find? (fun f => f.unit == i)) env.noSpare quiet
    let b := a.1.readUnits r region o src kind env quiet is
    (b.1, match a.2, b.2 with | some x, some y => some (x ++ y) | _, _ => none)

/-- On-die corrections reported with a request (R289). -/
def State.countOdecc (s : State) (h n : Nat) : State := if n = 0 then s else s.modMem h (fun m => { m with odecc := satAdd m.odecc n })

/-- Read `len` bytes of a region from byte offset `o` on; none at an uncorrectable error. -/
def State.readRegion (s : State) (r : Region) (region o len src : Nat) (env : MemEnv) (quiet : Bool) : State × Option (List Byte) :=
  if len = 0 then (s, some [])
  else
    let u := o / 64
    let n := (o + len - 1) / 64 - u + 1
    let s := s.countOdecc (r.locate o).1 env.odecc
    let a := s.readUnits r region u src 1 env quiet (upto n)
    (a.1, a.2.map (fun b => (b.drop (o % 64)).take len))

/-- Reads that a combining entry would answer no longer count as the same once a unit of theirs is written (R284). -/
def State.dropCombine (s : State) (h region o n : Nat) : State :=
  s.modMem h (fun m => { m with combine := m.combine.filter (fun e =>
    !(e.region == region && decide (e.offset < o + n) && decide (o < e.offset + e.flits + 1))) })

/-- Write `bs` into one unit from byte `at_` on (R283): a whole unit leaves the lost-unit list; a part of a lost unit, or of a
unit whose key is destroyed, is not applied. The Bool says whether the write was applied. -/
def State.writeUnit (s : State) (r : Region) (region o : Nat) (at_ : Nat) (bs : List Byte) : State × Bool :=
  let l := r.locate (64 * o)
  let h := l.1
  let u := l.2 / 64
  let s := s.dropCombine h region o 1
  if bs.length = 64 then
    ((s.modMem h (fun m => { m with lost := m.lost.erase u })).storeUnit h u r.session bs, true)
  else if (s.mem.get h).lost.contains u then (s, false)
  else match s.unitBytes h u r.session with
    | none => (s, false)
    | some old => (s.storeUnit h u r.session (old.take at_ ++ bs ++ old.drop (at_ + bs.length)), true)

/-- Write bytes into a region, unit by unit (with fuel from the length); the Bool says whether every part was applied. -/
def State.writeGo (s : State) (r : Region) (region : Nat) : Nat → Nat → List Byte → State × Bool
  | 0, _, _ => (s, true)
  | fuel + 1, o, bs =>
    if bs.isEmpty then (s, true)
    else
      let n := 64 - o % 64
      let a := s.writeUnit r region (o / 64) (o % 64) (bs.take n)
      let b := a.1.writeGo r region fuel (o + n) (bs.drop n)
      (b.1, a.2 && b.2)

/-- Write bytes into a region from byte offset `o` on. -/
def State.writeRegion (s : State) (r : Region) (region o : Nat) (bs : List Byte) : State × Bool := s.writeGo r region (bs.length + 1) o bs

/-- Does a span of bytes lie within a region? -/
def Region.holds (r : Region) (o len : Nat) : Bool := decide (o + len ≤ r.size)

end Sys2Proof.Machine
end

