-- ==== Sys2Proof/Machine/Gate.lean ====
section
/-! DEFINITION. The gate dies: requests over the streets, combining, atomics with their undo log, patrol scrub and repair
(R219, R280 to R287). -/
namespace Sys2Proof.Machine

/-! ### Requests (R219) -/

/-- The fields of a REQ flit (R217, R219). -/
structure ReqFields where
  rtag : Nat := 0
  rfirst : Nat := 0
  replyPlaza : Nat := 0
  replyPod : Nat := 0
  replySlot : Nat := 0
  offset : Nat := 0
  region : Nat := 0
  aop : Nat := 0
  flits : Nat := 0
  op : Nat := 0
  mslot : Nat := 0
deriving DecidableEq, Repr, Inhabited

/-- The fields that a REQ flit carries. -/
def reqFields (f : Flit) : ReqFields :=
  let p := flitPayload f
  { rtag := flitRoute f, rfirst := bitsOf p 106 6, replyPlaza := bitsOf p 101 5, replyPod := bitsOf p 92 9, replySlot := bitsOf p 88 4,
    offset := bitsOf p 56 32, region := bitsOf p 44 12, aop := bitsOf p 36 8, flits := bitsOf p 32 4, op := bitsOf p 28 4,
    mslot := bitsOf p 16 12 }

/-- The payload of a REQ flit (R219). -/
def reqPayload (q : ReqFields) : Nat :=
  q.rfirst % 2 ^ 6 * 2 ^ 106 + q.replyPlaza % 2 ^ 5 * 2 ^ 101 + q.replyPod % 2 ^ 9 * 2 ^ 92 + q.replySlot % 2 ^ 4 * 2 ^ 88 +
  q.offset % 2 ^ 32 * 2 ^ 56 + q.region % 2 ^ 12 * 2 ^ 44 + q.aop % 2 ^ 8 * 2 ^ 36 + q.flits % 2 ^ 4 * 2 ^ 32 + q.op % 2 ^ 4 * 2 ^ 28 +
  q.mslot % 2 ^ 12 * 2 ^ 16

/-! ### Replies -/

/-- The 512-bit payload of a flit from 64 bytes. -/
def unitPayload (bs : List Byte) : Nat := leVal (bs.take 64)

/-- The reply to a read or a returning atomic (R217, R219, R285): one whole row with MODE 0 into a shallot; elsewhere the request's tag, with
FLITS + 1 flits of a read and one row of 8 with zeros past FLITS of an atomic; LAST on the last row alone. -/
def State.replyRow (s : State) (h : Nat) (q : ReqFields) (bs : List Byte) : State :=
  if q.replyPlaza < 8 then
    s.sendRow (8 + h) q.replyPlaza q.rfirst 8 true (fun p => routeWord p q.replyPod false q.replySlot none) (rowOfBytes bs)
  else
    (upto (if q.op = 3 then 8 else q.flits + 1)).foldl (fun t p => t.sendFlit (8 + h) q.replyPlaza (q.rfirst + p)
      (dataHeader (p % 8) (decide (q.op = 3 ∨ q.flits < 8 ∨ 8 ≤ p)) q.rtag)
      (unitPayload (bs.drop (64 * p)))) s

/-- A read or atomic of a step meets an uncorrectable error: no data returns and the execution ends as a hardware fault
(R168, R283). -/
def State.stepMemFault (s : State) (src : Nat) : State := if src < 8 ∧ s.executing then s.hwFault .memory else s

/-! ### Reads and combining (R280, R284) -/

/-- Scheduler periods of 1.6 ns (R278). -/
def State.schedPeriod (s : State) : Nat := s.top.now * 5 / 8

/-- Is the combining entry still open: at most 64 periods since its access (R284)? -/
def State.combineOpen (s : State) (e : CombineEntry) : Bool := decide (s.schedPeriod ≤ e.period + 64)

/-- Entries of the combining buffer that reads may take: their share, and while no walk is under way also the idle ones of the walker
(R209, R284; DESIGN CHOICE, log 104). -/
def Stack.readEntries (m : Stack) : Nat := if m.walking then 4096 * m.share / 100 else 4096

/-- The combining buffer meets a READ that goes to the DRAM: it enters when an entry is free for reads (R209, R284). -/
def State.combineEnter (s : State) (h : Nat) (q : ReqFields) : State :=
  s.modMem h (fun m =>
    let live := m.combine.filter s.combineOpen
    if live.length < m.readEntries then
      { m with combine := live ++ [{ region := q.region, offset := q.offset, flits := q.flits, period := s.schedPeriod }] }
    else { m with combine := live, combineFull := satAdd m.combineFull 1 })

/-- A READ is served: from the combining buffer where an entry matches, and else from the DRAM (R280, R283, R284). -/
def State.serveRead (s : State) (src h : Nat) (r : Region) (q : ReqFields) (env : MemEnv) : State :=
  let hit := (s.mem.get h).combine.any (fun e => e.region == q.region && e.offset == q.offset && e.flits == q.flits && s.combineOpen e)
  let s := if hit then s.modMem h (fun m => { m with combineHits := satAdd m.combineHits 1 })
           else (s.combineEnter h q).countOdecc h env.odecc
  let a := s.readUnits r q.region q.offset src 1 (if hit then {} else env) false (upto (q.flits + 1))
  match a.2 with
  | some bs => a.1.replyRow h q bs
  | none => a.1.stepMemFault src

/-! ### Writes (R280, R283) -/

/-- The data flits of a request in order: flit `i` is the (i div 8)-th flit of part i mod 8 that carries its tag (R217, R228). -/
def reqData (l : List (Nat × Flit)) (q : ReqFields) (n : Nat) : Option (List Flit) :=
  let mine := (l.map Prod.snd).filter (fun f => flitKind f == 1 && flitRoute f == q.rtag)
  let fs := (upto n).filterMap (fun i => (mine.filter (fun f => flitPart f == i % 8))[i / 8]?)
  if fs.length = n then some fs else none

/-- The 64 bytes of a data flit. -/
def flitBytes (f : Flit) : List Byte := leBytes 64 (flitPayload f)

/-- A write of the step has reached the DRAM (R280). -/
def State.writeDone (s : State) (src h tag : Nat) : State :=
  s.modExe (fun e => { e with flights := e.flights.eraseP (fun f => f.src == src && f.dst == 8 + h && f.tag == tag && !f.fetch) })

/-- A WRITE is served: every unit is a whole unit (R280, R283). -/
def State.serveWrite (s : State) (src h : Nat) (r : Region) (q : ReqFields) (data : List Flit) : State :=
  ((s.writeRegion r q.region (64 * q.offset) (data.flatMap flitBytes)).1).writeDone src h q.rtag

/-! ### Atomics (R285 to R287) -/

/-- Bytes of a cell of an atomic operation; 0 for a reserved AOP. -/
def cellBytes (aop : Nat) : Nat :=
  match aop % 128 with
  | 1 | 3 | 4 => 4
  | 2 | 5 | 6 | 7 | 8 | 9 | 10 | 11 => 8
  | 12 => 16
  | _ => 0

/-- The new value of a cell: `old`, the operand, and the new value of a CAS, as unsigned numbers of the cell's width; none
where an ADD96 leaves its range (R285, R286). -/
def aopCell (aop old opnd new : Nat) : Option Nat :=
  match aop % 128 with
  | 1 => some ((old + opnd) % 2 ^ 32)
  | 2 => some ((old + opnd) % 2 ^ 64)
  | 3 => some (if sInt 32 opnd < sInt 32 old then opnd else old)
  | 4 => some (if sInt 32 old < sInt 32 opnd then opnd else old)
  | 5 => some (if sInt 64 opnd < sInt 64 old then opnd else old)
  | 6 => some (if sInt 64 old < sInt 64 opnd then opnd else old)
  | 7 => some (old &&& opnd)
  | 8 => some (old ||| opnd)
  | 9 => some (old ^^^ opnd)
  | 10 => some opnd
  | 11 => some (if old = opnd then new else old)
  | 12 =>
    let x := sInt 96 old + sInt 96 opnd
    if - p2 95 ≤ x ∧ x < p2 95 then some (uOf 96 x) else none
  | _ => some old

/-- The cells of a unit as numbers. -/
def cellsOf (w : Nat) (bs : List Byte) : List Nat := (chunks w bs).map leVal

/-- What the cells of one unit become: the new cell, or none where it is unchanged by overflow. -/
def aopUnit (aop : Nat) (old opnd new : List Byte) : List (Nat × Option Nat) :=
  let w := cellBytes aop
  (cellsOf w old).zipIdx.map (fun c => (c.1, aopCell aop c.1 (((cellsOf w opnd)[c.2]?).getD 0) (((cellsOf w new)[c.2]?).getD 0)))

/-- The first atomic of the step on a cell writes one undo entry; a cell is an address and a width (R166, R287). -/
def State.undoCell (s : State) (own : Bool) (h addr region w old : Nat) : State :=
  if own && s.executing && !((s.mem.get h).undo.any (fun e => e.addr == addr && e.old.length == w)) then
    s.modMem h (fun m => { m with undo := { addr := addr, old := leBytes w old, region := region } :: m.undo })
  else s

/-- An ADD96 that leaves its range: the cell is unchanged, counted, raised, and the step sequencer fails the step whose own atomic it is (R286, R330). -/
def State.a96Overflow (s : State) (own : Bool) (h addr : Nat) : State :=
  let t := (s.modMem h (fun m => { m with a96Ovf := satAdd m.a96Ovf 1 })).raise 0x4004 (8 + h) 0 (leBytes 8 addr)
  if own && t.executing then t.modExe (fun e => { e with failed := true }) else t

/-- An atomic on one unit: undo entries, overflows, the new bytes. `own` where a pod of the step sent it. -/
def State.atomicUnit (s : State) (own : Bool) (r : Region) (region o aop : Nat) (old opnd new : List Byte) : State :=
  let w := cellBytes aop
  let l := r.locate (64 * o)
  let cells := aopUnit aop old opnd new
  let t := cells.zipIdx.foldl (fun t c =>
    let addr := l.2 + w * c.2
    match c.1.2 with
    | none => t.a96Overflow own l.1 addr
    | some _ => t.undoCell own l.1 addr region w c.1.1) s
  (t.writeUnit r region o 0 (cells.flatMap (fun c => leBytes w (c.2.getD c.1)))).1

/-- An atomic over its units; the old values of them all, or none at an uncorrectable error of one (R283, R285). -/
def State.atomicUnits (s : State) (r : Region) (region o aop src : Nat) (env : MemEnv) (opnd new : Nat → List Byte) :
    List Nat → State × Option (List Byte)
  | [] => (s, some [])
  | i :: is =>
    let l := r.locate (64 * (o + i))
    let a := s.readUnit l.1 (l.2 / 64) region r.session src 2 (env.faults.find? (fun f => f.unit == i)) env.noSpare false
    let t := match a.2 with | some old => a.1.atomicUnit (decide (src < 8)) r region (o + i) aop old (opnd i) (new i) | none => a.1
    let b := t.atomicUnits r region o aop src env opnd new is
    (b.1, match a.2, b.2 with | some x, some y => some (x ++ y) | _, _ => none)

/-- Is the atomic request well formed: a listed AOP, at most 8 flits when it returns, pairs of flits for CAS (R285)? -/
def aopOk (aop flits : Nat) : Bool :=
  cellBytes aop != 0 && (!bitAt aop 7 || decide (flits ≤ 7)) && (aop % 128 != 11 || flits % 2 == 1)

/-- Units that an atomic covers: one for each flit, or for each pair of flits of a CAS (R285). -/
def aopUnits (aop flits : Nat) : Nat := if aop % 128 = 11 then (flits + 1) / 2 else flits + 1

/-- An atomic request applied counts at stacks (R289). -/
def State.countAtomic (s : State) (hs : List Nat) : State :=
  hs.foldl (fun t h => t.modMem h (fun m => { m with atomics := satAdd m.atomics 1 })) s

/-- Apply an atomic with its data units (R285); the old values, or none at an uncorrectable error, which leaves it out of ATOMIC_COUNT.
It counts at every stack that holds units of it (R289; DEDUCED, log 120). -/
def State.applyAtomic (s : State) (r : Region) (region o aop flits src : Nat) (env : MemEnv) (data : Nat → List Byte) :
    State × Option (List Byte) :=
  let cas := aop % 128 == 11
  let hs := ((upto (aopUnits aop flits)).map (fun i => (r.locate (64 * (o + i))).1)).eraseDups
  let a := (s.countOdecc (r.locate (64 * o)).1 env.odecc).atomicUnits r region o aop src env (fun i => if cas then data (2 * i) else data i) (fun i => data (2 * i + 1))
    (upto (aopUnits aop flits))
  (if a.2.isSome then a.1.countAtomic hs else a.1, a.2)

/-- EV_MEM_BAD_REQUEST, with the stack byte address that the request names (R285, R290). -/
def State.badRequest (s : State) (h : Nat) (r : Region) (q : ReqFields) : State :=
  s.raise 0x4006 (8 + h) 0 (memDetail ((r.locate (64 * q.offset)).2 / 64))

/-- An ATOMIC is served (R285 to R287); a reserved AOP, and a form that R285 does not allow, is refused whatever units it names. -/
def State.serveAtomic (s : State) (src h : Nat) (r : Region) (q : ReqFields) (data : List Flit) (env : MemEnv) : State :=
  if aopOk q.aop q.flits then
    let a := s.applyAtomic r q.region q.offset q.aop q.flits src env (fun i => ((data[i]?).map flitBytes).getD [])
    let t := a.1.writeDone src h q.rtag
    match a.2 with
    | none => t.stepMemFault src
    | some old => if bitAt q.aop 7 then t.replyRow h q old else t
  else (s.badRequest h r q).writeDone src h q.rtag

/-! ### What arrives (R219, R221, R280) -/

/-- Does a freeze stop a pseudo-channel that the request needs (R237)? -/
def State.reqFrozen (s : State) (h : Nat) (r : Region) (q : ReqFields) : Bool :=
  (upto (q.flits + 1)).any (fun i => (s.arb (arbIx 1 (8 + h) ((r.locate (64 * (q.offset + i))).2 / 64 % 64))).freeze)

/-- Do the units that a request names lie within its region? -/
def ReqFields.inRegion (q : ReqFields) (r : Region) : Bool :=
  r.holds (64 * q.offset) (64 * (if q.op = 3 then aopUnits q.aop q.flits else q.flits + 1))

/-- Serve one request that has arrived whole; a reserved OP or AOP is refused whatever region it names (R285, R290). One that leaves its
region touches nothing. -/
def State.serveReq (s : State) (src h : Nat) (q : ReqFields) (data : List Flit) (env : MemEnv) : State :=
  match s.region q.region with
  | none => if q.op = 1 ∨ q.op = 2 ∨ (q.op = 3 ∧ aopOk q.aop q.flits) then s else s.raise 0x4006 (8 + h) 0 []
  | some r =>
    match q.op with
    | 1 => if q.inRegion r then s.serveRead src h r q env else s
    | 2 => if q.inRegion r then s.serveWrite src h r q data else s
    | 3 => if q.inRegion r || !aopOk q.aop q.flits then s.serveAtomic src h r q data env else s
    | _ => s.badRequest h r q

/-- The data flits that must have arrived before the request is served. -/
def ReqFields.needs (q : ReqFields) : Nat := if q.op = 2 ∨ q.op = 3 then q.flits + 1 else 0

/-- Is a request whole, and may the stack serve it now? Stacks that are down, frozen or at refresh only let it wait. -/
def State.canServe (s : State) (h : Nat) (l : List (Nat × Flit)) (q : ReqFields) : Bool :=
  (s.mem.get h).serves && !(s.mem.get h).refreshOnly && (reqData l q q.needs).isSome &&
  (match s.region q.region with | some r => !s.reqFrozen h r q | none => true)

/-- Flits of a REQ and its data arrive at a gate die; requests of operation `op` that are whole are served, oldest first. -/
def State.gateArrival (s : State) (src h : Nat) (flits : List RxFlit) (env : MemEnv) (mine : Nat → Bool) : State :=
  let k := streetIx src (8 + h)
  let a := s.rxFlits src (8 + h) flits
  let l := a.1.blv.rxBuf.get k ++ a.2.filter (fun e => flitKind e.2 == 1 || flitKind e.2 == 2)
  let t := { a.1 with blv := { a.1.blv with rxBuf := a.1.blv.rxBuf.set k l } }
  match l.find? (fun e => flitKind e.2 == 2 && mine (reqFields e.2).op && t.canServe h l (reqFields e.2)) with
  | none => t
  | some e =>
    let q := reqFields e.2
    let data := (reqData l q q.needs).getD []
    let rest := data.foldl (fun l f => l.eraseP (fun x => x.2 == f)) (l.erase e)
    { t with blv := { t.blv with rxBuf := t.blv.rxBuf.set k rest } }.serveReq src h q data env

/-- REQ_READ (R219, R280, R283, R284). A reserved OP is refused here. -/
def execReqRead (src : PlazaNo) (h : Fin 16) (flits : List RxFlit) (env : MemEnv) (s : State) : Res :=
  .next (s.gateArrival src.val h.val flits env (fun op => op != 2 && op != 3))

/-- REQ_WRITE (R219, R280, R283). -/
def execReqWrite (src : PlazaNo) (h : Fin 16) (flits : List RxFlit) (s : State) : Res :=
  .next (s.gateArrival src.val h.val flits {} (fun op => op == 2))

/-- REQ_ATOMIC (R219, R285 to R287). -/
def execReqAtomic (src : PlazaNo) (h : Fin 16) (flits : List RxFlit) (env : MemEnv) (s : State) : Res :=
  .next (s.gateArrival src.val h.val flits env (fun op => op == 3))

/-! ### Scrub, repair, re-key walker (R281, R282, R288) -/

/-- The region that holds a stack byte address, 0xFFF for none. -/
def State.regionAt (s : State) (h a : Nat) : Option (Nat × Region) :=
  match s.img.image with
  | none => none
  | some i => (i.regions.cells.filterMap (fun c => c.2.map (fun r => (c.1, r)))).find? (fun c =>
      c.2.stackMask.getLsbD h && decide (c.2.base ≤ a) && decide (a < c.2.base + c.2.size / max 1 c.2.stackList.length))

/-- SCRUB_UNIT (R281 to R283): the unit is checked and corrected; an uncorrectable one is reported and its repair starts. The
last unit of the stack ends the pass. -/
def execScrubUnit (h : Fin 16) (u : BitVec 30) (fault : Option MemFault) (noSpare : Bool) (s : State) : Res :=
  let n := h.val
  let k := u.toNat
  let region := ((s.regionAt n (64 * k)).map Prod.fst).getD 0xFFF
  if (s.mem.get n).serves then
    let t :=
      if (s.mem.get n).lost.contains k then (s.countUe n k 5 region (8 + n)).raise 0x4002 (8 + n) 0 (memDetail k)
      else match fault with
        | none => s
        | some f =>
          if f.fails then ((s.countUe n k 3 region (8 + n)).raise 0x4002 (8 + n) 0 (memDetail k)).loseUnit n k f.row noSpare
          else s.correctUnit n k f.row noSpare
    .next (if k = 2 ^ 30 - 1 then t.modMem n (fun m => { m with scrubPasses := satAdd m.scrubPasses 1, corrected := {} }) else t)
  else .next s

/-- Has the recess come to its other management work: crossfades and lane groups are done, and such work was granted (R176, R211)? -/
def State.otherWork (s : State) : Bool :=
  s.seq.grant.isSome && !s.seq.flitWait && s.seq.work.lamps.isEmpty && s.seq.work.lanes.isEmpty && !s.seq.work.other.isEmpty

/-- ROW_REPAIR (R282): in a recess that grants other management work, after its crossfades and lane groups (R176), a row that waits for
its repair is remapped; its lost units stay in the list. -/
def execRowRepair (h : Fin 16) (row : Nat) (s : State) : Res :=
  if (s.mem.get h.val).repairs.contains row ∧ s.otherWork then
    .next (s.modMem h.val (fun m => { m with repairs := m.repairs.erase row, repaired := min 0xFFFF (m.repaired + 1),
                                             corrected := m.corrected.set row 0 }))
  else .next s

/-- The units of the SESSION regions of a stack from unit `u` on: the first one. -/
def State.nextSessionUnit (s : State) (h u : Nat) : Option Nat :=
  match s.img.image with
  | none => none
  | some i =>
    let rs := (i.regions.cells.filterMap (fun c => c.2)).filter (fun r => r.session && r.stackMask.getLsbD h)
    let starts := rs.filterMap (fun r =>
      let lo := r.base / 64
      let hi := lo + r.size / max 1 r.stackList.length / 64
      if hi ≤ u then none else some (max lo u))
    match starts with
    | [] => none
    | x :: xs => some (minOf x xs)

/-- WALKER_STEP (R288): the walker re-encrypts the next unit whose epoch bit names the old epoch, in rising stack address; past
the last one it has finished in this stack. -/
def execWalkerStep (h : Fin 16) (s : State) : Res :=
  let n := h.val
  if (s.mem.get n).walking then
    match s.nextSessionUnit n (s.mem.get n).walkUnit with
    | none => .next (s.modMem n (fun m => { m with walking := false }))
    | some u =>
      let t := s.modMem n (fun m => { m with walkUnit := u + 1 })
      if (s.tags.get (hbmUnit n u)).epoch = (s.mem.get n).epoch ∨ (s.mem.get n).lost.contains u then .next t
      else match s.unitBytes n u true with
        | some bs => .next (t.storeUnit n u true bs)
        | none => .next t
  else .next s

end Sys2Proof.Machine
end

