-- ==== Sys2Proof/Machine/PodCtl.lean ====
section
/-! DEFINITION. The ST, SYN and CTL slots: transfers, tallies, loops and the end of a step (R104, R105, R118 to R120, R228,
R337, R338). -/
namespace Sys2Proof.Machine

/-! ### Transfer entries (R228) -/

/-- RFIRST of a transfer entry. -/
def xferRfirst (x : Entry128) : Nat := bitsOf x.toNat 100 6
/-- OFFSET. -/
def xferOffset (x : Entry128) : Nat := bitsOf x.toNat 64 32
/-- MODE of a shallot destination: a barrier row. -/
def xferBarrier (x : Entry128) : Bool := bitAt x.toNat 76
/-- Destination store row of a shallot destination. -/
def xferRow (x : Entry128) : Nat := bitsOf x.toNat 64 12
/-- REGION. -/
def xferRegion (x : Entry128) : Nat := bitsOf x.toNat 52 12
/-- MSLOT. -/
def xferMslot (x : Entry128) : Nat := bitsOf x.toNat 40 12
/-- ISLOT. -/
def xferIslot (x : Entry128) : Nat := bitsOf x.toNat 28 12
/-- WFIRST. -/
def xferWfirst (x : Entry128) : Nat := bitsOf x.toNat 22 6
/-- FLITS. -/
def xferFlits (x : Entry128) : Nat := bitsOf x.toNat 18 4
/-- LSLOT. -/
def xferLslot (x : Entry128) : Nat := bitsOf x.toNat 14 4
/-- UNIT: the destination pod. -/
def xferUnit (x : Entry128) : Nat := bitsOf x.toNat 5 9
/-- DEST. -/
def xferDest (x : Entry128) : Nat := bitsOf x.toNat 0 5

/-- The lowest request tag that no open request of the sender to that plaza uses (R217); with all 1,024 in use, 0 (DESIGN CHOICE, log 116). -/
def State.freeTag (s : State) (src dst : Nat) : Nat :=
  let used := (s.seq.exe.flights.filter (fun f => (f.src == src && f.dst == dst && !f.fetch) || (f.src == dst && f.dst == src && f.fetch))).map (fun f => f.tag)
  ((upto 1024).find? (fun k => !used.contains k)).getD 0

/-- A transfer of the step is under way (R161). -/
def State.addFlight (s : State) (f : Flight) : State := s.modExe (fun e => { e with flights := e.flights ++ [f] })

/-- A SEND to a pod of the same shallot: the row crosses the avenue buses to its landing slot (R159, R228). -/
def State.sendHere (s : State) (n : Nat) (x : Entry128) (b : RowBuf) (wide : Bool) : State :=
  let barrier := if xferBarrier x then some (BitVec.ofNat 12 (xferRow x)) else none
  (s.addFlight { src := n, dst := n, pod := xferUnit x, slot := xferLslot x }).askIngress n n (xferUnit x) (xferLslot x) b.data b.ext wide barrier

/-- A SEND to another shallot: 8 flits, or 16 for two rows of a wide execution (R69, R228, R229). -/
def State.sendAway (s : State) (n : Nat) (x : Entry128) (b : RowBuf) (wide : Bool) : State :=
  let row := if xferBarrier x then some (xferRow x) else none
  let route := fun (half : Bool) (p : Nat) => routeWord p (xferUnit x) half (xferLslot x) row
  let t := s.addFlight { src := n, dst := xferDest x, pod := xferUnit x, slot := xferLslot x }
  let t := t.sendRow n (xferDest x) (xferWfirst x) 8 (!wide) (route false) b.data
  if wide then t.sendRow n (xferDest x) (xferWfirst x) 8 true (route true) b.ext else t

/-- A SEND to a stack: a REQ with OP WRITE and its data flits; a wide buffer is 16 of them (R69, R228). -/
def State.sendStack (s : State) (n pod : Nat) (x : Entry128) (b : RowBuf) (wide : Bool) : State :=
  let tag := s.freeTag n (xferDest x)
  let flits := if wide then 15 else xferFlits x
  let q : ReqFields := { rtag := tag, replyPlaza := n, replyPod := pod, offset := xferOffset x, region := xferRegion x, flits := flits,
                         op := 2, mslot := xferMslot x }
  let t := s.addFlight { src := n, dst := xferDest x, tag := tag }
  let t := t.sendFlit n (xferDest x) (xferWfirst x) (reqHeader tag) (reqPayload q)
  (upto (flits + 1)).foldl (fun t p => t.sendFlit n (xferDest x) (xferWfirst x + p % 8)
    (dataHeader (p % 8) (decide (flits < 8 ∨ 8 ≤ p)) tag) (rowPayload (if p < 8 then b.data else b.ext) (p % 8))) t

/-- ST SEND (R118, R228): the row buffer, by the transfer entry; two rows in a wide execution where the buffer holds A192 slots
(R69, R124). -/
def execSend (p : PodRef) (a : StArgs) (s : State) : Res :=
  let n := p.sh.val
  let pod := s.pod n p.pod.val
  let b := pod.readBuf (s.ctx n) a.buf
  let x := pod.xfers.get a.xfer.val
  let wide := s.seq.exe.wide && b.wide
  let t := { s with free := s.free + 1 }
  .next (if xferDest x = n then t.sendHere n x b wide
         else if xferDest x < 8 then t.sendAway n x b wide
         else if xferDest x < 24 then t.sendStack n p.pod.val x b wide
         else s)

/-- ST FETCH (R118, R219, R228): a REQ with OP READ, whose reply lands in the pod's own slot. -/
def execFetch (p : PodRef) (a : StArgs) (s : State) : Res :=
  let n := p.sh.val
  let x := (s.pod n p.pod.val).xfers.get a.xfer.val
  let d := xferDest x
  if xferLslot x ≠ a.lslot.val then .refused .loaderRefuses
  else if 8 ≤ d ∧ d < 24 then
    let tag := s.freeTag n d
    let q : ReqFields := { rtag := tag, rfirst := xferRfirst x, replyPlaza := n, replyPod := p.pod.val, replySlot := xferLslot x,
                           offset := xferOffset x, region := xferRegion x, flits := xferFlits x, op := 1, mslot := xferMslot x }
    let t := s.addFlight { src := d, dst := n, pod := p.pod.val, slot := xferLslot x, fetch := true, tag := tag }
    .next (t.sendFlit n d (xferWfirst x) (reqHeader tag) (reqPayload q))
  else .next s

/-- ST RECV (R119): a complete slot goes to its buffer; an incomplete one holds the shallot. -/
def execRecv (p : PodRef) (a : StArgs) (s : State) : Res :=
  let n := p.sh.val
  let pod := s.pod n p.pod.val
  if (pod.landing.get a.lslot.val).complete then .next (s.modPod n p.pod.val (fun q => q.recv (s.ctx n) a.lslot a.buf))
  else .next (s.modSh n (fun h => { h with recvHolds := h.recvHolds ++ [{ pod := p.pod.val, slot := a.lslot, buf := a.buf }] }))

/-! ### Tallies (R337, R338) -/

/-- A tally: at a shallot or at a gateway. -/
def State.tally (s : State) (plaza index : Nat) : Tally :=
  if plaza < 8 then (s.shal plaza).tallies.get index else (s.net.gw.get (plaza - 24)).tallies.get index

/-- The tally written. -/
def State.putTally (s : State) (plaza index : Nat) (v : Tally) : State :=
  if plaza < 8 then s.modSh plaza (fun h => { h with tallies := h.tallies.set index v })
  else s.modGw (plaza - 24) (fun g => { g with tallies := g.tallies.set index v })

/-- The checkpoint keeps the entry that the step found in a tally that it changes (R166). -/
def State.saveTally (s : State) (plaza index : Nat) : State :=
  if s.executing && !(s.seq.tallySave.any (fun x => x.1 == plaza && x.2.1 == index)) then
    { s with seq := { s.seq with tallySave := s.seq.tallySave ++ [(plaza, index, s.tally plaza index)] } }
  else s

/-- A tally changed by the step. -/
def State.modTally (s : State) (plaza index : Nat) (f : Tally → Tally) : State :=
  (s.saveTally plaza index).putTally plaza index (f (s.tally plaza index))

/-- A SYN operation that changes a tally; a plaza without tallies or an index past them is in no image (R120, R126). -/
def State.synOp (s : State) (a : SynArgs) (f : Tally → Tally) : Res :=
  if synForm a then .next (s.modTally a.plaza.val a.index.toNat f) else .refused .loaderRefuses

/-- SYN ADD (R338): VALUE plus ARG, modulo 2^32. -/
def execSynAdd (_p : PodRef) (a : SynArgs) (s : State) : Res :=
  s.synOp a (fun t => { t with value := t.value + a.arg.setWidth 32 })

/-- SYN SETF (R338): flag ARG[3:0] is set. -/
def execSetf (_p : PodRef) (a : SynArgs) (s : State) : Res :=
  s.synOp a (fun t => { t with flags := t.flags ||| BitVec.ofNat 16 (2 ^ (bitsOf a.arg.toNat 0 4)) })

/-- SYN CLR (R338): the whole entry is zero. -/
def execSynClr (_p : PodRef) (a : SynArgs) (s : State) : Res := s.synOp a (fun _ => {})

/-- Does a WAIT's condition hold (R338): VALUE ≥ ARG, unsigned? -/
def State.tallyMet (s : State) (w : WaitHold) : Bool := decide (w.arg.toNat ≤ (s.tally w.plaza w.index).value.toNat)

/-- SYN WAIT (R120): nothing where the tally has reached ARG; else the shallot is held. -/
def execWaitTally (p : PodRef) (a : SynArgs) (s : State) : Res :=
  let w : WaitHold := { pod := p.pod.val, plaza := a.plaza.val, index := a.index.toNat, arg := a.arg }
  if synForm a then
    .next (if s.tallyMet w then s else s.modSh p.sh.val (fun h => { h with waitHolds := h.waitHolds ++ [w] }))
  else .refused .loaderRefuses

/-- The WAITs of a pod that hold and are met now end (R120). -/
def State.retest (s : State) (n pod : Nat) : State :=
  s.modSh n (fun h => { h with waitHolds := h.waitHolds.filter (fun w => w.pod != pod || !s.tallyMet w) })

/-- WAIT_RETEST (R120): the pod's failed condition is tested again. -/
def execWaitRetest (p : PodRef) (s : State) : Res := .next (s.retest p.sh.val p.pod.val)

/-! ### Loops and the end of the step (R100, R101, R104, R105, R149, R163) -/

/-- CTL LOOP (R104 to R106): the body follows the bundle that the pod issued last; three loops may be open. -/
def execLoopCtl (p : PodRef) (a : LoopArgs) (s : State) : Res :=
  let pod := s.pod p.sh.val p.pod.val
  if pod.loops.length < 3 then
    .next (s.modPod p.sh.val p.pod.val (fun q => q.openLoop pod.lastPc a.lc a.stop a.trips a.stride))
  else .refused .loaderRefuses

/-- Does some pod of the shallot still issue bundles? -/
def Shallot.anyIssuing (h : Shallot) : Bool := h.pods.cells.any (fun c => c.2.issuing)

/-- The shallot's last pod has issued its STEP_END: the beat count is one more than that beat, and the operations still under
way complete at their visibility beats (R100, R149). A hold that arises in that beat is charged to no register (DESIGN CHOICE,
log 92). -/
def State.shallotDone (s : State) (n : Nat) : State :=
  let h := s.shal n
  let t := s.modSh n (fun h => { h with inStep := false, beatZeroDue := false, pods := h.pods.mapAll (fun _ p => p.landAll.drainAll) })
  let t := t.modExe (fun e => { e with beats := e.beats.set n (h.beat.toNat + 1) })
  { t with seq := { t.seq with done := t.seq.done ||| BitVec.ofNat 8 (2 ^ n) } }

/-- Have all placed shallots that take part reported their beat counts (R163)? -/
def State.allDone (s : State) : Bool := shallotNums.all (fun n => !(s.shal n).placed || s.seq.done.getLsbD n)

/-- When every placed shallot is done, the drain begins (R163). -/
def State.maybeDrain (s : State) : State :=
  if s.seq.phase = .execute ∧ s.allDone then { s with seq := { s.seq with phase := .drain } } else s

/-- CTL STEP_END (R100, R101): the pod issues no further bundle; its waiting barrier rows are written (R229); with the last pod
the shallot is done, and with the last shallot the drain begins. -/
def execStepEnd (p : PodRef) (s : State) : Res :=
  let n := p.sh.val
  if (s.pod n p.pod.val).issuing then
    let t := s.modPod n p.pod.val (fun q => { q with issuing := false }.drainAll)
    .next (if (t.shal n).anyIssuing then t else (t.shallotDone n).maybeDrain)
  else .next s

/-! ### Twins (R396, R397) -/

/-- The copy of an output-window, outbound or service-reply region that leaves the package: region `r`, or region r + 1 where the
pods of a twin pair write it and the odd twin holds the higher claim (R396, R397). -/
def State.copyOf (s : State) (r : Nat) : Nat :=
  let writes := fun (n : Nat) => (s.shal (2 * n)).pods.cells.any (fun c => c.2.placed &&
    c.2.xfers.cells.any (fun x => decide (8 ≤ xferDest x.2) && decide (xferDest x.2 < 24) && xferRegion x.2 == r))
  if r % 2 == 0 && (upto 4).any (fun n => s.cond.twinHigh.getLsbD n && writes n) then r + 1 else r

end Sys2Proof.Machine
end

