-- ==== Sys2Proof/Machine/Journal.lean ====
section
/-! DEFINITION. The journal: records, the ring with its two policies, the journal port and the leave to export (R177 to R182,
R308, R459). -/
namespace Sys2Proof.Machine

/-! ### Session keys (R453) -/

/-- A key of `n` bytes shared with the holder of a session: label and epoch number (R453). -/
def Session.key (k : Session) (label : String) (e n : Nat) : List Byte :=
  shake256 n (digestBytes k.secret ++ ascii label ++ leBytes 8 e ++ leBytes 4 k.id)

/-! ### Records (R178) -/

/-- The header of a record after its CRC: 28 bytes from INDEX on (R178). -/
def JRecord.headTail (r : JRecord) : List Byte :=
  leBytes 4 r.index.toNat ++ leBytes 2 r.source.toNat ++ leBytes 2 r.type.toNat ++ leBytes 4 r.payload.length ++
  leBytes 8 r.seq.toNat ++ leBytes 8 r.step.toNat

/-- The bytes of a record: CRC, header, payload padded to a multiple of 32 (R178). -/
def JRecord.bytes (r : JRecord) : List Byte :=
  let body := r.headTail ++ padTo 32 r.payload
  leBytes 4 (crc32c ([0, 0, 0, 0] ++ body)).toNat ++ body

/-- Bytes that a record takes in the ring. -/
def JRecord.size (r : JRecord) : Nat := 32 + cdiv r.payload.length 32 * 32

/-! ### The ring (R177, R181) -/

/-- The journal region of the image (R204). -/
def State.journalRegion (s : State) : Option (Nat × Region) :=
  match s.img.image with
  | none => none
  | some i => (i.regions.cells.filterMap (fun c => c.2.map (fun r => (c.1, r)))).find? (fun c => c.2.kind == 1)

/-- Bytes of the ring. -/
def State.ringSize (s : State) : Nat := ((s.journalRegion).map (fun c => c.2.size)).getD 0

/-- Does the image choose WRAP (R181)? -/
def State.journalWraps (s : State) : Bool := ((s.journalRegion).map (fun c => c.2.wrap)).getD false

/-- Write bytes at a byte count of the ring, round its end (R177). -/
def State.ringWrite (s : State) (count : Nat) (bs : List Byte) : State :=
  match s.journalRegion with
  | none => s
  | some (n, r) =>
    let o := count % max 1 r.size
    let a := bs.take (r.size - o)
    ((s.writeRegion r n o a).1.writeRegion r n 0 (bs.drop (r.size - o))).1

/-- The records of the ring that the bytes up to a new head overwrite. -/
def StepSeq.overwritten (q : StepSeq) (size head : Nat) : List (Nat × JRecord) := q.ring.filter (fun c => decide (c.1 + size < head))

/-! ### Leave (R459) and the journal port (R182, R308) -/

/-- How records may leave: none for never, some none in clear, some (some key) under K_JRN (R459). -/
def State.journalLeave (s : State) : Option (Option (List Byte)) :=
  match s.sec.tenant with
  | some k => if k.exportOk then some (some (k.key "JRN" 0 64)) else none
  | none => if s.sec.policy.getLsbD 3 then some none else none

/-- Bytes from a ring byte count on, as they leave (R459): encrypted in data units of 32 bytes whose tweak is the count div 32. -/
def sealJournal (key : Option (List Byte)) (count : Nat) (bs : List Byte) : List Byte :=
  match key with
  | none => bs
  | some k => ((chunks 32 bs).zipIdx).flatMap (fun (c : List Byte × Nat) => Sys2Proof.Config.xts (leVal k) (count / 32 + c.2) c.1)

/-- One datagram of a record (R308). -/
def State.journalDatagram (s : State) (sub : Nat) (udp : Nat × Nat) (dst : BitVec 128) (r : JRecord) (frag : Nat) (piece : List Byte) : State :=
  if (s.net.ports.get sub).up then
    let head := leBytes 8 s.seq.dseq.toNat ++ leBytes 8 r.seq.toNat ++ leBytes 4 frag ++ leBytes 4 r.size
    let t := s.sendFrame { sub := sub, kind := 4, dst := dst.toNat, udp := some udp, bytes := head ++ piece }
    { t with seq := { t.seq with dseq := t.seq.dseq + 1 } }.modGw (sub / 64) (fun g => { g with dgrams := satAdd g.dgrams 1 })
  else s

/-- A record goes out of the journal port, or is withheld and counted (R182, R308, R459). -/
def State.journalOut (s : State) (count : Nat) (r : JRecord) : State :=
  match s.img.image.bind (fun i => i.journalPort) with
  | none => s
  | some (sub, sport, addr, dport) =>
    match s.journalLeave with
    | none => s.modGw (sub / 64) (fun g => { g with withheld := satAdd g.withheld 1 })
    | some key => ((chunks 8960 (sealJournal key count r.bytes)).zipIdx).foldl (fun t (c : List Byte × Nat) => t.journalDatagram sub (sport, dport) addr r (8960 * c.2) c.1) s

/-! ### Writing records (R177 to R181) -/

/-- Put a record at the head of the ring (R177, R178). -/
def State.putRecord (s : State) (r : JRecord) : State :=
  let count := s.seq.head.toNat
  let r := { r with seq := s.seq.jseq }
  let head := count + r.size
  let t := s.ringWrite count r.bytes
  { t with seq := { t.seq with
      jseq := t.seq.jseq + 1, head := BitVec.ofNat 64 head,
      ring := (t.seq.ring.filter (fun (c : Nat × JRecord) => !decide (c.1 + t.ringSize < head))) ++ [(count, r)] } }.journalOut count r

/-- Under WRAP: the record overwrites the oldest ones; a GAP record names the lost ones that were not consumed (R181). -/
def State.wrapRecord (s : State) (r : JRecord) : State :=
  let size := s.ringSize
  let head := s.seq.head.toNat + r.size
  let unread := fun (h : Nat) => (s.seq.overwritten size h).filter (fun c => decide (s.seq.tail.toNat < c.1 + c.2.size))
  if (unread head).isEmpty then s.putRecord r
  else
    let lost := unread (head + 64)
    let t := s.putRecord r
    let gap := leBytes 8 ((lost.head?.map (fun c => c.2.seq.toNat)).getD 0) ++
      leBytes 8 ((lost.getLast?.map (fun c => c.2.seq.toNat)).getD 0)
    let t := t.putRecord { step := r.step, type := 0x000A, payload := gap }
    { t with seq := { t.seq with gapCount := satAdd t.seq.gapCount 1 } }.raise 0x0015 pkgPlaza 0 []

/-- Is there room for a record above the tail (R181)? -/
def State.journalRoom (s : State) (r : JRecord) : Bool := decide (s.seq.head.toNat + r.size ≤ s.seq.tail.toNat + s.ringSize)

/-- Write a record, or let it wait under STALL behind those that wait already (R181). In replay nothing is written (log 13). -/
def State.record (s : State) (r : JRecord) : State :=
  if s.seq.replay then s
  else if s.journalWraps then s.wrapRecord r
  else if s.seq.stalled.isEmpty && s.journalRoom r then s.putRecord r
  else { s with seq := { s.seq with stalled := s.seq.stalled ++ [r], stallSince := some (s.seq.stallSince.getD s.top.now) } }

/-- An input of more than 65,536 bytes is several records in rising INDEX (R178). -/
def State.recordInput (s : State) (step : Word64) (type source index : Nat) (bs : List Byte) : State :=
  let ps := if bs.isEmpty then [[]] else chunks 65536 bs
  let rec' := fun (c : List Byte × Nat) =>
    ({ step := step, type := BitVec.ofNat 16 type, source := BitVec.ofNat 16 source, index := BitVec.ofNat 32 (index + 2048 * c.2),
       payload := c.1 } : JRecord)
  ps.zipIdx.foldl (fun t c => t.record (rec' c)) s

/-- The waiting records that now fit are written in order (with fuel from their number). -/
def State.unstall : Nat → State → State
  | 0, s => s
  | n + 1, s =>
    match s.seq.stalled with
    | [] => s
    | r :: rs => if s.journalRoom r then State.unstall n ({ s with seq := { s.seq with stalled := rs } }.putRecord r) else s

/-- The acknowledgement of an arrival: it waits while a record waits under STALL (R181). -/
def State.sendAck (s : State) (peer kind : Nat) (bytes : List Byte) : State :=
  if s.seq.stalled.isEmpty then s.sendTo peer kind bytes
  else { s with seq := { s.seq with heldActs := s.seq.heldActs ++ [.packet peer kind bytes] } }

end Sys2Proof.Machine
end

