-- ==== Sys2Proof/Machine/Sched.lean ====
section
/-! DEFINITION. The scheduled network and the service endpoint: streams, packets, acknowledgements, calls and replies (R299 to
R312). -/
namespace Sys2Proof.Machine

/-! ### States, claims, routes -/

/-- Does the image claim an index of a resource for a feature (R206)? -/
def State.claimed (s : State) (res feature idx : Nat) : Bool :=
  match s.img.image with
  | none => false
  | some i => i.claims.any (fun c => c.feature == feature && c.covers res idx)

/-- An input or an outbound effect is discarded in replay and counted (R183). -/
def State.replayDrop (s : State) (n : Nat) : State := { s with seq := { s.seq with replayDrops := satAdd s.seq.replayDrops n } }

/-- A stream of the image by number and direction: 0 send, 1 receive. -/
def State.stream (s : State) (num dir : Nat) : Option Stream :=
  s.img.image.bind (fun i => i.streams.find? (fun x => x.num == num && x.dir == dir))

/-- This package's index in its domain, 0 outside one. -/
def State.ownIndex (s : State) : Nat := ((s.img.image.bind (fun i => i.domain)).map (fun d => d.2.1)).getD 0

/-! ### Scheduled packets (R302 to R304) -/

/-- The 32-byte header of a scheduled datagram (R302). -/
def schedHeader (type stream src : Nat) (last : Bool) (step seq count offset len : Nat) : List Byte :=
  [1, BitVec.ofNat 8 type] ++ leBytes 2 stream ++ leBytes 2 src ++ leBytes 2 (b2n last) ++ leBytes 8 step ++ leBytes 4 seq ++
  leBytes 4 count ++ leBytes 4 offset ++ leBytes 2 len ++ [0, 0]

/-- The datagram of a packet that waits for its acknowledgement. -/
def State.schedBytes (s : State) (x : SchedOut) : List Byte :=
  schedHeader 1 x.stream s.ownIndex (x.seq + 1 == x.count) x.step.toNat x.seq x.count (x.seq * 128) x.data.length ++ x.data

/-- Send one packet of a stream. -/
def State.sendSched (s : State) (peer : Nat) (x : SchedOut) : State := s.sendTo peer 1 (s.schedBytes x)

/-- A packet is sent again with the same header and data, and counted (R304), while the ports carry traffic (R313) and a route is up. -/
def State.resendSched (s : State) (peer : Nat) (x : SchedOut) : State :=
  if !s.netOpen || !s.canSendTo peer then s
  else
  let g := ((s.routeOf peer).map (fun r => r.subport / 64)).getD 0
  (s.sendSched peer x).modGw g (fun w => { w with resends := satAdd w.resends 1 })

/-- Wire bytes of a scheduled frame of `n` data bytes: headers, and with MACsec its tag and check value (R299, R300). -/
def wireBytes (macsec : Bool) (n : Nat) : Nat := n + 118 + (if macsec then 32 else 0)

/-- The packets of a list that fit in a number of wire bytes. -/
def fitWindow (macsec : Bool) (room : Nat) : List SchedOut → List SchedOut
  | [] => []
  | x :: xs =>
    if wireBytes macsec x.data.length ≤ room then x :: fitWindow macsec (room - wireBytes macsec x.data.length) xs else []

/-- The period at the IEEE 1588 time, counted from its epoch: one period is 2.56 ns (R300). -/
def State.netPeriod (s : State) : Nat := s.ptpTime * 25 / 64

/-- The period of a gate cycle at the IEEE 1588 time (R300). -/
def State.gatePeriod (s : State) (st : Stream) : Nat := s.netPeriod % max 1 st.cycle

/-- Periods left in a stream's open window, behind the packets that left in it before (R300). -/
def State.windowLeft (s : State) (st : Stream) : Nat :=
  s.netPeriod - s.gatePeriod st + st.start + st.length - max s.netPeriod (s.net.schedBusy.get st.num)

/-- Wire bytes of a list of packets. -/
def wireTotal (macsec : Bool) (l : List SchedOut) : Nat := (l.map (fun x => wireBytes macsec x.data.length)).foldl (· + ·) 0

/-- SCHED_WINDOW (R300, R301): the window of a stream is open, and its packets that were not sent go out, as many as fit in what is left of
it; outside its periods, on a frozen port or with no route up none goes out. -/
def execSchedWindow (num : BitVec 16) (s : State) : Res :=
  match s.stream num.toNat 0 with
  | none => .next s
  | some st =>
    match s.routeOf st.peer with
    | none => .next s
    | some e =>
      let n := s.gatePeriod st
      if s.netOpen ∧ st.start ≤ n ∧ n < st.start + st.length ∧ (s.net.ports.get e.subport).up ∧ !s.egressFrozen e.subport then
        let mac := (s.net.ports.get e.subport).macsec
        let go := fitWindow mac (512 * s.windowLeft st) (s.net.schedOut.filter (fun x => x.stream == st.num && x.unsent))
        let t := go.foldl (fun t x => t.sendSched st.peer x) s
        let busy := max s.netPeriod (s.net.schedBusy.get st.num) + cdiv (wireTotal mac go) 512
        .next { t with net := { t.net with
          schedOut := t.net.schedOut.map (fun x => if go.contains x then { x with unsent := false } else x),
          schedBusy := t.net.schedBusy.set st.num busy } }
      else .next s

/-- The bitmap of an ACK: bit i for SEQ i, in whole bytes (R302). -/
def ackBitmap (count : Nat) (got : List Nat) : List Byte :=
  (upto (cdiv count 8)).map (fun b => BitVec.ofNat 8 (packN 1 (fun i => b2n (got.contains (8 * b + i))) 8))

/-- The receiver acknowledges what has arrived of a stream (R304), once no record waits under STALL (R181). -/
def State.sendSchedAck (s : State) (st : Stream) (x : SchedIn) : State :=
  s.sendAck st.peer 1 (schedHeader 2 st.num s.ownIndex false x.step.toNat 0 x.count 0 0 ++ ackBitmap x.count x.got)

/-- What has arrived of a stream for a step. -/
def State.schedGot (s : State) (num : Nat) (step : Word64) : Option SchedIn :=
  s.net.schedIn.find? (fun x => x.stream == num && x.step == step)

/-- Has every packet arrived? -/
def SchedIn.complete (x : SchedIn) : Bool := (upto x.count).all (fun i => x.got.contains i)

/-- A new packet is written in place and journaled; the completed stream is acknowledged (R303, R304). -/
def State.acceptSched (s : State) (st : Stream) (r : Region) (p : SchedPkt) : State :=
  let old := (s.schedGot st.num p.step).getD { stream := st.num, step := p.step, count := p.count }
  let x := { old with got := old.got ++ [p.seq] }
  let t := (s.writeRegion r st.region (st.roffset + 64 * p.offset) p.data).1
  let t := t.recordInput p.step 3 (st.subport / 8) ((st.roffset + 64 * p.offset) / 32) p.data
  let t := { t with net := { t.net with schedIn := (t.net.schedIn.filter (fun y => !(y.stream == st.num && y.step == p.step))) ++ [x] } }
  if x.complete then t.sendSchedAck st x else t

/-- SCHED_DATA (R302, R303): the data lands at its offset and is journaled; a duplicate is acknowledged again and not written. -/
def execSchedData (p : SchedPkt) (s : State) : Res :=
  match s.stream p.stream.toNat 1 with
  | none => .next s
  | some st =>
    match s.region st.region with
    | none => .next s
    | some r =>
      if !s.netOpen then .next s
      else if s.seq.replay then .next (s.replayDrop 1)
      else if p.count ≤ p.seq ∨ 8192 < p.data.length ∨ st.bytes < 64 * p.offset + p.data.length ∨
          !r.holds (st.roffset + 64 * p.offset) p.data.length then .next s
      else match s.schedGot st.num p.step with
        | some x => .next (if x.got.contains p.seq then s.sendSchedAck st x else s.acceptSched st r p)
        | none =>
          if p.step.toNat ≤ s.seq.committed.toNat ∧ s.seq.ran then
            .next (s.sendSchedAck st { stream := st.num, step := p.step, count := p.count, got := upto p.count })
          else .next (s.acceptSched st r p)

/-- SCHED_ACK (R304): what it shows received is done; what it shows missing and was sent is sent again. -/
def execSchedAck (num : BitVec 16) (step : BitVec 64) (bits : List Bool) (s : State) : Res :=
  match s.stream num.toNat 0 with
  | none => .next s
  | some st =>
    let mine := fun (x : SchedOut) => x.stream == st.num && x.step == step
    let left := s.net.schedOut.filter (fun x => !(mine x && (bits[x.seq]?).getD false))
    let again := left.filter (fun x => mine x && !x.unsent)
    if s.netOpen then .next (again.foldl (fun t x => t.resendSched st.peer x) { s with net := { s.net with schedOut := left } }) else .next s

/-- SCHED_ACK_TIMER (R304): 2 µs after the last packet, an incomplete stream is acknowledged as far as it has arrived. -/
def execSchedAckTimer (num : BitVec 16) (step : BitVec 64) (s : State) : Res :=
  match s.stream num.toNat 1, s.schedGot num.toNat step with
  | some st, some x => .next (if x.complete || !s.netOpen then s else s.sendSchedAck st x)
  | _, _ => .next s

/-- SCHED_RESEND_TIMER (R304): 20 µs after its last send an unacknowledged packet is sent again. -/
def execSchedResendTimer (num : BitVec 16) (step : BitVec 64) (seq : Nat) (s : State) : Res :=
  match s.stream num.toNat 0, s.net.schedOut.find? (fun x => x.stream == num.toNat && x.step == step && x.seq == seq && !x.unsent) with
  | some st, some x => .next (s.resendSched st.peer x)
  | _, _ => .next s

/-- The scheduled sends of a commit (R164): each sending stream's bytes, cut into packets stamped with the next step. -/
def State.releaseStream (s : State) (st : Stream) : State :=
  let n := s.copyOf st.region
  match s.region n with
  | none => s
  | some r =>
    let a := s.readRegion r n st.roffset st.bytes (24 + st.engine / 16) {} false
    let ps := chunks 8192 (a.2.getD [])
    { a.1 with net := { a.1.net with schedOut := a.1.net.schedOut ++ ps.zipIdx.map (fun c =>
        { stream := st.num, step := s.seq.current + 1, seq := c.2, count := ps.length, data := c.1 }) } }

/-- Scheduled sends leave at the commit; in replay they are discarded and counted (R164, R183). -/
def State.releaseSched (s : State) : State :=
  match s.img.image with
  | none => s
  | some i =>
    let ss := i.streams.filter (fun x => x.dir == 0)
    if s.seq.replay then s.replayDrop ss.length else ss.foldl State.releaseStream s

/-- Has every receiving stream of a step arrived whole (R171, R303)? -/
def State.schedReady (s : State) (step : Word64) : Bool :=
  match s.img.image with
  | none => true
  | some i => (i.streams.filter (fun x => x.dir == 1)).all (fun st =>
      match s.schedGot st.num step with | some x => x.complete | none => false)

/-! ### The service endpoint (R309 to R312) -/

/-- An open session by its identifier: the tenant's or a client's. -/
def Sec.session (k : Sec) (id : Nat) : Option Session :=
  (match k.tenant with | some t => [t] | none => [] : List Session) ++ k.clients |>.find? (fun x => x.id == id)

/-- K_SVC of a session (R453). -/
def Session.svcKey (k : Session) : Digest := BitVec.ofNat 256 (leVal (k.key "SVC" 0 32))

/-- The 24-byte header of a call or reply; a status lies in its reserved bytes (R309, R312). -/
def svcHeader (session call len status : Nat) : List Byte := leBytes 4 session ++ leBytes 8 call ++ leBytes 4 len ++ leBytes 8 status

/-- The nonce of a call, and of a reply (DESIGN CHOICE, log 14). -/
def svcNonce (reply : Bool) (call : Nat) : BitVec 96 := BitVec.ofNat 96 (call + 2 ^ 64 * b2n reply)

/-- Are the inputs of step k sealed (R309): in a domain the package has become ready for it, or it has started, be it in an execution that
is to run again? -/
def State.sealedFor (s : State) (k : Nat) : Bool :=
  decide (k < s.seq.current.toNat) ||
  (k == s.seq.current.toNat && (((s.img.image.bind (fun i => i.domain)).isSome && s.seq.ownReady.isSome) ||
    s.stepStarted))

/-- The next serving step whose inputs are not sealed. -/
def State.servingStep (s : State) (e : Endpoint) : Nat :=
  let k0 := if s.sealedFor s.seq.current.toNat then s.seq.current.toNat + 1 else s.seq.current.toNat
  k0 + ((e.phase + e.period - k0 % max 1 e.period) % max 1 e.period)

/-- Offset of slot i of serving step k in a service region (R310). -/
def Endpoint.slotOffset (e : Endpoint) (k i : Nat) : Nat := ((k / max 1 e.period % max 1 e.depth) * e.calls + i) * (e.payload + 64)

/-- The gateway that serves the endpoint. -/
def Endpoint.gw (e : Endpoint) : Nat := e.subport / 64

/-- A call that is not admitted: counted, and answered at the next commit unless its session or tag is unknown (R312). -/
def State.rejectCall (s : State) (e : Endpoint) (c : SvcCall) (status : Nat) (answer : Bool) : State :=
  let t := s.modGw e.gw (fun g => if status = 1 then { g with svcBusy := satAdd g.svcBusy 1 } else { g with svcRejected := satAdd g.svcRejected 1 })
  let x : CallRefusal := { session := c.session.toNat, call := c.call, status := status, src := c.src }
  if answer then { t with net := { t.net with callRefusals := t.net.callRefusals ++ [x] } }
  else t

/-- An admitted call takes the lowest free slot of its serving step, is written there and journaled (R310). -/
def State.admitCall (s : State) (e : Endpoint) (c : SvcCall) (k i : Nat) (plain : List Byte) : State :=
  let head := leBytes 4 c.session.toNat ++ leBytes 8 c.call.toNat ++ leBytes 4 plain.length ++ List.replicate 48 0
  let body := (plain ++ List.replicate e.payload 0).take e.payload
  let t := match s.region e.reqRegion with
    | none => s
    | some r => (s.writeRegion r e.reqRegion (e.slotOffset k i) (head ++ body)).1
  let t := t.recordInput (BitVec.ofNat 64 k) 5 c.session.toNat c.call.toNat plain
  let x : Call := { session := c.session.toNat, call := c.call, step := BitVec.ofNat 64 k, slot := i, src := c.src }
  let t := { t with net := { t.net with
      calls := t.net.calls ++ [x], lastCall := t.net.lastCall.set c.session.toNat (some c.call) } }
  t.modGw e.gw (fun g => { g with svcAdmitted := satAdd g.svcAdmitted 1 })

/-- SERVICE_CALL (R309, R310, R312): a call is admitted into a slot, or answered busy or refused. -/
def execServiceCall (c : SvcCall) (s : State) : Res :=
  match s.img.image.bind (fun i => i.endpoint) with
  | none => .next s
  | some e =>
    if !s.netOpen then .next s
    else if s.seq.replay then .next (s.replayDrop 1)
    else match s.sec.session c.session.toNat with
      | none => .next (s.rejectCall e c 2 false)
      | some k =>
        match Sys2Proof.Config.gcmOpen k.svcKey (svcNonce false c.call.toNat) (svcHeader c.session.toNat c.call.toNat c.len.toNat 0) c.sealed with
        | none => .next (s.rejectCall e c 2 false)
        | some plain =>
          let above := match s.net.lastCall.get c.session.toNat with | none => true | some n => decide (n.toNat < c.call.toNat)
          if !above || decide (e.payload < c.len.toNat) || decide (plain.length ≠ c.len.toNat) then .next (s.rejectCall e c 2 true)
          else
            let step := s.servingStep e
            let used := (s.net.calls.filter (fun x => x.step.toNat == step)).map (fun x => x.slot)
            match (upto e.calls).find? (fun i => !used.contains i) with
            | none => .next (s.rejectCall e c 1 true)
            | some i => .next (s.admitCall e c step i plain)

/-- When the inputs of a serving step are sealed, its slots without a call read LENGTH 0 (R310). -/
def State.emptySlots (s : State) : State :=
  match s.img.image.bind (fun i => i.endpoint) with
  | none => s
  | some e =>
    let k := s.seq.current.toNat
    if k % max 1 e.period = e.phase then
      match s.region e.reqRegion with
      | none => s
      | some r =>
        let used := (s.net.calls.filter (fun x => x.step.toNat == k)).map (fun x => x.slot)
        ((upto e.calls).filter (fun i => !used.contains i)).foldl (fun t i =>
          (t.writeRegion r e.reqRegion (e.slotOffset k i) (List.replicate 64 0)).1) s
    else s

/-- The reply of an admitted call (R311). -/
def State.replyCall (s : State) (e : Endpoint) (c : Call) : State :=
  let n := s.copyOf e.replyRegion
  match s.sec.session c.session, s.region n with
  | some k, some r =>
    let a := s.readRegion r n (e.slotOffset c.step.toNat c.slot) (e.payload + 64) (24 + e.gw) {} false
    let bs := a.2.getD []
    let len := min (leVal ((bs.drop 12).take 4)) e.payload
    let h := svcHeader c.session c.call.toNat len 0
    a.1.sendNet e.subport 3 c.src.toNat (h ++ Sys2Proof.Config.gcmSeal k.svcKey (svcNonce true c.call.toNat) h ((bs.drop 64).take len))
  | _, _ => s

/-- Service replies of the commit of step k: the calls of step k − DELAY, and the calls that were not admitted (R311, R312). -/
def State.releaseService (s : State) : State :=
  match s.img.image.bind (fun i => i.endpoint) with
  | none => s
  | some e =>
    let due := s.net.calls.filter (fun c => decide (c.step.toNat + e.delay ≤ s.seq.current.toNat))
    let refs := s.net.callRefusals
    let t := { s with net := { s.net with calls := s.net.calls.filter (fun c => !decide (c.step.toNat + e.delay ≤ s.seq.current.toNat)),
                                          callRefusals := [] } }
    if s.seq.replay then t.replayDrop (due.length + refs.length)
    else
      let t := due.foldl (fun t c => t.replyCall e c) t
      refs.foldl (fun t c => t.sendNet e.subport 3 c.src.toNat (svcHeader c.session c.call.toNat 0 c.status)) t

end Sys2Proof.Machine
end

