-- ==== Sys2Proof/Machine/Reach.lean ====
section
/-! DEFINITION. Reach at the target: acceptance, sequence windows, stamps, messages and flags, and requests in passing (R324 to
R335, R337 to R345). -/
namespace Sys2Proof.Machine

/-! ### What arrives (R321, R324) -/

end Sys2Proof.Machine
namespace Sys2Proof

/-- The header that a received packet carries. -/
def ReachIn.hdr (p : ReachIn) (op : Nat) : Machine.ReachHdr :=
  { op := op, flags := p.flags, engine := p.engine.toNat, aop := p.aop.toNat, status := p.status.toNat, hflag := p.hflag, seq := p.seq,
    length := p.length.toNat, region := p.region.toNat, offset := p.offset.toNat, key := p.key, step := p.step, msg := p.msg,
    count := p.count.toNat, tally := p.tally }

/-- The gateway that received it. -/
def ReachIn.gw (p : ReachIn) : Nat := p.sub.val / 64

end Sys2Proof
namespace Sys2Proof.Machine

/-- FLAG, DEP and COMBINED of a header (R321). -/
def ReachHdr.flag (h : ReachHdr) : Bool := h.flags.getLsbD 0
def ReachHdr.dep (h : ReachHdr) : Bool := h.flags.getLsbD 1
def ReachHdr.combined (h : ReachHdr) : Bool := h.flags.getLsbD 3
/-- The header with RESENT set. -/
def ReachHdr.resent (h : ReachHdr) : ReachHdr := { h with flags := h.flags ||| 4 }

/-- A packet that is discarded without reply and counted (R324). -/
def State.badPacket (s : State) (g : Nat) : State := s.modGw g (fun w => { w with badPackets := satAdd w.badPackets 1 })

/-- A frame that is discarded and counted at its sub-port (R294, R313). -/
def State.rxDrop (s : State) (sub : Nat) : State :=
  { s with net := { s.net with ports := s.net.ports.mod sub (fun p => { p with drops := satAdd p.drops 1 }) } }

/-- Whether a packet gets as far as its operation: on a sub-port that REACH claims, in a state that carries it, well formed and,
for a request of another package to this one, not in replay; one in passing is no input of a run (R183, R313, R324, R344). The state is that after it was discarded otherwise. -/
def State.reachGate (s : State) (p : ReachIn) (data : Bool) (request : Bool) : Bool × State :=
  if !s.claimed 2 0x11 p.sub.val then (false, s)
  else if !s.netOpen then (false, s.rxDrop p.sub.val)
  else if p.version != 1 || (data && p.data.length != p.length.toNat) || (!data && !p.data.isEmpty) then (false, s.badPacket p.gw)
  else if request && s.seq.replay && p.dst.val == s.ownIndex then (false, s.replayDrop 1)
  else (true, s)

/-- Send a reply packet to a package. -/
def State.reachSend (s : State) (dest : Nat) (h : ReachHdr) (data : List Byte) : State := s.sendTo dest 2 (h.bytes ++ data)

/-- A reply to an arrival: it waits while a record waits under STALL (R181). -/
def State.reachReply (s : State) (dest : Nat) (h : ReachHdr) (data : List Byte) : State := s.sendAck dest 2 (h.bytes ++ data)

/-- A STATUS reply (R323). -/
def State.reachStatus (s : State) (src : Nat) (h : ReachHdr) (st : Nat) : State := s.reachSend src (h.reply 0x85 st 0) []

/-- BUSY (R323), counted. -/
def State.reachBusy (s : State) (g src : Nat) (h : ReachHdr) : State :=
  (s.reachStatus src h 2).modGw g (fun w => { w with busyTx := satAdd w.busyTx 1 })

/-! ### Acceptance (R325, R326) -/

/-- Does a valid TALLY name a tally inside a TALLY_USE claim; no TALLY passes (R326)? -/
def State.tallyClaimed (s : State) (t : Word) : Bool :=
  !t.getLsbD 31 || s.claimed 5 0x40 (bitsOf t.toNat 16 5 * 2 ^ 16 + bitsOf t.toNat 0 16)

/-- The region that a request may use (R325, R326): exported and claimed, with its key, its permission, and its span inside. -/
def State.reachRegion (s : State) (h : ReachHdr) : Option Region :=
  match s.region h.region with
  | none => none
  | some r =>
    let may := match h.op with | 1 => r.canRead | 2 => r.canWrite | _ => r.canAtomic
    if r.exported && s.claimed 9 0x11 h.region && h.key == r.key && may && r.holds h.offset h.length && s.tallyClaimed h.tally then some r
    else none

/-- A refused request: nothing is applied and no sequence state is kept; its reply leaves 2 µs later (R326). -/
def State.refuseReach (s : State) (g src : Nat) (h : ReachHdr) : State :=
  s.modGw g (fun w => { w with refusedTx := satAdd w.refusedTx 1, refusals := w.refusals ++ [(src, h)] })

/-! ### Windows and acknowledgements (R333 to R335) -/

/-- The window of a source package and engine. -/
def winIx (src engine : Nat) : Nat := src * 256 + engine

/-- Move the base past the SEQ values received (with fuel from the window). -/
def ReachWin.slide : Nat → ReachWin → ReachWin
  | 0, w => w
  | n + 1, w => if w.bits.getLsbD 0 then ReachWin.slide n { base := w.base + 1, bits := w.bits >>> 1 } else w

/-- Has a SEQ been received (R333, R335)? -/
def ReachWin.has (w : ReachWin) (seq : Word) : Bool :=
  let d := (seq - w.base).toNat
  decide (2 ^ 31 ≤ d) || (decide (d < 4096) && w.bits.getLsbD d)

/-- Does a SEQ lie beyond the window (R335)? -/
def ReachWin.beyond (w : ReachWin) (seq : Word) : Bool :=
  let d := (seq - w.base).toNat
  decide (4096 ≤ d) && decide (d < 2 ^ 31)

/-- The window with a SEQ received. -/
def ReachWin.take (w : ReachWin) (seq : Word) : ReachWin :=
  ReachWin.slide 4096 { w with bits := w.bits ||| (BitVec.ofNat 4096 1 <<< (seq - w.base).toNat) }

/-- The target acknowledges: B, and the window in 512 bytes (R334), once no record waits under STALL (R181). -/
def State.reachAck (s : State) (_g src : Nat) (h : ReachHdr) : State :=
  let w := s.net.wins.get (winIx src h.engine)
  s.sendAck src 2 (({ h.reply 0x82 0 512 with seq := w.base } : ReachHdr).bytes ++ leBytes 512 w.bits.toNat)

/-- A request has been dealt with: its SEQ counts as received at the target, whichever gateway took it (R333, R343), stored replies too far
below the base leave, and the window is acknowledged (R333 to R335). -/
def State.reachDone (s : State) (g src : Nat) (h : ReachHdr) : State :=
  let win := (s.net.wins.get (winIx src h.engine)).take h.seq
  let t := { s with net := { s.net with
    wins := s.net.wins.set (winIx src h.engine) win,
    gw := s.net.gw.mapAll (fun _ w => { w with
      replies := w.replies.filter (fun r => !(r.src == src && r.engine == h.engine && decide (4096 ≤ (win.base - r.seq).toNat) &&
               decide ((win.base - r.seq).toNat < 2 ^ 31))) }) } }
  t.reachAck g src h

/-! ### Messages and flags (R339 to R342) -/

/-- The plaza and index of a TALLY field. -/
def tallyPlaza (t : Word) : Nat := bitsOf t.toNat 16 5
def tallyIndex (t : Word) : Nat := bitsOf t.toNat 0 16

/-- The release of a held flag in one update (R341). -/
def Tally.release (t : Tally) : Tally :=
  { t with flags := t.flags ||| BitVec.ofNat 16 (2 ^ t.hflag.toNat), value := t.value + 1, msgCount := t.msgCount - t.htarget, held := false }

/-- Can a held flag be released (R341)? -/
def Tally.ripe (t : Tally) : Bool := t.held && decide (t.htarget.toNat ≤ t.msgCount.toNat)

/-- The flags held at a tally are forgotten. -/
def State.dropHeld (s : State) (plaza index : Nat) : State :=
  { s with net := { s.net with gw := s.net.gw.mapAll (fun _ w => { w with heldFlags := w.heldFlags.filter (fun f => !(f.plaza == plaza && f.index == index)) }) } }

/-- A message packet has taken effect: MSGCOUNT, the held flag of a FLAG packet, which takes the place of one that a SYN CLR ended (R338), and
the release (R340, R341). -/
def State.message (s : State) (g src : Nat) (h : ReachHdr) : State :=
  if h.tally.getLsbD 31 then
    let pl := tallyPlaza h.tally
    let ix := tallyIndex h.tally
    let a := { s.tally pl ix with msgCount := (s.tally pl ix).msgCount + 1 }
    let b : Tally := if h.flag then { a with held := true, hflag := h.hflag, htarget := BitVec.ofNat 32 h.count } else a
    let s := if h.flag then (s.dropHeld pl ix).modGw g (fun w => { w with heldFlags := w.heldFlags ++
               [{ plaza := pl, index := ix, src := src, engine := h.engine, seq := h.seq, count := h.count, region := h.region, offset := h.offset, msg := h.msg,
                  raised := false }] }) else s
    if b.ripe then
      let t := s.putTally pl ix b.release
      let t := { t with net := { t.net with releases := satAdd t.net.releases 1 } }.dropHeld pl ix
      t.reachAck g src h
    else s.putTally pl ix b
  else s

/-- A FLAG packet that finds its tally's flag held already is not applied (R341). -/
def State.flagBusy (s : State) (h : ReachHdr) : Bool :=
  h.tally.getLsbD 31 && h.flag && (s.tally (tallyPlaza h.tally) (tallyIndex h.tally)).held

/-! ### Applying (R327 to R330) -/


/-- When an accepted store or atomic takes effect (R327): now, with the stamp under which it is journaled; at the boundary before
a step; or too late. -/
inductive When where
  | now (stamp : Option Word64)
  | before (step : Word64)
  | late
deriving DecidableEq, Repr

/-- The table of R327 for stores and atomics. -/
def State.whenApplies (s : State) (r : Region) (step : Word64) : When :=
  let c := s.seq.current
  if !r.scheduled then .now none
  else if step = 0 then (if s.stepStarted then .before (c + 1) else .now (some c))
  else if step.toNat < c.toNat ∨ (step = c ∧ s.stepStarted) then .late
  else if step = c then .now (some c)
  else .before step

/-- LATE (R327). -/
def State.reachLate (s : State) (g src : Nat) (h : ReachHdr) : State :=
  let t := ((s.reachStatus src h 3).modGw g (fun w => { w with late := satAdd w.late 1 })).raise 0x5011 (24 + g) h.engine
    (leBytes 2 src ++ leBytes 4 h.seq.toNat)
  t.reachDone g src h

/-- A store takes effect: bytes, journal record, message, acknowledgement (R327 to R329, R340); a FLAG packet whose tally holds a flag by
then is answered BUSY (R341). -/
def State.applyStore (s : State) (g src : Nat) (h : ReachHdr) (data : List Byte) (stamp : Option Word64) : State :=
  if s.flagBusy h then s.reachBusy g src h
  else match s.region h.region with
  | none => s
  | some r =>
    let t := (s.writeRegion r h.region h.offset data).1
    let t := match stamp with | some k => t.recordInput k 4 h.region (h.offset / 32) data | none => t
    (t.message g src h).reachDone g src h

/-- The old values of a returning atomic are answered and stored (R285, R335). -/
def State.atomicReply (s : State) (g src : Nat) (h : ReachHdr) (old : List Byte) : State :=
  let bs := old.take 512
  (s.modGw g (fun w => { w with replies := w.replies ++ [{ src := src, engine := h.engine, seq := h.seq, data := bs }] })).reachReply src
    (h.reply 0x83 0 bs.length) bs

/-- The whole units of an atomic as they stand after it, for its journal record (R327). -/
def State.unitsAfter (s : State) (r : Region) (o n : Nat) : List Byte :=
  (upto n).flatMap (fun i =>
    let l := r.locate (64 * (o + i))
    (s.unitBytes l.1 (l.2 / 64) r.session).getD (List.replicate 64 0))

/-- Does an ADD96 of an atomic leave its range at any stack of its units (R286, R330)? Told from a copy whose overflow counts stand at 0. -/
def State.atomicOverflows (s : State) (r : Region) (region o aop flits src : Nat) (env : MemEnv) (data : Nat → List Byte) : Bool :=
  let z := { s with mem := s.mem.mapAll (fun _ m => { m with a96Ovf := 0 }) }
  (z.applyAtomic r region o aop flits src env data).1.mem.cells.any (fun c => c.2.a96Ovf != 0)

/-- Does a gateway's reply store have no room for a returning atomic (R335)? -/
def State.repliesFull (s : State) (g : Nat) (h : ReachHdr) : Bool :=
  h.op == 3 && bitAt h.aop 7 && decide (16384 ≤ (s.net.gw.get g).replies.length)

/-- An atomic takes effect through the gate die (R285, R330): an error answers ERROR, an ADD96 that leaves its range OVERFLOW, and
neither ends an execution here. One of LENGTH 0 changes no cell; one that finds its tally's flag held or the reply store full by then is
answered BUSY (R335, R341). -/
def State.applyAtomicPkt (s : State) (g src : Nat) (h : ReachHdr) (data : List Byte) (stamp : Option Word64) (env : MemEnv) : State :=
  if s.flagBusy h || s.repliesFull g h then s.reachBusy g src h
  else match s.region h.region with
  | none => s
  | some r =>
    let ch := chunks 64 data
    let cell := fun (i : Nat) => (ch[i]?).getD []
    let n := if h.aop % 128 = 11 then ch.length / 2 else ch.length
    let a := if ch.isEmpty then (s, some []) else s.applyAtomic r h.region (h.offset / 64) h.aop (ch.length - 1) (24 + g) env cell
    let past := !ch.isEmpty && s.atomicOverflows r h.region (h.offset / 64) h.aop (ch.length - 1) (24 + g) env cell
    let t := match stamp with | some k => a.1.recordInput k 4 h.region (h.offset / 32) (a.1.unitsAfter r (h.offset / 64) n) | none => a.1
    match a.2 with
    | none => (t.reachStatus src h 4).reachDone g src h
    | some old =>
      let t := t.message g src h
      let t := if past then t.reachStatus src h 5
               else if bitAt h.aop 7 then t.atomicReply g src h old else t
      t.reachDone g src h

/-- The requests in the stamp buffers of both gateways, each with its gateway. -/
def State.stampedAll (s : State) : List (Nat × Stamped) := (upto 2).flatMap (fun g => (s.net.gw.get g).stamped.map (fun x => (g, x)))

/-- DEP stores whose lower SEQ values have all been applied take effect in turn (R329; with fuel from their number). -/
def State.applyDeps (src engine : Nat) : Nat → State → State
  | 0, s => s
  | n + 1, s =>
    let base := (s.net.wins.get (winIx src engine)).base
    match s.stampedAll.find? (fun y => y.2.dep && y.2.src == src && y.2.hdr.engine == engine && y.2.hdr.seq == base) with
    | none => s
    | some y =>
      State.applyDeps src engine n ((s.modGw y.1 (fun w => { w with stamped := w.stamped.erase y.2 })).applyStore y.1 src y.2.hdr y.2.data
        (if y.2.step = 0 then none else some y.2.step))

/-- What the base has reached takes effect. -/
def State.settleDeps (s : State) (src : Nat) (h : ReachHdr) : State := State.applyDeps src h.engine s.stampedAll.length s

/-- A request other than a store or an atomic has been dealt with; DEP stores that waited for its SEQ take effect (R329, R333). -/
def State.reachTaken (s : State) (g src : Nat) (h : ReachHdr) : State := (s.reachDone g src h).settleDeps src h

/-- A store or atomic is applied, unless a DEP store must wait for lower SEQ values (R329). -/
def State.applyOrWait (s : State) (g src : Nat) (h : ReachHdr) (data : List Byte) (stamp : Option Word64) (env : MemEnv) : State :=
  let base := (s.net.wins.get (winIx src h.engine)).base
  if h.op = 2 ∧ h.dep ∧ h.seq ≠ base then
    s.modGw g (fun w => { w with stamped := w.stamped ++ [{ src := src, hdr := h, data := data, step := stamp.getD 0, dep := true }] })
  else
    let t := if h.op = 2 then s.applyStore g src h data stamp else s.applyAtomicPkt g src h data stamp env
    t.settleDeps src h

/-- Bytes held in the stamp buffer: header and data of each request (R328, R348). -/
def Gateway.stampUsed (w : Gateway) : Nat := (w.stamped.map (fun x => 64 + x.data.length)).foldl (· + ·) 0

/-- The stamped requests of a gateway whose boundary has come, in order of arrival (R327). -/
def State.applyStampsGw (s : State) (g : Nat) : State :=
  let due := ((s.net.gw.get g).stamped.filter (fun x => !x.dep && decide (x.step.toNat ≤ s.seq.current.toNat)))
  due.foldl (fun t x => (t.modGw g (fun w => { w with stamped := w.stamped.erase x })).applyOrWait g x.src x.hdr x.data (some x.step) {}) s

/-- STAMP_APPLY: after the commit of step k − 1, before step k starts (R327). -/
def State.applyStamps (s : State) : State := (s.applyStampsGw 0).applyStampsGw 1

/-! ### Requests (R327 to R335) -/

/-- A duplicate (R335): acknowledged again and not applied twice; a load is read and answered again, a returning atomic is
answered from the reply store. -/
def State.reachDuplicate (s : State) (g src : Nat) (h : ReachHdr) (env : MemEnv) : State :=
  let t := s.modGw g (fun w => { w with duplicates := satAdd w.duplicates 1 })
  let t := t.reachAck g src h
  if h.op = 1 then
    match t.region h.region with
    | none => t
    | some r =>
      let a := t.readRegion r h.region h.offset h.length (24 + g) env false
      match a.2 with
      | some bs => a.1.reachSend src (h.reply 0x81 0 bs.length) bs
      | none => a.1.reachStatus src h 4
  else if h.op = 3 ∧ bitAt h.aop 7 then
    match ((upto 2).flatMap (fun k => (t.net.gw.get k).replies)).find? (fun r => r.src == src && r.engine == h.engine && r.seq == h.seq) with
    | some r => t.reachSend src (h.reply 0x83 0 r.data.length) r.data
    | none => t
  else t

/-- An accepted load is served on arrival (R331), and counts as a packet of its message (R340, R341). -/
def State.acceptLoad (s : State) (g src : Nat) (r : Region) (h : ReachHdr) (env : MemEnv) : State :=
  if s.flagBusy h then s.reachBusy g src h
  else
    let a := s.readRegion r h.region h.offset h.length (24 + g) env false
    let t := match a.2 with
      | some bs => (a.1.reachSend src (h.reply 0x81 0 bs.length) bs).message g src h
      | none => a.1.reachStatus src h 4
    t.reachTaken g src h

/-- An accepted store or atomic (R327, R328): a held flag, a full reply store or a full stamp buffer answers BUSY. -/
def State.acceptWrite (s : State) (g src : Nat) (r : Region) (h : ReachHdr) (data : List Byte) (env : MemEnv) : State :=
  let w := s.net.gw.get g
  if s.flagBusy h then s.reachBusy g src h
  else if s.repliesFull g h then s.reachBusy g src h
  else if h.op = 3 ∧ !aopOk h.aop (data.length / 64 - 1) then s.reachStatus src h 1
  else match s.whenApplies r h.step with
    | .late => (s.reachLate g src h).settleDeps src h
    | .now stamp => s.applyOrWait g src h data stamp env
    | .before k =>
      if 2 ^ 25 < w.stampUsed + 64 + data.length then s.reachBusy g src h
      else s.modGw g (fun w => { w with stamped := w.stamped ++ [{ src := src, hdr := h, data := data, step := k }] })

/-- Does a request of this source and SEQ wait in a stamp buffer already? -/
def State.holdsReq (s : State) (src : Nat) (h : ReachHdr) : Bool :=
  s.stampedAll.any (fun y => y.2.src == src && y.2.hdr.engine == h.engine && y.2.hdr.seq == h.seq)

/-- A request addressed to this package: acceptance, sequence state, then its operation. -/
def State.reachRequest (s : State) (g src : Nat) (h : ReachHdr) (data : List Byte) (env : MemEnv) : State :=
  match s.reachRegion h with
  | none => s.refuseReach g src h
  | some r =>
    let w := s.net.wins.get (winIx src h.engine)
    if w.beyond h.seq then s.modGw g (fun x => { x with duplicates := satAdd x.duplicates 1 })
    else if w.has h.seq then s.reachDuplicate g src h env
    else if s.holdsReq src h then s.modGw g (fun x => { x with duplicates := satAdd x.duplicates 1 })
    else if h.op = 1 then s.acceptLoad g src r h env
    else s.acceptWrite g src r h data env

/-! ### Requests in passing (R344, R345) -/

/-- Two requests are identical (R345). -/
def sameRequest (dst1 dst2 : Nat) (a b : ReachHdr) : Bool :=
  dst1 == dst2 && a.op == b.op && a.region == b.region && a.offset == b.offset && a.length == b.length && a.key == b.key &&
  a.step == b.step && a.aop == b.aop

/-- May a passing request be combined: a load, or an atomic of an operation that combines, without DEP, FLAG, message or return
(R344, R345)? -/
def ReachHdr.combines (h : ReachHdr) : Bool :=
  !h.flag && !h.dep && !h.tally.getLsbD 31 &&
  (h.op == 1 || (h.op == 3 && (decide (1 ≤ h.aop ∧ h.aop ≤ 9) || h.aop == 12)))

/-- The operands of two identical atomics combined cell by cell; none where an ADD96 sum leaves its range (R345). -/
def combineData (aop : Nat) (a b : List Byte) : Option (List Byte) :=
  let w := cellBytes aop
  let cs := (cellsOf w a).zip (cellsOf w b)
  let rs := cs.map (fun c => aopCell aop c.1 c.2 0)
  if rs.all Option.isSome then some (rs.flatMap (fun r => leBytes w (r.getD 0))) else none

/-- Forward a packet by the route in force. -/
def State.forwardReach (s : State) (dst : Nat) (h : ReachHdr) (data : List Byte) : State := s.sendTo dst 7 (h.bytes ++ data)

/-- The header of a combined request: the gateway's own SEQ, ENGINE 0xFF and COMBINED (R345). -/
def combinedHdr (h : ReachHdr) (seq : Word) : ReachHdr := { h with engine := 0xFF, seq := seq, flags := h.flags ||| 8 }

/-- Send a combined request with the gateway's own sequence number; the number. -/
def State.sendCombined (s : State) (g dst : Nat) (h : ReachHdr) (data : List Byte) : State × Word :=
  let q := (s.net.gw.get g).combineSeq.get dst
  ((s.modGw g (fun w => { w with combineSeq := w.combineSeq.set dst (q + 1) })).forwardReach dst (combinedHdr h q) data, q)

/-- Does an entry still take identical requests (R345): a LOAD within 2 µs of the first, an ATOMIC that has not left? -/
def Combining.open_ (c : Combining) : Bool := if c.hdr.op = 1 then !c.closed else c.sent.isNone

/-- A request addressed to another package is forwarded, or combined with an identical one that waits (R344, R345). -/
def State.passReach (s : State) (g src dst : Nat) (h : ReachHdr) (data : List Byte) : State :=
  if h.combines then
    match (s.net.gw.get g).combining.find? (fun c => c.open_ && sameRequest c.dst dst c.hdr h && (h.op == 1 || (combineData h.aop c.data data).isSome)) with
    | some c =>
      let n := if c.origs.length = 1 then 2 else 1
      s.modGw g (fun w => { w with
        combined := satAdd w.combined n,
        combining := w.combining.map (fun x => if x = c then
          { x with origs := x.origs ++ [(src, h.engine, h.seq)],
                   data := if h.op = 1 then x.data else (combineData h.aop x.data data).getD x.data } else x) })
    | none =>
      let a := if h.op = 1 then (let r := s.sendCombined g dst h data; (r.1, some r.2)) else (s, none)
      a.1.modGw g (fun w => { w with combining := w.combining ++ [{ hdr := h, dst := dst, data := data, origs := [(src, h.engine, h.seq)], sent := a.2 }] })
  else s.forwardReach dst h data

/-- COMBINE_WINDOW_END (R345): 2 µs after the first, an atomic goes out, as it came where it stayed alone; a load takes no more. -/
def execCombineWindowEnd (g : Fin 2) (dst : Fin 2048) (region : Nat) (offset : Nat) (s : State) : Res :=
  match (s.net.gw.get g.val).combining.find? (fun c => c.dst == dst.val && c.hdr.region == region && c.hdr.offset == offset && c.open_) with
  | none => .next s
  | some c =>
    if c.hdr.op = 1 then
      .next (s.modGw g.val (fun w => { w with combining := w.combining.map (fun x => if x = c then { x with closed := true } else x) }))
    else
    let drop := fun (t : State) => t.modGw g.val (fun w => { w with combining := w.combining.erase c })
    if c.origs.length ≤ 1 then .next ((drop s).forwardReach c.dst c.hdr c.data)
    else
      let a := s.sendCombined g.val c.dst c.hdr c.data
      .next (a.1.modGw g.val (fun w => { w with combining := w.combining.map (fun x => if x = c then { x with sent := some a.2 } else x) }))

/-- REACH_LOAD (R326, R327, R331, R335, R345). -/
def execReachLoad (p : ReachIn) (env : MemEnv) (s : State) : Res :=
  let a := s.reachGate p false true
  .next (if !a.1 then a.2
    else if p.dst.val = a.2.ownIndex then a.2.reachRequest p.gw p.src.val (p.hdr 1) [] env
    else a.2.passReach p.gw p.src.val p.dst.val (p.hdr 1) [])

/-- REACH_STORE (R326 to R329, R335, R340). -/
def execReachStore (p : ReachIn) (s : State) : Res :=
  let a := s.reachGate p true true
  .next (if !a.1 then a.2
    else if p.dst.val = a.2.ownIndex then a.2.reachRequest p.gw p.src.val (p.hdr 2) p.data {}
    else a.2.forwardReach p.dst.val (p.hdr 2) p.data)

/-- REACH_ATOMIC (R285, R326 to R330, R335, R345). -/
def execReachAtomic (p : ReachIn) (env : MemEnv) (s : State) : Res :=
  let a := s.reachGate p true true
  .next (if !a.1 then a.2
    else if p.dst.val = a.2.ownIndex then a.2.reachRequest p.gw p.src.val (p.hdr 3) p.data env
    else a.2.passReach p.gw p.src.val p.dst.val (p.hdr 3) p.data)

/-- REFUSED_REPLY (R326): 2 µs after the request the STATUS REFUSED leaves; the first in each second is raised (R350). -/
def execRefusedReply (g : Fin 2) (s : State) : Res :=
  match (s.net.gw.get g.val).refusals with
  | [] => .next s
  | (src, h) :: rest =>
    let t := (s.modGw g.val (fun w => { w with refusals := rest })).reachStatus src h 1
    .next (if (s.net.gw.get g.val).refusedSec = some s.second then t
      else (t.modGw g.val (fun w => { w with refusedSec := some s.second })).raise 0x5010 (24 + g.val) h.engine (leBytes 2 src ++ leBytes 4 h.seq.toNat))

/-- FENCE_TIMEOUT (R322, R342): a flag still held past FENCE_US sends FETCH_MISSING with the message's bitmap in the layout of R334; the first
of each message is raised. -/
def execFenceTimeout (g : Fin 2) (plaza : PlazaNo) (index : BitVec 16) (s : State) : Res :=
  match (s.net.gw.get g.val).heldFlags.find? (fun f => f.plaza == plaza.val && f.index == index.toNat) with
  | none => .next s
  | some f =>
    if (s.tally plaza.val index.toNat).held then
      let first := f.seq - BitVec.ofNat 32 f.count + 1
      let win := s.net.wins.get (winIx f.src f.engine)
      let bits := leBytes 512 (packN 1 (fun i => b2n (decide (i < f.count) && win.has (first + BitVec.ofNat 32 i))) 4096)
      let h : ReachHdr := { op := 0x84, engine := f.engine, seq := first, count := f.count, length := 512, region := f.region, offset := f.offset, msg := f.msg }
      let t := s.reachSend f.src h bits
      let t := t.modGw g.val (fun w => { w with fenceTimeouts := satAdd w.fenceTimeouts 1,
                                                heldFlags := w.heldFlags.map (fun x => if x = f then { x with raised := true } else x) })
      .next (if f.raised then t else t.raise 0x5012 (24 + g.val) f.engine (leBytes 2 f.src ++ leBytes 4 f.seq.toNat))
    else .next s

/-- REPLY_STORE_EXPIRY (R335): a stored reply leaves the store 10 ms after it was written. -/
def execReplyStoreExpiry (g : Fin 2) (src : Fin 2048) (engine : BitVec 8) (seq : BitVec 32) (s : State) : Res :=
  .next (s.modGw g.val (fun w => { w with replies := w.replies.filter (fun r => !(r.src == src.val && r.engine == engine.toNat && r.seq == seq)) }))

end Sys2Proof.Machine
end

