-- ==== Sys2Proof/Machine/ReachSrc.lean ====
section
/-! DEFINITION. Reach at the source: engines, their operation lists, request slots, replies and resends (R316 to R319, R332 to
R336, R339, R345). -/
namespace Sys2Proof.Machine

/-! ### Slots (R316) -/

/-- RET of a header's AOP (R318). -/
def ReachHdr.ret (h : ReachHdr) : Bool := bitAt h.aop 7

/-- The request slots that an engine holds. -/
def Gateway.held (w : Gateway) (engine : Nat) : Nat := (w.slots.filter (fun r => r.engine == engine)).length

/-- Send a request for the first time: it takes a slot and counts (R316, R348). -/
def State.firstSend (s : State) (r : ReachReq) : State :=
  (s.modGw (r.engine / 16) (fun w => { w with slots := w.slots ++ [r], sent := w.sent.set (r.engine % 16) (satAdd (w.sent.get (r.engine % 16)) 1) })).sendTo
    r.peer 2 (r.hdr.bytes ++ r.data)

/-- A new request is sent where its engine has a free slot and nothing waits before it; otherwise it waits (R316). -/
def State.newReq (s : State) (r : ReachReq) : State :=
  let w := s.net.gw.get (r.engine / 16)
  if w.held r.engine < 512 && !w.queue.any (fun x => x.engine == r.engine) then s.firstSend r
  else s.modGw (r.engine / 16) (fun w => { w with queue := w.queue ++ [r] })

/-- Waiting requests of an engine are sent while slots are free (with fuel from their number). -/
def State.fillSlots (engine : Nat) : Nat → State → State
  | 0, s => s
  | n + 1, s =>
    let w := s.net.gw.get (engine / 16)
    match w.queue.find? (fun x => x.engine == engine) with
    | none => s
    | some r =>
      if w.held engine < 512 then
        State.fillSlots engine n ((s.modGw (engine / 16) (fun w => { w with queue := w.queue.erase r })).firstSend r)
      else s

/-! ### Issue (R319, R329, R339) -/

/-- Data bytes of one packet of an operation (R319). -/
def ReachOp.packetBytes (o : ReachOp) : Nat := if o.op = 3 ∧ bitAt o.aop 7 then 512 else 8192

/-- Bytes of the target region that packet bytes of an operand cover: a CAS carries pairs (R285, R322). -/
def ReachOp.targetBytes (o : ReachOp) (n : Nat) : Nat := if o.op = 3 ∧ o.aop % 128 = 11 then n / 2 else n

/-- Does a store overlap an earlier one of its engine to the same target and region that is not acknowledged (R329)? -/
def Gateway.overlaps (w : Gateway) (o : ReachOp) (offset len : Nat) : Bool :=
  (w.slots ++ w.queue).any (fun x => x.engine == o.engine && x.peer == o.peer && x.hdr.op == 2 && x.hdr.region == o.rregion &&
    decide (offset < x.hdr.offset + x.hdr.length) && decide (x.hdr.offset < offset + len))

/-- Packet `i` of an operation of `n` packets whose first SEQ is `seq` and first message number `msg` (R319, R321, R339). -/
def State.opPacket (s : State) (o : ReachOp) (n i : Nat) (seq msg : Word) (data : List Byte) : ReachReq :=
  let pos := i * o.packetBytes
  let len := min o.packetBytes (o.length - pos)
  let off := o.roffset + o.targetBytes pos
  let tagged := o.tally.getLsbD 31
  let last := tagged && (i + 1 == n || i % 4096 == 4095)
  let dep := o.op == 2 && (s.net.gw.get (o.engine / 16)).overlaps o off len
  let domain := (s.img.image.bind (fun im => im.domain)).isSome
  { engine := o.engine, peer := o.peer,
    hdr := { op := o.op, flags := BitVec.ofNat 16 (b2n last + 2 * b2n dep), engine := o.engine, aop := o.aop,
             hflag := if tagged then BitVec.ofNat 4 o.hflag else 0, seq := seq + BitVec.ofNat 32 i, length := len, region := o.rregion,
             offset := off, key := o.key, step := if domain && o.op != 1 then s.seq.current + 1 else 0,
             msg := if tagged then msg + BitVec.ofNat 32 (i / 4096) else 0, count := if last then i % 4096 + 1 else 0, tally := o.tally },
    data := if o.op = 1 then [] else (data.drop pos).take len, lregion := o.lregion, loffset := o.loffset + pos, done := o.done,
    opSeq := seq, step := s.seq.current }

/-- An engine issues one operation entry (R319). A store or an atomic whose operands cannot be read is not sent (log 20). -/
def State.issueOp (s : State) (o : ReachOp) : State :=
  let g := o.engine / 16
  let a : State × Option (List Byte) :=
    if o.op = 1 then (s, some [])
    else match s.region (s.copyOf o.lregion) with
      | none => (s, none)
      | some r => s.readRegion r (s.copyOf o.lregion) o.loffset o.length (24 + g) {} false
  match a.2 with
  | none => a.1
  | some data =>
    let n := cdiv o.length o.packetBytes
    let key := o.engine * 2048 + o.peer
    let seq := (a.1.net.gw.get g).nextSeq.get key
    let msg := (a.1.net.gw.get g).nextMsg.get o.engine
    let t := a.1.modGw g (fun w => { w with
      nextSeq := w.nextSeq.set key (seq + BitVec.ofNat 32 n),
      nextMsg := if o.tally.getLsbD 31 then w.nextMsg.set o.engine (msg + BitVec.ofNat 32 (cdiv n 4096)) else w.nextMsg })
    (upto n).foldl (fun t i => t.newReq (t.opPacket o n i seq msg data)) t

/-- REACH_ISSUE: every engine issues its entries of the step kind for a trigger, in entry order (R319). In replay the stores and
atomics are discarded and counted (R183). -/
def State.issueReach (s : State) (trigger : Nat) : State :=
  match s.img.image with
  | none => s
  | some im =>
    let mine := im.reachOps.filter (fun o => o.trigger == trigger && o.kind == im.kindOf s.seq.current.toNat)
    let ops := (upto 32).flatMap (fun e => mine.filter (fun o => o.engine == e))
    if trigger = 1 ∧ s.seq.replay then s.replayDrop ops.length else ops.foldl State.issueOp s

/-- Have the replies of every load arrived (R161, R319)? -/
def State.loadsDone (s : State) : Bool :=
  (upto 2).all (fun g => !((s.net.gw.get g).slots ++ (s.net.gw.get g).queue).any (fun r => r.hdr.op == 1))

/-- Has every store and atomic been acknowledged (R328)? -/
def State.storesDone (s : State) : Bool :=
  (upto 2).all (fun g => !((s.net.gw.get g).slots ++ (s.net.gw.get g).queue).any (fun r => r.hdr.op != 1))

/-! ### Completion (R316, R318) -/

/-- A request completes: its slot frees, DONE gains 1 with the operation's last request, and a waiting request is sent. -/
def State.reachComplete (s : State) (r : ReachReq) : State :=
  let g := r.engine / 16
  let t := s.modGw g (fun w => { w with slots := w.slots.erase r })
  let w := t.net.gw.get g
  let more := (w.slots ++ w.queue).any (fun x => x.engine == r.engine && x.peer == r.peer && x.opSeq == r.opSeq && x.hdr.op == r.hdr.op)
  let t := if r.done.getLsbD 31 && !more then t.modTally (24 + g) (bitsOf r.done.toNat 0 16) (fun y => { y with value := y.value + 1 }) else t
  State.fillSlots r.engine w.queue.length t

/-- The slot that a reply names: its engine, its sender and its SEQ. -/
def State.slotOf (s : State) (p : ReachIn) : Option ReachReq :=
  if p.engine.toNat < 32 then
    (s.net.gw.get (p.engine.toNat / 16)).slots.find? (fun r => r.engine == p.engine.toNat && r.peer == p.src.val && r.hdr.seq == p.seq)
  else none

/-! ### Resends (R336) -/

/-- Send a request again: the same header with RESENT set, by the route in force, and counted, while the ports carry traffic (R313). -/
def State.resendReach (s : State) (r : ReachReq) : State :=
  if !s.netOpen then s
  else
  let x := { r with hdr := r.hdr.resent }
  (s.modGw (r.engine / 16) (fun w => { w with
    slots := w.slots.map (fun y => if y = r then x else y),
    resent := w.resent.set (r.engine % 16) (satAdd (w.resent.get (r.engine % 16)) 1) })).sendTo r.peer 2 (x.hdr.bytes ++ x.data)

/-- A reroute: each request to the destination that is not complete is sent again at once. -/
def State.resendAll (s : State) (dest : Nat) : State :=
  ((upto 2).flatMap (fun g => (s.net.gw.get g).slots.filter (fun r => r.peer == dest))).foldl State.resendReach s

/-- REACH_RESEND_TIMER (R336): a request whose acknowledgement or reply is out, or that met BUSY, is sent again. -/
def execReachResendTimer (engine : Fin 32) (peer : Fin 2048) (seq : BitVec 32) (s : State) : Res :=
  match (s.net.gw.get (engine.val / 16)).slots.find? (fun r => r.engine == engine.val && r.peer == peer.val && r.hdr.seq == seq) with
  | some r => .next (s.resendReach r)
  | none => .next s

/-! ### Replies to combined requests (R345) -/

/-- The combined requests of the gateways that a test picks: gateway and entry. -/
def State.combinedOf (s : State) (test : Combining → Bool) : List (Nat × Combining) :=
  (upto 2).flatMap (fun g => ((s.net.gw.get g).combining.filter test).map (fun c => (g, c)))

/-- Each original receives the answer of the combined request with its own SEQ; the entry leaves where `drop` says so. -/
def State.relay (s : State) (g : Nat) (c : Combining) (drop : Bool) (h : ReachHdr) (data : List Byte) : State :=
  let t := c.origs.foldl (fun t (o : Nat × Nat × Word) => t.sendTo o.1 2 ({ h with engine := o.2.1, seq := o.2.2 }.bytes ++ data)) s
  if drop then t.modGw g (fun w => { w with combining := w.combining.erase c }) else t

/-- Does an answer with ENGINE 0xFF answer a combined request with its SEQ? -/
def answersCombined (p : ReachIn) (c : Combining) : Bool := c.dst == p.src.val && c.sent == some p.seq

/-! ### Replies at the source (R319, R324, R332, R334, R336) -/

/-- Does an ACK cover a SEQ (R334)? One of a combined request covers the SEQ that it names (R345, log 21). -/
def ackCovers (p : ReachIn) (q : Word) : Bool :=
  let d := (q - p.seq).toNat
  if p.flags.getLsbD 3 then d == 0 else decide (2 ^ 31 ≤ d) || (decide (d < 4096) && bitAt (leVal p.data) d)

/-- A reply on its way: to another package it is forwarded (R344). -/
def State.replyIn (s : State) (p : ReachIn) (op : Nat) (f : State → State) : State :=
  let a := s.reachGate p true false
  if !a.1 then a.2
  else if p.dst.val = a.2.ownIndex then f a.2
  else a.2.forwardReach p.dst.val (p.hdr op) p.data

/-- LOAD_REPLY (R316, R319): the data goes into LREGION and the slot frees. -/
def execLoadReply (p : ReachIn) (s : State) : Res :=
  .next (s.replyIn p 0x81 (fun s =>
    if p.engine = 0xFF then
      match s.combinedOf (fun c => answersCombined p c && c.hdr.op == 1) with
      | [] => s.badPacket p.gw
      | cs => cs.foldl (fun t c => t.relay c.1 c.2 true (p.hdr 0x81) p.data) s
    else match s.slotOf p with
      | some r =>
        if r.hdr.op = 1 ∧ p.data.length = r.hdr.length then
          let t := match s.region r.lregion with
            | some reg => (s.writeRegion reg r.lregion r.loffset p.data).1
            | none => s
          t.reachComplete r
        else s.badPacket p.gw
      | none => s.badPacket p.gw))

/-- REACH_ACK (R316, R334): every store and non-returning atomic that it covers completes; an ACK of complete ones changes
nothing. -/
def execReachAck (p : ReachIn) (s : State) : Res :=
  .next (s.replyIn p 0x82 (fun s =>
    if p.engine = 0xFF then
      (s.combinedOf (fun c => c.dst == p.src.val && (match c.sent with | some q => ackCovers p q | none => false))).foldl
        (fun t c => t.relay c.1 c.2 (c.2.hdr.op == 3) { p.hdr 0x82 with flags := p.flags ||| 8, length := 0 } []) s
    else if p.engine.toNat < 32 then
      ((s.net.gw.get (p.engine.toNat / 16)).slots.filter (fun r => r.engine == p.engine.toNat && r.peer == p.src.val && r.hdr.op != 1 &&
        !(r.hdr.op == 3 && r.hdr.ret) && ackCovers p r.hdr.seq)).foldl State.reachComplete s
    else s.badPacket p.gw))

/-- ATOMIC_REPLY (R316): a returning atomic completes; no rule stores the old values (log 22). -/
def execAtomicReply (p : ReachIn) (s : State) : Res :=
  .next (s.replyIn p 0x83 (fun s =>
    match s.slotOf p with
    | some r => if r.hdr.op = 3 ∧ r.hdr.ret then s.reachComplete r else s.badPacket p.gw
    | none => s.badPacket p.gw))

/-- FETCH_MISSING (R336, R342): each packet of the message that it shows missing is sent again at once. -/
def execFetchMissing (p : ReachIn) (s : State) : Res :=
  .next (s.replyIn p 0x84 (fun s =>
    if p.engine.toNat < 32 then
      let mine := (s.net.gw.get (p.engine.toNat / 16)).slots.filter (fun r => r.engine == p.engine.toNat && r.peer == p.src.val &&
        decide ((r.hdr.seq - p.seq).toNat < p.count.toNat))
      if mine.isEmpty then s.badPacket p.gw
      else (mine.filter (fun r => !bitAt (leVal p.data) (r.hdr.seq - p.seq).toNat)).foldl State.resendReach s
    else s.badPacket p.gw))

/-- A load of the running step was refused: the step fails (R66, R332). -/
def State.loadRefused (s : State) (r : ReachReq) : State :=
  let t := s.raise 0x5013 (24 + r.engine / 16) r.engine (leBytes 2 r.peer ++ leBytes 4 r.hdr.seq.toNat)
  if t.executing && r.step == t.seq.current then t.modExe (fun e => { e with failed := true }) else t

/-- REACH_STATUS (R316, R332, R336): BUSY waits for its resend; a load or a returning atomic completes, and a load refused or in
error fails or recovers its step; a store or a non-returning atomic goes on waiting for its ACK. -/
def execReachStatus (p : ReachIn) (s : State) : Res :=
  .next (s.replyIn p 0x85 (fun s =>
    if p.engine = 0xFF then
      match s.combinedOf (answersCombined p) with
      | [] => s.badPacket p.gw
      | cs => cs.foldl (fun t c => t.relay c.1 c.2 (c.2.hdr.op == 1 || p.status == 1 || p.status == 2) (p.hdr 0x85) []) s
    else match s.slotOf p with
      | none => s.badPacket p.gw
      | some r =>
        if p.status = 2 then s
        else if r.hdr.op = 1 then
          let t := s.reachComplete r
          if p.status = 1 then t.loadRefused r
          else if p.status = 4 ∧ r.step = t.seq.current then t.hwFault .reachError
          else t
        else if r.hdr.op = 3 ∧ r.hdr.ret then s.reachComplete r
        else s))

end Sys2Proof.Machine
end

