-- ==== Sys2Proof/Machine/HostCmd.lean ====
section
/-! DEFINITION. The command block: how a command is checked, begins and ends (R364 to R369), and non-volatile writes (R440). -/
namespace Sys2Proof.Machine

/-- Argument `i` of a command; a missing word reads 0. -/
def argAt (args : List Word) (i : Nat) : Nat := ((args[i]?).getD 0).toNat
/-- A 64-bit argument in words `i` and `i + 1`. -/
def argPair (args : List Word) (i : Nat) : Nat := argAt args i + 2 ^ 32 * argAt args (i + 1)
/-- Are the arguments from `i` on zero (R367)? -/
def argsZeroFrom (args : List Word) (i : Nat) : Bool := (args.drop i).all (fun w => w == 0)

/-- What the checks of R367 find of one command: its ACCEPT mask, a malformed argument, a refusal of R366 beside the state, an
argument that the state of the package makes bad, and missing authority or leave. -/
structure CmdCheck where
  /-- ACCEPT mask (R369) -/
  accept : Nat := 0
  /-- fault that the arguments show by themselves -/
  bad : Bool := false
  /-- refused in a state that the mask includes (R366) -/
  refused : Bool := false
  /-- fault that depends on the state of the package -/
  badNow : Bool := false
  /-- no authority or leave -/
  noAuth : Bool := false
deriving DecidableEq, Repr

/-- Do two paths differ (R365)? -/
def CmdPath.isHost : CmdPath → Bool
  | .host => true
  | _ => false

/-- A command that passed its checks begins: it is the one that runs, and a host command sets BUSY and clears DONE (R364). -/
def State.beginCmd (s : State) (c : RunningCmd) : State :=
  if c.path.isHost then { s with host := { s.host with running := some c, busy := true, done := false } }
  else { s with host := { s.host with running := some c } }

/-- A command is checked in the order of R367 and refused with the first failure and no side effect; otherwise it runs. -/
def State.command (s : State) (c : RunningCmd) (k : CmdCheck) (run : State → State) : State :=
  let c := { c with accept := k.accept }
  if k.bad then s.answerCmd c .badArgument false false []
  else match s.host.running with
    | some d => (s.countRefusal c.opcode).answerCmd c .stateRefused false (c.path.isHost != d.path.isHost) []
    | none =>
      if !bitAt k.accept s.top.state.code || k.refused then (s.countRefusal c.opcode).answerCmd c .stateRefused false false []
      else if k.badNow then s.answerCmd c .badArgument false false []
      else if k.noAuth then s.answerCmd c .authFailed false false []
      else run (s.beginCmd c)

/-- A host request reaches the package: the function is ready and the link is up (R352, R353). -/
def State.hostReaches (s : State) : Bool := s.host.ready && s.host.linkUp

/-- A host command: CMD_OPCODE and CMD_ARG0 to CMD_ARG11 are written, then CMD_GO. While BUSY is 1 the writes are ignored and
the write of CMD_GO is counted (R364). -/
def State.hostCommand (s : State) (opcode : Nat) (args : List Word) (f : State → RunningCmd → State) : State :=
  if !s.hostReaches then s
  else if s.host.busy then { s with host := { s.host with overrun := satAdd s.host.overrun 1 } }
  else
    let a := (args ++ List.replicate 12 0).take 12
    f { s with host := { s.host with opcode := BitVec.ofNat 32 opcode, args := Tbl.setRun {} 0 a } } { opcode := opcode, args := a }

/-! ### Non-volatile writes (R440) -/

/-- A refused non-volatile write is counted, and raised once per minute (R440). -/
def State.nvRefuse (s : State) : State :=
  let t := { s with pp := { s.pp with nvBlocked := satAdd s.pp.nvBlocked 1 } }
  if s.pp.nvMinute = some s.minute then t
  else { t with pp := { t.pp with nvMinute := some s.minute } }.raise 0xA006 26 0 []

/-- A non-volatile write starts (R440). -/
def State.nvStart (s : State) (w : NvWrite) : State := { s with top := { s.top with nv := s.top.nv ++ [w] } }

end Sys2Proof.Machine
end

