-- ==== Sys2Proof/Machine/HostLink.lean ====
section
/-! DEFINITION. The PCI Express function: readiness, resets of the function, the link, D3hot, IDE keys (R352 to R354, R378, R491). -/
namespace Sys2Proof.Machine

/-- The configuration of the function (R351): the Subsystem ID names the grade. -/
def State.pciFunction (s : State) : PciFunction := { subsystem := if bitsOf s.top.identity.toNat 24 4 = 2 then 0x000B else 0x000A }

/-- The function and the HOSTIF registers marked RW are reset; everything else stays (R353). -/
def HostIf.functionReset (h : HostIf) : HostIf :=
  { h with opcode := 0, args := {}, refuseCount := 0, bar2Target := 0, bar2Offset := 0, windowWaitUs := 0, windowSel := 0, msix := {}, pba := 0,
           d3hot := false, ideLink := false, ideSel := 0, ideKeys := {} }

/-- Pulls and pushes that were under way start again, each at its next poll (R353, R363). -/
def HostIf.haltWindows (h : HostIf) : HostIf := { h with windows := h.windows.mapAll (fun _ w => { w with moving := false }) }

/-- The host link goes down (R353): the function is reset, and a link that was up is raised, but not in PARK (R378). -/
def State.linkDown (s : State) : State :=
  let t := { s with host := { s.host.functionReset.haltWindows with
    linkUp := false, linkFlit := false, linkWidth := 0, linkRate := 0, linkLost := s.host.linkLost || s.host.linkUp } }
  if s.host.linkUp && !s.top.parking then t.raise 0x6001 24 0 [] else t

/-- The host port is powered: main rails on, and phase 2 of a bring-up over (R352, R489, R491). -/
def State.hostPort (s : State) : Bool :=
  s.top.aon && !s.top.pkgRst && s.top.state != .off && s.top.state != .parked && (s.top.state != .bringup || decide (3 ≤ s.top.phase)) &&
  !(s.top.plazaReset.map (fun r => r.plaza) == some 24)

/-- PERST_ASSERT (R353): only the function and the RW registers of HOSTIF are reset. -/
def execPerstAssert (s : State) : Res :=
  let t := s.linkDown
  .next { t with host := { t.host with perstHigh := false, ready := false } }

/-- UNPARK begins: phases 2 to 9 of R489 with the firmware already running (R491). -/
def State.unparkBegin (s : State) : State :=
  { s with top := { s.top with state := .bringup, phase := 2, phase3 := false, phase4 := false, unparking := true, parking := false } }

/-- PERST_DEASSERT (R352, R369, R491): the function may become ready; in PARKED it has the effect of UNPARK. -/
def execPerstDeassert (s : State) : Res :=
  let t := { s with host := { s.host with perstHigh := true } }
  .next (if s.top.state = .parked ∧ s.host.perstHigh = false ∧ s.host.running.isNone then t.unparkBegin else t)

/-- FUNCTION_READY (R352): configuration requests are served. -/
def execFunctionReady (s : State) : Res :=
  .next (if s.host.perstHigh && s.hostPort then State.flushWords { s with host := { s.host with ready := true } } else s)

/-- PCIE_LINK_DOWN (R353). -/
def execPcieLinkDown (s : State) : Res := .next s.linkDown

/-- PCIE_LINK_UP (R377, R378): the link has trained; a training after a link-down is raised, and pending vectors are sent. -/
def execPcieLinkUp (flit : Bool) (width rate : BitVec 4) (s : State) : Res :=
  if s.host.perstHigh && s.hostPort && !s.host.linkUp then
    let t := { s with host := { s.host with linkUp := true, linkFlit := flit, linkWidth := width, linkRate := rate, linkLost := false } }
    let t := if s.host.linkLost then t.raise 0x6002 24 0 [] else t
    .next t.flushWords.flushMsix
  else .next s

/-- PCIE_HOT_RESET (R353): the function and the RW registers of HOSTIF are reset. -/
def execPcieHotReset (s : State) : Res := .next { s with host := s.host.functionReset.haltWindows }

/-- D3HOT_ENTRY (R353): the function sends no request of its own. -/
def execD3hotEntry (s : State) : Res := .next (if s.host.ready then { s with host := { s.host.haltWindows with d3hot := true } } else s)

/-- D3HOT_EXIT (R353): the function's requests go on. -/
def execD3hotExit (s : State) : Res := .next (State.flushMsix (State.flushWords { s with host := { s.host with d3hot := false } }))

/-- IDE_KM (R354, R445): keys of the link stream (0) or of a selective stream (1 to 4) are generated inside the package. -/
def execIdeKm (stream : Fin 5) (s : State) : Res :=
  if s.host.linkUp && !s.sec.trngFailed then
    let n := stream.val
    .next { s with
      host := { s.host with
        ideLink := s.host.ideLink || decide (n = 0), ideSel := if n = 0 then s.host.ideSel else s.host.ideSel ||| BitVec.ofNat 4 (2 ^ (n - 1)),
        ideKeys := s.host.ideKeys.set n s.sec.draws },
      sec := { s.sec with draws := s.sec.draws + 1 } }
  else .next s

end Sys2Proof.Machine
end

