-- ==== Sys2Proof/Machine/Bundle.lean ====
section
/-! DEFINITION. The bundle: its seven slots and the slot commands that they spell (R99, R104, R108, R112, R115 to R118, R120,
R129, R132, R133, R137). -/
namespace Sys2Proof.Machine

/-! ### Fields -/

/-- Bits of a bundle by R99's numbering. -/
def bun (b : Bundle) (lo n : Nat) : Nat := bitsOf b.toNat lo n
/-- A field as an index of n things; the field is never wider. -/
def finOf (n : Nat) (h : 0 < n) (x : Nat) : Fin n := ⟨x % n, Nat.mod_lt _ h⟩

/-- ROW: OP and its fields (R108). -/
def rowCode (b : Bundle) : Nat := bun b 37 3
def rowArgs (b : Bundle) : RowArgs :=
  { w96 := bun b 36 1 == 1, idx := finOf 4 (by decide) (bun b 34 2), buf := finOf 8 (by decide) (bun b 31 3),
    bank := finOf 16 (by decide) (bun b 27 4), part := finOf 8 (by decide) (bun b 24 3), fpair := BitVec.ofNat 5 (bun b 19 5),
    addr := BitVec.ofNat 12 (bun b 0 12) }

/-- ARR: OP and its fields (R112). -/
def arrCode (b : Bundle) : Nat := bun b 68 4
def arrArgs (b : Bundle) : ArrArgs :=
  { bank := finOf 16 (by decide) (bun b 64 4), dbuf := finOf 8 (by decide) (bun b 61 3), sbuf := finOf 8 (by decide) (bun b 58 3),
    ofs := BitVec.ofNat 6 (bun b 52 6), sofs := BitVec.ofNat 9 (bun b 43 9), a32 := bun b 42 1 == 1, idx := finOf 4 (by decide) (bun b 40 2) }

/-- ACC: OP, SRC and its fields (R115). -/
def accCode (b : Bundle) : Nat := bun b 116 4
def accSrcCode (b : Bundle) : Nat := bun b 114 2
def accArgs (b : Bundle) : AccArgs :=
  { src := match accSrcCode b with | 0 => .accs | 1 => .lanes | _ => .snap,
    clr := bun b 113 1 == 1, buf := finOf 8 (by decide) (bun b 110 3), sbuf := finOf 8 (by decide) (bun b 107 3),
    part := finOf 4 (by decide) (bun b 105 2), pos := BitVec.ofNat 6 (bun b 99 6), spos := BitVec.ofNat 9 (bun b 90 9),
    rqe := finOf 64 (by decide) (bun b 84 6), desc := finOf 256 (by decide) (bun b 76 8) }

/-- VEC: the fields of VOP, and the others (R117, R129). -/
def vecOp (b : Bundle) : Nat := bun b 163 5
def vecCtl (b : Bundle) : Bool := bun b 160 2 == 3
def vecArgs (b : Bundle) : VecArgs :=
  { w := finOf 3 (by decide) (bun b 160 2), s := bun b 162 1 == 1, pred := finOf 8 (by decide) (bun b 157 3),
    a := BitVec.ofNat 12 (bun b 145 12), b := BitVec.ofNat 12 (bun b 133 12), d := BitVec.ofNat 12 (bun b 121 12) }

/-- ST: OP and its fields (R118). -/
def stCode (b : Bundle) : Nat := bun b 189 3
def stArgs (b : Bundle) : StArgs :=
  { buf := finOf 8 (by decide) (bun b 186 3), lslot := finOf 16 (by decide) (bun b 182 4), xfer := finOf 1024 (by decide) (bun b 172 10) }

/-- SYN: OP and its fields (R120). -/
def synCode (b : Bundle) : Nat := bun b 221 3
def synArgs (b : Bundle) : SynArgs :=
  { plaza := finOf 32 (by decide) (bun b 216 5), index := BitVec.ofNat 16 (bun b 200 16), arg := BitVec.ofNat 8 (bun b 192 8) }

/-- CTL: OP and its fields (R104); the LC code 0b11 is reserved. -/
def ctlCode (b : Bundle) : Nat := bun b 253 3
def ctlLc (b : Bundle) : Nat := bun b 251 2
def loopArgs (b : Bundle) : LoopArgs :=
  { lc := finOf 3 (by decide) (ctlLc b), stop := BitVec.ofNat 12 (bun b 239 12), trips := BitVec.ofNat 9 (bun b 230 9),
    stride := BitVec.ofNat 6 (bun b 224 6) }

/-! ### The commands of the slots -/

/-- The command of the ROW slot; the bond answers as the environment says. -/
def rowInstr (p : PodRef) (env : RowEnv) (b : Bundle) : List Instr :=
  let a := rowArgs b
  match rowCode b with
  | 1 => [.rowRead p a env]
  | 2 => [.rowWrite p a env]
  | 3 => [.loadw p a env]
  | 4 => [.loads p a env]
  | 5 => [.loadc p a env]
  | 6 => [.rowZero p a env]
  | _ => []

/-- The command of the ARR slot. -/
def arrInstr (p : PodRef) (b : Bundle) : List Instr := if arrCode b = 1 then [.stream p (arrArgs b)] else []

/-- The command of the ACC slot. -/
def accInstr (p : PodRef) (b : Bundle) : List Instr :=
  let a := accArgs b
  match accCode b with
  | 1 => [.accClear p a]
  | 2 => [.accSnap p a]
  | 3 => [.accRq p a]
  | 4 => [.narrow96 p a]
  | 5 => [.wide192 p a]
  | 6 => [.out32 p a]
  | 7 => [.accAdd96 p a]
  | 8 => [.accAdd192 p a]
  | 9 => [.accAdd32 p a]
  | 10 => [.load192 p a]
  | _ => []

/-- The function of a FUNC (R137). -/
def funcInstr (p : PodRef) (v : VecArgs) : List Instr :=
  match bitsOf v.b.toNat 0 3 with
  | 0 => [.fexp2 p v]
  | 1 => [.flog2 p v]
  | 2 => [.frcp p v]
  | 3 => [.frsq p v]
  | 4 => [.ftanh p v]
  | 5 => [.fsigm p v]
  | 6 => [.fsgate p v]
  | _ => []

/-- The reduction of a RED (R132). -/
def redInstr (p : PodRef) (v : VecArgs) : List Instr :=
  match bitsOf v.b.toNat 0 2 with
  | 0 => [.rsum p v]
  | 1 => [.rssq p v]
  | 2 => [.rmax p v]
  | _ => [.rmin p v]

/-- An element operation (R132). -/
def elemInstr (p : PodRef) (v : VecArgs) : Nat → List Instr
  | 0x01 => [.vecAdd p v]
  | 0x02 => [.vecSub p v]
  | 0x03 => [.adds p v]
  | 0x04 => [.subs p v]
  | 0x05 => [.mullo p v]
  | 0x06 => [.mulr p v]
  | 0x07 => [.vecScale p v]
  | 0x08 => [.shl p v]
  | 0x09 => [.shr p v]
  | 0x0A => [.shru p v]
  | 0x0B => [.vecMin p v]
  | 0x0C => [.vecMax p v]
  | 0x0D => [.minu p v]
  | 0x0E => [.maxu p v]
  | 0x0F => [.vecAnd p v]
  | 0x10 => [.vecOr p v]
  | 0x11 => [.vecXor p v]
  | 0x12 => [.vecSel p v]
  | 0x13 => [.cmpeq p v]
  | 0x14 => [.cmplt p v]
  | 0x15 => [.cmpltu p v]
  | 0x16 => [.clz p v]
  | 0x17 => [.widen p v]
  | 0x18 => [.widenu p v]
  | 0x19 => [.narrow p v]
  | 0x1A => funcInstr p v
  | 0x1B => redInstr p v
  | 0x1C => [.gather p v]
  | 0x1D => [.scatter p v]
  | _ => []

/-- A control operation (R133). -/
def ctlInstr (p : PodRef) (v : VecArgs) : Nat → List Instr
  | 0x00 => [.ldk p v]
  | 0x01 => [.zclr p v]
  | 0x02 => [.zout p v]
  | 0x03 => [.zacc p v]
  | 0x04 => [.zrcp p v]
  | 0x05 => [.zrsq p v]
  | 0x06 => [.pset p v]
  | 0x07 => [.pld p v]
  | 0x08 => [.topk p v]
  | 0x09 => [.tkmerge p v]
  | 0x0A => [.tkout p v]
  | 0x0B => [.tkclr p v]
  | 0x0C => [.rowsel p v]
  | _ => []

/-- The command of the VEC slot. -/
def vecInstr (p : PodRef) (b : Bundle) : List Instr := if vecCtl b then ctlInstr p (vecArgs b) (vecOp b) else elemInstr p (vecArgs b) (vecOp b)

/-- The command of the ST slot. -/
def stInstr (p : PodRef) (b : Bundle) : List Instr :=
  match stCode b with
  | 1 => [.send p (stArgs b)]
  | 2 => [.fetch p (stArgs b)]
  | 3 => [.recv p (stArgs b)]
  | _ => []

/-- The WAIT of the SYN slot, which is tested at the start of its beat (R102). -/
def waitInstr (p : PodRef) (b : Bundle) : List Instr := if synCode b = 3 then [.waitTally p (synArgs b)] else []

/-- The other commands of the SYN slot, whose effect is seen from the next beat on (R102). -/
def synInstr (p : PodRef) (b : Bundle) : List Instr :=
  match synCode b with
  | 1 => [.synAdd p (synArgs b)]
  | 2 => [.setf p (synArgs b)]
  | 4 => [.synClr p (synArgs b)]
  | _ => []

/-- The LOOP of the CTL slot. -/
def loopInstr (p : PodRef) (b : Bundle) : List Instr := if ctlCode b = 1 then [.loopCtl p (loopArgs b)] else []

/-- Does the CTL slot hold STEP_END? -/
def bundleEnds (b : Bundle) : Bool := ctlCode b == 2

/-- The STEP_END of the CTL slot. -/
def stepEndInstr (p : PodRef) (b : Bundle) : List Instr := if bundleEnds b then [.stepEnd p] else []

/-- The commands of a bundle but for its WAIT and its STEP_END, in slot order. -/
def bodyInstrs (p : PodRef) (env : RowEnv) (b : Bundle) : List Instr :=
  rowInstr p env b ++ arrInstr p b ++ accInstr p b ++ vecInstr p b ++ stInstr p b ++ synInstr p b ++ loopInstr p b

/-- Is every slot NOP (R429's runs, chapter 17)? -/
def bundleIdle (b : Bundle) : Bool :=
  rowCode b == 0 && arrCode b == 0 && accCode b == 0 && !vecCtl b && vecOp b == 0 && stCode b == 0 && synCode b == 0 && ctlCode b == 0

/-! ### Reserved values (R126, R148) -/

/-- Does no slot of the bundle hold a reserved field, OP, SRC, LC or FPAIR? -/
def bundleReserved (b : Bundle) : Bool :=
  rowCode b == 7 || bun b 12 7 != 0 ||
  ((rowCode b == 3 || rowCode b == 4 || rowCode b == 5) && (pairOf (rowArgs b).fpair.toNat).isNone) ||
  ((rowCode b == 0 || rowCode b == 1 || rowCode b == 2 || rowCode b == 6) && bun b 19 5 != 0) ||
  decide (1 < arrCode b) ||
  decide (10 < accCode b) || accSrcCode b == 3 || bun b 72 4 != 0 ||
  (if vecCtl b then decide (0x0C < vecOp b) || (vecArgs b).s else decide (0x1D < vecOp b) || (vecOp b == 0 && (vecArgs b).s)) ||
  bun b 120 1 != 0 ||
  decide (3 < stCode b) || bun b 168 4 != 0 ||
  decide (4 < synCode b) ||
  decide (2 < ctlCode b) || ctlLc b == 3

end Sys2Proof.Machine
end

