-- ==== Sys2Proof/Machine/ImgParse.lean ====
section
/-! DEFINITION. Reading a staged image: header, directory, records and their fields (R195 to R197, R198 to R206, R210, R211, and
the records of chapters 09, 12 and 13), with the faults of check 1. Layouts that the spec names and does not lay down are the
model's (DESIGN CHOICE, log 15). -/
namespace Sys2Proof.Machine

/-- Why a load is refused (R194, R212). -/
structure LoadFail where
  /-- the check that failed -/
  check : Nat := 1
  /-- status -/
  status : Status := .imageInvalid
  /-- byte offset of the failing record or field -/
  off : Nat := 0
  /-- resource, index and features of a conflict -/
  res : Nat := 0
  idx : Nat := 0
  feat : Nat := 0
deriving DecidableEq, Repr, Inhabited

/-- The first test that fails: tests are pairs of a fault and its offset. -/
def firstBad (check : Nat) (st : Status) (tests : List (Bool × Nat)) : Option LoadFail :=
  (tests.find? (fun t => t.1)).map (fun t => { check := check, status := st, off := t.2 })

/-- Bytes of a byte file from one offset on, in rising order; an unlisted byte reads 0. -/
def runBytes : Nat → Nat → List (Nat × Byte) → List Byte
  | 0, _, _ => []
  | n + 1, p, [] => 0 :: runBytes n (p + 1) []
  | n + 1, p, (j, v) :: l => if j = p then v :: runBytes n (p + 1) l else 0 :: runBytes n (p + 1) ((j, v) :: l)

/-- The `n` bytes of a staging half from offset `off` on. -/
def stagedBytes (t : Tbl Byte) (off n : Nat) : List Byte := runBytes n off (t.cells.dropWhile (fun c => decide (c.1 < off)))

/-- A little-endian field of the image. -/
def leAt (bs : List Byte) (off n : Nat) : Nat := leVal ((bs.drop off).take n)

/-- Are the bytes of a field all zero? -/
def zeroAt (bs : List Byte) (off n : Nat) : Bool := ((bs.drop off).take n).all (fun b => b == 0)

/-! ### Header (R196) -/

/-- MAGIC. -/
def imgMagic : List Byte := [0x4D, 0x4C, 0x44, 0x48, 0x49, 0x4D, 0x47, 0x31]

/-- Fields of the header. -/
def imgVersion (bs : List Byte) : Nat := leAt bs 0x008 2
def imgBic (bs : List Byte) : Nat := leAt bs 0x00A 2
def imgTarget (bs : List Byte) : Nat := leAt bs 0x00C 2
def imgFlags (bs : List Byte) : Nat := leAt bs 0x00E 2
def imgSigned (bs : List Byte) : Bool := bitAt (imgFlags bs) 0
def imgLength (bs : List Byte) : Nat := leAt bs 0x010 8
def imgSections (bs : List Byte) : Nat := leAt bs 0x018 2
def imgOwnerKey (bs : List Byte) : Nat := leAt bs 0x01A 2
def imgSigLength (bs : List Byte) : Nat := leAt bs 0x01C 4
def imgDigest (bs : List Byte) : List Byte := (bs.drop 0x020).take 32

/-- Check 1 on the header (R192, R195, R196): `half` is the size of one staging half in bytes. -/
def headerFail (bs : List Byte) (half : Nat) : Option LoadFail :=
  let signBad := if imgSigned bs then decide (7 < imgOwnerKey bs) || imgSigLength bs == 0 else imgOwnerKey bs != 0 || imgSigLength bs != 0
  firstBad 1 .imageInvalid
    [(bs.take 8 != imgMagic, 0), (imgVersion bs != 0x0100, 0x008), (bitsOf (imgTarget bs) 12 4 != 0, 0x00C),
     (bitsOf (imgFlags bs) 1 15 != 0, 0x00E), (imgLength bs % 64 != 0 || decide (half < imgLength bs + imgSigLength bs), 0x010),
     (decide (imgSections bs < 5) || decide (10 < imgSections bs), 0x018), (signBad, 0x01A), (!zeroAt bs 0x050 176, 0x050)]

/-! ### Directory (R197) -/

/-- A section: type, first byte, bytes. -/
structure Section where
  type : Nat := 0
  off : Nat := 0
  len : Nat := 0
deriving DecidableEq, Repr, Inhabited

/-- Entry `i` of the directory. -/
def dirEntry (bs : List Byte) (i : Nat) : Section :=
  { type := leAt bs (0x100 + 32 * i) 2, off := leAt bs (0x108 + 32 * i) 8, len := leAt bs (0x110 + 32 * i) 8 }

/-- The directory. -/
def directory (bs : List Byte) : List Section := (upto (imgSections bs)).map (dirEntry bs)

/-- Do two sections share a byte? -/
def Section.meets (a b : Section) : Bool := decide (a.off < b.off + b.len) && decide (b.off < a.off + a.len)

/-- Check 1 on one directory entry, against those before it (R197); an empty section counts at its offset (DESIGN CHOICE, log 114). -/
def dirEntryBad (bs : List Byte) (ds : List Section) (i : Nat) : Bool :=
  let d := dirEntry bs i
  let before := ds.take i
  d.type == 0 || decide (10 < d.type) || before.any (fun e => e.type == d.type) || before.any (fun e => e.meets d) ||
  d.off % 64 != 0 || !zeroAt bs (0x102 + 32 * i) 6 || !zeroAt bs (0x118 + 32 * i) 8 ||
  decide (imgLength bs < d.off + d.len) || decide (d.off < 0x100 + 32 * imgSections bs)

/-- The sections that every image has (R197). -/
def requiredSections : List Nat := [1, 2, 3, 4, 6]

/-- Check 1 on the directory (R197). -/
def directoryFail (bs : List Byte) : Option LoadFail :=
  let ds := directory bs
  firstBad 1 .imageInvalid
    ((decide (imgLength bs < 0x100 + 32 * imgSections bs), 0x018) ::
     (upto (imgSections bs)).map (fun i => (dirEntryBad bs ds i, 0x100 + 32 * i)) ++
     [(requiredSections.any (fun t => !ds.any (fun d => d.type == t)), 0x018)])

/-! ### Records (R197) -/

/-- A field of a record, by its offset in the record. -/
def Rec.u (r : Rec) (off n : Nat) : Nat := leAt r.body (off - 8) n
/-- Bytes of a record from an offset on. -/
def Rec.bytesAt (r : Rec) (off n : Nat) : List Byte := (r.body.drop (off - 8)).take n
/-- LENGTH of a record. -/
def Rec.len (r : Rec) : Nat := r.body.length + 8

/-- The largest record kind of each section type. -/
def maxKind : Nat → Nat
  | 2 => 7 | 3 => 2 | 4 => 2 | 5 => 7 | _ => 1

/-- Does a record kind carry a placement number (R197)? -/
def placedKind (k : Nat) : Bool := k == 0x0101 || (decide (0x0202 ≤ k) && decide (k ≤ 0x0206)) || k == 0x0302 || k == 0x0901

/-- Check 1 on one record header: kind known and of its section, PLACE as the kind needs, LENGTH within the section. -/
def recHeadBad (type kind place len room : Nat) : Bool :=
  kind / 256 != type || kind % 256 == 0 || decide (maxKind type < kind % 256) ||
  (if placedKind kind then decide (4 < place) else place != 0xFFFF) || decide (len < 8) || len % 8 != 0 || decide (room < len)

/-- The records of a section, or the offset at which its framing fails; `bs` starts at offset `pos` of the image. -/
def recordsGo (type : Nat) : Nat → Nat → List Byte → Except Nat (List Rec)
  | 0, _, _ => .ok []
  | fuel + 1, pos, bs =>
    if bs.isEmpty then .ok []
    else if bs.length < 8 then .error pos
    else
      let kind := leAt bs 0 2
      let len := leAt bs 4 4
      if recHeadBad type kind (leAt bs 2 2) len bs.length then .error pos
      else match recordsGo type fuel (pos + len) (bs.drop len) with
        | .error e => .error e
        | .ok rs => .ok ({ kind := kind, place := leAt bs 2 2, off := pos, body := (bs.take len).drop 8 } :: rs)

/-- The records of every section. -/
def allRecords (bs : List Byte) : List Section → Except Nat (List Rec)
  | [] => .ok []
  | d :: ds =>
    match recordsGo d.type (d.len + 1) d.off ((bs.drop d.off).take d.len) with
    | .error e => .error e
    | .ok rs => match allRecords bs ds with
      | .error e => .error e
      | .ok qs => .ok (rs ++ qs)

/-- Rounded up to a multiple of 8. -/
def pad8 (n : Nat) : Nat := (n + 7) / 8 * 8

/-- Records of a kind, in image order. -/
def ofKind (rs : List Rec) (k : Nat) : List Rec := rs.filter (fun r => r.kind == k)

/-- KINDS of the first STEP_TABLE. -/
def recKinds (rs : List Rec) : Nat := ((ofKind rs 0x0201).head?.map (fun r => r.u 0x008 2)).getD 1

/-- The length that a record's own counts give it. -/
def Rec.shape (kinds : Nat) (r : Rec) : Nat :=
  match r.kind with
  | 0x0101 => 0x210
  | 0x0201 => pad8 (0x010 + 2 * r.u 0x00C 4)
  | 0x0202 => pad8 (0x010 + 2 * kinds) + 32 * r.u 0x00C 2
  | 0x0203 | 0x0204 | 0x0205 => 0x010 + 16 * r.u 0x00E 2
  | 0x0206 => 0x010 + 512 * r.u 0x00E 2
  | 0x0207 => 0x010 + 16 * r.u 0x00A 2
  | 0x0301 => pad8 (0x010 + 2 * r.u 0x00A 2)
  | 0x0302 => 0x010 + 8192
  | 0x0401 => 40
  | 0x0502 => 32
  | 0x0504 => 0x010 + 32 * r.u 0x00A 1
  | 0x0505 => 0x010 + 32 * ((r.len - 0x010) / 32)
  | 0x0506 => if r.u 0x008 1 = 0xFF then 32 else 0x010 + 48 * r.u 0x00A 2
  | 0x0507 => 32
  | 0x0601 => 24
  | 0x0701 => 48
  | 0x0801 => 32
  | 0x0901 => 0x010 + 8 * r.u 0x00C 2
  | _ => 16

/-- The reserved bytes of a record that check 1 tests: offset and count; those of REACH_PARAMS fall under R320. -/
def Rec.reserved (r : Rec) : List (Nat × Nat) :=
  match r.kind with
  | 0x0101 => [(0x00A, 6)]
  | 0x0201 => [(0x00A, 2)]
  | 0x0202 => [(0x009, 1), (0x00E, 2)]
  | 0x0203 | 0x0204 | 0x0205 | 0x0206 => [(0x009, 1)]
  | 0x0207 | 0x0302 | 0x0402 => [(0x00C, 4)]
  | 0x0301 => [(0x009, 1), (0x00C, 4)]
  | 0x0401 => [(0x00F, 1)]
  | 0x0501 => [(0x00B, 5)]
  | 0x0503 => [(0x00E, 2)]
  | 0x0504 => (0x00B, 5) :: (upto (r.u 0x00A 1)).map (fun i => (0x018 + 32 * i, 8))
  | 0x0505 => (0x00A, 2) :: (upto ((r.len - 0x010) / 32)).map (fun i => (0x024 + 32 * i, 4))
  | 0x0507 => [(0x00E, 2)]
  | 0x0701 => [(0x00B, 1), (0x026, 2)]
  | 0x0801 => [(0x01E, 2)]
  | 0x0901 => [(0x009, 1), (0x00E, 2)]
  | 0x0A01 => [(0x00F, 1)]
  | _ => []

/-- Check 1 on the body of a record. -/
def Rec.bodyBad (kinds : Nat) (r : Rec) : Bool :=
  r.len != r.shape kinds || r.reserved.any (fun x => !zeroAt r.body (x.1 - 8) x.2)

/-- Check 1 whole: the records, or the fault. -/
def check1 (bs : List Byte) (half : Nat) : Except LoadFail (List Rec) :=
  match headerFail bs half with
  | some f => .error f
  | none => match directoryFail bs with
    | some f => .error f
    | none => match allRecords bs (directory bs) with
      | .error off => .error { off := off }
      | .ok rs => match rs.find? (Rec.bodyBad (recKinds rs)) with
        | some r => .error { off := r.off }
        | none => .ok rs

/-! ### The image that records spell -/

/-- A 128-bit entry of a record whose entries start at offset 0x10. -/
def Rec.entry (r : Rec) (i : Nat) : Entry128 := BitVec.ofNat 128 (r.u (0x010 + 16 * i) 16)

/-- PLACE_MAP (R198). -/
def Rec.toPlacement (r : Rec) : Placement :=
  { shallots := BitVec.ofNat 8 (r.u 0x008 1), twin := BitVec.ofNat 4 (r.u 0x009 1),
    pods := Tbl.setRun {} 0 ((upto 8).map (fun n => BitVec.ofNat 512 (r.u (0x010 + 64 * n) 64))) }

/-- OBSERVERS: numbered entries (R199). -/
def Rec.toObservers (r : Rec) : List (Nat × Entry128) := (upto (r.u 0x00A 2)).map (fun i => (r.u 0x008 2 + i, r.entry i))

/-- STREET_USE (R202). -/
def Rec.toStreetUse (r : Rec) : Nat × List Nat := (r.u 0x008 1, (upto (r.u 0x00A 2)).map (fun i => r.u (0x010 + 2 * i) 2))

/-- TIMETABLE (R202, R232): placement, kind, plaza, unit, entries. -/
def Rec.toTimetable (r : Rec) : Nat × Nat × Nat × Nat × List Nat :=
  (r.place, r.u 0x008 1, r.u 0x009 1, r.u 0x00A 2, (upto 4096).map (fun i => r.u (0x010 + 2 * i) 2))

/-- REGION (R203): number and region. -/
def Rec.toRegion (r : Rec) : Nat × Region :=
  (r.u 0x008 2, { kind := r.u 0x00A 1, flags := BitVec.ofNat 8 (r.u 0x00B 1), stackMask := BitVec.ofNat 16 (r.u 0x00C 2),
                  interleave := BitVec.ofNat 8 (r.u 0x00E 1), base := r.u 0x010 8, size := r.u 0x018 8,
                  key := BitVec.ofNat 64 (r.u 0x020 8) })

/-- ADDRESS: sub-port, MAC address, IPv6 address (R292). -/
def Rec.toAddress (r : Rec) : Nat × BitVec 48 × BitVec 128 :=
  (r.u 0x008 2, BitVec.ofNat 48 (r.u 0x00A 6), BitVec.ofNat 128 (r.u 0x010 16))

/-- ROUTE: destination and its routes (R306). -/
def Rec.toRoutes (r : Rec) : Nat × List RouteEntry :=
  (r.u 0x008 2, (upto (r.u 0x00A 1)).map (fun i =>
    { subport := r.u (0x010 + 32 * i) 2, mac := BitVec.ofNat 48 (r.u (0x012 + 32 * i) 6), ip := BitVec.ofNat 128 (r.u (0x020 + 32 * i) 16) }))

/-- PORT_SCHEDULE: the streams of its gate entries (R300). -/
def Rec.toStreams (r : Rec) : List Stream :=
  (upto ((r.len - 0x010) / 32)).map (fun i =>
    let o := 0x010 + 32 * i
    { subport := r.u 0x008 2, cycle := r.u 0x00C 4, num := r.u o 2, dir := r.u (o + 2) 1, engine := r.u (o + 3) 1, peer := r.u (o + 4) 2,
      region := r.u (o + 6) 2, start := r.u (o + 8) 4, length := r.u (o + 12) 4, bytes := r.u (o + 16) 4, roffset := r.u (o + 24) 8 })

/-- REACH_PARAMS: the operation entries of one engine (R318). -/
def Rec.toReachOps (r : Rec) : List ReachOp :=
  (upto (r.u 0x00A 2)).map (fun i =>
    let o := 0x010 + 48 * i
    { engine := r.u 0x008 1, kind := r.u o 2, trigger := r.u (o + 2) 1, op := r.u (o + 3) 1, aop := r.u (o + 4) 1, hflag := r.u (o + 5) 1,
      peer := r.u (o + 6) 2, lregion := r.u (o + 8) 2, rregion := r.u (o + 10) 2, length := r.u (o + 12) 4, loffset := r.u (o + 16) 8,
      roffset := r.u (o + 24) 8, key := BitVec.ofNat 64 (r.u (o + 32) 8), tally := BitVec.ofNat 32 (r.u (o + 40) 4),
      done := BitVec.ofNat 32 (r.u (o + 44) 4) })

/-- CLAIM (R206). -/
def Rec.toClaim (r : Rec) : Claim :=
  { resource := r.u 0x008 2, feature := r.u 0x00A 2, index := r.u 0x00C 4, count := r.u 0x010 4, param := r.u 0x014 4, off := r.off }

/-- WINDOW (R205); SIZE 0 stands for 4 GiB. -/
def Rec.toWindow (r : Rec) : Window :=
  { num := r.u 0x008 1, flags := BitVec.ofNat 8 (r.u 0x009 1), msix := r.u 0x00A 1, period := r.u 0x00C 2, phase := r.u 0x00E 2,
    addr := r.u 0x010 8, seqAddr := r.u 0x018 8, size := if r.u 0x020 4 = 0 then 2 ^ 32 else r.u 0x020 4,
    region := r.u 0x024 2, regionOffset := r.u 0x028 8 }

/-- ENDPOINT (chapter 12). -/
def Rec.toEndpoint (r : Rec) : Endpoint :=
  { udpPort := r.u 0x008 2, subport := r.u 0x00A 2, sessions := r.u 0x00C 2, calls := r.u 0x00E 2, payload := r.u 0x010 2,
    period := r.u 0x012 2, phase := r.u 0x014 2, delay := r.u 0x016 2, reqRegion := r.u 0x018 2, replyRegion := r.u 0x01A 2,
    depth := r.u 0x01C 2 }

/-- PROFILE (R210). -/
def Rec.toProfile (r : Rec) : Nat × Profile :=
  (r.place, { sh := r.u 0x008 1, kind := r.u 0x00A 2,
              segs := (upto (r.u 0x00C 2)).map (fun i => (r.u (0x010 + 8 * i) 4, r.u (0x014 + 8 * i) 2, r.u (0x016 + 8 * i) 2)) })

/-- RECESS_POINT (R211). -/
def Rec.toRecess (r : Rec) : RecessPoint :=
  { period := r.u 0x008 2, phase := r.u 0x00A 2, maxUs := r.u 0x00C 2, allow := BitVec.ofNat 8 (r.u 0x00E 1) }

/-- The placements, from 0 on. -/
def recPlacements (rs : List Rec) : List Placement :=
  let ps := ofKind rs 0x0101
  (upto ps.length).filterMap (fun k => (ps.find? (fun r => r.place == k)).map Rec.toPlacement)

/-- A table of optional things from numbered ones. -/
def optTbl {α : Type} [DecidableEq α] (l : List (Nat × α)) : Tbl (Option α) := l.foldl (fun t c => t.set c.1 (some c.2)) {}

/-- The image that a list of records spells; `digest` is its DIGEST. -/
def imageOf (digest : List Byte) (rs : List Rec) : Image :=
  { digest := digest, placements := recPlacements rs, kinds := recKinds rs,
    seq := ((ofKind rs 0x0201).head?.map (fun r => (upto (r.u 0x00C 4)).map (fun i => r.u (0x010 + 2 * i) 2))).getD [0],
    podRecs := rs.filter (fun r => decide (0x0202 ≤ r.kind) && decide (r.kind ≤ 0x0206)),
    timetables := (ofKind rs 0x0302).map Rec.toTimetable, observers := (ofKind rs 0x0207).flatMap Rec.toObservers,
    streetUse := (ofKind rs 0x0301).map Rec.toStreetUse, regions := optTbl ((ofKind rs 0x0401).map Rec.toRegion),
    ckptBase := ((ofKind rs 0x0402).head?.map (fun r => r.u 0x008 2)).getD 0,
    ckptRows := ((ofKind rs 0x0402).head?.map (fun r => r.u 0x00A 2)).getD 0,
    portModes := optTbl ((ofKind rs 0x0501).map (fun r => (r.u 0x008 1, ({ mode := r.u 0x009 1, macsec := bitAt (r.u 0x00A 1) 0 } : PortMode)))),
    addrs := optTbl ((ofKind rs 0x0502).map Rec.toAddress),
    domain := (ofKind rs 0x0503).head?.map (fun r => (r.u 0x008 2, r.u 0x00A 2, r.u 0x00C 2)),
    routes := ((ofKind rs 0x0504).map Rec.toRoutes).foldl (fun (t : Tbl (List RouteEntry)) (c : Nat × List RouteEntry) => t.set c.1 c.2) {},
    streams := (ofKind rs 0x0505).flatMap Rec.toStreams,
    reach := ((ofKind rs 0x0506).find? (fun r => r.u 0x008 1 == 0xFF)).map (fun r => (r.u 0x010 2, r.u 0x012 2, BitVec.ofNat 64 (r.u 0x018 8))),
    reachOps := ((ofKind rs 0x0506).filter (fun r => r.u 0x008 1 != 0xFF)).flatMap Rec.toReachOps,
    reachEngines := ((ofKind rs 0x0506).filter (fun r => r.u 0x008 1 != 0xFF)).map (fun r => r.u 0x008 1),
    journalPort := (ofKind rs 0x0507).head?.map (fun r => (r.u 0x008 2, r.u 0x00A 2, BitVec.ofNat 128 (r.u 0x010 16), r.u 0x00C 2)),
    claims := (ofKind rs 0x0601).map Rec.toClaim, windows := (ofKind rs 0x0701).map Rec.toWindow,
    endpoint := (ofKind rs 0x0801).head?.map Rec.toEndpoint, profiles := (ofKind rs 0x0901).map Rec.toProfile,
    recess := (ofKind rs 0x0A01).map Rec.toRecess }

end Sys2Proof.Machine
end

