-- ==== Sys2Proof/Machine/PodAcc.lean ====
section
/-! DEFINITION. ARR and ACC: the array, the accumulators and the snapshot (R112 to R116, R518). -/
namespace Sys2Proof.Machine

/-- STREAM in a form that the loader admits: A32 only where the pair allows it, and the activation blocks within the row
(R110, R113, R114). -/
def Pod.streamForm (p : Pod) (a : ArrArgs) : Bool :=
  match pairOf (p.banks.get a.bank.val).fpair.toNat with
  | none => false
  | some pr => (!a.a32 || pr.a32) && decide (a.ofs.toNat + pr.k / 32 ≤ pr.a.blocks)

/-- RQ in a form that the loader admits: DESC is not A96, A192 or QM8, and 64 elements from block POS fit (R78, R116, R126). -/
def Pod.rqDescForm (p : Pod) (a : AccArgs) : Bool :=
  let f := descFmt (p.desc a.desc.val)
  f != .a96 && f != .a192 && f != .qm8 && decide (a.pos.toNat * 32 + 64 ≤ f.perRow) && (!f.isBlock || rqForm a)

/-- ARR STREAM (R113). -/
def execStream (p : PodRef) (a : ArrArgs) (s : State) : Res :=
  s.podOpIf ((s.pod p.sh.val p.pod.val).streamForm a) p
    (fun ctx q => q.stream ctx a.bank a.dbuf a.sbuf a.ofs.toNat a.sofs.toNat a.a32 a.idx)

/-- ACC CLEAR (R116). -/
def execAccClear (p : PodRef) (a : AccArgs) (s : State) : Res :=
  s.podOpIf (srcForm [.accs, .lanes] a) p (fun _ q => (q.accClear a.src, []))

/-- ACC SNAP (R116). -/
def execAccSnap (p : PodRef) (a : AccArgs) (s : State) : Res :=
  s.podOpIf (srcForm [.accs, .lanes] a) p (fun _ q => (q.accSnap a.src, []))

/-- ACC RQ (R78). -/
def execAccRq (p : PodRef) (a : AccArgs) (s : State) : Res :=
  s.podOpIf ((s.pod p.sh.val p.pod.val).rqDescForm a) p
    (fun ctx q => q.rq ctx a.src a.clr a.buf a.sbuf a.pos.toNat a.spos.toNat a.rqe.val a.desc.val)

/-- ACC NARROW96 (R116). -/
def execNarrow96 (p : PodRef) (a : AccArgs) (s : State) : Res :=
  s.podOpIf (srcForm [.accs, .snap] a && halfForm a) p (fun ctx q => q.narrow96 ctx a.src a.clr a.buf a.part.val a.desc.val)

/-- ACC WIDE192 (R116). -/
def execWide192 (p : PodRef) (a : AccArgs) (s : State) : Res :=
  s.podOpIf (srcForm [.accs, .snap] a) p (fun ctx q => q.wide192 ctx a.src a.clr a.buf a.part.val a.desc.val)

/-- ACC OUT32 (R116). -/
def execOut32 (p : PodRef) (a : AccArgs) (s : State) : Res :=
  s.podOpIf (srcForm [.lanes, .snap] a && halfForm a) p (fun ctx q => q.out32 ctx a.src a.clr a.buf a.part.val a.desc.val)

/-- ACC ADD96 (R116). -/
def execAccAdd96 (p : PodRef) (a : AccArgs) (s : State) : Res :=
  s.podOpIf (srcForm [.accs] a && halfForm a) p (fun ctx q => (q.add96 ctx a.buf a.part.val a.desc.val, []))

/-- ACC ADD192 (R116). -/
def execAccAdd192 (p : PodRef) (a : AccArgs) (s : State) : Res :=
  s.podOpIf (srcForm [.accs] a) p (fun ctx q => (q.add192 ctx a.buf a.part.val, []))

/-- ACC ADD32 (R116). -/
def execAccAdd32 (p : PodRef) (a : AccArgs) (s : State) : Res :=
  s.podOpIf (srcForm [.lanes] a && halfForm a) p (fun ctx q => (q.add32 ctx a.buf a.part.val, []))

/-- ACC LOAD192 (R116). -/
def execLoad192 (p : PodRef) (a : AccArgs) (s : State) : Res :=
  s.podOpIf (srcForm [.accs] a) p (fun ctx q => (q.load192 ctx a.buf a.part.val, []))

end Sys2Proof.Machine
end

