-- ==== Sys2Proof/Machine/ImgWalk.lean ====
section
/-! DEFINITION. The loader's walk of a bundle program: one pod, one step kind, narrow or wide, bundle by bundle, with the faults of
R103, R106, R109, R114, R126, R131, R148 and what the walk names: rows, landing slots, transfers (R98, R126, R166, R201). -/
namespace Sys2Proof.Machine

/-! ### The tables of a pod, as its records give them (R199) -/

/-- SHALLOT and POD of a record of the PROGRAM section. -/
def Rec.sh (r : Rec) : Nat := r.u 0x008 1
def Rec.pod (r : Rec) : Nat := r.u 0x00A 2
/-- First index and count of its entries. -/
def Rec.first (r : Rec) : Nat := r.u 0x00C 2
def Rec.count (r : Rec) : Nat := r.u 0x00E 2

/-- An ENTRY of POD_PROGRAM: 0xFFFF where the pod takes no part (R199). -/
def Rec.entryOf (r : Rec) (k : Nat) : Option (BitVec 12) :=
  let e := r.u (0x010 + 2 * k) 2
  if e = 0xFFFF then none else some (BitVec.ofNat 12 e)

/-- A record of the PROGRAM section is written into its pod (R195, R199). -/
def Rec.into (kinds : Nat) (p : Pod) (r : Rec) : Pod :=
  match r.kind with
  | 0x0202 =>
    let o := pad8 (0x010 + 2 * kinds)
    { p with bundles := p.bundles.setRun 0 ((upto (r.u 0x00C 2)).map (fun i => BitVec.ofNat 256 (r.u (o + 32 * i) 32))),
             entries := p.entries.setRun 0 ((upto kinds).map r.entryOf) }
  | 0x0203 => { p with descs := p.descs.setRun r.first ((upto r.count).map (fun i => some (r.entry i))) }
  | 0x0204 => { p with rqs := p.rqs.setRun r.first ((upto r.count).map (fun i => ({ raw := r.entry i } : RqEntry))) }
  | 0x0205 => { p with xfers := p.xfers.setRun r.first ((upto r.count).map r.entry) }
  | 0x0206 => { p with store := p.store.setRun r.first ((upto r.count).map (fun i => rowOfBytes (r.bytesAt (0x010 + 512 * i) 512))),
                         consts := p.consts ++ [(r.first, r.count)] }
  | _ => p

/-- The records of one pod in one placement. -/
def Image.recsOf (i : Image) (pl sh pod : Nat) : List Rec := i.podRecs.filter (fun r => r.place == pl && r.sh == sh && r.pod == pod)

/-- A pod as its records leave it, from nothing. -/
def Image.podOf (i : Image) (pl sh pod : Nat) : Pod := (i.recsOf pl sh pod).foldl (Rec.into i.kinds) {}

/-! ### The walk -/

/-- A transfer that a walk issues. -/
structure WalkXfer where
  /-- beat of issue -/
  beat : Nat := 0
  /-- FETCH, not SEND -/
  fetch : Bool := false
  /-- its entry -/
  x : Entry128 := 0
  /-- a wide execution sends two rows -/
  two : Bool := false
deriving DecidableEq, Repr, Inhabited

/-- The kinds of touches of a store row (R103, R131). -/
inductive Touch where
  | rowRead | rowLoad | rowWrite | rowZero | vecRead | vecWrite
deriving DecidableEq, Repr, Inhabited

/-- Is it a touch of the VEC slot, and does it write? -/
def Touch.vec : Touch → Bool
  | .vecRead | .vecWrite => true
  | _ => false
def Touch.writes : Touch → Bool
  | .rowWrite | .rowZero | .vecWrite => true
  | _ => false

/-- What a walk knows after some bundles. -/
structure Walk where
  /-- tables, counters, loops, bank marks -/
  pod : Pod := {}
  /-- beat of the next bundle -/
  beat : Nat := 0
  /-- a fault was met -/
  bad : Bool := false
  /-- STEP_END was met -/
  ended : Bool := false
  /-- row buffers written by earlier bundles -/
  bufs : List Nat := []
  /-- row buffers that this bundle writes -/
  newBufs : List Nat := []
  /-- row buffers that a wide execution holds as two rows -/
  twoBufs : List Nat := []
  /-- row buffers last filled from a tensor with SYM -/
  symBufs : List Nat := []
  /-- the snapshot was written -/
  snap : Bool := false
  /-- first beat in which the array is free -/
  arrFree : Nat := 0
  /-- first beat in which the lane unit is free -/
  vecFree : Nat := 0
  /-- bank loads of the last beat -/
  fresh : List Nat := []
  /-- elements summed into the A32 lanes since they were zeroed -/
  laneSum : Nat := 0
  /-- the least limit of R61 among them, none where there are none -/
  laneLim : Option Nat := none
  /-- STREAMs whose terms have not reached the lanes: the beat of their ADD stage, their elements, their limit -/
  laneTerms : List (Nat × Nat × Nat) := []
  /-- K15, where the walk knows it -/
  k15 : Option Nat := some 0
  /-- descriptors that slots name by their index -/
  descs : List Nat := []
  /-- rows that slots name, without those that a ROWSEL selects -/
  named : List Nat := []
  /-- row buffer writes that slots do not see yet: landing beat, buffer, two rows, written with SYM -/
  marks : List (Nat × Nat × Bool × Bool) := []
  /-- row buffer writes that have not landed: landing beat and buffer -/
  landing : List (Nat × Nat) := []
  /-- touches of the last beat and later ones: beat, row -/
  touches : List (Nat × Nat × Touch) := []
  /-- rows read and rows written -/
  reads : List Nat := []
  writes : List Nat := []
  /-- rows read that the step had not written -/
  early : List Nat := []
  /-- transfers, and RECVs by beat and slot -/
  xfers : List WalkXfer := []
  recvs : List (Nat × Nat) := []
deriving DecidableEq, Repr, Inhabited

/-- A number joins a list once. -/
def addOnce (l : List Nat) (n : Nat) : List Nat := if l.contains n then l else n :: l

/-- The walk is faulty where a test holds. -/
def Walk.fail (w : Walk) (b : Bool) : Walk := { w with bad := w.bad || b }

/-- The step reads a row (R166, R201). -/
def Walk.reading (w : Walk) (row : Nat) : Walk :=
  { w with reads := addOnce w.reads row, early := if w.writes.contains row then w.early else addOnce w.early row }

/-- A touch of a row in a beat; it may not meet another touch of the row by the other slot in that beat where one of the two
writes, nor a ROW READ the row that a ROW WRITE targeted one beat earlier (R103). -/
def Walk.touch (w : Walk) (t : Touch) (beat row : Nat) : Walk :=
  let clash := w.touches.any (fun c => c.2.1 == row &&
    ((c.1 == beat && c.2.2.vec != t.vec && (c.2.2.writes || t.writes)) ||
     (t == .rowRead && c.2.2 == .rowWrite && c.1 + 1 == beat)))
  let w := { w with touches := (beat, row, t) :: w.touches, bad := w.bad || clash, named := addOnce w.named row }
  if t.writes then { w with writes := addOnce w.writes row } else w.reading row


/-- Touches of several rows. -/
def Walk.touchAll (w : Walk) (t : Touch) (beat : Nat) (rows : List Nat) : Walk := rows.foldl (fun w r => w.touch t beat r) w

/-- A write into a row buffer that lands at a beat; two may not land together (R103). The buffer then holds two rows or one, and what it
holds was written with SYM or not. -/
def Walk.fill (w : Walk) (buf beat : Nat) (two sym : Bool) : Walk :=
  { w with bad := w.bad || w.landing.contains (beat, buf), landing := (beat, buf) :: w.landing, newBufs := addOnce w.newBufs buf,
           marks := (beat, buf, two, sym) :: w.marks }

/-- A number is in a list or not. -/
def setMember (l : List Nat) (n : Nat) (b : Bool) : List Nat := if b then addOnce l n else l.erase n

/-- The row buffers whose writes slots of this beat see take their marks (R102). -/
def Walk.landMarks (w : Walk) : Walk :=
  (w.marks.filter (fun c => decide (c.1 ≤ w.beat))).foldl
    (fun w c => { w with twoBufs := setMember w.twoBufs c.2.1 c.2.2.1, symBufs := setMember w.symBufs c.2.1 c.2.2.2 })
    { w with marks := w.marks.filter (fun c => decide (w.beat < c.1)) }

/-- A slot reads a row buffer, which the step must have written (R98). A buffer counts as written from the next bundle on, in the order
of issue that R126 names, also where its row is visible one beat later (DEDUCED, log 111). -/
def Walk.needBuf (w : Walk) (buf : Nat) : Walk := w.fail (!w.bufs.contains buf)

/-- Does the store row lie in a tensor with SYM, so that it counts as written with SYM, whatever wrote it (R61; DEDUCED, log 107)? -/
def Walk.symRow (w : Walk) (row : Nat) : Bool := ((w.pod.descOfRow row).map (fun i => descSym (w.pod.desc i))).getD false

/-- The A96 descriptors of the pod that hold a store row. -/
def Pod.a96Count (p : Pod) (r : Nat) : Nat :=
  ((p.descs.cells.filterMap (fun c => c.2)).filter (fun d => descFmt d == .a96 && descHasRow d r)).length

/-- The rows that a ROW READ or WRITE moves (R124). -/
def Walk.rowsOf (w : Walk) (wide : Bool) (a : RowArgs) : List Nat :=
  let r := w.pod.rowAddr a.addr a.idx
  match w.pod.wideRows { wide := wide } a.w96 r with
  | some (x, y) => [x, y]
  | none => [r]

/-- A load marks its bank (R108, R109). -/
def Walk.load (w : Walk) (a : RowArgs) (f : Bank → Bank) : Walk :=
  { w with pod := { w.pod with banks := w.pod.banks.mod a.bank.val (fun k => f (k.retag a.fpair)) }, fresh := addOnce w.fresh a.bank.val }

/-- The ROW slot. W96 counts only in READ and WRITE, the operations that R124 gives two rows (DEDUCED, log 93). -/
def Walk.row (w : Walk) (wide : Bool) (b : Bundle) : Walk :=
  let a := rowArgs b
  let r := w.pod.rowAddr a.addr a.idx
  let bad96 := a.w96 && (w.pod.a96Count r != 1)
  match rowCode b with
  | 1 =>
    ((w.fail (bad96 || !plainRowForm a)).touchAll .rowRead w.beat (w.rowsOf wide a)).fill a.buf.val (w.beat + 2) a.w96 (w.symRow r)
  | 2 => ((w.fail (bad96 || !plainRowForm a)).needBuf a.buf.val).touchAll .rowWrite w.beat (w.rowsOf wide a)
  | 3 => ((w.fail (!pairForm a)).touch .rowLoad w.beat r).load a (fun k =>
      { k with loadedParts := k.loadedParts ||| BitVec.ofNat 8 (2 ^ a.part.val), src := k.src.set a.part.val (w.pod.descOfRow r) })
  | 4 => ((w.fail (!loadsForm a)).touch .rowLoad w.beat r).load a (fun k => { k with hasScales := true })
  | 5 => ((w.fail (!loadcForm a)).touch .rowLoad w.beat r).load a (fun k => { k with hasCmuls := true })
  | 6 => (w.fail (!plainRowForm a)).touch .rowZero w.beat r
  | _ => w

/-- The longest reduction into the A32 lanes (R61). A STREAM counts as the K elements of its pair, whatever of them is zero, and the
partial sums of ADD32 do not count (DESIGN CHOICE, log 95): K of code 0x0F is 32, so its sum into the lanes is never within its
limit 1. -/
def a32Limit (pr : PairInfo) (sym : Bool) : Nat :=
  match pr.w, pr.a with
  | .t2, _ => 16777215
  | .i4, .i4 => 33554431
  | .u4, _ => 9544371
  | .i4, _ => 2097151
  | .i8, .i8 => if sym then 132104 else 131071
  | .i8, _ => 65793
  | .u8, _ => 33025
  | .i16, .i8 => 511
  | _, _ => 1

/-- Does a bank count as written with SYM: does every of its data parts come from a tensor with SYM (R61; DEDUCED, log 107)? -/
def Walk.bankSym (w : Walk) (b : Bank) : Bool :=
  (upto 8).all (fun k => match b.src.get k with | some i => descSym (w.pod.desc i) | none => false)

/-- The limit of a sum into the lanes together with that of another term: the lesser of the two. -/
def limMeet (a : Option Nat) (b : Nat) : Option Nat := some ((a.map (fun x => min x b)).getD b)

/-- A term reaches the lanes in its ADD stage, and the sum since they were zeroed is held to the least limit of its terms (R61,
R114). -/
def Walk.addLane (w : Walk) (t : Nat × Nat × Nat) : Walk :=
  let sum := w.laneSum + t.2.1
  let lim := limMeet w.laneLim t.2.2
  { w with laneSum := sum, laneLim := lim, bad := w.bad || decide ((lim.getD 0) < sum) }

/-- The ADD stages of beats before `b` (R56, R113). -/
def Walk.landLanes (w : Walk) (b : Nat) : Walk :=
  (w.laneTerms.filter (fun t => decide (t.1 < b))).foldl Walk.addLane { w with laneTerms := w.laneTerms.filter (fun t => decide (b ≤ t.1)) }

/-- Every ADD stage: what is under way at STEP_END still reaches the lanes (R100). -/
def Walk.landAllLanes (w : Walk) : Walk := w.laneTerms.foldl Walk.addLane { w with laneTerms := [] }

/-- The ARR slot (R109, R113, R114, R61). -/
def Walk.arr (w : Walk) (b : Bundle) (freshBefore : List Nat) : Walk :=
  if arrCode b = 1 then
    let a := arrArgs b
    let k := w.pod.banks.get a.bank.val
    match pairOf k.fpair.toNat with
    | none => w.fail true
    | some pr =>
      let spos := (a.sofs.toNat + pr.a.blocks * w.pod.counter a.idx) % 512
      let sym := w.bankSym k || w.symBufs.contains a.dbuf.val
      let w := w.needBuf a.dbuf.val
      let w := if pr.a.isBlock then (w.needBuf a.sbuf.val).fail (decide (512 < spos + pr.k / 32)) else w
      let w := w.fail (!k.loaded || freshBefore.contains a.bank.val || !w.pod.streamForm a || decide (w.beat < w.arrFree) ||
        (a.a32 && decide (a32Limit pr sym < pr.k)))
      { w with arrFree := w.beat + pr.v,
               laneTerms := if a.a32 then w.laneTerms ++ [(w.beat + 3 + pr.v, pr.k, a32Limit pr sym)] else w.laneTerms }
  else w

/-- Values read from SRC; the snapshot must have been written, and CLR zeroes the lanes (R98, R115). -/
def Walk.source (w : Walk) (a : AccArgs) (clears : Bool) : Walk :=
  let w := w.fail (a.src == .snap && !w.snap)
  if a.src == .lanes && (clears || a.clr) then { w with laneSum := 0, laneLim := none } else w

/-- An ACC operation names a descriptor by its index. -/
def Walk.names (w : Walk) (a : AccArgs) : Walk := { w with descs := addOnce w.descs a.desc.val }

/-- The ACC slot (R115, R116). -/
def Walk.acc (w : Walk) (b : Bundle) : Walk :=
  let a := accArgs b
  let buf := a.buf.val
  match accCode b with
  | 1 => (w.fail (!srcForm [.accs, .lanes] a)).source a true
  | 2 => { (w.fail (!srcForm [.accs, .lanes] a)).source a true with snap := true }
  | 3 =>
    let d := w.pod.desc a.desc.val
    let w := (((w.names a).fail (!w.pod.rqDescForm a)).source a false).fill buf (w.beat + 1) false (descSym d)
    if (descFmt d).isBlock then w.fill a.sbuf.val (w.beat + 1) false false else w
  | 4 =>
    (((w.names a).fail (!(srcForm [.accs, .snap] a && halfForm a))).source a false).fill buf (w.beat + 1) true false
  | 5 => (((w.names a).fail (!srcForm [.accs, .snap] a)).source a false).fill buf (w.beat + 1) false false
  | 6 => (((w.names a).fail (!(srcForm [.lanes, .snap] a && halfForm a))).source a false).fill buf (w.beat + 1) false false
  | 7 => ((w.names a).fail (!(srcForm [.accs] a && halfForm a))).needBuf buf
  | 8 => (w.fail (!srcForm [.accs] a)).needBuf buf
  | 9 => (w.fail (!(srcForm [.lanes] a && halfForm a))).needBuf buf
  | 10 => (w.fail (!srcForm [.accs] a)).needBuf buf
  | _ => w

/-- The beats that a VEC operation occupies (R132, R133). -/
def vecBeats (ctl : Bool) (op : Nat) : Nat :=
  if ctl then (if op = 0x08 ∨ op = 0x09 then 4 else if op = 0x04 ∨ op = 0x05 ∨ op = 0x0C then 2 else 1)
  else if op = 0 then 1 else if op = 0x1A ∨ op = 0x1C ∨ op = 0x1D then 8 else 2

/-- Is the form of a VEC slot one that the loader admits (R148)? -/
def vecForm (b : Bundle) : Bool :=
  let v := vecArgs b
  if vecCtl b then
    match vecOp b with
    | 0x01 => zclrForm v
    | 0x04 | 0x05 => zrcpForm v
    | 0x06 | 0x07 => predForm v
    | 0x08 => topkForm v
    | _ => ctlForm v
  else
    match vecOp b with
    | 0x06 => mulrForm v
    | 0x07 => scaleForm v
    | 0x13 | 0x14 | 0x15 => cmpForm v
    | 0x16 => noSForm v
    | 0x17 | 0x18 | 0x19 => widenForm v
    | 0x1A => funcForm v && bitsOf v.b.toNat 0 3 != 7
    | 0x1B => if bitsOf v.b.toNat 0 2 = 1 then rssqForm v else noSForm v
    | 0x1C => gatherForm v
    | 0x1D => scatterForm v
    | _ => binForm v

/-- The rows that a VEC slot reads in its issue beat and the row that it writes at its end (R131 to R133, R145). -/
def vecReads (b : Bundle) : List Nat :=
  let v := vecArgs b
  let a := v.a.toNat
  let c := v.b.toNat
  if vecCtl b then
    match vecOp b with
    | 0x00 | 0x03 | 0x07 | 0x08 | 0x09 | 0x0C => [a]
    | _ => []
  else
    match vecOp b with
    | 0x07 | 0x16 | 0x17 | 0x18 | 0x19 | 0x1A | 0x1B | 0x1C => [a]
    | 0x1D => [a, c]
    | _ => if v.s then [a] else [a, c]

/-- The row that a VEC slot writes at its end. -/
def vecDest (b : Bundle) : Option Nat :=
  let d := (vecArgs b).d.toNat
  if vecCtl b then (if vecOp b = 0x02 ∨ vecOp b = 0x0A ∨ vecOp b = 0x0C then some d else none)
  else
    match vecOp b with
    | 0x13 | 0x14 | 0x15 | 0x1B | 0x1D => none
    | _ => some d

/-- The rows from which a ROWSEL selects: those of the table that K15 bounds, and every row where the walk does not know K15 (R145;
DEDUCED, log 16). -/
def Walk.selRows (w : Walk) : List Nat :=
  match w.k15 with
  | some x => (fromN (bitsOf x 0 12) (bitsOf x 16 12 * (bitsOf x 28 4 + 1))).filter (fun r => decide (r < 4096))
  | none => upto 4096

/-- Does some ROW operation of the beat write a row? ROWSEL touches every row of the store in its beat (R103, R131). -/
def Walk.rowWrites (w : Walk) (beat : Nat) : Bool := w.touches.any (fun c => c.1 == beat && !c.2.2.vec && c.2.2.writes)

/-- What a control operation leaves in K15, as far as the walk knows it: LDK of a constant row that the step has not written gives its
word; a ZRCP or ZRSQ into K14 and K15 gives what no walk knows (R133, R145). -/
def Walk.k15After (w : Walk) (b : Bundle) : Option Nat :=
  let v := vecArgs b
  let a := v.a.toNat
  if !vecCtl b then w.k15
  else if vecOp b = 0x00 ∧ bitsOf v.d.toNat 0 2 = 3 then
    (if w.pod.isConst a && !w.writes.contains a then some (rowU 32 (4 * bitsOf v.b.toNat 0 5 + 3) (w.pod.store.get a)) else none)
  else if (vecOp b = 0x04 ∨ vecOp b = 0x05) ∧ bitsOf v.d.toNat 0 4 = 14 then none
  else w.k15

/-- A conversion of the lane unit joins rows of two descriptors of a class that is not available, or of one that keeps MULT and TEXP while
the two differ (R48; DEDUCED, log 19). -/
def Pod.convBad (p : Pod) (a d : Nat) : Bool :=
  match p.descOfRow a, p.descOfRow d with
  | some i, some j =>
    let s := p.desc i
    let t := p.desc j
    match convClass (descFmt s) (descFmt t) (descSym t) (descMult s) with
    | .na => true
    | .q => false
    | _ => descMult s != descMult t || descTexp s != descTexp t
  | _, _ => false

/-- The VEC slot (R48, R103, R131, R148). -/
def Walk.vec (w : Walk) (b : Bundle) : Walk :=
  if !vecCtl b && vecOp b == 0 then w
  else
    let o := vecBeats (vecCtl b) (vecOp b)
    let t := w.beat
    let k := w.k15After b
    let conv := !vecCtl b && decide (0x17 ≤ vecOp b) && decide (vecOp b ≤ 0x19) && w.pod.convBad (vecArgs b).a.toNat (vecArgs b).d.toNat
    let w := (w.fail (!vecForm b || conv || decide (t < w.vecFree))).touchAll .vecRead t (vecReads b)
    let w := if vecCtl b && vecOp b == 0x0C then w.selRows.foldl Walk.reading (w.fail (w.rowWrites t)) else w
    let w := match vecDest b with | some d => w.touch .vecWrite (t + o) d | none => w
    let w := if !vecCtl b && vecOp b == 0x1C then
        (fromN t (o + 1)).foldl (fun w x => w.touchAll .vecRead x (fromN (vecArgs b).b.toNat 32)) w
      else if !vecCtl b && vecOp b == 0x1D then
        (fromN t (o + 1)).foldl (fun w x => w.touchAll .vecWrite x (fromN (vecArgs b).d.toNat 32)) w
      else w
    { w with vecFree := t + o, k15 := k }

/-- The ST slot (R98, R118). -/
def Walk.st (w : Walk) (b : Bundle) : Walk :=
  let a := stArgs b
  let x := w.pod.xfers.get a.xfer.val
  match stCode b with
  | 1 => let w := w.needBuf a.buf.val
         { w with xfers := { beat := w.beat, x := x, two := w.twoBufs.contains a.buf.val } :: w.xfers }
  | 2 => let w := w.fail (xferLslot x != a.lslot.val)
         { w with xfers := { beat := w.beat, fetch := true, x := x } :: w.xfers }
  | 3 => { w.fill a.buf.val (w.beat + 1) false false with recvs := (w.beat, a.lslot.val) :: w.recvs }
  | _ => w

/-- The SYN slot: a plaza with tallies (R120, R126). -/
def Walk.syn (w : Walk) (b : Bundle) : Walk := if synCode b = 0 then w else w.fail (!synForm (synArgs b))

/-- The CTL slot and the way to the next bundle (R101, R105, R106). -/
def Walk.ctl (w : Walk) (b : Bundle) : Walk :=
  let at_ := w.pod.pc
  if ctlCode b = 2 then { w.landAllLanes with ended := true }
  else
    let p := w.pod.advance.atNext
    let w := { w with pod := p, beat := w.beat + 1, bad := w.bad || (at_ == 4095 && p.pc == 0) }
    if ctlCode b = 1 then
      let a := loopArgs b
      let out := w.pod.loops
      { w with
        bad := w.bad || decide (a.stop.toNat ≤ at_.toNat) || decide (3 ≤ out.length) || out.any (fun f => f.lc == a.lc) ||
          out.any (fun f => decide (f.stop.toNat < a.stop.toNat)),
        pod := w.pod.openLoop at_ a.lc a.stop a.trips a.stride }
    else w

/-- One bundle: all slots read what stood before it (R103, R126). -/
def Walk.bundle (w : Walk) (wide : Bool) : Walk :=
  let b := w.pod.bundles.get w.pod.pc.toNat
  let before := w
  let w := { w with fresh := [], bufs := w.newBufs.foldl addOnce w.bufs, newBufs := [], landing := w.landing.filter (fun c => decide (w.beat ≤ c.1)),
                    touches := w.touches.filter (fun c => decide (w.beat ≤ c.1 + 1)) }
  let w := (w.landMarks.landLanes w.beat).fail (bundleReserved b)
  let w := w.arr b before.fresh
  let w := w.st b
  let w := w.acc b
  let w := w.row wide b
  let w := w.vec b
  (w.syn b).ctl b

/-- The walk up to STEP_END, a fault, or the end of the fuel. -/
def walkGo (wide : Bool) : Nat → Walk → Walk
  | 0, w => { w with bad := true }
  | n + 1, w => if w.ended || w.bad then w else walkGo wide n (w.bundle wide)

/-- The walk of one pod in one step kind; none where it takes no part. -/
def podWalk (p : Pod) (kind : Nat) (wide : Bool) : Option Walk :=
  match p.entries.get kind with
  | none => none
  | some e => some (walkGo wide (2 ^ 40) { pod := { p with pc := e } })

end Sys2Proof.Machine
end

