-- ==== Sys2Proof/Machine/ImgCheck.lean ====
section
/-! DEFINITION. The loader's checks 2 to 8 on the records of a staged image (R194, and the loader rules of every chapter). Each check
answers the first fault that it finds. -/
namespace Sys2Proof.Machine

/-! ### Checks 2 to 4 (R187, R194, R196, R454) -/

/-- The image bytes with the DIGEST field taken as zero (R196). -/
def digestInput (bs : List Byte) : List Byte := bs.take 0x020 ++ List.replicate 32 0 ++ bs.drop 0x040

/-- Check 2. -/
def check2 (bs : List Byte) : Option LoadFail :=
  firstBad 2 .imageInvalid [(shake256 32 (digestInput (bs.take (imgLength bs))) != imgDigest bs, 0x020)]

/-- Check 3: the owner signature where the image is signed or the policy demands it, and the image that an open tenant session
names (R194, R454, R473). -/
def State.check3 (s : State) (bs : List Byte) : Option LoadFail :=
  let key := s.sec.owners.get (imgOwnerKey bs)
  let good := !key.isEmpty && Sys2Proof.Config.xmssVerify key (BitVec.ofNat 256 (leVal (imgDigest bs))) ((bs.drop (imgLength bs)).take (imgSigLength bs))
  let other := match s.sec.tenant with
    | some t => t.image.any (fun b => b != 0) && t.image != imgDigest bs
    | none => false
  firstBad 3 .authFailed
    [(imgSigned bs && !good, imgLength bs), (!imgSigned bs && s.sec.policy.getLsbD 0, 0x00E), (other, 0x020)]

/-- Check 4: grade, stepping and bit-identity class (R2, R187). -/
def State.check4 (s : State) (bs : List Byte) : Option LoadFail :=
  let id := s.top.identity.toNat
  let t := imgTarget bs
  let grade := bitsOf id 24 4
  firstBad 4 .identityMismatch
    [(bitsOf t 8 4 != bitsOf id 20 4 || bitsOf t 4 4 != bitsOf id 16 4 || grade == 0 || !bitAt (bitsOf t 0 4) (grade - 1), 0x00C),
     (imgBic bs != bitsOf id 0 16, 0x00A)]

/-! ### Check 5: every use has its claim (R206) -/

/-- Does a claim of the image cover an index of a resource for a feature? -/
def Image.hasClaim (i : Image) (res feature idx : Nat) : Bool := i.claims.any (fun c => c.feature == feature && c.covers res idx)

/-- The tally of a SYN slot, as the index of resource 0x0005; a plaza without tallies has none to claim, and fails check 8 (R126). -/
def synUse (b : Bundle) : Option Nat :=
  if synCode b = 0 ∨ 4 < synCode b ∨ synForm (synArgs b) = false then none
  else some ((synArgs b).plaza.val * 2 ^ 16 + (synArgs b).index.toNat)

/-- The tallies that a POD_PROGRAM record uses. -/
def Rec.synUses (kinds : Nat) (r : Rec) : List Nat :=
  ((Rec.into kinds {} r).bundles.cells.filterMap (fun c => synUse c.2)).eraseDups

/-- The sub-ports that the Reach engines of an egress TIMETABLE own slots of (R299). -/
def Rec.egressUses (r : Rec) : List (Nat × Nat × Nat) :=
  let t := r.toTimetable
  if t.2.1 = 2 then
    t.2.2.2.2.filterMap (fun c =>
      if bitAt c 15 && bitsOf c 5 2 == 1 then some (2, 0x11, 64 * (t.2.2.1 - 24) + 8 * t.2.2.2.1 + bitsOf c 7 3) else none)
  else []

/-- The uses of claimable resources by one record: resource, feature, index. -/
def Rec.uses (kinds : Nat) (r : Rec) : List (Nat × Nat × Nat) :=
  match r.kind with
  | 0x0202 => (r.synUses kinds).map (fun x => (5, 0x40, x))
  | 0x0302 => r.egressUses
  | 0x0401 => if r.toRegion.2.exported then [(9, 0x11, r.toRegion.1)] else []
  | 0x0505 => [(2, 0x10, r.u 0x008 2)]
  | 0x0506 => if r.u 0x008 1 = 0xFF then [(6, 0x11, r.u 0x010 2)] else []
  | 0x0507 => [(2, 0x13, r.u 0x008 2), (6, 0x13, r.u 0x00A 2)]
  | 0x0701 => if r.toWindow.irq then [(4, 0x30, r.toWindow.msix)] else []
  | 0x0801 => [(2, 0x12, r.toEndpoint.subport), (6, 0x12, r.toEndpoint.udpPort)]
  | 0x0901 => [(3, 0x20, r.toProfile.2.sh)]
  | _ => []

/-- Does a ROUTE record name a sub-port that neither SCHED nor REACH claims, the features whose packets take routes (R206, R306; DEDUCED,
log 78)? -/
def Image.routeUnclaimed (i : Image) (r : Rec) : Bool :=
  r.kind == 0x0504 && r.toRoutes.2.any (fun e => !i.hasClaim 2 0x10 e.subport && !i.hasClaim 2 0x11 e.subport)

/-- Check 5 (R206). -/
def check5 (rs : List Rec) (i : Image) : Option LoadFail :=
  firstBad 5 .imageInvalid (rs.map (fun r => ((r.uses i.kinds).any (fun u => !i.hasClaim u.1 u.2.1 u.2.2) || i.routeUnclaimed r, r.off)))

/-! ### Check 6: no resource claimed twice (R207) -/

/-- Do two claims cover one index of one resource, and the lowest such index? -/
def Claim.clash (a b : Claim) : Option Nat :=
  if a.resource = b.resource ∧ max a.index b.index < min (a.index + a.count) (b.index + b.count) then some (max a.index b.index) else none

/-- The conflict of a claim with the first of those before it. -/
def clashWith (b : Claim) : List Claim → Option LoadFail
  | [] => none
  | a :: as => match a.clash b with
    | some k => some { check := 6, status := .claimConflict, off := b.off, res := b.resource, idx := k, feat := a.feature * 2 ^ 16 + b.feature }
    | none => clashWith b as

/-- Check 6 over the claims, those before first. -/
def check6Go (before : List Claim) : List Claim → Option LoadFail
  | [] => none
  | c :: cs => match clashWith c before with
    | some f => some f
    | none => check6Go (before ++ [c]) cs

/-- Check 6. -/
def check6 (i : Image) : Option LoadFail := check6Go [] i.claims

/-! ### Check 7 (R201) -/

/-- Check 7: a placement that avoids every retired pod. -/
def State.check7 (s : State) (i : Image) : Option LoadFail := firstBad 7 .imageInvalid [((s.usablePlacement i).isNone, 0)]

/-! ### Check 8: records by themselves -/

/-- How many sub-ports a MODE gives its port (R291, R292). -/
def modeCount : Nat → Nat
  | 0 => 1 | 1 => 2 | 2 => 8 | _ => 0

/-- Does the image give the port of a sub-port a mode that has it (R292)? -/
def Image.subOk (i : Image) (sub : Nat) : Bool :=
  match i.portModes.get (sub / 8) with
  | none => false
  | some m => decide (sub < 128) && decide (sub % 8 < modeCount m.mode)

/-- Is MACsec on at a sub-port? -/
def Image.macsecAt (i : Image) (sub : Nat) : Bool := ((i.portModes.get (sub / 8)).map (fun m => m.macsec)).getD false

/-- A multiple of? -/
def mult (n m : Nat) : Bool := n % m == 0

/-- Faults of a REGION record (R191, R203, R204, R274, R275, R325); reserved bits of its bytes are tested here (DESIGN CHOICE, log 114). -/
def State.regionBad (s : State) (r : Rec) : Bool :=
  let c := r.toRegion
  let g := c.2
  let n := g.stackList.length
  decide (4095 < c.1) || decide (5 < g.kind) || g.flags.getLsbD 7 || n == 0 || decide (11 < bitsOf g.interleave.toNat 0 4) ||
  bitsOf g.interleave.toNat 4 4 != 0 || !mult g.base 4096 || g.size == 0 || !mult g.size (4096 * n) || !mult g.size (g.granule * n) ||
  decide (63 * 2 ^ 30 < g.base + g.size / n) || g.stackList.any (fun h => (s.mem.get h).down) ||
  (g.exported != (g.key != 0)) || (g.wrap && g.kind != 1)

/-- Do two regions share bytes of a stack (R203)? -/
def Region.meets (a b : Region) : Bool :=
  (a.stackMask &&& b.stackMask) != 0 && decide (a.base < b.base + b.size / max 1 b.stackList.length) &&
  decide (b.base < a.base + a.size / max 1 a.stackList.length)

/-- Does the ROW slot hold a form that R108 and R126 refuse? -/
def rowSlotBad (b : Bundle) : Bool :=
  match rowCode b with
  | 1 | 2 | 6 => !plainRowForm (rowArgs b)
  | 3 => !pairForm (rowArgs b)
  | 4 => !loadsForm (rowArgs b)
  | 5 => !loadcForm (rowArgs b)
  | _ => false

/-- Does the ACC slot hold a SRC, PART or DESC that R78, R116 and R126 refuse? -/
def Pod.accSlotBad (p : Pod) (b : Bundle) : Bool :=
  let a := accArgs b
  match accCode b with
  | 1 | 2 => !srcForm [.accs, .lanes] a
  | 3 => !p.rqDescForm a
  | 4 => !(srcForm [.accs, .snap] a && halfForm a)
  | 5 => !srcForm [.accs, .snap] a
  | 6 => !(srcForm [.lanes, .snap] a && halfForm a)
  | 7 => !(srcForm [.accs] a && halfForm a)
  | 8 | 10 => !srcForm [.accs] a
  | 9 => !(srcForm [.lanes] a && halfForm a)
  | _ => false

/-- Faults that one bundle shows by itself, wherever it stands: its forms, the landing slots of a FETCH, and the END of a loop (R106, R108,
R116, R118, R126, R148). -/
def Pod.bundleBad (p : Pod) (c : Nat × Bundle) : Bool :=
  let b := c.2
  bundleReserved b || rowSlotBad b || p.accSlotBad b || ((vecCtl b || vecOp b != 0) && !vecForm b) ||
  (stCode b == 2 && xferLslot (p.xfers.get (stArgs b).xfer.val) != (stArgs b).lslot.val) || (synCode b != 0 && !synForm (synArgs b)) ||
  (ctlCode b == 1 && decide ((loopArgs b).stop.toNat ≤ c.1))

/-- Faults of the bundles of a POD_PROGRAM record, reached or not (R126, R148). -/
def Rec.bundlesBad (i : Image) (r : Rec) : Bool :=
  (Rec.into i.kinds {} r).bundles.cells.any (i.podOf r.place r.sh r.pod).bundleBad

/-- Faults that a transfer entry of shallot `sh` shows by itself, used or not (R215, R228, R230, R277); an entry of zeros is one that the
image leaves unused (DEDUCED, log 96). -/
def Image.xferEntryBad (i : Image) (sh : Nat) (e : Entry128) : Bool :=
  let d := xferDest e
  let away := match i.regions.get (xferRegion e) with
    | none => true
    | some g =>
      let o := 64 * xferOffset e
      let n := 64 * (xferFlits e + 1)
      !g.holds o n || o / g.granule != (o + n - 1) / g.granule || (g.locate o).1 + 8 != d
  e != 0 &&
  ((decide (d < 8) && d != sh && !xferBarrier e) || (decide (7 < d) && decide (d < 24) && away) || bitsOf e.toNat 106 22 != 0 ||
   bitsOf e.toNat 96 4 != 0 || decide (23 < d) || (d != sh && decide (streetWidth sh d ≤ xferWfirst e)) ||
   (decide (7 < d) && decide (streetWidth d sh ≤ xferRfirst e)))

/-- Faults of a POD_PROGRAM, DESCRIPTORS, RQ_TABLE, XFER_TABLE or POD_ROWS record by itself (R29, R41, R75, R126, R198, R199). -/
def Rec.podBad (i : Image) (r : Rec) : Bool :=
  let pl := i.placements[r.place]?
  let placed := match pl with | some p => decide (r.sh < 8) && (p.pods.get r.sh).getLsbD r.pod | none => false
  !placed || decide (511 < r.pod) ||
  match r.kind with
  | 0x0202 => r.u 0x00C 2 == 0 || decide (4096 < r.u 0x00C 2) || r.bundlesBad i ||
      (upto i.kinds).any (fun k => decide (4095 < r.u (0x010 + 2 * k) 2) && r.u (0x010 + 2 * k) 2 != 0xFFFF)
  | 0x0203 => decide (256 < r.first + r.count) || (upto r.count).any (fun k => descFault (r.entry k))
  | 0x0204 => decide (64 < r.first + r.count)
  | 0x0205 => decide (1024 < r.first + r.count) || (upto r.count).any (fun k => i.xferEntryBad r.sh (r.entry k))
  | _ => decide (4096 < r.first + r.count)

/-- Faults of an observer by itself and with the descriptors of its tensor (R84). -/
def Rec.observerBad (r : Rec) : Bool :=
  decide (4095 < r.u 0x00A 2) || decide (4095 < r.u 0x008 2 + r.u 0x00A 2) ||
  r.toObservers.any (fun c => ({ raw := c.2 } : ObserverEntry).fault)

/-- Faults of a STREET_USE record: the plaza and its lanes (R202). -/
def Rec.streetBad (r : Rec) : Bool := decide (26 < r.u 0x008 1) || decide (128 < r.u 0x00A 2)

/-- Faults of the entries of a TIMETABLE (R202, R232, R278, R299); the owner of an egress slot names a sub-port that its port's mode has
(R292). -/
def Rec.timetableBad (i : Image) (r : Rec) : Bool :=
  let t := r.toTimetable
  let kind := t.2.1
  let unit := t.2.2.2.1
  let exist := (kind == 0 && decide (t.2.2.1 < 8) && decide (unit < 16)) || (kind == 1 && plazaKind t.2.2.1 == 1 && decide (unit < 64)) ||
    (kind == 2 && plazaKind t.2.2.1 == 2 && decide (unit < 8))
  !exist || (t.2.2.2.2.zipIdx).any (fun c =>
    (!bitAt c.1 15 && c.1 != 0) || (bitAt c.1 15 &&
      ((kind == 0 && bitAt c.1 0) || (kind == 1 && (c.2 == 0 || c.2 % 32 == 31)) || 
       (kind == 2 && (bitsOf c.1 5 2 != 1 || !i.subOk (64 * (t.2.2.1 - 24) + 8 * unit + bitsOf c.1 7 3))))))

/-- Faults of a WINDOW record (R205). -/
def Rec.windowBad (i : Image) (r : Rec) : Bool :=
  let w := r.toWindow
  decide (63 < w.num) || bitsOf w.flags.toNat 3 5 != 0 || decide (63 < w.msix) || w.period == 0 || decide (w.period ≤ w.phase) ||
  !mult w.addr 4096 || !mult w.seqAddr 8 || !mult w.size 4096 ||
  match i.regions.get w.region with | none => true | some g => !g.holds w.regionOffset w.size

/-- The features that may claim a resource, and its indices (R206). -/
def claimKnown (res feature : Nat) : Bool :=
  match res with
  | 1 => feature == 1 || feature == 2
  | 2 => feature == 0x10 || feature == 0x11 || feature == 0x12 || feature == 0x13
  | 3 => feature == 0x20
  | 4 => feature == 0x30 || feature == 0x31
  | 5 => feature == 0x40
  | 6 => feature == 0x11 || feature == 0x12 || feature == 0x13
  | 7 => feature == 0x50
  | 9 => feature == 0x11
  | _ => false

/-- The number of indices of a resource (R206). -/
def claimRange : Nat → Nat
  | 1 => 1 | 2 => 128 | 3 => 8 | 4 => 64 | 5 => 26 * 2 ^ 16 | 6 => 2 ^ 16 | 7 => 16 | _ => 4096

/-- Faults of a CLAIM record (R206, R292, R357). -/
def Rec.claimBad (i : Image) (r : Rec) : Bool :=
  let c := r.toClaim
  !claimKnown c.resource c.feature || decide (claimRange c.resource < c.index + c.count) ||
  (c.resource == 4 && c.covers 4 0) || (c.resource == 7 && (decide (c.param < 50) || decide (90 < c.param))) ||
  (c.resource == 2 && (fromN c.index c.count).any (fun x => !i.subOk x))

/-- Faults of an ENDPOINT record (chapter 12). -/
def Rec.endpointBad (i : Image) (r : Rec) : Bool :=
  let e := r.toEndpoint
  let small := fun (n : Nat) => match i.regions.get n with
    | none => true
    | some g => g.kind != 5 || !g.holds 0 (e.depth * e.calls * (e.payload + 64))
  e.sessions == 0 || decide (4096 < e.sessions) || e.calls == 0 || decide (1024 < e.calls) || !mult e.payload 64 || decide (8192 < e.payload) ||
  e.period == 0 || decide (e.period ≤ e.phase) || decide (1024 < e.delay) || decide (e.depth < cdiv (e.delay + 1) (max 1 e.period)) ||
  small e.reqRegion || small e.replyRegion || !i.subOk e.subport

/-- Do the segments of a profile rise by at least 8,192 beats from beat 0 (R210, R432)? -/
def segsRise : List (Nat × Nat × Nat) → Bool
  | a :: b :: l => decide (a.1 + 8192 ≤ b.1) && segsRise (b :: l)
  | _ => true

/-- Faults of a PROFILE record. -/
def Rec.profileBad (i : Image) (r : Rec) : Bool :=
  let p := r.toProfile.2
  decide (7 < p.sh) || decide (i.kinds ≤ p.kind) || p.segs.isEmpty || decide (64 < p.segs.length) || !segsRise p.segs ||
  (p.segs.head?.map (fun g => g.1)).getD 1 != 0 || p.segs.any (fun g => decide (2880 < g.2.1) || decide (512 < g.2.2))

/-- Faults of a RECESS_POINT record (R211). -/
def Rec.recessBad (r : Rec) : Bool :=
  let p := r.toRecess
  p.period == 0 || decide (p.period ≤ p.phase) || p.maxUs == 0 || bitsOf p.allow.toNat 3 5 != 0

/-- Faults of a STEP_TABLE record (R199). -/
def Rec.stepTableBad (i : Image) (r : Rec) : Bool :=
  r.u 0x008 2 == 0 || decide (1024 < r.u 0x008 2) || r.u 0x00C 4 == 0 || decide (65536 < r.u 0x00C 4) || i.seq.any (fun k => decide (i.kinds ≤ k))

/-- Faults of a PLACE_MAP record (R198): pods only in shallots that the placement uses. -/
def Rec.placeBad (r : Rec) : Bool :=
  let p := r.toPlacement
  bitsOf (r.u 0x009 1) 4 4 != 0 || shallotNums.any (fun n => !p.shallots.getLsbD n && p.pods.get n != 0)

/-- Faults of a PORT_MODE record (R292, R473). -/
def State.portModeBad (s : State) (r : Rec) : Bool :=
  decide (15 < r.u 0x008 1) || decide (2 < r.u 0x009 1) || decide (1 < r.u 0x00A 1) || (s.sec.policy.getLsbD 2 && r.u 0x00A 1 == 0)

/-- Do two sending windows of a sub-port overlap (R300)? -/
def Stream.meets (a b : Stream) : Bool :=
  a.dir == 0 && b.dir == 0 && a.subport == b.subport && decide (a.start < b.start + b.length) && decide (b.start < a.start + a.length)

/-- Does some pair of a list, in order, satisfy a test? -/
def somePair {α : Type} (t : α → α → Bool) : List α → Bool
  | [] => false
  | a :: l => l.any (t a) || somePair t l

/-- Faults of a stream of a PORT_SCHEDULE (R299, R300, R302, R458). -/
def Image.streamBad (i : Image) (x : Stream) : Bool :=
  decide (65534 < x.num) || decide (1 < x.dir) || decide (31 < x.engine) || x.cycle == 0 || decide (2 ^ 20 < x.cycle) || !mult x.bytes 64 ||
  !i.subOk x.subport || (if x.dir = 0 then decide (x.cycle < x.start + x.length) else x.start != 0 || x.length != 0) ||
  match i.regions.get x.region with
  | none => true
  | some g => !g.holds x.roffset x.bytes || g.kind != (if x.dir = 0 then 4 else 0) || (g.session && !i.macsecAt x.subport)

/-- The sub-ports that Reach may use to a peer. -/
def Image.peerSubs (i : Image) (peer : Nat) : List Nat := (i.routes.get peer).map (fun r => r.subport)

/-- Faults of a Reach operation (R318, R320, R458). -/
def Image.reachOpBad (i : Image) (x : ReachOp) : Bool :=
  let aop := x.aop % 128
  let tallyBad := fun (t : Word) (local_ : Bool) =>
    bitsOf t.toNat (if local_ then 16 else 21) (if local_ then 15 else 10) != 0 || (t.getLsbD 31 &&
      !i.hasClaim 5 0x40 ((if local_ then 24 + x.engine / 16 else bitsOf t.toNat 16 5) * 2 ^ 16 + bitsOf t.toNat 0 16))
  let lr := i.regions.get x.lregion
  decide (31 < x.engine) || decide (i.kinds ≤ x.kind) || x.op == 0 || decide (3 < x.op) || x.trigger != (if x.op = 1 then 0 else 1) ||
  (x.op != 3 && x.aop != 0) || (x.op == 3 && (aop == 0 || decide (12 < aop))) ||
  (x.op == 3 && bitAt x.aop 7 && !([1, 2, 3, 4, 5, 6, 10, 11].contains aop)) || decide (15 < x.hflag) ||
  (i.peerSubs x.peer).isEmpty || !mult x.length 64 || x.length == 0 || decide (2 ^ 28 < x.length) || !mult x.loffset 64 || !mult x.roffset 64 ||
  tallyBad x.tally false || tallyBad x.done true ||
  match lr with
  | none => true
  | some g => (if x.op = 1 then !g.canWrite else !g.canRead) || !g.holds x.loffset x.length ||
      (g.session && (i.peerSubs x.peer).any (fun p => !i.macsecAt p))

/-- Faults of a REACH_PARAMS record (R317, R320). -/
def Rec.reachBad (r : Rec) : Bool :=
  !zeroAt r.body 1 1 || !zeroAt r.body 4 4 ||
  (if r.u 0x008 1 = 0xFF then !zeroAt r.body 0x00C 4 || r.u 0x00A 2 != 0 || decide (r.u 0x012 2 < 10) || decide (10000 < r.u 0x012 2)
   else decide (31 < r.u 0x008 1))

/-- Faults of DOMAIN, ROUTE, ADDRESS and JOURNAL_PORT records (R171, R292, R306, R308). -/
def Rec.netBad (i : Image) (r : Rec) : Bool :=
  match r.kind with
  | 0x0502 => !i.subOk (r.u 0x008 2)
  | 0x0503 => r.u 0x008 2 == 0 || decide (2048 < r.u 0x008 2) || decide (r.u 0x008 2 ≤ r.u 0x00A 2) || r.u 0x00C 2 == 0 || decide (1000 < r.u 0x00C 2)
  | 0x0504 => decide (2047 < r.u 0x008 2) || r.u 0x00A 1 == 0 || decide (5 < r.u 0x00A 1) || r.toRoutes.2.any (fun e => !i.subOk e.subport)
  | 0x0507 => !i.subOk (r.u 0x008 2)
  | _ => false

/-- Check 8 on one record by itself. -/
def State.recBad (s : State) (i : Image) (r : Rec) : Bool :=
  match r.kind with
  | 0x0101 => r.placeBad
  | 0x0201 => r.stepTableBad i
  | 0x0202 | 0x0203 | 0x0204 | 0x0205 | 0x0206 => r.podBad i
  | 0x0207 => r.observerBad
  | 0x0301 => r.streetBad
  | 0x0302 => r.timetableBad i
  | 0x0401 => s.regionBad r
  | 0x0402 => decide (4096 < r.u 0x008 2 + r.u 0x00A 2)
  | 0x0501 => s.portModeBad r
  | 0x0505 => r.toStreams.any i.streamBad
  | 0x0506 => r.reachBad || (r.u 0x008 1 != 0xFF && r.toReachOps.any i.reachOpBad)
  | 0x0601 => r.claimBad i
  | 0x0701 => r.windowBad i
  | 0x0801 => r.endpointBad i
  | 0x0901 => r.profileBad i
  | 0x0A01 => r.recessBad
  | _ => r.netBad i

/-! ### Check 8: the image as a whole -/

/-- Faults between observers: one TENSOR_ID twice, indices that do not rise, across records too (DESIGN CHOICE, log 114), and TEXP outside the
range with an offset (R84, R199). -/
def Image.observersBad (i : Image) : Bool :=
  let os := i.observers.map (fun c => (c.1, ({ raw := c.2 } : ObserverEntry)))
  let descs := (i.podRecs.filter (fun r => r.kind == 0x0203)).flatMap (fun r => (upto r.count).map r.entry)
  somePair (fun a b => a.2.tid == b.2.tid || decide (b.1 ≤ a.1)) os ||
  os.any (fun o => descs.any (fun d => descTid d == o.2.tid &&
    (decide (descTexp d + o.2.dMin < -128) || decide (127 < descTexp d + o.2.dMax))))

/-- The lowest and the highest offset of an observer that a requantisation entry names (R75); none where it names none. -/
def Image.obsRange (i : Image) (k : Nat) : Option (Int × Int) :=
  if k = 0xFFF then some (0, 0)
  else (i.observers.find? (fun c => c.1 == k)).map (fun c => ((({ raw := c.2 } : ObserverEntry)).dMin, (({ raw := c.2 } : ObserverEntry)).dMax))

/-- How often an entry's effective shift adds the offset of observer `k`: once as OBS_OUT, and less one as each input (R74). -/
def RqEntry.coef (e : RqEntry) (k : Nat) : Int := (b2n (e.obsOut == k) : Int) - b2n (e.obsA == k) - b2n (e.obsB == k)

/-- The least and the greatest effective shift over all offsets within the limits of the observers named; one observer named twice has
one offset (R74, R75). -/
def Image.shiftRange (i : Image) (e : RqEntry) : Int × Int :=
  [e.obsA, e.obsB, e.obsOut].eraseDups.foldl (fun (a : Int × Int) k =>
    let r := (i.obsRange k).getD (0, 0)
    let c := e.coef k
    if 0 ≤ c then (a.1 + c * r.1, a.2 + c * r.2) else (a.1 + c * r.2, a.2 + c * r.1)) (e.shift, e.shift)

/-- Faults of a requantisation entry (R75). -/
def Image.rqBad (i : Image) (e : RqEntry) : Bool :=
  e.mult == 0 || decide (4 < e.rmode) || [e.obsA, e.obsB, e.obsOut].any (fun k => (i.obsRange k).isNone) ||
  decide ((i.shiftRange e).1 < -64) || decide (255 < (i.shiftRange e).2)

/-- One resource twice in a list of keys. -/
def twice {α : Type} [DecidableEq α] (l : List α) : Bool := somePair (fun a b => a == b) l

/-- Two records of one pod and placement write one entry or one row (R200); one without entries writes none. -/
def Rec.overwrites (a b : Rec) : Bool :=
  a.kind == b.kind && a.place == b.place && a.sh == b.sh && a.pod == b.pod &&
  (a.kind == 0x0202 || (a.count != 0 && b.count != 0 && decide (a.first < b.first + b.count) && decide (b.first < a.first + a.count)))

/-- An exported region that Reach may change and that no step may read, since it is not SCHEDULED (R325). -/
def Image.openRegion (i : Image) (r : Nat) : Bool :=
  match i.regions.get r with
  | some g => g.exported && (g.canWrite || g.canAtomic) && !g.scheduled
  | none => false

/-- Does a step read such a region outside its pods: a Reach source, a scheduled send, an output window, or the replies of the endpoint
(R311, R325)? -/
def Image.exportBad (i : Image) : Bool :=
  i.reachOps.any (fun x => x.op != 1 && i.openRegion x.lregion) || i.streams.any (fun x => x.dir == 0 && i.openRegion x.region) ||
  i.windows.any (fun w => w.isOutput && i.openRegion w.region) || (match i.endpoint with | some e => i.openRegion e.replyRegion | none => false)

/-- Faults among all records but the programs' behaviour (R198 to R205, R300, R317). -/
def Image.wholeBad (i : Image) (rs : List Rec) : Bool :=
  let regs := i.regions.cells.filterMap (fun c => c.2)
  let journals := regs.filter (fun g => g.kind == 1)
  let counts := (fun (k : Nat) => (ofKind rs k).length)
  i.placements.length != counts 0x0101 || counts 0x0101 == 0 || counts 0x0201 != 1 || counts 0x0402 != 1 ||
  somePair Rec.overwrites i.podRecs || (ofKind rs 0x0204).any (fun r => (upto r.count).any (fun k => i.rqBad { raw := r.entry k })) ||
  i.observersBad || i.exportBad || twice ((ofKind rs 0x0401).map (fun r => r.u 0x008 2)) || somePair Region.meets regs ||
  journals.length != 1 || journals.any (fun g => !((fromN 20 17).any (fun n => g.size == 2 ^ n))) || !regs.any (fun g => g.kind == 2) ||
  twice (i.windows.map (fun w => w.num)) || decide (64 < i.windows.length) || twice ((ofKind rs 0x0501).map (fun r => r.u 0x008 1)) ||
  twice ((ofKind rs 0x0502).map (fun r => r.u 0x008 2)) || decide (1 < counts 0x0503) || twice ((ofKind rs 0x0504).map (fun r => r.u 0x008 2)) ||
  twice ((ofKind rs 0x0505).map (fun r => r.u 0x008 2)) || somePair Stream.meets i.streams ||
  (counts 0x0506 != 0 && ((ofKind rs 0x0506).filter (fun r => r.u 0x008 1 == 0xFF)).length != 1) || twice i.reachEngines ||
  decide (1 < counts 0x0507) || decide (1 < counts 0x0801) || twice (i.timetables.map (fun t => (t.1, t.2.1, t.2.2.1, t.2.2.2.1))) ||
  twice (i.streetUse.map (fun u => u.1)) || twice (i.profiles.map (fun p => (p.1, p.2.sh, p.2.kind)))

/-! ### Check 8: the programs (R70, R126, R148, R162, R166, R200, R201, R225, R230, R239, R277, R280, R325, R396) -/

/-- The entry of an arbitrated resource's timetable in a placement. -/
def Image.slotEntry (i : Image) (pl kind plaza unit slot : Nat) : Nat :=
  match i.timetables.find? (fun t => t.1 == pl && t.2.1 == kind && t.2.2.1 == plaza && t.2.2.2.1 == unit) with
  | none => 0
  | some t => (t.2.2.2.2[slot]?).getD 0

/-- Is an ingress slot owned by a source for a pod and landing slot (R232, R239)? -/
def Image.ownsIngress (i : Image) (pl sh pod src lslot close : Nat) : Bool :=
  i.slotEntry pl 0 sh (pod / 32) ((close - 1) % 4096) == 2 ^ 15 + src * 2 ^ 10 + pod % 32 * 2 ^ 5 + lslot * 2

/-- CLOSE of an in-step transfer issued in beat t: 6 beats on the avenue buses, 327 for a FETCH (R159). -/
def closeOf (fetch : Bool) (t : Nat) : Nat := if fetch then t + 4 + 323 else t + 6

/-- The pseudo-channels that a run of 64-byte units of a region covers (R276). -/
def Region.channels (r : Region) (o n : Nat) : List Nat := (upto n).map (fun k => ((r.locate (o + 64 * k)).2 / 64) % 64)

/-- Faults of a transfer at a stack (R228, R230, R274, R277, R280); a SEND of two rows names 16 units (R69). -/
def State.stackXferBad (s : State) (i : Image) (pl sh pod : Nat) (fetch two : Bool) (x : Entry128) : Bool :=
  let d := xferDest x
  let n := if two && !fetch then 16 else xferFlits x + 1
  let o := 64 * xferOffset x
  let m := xferMslot x
  let owner := 2 ^ 15 + sh * 2 ^ 10 + b2n (!fetch) * 2 ^ 9 + pod
  match i.regions.get (xferRegion x) with
  | none => true
  | some g =>
    (if fetch then !g.canRead else !g.canWrite) || !g.holds o (64 * n) || o / g.granule != (o + 64 * n - 1) / g.granule ||
    (g.locate o).1 + 8 != d || (s.mem.get (d - 8)).down ||
    (m != 0 && (g.channels o n).any (fun p => i.slotEntry pl 1 d p m != owner))

/-- Is the street to a plaza, or the one back for a FETCH, down (R225)? -/
def State.xferStreetDown (s : State) (sh : Nat) (fetch : Bool) (d : Nat) : Bool :=
  let down := fun (a b : Nat) => (upto (streetWidth a b)).all (fun w => ((s.street a b).waves.get w).down)
  down sh d || (fetch && down d sh)

/-- Faults that one issue of a transfer shows by itself (R225, R228, R230, R239). -/
def State.xferBad (s : State) (i : Image) (pl sh pod : Nat) (x : WalkXfer) : Bool :=
  let e := x.x
  let d := xferDest e
  let reserved := bitsOf e.toNat 106 22 != 0 || bitsOf e.toNat 96 4 != 0
  reserved ||
  (if x.fetch then
     decide (d < 8) || decide (23 < d) || decide (streetWidth sh d ≤ xferWfirst e) || decide (streetWidth d sh ≤ xferRfirst e) ||
     decide (7 < xferFlits e) || s.stackXferBad i pl sh pod true false e || s.xferStreetDown sh true d ||
     !i.ownsIngress pl sh pod d (xferLslot e) (closeOf true x.beat)
   else if d = sh then
     bitsOf e.toNat 77 19 != 0 || xferFlits e != 7 || (!xferBarrier e && !i.ownsIngress pl sh (xferUnit e) sh (xferLslot e) (closeOf false x.beat))
   else if d < 8 then
     bitsOf e.toNat 77 19 != 0 || xferFlits e != 7 || !xferBarrier e || decide (streetWidth sh d ≤ xferWfirst e) || s.xferStreetDown sh false d
   else if d < 24 then
     decide (streetWidth sh d ≤ xferWfirst e) || s.stackXferBad i pl sh pod false x.two e || s.xferStreetDown sh false d
   else true)

/-- A walk with the pod that made it. -/
structure PodWalk where
  sh : Nat := 0
  pod : Nat := 0
  w : Walk := {}
deriving DecidableEq, Repr, Inhabited

/-- The placed pods of a placement. -/
def Placement.podList (p : Placement) : List (Nat × Nat) :=
  (upto 8).flatMap (fun n => ((upto 512).filter (fun k => (p.pods.get n).getLsbD k)).map (fun k => (n, k)))

/-- The walks of every placed pod in one step kind. -/
def Image.walks (i : Image) (pl kind : Nat) (wide : Bool) : List PodWalk :=
  (((i.placements[pl]?).getD {}).podList).filterMap (fun c =>
    (podWalk (i.podOf pl c.1 c.2) kind wide).map (fun w => { sh := c.1, pod := c.2, w := w }))

/-- The store rows that a barrier transfer writes at its destination (R124, R229). -/
def Pod.barrierDest (p : Pod) (x : WalkXfer) (wide : Bool) : List Nat :=
  let r := xferRow x.x
  if wide && x.two then
    match p.a96OfRow r with
    | some d => [descDataRow d + 2 * (r - descDataRow d), descDataRow d + 2 * (r - descDataRow d) + 1]
    | none => [r]
  else [r]

/-- The barrier rows that a pod receives in a step, as the walks of the others send them. -/
def barrierRowsTo (ws : List PodWalk) (p : Pod) (sh pod : Nat) (wide : Bool) : List Nat :=
  ws.flatMap (fun v => (v.w.xfers.filter (fun x => !x.fetch && xferBarrier x.x && xferDest x.x == sh && xferUnit x.x == pod)).flatMap
    (fun x => p.barrierDest x wide))

/-- In-step transfers into a landing slot: the beats in which they issue (R159). -/
def instepInto (ws : List PodWalk) (sh pod slot : Nat) : List Nat :=
  ws.flatMap (fun v => if v.sh = sh then
      (v.w.xfers.filter (fun x => if x.fetch then v.pod == pod && xferLslot x.x == slot
        else xferDest x.x == sh && xferUnit x.x == pod && !xferBarrier x.x && xferLslot x.x == slot)).map (fun x => x.beat)
    else [])

/-- Does a row lie in the checkpoint rows (R204)? -/
def Image.ckptRow (i : Image) (r : Nat) : Bool := decide (i.ckptBase ≤ r) && decide (r < i.ckptBase + i.ckptRows)

/-- The barrier transfers that a pod sends and that its receiver cannot take: no single A96 descriptor for two rows, a constant row or a
checkpoint row,
or a landing slot that an in-step transfer of the step names (R200, R230). -/
def Image.barrierBad (i : Image) (pl : Nat) (ws : List PodWalk) (wide : Bool) (x : WalkXfer) : Bool :=
  let e := x.x
  let p := i.podOf pl (xferDest e) (xferUnit e)
  !x.fetch && decide (xferDest e < 8) && xferBarrier e &&
  ((x.two && p.a96Count (xferRow e) != 1) || (p.barrierDest x wide).any (fun r => p.isConst r || i.ckptRow r) ||
   !(instepInto ws (xferDest e) (xferUnit e) (xferLslot e)).isEmpty)

/-- The bytes of HBM that a transfer of the step touches: region, offset, bytes, and whether it writes (R162). -/
def memTouch (x : WalkXfer) : Option (Nat × Nat × Nat × Bool) :=
  if 8 ≤ xferDest x.x then some (xferRegion x.x, 64 * xferOffset x.x, 64 * (if x.two && !x.fetch then 16 else xferFlits x.x + 1), !x.fetch) else none

/-- Do two touches of HBM conflict (R162)? -/
def memClash (a b : Nat × Nat × Nat × Bool) : Bool :=
  a.1 == b.1 && (a.2.2.2 || b.2.2.2) && decide (a.2.1 < b.2.1 + b.2.2.1) && decide (b.2.1 < a.2.1 + a.2.2.1)

/-- The Reach loads of a step kind write their local regions (R161, R319). -/
def Image.reachTouches (i : Image) (kind : Nat) : List (Nat × Nat × Nat × Bool) :=
  (i.reachOps.filter (fun x => x.kind == kind && x.op == 1)).map (fun x => (x.lregion, x.loffset, x.length, true))

/-- The runs of rows that a descriptor occupies (R517). -/
def descRuns (d : Entry128) : List (Nat × Nat) :=
  [(descDataRow d, descNRows d + 1), (descScaleRow d, descScaleCount d), (descCmulRow d, descCmulCount d)]

/-- Do two runs of rows share one? -/
def runsMeet (a b : Nat × Nat) : Bool := decide (a.1 < b.1 + b.2) && decide (b.1 < a.1 + a.2)

/-- Does a step name the descriptor: by its index, or by a data row that a slot names (DEDUCED, log 17)? -/
def Walk.namesDesc (w : Walk) (i : Nat) (d : Entry128) : Bool := w.descs.contains i || w.named.any (descHasRow d)

/-- The rows behind an A96 tensor of a step overlap another descriptor that the step names in this pod (R70). Rows behind row 4,095 are not
refused (DESIGN CHOICE, log 109). -/
def Pod.a96Overlap (p : Pod) (w : Walk) : Bool :=
  let ds := (p.descs.cells.filterMap (fun c => c.2.map (fun d => (c.1, d)))).filter (fun c => w.namesDesc c.1 c.2)
  ds.any (fun c => descFmt c.2 == .a96 && ds.any (fun e => e.1 != c.1 &&
    (descRuns e.2).any (runsMeet (descDataRow c.2 + descNRows c.2 + 1, descNRows c.2 + 1))))

/-- The rows that a checkpoint of the step holds: written and also read (R166). -/
def Walk.ckptSet (w : Walk) (more : List Nat) : List Nat := ((w.writes ++ more).filter (fun r => w.reads.contains r)).eraseDups

/-- Faults of one pod's walk among the walks of its step (R126, R162, R200, R201, R204, R225, R230, R239). -/
def State.walkBad (s : State) (i : Image) (pl : Nat) (wide : Bool) (ws : List PodWalk) (v : PodWalk) : Bool :=
  let w := v.w
  let p := i.podOf pl v.sh v.pod
  let bars := barrierRowsTo ws p v.sh v.pod wide
  w.bad || !w.ended ||
  w.xfers.any (fun x => s.xferBad i pl v.sh v.pod x || i.barrierBad pl ws wide x) ||
  w.recvs.any (fun c => !(instepInto ws v.sh v.pod c.2).any (fun t => decide (t < c.1))) ||
  bars.any (fun r => w.reads.contains r || w.writes.contains r || i.ckptRow r) ||
  w.writes.any p.isConst || w.named.any i.ckptRow ||
  (decide (1 < i.placements.length) && w.early.any (fun r => !p.isConst r))

/-- Faults of one step kind in one placement, narrow and wide. -/
def State.kindBad (s : State) (i : Image) (pl kind : Nat) : Bool :=
  let ns := i.walks pl kind false
  let ds := i.walks pl kind true
  ns.any (fun v => v.w.xfers.any (fun x => x.fetch && i.openRegion (xferRegion x.x))) ||
  ns.any (fun v =>
    let p := i.podOf pl v.sh v.pod
    p.a96Overlap { v.w with named := barrierRowsTo ns p v.sh v.pod false ++ v.w.named }) || ns.any (s.walkBad i pl false ns) || ds.any (s.walkBad i pl true ds) ||
  ns.any (fun v => match ds.find? (fun u => u.sh == v.sh && u.pod == v.pod) with
    | some u => decide (i.ckptRows < ((v.w.ckptSet []) ++ (u.w.ckptSet [])).eraseDups.length)
    | none => true) ||
  somePair memClash (ns.flatMap (fun v => v.w.xfers.filterMap memTouch) ++ i.reachTouches kind)

/-- Faults of one placed pod by itself: its program record, its descriptors (R200, R204). -/
def Image.podBad (i : Image) (pl sh pod : Nat) : Bool :=
  let p := i.podOf pl sh pod
  !(i.recsOf pl sh pod).any (fun r => r.kind == 0x0202) ||
  (p.descs.cells.filterMap (fun c => c.2)).any (fun d => i.ckptRows != 0 && (descRuns d).any (runsMeet (i.ckptBase, i.ckptRows)))

/-- Is a region one of those that each twin writes its own copy of (R396)? -/
def Image.twinRegion (i : Image) (r : Nat) : Bool :=
  (match i.regions.get r with | some g => g.kind == 4 || g.kind == 5 | none => false) || i.windows.any (fun w => w.isOutput && w.region == r)

/-- May the twin's entry stand beside this one: the same, but region r + 1 for an even r (R396)? -/
def Image.twinEntry (i : Image) (a b : Entry128) : Bool :=
  if decide (8 ≤ xferDest a) && i.twinRegion (xferRegion a) then
    xferRegion a % 2 == 0 && b == a + BitVec.ofNat 128 (2 ^ 52)
  else a == b

/-- Faults of a twin pair of a placement (R396). -/
def Image.twinBad (i : Image) (pl n : Nat) : Bool :=
  let p := (i.placements[pl]?).getD {}
  p.twin.getLsbD n &&
  (!(p.shallots.getLsbD (2 * n)) || !(p.shallots.getLsbD (2 * n + 1)) || p.pods.get (2 * n) != p.pods.get (2 * n + 1) ||
   (upto 512).any (fun k => (p.pods.get (2 * n)).getLsbD k &&
     (let a := i.podOf pl (2 * n) k
      let b := i.podOf pl (2 * n + 1) k
      a.bundles != b.bundles || a.entries != b.entries || (upto 1024).any (fun x => !i.twinEntry (a.xfers.get x) (b.xfers.get x)))))

/-- Faults of the programs of the whole image. -/
def State.programsBad (s : State) (i : Image) : Bool :=
  (upto i.placements.length).any (fun pl =>
    (((i.placements[pl]?).getD {}).podList).any (fun c => i.podBad pl c.1 c.2) || (upto 4).any (i.twinBad pl) ||
    (upto i.kinds).any (s.kindBad i pl))

/-- The record that a fault among several is laid to: the first without which it is not there; 0 where there is none (R212; DEDUCED,
log 125). -/
def blameOf (rs : List Rec) (bad : List Rec → Bool) : Nat := ((rs.find? (fun r => !bad (rs.erase r))).map (fun r => r.off)).getD 0

/-- Check 8. -/
def State.check8 (s : State) (rs : List Rec) (i : Image) : Option LoadFail :=
  match firstBad 8 .imageInvalid (rs.map (fun r => (s.recBad i r, r.off))) with
  | some f => some f
  | none => firstBad 8 .imageInvalid
      [(i.wholeBad rs, blameOf rs (fun l => (imageOf i.digest l).wholeBad l)), (s.programsBad i, blameOf rs (fun l => s.programsBad (imageOf i.digest l)))]

/-! ### All checks in order (R194) -/

/-- The first answer of a list. -/
def firstSome {α : Type} : List (Option α) → Option α
  | [] => none
  | some a :: _ => some a
  | none :: l => firstSome l

/-- Checks 1 to 8 on the bytes of the incoming half: the image, or why it is refused (R194). -/
def State.checkImage (s : State) (bs : List Byte) : Except LoadFail Image :=
  match check1 bs (s.img.stagingMiB * 2 ^ 20) with
  | .error f => .error f
  | .ok rs =>
    let i := imageOf (imgDigest bs) rs
    match firstSome [check2 bs, s.check3 bs, s.check4 bs, check5 rs i, check6 i, s.check7 i, s.check8 rs i] with
    | some f => .error f
    | none => .ok i

end Sys2Proof.Machine
end

