-- ==== Sys2Proof/Machine/NetLink.lean ====
section
/-! DEFINITION. Gateway links, routes, received frames and time (R291 to R297, R307, R313, R315). -/
namespace Sys2Proof.Machine

/-! ### Sub-ports (R291 to R293) -/

/-- The mode of a port: its PORT_MODE record, or mode 0 without MACsec when no image is loaded (R292, R313). -/
def State.portMode (s : State) (port : Nat) : Option PortMode :=
  match s.img.image with
  | none => some { mode := 0, macsec := false }
  | some i => i.portModes.get port

/-- Sub-ports of a mode (R291). -/
def modeSubs (mode : Nat) : Nat := match mode with | 0 => 1 | 1 => 2 | 2 => 8 | _ => 0

/-- Does the sub-port exist in the current mode? -/
def State.subExists (s : State) (sub : Nat) : Bool :=
  match s.portMode (sub / 8) with | none => false | some m => decide (sub % 8 < modeSubs m.mode)

/-- Is MACSEC 1 on the sub-port's port? -/
def State.macsecOn (s : State) (sub : Nat) : Bool := match s.portMode (sub / 8) with | none => false | some m => m.macsec

/-- The state with a sub-port changed. -/
def State.modPort (s : State) (sub : Nat) (f : SubPort → SubPort) : State := { s with net := { s.net with ports := s.net.ports.mod sub f } }

/-- The aligned lanes of the port of a sub-port (R314). -/
def State.portLanes (s : State) (sub : Nat) (lanes : BitVec 8) : State := s.modPort (sub / 8 * 8) (fun p => { p with lanes := lanes })

/-- An event of a sub-port: its gateway's plaza, and the sub-port. -/
def State.portEvent (s : State) (code sub : Nat) : State := s.raise code (24 + sub / 64) sub []

/-- The links can be up (R313): not OFF or PARKED, and no reset is held. -/
def State.linksMay (s : State) : Bool :=
  s.top.state != .off && s.top.state != .parked && !s.top.pkgRst && (s.top.state != .bringup || decide (7 ≤ s.top.phase))

/-! ### Routes (R306, R307) -/

/-- The scheduled packets to a destination that await acknowledgement. -/
def State.schedWaiting (s : State) (dest : Nat) : List SchedOut :=
  s.net.schedOut.filter (fun x => !x.unsent && (match s.stream x.stream 0 with | some st => st.peer == dest | none => false))

/-- A destination moves to route `r`: counted, raised, and what awaits acknowledgement is resent there (R304, R307, R336). -/
def State.moveRoute (s : State) (dest r : Nat) : State :=
  let old := s.net.routes.get dest
  let t := { s with net := { s.net with routes := s.net.routes.set dest { active := r, moves := min (old.moves + 1) 0xFFFF } } }
  let sub := ((t.routeOf dest).map (fun e => e.subport)).getD 0
  let t := t.raise 0x5003 (24 + sub / 64) dest []
  let t := (t.schedWaiting dest).foldl (fun u x => u.resendSched dest x) t
  t.resendAll dest

/-- A destination whose route went down moves to its lowest-numbered alternate that is up, then to its primary; with none up it is
unreachable (R307). -/
def State.reroute (s : State) (dest : Nat) : State :=
  match ([1, 2, 3, 4, 0] : List Nat).find? (s.routeUp dest) with
  | some r => s.moveRoute dest r
  | none =>
    let old := s.net.routes.get dest
    let sub := ((s.routeOf dest).map (fun e => e.subport)).getD 0
    { s with net := { s.net with routes := s.net.routes.set dest { old with active := 7 } } }.raise 0x5004 (24 + sub / 64) dest []

/-- NET_LINK_DOWN (R293, R307): alignment is lost or the FEC fails; `lanes` are the aligned lanes left and `fec` the codewords
that did not correct. -/
def execNetLinkDown (sub : SubPortNo) (fec : Nat) (lanes : BitVec 8) (s : State) : Res :=
  let n := sub.val
  let t := (s.modPort n (fun p => { p with fec := satAdd p.fec fec, up := false, macsec := false })).portLanes n lanes
  if (s.net.ports.get n).up then
    let t := t.portEvent 0x5001 n
    .next ((t.routeDests.filter (fun d => match s.routeOf d with | some e => e.subport == n | none => false)).foldl State.reroute t)
  else .next t

/-- NET_LINK_UP (R293, R295): both conditions hold; its secure channels start with fresh associations, and a destination without a route
takes one that is up (log 23). -/
def execNetLinkUp (sub : SubPortNo) (lanes : BitVec 8) (macsec : Bool) (s : State) : Res :=
  let n := sub.val
  if s.linksMay && s.subExists n && !(s.net.ports.get n).up && (macsec || !s.macsecOn n) then
    let t := (s.modPort n (fun p => { p with macsec := macsec, up := true, upAt := s.top.now, lastPn := {}, txPn := 0 })).portLanes n lanes
    let t := t.portEvent 0x5002 n
    .next ((t.routeDests.filter (fun d => (t.net.routes.get d).active == 7)).foldl (fun u d =>
      match (upto 5).find? (u.routeUp d) with | some r => u.moveRoute d r | none => u) t)
  else .next s

/-- Is this a step boundary: LOADED, or between the commit of a step and the next beat 0? -/
def State.atBoundary (s : State) : Bool :=
  s.top.state == .loaded || (s.top.state == .running && (s.seq.phase == .idle || s.seq.phase == .start || s.seq.phase == .barrier || s.seq.phase == .recess))

/-- ROUTE_RESTORE (R307): at a step boundary a destination returns to a better route whose sub-port has been up for 1 s. -/
def execRouteRestore (dest : Fin 2048) (s : State) : Res :=
  let d := dest.val
  let ok := fun (r : Nat) => s.routeUp d r && (match (s.img.image.bind (fun i => (i.routes.get d)[r]?)) with
    | some e => decide ((s.net.ports.get e.subport).upAt + 1000000000 ≤ s.top.now)
    | none => false)
  if s.atBoundary then
    match (upto (min 5 (s.net.routes.get d).active)).find? ok with
    | some r => .next (s.moveRoute d r)
    | none => .next s
  else .next s

/-! ### Received frames (R294, R295, R313) -/

/-- Own addresses of the image (R292). -/
def State.ownAddress (s : State) (a : BitVec 128) : Bool :=
  match s.img.image with
  | none => false
  | some i => i.addrs.cells.any (fun c => match c.2 with | some x => x.2 == a | none => false)

/-- The destination package whose route names an address. -/
def State.destOf (s : State) (a : BitVec 128) : Option Nat :=
  match s.img.image with
  | none => none
  | some i => i.routes.cells.find? (fun c => c.2.any (fun e => e.ip == a)) |>.map Prod.fst

/-- A MACsec failure: discarded, counted, and the first of each second raised (R294, R295, R315). -/
def State.macsecFail (s : State) (n : Nat) : State :=
  let t := s.rxDrop n
  if (s.net.ports.get n).macsecSec = some s.second then t
  else (t.modPort n (fun p => { p with macsecSec := some s.second })).portEvent 0x5006 n

/-- RX_FRAME (R294, R295, R307, R313): a frame is counted, checked, and taken, forwarded or discarded. What its datagram then does
is the command of its protocol (log 27). -/
def execRxFrame (sub : SubPortNo) (f : RxEth) (s : State) : Res :=
  let n := sub.val
  if !(s.net.ports.get n).up then .next s
  else
    let t := s.modPort n (fun p => { p with rx := satAdd p.rx 1 })
    let takes := s.netOpen || (s.top.state == .idle && f.ptp)
    if !takes || decide (9216 < f.len) || !f.fcsOk then .next (t.rxDrop n)
    else
      let p := t.net.ports.get n
      let mac := t.macsecOn n
      let sc := 2 * f.sc.val + f.an.val
      if mac && (!f.macOk || (!f.newKey && match p.lastPn.cells.find? (fun c => c.1 == sc) with | some c => decide (f.pn ≤ c.2) | none => false)) then
        .next (t.macsecFail n)
      else
        let t := if mac then t.modPort n (fun p => { p with lastPn := p.lastPn.set sc f.pn }) else t
        if f.ptp then .next t
        else if !f.ipv6 then .next (t.rxDrop n)
        else if t.ownAddress f.dst then .next (if f.badOp && t.claimed 2 0x11 n then t.badPacket (n / 64) else t)
        else match t.destOf f.dst with
          | some d => .next (t.sendTo d 7 f.payload)
          | none => .next (t.rxDrop n)

/-- NEIGHBOR_SOLICITATION (R294, R313): one for an own address is answered. -/
def execNeighborSolicitation (sub : SubPortNo) (target : BitVec 128) (s : State) : Res :=
  if (s.netOpen || s.top.state == .idle) && s.ownAddress target then .next (s.sendNet sub.val 6 0 (leBytes 16 target.toNat))
  else .next s

/-! ### Time (R297, R313, R315) -/

/-- Is SYNC_IO the package's PPS input (R206, R481)? -/
def State.ppsIn (s : State) : Bool := s.claimed 1 1 0 || s.mews.timeSource

/-- PTP is carried (R313). -/
def State.ptpOpen (s : State) : Bool := s.netOpen || s.top.state == .idle

/-- PTP_MESSAGE (R296, R297): on the selected sub-port of a SCHED stream the package takes the time-receiver role, reports the
offset in ps and steers its time base to that port's time. -/
def execPtpMessage (sub : SubPortNo) (selected : Bool) (offset : BitVec 32) (s : State) : Res :=
  let n := sub.val
  if selected && s.ptpOpen && s.claimed 2 0x10 n && (s.net.ports.get n).up && !(s.net.gw.get (n / 64)).ptpMaster then
    let t := { s with net := { s.net with timeOffset := s.net.timeOffset - offset.toInt / 1000 } }
    let t := t.modGw (1 - n / 64) (fun w => { w with ptpPort := 0xF, ptpLocked := false })
    .next (t.modGw (n / 64) (fun w => { w with ptpOffset := offset, ptpPort := BitVec.ofNat 4 (n % 64 / 8), ptpSub := n, ptpLocked := true }))
  else .next s

/-- PTP_LOST (R315): the time-receiver port has lost its time transmitter for 1 s. -/
def execPtpLost (s : State) : Res :=
  match (upto 2).find? (fun g => (s.net.gw.get g).ptpLocked) with
  | none => .next s
  | some g =>
    .next ((s.modGw g (fun w => { w with ptpLocked := false })).portEvent 0x5005 (s.net.gw.get g).ptpSub)

/-- The nearest whole second. -/
def nearestSecond (t : Nat) : Nat := (t + 500000000) / 1000000000 * 1000000000

/-- PPS_EDGE (R297): the time base aligns its second to the rising edge of SYNC_IO, and the package is the time transmitter. -/
def execPpsEdge (s : State) : Res :=
  if s.ppsIn && s.ptpOpen then
    let t := { s with net := { s.net with timeOffset := (nearestSecond s.ptpTime : Int) - (s.top.now : Int) } }
    .next ((t.modGw 0 (fun w => { w with ptpMaster := true, ptpPort := 0xF, ptpLocked := false })).modGw 1
      (fun w => { w with ptpMaster := true, ptpPort := 0xF, ptpLocked := false }))
  else .next s

end Sys2Proof.Machine
end

