-- ==== Sys2Proof/Machine/ImgLoad.lean ====
section
/-! DEFINITION. Loading an image: LOAD_IMAGE and its completion, staging over Reach, changes of placement, and the unload (R191 to
R195, R201, R202, R212, R347, R374, R520). -/
namespace Sys2Proof.Machine

/-! ### Pods of a placement (R18, R195, R201) -/

/-- A pod that no placement names: unpowered, with what its part keeps. -/
def Pod.unplace (p : Pod) : Pod := { fused := p.fused, rowPath := p.rowPath, privNext := p.privNext }

/-- A placed pod: its records written over fresh tables; its store keeps what it held if it was powered. -/
def Image.placePod (i : Image) (pl sh pod : Nat) (p : Pod) : Pod :=
  let start : Pod := { store := if p.powered then p.store else {}, fused := p.fused, rowPath := p.rowPath, privNext := p.privNext }
  { (i.recsOf pl sh pod).foldl (Rec.into i.kinds) start with placed := true, powered := true }

/-- Does placement `pl` name the pod? -/
def Placement.names (p : Placement) (sh pod : Nat) : Bool := p.shallots.getLsbD sh && (p.pods.get sh).getLsbD pod

/-- The pods of a shallot as a placement leaves them. -/
def Image.placePods (i : Image) (pl sh : Nat) (t : Tbl Pod) : Tbl Pod :=
  let p := (i.placements[pl]?).getD {}
  (upto 512).foldl (fun u k => u.set k (if p.names sh k then i.placePod pl sh k (t.get k) else (t.get k).unplace)) {}

/-- The pairs that a placement runs as twins (R198, R396). -/
def Image.twinsOf (i : Image) (pl : Nat) : BitVec 4 := ((i.placements[pl]?).getD {}).twin

/-- A shallot as a placement leaves it: powered and placed where the placement names it. -/
def Shallot.place (h : Shallot) (i : Image) (pl sh : Nat) : Shallot :=
  let on := ((i.placements[pl]?).getD {}).shallots.getLsbD sh
  { h with placed := on, powered := on, pods := i.placePods pl sh h.pods }

/-- A shallot that no image places. -/
def Shallot.unplace (h : Shallot) : Shallot :=
  { h with placed := false, powered := false, pods := h.pods.mapAll (fun _ p => p.unplace) }

/-- Every shallot changed by its number. -/
def State.eachShallot (s : State) (f : Nat → Shallot → Shallot) : State := shallotNums.foldl (fun t n => t.modSh n (f n)) s

/-- The code that a target gives: not above the grade's ceiling, and 16 at least (R3, R421). -/
def appliedCode (id target : Word) : Nat := max 16 (min (if bitsOf id.toNat 24 4 = 1 then 72 else 60) (bitsOf target.toNat 0 7))

/-- A shallot that gains power starts at its target code and the nominal set point (log 33); one that loses power has none. -/
def Shallot.startClock (h : Shallot) (id : Word) : Shallot :=
  if h.powered && h.clk.code == 0 then { h with clk := { h.clk with code := appliedCode id h.clk.target, setPoint := 700, phase := 0 } }
  else if !h.powered && h.clk.code != 0 then
    { h with clk := { h.clk with code := 0, setPoint := 0, stopNs := 0, demands := [], stretch := 0, phase := 0, volts := [] } }
  else h

/-- The clocks follow the power of the shallots. -/
def State.startClocks (s : State) : State := s.eachShallot (fun _ h => h.startClock s.top.identity)

/-! ### Timetables and streets (R202, R232) -/

/-- The timetables of a placement; an arbiter without a record has an empty one. -/
def State.setTimetables (s : State) (i : Option Image) (pl : Nat) : State :=
  let clear := s.blv.arbs.mapAll (fun _ a => { a with table := {}, early := [], missed := [] })
  let recs := (i.map (fun i => i.timetables.filter (fun r => r.1 == pl))).getD []
  { s with blv := { s.blv with arbs := recs.foldl (fun t r =>
      t.mod (arbIx r.2.1 r.2.2.1 r.2.2.2.1) (fun a => { a with table := Tbl.setRun {} 0 (r.2.2.2.2.map (BitVec.ofNat 16)) })) clear } }

/-- The wavelengths that a STREET_USE record parks, those whose bit is 0: source × 2,048 + destination × 64 + wavelength. One
without a bit, of a plaza that has no record or of a lane past the record's lanes, is not parked (R202, R214; DEDUCED, log 91). -/
def Image.dark (i : Image) : List Nat :=
  i.streetUse.flatMap (fun r => r.2.zipIdx.flatMap (fun (c : Nat × Nat) =>
    ((upto 16).filter (fun j => !bitAt c.1 j)).map (fun j => r.1 * 2048 + Sys2Proof.Config.lightPath r.1 c.2 j)))

/-- A wavelength that was parked and is now enabled restarts: numbers from 0, and 32 IDLE flits first (R202). -/
def State.restartWave (s : State) (src dst w : Nat) : State :=
  (upto 32).foldl (fun t k => t.emit (.flit src dst w (mkFlit k 0 0)))
    (s.modWave src dst w (fun x => { x with parked := false, txSeq := 0, rxSeq := 0, replay := [], queue := [], discarding := false, fails := 0 }))

/-- Wavelengths park and restart as an image says; without an image none is parked (R202). -/
def State.parkStreets (s : State) (i : Option Image) : State :=
  let off := (i.map Image.dark).getD []
  (upto 27).foldl (fun t src => (upto 27).foldl (fun t dst => (upto (streetWidth src dst)).foldl (fun t w =>
    let park := off.contains (src * 2048 + dst * 64 + w)
    let was := ((t.street src dst).waves.get w).parked
    if park == was then t
    else if park then t.modWave src dst w (fun x => { x with parked := true })
    else t.restartWave src dst w) t) t) s

/-! ### A refused load (R194, R212) -/

/-- A refused load is recorded: LOAD_STATUS, REFUSE_COUNT and the event (R212). -/
def State.imageRefused (s : State) (check : Nat) (st : Status) : State :=
  { s with img := { s.img with check := check, status := st.code, refuseCount := satAdd s.img.refuseCount 1 } }.raise 0x0020 pkgPlaza 0
    [BitVec.ofNat 8 st.code, BitVec.ofNat 8 check]

/-- The detail registers describe a refused load (R212). -/
def State.setDetail (s : State) (f : LoadFail) : State :=
  { s with img := { s.img with detailRes := BitVec.ofNat 32 f.res, detailIndex := BitVec.ofNat 32 f.idx,
                               detailFeat := BitVec.ofNat 32 f.feat, detailOffset := BitVec.ofNat 64 f.off } }

/-- A load is refused and its command ends. -/
def State.refuseLoad (s : State) (f : LoadFail) : State := ((s.setDetail f).imageRefused f.check f.status).endCmd f.status []

/-- The mode of a port under an image, or mode 0 without MACsec under none (R292, R313). -/
def modeUnder (o : Option Image) (port : Nat) : Option PortMode :=
  match o with
  | none => some { mode := 0, macsec := false }
  | some x => x.portModes.get port

/-- Sub-ports that are up and whose port has another mode under another image, or under none. -/
def State.modeChanges (s : State) (old new : Option Image) : List Nat :=
  (upto 128).filter (fun k => (s.net.ports.get k).up && modeUnder new (k / 8) != modeUnder old (k / 8))

/-- Sub-ports go down, each that was up with its event (R315). -/
def State.portsDown (s : State) (l : List Nat) : State :=
  l.foldl (fun t k =>
    if (t.net.ports.get k).up then
      { t with net := { t.net with ports := (t.net.ports.mod k (fun p => { p with up := false, macsec := false })).mod (k / 8 * 8) (fun p => { p with lanes := 0 }) } }.raise
        0x5001 (24 + k / 64) k []
    else t) s

/-- The ports take the modes of another image, or of none: a sub-port whose port changes its mode goes down, and it is raised (R292, R313,
R315). -/
def State.portModes (s : State) (old new : Option Image) : State := s.portsDown (s.modeChanges old new)

/-- The package holds no image: pods and shallots unpowered, timetables empty, no observers (R96), no wavelength parked, the combining share at its
default (R18, R202, R284). -/
def State.dropImage (s : State) : State :=
  let t := ((((s.eachShallot (fun _ h => h.unplace)).startClocks).setTimetables none 0).parkStreets none)
  { t with img := { t.img with image := none, writing := none, active := 0 }, cond := { t.cond with twins := 0 },
           seq := { t.seq with observers := {} }, net := { t.net with egress := [] },
           mem := t.mem.mapAll (fun _ m => { m with share := 0x4B, combine := [] }) }

/-- The image is unloaded, and the ports are in mode 0 without MACsec (R292, R313). -/
def State.unloadImage (s : State) : State := (s.portModes s.img.image none).dropImage

/-! ### LOAD_IMAGE (R194, R520) -/

/-- The bytes of the incoming half that the checks read: the header, then the image and its signature block. -/
def State.stagedImage (s : State) : List Byte :=
  let half := s.img.stagingMiB * 2 ^ 20
  let head := stagedBytes s.img.incoming 0 0x300
  stagedBytes s.img.incoming 0 (max 0x300 (min half (imgLength head + imgSigLength head)))

/-- The gate die reports the error of a staged unit: KIND 1, no region, the management die as its source (R289, R520). -/
def State.stagedError (s : State) (u : StagedUe) : State :=
  (s.countUe u.stack.val u.unit.toNat 1 0xFFF 26).raise 0x4001 (8 + u.stack.val) 0 (memDetail u.unit.toNat)

/-- All checks have passed: the halves swap, and the pods of the chosen placement are powered (R195). -/
def State.beginWriting (s : State) (i : Image) : State :=
  let pl := (i.placements[(s.usablePlacement i).getD 0]?).getD {}
  let t := { s with img := { s.img with swapped := !s.img.swapped, writing := some i } }
  (t.eachShallot (fun n h => { h with
    powered := h.powered || pl.shallots.getLsbD n,
    pods := (upto 512).foldl (fun u k => if pl.names n k then u.mod k (fun p => { p with powered := true }) else u) h.pods })).startClocks

/-- What the checks of a load lead to, with the uncorrectable error that the staged bytes meet if any: it refuses the load at its
check, unless an earlier check fails first (R194, R520). -/
def State.judgeLoad (s : State) (ue : Option StagedUe) (out : Except LoadFail Image) : State :=
  let bad := match out with | .error f => some f | .ok _ => none
  let early := match ue, bad with
    | some u, some f => decide (u.check.val ≤ f.check)
    | some _, none => true
    | none, _ => false
  match ue, early, out with
  | some u, true, _ => (s.stagedError u).refuseLoad { check := u.check.val, off := u.off }
  | _, _, .error f => s.refuseLoad f
  | _, _, .ok i => s.beginWriting i

/-- The checks of a load run over the staged bytes (R194). -/
def State.runChecks (s : State) (ue : Option StagedUe) : State :=
  let s := { s with img := { s.img with detailRes := 0, detailIndex := 0, detailFeat := 0, detailOffset := 0 } }
  s.judgeLoad ue (s.checkImage s.stagedImage)

/-- LOAD_IMAGE as a command of any path (R193, R194, R369). -/
def State.cmdLoadImage (ue : Option StagedUe) (s : State) (c : RunningCmd) : State :=
  s.command c { accept := 0x18, bad := !argsZeroFrom c.args 0 } (fun s => s.runChecks ue)

/-- LOAD_IMAGE (R194, R195, R364, R369, R520). -/
def execLoadImage (a : List (BitVec 32)) (ue : Option StagedUe) (s : State) : Res := .next (s.hostCommand 0x01 a (State.cmdLoadImage ue))

/-! ### IMAGE_LOAD_DONE (R195) -/

/-- The observers of an image at the start of a run: D_INIT and an empty history (R87, R370). -/
def freshObserver (o : Observer) : Observer := { entry := o.entry, d := (o.entry.map (fun e => e.dInit)).getD 0 }

/-- The observers of an image. -/
def Image.observerTbl (i : Image) : Tbl Observer :=
  i.observers.foldl (fun t c => t.set c.1 (freshObserver { entry := some { raw := c.2 } })) {}

/-- The gateways at a load: tallies and the state of Reach are empty; counts and selects stay. -/
def Gateway.atLoad (w : Gateway) : Gateway :=
  { w with ptpMaster := false, tallies := {}, slots := [], queue := [], nextSeq := {}, nextMsg := {}, stamped := [], replies := [],
           refusals := [], heldFlags := [], combining := [], combineSeq := {} }

/-- The stacks at a load: a fresh RUN key, the image's combining share, nothing combined and nothing to undo (R195, R203, R284). -/
def Stack.atLoad (m : Stack) (share key : Nat) : Stack :=
  { m with keyRun := some key, share := share, combine := [], undo := [] }

/-- COMBINE_SHARE of a stack (R206). -/
def Image.share (i : Image) (h : Nat) : Nat := ((i.claimOf 7 h).map (fun c => c.param)).getD 75

/-- Every stack gets a fresh RUN key (R195). -/
def State.runKeys (s : State) (i : Image) : State :=
  let t := (upto 16).foldl (fun t h => t.modMem h (fun m => m.atLoad (i.share h) (s.sec.draws + h))) s
  { t with sec := { t.sec with draws := t.sec.draws + 16 } }

/-- The network at a load: sub-ports outside the new modes go down, routes start at their primaries, nothing is on its way. -/
def State.netAtLoad (s : State) (i : Image) : State :=
  let t := s.portModes s.img.image (some i)
  { t with net := { t.net with
      gw := t.net.gw.mapAll (fun _ w => w.atLoad), routes := {}, wins := {}, schedBusy := {}, schedOut := [], schedIn := [], calls := [], callRefusals := [], egress := [] } }

/-- The routes at a load (R307, R314): a destination whose primary is down moves to its lowest-numbered alternate that is up, and with none
up it is unreachable; both are raised. -/
def State.routesAtLoad (s : State) : State :=
  s.routeDests.foldl (fun t d =>
    let e := (t.routeOf d).map (fun e => e.subport)
    let go := fun (r : Nat) (code : Nat) =>
      { t with net := { t.net with routes := t.net.routes.set d { active := r, moves := b2n (code == 0x5003) } } }.raise code (24 + e.getD 0 / 64) d []
    if t.routeUp d 0 then t
    else match ([1, 2, 3, 4] : List Nat).find? (t.routeUp d) with
      | some r => go r 0x5003
      | none => go 7 0x5004) s

/-- The step sequencer at a load: observers from the image, an empty journal, no run (R177, R178, R195, R370). -/
def StepSeq.atLoad (q : StepSeq) (i : Image) : StepSeq :=
  { q with observers := i.observerTbl, scaleSel := 0, satReruns := 0, satEvents := 0, malformed := {}, head := 0, tail := 0, tailLo := 0,
           jseq := 0, dseq := 0, ring := [], stalled := [], stallSince := none, heldActs := [], ran := false, ranLoad := false,
           startTimed := false, exe := {}, once := {}, tallySave := [], replayLeft := [], mismatch := false }

/-- The buckets are full at image load (R429). -/
def State.fillBuckets (s : State) : State :=
  let t := s.eachShallot (fun _ h => { h with pwr := { h.pwr with credits := 10 * bitsOf s.pp.slew.toNat 16 12 } })
  { t with pp := { t.pp with credits := 10 * bitsOf s.pp.pkgSlew.toNat 16 12 } }

/-- The image takes force: stores and tables, observers, timetables, regions, network settings, run key, then LOADED (R195). -/
def State.takeImage (s : State) (i : Image) : State :=
  let k := (s.usablePlacement i).getD 0
  let t := s.eachShallot (fun n h => { h.place i k n with tallies := {} })
  let t := (t.startClocks.setTimetables (some i) k).parkStreets (some i)
  let t := (t.runKeys i).netAtLoad i
  let t := { t with
    img := { t.img with image := some i, writing := none, check := 0, status := 0, active := k },
    seq := t.seq.atLoad i, host := { t.host with windows := {} }, sec := { t.sec with clients := [] },
    cond := { t.cond with degradedOdd := 0, degradedEven := 0, twinHigh := 0, twins := i.twinsOf k }, mews := { t.mews with timeSource := false } }
  t.fillBuckets.routesAtLoad.toLoaded

/-- IMAGE_LOAD_DONE (R195, R202, R520): the writing ends; an uncorrectable error during it leaves no image. -/
def execImageLoadDone (ue : Option StagedUe) (s : State) : Res :=
  match s.img.writing with
  | none => .next s
  | some i =>
    match ue with
    | none => .next ((s.takeImage i).endCmd .ok [])
    | some u =>
      let t := (s.stagedError u).unloadImage
      let t := { t with top := { t.top with state := .idle } }
      .next (t.refuseLoad { check := 2, off := u.off })

/-! ### Staging over Reach (R192, R347) -/

/-- The loaded image's STAGE_KEY admits a staging request (R347). -/
def State.stageKeyOk (s : State) (k : Word64) : Bool :=
  match s.img.image.bind (fun i => i.reach) with
  | none => false
  | some r => r.2.2 != 0 && r.2.2 == k

/-- A STAGE_REPLY: it carries a command status code (R323). -/
def State.stageReply (s : State) (src : Nat) (h : ReachHdr) (st : Status) : State := s.reachSend src (h.reply 0x86 st.code 0) []

/-- A staging request addressed to this package: key, sequence state, then its operation. -/
def State.stageRequest (s : State) (p : ReachIn) (op : Nat) (f : State → ReachHdr → State) : State :=
  let a := s.reachGate p (op == 5) false
  let h := p.hdr op
  if !a.1 then a.2
  else if p.dst.val ≠ a.2.ownIndex then a.2.forwardReach p.dst.val h p.data
  else if !a.2.stageKeyOk p.key then a.2.refuseReach p.gw p.src.val h
  else
    let w := a.2.net.wins.get (winIx p.src.val h.engine)
    let dup := a.2.modGw p.gw (fun x => { x with duplicates := satAdd x.duplicates 1 })
    if w.beyond h.seq then dup
    else if w.has h.seq then dup.reachAck p.gw p.src.val h
    else f a.2 h

/-- Write bytes into the incoming half; nothing is written where they would pass its end (R192). -/
def State.stageBytes (s : State) (off : Nat) (bs : List Byte) : Option State :=
  if off + bs.length ≤ s.img.stagingMiB * 2 ^ 20 then some { s with img := s.img.setIncoming (s.img.incoming.setRun off bs) } else none

/-- STAGE_WRITE (R192, R347). -/
def execStageWrite (p : ReachIn) (s : State) : Res :=
  .next (s.stageRequest p 5 (fun s h =>
    match s.stageBytes h.offset p.data with
    | none => (s.reachTaken p.gw p.src.val h).stageReply p.src.val h .badArgument
    | some t => (t.reachTaken p.gw p.src.val h).stageReply p.src.val h .ok))

/-- STAGE_LOAD (R193, R347): the checks of LOAD_IMAGE, answered by a STAGE_REPLY when the load ends; a load is refused while another
one or a command runs. -/
def execStageLoad (p : ReachIn) (ue : Option StagedUe) (s : State) : Res :=
  .next (s.stageRequest p 6 (fun s h =>
    let t := s.reachTaken p.gw p.src.val h
    t.cmdLoadImage ue { path := .reach p.src.val h, opcode := 1 }))

/-! ### Changes of placement and the unload by RETIRE_POD (R123, R201, R374) -/

/-- The package changes to placement `k` of its image: its pods are powered and written from the active half (R201). -/
def State.changePlacement (s : State) (i : Image) (k : Nat) : State :=
  let old := s.img.active
  let t := ((s.eachShallot (fun n h => h.place i k n)).startClocks).setTimetables (some i) k
  { t with img := { t.img with active := k }, cond := { t.cond with twins := i.twinsOf k } }.raise 0x0021 pkgPlaza 0 [BitVec.ofNat 8 old, BitVec.ofNat 8 k]

/-- After a retirement in LOADED: the lowest placement that avoids every retired pod, or the unload to IDLE (R374). -/
def State.replaceOrUnload (s : State) : State :=
  match s.img.image with
  | none => s
  | some i => match s.usablePlacement i with
    | some k => if k = s.img.active then s else s.changePlacement i k
    | none =>
      let t := s.unloadImage
      ({ t with top := { t.top with state := .idle } }.setDetail ((s.check7 i).getD {})).imageRefused 7 .imageInvalid

/-- RETIRE_POD as a command: a pod retired in fuses already needs no write; otherwise the fuse write starts inside its
temperature window (R374, R440). -/
def State.cmdRetirePod (s : State) (c : RunningCmd) : State :=
  let sh := bitsOf (argAt c.args 0) 9 3
  let pod := bitsOf (argAt c.args 0) 0 9
  s.command c { accept := 0x18, bad := decide (0xFFF < argAt c.args 0) || !argsZeroFrom c.args 1 } (fun s =>
    if (s.pod sh pod).fused then s.endCmd .ok []
    else if !s.pp.nvOpen then s.nvRefuse.endCmd .temperatureBlocked []
    else s.nvStart (.retire sh pod))

/-- RETIRE_POD (R374). -/
def execRetirePod (a : List (BitVec 32)) (s : State) : Res := .next (s.hostCommand 0x0B a State.cmdRetirePod)

/-- The fuse write of a retirement is done: a loaded package moves off the pod, and the command ends (R374). -/
def State.retireDone (s : State) (sh pod : Nat) : State :=
  let placed := (s.pod sh pod).placed
  let t := s.modPod sh pod (fun p => { p with fused := true })
  let t := if t.top.state == .loaded && placed then t.replaceOrUnload else t
  t.endCmd .ok []

end Sys2Proof.Machine
end

