-- ==== Sys2Proof/Machine/Recess.lean ====
section
/-! DEFINITION. Recesses: what waits, what a recess point or a forced recess grants, and the end of a recess (R175, R176, R209, R211,
R258, R260). -/
namespace Sys2Proof.Machine

/-! ### What waits -/

/-- The fading lamps whose crossfade is demanded and has a spare (R257, R258). -/
def State.waitingLamps (s : State) : List Nat :=
  (s.lamp.lamps.cells.filter (fun c => c.2.demandAt.isSome && c.2.bySpare.isSome && c.2.state == .active)).map Prod.fst

/-- Insert a lane group by the age of its demand, oldest first. -/
def laneInsert (c : Nat × LaneGroup) : List (Nat × LaneGroup) → List (Nat × LaneGroup)
  | [] => [c]
  | d :: l => if c.2.demandAt < d.2.demandAt then c :: d :: l else d :: laneInsert c l

/-- The lane groups whose recalibration is demanded, oldest demand first (R211, R267). -/
def State.waitingLanes (s : State) : List Nat :=
  ((s.blv.lanes.cells.filter (fun c => c.2.pending && !c.2.running)).foldl (fun l c => laneInsert c l) []).map Prod.fst

/-- The plaza of a lane group by its number. -/
def lanePlaza (k : Nat) : Nat := k / 2 ^ 16 % 256

/-! ### Grants (R211) -/

/-- At each plaza the first lane groups of the list that fit, at most `n` of them. -/
def fitLanes (n : Nat) (l : List Nat) : List Nat :=
  (upto 27).flatMap (fun p => (l.filter (fun k => lanePlaza k == p)).take n)

/-- The longest chain of lane groups at one plaza. -/
def laneChain (l : List Nat) : Nat := maxOf ((upto 27).map (fun p => (l.filter (fun k => lanePlaza k == p)).length))

/-- The first pieces of other work that fit one after another, as one chain: a demand names no plaza (log 97). -/
def fitOther (room : Nat) : List Nat → List Nat
  | [] => []
  | u :: us => if u ≤ room then u :: fitOther (room - u) us else []

/-- What a recess point grants: all waiting crossfades or none, then lane groups by plaza, then other work (R211). -/
def State.pointGrant (s : State) (p : RecessPoint) : RecessWork :=
  let lamps := if p.allow.getLsbD 0 && decide (205 ≤ p.maxUs) then s.waitingLamps else []
  let room := p.maxUs - (if lamps.isEmpty then 0 else 205)
  let lanes := if p.allow.getLsbD 1 then fitLanes (room / 150) s.waitingLanes else []
  let room := room - 150 * laneChain lanes
  { lamps := lamps, lanes := lanes, other := if p.allow.getLsbD 2 then fitOther room s.seq.demands else [] }

/-- Everything that waits: what a forced recess, or a recess in IDLE or LOADED, grants (R175, R258, R260). -/
def State.wholeGrant (s : State) : RecessWork := { lamps := s.waitingLamps, lanes := s.waitingLanes, other := s.seq.demands }

/-- Is nothing granted? -/
def RecessWork.none (w : RecessWork) : Bool := w.lamps.isEmpty && w.lanes.isEmpty && w.other.isEmpty

/-- A recess begins with its work; every placed shallot enters RECESS at its bundle boundary (R154, R175). -/
def State.beginRecess (s : State) (k : RecessKind) (w : RecessWork) : State :=
  let t := if s.top.state == .running then
      s.modShs (fun h => h.placed && h.recess.isNone) (fun h =>
        { h with recess := some k, recessAt := s.top.now, recessCount := satAdd h.recessCount 1 })
    else s
  { t with seq := { t.seq with grant := some k, work := w, demands := t.seq.demands.drop w.other.length } }

/-- A forced recess: the wait for flits in flight begins, and it is raised (R175). A decided switch-over comes first (R22). -/
def State.forceRecess (s : State) : State :=
  if s.seq.grant.isSome then s
  else if s.cond.switching.isSome then { s with seq := { s.seq with forceDue := true } }
  else
    let t := s.beginRecess .forced s.wholeGrant
    { t with seq := { t.seq with flitWait := true } }.raise 0x0017 pkgPlaza 0 []

/-- The work of a recess with more work added; what it holds already stays. -/
def RecessWork.join (w v : RecessWork) : RecessWork :=
  { lamps := w.lamps ++ v.lamps.filter (fun x => !w.lamps.contains x), lanes := w.lanes ++ v.lanes.filter (fun x => !w.lanes.contains x),
    other := w.other ++ v.other }

/-- In IDLE and LOADED the control plane grants what waits at once: a recess begins, or the one that stands takes it in (R258). -/
def State.grantIdle (s : State) : State :=
  if s.top.state == .idle || s.top.state == .loaded then
    if s.seq.grant.isSome then { s with seq := { s.seq with work := s.seq.work.join s.wholeGrant, demands := [] } }
    else if s.wholeGrant.none then s
    else s.beginRecess .scheduled s.wholeGrant
  else s

/-- The recess point after the commit of step `k` (R211). -/
def State.recessPoint (s : State) (k : Nat) : Option RecessPoint :=
  s.img.image.bind (fun i => i.recess.find? (fun p => p.period != 0 && k % p.period == p.phase))

/-- At the boundary after step `k`: a scheduled recess where a point grants something, otherwise on to the barrier (R163, R175). -/
def State.boundaryRecess (s : State) (k : Nat) : State :=
  if s.seq.grant.isSome then { s with seq := { s.seq with phase := .barrier } }
  else
    let w := match s.recessPoint k with | some p => s.pointGrant p | none => {}
    if w.none then { s with seq := { s.seq with phase := .barrier } }
    else
      let t := s.beginRecess .scheduled w
      { t with seq := { t.seq with phase := .recess } }

/-- The recess ends: the shallots resume, and its whole microseconds are counted (R176, R189; DESIGN CHOICE, log 113). -/
def State.endRecess (s : State) : State :=
  let t := s.modShs (fun h => h.recess.isSome) (fun h =>
    { h with recess := none, recessUs := satAdd h.recessUs ((s.top.now - h.recessAt) / 1000) })
  { t with seq := { t.seq with grant := none, work := {}, flitWait := false, phase := if t.seq.phase == .recess then .barrier else t.seq.phase } }

/-- RECESS_WORK_DONE (R176): when no crossfade and no lane group of the recess is left, the last other work is done too and the
recess ends. -/
def execRecessWorkDone (s : State) : Res :=
  if s.seq.grant.isSome && s.seq.work.lamps.isEmpty && s.seq.work.lanes.isEmpty then .next s.endRecess else .next s

/-- A forced recess that waited for a switch-over (R22): it begins where the package still runs. -/
def State.forceWaiting (s : State) : State :=
  if s.seq.forceDue then
    let t := { s with seq := { s.seq with forceDue := false } }
    if t.top.state == .running then t.forceRecess else t.grantIdle
  else s

/-- RECESS_DEMAND (R175): the management plane demands `us` microseconds of a recess. In IDLE and LOADED it is granted at once;
while RUNNING it waits for a recess point, or forces a recess when none falls within its limit. -/
def execRecessDemand (us : Nat) (overdue : Bool) (s : State) : Res :=
  let t := { s with seq := { s.seq with demands := s.seq.demands ++ [us] } }
  .next (if t.top.state == .running && overdue then t.forceRecess else t.grantIdle)

/-- FORCED_RECESS_WAIT_END (R175): the streets are empty, or 10 µs have passed. -/
def execForcedRecessWaitEnd (s : State) : Res := .next { s with seq := { s.seq with flitWait := false } }

end Sys2Proof.Machine
end

