-- ==== Sys2Proof/Machine/Rotate.lean ====
section
/-! DEFINITION. Key rotation: ROTATE_KEYS and the end of the re-key walk (R288, R460, R461). -/
namespace Sys2Proof.Machine

/-- The free session slot of every gate die takes a fresh key (R444, R460). -/
def State.drawEpoch (s : State) : State :=
  let t := (upto 16).foldl (fun (t : State) h => t.modMem h (fun m =>
    if m.epoch then { m with keyEven := some (s.sec.draws + h) } else { m with keyOdd := some (s.sec.draws + h) })) s
  { t with sec := { t.sec with draws := t.sec.draws + 16, rotateDue := true } }

/-- ROTATE_KEYS as a command: nothing without a tenant session; in LOADED the epoch is in force at once, in RUNNING at the next step
boundary (R460). -/
def State.cmdRotate (s : State) (c : RunningCmd) : State :=
  s.command c { accept := 0x30, bad := !argsZeroFrom c.args 0, refused := s.sec.oldLive } (fun s =>
    if s.sec.tenant.isNone then s.endCmd .ok []
    else if s.top.state == .loaded then s.drawEpoch.rotateInForce
    else s.drawEpoch)

/-- ROTATE_KEYS (R460). -/
def execRotateKeys (a : List (BitVec 32)) (s : State) : Res := .next (s.hostCommand 0x0A a State.cmdRotate)

/-- The slot of the old epoch is empty. -/
def Stack.dropOld (m : Stack) : Stack := if m.epoch then { m with keyEven := none } else { m with keyOdd := none }

/-- ROTATE_DONE (R461): once the walker has finished in every stack the old epoch's slot is destroyed. -/
def execRotateDone (s : State) : Res :=
  if s.sec.oldLive ∧ (upto 16).all (fun h => !(s.mem.get h).walking) then
    let t := { s with sec := { s.sec with oldLive := false }, mem := (upto 16).foldl (fun (t : Tbl Stack) h => t.mod h Stack.dropOld) s.mem }
    .next (t.raise 0xB005 pkgPlaza 0 [])
  else .next s

end Sys2Proof.Machine
end

