-- ==== Sys2Proof/Machine/Windows.lean ====
section
/-! DEFINITION. Host windows: polls, pulls and pushes, and the sealing of external memory (R205, R354, R360 to R363, R455 to R457). -/
namespace Sys2Proof.Machine

/-! ### Windows of the image -/

/-- Window `w` of the image. -/
def State.window (s : State) (w : Nat) : Option Window := s.img.image.bind (fun i => i.windows.find? (fun x => x.num == w))

/-- Window `w` where it moves data at the step that is current: input or output as asked, and active in it (R205). -/
def State.activeWindow (s : State) (w : Nat) (output : Bool) : Option Window :=
  (s.window w).filter (fun x => x.isOutput == output && x.active s.seq.current.toNat)

/-- The active windows of the current step in rising number. -/
def State.activeWindows (s : State) (output : Bool) : List Window := (upto 64).filterMap (fun w => s.activeWindow w output)

/-- The state of one window changed. -/
def State.modWindow (s : State) (w : Nat) (f : WindowState → WindowState) : State :=
  { s with host := { s.host with windows := s.host.windows.mod w f } }

/-- May windows move data: the function can send, and IDE protects the link where the policy demands it (R353, R354, R473)? -/
def State.windowsMay (s : State) : Bool := s.host.canSend && (!s.sec.policy.getLsbD 1 || s.host.ideLink || s.host.ideSel != 0)

/-- A poll that must wait: one more microsecond, and the event once per window and step after 1 ms (R363). -/
def State.windowWait (s : State) (w : Nat) : State :=
  let q := s.host.windows.get w
  let t := s.modWindow w (fun x => { x with waited := x.waited + 1 })
  let t := { t with host := { t.host with windowWaitUs := satAdd t.host.windowWaitUs 1 } }
  if decide (1000 ≤ q.waited) && !q.waitRaised then (t.modWindow w (fun x => { x with waitRaised := true })).raise 0x6003 24 w [BitVec.ofNat 8 w]
  else t

/-- Have all windows of the step moved their data? -/
def State.windowsMoved (s : State) (output : Bool) : Bool := (s.activeWindows output).all (fun w => (s.host.windows.get w.num).moved)

/-! ### Sealed windows (R455 to R457) -/

/-- The header of a tag area (R455). -/
def windowHeader (version epoch w : Nat) : List Byte :=
  leBytes 8 version ++ leBytes 8 epoch ++ [BitVec.ofNat 8 w] ++ List.replicate 47 0

/-- The IV of sector `j` (R456). -/
def windowIv (w j version : Nat) : BitVec 96 := BitVec.ofNat 96 (w * 2 ^ 88 + j * 2 ^ 64 + version)

/-- K_EXT of an epoch (R453). -/
def Session.extKey (k : Session) (e : Nat) : Digest := BitVec.ofNat 256 (leVal (k.key "EXT" e 32))

/-- The 64-bit tag of a sealed sector (R456). -/
def sectorTag (key : Digest) (w j version : Nat) (header cipher : List Byte) : Word64 :=
  (Sys2Proof.Config.gcmTag key (windowIv w j version) header cipher).setWidth 64

/-- A sector turned from plaintext to ciphertext or back (R456). -/
def sectorCrypt (key : Digest) (w j version : Nat) (bs : List Byte) : List Byte := Sys2Proof.Config.gcmCrypt key (windowIv w j version) bs

/-- The plaintext of a sealed pull where every check of R457 holds. -/
def State.openWindow (s : State) (w n : Nat) (data header : List Byte) (tags : List Word64) : Option (List Byte) :=
  let version := leVal (header.take 8)
  let epoch := leVal ((header.drop 8).take 8)
  let sectors := (chunks 512 data).zipIdx
  match s.sec.tenant with
  | none => none
  | some k =>
    let key := k.extKey epoch
    if version = n + 1 ∧ leVal ((header.drop 16).take 1) = w ∧ (epoch = s.sec.epoch.toNat ∨ (s.sec.oldLive ∧ epoch + 1 = s.sec.epoch.toNat)) ∧
        sectors.all (fun (c : List Byte × Nat) => tags[c.2]? == some (sectorTag key w c.2 version header c.1)) then
      some (sectors.flatMap (fun (c : List Byte × Nat) => sectorCrypt key w c.2 version c.1))
    else none

/-- What a sealed push writes: the ciphertext, the tags and the header (R455 to R457). -/
def State.sealWindow (s : State) (w n : Nat) (data : List Byte) : List Byte × List Byte × List Byte :=
  let e := s.sec.epoch.toNat
  let header := windowHeader (n + 1) e w
  let key := ((s.sec.tenant.map (fun k => k.extKey e))).getD 0
  let cs := ((chunks 512 data).zipIdx).map (fun (c : List Byte × Nat) => sectorCrypt key w c.2 (n + 1) c.1)
  (cs.flatMap id, cs.zipIdx.flatMap (fun (c : List Byte × Nat) => leBytes 8 (sectorTag key w c.2 (n + 1) header c.1).toNat), header)

/-- A sealed window fails its checks: the run moves to LOADED (R457). -/
def State.windowFails (s : State) (w : Nat) : State :=
  ({ s with sec := { s.sec with integrityFails := satAdd s.sec.integrityFails 1 } }.raise 0xB006 pkgPlaza w [BitVec.ofNat 8 w]).toLoaded

/-! ### Input windows (R361) -/

/-- Is this the time of input pulls: before the start of a step that is not replayed? -/
def State.pullTime (s : State) : Bool :=
  s.top.state == .running && !s.seq.replay && (s.seq.phase == .barrier || s.seq.phase == .recess)

/-- INPUT_WINDOW_POLL (R361, R363): the producer word as read; the pull begins when it has reached n + 1. -/
def execInputWindowPoll (w : Fin 64) (word : BitVec 64) (s : State) : Res :=
  let q := s.host.windows.get w.val
  if s.pullTime ∧ (s.activeWindow w.val false).isSome ∧ !q.moved ∧ !q.moving then
    if s.windowsMay ∧ q.n.toNat + 1 ≤ word.toNat then .next (s.modWindow w.val (fun x => { x with moving := true }))
    else .next (s.windowWait w.val)
  else .next s

/-- The end of a pull: the consumer word is written (R361), once the link is up (R353). -/
def State.windowTaken (s : State) (x : Window) : State :=
  let n := (s.host.windows.get x.num).n + 1
  (s.hostWord (x.seqAddr + 8) n.toNat).modWindow x.num (fun q => { q with n := n, moving := false, moved := true })

/-- A pull is accepted: the bytes land in the region and are journaled, and the consumer word is written (R361), once no record waits
under STALL (R181). -/
def State.takeWindow (s : State) (x : Window) (bs : List Byte) : State :=
  let t := match s.region x.region with
    | none => s
    | some r => (s.writeRegion r x.region x.regionOffset bs).1
  let t := t.recordInput s.seq.current 2 x.num 0 bs
  if t.seq.stalled.isEmpty then t.windowTaken x
  else { t with seq := { t.seq with heldActs := t.seq.heldActs ++ [.window x.num] } }

/-- INPUT_WINDOW_PULL_DONE (R361, R457): the window's bytes arrive, with header and tags where it is sealed. -/
def execInputWindowPullDone (w : Fin 64) (data header : List (BitVec 8)) (tags : List (BitVec 64)) (s : State) : Res :=
  match s.activeWindow w.val false with
  | none => .next s
  | some x =>
    if s.pullTime ∧ s.windowsMay ∧ (s.host.windows.get w.val).moving ∧ data.length = x.size ∧ !s.seq.heldActs.contains (.window w.val) then
      if x.extGcm then
        match s.openWindow w.val (s.host.windows.get w.val).n.toNat data header tags with
        | none => .next (s.windowFails w.val)
        | some bs => .next (s.takeWindow x bs)
      else .next (s.takeWindow x data)
    else .next s

/-! ### Output windows (R362) -/

/-- The bytes that an output window pushes: from the copy of its region that leaves the package (R362, R397); an uncorrectable
error can not be given to it (DESIGN CHOICE, log 119). -/
def State.windowBytes (s : State) (x : Window) : State × Option (List Byte) :=
  let n := s.copyOf x.region
  match s.region n with
  | none => (s, none)
  | some r => s.readRegion r n x.regionOffset x.size 24 {} false

/-- OUTPUT_WINDOW_POLL (R362, R363): the consumer word as read; the push begins when it has reached n. The records of the commit
come first (R164, R181). -/
def execOutputWindowPoll (w : Fin 64) (word : BitVec 64) (s : State) : Res :=
  let q := s.host.windows.get w.val
  if s.top.state = .running ∧ s.seq.phase = .commit ∧ s.seq.stalled.isEmpty ∧ (s.activeWindow w.val true).isSome ∧ !q.moved ∧ !q.moving then
    if s.windowsMay ∧ q.n.toNat ≤ word.toNat then .next (s.modWindow w.val (fun x => { x with moving := true }))
    else .next (s.windowWait w.val)
  else .next s

/-- The writes of a push in their order: data, then tags and header where it is sealed, then the producer word (R362, R457). -/
def State.pushWindow (s : State) (x : Window) (bs : List Byte) : State :=
  let n := (s.host.windows.get x.num).n.toNat
  let t :=
    if x.extGcm then
      let c := s.sealWindow x.num n bs
      ((s.emit (.hostWrite x.addr c.1)).emit (.hostWrite (x.addr + x.size + 64) c.2.1)).emit (.hostWrite (x.addr + x.size) c.2.2)
    else s.emit (.hostWrite x.addr bs)
  let t := t.emit (.hostWrite x.seqAddr (leBytes 8 (n + 1)))
  let t := t.modWindow x.num (fun q => { q with n := q.n + 1, moving := false, moved := true })
  if x.irq then t.msix x.msix else t

/-- OUTPUT_WINDOW_PUSH_DONE (R362): the window's bytes are in host memory, its producer word is written, and its vector signalled. -/
def execOutputWindowPushDone (w : Fin 64) (s : State) : Res :=
  match s.activeWindow w.val true with
  | none => .next s
  | some x =>
    if s.top.state = .running ∧ s.seq.phase = .commit ∧ s.windowsMay ∧ (s.host.windows.get w.val).moving then
      match s.windowBytes x with
      | (t, none) => .next t
      | (t, some bs) => .next (t.pushWindow x bs)
    else .next s

end Sys2Proof.Machine
end

