-- ==== Sys2Proof/Machine/Run.lean ====
section
/-! DEFINITION. Runs: START, REPLAY and STOP_AT_STEP, and how the next step gets its start time (R163, R170 to R173, R183, R370,
R371). -/
namespace Sys2Proof.Machine

/-! ### The start of a run (R360, R370) -/

/-- Observers at D_INIT with an empty history; the total of saturations goes on counting (R96, R370). -/
def restartObserver (o : Observer) : Observer := { freshObserver o with satTotal := o.satTotal }

/-- A run begins at step `first` with a seed: observers and tallies start again (R370). -/
def State.newRun (s : State) (seed : BitVec 128) (first : Word64) : State :=
  let t := (s.eachShallot (fun _ h => { h with tallies := {} })).modGw 0 (fun g => { g with tallies := {} })
  let t := t.modGw 1 (fun g => { g with tallies := {} })
  { t with seq := { t.seq with
      observers := t.seq.observers.mapAll (fun _ o => restartObserver o), current := first, firstStep := first, seed := seed } }

/-- The state RUNNING at the barrier before the current step, with its start time where it is fixed. -/
def State.enterRun (s : State) (replay : Bool) (at_ : Option Nat) : State :=
  { s with
    top := { s.top with state := .running },
    seq := { s.seq with phase := .barrier, replay := replay, startAt := at_, ready := [], ownReady := none, recoveries := 0, exe := {},
                        once := {}, mismatch := false, failInfo := (0, 0) } }

/-- The count of a window starts at zero, and the package writes zero to its own word (R360), once the link is up (R353). -/
def State.zeroWindow (s : State) (x : Window) : State :=
  (s.hostWord (if x.isOutput then x.seqAddr else x.seqAddr + 8) 0).modWindow x.num (fun _ => {})

/-- The windows of the image, or only its output windows. -/
def State.imageWindows (s : State) (onlyOutput : Bool) : List Window :=
  ((s.img.image.map (fun i => i.windows)).getD []).filter (fun x => x.isOutput || !onlyOutput)

/-- A step starts at an IEEE 1588 time, or at once where it has passed, which is raised and counted (R170, R172, R370). -/
def State.startTime (s : State) (t : Nat) : State × Nat :=
  if t < s.ptpTime then
    ({ s with seq := { s.seq with domainLate := satAdd s.seq.domainLate 1 } }.raise 0x0013 pkgPlaza 0 [], s.top.now)
  else (s, ((t : Int) - s.net.timeOffset).toNat)

/-! ### START (R370) -/

/-- Does a placed shallot stand FENCED (R155, R366)? -/
def State.placedFence (s : State) : Bool := shallotNums.any (fun n => (s.shal n).placed && (s.shal n).fenced)

/-- Does the loaded image need a tenant session: a SESSION region or a sealed window (R203, R455)? -/
def State.needsSession (s : State) : Bool :=
  match s.img.image with
  | none => false
  | some i => i.regions.cells.any (fun c => match c.2 with | some r => r.session | none => false) || i.windows.any (fun w => w.extGcm)

/-- The flags of START: SEED_TRNG, DOMAIN_TIME, CONTINUE. -/
def startFlag (a : List Word) (i : Nat) : Bool := bitAt (argAt a 0) i

/-- The checks of START (R366, R367, R370); the time arguments are unused without DOMAIN_TIME, and CONTINUE has its own test (log 25). -/
def State.startCheck (s : State) (a : List Word) : CmdCheck :=
  let cont := startFlag a 2
  { accept := 0x10,
    bad := decide (8 ≤ argAt a 0) || !argsZeroFrom a 9 || (!cont && !startFlag a 1 && argPair a 7 != 0),
    refused := s.placedFence || (s.needsSession && s.sec.tenant.isNone),
    badNow := if cont then argPair a 1 != s.seq.current.toNat || !argsZeroFrom a 3 || !s.seq.ranLoad
              else (s.img.image.bind (fun i => i.domain)).isSome && !startFlag a 1 }

/-- The RUN_START record (R179). R180 gives it no step of its own: it carries the number of the run's first step (DESIGN CHOICE,
log 92). -/
def State.runStart (s : State) : JRecord :=
  { step := s.seq.current, type := 1,
    payload := leBytes 16 s.seq.seed.toNat ++ ((s.img.image.map (fun i => i.digest)).getD []) ++ leBytes 8 s.seq.current.toNat }

/-- The seed of a new run: given, or drawn (R370, R444). -/
def State.runSeed (s : State) (a : List Word) : State × BitVec 128 :=
  if startFlag a 0 then
    ({ s with sec := { s.sec with draws := s.sec.draws + 1 } }, (Sys2Proof.Config.trng s.sec.draws).setWidth 128)
  else (s, BitVec.ofNat 128 (argPair a 3 + 2 ^ 64 * argPair a 5))

/-- START as a command: a new run, or the run resumed at STEP_CURRENT with the seed in force (R370). -/
def State.cmdStart (s : State) (c : RunningCmd) : State :=
  s.command c (s.startCheck c.args) (fun s =>
    let a := c.args
    if startFlag a 2 then s.enterRun false none
    else
      let q := s.runSeed a
      let t := q.1.newRun q.2 (BitVec.ofNat 64 (argPair a 1))
      let t := ({ t with host := { t.host with windows := {} } }.imageWindows false).foldl State.zeroWindow
        { t with host := { t.host with windows := {} } }
      let t := { t with seq := { t.seq with ran := false, replay := false } }.record t.runStart
      let u := if startFlag a 1 then t.startTime (argPair a 7) else (t, t.top.now)
      let v := u.1.enterRun false (some u.2)
      { v with seq := { v.seq with startTimed := startFlag a 1 && decide (t.ptpTime ≤ argPair a 7) } })

/-- START (R364, R369, R370). -/
def execStart (a : List (BitVec 32)) (s : State) : Res := .next (s.hostCommand 0x02 a State.cmdStart)

/-! ### REPLAY (R183, R369) -/

/-- The RUN_START record that the ring holds at a byte count. -/
def StepSeq.runStartAt (q : StepSeq) (count : Nat) : Option JRecord :=
  (q.ring.find? (fun c => c.1 == count && c.2.type == 1)).map Prod.snd

/-- Is it an input record (R179)? -/
def JRecord.isInput (r : JRecord) : Bool := decide (2 ≤ r.type.toNat) && decide (r.type.toNat ≤ 5)

/-- The inputs that stand before a RUN_START and belong to steps that have not ended since, from the newest record back to the RUN_START
before it (R179, R183). -/
def inputsBefore (ended : List Word64) : List JRecord → List JRecord
  | [] => []
  | r :: rs =>
    if r.type = 1 then []
    else if r.type = 8 ∨ r.type = 9 then inputsBefore (r.step :: ended) rs
    else if r.isInput && !ended.contains r.step then r :: inputsBefore ended rs
    else inputsBefore ended rs

/-- The records of the run that begins at a byte count (R183): the inputs of its steps that arrived before its RUN_START, and what
follows it up to the next RUN_START; inputs before that one may be of the next run, and no step of this run takes those. -/
def StepSeq.runRecords (q : StepSeq) (count : Nat) : List JRecord :=
  let before := (q.ring.filter (fun c => decide (c.1 < count))).map Prod.snd
  let after := (q.ring.filter (fun c => decide (count < c.1))).map Prod.snd
  (inputsBefore [] before.reverse).reverse ++ after.takeWhile (fun r => r.type != 1)

/-- REPLAY as a command: the run of a RUN_START record, with its seed and its first step (R183). Output windows count from zero as in
a live run, and input windows are not touched (R361). -/
def State.cmdReplay (s : State) (c : RunningCmd) : State :=
  let count := argPair c.args 0
  s.command c { accept := 0x10, bad := !argsZeroFrom c.args 2, refused := s.placedFence, badNow := (s.seq.runStartAt count).isNone } (fun s =>
    match s.seq.runStartAt count with
    | none => s
    | some r =>
      let t := s.newRun (BitVec.ofNat 128 (leVal (r.payload.take 16))) (BitVec.ofNat 64 (leVal ((r.payload.drop 48).take 8)))
      let t := (t.imageWindows true).foldl State.zeroWindow t
      { t with seq := { t.seq with replayLeft := s.seq.runRecords count } }.enterRun true (some t.top.now))

/-- REPLAY (R183, R364, R369). -/
def execReplay (a : List (BitVec 32)) (s : State) : Res := .next (s.hostCommand 0x09 a State.cmdReplay)

/-! ### STOP_AT_STEP (R371) -/

/-- The step at which an armed stop takes effect: `k` itself; where a boundary is still held after a commit and the step that is current has
been passed, the one after the next commit (R371). -/
def State.stopStep (s : State) (k : Nat) : Option Word64 :=
  if k = 2 ^ 64 - 1 then none
  else if s.seq.boundaryDue ∧ k ≤ s.seq.current.toNat then some (s.seq.current + 1)
  else some (BitVec.ofNat 64 k)

/-- STOP_AT_STEP as a command: arms a stop at a step, or disarms it. -/
def State.cmdStop (s : State) (c : RunningCmd) : State :=
  let k := argPair c.args 0
  s.command c { accept := 0x30, bad := !argsZeroFrom c.args 2 } (fun s =>
    { s with seq := { s.seq with stopAt := s.stopStep k } }.endCmd .ok [])

/-- STOP_AT_STEP (R364, R369, R371). -/
def execStopAtStep (a : List (BitVec 32)) (s : State) : Res := .next (s.hostCommand 0x03 a State.cmdStop)

/-! ### Readiness and the domain barrier (R170 to R173) -/

/-- The step that the next READY exchange is about: the current one until it starts, and else the one after it. -/
def State.nextStep (s : State) : Word64 := if s.seq.phase == .barrier || s.seq.phase == .recess then s.seq.current else s.seq.current + 1

/-- The start time is fixed: the start message goes out (R163, R170). -/
def State.fixStart (s : State) (at_ : Nat) : State := { s with seq := { s.seq with phase := .start, startAt := some at_ } }

/-- The other members of the domain. -/
def State.domainPeers (s : State) : List Nat :=
  match s.img.image.bind (fun i => i.domain) with
  | none => []
  | some d => (upto d.1).filter (fun m => m != d.2.1)

/-- READY as it travels: the step and the time of readiness, 8 bytes each (log 26). -/
def State.sendReady (s : State) (t : Nat) : State :=
  s.domainPeers.foldl (fun u m => u.sendTo m 8 (leBytes 8 s.seq.current.toNat ++ leBytes 8 t)) s

/-- Does SYNC_IO carry the external barrier (R173, R206)? -/
def State.extBarrier (s : State) : Bool := s.claimed 1 2 0

/-- With the READY of every package the start time is T = max(t_r) + D, or now where T has passed, and never less than 200 ns after the
start message (R170 to R172). -/
def State.checkReady (s : State) : State :=
  match s.img.image.bind (fun i => i.domain), s.seq.ownReady with
  | some d, some own =>
    let got := s.seq.ready
    if s.seq.phase = .barrier ∧ s.domainPeers.all (fun m => got.any (fun r => r.1 == m)) then
      let u := s.startTime (max own (maxOf (got.map Prod.snd)) + d.2.2 * 1000)
      { u.1 with seq := { u.1.seq with ready := [] } }.fixStart (max u.2 (s.top.now + 200))
    else s
  | _, _ => s

/-- May the package be ready: inputs pulled, records written, no recess, no decided switch-over (R22, R163, R171, R181, R389)? -/
def State.mayBeReady (s : State) : Bool :=
  s.top.state == .running && s.seq.phase == .barrier && s.seq.grant.isNone && s.seq.ownReady.isNone && !s.seq.boundaryDue &&
  s.cond.switching.isNone &&
  (s.seq.replay || s.windowsMoved false) && s.seq.stalled.isEmpty

/-- PACKAGE_READY (R170 to R173): the package is ready for the current step. In a domain it sends READY; under EXT_BARRIER it
releases SYNC_IO; else the step sequencer fixes the start at least 200 ns ahead. A first step that a late pull keeps beyond the time that
START gave starts late, as R172 gives (R363). -/
def execPackageReady (s : State) : Res :=
  let domain := (s.img.image.bind (fun i => i.domain)).isSome
  if s.mayBeReady then
    match s.seq.startAt with
    | some t =>
      let late := s.seq.startTimed && domain && decide (t < s.top.now)
      let u := if late then { s with seq := { s.seq with domainLate := satAdd s.seq.domainLate 1 } }.raise 0x0013 pkgPlaza 0 [] else s
      .next (u.fixStart (max t (s.top.now + 200)))
    | none =>
      if s.seq.replay then .next (s.fixStart (s.top.now + 200))
      else if s.extBarrier then
        .next (if !domain || (s.schedReady s.seq.current && s.storesDone) then { s with seq := { s.seq with ownReady := some s.ptpTime } } else s)
      else if domain then
        if s.schedReady s.seq.current && s.storesDone then
          .next (({ s with seq := { s.seq with ownReady := some s.ptpTime } }.sendReady s.ptpTime).checkReady)
        else .next s
      else .next (s.fixStart (s.top.now + 200))
  else .next s

/-- READY (R171): the READY of a member for the next step; under EXT_BARRIER the exchange is not used (R173). -/
def execReadyMsg (member : Fin 2048) (step t : BitVec 64) (s : State) : Res :=
  if s.top.state = .running ∧ !s.seq.replay ∧ !s.extBarrier ∧ s.domainPeers.contains member.val ∧ step = s.nextStep then
    .next ({ s with seq := { s.seq with ready := (s.seq.ready.filter (fun (r : Nat × Nat) => r.1 != member.val)) ++ [(member.val, t.toNat)] } }.checkReady)
  else .next s

/-- Does the package wait for READY messages? -/
def State.awaitsReady (s : State) : Bool :=
  s.top.state == .running && s.seq.phase == .barrier && !s.extBarrier && (s.img.image.bind (fun i => i.domain)).isSome

/-- READY_RESEND (R171): READY goes out again every 20 µs until the step starts. -/
def execReadyResend (s : State) : Res :=
  match s.seq.ownReady with
  | some t => .next (if s.top.state = .running ∧ (s.seq.phase = .barrier ∨ s.seq.phase = .start) ∧ !s.extBarrier then s.sendReady t else s)
  | none => .next s

/-- DOMAIN_WAIT_TIMER (R172): the READY set is incomplete 10 ms after the package became ready, and every 10 ms on. -/
def execDomainWaitTimer (s : State) : Res :=
  .next (if s.awaitsReady && s.seq.ownReady.isSome then s.raise 0x0014 pkgPlaza 0 [] else s)

/-- SYNC_IO_RISE (R173): under EXT_BARRIER every package starts its next step 1 µs after the line rises. -/
def execSyncIoRise (s : State) : Res :=
  .next (if s.extBarrier ∧ s.top.state = .running ∧ s.seq.phase = .barrier ∧ s.seq.ownReady.isSome then s.fixStart (s.top.now + 1000) else s)

end Sys2Proof.Machine
end

