-- ==== Sys2Proof/Machine/StepStart.lean ====
section
/-! DEFINITION. The start of an execution: replayed inputs, the checkpoint, what a step start clears, and beat 0 (R65, R98, R128, R149,
R163, R166, R170, R183, R310, R319). -/
namespace Sys2Proof.Machine

/-! ### Inputs of a replay (R183) -/

/-- A record's bytes land in a region at an offset. -/
def State.replayWrite (s : State) (region off : Nat) (bs : List Byte) : State :=
  match s.region region with
  | none => s
  | some r => (s.writeRegion r region off bs).1

/-- The receiving stream of a port whose span holds an offset (R179). -/
def State.streamAt (s : State) (port off : Nat) : Option Stream :=
  s.img.image.bind (fun i => i.streams.find? (fun x => x.dir == 1 && x.subport / 8 == port && decide (x.roffset ≤ off) && decide (off < x.roffset + x.bytes)))

/-- A replayed call takes the next slot of its serving step (R179, R310). -/
def State.replayCall (s : State) (r : JRecord) : State :=
  match s.img.image.bind (fun i => i.endpoint) with
  | none => s
  | some e =>
    let k := r.step.toNat
    let i := (s.net.calls.filter (fun x => x.step == r.step)).length
    let head := leBytes 4 r.source.toNat ++ leBytes 8 r.index.toNat ++ leBytes 4 r.payload.length ++ List.replicate 48 0
    let t := s.replayWrite e.reqRegion (e.slotOffset k i) (head ++ (r.payload ++ List.replicate e.payload 0).take e.payload)
    { t with net := { t.net with calls := t.net.calls ++
        [{ session := r.source.toNat, call := r.index.setWidth 64, step := r.step, slot := i }] } }

/-- One recorded input takes effect at its stamped step (R179, R183). -/
def State.replayInput (s : State) (r : JRecord) : State :=
  let off := 32 * r.index.toNat
  match r.type.toNat with
  | 2 => match s.window r.source.toNat with
    | none => s
    | some x => s.replayWrite x.region (x.regionOffset + off) r.payload
  | 3 => match s.streamAt r.source.toNat off with
    | none => s
    | some x => s.replayWrite x.region off r.payload
  | 4 => s.replayWrite r.source.toNat off r.payload
  | 5 => s.replayCall r
  | _ => s

/-- In replay every recorded input of the step is applied before it starts, each one once (R183). -/
def State.replayInputs (s : State) : State :=
  if s.seq.replay then
    let mine := fun (r : JRecord) => r.isInput && r.step == s.seq.current
    (s.seq.replayLeft.filter mine).foldl State.replayInput { s with seq := { s.seq with replayLeft := s.seq.replayLeft.filter (fun r => !mine r) } }
  else s

/-! ### The checkpoint (R166) -/

/-- The store rows of a pod that the checkpoint of a step kind holds, as the narrow and the wide walks give them (R166). -/
def Pod.ckptRows (p : Pod) (kind : Nat) : List Nat :=
  let rows := fun (wide : Bool) => match podWalk p kind wide with | none => [] | some w => w.ckptSet []
  (rows false ++ rows true).eraseDups

/-- The pod with its checkpoint taken. -/
def Pod.takeCkpt (p : Pod) (kind : Nat) : Pod := { p with ckpt := (p.ckptRows kind).map (fun r => (r, p.store.get r)) }

/-! ### Beat 0 -/

/-- From a step boundary on, a pod whose row path failed carries every ROW operation on its private channel (R122, R406). -/
def State.movePrivate (s : State) : State :=
  shallotNums.foldl (fun t n => (t.shal n).pods.cells.foldl (fun (t : State) (c : Nat × Pod) =>
    if c.2.privNext && c.2.rowPath == 0 then (t.modPod n c.1 (fun p => { p with rowPath := 1, privNext := false })).raise 0x8002 n c.1 []
    else t) t) s

/-- A placed shallot at the start of an execution (R65, R98, R149, R163); with no pod to issue it is done at once. -/
def Shallot.stepStart (h : Shallot) (kind : Nat) (wide : Bool) : Shallot :=
  let pods := h.pods.mapAll (fun _ p => if p.placed then (p.takeCkpt kind).stepStart kind else p)
  let runs := pods.cells.any (fun c => c.2.issuing)
  { h with
    pods := pods, beat := 0, inStep := runs, beatZeroDue := runs, recvHolds := [], waitHolds := [], retryHold := 0, rowWaits := [], privHold := 0,
    wideHold := 0, wakeHeld := [], wakeHold := 0, forecastHold := none,
    arithStatus := if wide then 8 else 0, arithFirst := 0, arithFirstBeat := 0, firstCol := 0, wideCount := satAdd h.wideCount (b2n wide),
    pwr := { h.pwr with dueWakes := (pods.cells.filter (fun c => c.2.placed)).map Prod.fst } }

/-- The offsets that an execution uses: each observer's own at the first one, and those of the replaced one later (R74, R90, R168). -/
def StepSeq.startOffs (q : StepSeq) : Tbl Int :=
  q.observers.cells.foldl (fun (t : Tbl Int) (c : Nat × Observer) => t.set c.1 c.2.d) {}

/-- Is this the first execution of the step? -/
def Execution.first (e : Execution) : Bool := !e.second && !e.recovery

/-- Every placed shallot starts; those without a pod in the step kind are done at once (R163). WIDE is set and counted, and the arithmetic
status cleared, in placed shallots only (R65, R67; DESIGN CHOICE, log 108). -/
def State.startShallots (s : State) : State :=
  let kind := ((s.img.image.map (fun i => i.kindOf s.seq.current.toNat))).getD 0
  let t := s.modShs (fun h => h.placed) (fun h => h.stepStart kind s.seq.exe.wide)
  let idle := shallotNums.filter (fun n => (t.shal n).placed && !(t.shal n).inStep)
  { t with seq := { t.seq with done := BitVec.ofNat 8 (packN 1 (fun n => b2n (idle.contains n)) 8) } }

/-- The events of a re-execution, each once per step, and the count of those with raised offsets (R65, R67, R90, R96). -/
def State.rerunEvents (s : State) : State :=
  let e := s.seq.exe
  let t :=
    if e.missCause && !s.seq.once.wide then
      { s with seq := { s.seq with once := { s.seq.once with wide := true } } }.raise 0x1011 24 0 (leBytes 4 e.missFirst.1.toNat)
    else s
  if e.satRerun && !t.seq.once.satRerun then
    let t := { t with seq := { t.seq with once := { t.seq.once with satRerun := true }, satReruns := satAdd t.seq.satReruns 1 } }
    t.raise 0x1021 24 0 (leBytes 2 (minOf 0xFFFF e.raised))
  else t

/-- START or REPLAY ends when step execution begins; START returns the seed in use (R369, R370). -/
def State.runBegun (s : State) : State :=
  match s.host.running with
  | none => s
  | some c =>
    if c.opcode = 2 then s.endCmd .ok ((upto 4).map (fun i => BitVec.ofNat 32 (bitsOf s.seq.seed.toNat (32 * i) 32)))
    else if c.opcode = 9 then s.endCmd .ok []
    else s

/-- The arbiters begin a step: their slots count from its beat 0 (R233, R234). -/
def State.arbsStart (s : State) : State :=
  { s with blv := { s.blv with arbs := s.blv.arbs.mapAll (fun _ a => { a with slot := 0, early := [], missed := [] }) } }

/-- The execution begins (R163, R170). -/
def State.beginExec (s : State) (skew : Word) : State :=
  let first := s.seq.exe.first
  let t := if first then (s.movePrivate.replayInputs).emptySlots else s.rerunEvents
  let t := { t with seq := { t.seq with
      phase := .execute, startAt := none, ownReady := none, tallySave := [], ran := true, ranLoad := true, startTimed := false,
      skewMax := if t.seq.skewMax.toNat < skew.toNat then skew else t.seq.skewMax,
      exe := if first then { t.seq.exe with offs := t.seq.startOffs } else t.seq.exe } }
  let t := t.runBegun.startShallots.arbsStart.issueReach 0
  t.maybeDrain

/-- Does the first start after a boundary wait for a returning conductor's snapshot (R392)? -/
def Cond.resyncing (c : Cond) : Bool := (c.c0.state == .resync && c.c0.resyncReady) || (c.c1.state == .resync && c.c1.resyncReady)

/-- STEP_START (R163, R166, R170): beat 0 issues at the start time; `skew` is the measured spread of the beat-0 instants in ps. A
placed shallot that stands FENCED ends the execution by R155; one whose reset runs is awaited (R497), and so is a decided switch-over
(R22, R389). -/
def execStepStart (skew : BitVec 32) (s : State) : Res :=
  match s.seq.startAt with
  | none => .next s
  | some t0 =>
    if s.top.state = .running ∧ s.seq.phase = .start ∧ t0 ≤ s.top.now ∧ s.seq.grant.isNone ∧ s.cond.switching.isNone ∧ !(s.seq.exe.first && s.cond.resyncing) ∧
        !shallotNums.any (fun n => (s.shal n).placed && (s.shal n).resetting) then
      if s.placedFence then .next (s.endExec .fence) else .next (s.beginExec skew)
    else .next s

end Sys2Proof.Machine
end

