-- ==== Sys2Proof/Machine/Commit.lean ====
section
/-! DEFINITION. The end of an execution: the decision, the journal records of a commit, the scale tracker, the restore, and the
step boundary (R64 to R71, R86 to R96, R163 to R169, R178 to R184, R371, R384, R395 to R397, R405). -/
namespace Sys2Proof.Machine

/-! ### What the execution found -/

/-- Placed shallots, rising. -/
def State.placedList (s : State) : List Nat := shallotNums.filter (fun n => (s.shal n).placed)

/-- ARITH_FIRST and its beat of the lowest placed shallot whose status has a bit of the mask; zero for none. -/
def State.firstOf (s : State) (mask : BitVec 4) : Word × Word :=
  match s.placedList.find? (fun n => (s.shal n).arithStatus &&& mask != 0) with
  | none => (0, 0)
  | some n => ((s.shal n).arithFirst, (s.shal n).arithFirstBeat)

/-- Does some placed shallot report a bit of the mask (R64)? -/
def State.anyArith (s : State) (mask : BitVec 4) : Bool := s.placedList.any (fun n => (s.shal n).arithStatus &&& mask != 0)

/-- The observation of an observer's tensor: none when it was not written (R85). -/
def Execution.obsOf (e : Execution) (o : ObserverEntry) : Option (Option Int) := e.obs.get o.tid.toNat

/-- The saturations of an observer's tensor (R35). -/
def Execution.satOf (e : Execution) (o : ObserverEntry) : Nat := e.sats.get o.tid.toNat

/-- The observers of the image with their entries, rising. -/
def StepSeq.entries (q : StepSeq) : List (Nat × Observer × ObserverEntry) :=
  q.observers.cells.filterMap (fun c => c.2.entry.map (fun e => (c.1, c.2, e)))

/-- Observers that the execution raises, with their raised offsets: the count passes SAT_LIMIT, ACTION is 1, and a raise is possible
(R89). -/
def StepSeq.raises (q : StepSeq) : List (Nat × Int) :=
  q.entries.filterMap (fun c =>
    let d := q.exe.offs.get c.1
    let r := raisedOffset c.2.2 d ((q.exe.obsOf c.2.2).getD none)
    if c.2.2.satLimit < q.exe.satOf c.2.2 ∧ c.2.2.action ∧ r ≠ d then some (c.1, r) else none)

/-! ### Journal records of a step (R93, R94, R179) -/

/-- The WIDE_EXEC record (R179). -/
def State.wideRecord (s : State) : JRecord :=
  let e := s.seq.exe
  { step := s.seq.current, type := 6, source := BitVec.ofNat 16 (b2n e.missCause + 2 * b2n e.satRerun),
    payload := leBytes 4 e.missFirst.1.toNat ++ leBytes 4 e.missFirst.2.toNat ++ leBytes 2 (minOf 0xFFFF e.raised) ++ List.replicate 6 0 }

/-- The scale-decision payload as a word (R93). -/
def scaleWord (step obs : Nat) (dOld dNew : Int) (o : Option Int) (raised : Bool) (sats : Nat) : Nat :=
  step * 2 ^ 64 + obs % 2 ^ 12 * 2 ^ 52 + uOf 6 dOld * 2 ^ 46 + uOf 6 dNew * 2 ^ 40 + uOf 11 (o.getD 0) * 2 ^ 29 + b2n o.isNone * 2 ^ 28 +
  b2n raised * 2 ^ 27 + min sats 0x7FFFFFF

/-- The history of an observer with the observation of the step, the H most recent entries (R86). -/
def Observer.push (o : Observer) (e : ObserverEntry) (x : Option Int) : List (Option Int) := (x :: o.hist).take e.histLen

/-- The offset of an observer after the commit, and whether its candidate passed D_MAX (R86 to R88, R92). -/
def StepSeq.newOffset (q : StepSeq) (k : Nat) (o : Observer) (e : ObserverEntry) : Int × Bool :=
  let d := q.exe.offs.get k
  match q.exe.obsOf e with
  | none => (d, false)
  | some x => if e.track then decideScale (o.push e x) d e else (d, false)

/-- The SCALE records of the step in rising observer order (R93, R94). -/
def State.scaleRecords (s : State) : List JRecord :=
  let q := s.seq
  q.entries.filterMap (fun c => (q.exe.obsOf c.2.2).map (fun x =>
    ({ step := q.current, type := 7, source := BitVec.ofNat 16 c.1,
       payload := leBytes 16 (scaleWord q.current.toNat c.1 (q.exe.offs.get c.1) (q.newOffset c.1 c.2.1 c.2.2).1 x (q.exe.raised.contains c.1)
         (q.exe.satOf c.2.2)) } : JRecord)))

/-- The flags of STEP_COMPLETE (R179). -/
def State.stepFlags (s : State) : Nat :=
  b2n s.seq.exe.wide + 2 * b2n s.seq.exe.satRerun + 4 * (s.seq.recoveries % 4) + 16 * (s.img.active % 8)

/-- The STEP_COMPLETE record over the bytes of the output windows (R179). -/
def State.completeRecord (s : State) (out : List Byte) : JRecord :=
  { step := s.seq.current, type := 8,
    payload := (upto 8).flatMap (fun n => leBytes 8 (s.seq.exe.beats.get n)) ++ leBytes 4 s.stepFlags ++ shake256 32 out }

/-- The bytes that the commit pushes, by rising window number; none where a window's region cannot be read. -/
def State.outputBytes (s : State) : List Window → State × Option (List Byte)
  | [] => (s, some [])
  | x :: xs =>
    let a := s.windowBytes x
    let b := a.1.outputBytes xs
    (b.1, match a.2, b.2 with | some p, some q => some (p ++ q) | _, _ => none)

/-- The package's own records of a commit (R94, R180). -/
def State.commitRecords (s : State) (out : List Byte) : List JRecord :=
  (if s.seq.exe.second then [s.wideRecord] else []) ++ s.scaleRecords ++ [s.completeRecord out]

/-! ### Replay (R95, R184) -/

/-- Two STEP_COMPLETE payloads agree: flags but the placement, the digest, and the beats where the placement is the same (R184). -/
def completeAgrees (a b : List Byte) : Bool :=
  let flags := fun (p : List Byte) => leVal ((p.drop 64).take 4)
  bitsOf (flags a) 0 4 == bitsOf (flags b) 0 4 && a.drop 68 == b.drop 68 && (bitsOf (flags a) 4 3 != bitsOf (flags b) 4 3 || a.take 64 == b.take 64)

/-- Do the records of one type agree with the journal's? -/
def recordsAgree (type : Half) (mine theirs : List JRecord) : Bool :=
  let pick := fun (l : List JRecord) => l.filter (fun r => r.type == type)
  (pick mine).map (fun r => (r.source, r.payload)) == (pick theirs).map (fun r => (r.source, r.payload))

/-- The observer of the first scale decision that differs from the journal's: rising, over the observers that either holds (R92,
R95). -/
def scaleDiffers (mine theirs : List JRecord) : Nat :=
  let pick := fun (l : List JRecord) (k : Nat) => (l.filter (fun r => r.type == 7 && r.source.toNat == k)).map (fun r => r.payload)
  (((mine ++ theirs).filter (fun r => r.type == 7)).map (fun r => r.source.toNat)).foldl
    (fun a k => if k < a ∧ pick mine k ≠ pick theirs k then k else a) 0xFFFF

/-- In replay the records are compared with the journal: the first difference is raised, and the run ends at this boundary (R95, R184).
A step that the journal does not hold is not compared. -/
def State.compareRecords (s : State) (mine : List JRecord) : State :=
  let theirs := s.seq.replayLeft.filter (fun r => r.step == s.seq.current && decide (6 ≤ r.type.toNat) && decide (r.type.toNat ≤ 9))
  let t := { s with seq := { s.seq with replayLeft := s.seq.replayLeft.filter (fun r => r.step != s.seq.current) } }
  if theirs.isEmpty then t
  else
    let scale := recordsAgree 7 mine theirs
    let whole := match mine.find? (fun r => r.type == 8), theirs.find? (fun r => r.type == 8) with
      | some a, some b => completeAgrees a.payload b.payload
      | _, _ => false
    if scale && recordsAgree 6 mine theirs && whole then t
    else
      let t := if scale then t else t.raise 0x1022 24 0 (leBytes 2 (scaleDiffers mine theirs))
      { t with seq := { t.seq with mismatch := true } }.raise 0x0016 pkgPlaza 0 []

/-- The records of a commit enter the journal, or are compared with it in replay (R164, R184). -/
def State.writeRecords (s : State) (rs : List JRecord) : State := if s.seq.replay then s.compareRecords rs else rs.foldl State.record s

/-! ### The scale tracker at a commit (R86 to R92, R96) -/

/-- One observer at the commit: offset, history and registers; SCALE_SAT_TOTAL gains the count of the execution that commits (R96; DESIGN
CHOICE, log 110). -/
def StepSeq.commitObserver (q : StepSeq) (k : Nat) (o : Observer) : Observer :=
  match o.entry with
  | none => o
  | some e =>
    let n := q.exe.satOf e
    let o := { o with d := (q.newOffset k o e).1, satLast := BitVec.ofNat 32 (min n 0xFFFFFFFF), satTotal := satAdd o.satTotal n,
                      hist := match q.exe.obsOf e with | none => o.hist | some x => o.push e x }
    match q.exe.obsOf e with
    | none => o
    | some x => { o with eLast := x.getD 0, emptyLast := x.isNone }

/-- EV_ARITH_SATURATION of an observer whose count passed SAT_LIMIT (R89, R92). -/
def State.satEvent (s : State) (c : Nat × Observer × ObserverEntry) : State :=
  let n := s.seq.exe.satOf c.2.2
  if c.2.2.satLimit < n then
    { s with seq := { s.seq with satEvents := satAdd s.seq.satEvents 1 } }.raise 0x1020 24 0 (leBytes 2 c.1 ++ leBytes 4 (min n 0xFFFFFFFF))
  else s

/-- The events of one observer at the commit: the count past its limit, and the candidate past D_MAX (R88, R89, R91). -/
def State.observerEvents (s : State) (c : Nat × Observer × ObserverEntry) : State :=
  let t := s.satEvent c
  if (s.seq.newOffset c.1 c.2.1 c.2.2).2 then t.raise 0x1023 24 0 (leBytes 2 c.1) else t

/-- Every observer's offset and history take their new values (R86 to R88, R164). -/
def State.commitScale (s : State) : State :=
  let t := s.seq.entries.foldl State.observerEvents s
  { t with seq := { t.seq with observers := t.seq.observers.mapAll (fun k o => s.seq.commitObserver k o) } }

/-! ### Twins (R396, R397) -/

/-- Is a shallot of a twin pair DEGRADED? -/
def Cond.degraded (c : Cond) (sh : Nat) : Bool := if sh % 2 = 0 then c.degradedEven.getLsbD (sh / 2) else c.degradedOdd.getLsbD (sh / 2)

/-- The decision of one twin pair: none for a failed step (R397). -/
def State.twinPair (s : State) (n : Nat) : Option State :=
  let rep := fun (sh : Nat) => (s.cond.twinReports.get sh).getD (0, false)
  let flag := fun (sh : Nat) => (rep sh).2 || s.cond.degraded sh
  let a := flag (2 * n)
  let b := flag (2 * n + 1)
  let bit : BitVec 4 := BitVec.ofNat 4 (2 ^ n)
  if a && b then none
  else if !a && !b then (if (rep (2 * n)).1 = (rep (2 * n + 1)).1 then some s else none)
  else
    let sh := if a then 2 * n else 2 * n + 1
    let t := { s with cond := { s.cond with
      twinHigh := if a then s.cond.twinHigh ||| bit else s.cond.twinHigh &&& ~~~bit,
      degradedEven := if a then s.cond.degradedEven ||| bit else s.cond.degradedEven,
      degradedOdd := if b then s.cond.degradedOdd ||| bit else s.cond.degradedOdd } }
    some (if s.cond.degraded sh then t else t.raise 0x700A sh 0 [])

/-- The decision of every pair in twin mode: the state, and whether the step may commit. -/
def State.twinDecision (s : State) : State × Bool :=
  (upto 4).foldl (fun (a : State × Bool) n =>
    if a.1.cond.twins.getLsbD n then
      match a.1.twinPair n with
      | some t => (t, a.2)
      | none => (a.1.raise 0x700B (2 * n) 0 [], false)
    else a) (s, true)

/-! ### The decision (R66, R67, R71, R89 to R91, R163, R168, R169) -/

/-- The restore begins, and leads to a verdict. -/
def State.toRestore (s : State) (v : Verdict) (fail : Nat × Word) : State :=
  { s with seq := { s.seq with phase := .restore, failInfo := fail, exe := { s.seq.exe with verdict := some v } } }

/-- The step fails with a cause of R179. -/
def State.decideFail (s : State) (cause : Nat) : State :=
  s.toRestore (.fail cause) (cause, if cause = 3 then 0 else if cause = 1 ∧ s.anyArith 6 then (s.firstOf 6).1 else (s.firstOf 7).1)

/-- A hardware fault: recovery, or at the fourth fault of the step its failure (R168, R169). -/
def State.decideFault (s : State) : State :=
  let t := { s with seq := { s.seq with recoveryCount := satAdd s.seq.recoveryCount 1 } }
  if s.seq.recoveries < 3 then t.toRestore .recover (0, 0) else t.decideFail 2

/-- The second execution is chosen: wide, with the raised offsets; an observer past its limit for which no raise follows has its event
now (R67, R89, R90, R92). -/
def State.decideRerun (s : State) (raised : List (Nat × Int)) : State :=
  let miss := s.anyArith 1
  let s := (s.seq.entries.filter (fun c => !(raised.map Prod.fst).contains c.1)).foldl State.satEvent s
  let t := s.modExe (fun e => { e with
    missCause := miss, missFirst := if miss then s.firstOf 1 else (0, 0), raised := raised.map Prod.fst,
    offs := raised.foldl (fun (t : Tbl Int) (c : Nat × Int) => t.set c.1 c.2) e.offs })
  t.toRestore .rerun (0, 0)

/-- The commit begins: journal records, then the observers; the window pushes follow. Records that wait under STALL delay the observers
(R164, R181). -/
def State.beginCommit (s : State) (out : List Byte) : State :=
  let t := s.writeRecords (s.commitRecords out)
  let t := if t.seq.stalled.isEmpty then t.commitScale else { t with seq := { t.seq with heldActs := t.seq.heldActs ++ [.scale] } }
  { t with seq := { t.seq with phase := .commit } }

/-- The decision of an execution that ran to its end. -/
def State.decideEnd (s : State) : State :=
  if s.anyArith 6 || s.seq.exe.failed then s.decideFail 1
  else
    let tw := s.twinDecision
    if !tw.2 then tw.1.decideFail 1
    else
      let raised := s.seq.raises
      if !s.seq.exe.second && (s.anyArith 1 || !raised.isEmpty) then tw.1.decideRerun raised
      else match tw.1.outputBytes (tw.1.activeWindows true) with
        | (t, some out) => t.beginCommit out
        | (t, none) => t.decideFault

/-- The reports of the twins by shallot (R396). -/
def reportTbl (twins : List TwinReport) : Tbl (Option (Word64 × Bool)) :=
  twins.foldl (fun (u : Tbl (Option (Word64 × Bool))) (r : TwinReport) => u.set r.sh.val (some (r.digest, r.fault))) {}

/-- DRAIN_COMPLETE (R163): every transfer of the step has landed, and the package decides. A hardware fault does not wait for
transfers that will not come. -/
def execDrainComplete (twins : List TwinReport) (s : State) : Res :=
  let e := s.seq.exe
  if s.top.state = .running ∧ s.seq.phase = .drain ∧ (e.ending.isSome ∨ (e.flights.isEmpty ∧ s.loadsDone)) then
    if e.ending.isSome then .next s.decideFault
    else
      .next { s with cond := { s.cond with twinReports := reportTbl twins } }.decideEnd
  else .next s

/-! ### The restore (R167) -/

/-- Every checkpoint row of a pod is written back. -/
def Pod.restore (p : Pod) : Pod := { p with store := p.ckpt.foldl (fun (t : Tbl Row) (c : Nat × Row) => t.set c.1 c.2) p.store, pend := [], issuing := false }

/-- One cell of the undo log is written back. -/
def State.undoOne (s : State) (h : Nat) (e : UndoEntry) : State :=
  let u := e.addr / 64
  let session := ((s.region e.region).map Region.session).getD false
  match s.unitBytes h u session with
  | none => s
  | some bs => s.storeUnit h u session (bs.take (e.addr % 64) ++ e.old ++ bs.drop (e.addr % 64 + e.old.length))

/-- The undo log of a gate die, newest entry first (R167). -/
def State.undoStack (s : State) (h : Nat) : State := ((s.mem.get h).undo.foldl (fun t e => t.undoOne h e) s).modMem h (fun m => { m with undo := [] })

/-- Rows, tallies and cells as they were at the start of the step (R166, R167). -/
def State.restoreAll (s : State) : State :=
  let t := s.modShs (fun h => h.placed) (fun h => { h with pods := h.pods.mapAll (fun _ p => if p.placed then p.restore else p) })
  let t := s.seq.tallySave.foldl (fun (t : State) (c : Nat × Nat × Tally) => t.putTally c.1 c.2.1 c.2.2) t
  let t := (upto 16).foldl State.undoStack t
  { t with seq := { t.seq with tallySave := [] } }

/-- The checkpoint is released (R164). -/
def State.dropCkpt (s : State) : State :=
  let t := s.modShs (fun h => h.placed) (fun h => { h with pods := h.pods.mapAll (fun _ p => { p with ckpt := [] }) })
  { t with mem := t.mem.mapAll (fun _ m => { m with undo := [] }), seq := { t.seq with tallySave := [] } }

/-- The execution that replaces the restored one: the second one wide, a recovery with the width and offsets of the one it replaces,
and neither with its observations (R68, R90, R168). -/
def Execution.again (e : Execution) (recovery : Bool) : Execution :=
  { wide := e.wide || !recovery, satRerun := if recovery then e.satRerun else !e.raised.isEmpty, recovery := recovery,
    second := e.second || !recovery, offs := e.offs, raised := e.raised, missCause := e.missCause, missFirst := e.missFirst }

/-- The next execution of the same step (R163, R170). -/
def State.runAgain (s : State) (recovery : Bool) : State :=
  (s.modExe (fun e => e.again recovery)).fixStart (s.top.now + 200)

/-- The placement that avoids every retired pod takes over where it differs (R201). -/
def State.movePlacement (s : State) : State :=
  match s.img.image with
  | none => s
  | some i => match s.usablePlacement i with
    | some k => if k = s.img.active then s else s.changePlacement i k
    | none => s

/-- The end of a failed step: its event, and LOADED with the step uncommitted (R66, R155, R169). -/
def State.failedEnd (s : State) : State :=
  let t := s.raise 0x0010 pkgPlaza 0 []
  let t := { t with seq := { t.seq with lastResult := 2, exe := {}, once := {} } }
  (t.dropCkpt.movePlacement).toLoaded

/-- The step has failed: its record, and once no record waits under STALL its end (R169, R179, R181). -/
def State.stepFailed (s : State) : State :=
  let t := s.record { step := s.seq.current, type := 9, payload := leBytes 4 s.seq.failInfo.1 ++ leBytes 4 s.seq.failInfo.2.toNat }
  if t.seq.stalled.isEmpty then t.failedEnd else { t with seq := { t.seq with heldActs := t.seq.heldActs ++ [.failed] } }

/-- RESTORE_DONE (R66, R67, R90, R155, R167 to R169): the restore is complete; the step fails or runs again. -/
def execRestoreDone (s : State) : Res :=
  if s.top.state = .running ∧ s.seq.phase = .restore ∧ !s.seq.heldActs.contains .failed then
    let t := s.restoreAll
    match s.seq.exe.verdict with
    | some .rerun => .next (t.runAgain false)
    | some .recover =>
      let t := { t with seq := { t.seq with recoveries := t.seq.recoveries + 1 } }.raise 0x0011 pkgPlaza 0 []
      .next (t.movePlacement.runAgain true)
    | some (.fail c) => .next { t with seq := { t.seq with failInfo := (c, if c = 3 then 0 else t.seq.failInfo.2) } }.stepFailed
    | none => .next { t with seq := { t.seq with failInfo := (3, 0) } }.stepFailed
  else .next s

/-! ### The end of a wait under STALL (R164, R181) -/

/-- One thing that waited happens. -/
def State.heldAct (s : State) (a : HeldAct) : State :=
  match a with
  | .window n => match s.window n with | some x => if s.pullTime then s.windowTaken x else s | none => s
  | .packet peer kind bytes => s.sendTo peer kind bytes
  | .scale => if s.seq.phase = .commit then s.commitScale else s
  | .failed => if s.seq.phase = .restore then s.failedEnd else s

/-- With no record left to wait, what waited happens in its order. -/
def State.runHeld (s : State) : State :=
  if s.seq.stalled.isEmpty then s.seq.heldActs.foldl State.heldAct { s with seq := { s.seq with heldActs := [] } } else s

/-- JOURNAL_STALL_RESUME (R181): the records that JOURNAL_TAIL leaves room for are written, and the waited microseconds are
counted; after the last of them what waited for it goes on. -/
def execJournalStallResume (s : State) : Res :=
  match s.seq.stallSince with
  | none => .next s
  | some t0 =>
    let waited := (s.top.now - t0) / 1000
    let t := { s with seq := { s.seq with waitUs := satAdd s.seq.waitUs waited } }
    let t := State.unstall t.seq.stalled.length t
    .next { t with seq := { t.seq with stallSince := if t.seq.stalled.isEmpty then none else some (t0 + waited * 1000) } }.runHeld

/-! ### The step boundary (R163, R164, R371, R384, R395, R405) -/

/-- When the active claim has reached 0xFF00 the umpire renumbers the claims in every stage (R384), a switch-over in progress first (R22). -/
def State.renumberClaims (s : State) : State :=
  let c := s.cond
  let top := if c.active then c.c1.claim else c.c0.claim
  if 0xFF00 ≤ top.toNat ∧ c.switching.isNone then
    let a : Half := if c.active then 1 else 2
    let b : Half := if c.active then 2 else 1
    { s with cond := { c with
        c0 := { c.c0 with claim := a }, c1 := { c.c1 with claim := b },
        stages := (upto 40).foldl (fun (t : Tbl OutStage) k =>
          if k < 3 ∨ 8 ≤ k then t.mod k (fun x => { x with claim0 := a, claim1 := b }) else t) c.stages } }.raise 0x7009 26 0 []
  else s

/-- Does a conductor run as active or standby? -/
def CondState.runs : CondState → Bool
  | .active | .standby => true
  | _ => false

/-- Comparison is in force again from the boundary at which both conductors run (R395). -/
def Cond.resume (c : Cond) : Cond := { c with comparing := c.mode.getLsbD 0 && c.c0.state.runs && c.c1.state.runs }

/-- The windows of the step that comes have moved nothing yet (R363). -/
def State.freshWindows (s : State) : State :=
  { s with host := { s.host with windows := s.host.windows.mapAll (fun _ w => { w with waited := 0, waitRaised := false, moving := false, moved := false }) } }

/-- Does a suspect group await its wire test (R405): a row or private group of a placed pod, or an interface group? -/
def State.testsDue (s : State) : Bool :=
  shallotNums.any (fun n => (s.shal n).bonds.cells.any (fun c => c.2.suspect)) || !s.blv.suspects.isEmpty

/-- Does the run end at this boundary: at an armed stop, at a difference or the end of the journal in replay (R184, R371)? -/
def State.stopsHere (s : State) : Bool :=
  (match s.seq.stopAt with | some k => decide (k.toNat ≤ s.seq.current.toNat) | none => false)

/-- In replay: a record differed, or no completed step is left in the journal (R184). -/
def State.replayOver (s : State) : Bool :=
  s.seq.replay && (s.seq.mismatch || !s.seq.replayLeft.any (fun r => r.type == 8 || r.type == 9))

/-- After the wire tests of the boundary: the stop or the end of the run, and else a change of placement, then a granted recess, then
the barrier (R371, R405). -/
def State.boundaryRest (s : State) : State :=
  let t := { s with seq := { s.seq with boundaryDue := false } }
  if t.stopsHere then (t.raise 0x6004 24 0 []).toLoaded
  else if t.replayOver || t.seq.leave then t.toLoaded
  else t.movePlacement.boundaryRecess t.seq.committed.toNat

/-- With the last wire test of a boundary over and no decided switch-over before it, the boundary goes on (R22, R389, R405). -/
def State.testsOver (s : State) : State :=
  if s.seq.boundaryDue && !s.testsDue && s.cond.switching.isNone then s.boundaryRest else s

/-- Steps 4 to 6 of a commit (R164). -/
def State.finishCommit (s : State) : State :=
  let t := ((s.releaseSched.issueReach 1).releaseService).dropCkpt
  { t with seq := { t.seq with
      committed := t.seq.current, current := t.seq.current + 1, lastResult := 1, recoveries := 0, once := {}, exe := {} },
           cond := { t.cond with twinReports := {} } }

/-- COMMIT_COMPLETE (R164, R327, R371, R460): releases leave, the checkpoint is released, the step counters advance, and the boundary
begins: stamped writes, a rotation in force, renumbered claims, the wire tests, then the stop or the way to the next step (R405). -/
def execCommitComplete (s : State) : Res :=
  if s.top.state = .running ∧ s.seq.phase = .commit ∧ s.seq.stalled.isEmpty ∧ s.windowsMoved true then
    let t := s.finishCommit.freshWindows
    let t := t.applyStamps.rotateInForce.renumberClaims.movePrivate
    let t := { t with cond := t.cond.resume, seq := { t.seq with phase := .barrier } }
    .next ({ t with seq := { t.seq with boundaryDue := true } }.testsOver)
  else .next s

end Sys2Proof.Machine
end

