-- ==== Sys2Proof/Machine/PodRow.lean ====
section
/-! DEFINITION. ROW: the bond path of a pod (R108, R121 to R124, R403, R404). Every ROW operation moves its row and pays
what the bond costs it. -/
namespace Sys2Proof.Machine

/-- How many wires a group has beyond its data wires, and how many it can serve (R400, R403). -/
def groupSpares (g : Nat) : Nat := if g = 16 then 12 else 16

/-- The shallot's bond group changed. -/
def Shallot.modBond (h : Shallot) (p g : Nat) (f : BondGroup → BondGroup) : Shallot :=
  { h with bonds := h.bonds.mod (p * 17 + g) f }

/-- Failed tries on the row path: each failed check makes the group suspect (R403) and is counted (R416). -/
def Shallot.rowCheckFail (h : Shallot) (p g n : Nat) : Shallot :=
  if n = 0 then h
  else { h.modBond p g (fun b => { b with suspect := true }) with rowCheckFails := satAdd h.rowCheckFails n }

/-- A transfer on the private channel after `n` held periods of retries: 15 held periods, or 31 for two rows (R122, R124, R404). Holds
of several pods in one beat run side by side, and those of one operation one after another. -/
def Shallot.privTransfer (h : Shallot) (two : Bool) (n : Nat) : Shallot :=
  { h with privHold := max h.privHold (n + (if two then 31 else 15)) }

/-- Retries on the row path, and after them the second row of a wide transfer (R124, R404). -/
def Shallot.retries (h : Shallot) (two : Bool) (n : Nat) : Shallot :=
  { h with retryHold := max h.retryHold n, wideHold := if two then max h.wideHold (n + 1) else h.wideHold }

/-- Does the row path or the private channel of a pod train now (R413)? Its ends stand in the tables under these numbers. -/
def State.rowTraining (s : State) (n p : Nat) : Bool :=
  [0, 2 ^ 24].any (fun e => (s.blv.ends.get (e + 2 ^ 16 + n * 512 + p)).training || (s.blv.ends.get (e + 2 ^ 17 + n * 512 + p)).training)

/-- What one ROW operation costs on the bond, by the outcome of its tries; `two` where it moves two rows (R124). -/
def State.rowBond (s : State) (r : PodRef) (env : RowEnv) (two : Bool) : State :=
  let n := r.sh.val
  let p := r.pod.val
  let pod := s.pod n p
  let g := env.group.val
  let channel := fun (t : State) (after : Nat) =>
    let t := t.modSh n (fun h => h.privTransfer two after)
    if env.chanFails then t.retirePod n p else t
  let s := if s.rowTraining n p then s.modSh n (fun h => { h with rowWaits := if h.rowWaits.contains p then h.rowWaits else h.rowWaits ++ [p] }) else s
  if pod.rowPath == 2 then s
  else if pod.rowPath == 1 then channel s 0
  else
    let full := decide (groupSpares g ≤ (((s.shal n).bond p g).marked).length)
    let s := s.modSh n (fun h => h.rowCheckFail p g env.fails.val)
    if env.fails.val ≠ 0 ∧ full then channel (s.modPod n p (fun q => { q with privNext := true })) 0
    else if env.fails.val ≤ 3 then s.modSh n (fun h => h.retries two env.fails.val)
    else channel (s.modSh n (fun h => { h with retryHold := max h.retryHold 3 })) 3

/-- A ROW operation: its effect on the pod, then its cost on the bond. -/
def State.rowOp (s : State) (ok : Bool) (r : PodRef) (a : RowArgs) (env : RowEnv) (w96 : Bool)
    (f : ExecCtx → Pod → Nat → Pod) : Res :=
  if ok then
    let ctx := s.ctx r.sh.val
    let pod := s.pod r.sh.val r.pod.val
    let row := pod.rowAddr a.addr a.idx
    let two := (pod.wideRows ctx w96 row).isSome
    .next ({ (s.modPod r.sh.val r.pod.val (fun _ => f ctx pod row)) with free := s.free + 1 }.rowBond r env two)
  else .refused .loaderRefuses

/-- ROW READ (R108): a store row into a row buffer. -/
def execRowRead (p : PodRef) (a : RowArgs) (env : RowEnv) (s : State) : Res :=
  s.rowOp (plainRowForm a) p a env a.w96 (fun ctx q row => q.rowRead ctx a.buf a.w96 row)

/-- ROW WRITE (R108): a row buffer into a store row. -/
def execRowWrite (p : PodRef) (a : RowArgs) (env : RowEnv) (s : State) : Res :=
  s.rowOp (plainRowForm a) p a env a.w96 (fun ctx q row => q.rowWrite ctx a.buf a.w96 row)

/-- ROW LOADW (R108): a store row into a data part of a weight bank. -/
def execLoadw (p : PodRef) (a : RowArgs) (env : RowEnv) (s : State) : Res :=
  s.rowOp (pairForm a) p a env false (fun ctx q row => q.loadW ctx a.bank a.fpair a.part.val row)

/-- ROW LOADS (R108): the tile's scale bytes into a weight bank. -/
def execLoads (p : PodRef) (a : RowArgs) (env : RowEnv) (s : State) : Res :=
  s.rowOp (loadsForm a) p a env false (fun ctx q row => q.loadS ctx a.bank a.fpair a.part.val row)

/-- ROW LOADC (R108): 64 channel multipliers into a weight bank. -/
def execLoadc (p : PodRef) (a : RowArgs) (env : RowEnv) (s : State) : Res :=
  s.rowOp (loadcForm a) p a env false (fun ctx q row => q.loadC ctx a.bank a.fpair a.part.val row)

/-- ROW ZERO (R108): a row of zeros into a store row. -/
def execRowZero (p : PodRef) (a : RowArgs) (env : RowEnv) (s : State) : Res :=
  s.rowOp (plainRowForm a) p a env false (fun ctx q row => q.rowZero ctx row)

end Sys2Proof.Machine
end

