-- ==== Sys2Proof/Machine/Bonds.lean ====
section
/-! DEFINITION. Bonds: wire tests and steering, the repair log, sideband frames, and the training of units (R400 to R418). -/
namespace Sys2Proof.Machine

/-! ### Units and groups (R226, R400) -/

/-- Interface groups of the die at a plaza, by direction (R226). -/
def groupCount (inbound : Bool) (p : Nat) : Nat :=
  match plazaKind p, inbound with
  | 0, false => 416 | 0, true => 640 | 1, false => 200 | 1, true => 100 | 2, _ => 352 | _, _ => 14

/-- Training units of a direction (R400). -/
def unitCount (inbound : Bool) (p : Nat) : Nat := cdiv (groupCount inbound p) 16

/-- Positions of a training unit (R400). -/
def unitWidth : BondUnit → Nat
  | .interface p i u => min 16 (groupCount i p.val - 16 * u.val)
  | .row _ => 16
  | .priv _ => 1

/-- The number of a pod in the package. -/
def podIx (r : PodRef) : Nat := r.sh.val * 512 + r.pod.val

/-- The number of a unit in the tables. -/
def unitIx : BondUnit → Nat
  | .interface p i u => p.val * 128 + b2n i * 64 + u.val
  | .row r => 2 ^ 16 + podIx r
  | .priv r => 2 ^ 17 + podIx r

/-- One end of a unit: the die (AD) side, or the far side at the Boulevard or in the SD. -/
def State.bondEnd (s : State) (u : BondUnit) (far : Bool) : TrainEnd := s.blv.ends.get (b2n far * 2 ^ 24 + unitIx u)
/-- The state with one end changed. -/
def State.modEnd (s : State) (u : BondUnit) (far : Bool) (f : TrainEnd → TrainEnd) : State :=
  { s with blv := { s.blv with ends := s.blv.ends.mod (b2n far * 2 ^ 24 + unitIx u) f } }
/-- The state with both ends changed. -/
def State.modEnds (s : State) (u : BondUnit) (f : TrainEnd → TrainEnd) : State := (s.modEnd u false f).modEnd u true f

/-- The number of an interface group. -/
def groupIx (p : Nat) (inbound : Bool) (g : Nat) : Nat := p * 2 ^ 12 + b2n inbound * 2 ^ 11 + g

/-- The wavelength of a half-group: source, destination, number; none where it is not connected (R226). -/
def halfGroup (p : Nat) (inbound : Bool) (g half : Nat) : Option (Nat × Nat × Nat) :=
  let k := Sys2Proof.Config.halfWave p (b2n inbound) g half
  let src := k / 2048
  let dst := k / 64 % 32
  if k % 64 < streetWidth src dst ∧ (if inbound then dst = p else src = p) then some (src, dst, k % 64) else none

/-- The wavelengths of an interface group. -/
def groupWaves (p : Nat) (inbound : Bool) (g : Nat) : List (Nat × Nat × Nat) := (upto 2).filterMap (halfGroup p inbound g)

/-- The keys under which the half-groups of an interface group are suspect (R403). -/
def groupSuspects (p : Nat) (inbound : Bool) (g : Nat) : List Nat :=
  (groupWaves p inbound g).map (fun (w : Nat × Nat × Nat) => 2 * (streetIx w.1 w.2.1 * 64 + w.2.2) + b2n inbound)

/-- Declare a list of wavelengths down (R224). -/
def State.wavesDown (s : State) (l : List (Nat × Nat × Nat)) : State := l.foldl (fun t w => t.waveDown w.1 w.2.1 w.2.2) s

/-- Event unit of a training unit (R418). -/
def unitPlaza : BondUnit → Nat
  | .interface p _ _ => p.val
  | .row r => r.sh.val
  | .priv r => r.sh.val
def unitNo : BondUnit → Nat
  | .interface _ i u => b2n i * 64 + u.val
  | .row r => r.pod.val
  | .priv r => r.pod.val

/-! ### Repair maps (R401, R402) -/

/-- Physical wires that a group can lose and still serve its data bits (R400, R403). -/
def unitSpares : BondUnit → Nat
  | .interface _ _ _ => 2
  | .row _ => 16
  | .priv _ => 12

/-- The bond group of a pod at a position of its unit. -/
def unitGroup : BondUnit → Nat → Nat
  | .priv _, _ => 16
  | _, p => p

/-- The pod of a row or private unit. -/
def unitPod : BondUnit → Option PodRef
  | .interface _ _ _ => none
  | .row r => some r
  | .priv r => some r

/-- The wires that the repair map of one end marks at a position (R401, R402). -/
def State.markedAt (s : State) (u : BondUnit) (far : Bool) (p : Nat) : List Nat :=
  match unitPod u with
  | some r => ((s.shal r.sh.val).bond r.pod.val (unitGroup u p)).marked
  | none => let e := s.bondEnd u far; (e.fused.get p ++ e.wires.get p).eraseDups

/-- Newly marked wires enter the repair map of one end; a pod's groups hold one map for both. -/
def State.markAt (s : State) (u : BondUnit) (far : Bool) (p : Nat) (bad : List Nat) : State :=
  let new := (bad.filter (fun w => !(s.markedAt u far p).contains w)).eraseDups
  match unitPod u with
  | some r => s.modSh r.sh.val (fun h => h.modBond r.pod.val (unitGroup u p) (fun b => { b with fresh := b.fresh ++ new }))
  | none => s.modEnd u far (fun e => { e with wires := e.wires.mod p (fun l => l ++ new) })

/-- The repairs learnt in service are forgotten; fuses and log stay (R414). -/
def State.forget (s : State) (u : BondUnit) (far : Bool) : State :=
  match unitPod u with
  | some r => (upto (unitWidth u)).foldl (fun (t : State) p =>
      t.modSh r.sh.val (fun h => h.modBond r.pod.val (unitGroup u p) (fun b => { b with fresh := [] }))) s
  | none => s.modEnd u far (fun e => { e with wires := {} })

/-- A repair-log write of one wire of a group starts, or waits for its temperature window (R402, R440). -/
def State.logWire (s : State) (group wire : Nat) : State :=
  if s.pp.nvOpen then s.nvStart (.bondLog group wire)
  else { s with blv := { s.blv with logPending := s.blv.logPending ++ [(group, wire)] } }.nvRefuse

/-- The repair log takes the wires of one group; a refused write is raised once as deferred (R402). -/
def State.logWires (s : State) (plaza unit group : Nat) (wires : List Nat) : State :=
  let t := wires.foldl (fun (t : State) w => t.logWire group w) s
  if s.pp.nvOpen || wires.isEmpty then t else t.raise 0x8007 plaza unit []

/-- The number of a pod's bond group in the repair log. -/
def podGroupIx (r : PodRef) (g : Nat) : Nat := 2 ^ 24 + r.sh.val * 2 ^ 14 + r.pod.val * 17 + g

/-- A repair-log write is done: the log holds the wire (R402, R417). -/
def State.bondLogged (s : State) (group wire : Nat) : State :=
  let t := { s with blv := { s.blv with logged := s.blv.logged + 1 } }
  if 2 ^ 24 ≤ group then
    let k := group % 2 ^ 14
    t.modSh (group / 2 ^ 14 % 8) (fun h => { h with bonds := h.bonds.mod k (fun b =>
      { b with fresh := b.fresh.erase wire, logged := if b.logged.contains wire then b.logged else b.logged ++ [wire] }) })
  else
    let inb := bitAt group 11
    let g := bitsOf group 0 11
    let u : BondUnit := .interface (finOf 27 (by decide) (group / 2 ^ 12)) inb (finOf 64 (by decide) (g / 16))
    t.modEnds u (fun e => { e with wires := e.wires.mod (g % 16) (fun l => l.erase wire),
                                   fused := e.fused.mod (g % 16) (fun l => if l.contains wire then l else l ++ [wire]) })

/-- BOND_LOG_RETRY (R402): the writes that wait are tried again every 1 s. -/
def execBondLogRetry (s : State) : Res :=
  if s.blv.logPending.isEmpty then .next s
  else if s.pp.nvOpen then
    .next (s.blv.logPending.foldl (fun (t : State) (c : Nat × Nat) => t.nvStart (.bondLog c.1 c.2)) { s with blv := { s.blv with logPending := [] } })
  else .next s.nvRefuse

/-! ### Beyond the spares (R406) -/

/-- A pod carries every ROW operation on its private channel from now on (R122, R406). -/
def State.rowFallback (s : State) (r : PodRef) : State :=
  let n := r.sh.val
  let p := r.pod.val
  if (s.pod n p).rowPath == 0 then (s.modPod n p (fun q => { q with rowPath := 1, privNext := false })).raise 0x8002 n p [] else s

/-- An interface group is disabled, and both of its wavelengths are down (R227, R406). -/
def State.groupDown (s : State) (p : Nat) (inbound : Bool) (g : Nat) : State :=
  let k := groupIx p inbound g
  if s.blv.groupsDown.contains k then s
  else (({ s with blv := { s.blv with groupsDown := s.blv.groupsDown ++ [k] } }.raise 0x2005 p g [BitVec.ofNat 8 (b2n inbound)])).wavesDown
    (groupWaves p inbound g)

/-- The position of a unit can carry no data any more (R406, R407). -/
def State.positionLost (s : State) (u : BondUnit) (pos : Nat) : State :=
  match u with
  | .interface p i k => s.groupDown p.val i (16 * k.val + pos)
  | .row r => s.rowFallback r
  | .priv r => if s.retired r.sh.val r.pod.val then s else s.retirePod r.sh.val r.pod.val

/-! ### Wire tests in service (R403, R405) -/

/-- The wire test of a suspect group of a pod (R405, R406). -/
def State.podTest (s : State) (r : PodRef) (g : Nat) (bad : List Nat) : State :=
  let n := r.sh.val
  let u : BondUnit := if g = 16 then .priv r else .row r
  let pos := if g = 16 then 0 else g
  let new := (bad.filter (fun w => !(s.markedAt u false pos).contains w)).eraseDups
  let t := s.modSh n (fun h => { h.modBond r.pod.val g (fun b => { b with suspect := false }) with rowRepairs := satAdd h.rowRepairs new.length })
  if new.isEmpty then t
  else
    let t := ((t.markAt u false pos new).raise 0x8001 n r.pod.val [BitVec.ofNat 8 g]).logWires n r.pod.val (podGroupIx r g) new
    if groupSpares g < (t.markedAt u false pos).length then
      (t.modSh n (fun h => h.modBond r.pod.val g (fun b => { b with beyond := true }))).positionLost u pos
    else t

/-- The wire test of a suspect interface group (R405, R406): both ends steer. -/
def State.interfaceTest (s : State) (p : PlazaNo) (inbound : Bool) (g : Nat) (bad : List Nat) : State :=
  let u : BondUnit := .interface p inbound (finOf 64 (by decide) (g / 16))
  let keys := groupSuspects p.val inbound g
  let new := (bad.filter (fun w => !(s.markedAt u false (g % 16)).contains w)).eraseDups
  let t := { s with blv := { s.blv with suspects := s.blv.suspects.filter (fun k => !keys.contains k) } }
  if new.isEmpty then t
  else
    let t := (((t.markAt u false (g % 16) new).markAt u true (g % 16) new).raise 0x8001 p.val g [BitVec.ofNat 8 (b2n inbound)]).logWires p.val g
      (groupIx p.val inbound g) new
    if 2 < (t.markedAt u false (g % 16)).length then t.groupDown p.val inbound g else t

/-! ### Sideband frames (R409, R410) -/

/-- CHECK (R410). -/
def bondCheck (unit attempt map : Nat) : Nat := 65535 - (unit + attempt + map) % 65536

/-- The frame word (R409). -/
def sideWord (type unit attempt map check arg : Nat) : Word64 :=
  BitVec.ofNat 64 (type * 2 ^ 60 + unit % 64 * 2 ^ 54 + attempt % 4 * 2 ^ 52 + map % 2 ^ 16 * 2 ^ 36 + check % 2 ^ 16 * 2 ^ 20 + arg % 2 ^ 20)

/-- UNIT of a training unit; a row path and a private channel have one each. -/
def unitField : BondUnit → Nat
  | .interface _ _ u => u.val
  | _ => 0

/-- Does the unit exist (R400)? -/
def unitExists : BondUnit → Bool
  | .interface p i u => decide (u.val < unitCount i p.val)
  | _ => true

/-- Does a frame count: its CRC holds, it has this type and its unit, and the unit exists (R409)? -/
def frameOk (f : Sys2Proof.SideFrame) (type : Nat) : Bool :=
  f.crc == crc16 (natBitsMsb 64 f.word.toNat) && bitsOf f.word.toNat 60 4 == type && bitsOf f.word.toNat 54 6 == unitField f.unit &&
  unitExists f.unit

/-- ATTEMPT, MAP, CHECK and ARG of a frame. -/
def frameAttempt (f : Sys2Proof.SideFrame) : Nat := bitsOf f.word.toNat 52 2
def frameMap (f : Sys2Proof.SideFrame) : BitVec 16 := BitVec.ofNat 16 (bitsOf f.word.toNat 36 16)
def frameCheck (f : Sys2Proof.SideFrame) : Nat := bitsOf f.word.toNat 20 16
def frameArg (f : Sys2Proof.SideFrame) : Nat := bitsOf f.word.toNat 0 20

/-! ### The waves of a unit in training (R413) -/

/-- The wavelengths of the group at a position. -/
def positionWaves (u : BondUnit) (pos : Nat) : List (Nat × Nat × Nat) :=
  match u with
  | .interface p i k => groupWaves p.val i (16 * k.val + pos)
  | _ => []

/-- The unit's wavelengths are paused while it trains (R244, R413). -/
def State.pauseUnit (s : State) (u : BondUnit) : State :=
  ((upto (unitWidth u)).flatMap (positionWaves u)).foldl (fun (t : State) (w : Nat × Nat × Nat) => t.modWave w.1 w.2.1 w.2.2 (fun x => { x with paused := true })) s

/-- The wavelengths of a position carry flits again: replay restarts from the last ACK (R244). -/
def State.resumeWaves (s : State) (l : List (Nat × Nat × Nat)) : State :=
  l.foldl (fun (t : State) (w : Nat × Nat × Nat) =>
    let t := t.modWave w.1 w.2.1 w.2.2 (fun x => { x with paused := false })
    (t.resend w.1 w.2.1 w.2.2 ((t.street w.1 w.2.1).waves.get w.2.2).replay).pump w.1 w.2.1 w.2.2) s

/-! ### Training (R407, R411 to R415) -/

/-- Both ends begin an attempt at its wire test (R411, R412). -/
def State.beginAttempt (s : State) (u : BondUnit) (a : Nat) : State :=
  let t := s.modEnds u (fun e => { e with training := true, attempt := a, map := some 0, good := 0xFFFF, peer := none, sentDone := false, peerDone := false })
  { t with blv := { t.blv with trainCount := satAdd t.blv.trainCount 1 } }

/-- A unit trains anew (R411, R414): both ends drop their trained map and what they learnt in service, and its wavelengths are paused. -/
def State.retrain (s : State) (u : BondUnit) : State :=
  if unitExists u then
    let t := ((s.forget u false).forget u true).modEnds u (fun e => { e with fallback := false, down := false })
    (t.beginAttempt u 1).pauseUnit u
  else s

/-- The units of a die: both directions (R408). -/
def dieUnits (p : PlazaNo) : List BondUnit :=
  (upto (unitCount false p.val)).map (fun k => .interface p false (finOf 64 (by decide) k)) ++
  (upto (unitCount true p.val)).map (fun k => .interface p true (finOf 64 (by decide) k))

/-- TREQ (R411, R414): the end that sees it discards the trained state of the unit, or of every unit of the die, and training starts; when
both ends send TREQ at once the training runs once. -/
def execTreqFrame (f : SideFrame) (s : State) : Res :=
  if frameOk f 1 then
    let us := match f.unit with
      | .interface p _ _ => if bitAt (frameArg f) 0 then dieUnits p else [f.unit]
      | u => [u]
    .next (us.foldl (fun (t : State) u => if (t.bondEnd u f.far).training && (t.bondEnd u (!f.far)).training && (t.bondEnd u f.far).attempt == 1 then t
      else t.retrain u) s)
  else .next s

/-- This end's lane-good map: bit p is 1 where the group at position p serves its data bits (R407). -/
def State.goodMap (s : State) (u : BondUnit) (far : Bool) : BitVec 16 :=
  BitVec.ofNat 16 (packN 1 (fun p => b2n (decide (p < unitWidth u) && decide ((s.markedAt u far p).length ≤ unitSpares u))) 16)

/-- Has the unit been trained since the last reset that reached it? -/
def State.unitUp (s : State) (u : BondUnit) : Bool :=
  match unitPod u with
  | some r => (s.shal r.sh.val).bondsUp
  | none => s.blv.trained

/-- The trained map of an end (R407). -/
def State.trainedMap (s : State) (u : BondUnit) (far : Bool) : BitVec 16 :=
  match (s.bondEnd u far).map with
  | some m => m
  | none => if s.unitUp u then s.goodMap u false &&& s.goodMap u true else 0

/-- The words of a REPAIR frame: up to 7 wire numbers of 9 bits each, lowest first (R409). -/
def repairWords (wires : List Nat) : List Word64 :=
  (chunks 7 wires).map (fun (l : List Nat) => BitVec.ofNat 64 (packN 9 (fun i => (l[i]?).getD 0) 7))

/-- The wire test of a unit in training ends at one end (R411): its repair map and lane-good map are known, and it sends REPAIR frames for
the groups that changed, then MAP. -/
def State.trainTest (s : State) (u : BondUnit) (far : Bool) (bad : List (List Nat)) : State :=
  if (s.bondEnd u far).training then
    let a := (s.bondEnd u far).attempt
    let changed := (upto (unitWidth u)).filter (fun p => ((bad[p]?).getD []).any (fun w => !(s.markedAt u far p).contains w))
    let t := (upto (unitWidth u)).foldl (fun (t : State) p => t.markAt u far p ((bad[p]?).getD [])) s
    let good := t.goodMap u far
    let t := t.modEnd u far (fun e => { e with good := good })
    let t := changed.foldl (fun (t : State) p =>
      let w := t.markedAt u far p
      (repairWords w).foldl (fun (t : State) x => t.emit (.sideband x)) (t.emit (.sideband (sideWord 2 (unitField u) 0 0 0 (p * 2 ^ 16 + w.length)))))
      t
    t.emit (.sideband (sideWord 3 (unitField u) a good.toNat 0 0))
  else s

/-- WIRE_TEST_DONE (R405, R406, R411): the test of a suspect group, or of a unit in training, ends. -/
def execWireTestDone (t : WireTest) (s : State) : Res :=
  match t with
  | .podGroup r g bad => if ((s.shal r.sh.val).bond r.pod.val g.val).suspect then .next (s.podTest r g.val (bad.map Fin.val)).testsOver else .next s
  | .interfaceGroup p i g bad =>
    if (groupSuspects p.val i g.val).any (fun k => s.blv.suspects.contains k) then .next (s.interfaceTest p i g.val (bad.map Fin.val)).testsOver
    else .next s
  | .training u far bad => .next (s.trainTest u far (bad.map (fun l => l.map Fin.val)))

/-- The wire numbers that the words of a REPAIR frame hold (R409). -/
def wiresOf (n : Nat) (words : List Word64) : List Nat := (words.flatMap (fun w => (upto 7).map (fun i => bitsOf w.toNat (9 * i) 9))).take n

/-- REPAIR (R409, R411): the end applies the marked wires of a position that its peer found. -/
def execRepairFrame (f : SideFrame) (words : List (BitVec 64)) (s : State) : Res :=
  if frameOk f 2 && (s.bondEnd f.unit f.far).training then
    .next (s.markAt f.unit f.far (bitsOf (frameArg f) 16 4) (wiresOf (bitsOf (frameArg f) 0 5) words))
  else .next s

/-- The map that an end would train: the AND of both lane-good maps (R407). -/
def TrainEnd.both (e : TrainEnd) : Option (BitVec 16) := e.peer.map (fun p => e.good &&& p)

/-- MAP (R411): the peer's lane-good map; the AND goes out in ECHO with its CHECK. -/
def execMapFrame (f : SideFrame) (s : State) : Res :=
  let e := s.bondEnd f.unit f.far
  if frameOk f 3 && e.training && frameAttempt f == e.attempt then
    let m := (e.good &&& frameMap f).toNat
    let u := unitField f.unit
    .next ((s.modEnd f.unit f.far (fun x => { x with peer := some (frameMap f) })).emit (.sideband (sideWord 4 u e.attempt m (bondCheck u e.attempt m) 0)))
  else .next s

/-- The groups of a trained unit carry data, and those outside the map are lost (R406, R407, R411); ROW operations that waited go on
(R413). -/
def State.useMap (s : State) (u : BondUnit) (map : BitVec 16) : State :=
  let s := match unitPod u with
    | some r => (upto (unitWidth u)).foldl (fun (t : State) p =>
        t.modSh r.sh.val (fun h => h.modBond r.pod.val (unitGroup u p) (fun b =>
          { b with untrained := !map.getLsbD p, beyond := b.beyond && !map.getLsbD p })))
        (s.modSh r.sh.val (fun h => { h with rowWaits := h.rowWaits.erase r.pod.val }))
    | none => s
  let t := (upto (unitWidth u)).foldl (fun (t : State) p =>
    if map.getLsbD p then
      let t := match u with
        | .interface q i k => { t with blv := { t.blv with groupsDown := t.blv.groupsDown.filter (fun x => x != groupIx q.val i (16 * k.val + p)) } }
        | _ => t
      t.resumeWaves (positionWaves u p)
    else t.positionLost u p) s
  match u with
  | .row r => if map = 0xFFFF then t.modPod r.sh.val r.pod.val (fun q => if q.rowPath == 1 then { q with rowPath := 0 } else q) else t
  | _ => t

/-- The unit is trained (R411). -/
def State.trainedUnit (s : State) (u : BondUnit) : State :=
  let m := ((s.bondEnd u false).both).getD 0
  (s.modEnds u (fun e => { e with map := some m, training := false, fallback := false, down := false })).useMap u m

/-- The unit is down (R413): no group of it carries data. -/
def State.unitDown (s : State) (u : BondUnit) : State :=
  ((s.modEnds u (fun e => { e with map := some 0, training := false, fallback := false, down := true })).raise 0x8008 (unitPlaza u) (unitNo u) []).useMap u 0

/-- Both ends fall to the lane-zero width (R415). -/
def State.unitFallback (s : State) (u : BondUnit) : State :=
  ((s.modEnds u (fun e => { e with map := some 1, training := false, fallback := true, down := false })).raise 0x8005 (unitPlaza u) (unitNo u) []).useMap u 1

/-- An attempt fails (R412, R413, R415): the next one starts at its wire test; after the third the unit falls to lane zero, or is down
where its lane-zero group is beyond its spares. -/
def State.attemptFails (s : State) (u : BondUnit) : State :=
  let a := max (s.bondEnd u false).attempt (s.bondEnd u true).attempt
  let t := s.raise 0x8004 (unitPlaza u) (unitNo u) [BitVec.ofNat 8 a]
  if a < 3 then t.beginAttempt u (a + 1)
  else if (s.bondEnd u false).good.getLsbD 0 && (s.bondEnd u true).good.getLsbD 0 then t.unitFallback u
  else t.unitDown u

/-- ECHO (R410 to R412): equal checks are answered with DONE; different ones fail the attempt. -/
def execEchoFrame (f : SideFrame) (s : State) : Res :=
  let e := s.bondEnd f.unit f.far
  match e.both with
  | none => .next s
  | some m =>
    let u := unitField f.unit
    if frameOk f 4 && e.training && frameAttempt f == e.attempt then
      if frameCheck f = bondCheck u e.attempt m.toNat then
        .next ((s.modEnd f.unit f.far (fun x => { x with sentDone := true })).emit (.sideband (sideWord 5 u e.attempt 0 0 0)))
      else .next (s.attemptFails f.unit)
    else .next s

/-- DONE (R411): when both ends have sent it, the unit is trained. -/
def execDoneFrame (f : SideFrame) (s : State) : Res :=
  let e := s.bondEnd f.unit f.far
  if frameOk f 5 && e.training && frameAttempt f == e.attempt then
    let t := s.modEnd f.unit f.far (fun x => { x with peerDone := true })
    .next (if e.sentDone && (s.bondEnd f.unit (!f.far)).sentDone then t.trainedUnit f.unit else t)
  else .next s

/-- TRAIN_TIMEOUT (R411, R412): an attempt not complete within 100 µs counts as failed. -/
def execTrainTimeout (u : BondUnit) (s : State) : Res :=
  .next (if (s.bondEnd u false).training || (s.bondEnd u true).training then s.attemptFails u else s)

/-! ### The sideband (R408) -/

/-- The number of a sideband. -/
def sideIx : SideRef → Nat
  | .die p i => p.val * 2 + b2n i
  | .row r i => 2 ^ 16 + podIx r * 2 + b2n i
  | .priv r i => 2 ^ 17 + podIx r * 2 + b2n i

/-- The units that a sideband serves (R408). -/
def sideUnits : SideRef → List BondUnit
  | .die p i => (upto (unitCount i p.val)).map (fun k => .interface p i (finOf 64 (by decide) k))
  | .row r _ => [.row r]
  | .priv r _ => [.priv r]

/-- Plaza and unit of a sideband's events. -/
def sidePlaza : SideRef → Nat × Nat
  | .die p i => (p.val, b2n i * 64)
  | .row r _ => (r.sh.val, r.pod.val)
  | .priv r _ => (r.sh.val, r.pod.val)

/-- SIDEBAND_CLOCK_STOP (R408, R411): a clock stop that no TREQ follows is a failure of the sideband group; the sideband moves to the
lowest group that passes its wire test, and with none every unit of the direction is down. -/
def execSidebandClockStop (b : SideRef) (follows : Bool) (passing : Option (Fin 640)) (s : State) : Res :=
  if follows then .next s
  else match passing with
    | some g =>
      let t := { s with blv := { s.blv with sideband := s.blv.sideband.set (sideIx b) g.val } }
      .next (if g.val = s.blv.sideband.get (sideIx b) then t else t.raise 0x8006 (sidePlaza b).1 (sidePlaza b).2 [])
    | none => .next ((sideUnits b).foldl State.unitDown s)

end Sys2Proof.Machine
end

