-- ==== Sys2Proof/Machine/MapWin.lean ====
section
/-! DEFINITION. The congestion map that the package completes every 1 ms (R246 to R248). -/
namespace Sys2Proof.Machine

/-- Is a plaza powered (R18, R249)? Shallots by the placement, stacks while in service, gateways after bring-up, and the
management die at all times. -/
def State.plazaPowered (s : State) (p : Nat) : Bool :=
  match plazaKind p with
  | 0 => (s.shal p).powered
  | 1 => (s.mem.get (p - 8)).valid && !(s.mem.get (p - 8)).down
  | 2 => s.top.state != .off && s.top.state != .parked && s.top.state != .bringup
  | _ => true

/-- The powered plazas in order. -/
def State.poweredPlazas (s : State) : List Nat := (upto 27).filter s.plazaPowered

/-- A count in `n` bytes, saturating (R248). -/
def satBytes (n x : Nat) : List Byte := leBytes n (min x (2 ^ (8 * n) - 1))

/-- RES of a resource (R248). -/
def resNumber (kind plaza unit : Nat) : Nat := kind * 2 ^ 14 + plaza * 2 ^ 9 + unit

/-- The units of each kind at a plaza (R231). -/
def arbUnits (p : Nat) : Nat × Nat :=
  match plazaKind p with
  | 0 => (0, 16)
  | 1 => (1, 64)
  | 2 => (2, 8)
  | _ => (0, 0)

/-- The resources of the powered plazas: kind, plaza, unit, in rising RES order. -/
def State.resources (s : State) : List (Nat × Nat × Nat) :=
  s.poweredPlazas.flatMap (fun p => (upto (arbUnits p).2).map (fun u => ((arbUnits p).1, p, u)))

/-- A resource record (R248). -/
def resRecord (r : Nat × Nat × Nat) (m : MapCount) : List Byte :=
  leBytes 2 (resNumber r.1 r.2.1 r.2.2) ++ leBytes 2 (b2n m.frozen) ++ satBytes 4 m.ownedUsed ++ satBytes 4 m.ownedIdle ++
  satBytes 4 m.bgGrants ++ satBytes 4 m.idle ++ satBytes 4 m.lateOwned ++ satBytes 4 m.bgWaitMax ++ satBytes 4 m.frozenPeriods

/-- A street record (R248). -/
def streetRecord (src dst : Nat) (t : Street) : List Byte :=
  [BitVec.ofNat 8 src, BitVec.ofNat 8 dst, BitVec.ofNat 8 (streetWidth src dst), BitVec.ofNat 8 (t.widthUp (streetWidth src dst))] ++
  satBytes 4 t.mapRetries ++ satBytes 4 t.mapHolds ++ satBytes 4 t.mapCrcFails

/-- RING_STATE of a record: the worst state of each ring in the interval (R248). -/
def LaneGroup.worst (l : LaneGroup) : Nat := packN 2 (fun i => max (l.mapRings.get i).code (l.rings.get i).code) 16

/-- A lane-group record (R248). -/
def laneRecord (plaza rx lane : Nat) (l : LaneGroup) : List Byte :=
  [BitVec.ofNat 8 plaza, BitVec.ofNat 8 rx] ++ leBytes 2 lane ++ leBytes 4 l.worst ++ satBytes 2 l.mapRetries ++
  satBytes 2 l.mapSlips ++ satBytes 2 l.mapErr ++ leBytes 2 ((l.thermo.map BitVec.toNat).getD 0)

/-- Wavelengths that leave or reach a plaza. -/
def plazaWaves (out : Bool) (p : Nat) : Nat :=
  ((upto 27).map (fun q => if out then streetWidth p q else streetWidth q p)).foldl (· + ·) 0

/-- Lane groups of a plaza in one direction: 16 rings each (R241; DEDUCED, log 12). -/
def laneCount (rx : Bool) (p : Nat) : Nat := cdiv (plazaWaves (!rx) p) 16

/-- The lane groups of the powered plazas: plaza, end, lane, in rising order. -/
def State.laneList (s : State) : List (Nat × Nat × Nat) :=
  s.poweredPlazas.flatMap (fun p => (upto (laneCount false p)).map (fun n => (p, 0, n)) ++ (upto (laneCount true p)).map (fun n => (p, 1, n)))

/-- A slot-detail record (R248): 2 bits per slot. -/
def detailRecord (res : Nat) (m : MapCount) : List Byte :=
  leBytes 2 res ++ List.replicate 30 0 ++
  (upto 1024).map (fun b => BitVec.ofNat 8 (packN 2 (fun i => m.slots.get (4 * b + i)) 4))

/-- Insert a resource into a list in rising RES order, once. -/
def insertRes (r : Nat) : List Nat → List Nat
  | [] => [r]
  | x :: l => if r < x then r :: x :: l else if r = x then x :: l else x :: insertRes r l

/-- The resources that MAP_DETAIL gives slot detail: those enabled that exist, in rising RES order (R248, R249). -/
def State.detailRes (s : State) : List Nat :=
  if s.blv.mapCtrl.getLsbD 0 then
    ((upto 32).filterMap (fun i =>
      let d := (s.blv.mapDetail.get i).toNat
      if bitAt d 31 && arbExists (bitsOf d 14 2) (bitsOf d 9 5) (bitsOf d 0 6) then some (bitsOf d 0 16) else none)).foldr insertRes []
  else []

/-- The arbiter that a RES names. -/
def State.arbOfRes (s : State) (r : Nat) : Arbiter := s.arb (arbIx (bitsOf r 14 2) (bitsOf r 9 5) (bitsOf r 0 6))

/-- The bytes of map `k` (R247, R248). -/
def State.mapBytes (s : State) (k : Nat) : List Byte :=
  let res := s.resources
  let ps := s.poweredPlazas
  let sts := ps.flatMap (fun a => (ps.filter (fun b => streetWidth a b != 0)).map (fun b => (a, b)))
  let lanes := s.laneList
  let det := s.detailRes
  let recs := res.flatMap (fun r => resRecord r (s.arb (arbIx r.1 r.2.1 r.2.2)).map) ++
    sts.flatMap (fun t => streetRecord t.1 t.2 (s.street t.1 t.2)) ++
    lanes.flatMap (fun l => laneRecord l.1 l.2.1 l.2.2 (s.blv.lanes.get (l.2.1 * 2 ^ 24 + l.1 * 2 ^ 16 + l.2.2))) ++
    det.flatMap (fun r => detailRecord r (s.arbOfRes r).map)
  let head := [0x43, 0x4D, 0x41, 0x50] ++ leBytes 2 1 ++ leBytes 2 (b2n (!det.isEmpty) + 2 * b2n s.blv.mapRunning) ++ leBytes 8 k ++
    leBytes 8 s.blv.mapStart ++ leBytes 8 s.blv.mapStep.toNat ++ leBytes 4 res.length ++ leBytes 4 sts.length ++
    leBytes 4 lanes.length ++ leBytes 4 det.length ++ leBytes 4 s.blv.mapLost.toNat ++ leBytes 4 (64 + recs.length) ++ leBytes 4 0
  head ++ leBytes 4 (crc32c (head ++ [0, 0, 0, 0] ++ recs)).toNat ++ recs

/-- The counts of the interval start again. -/
def State.mapReset (s : State) : State :=
  let b := s.blv
  { s with blv := { b with
      arbs := b.arbs.mapAll (fun _ a => { a with map := {} }),
      streets := b.streets.mapAll (fun _ t => { t with mapRetries := 0, mapHolds := 0, mapCrcFails := 0 }),
      lanes := b.lanes.mapAll (fun _ l => { l with mapRetries := 0, mapSlips := 0, mapErr := 0, mapRings := l.rings }),
      mapStart := s.cycle, mapStep := s.seq.current, mapRunning := s.top.state == .running } }

/-- Is map `j` acknowledged? MAP_ACK holds the low 32 bits of the number of the last map read, which is at most two behind (R246). -/
def State.acked (s : State) (j : Nat) : Bool := decide ((s.blv.mapAck - BitVec.ofNat 32 j).toNat < 2 ^ 31)

/-- The map before the last was not acknowledged: it is overwritten, counted, and raised at most once per second (R246). -/
def State.mapOverwrite (s : State) (k : Nat) : State :=
  if 3 ≤ k ∧ !s.acked (k - 2) then
    let t := { s with blv := { s.blv with mapLost := satAdd s.blv.mapLost 1 } }
    if s.blv.mapLostSec = some s.second then t
    else { t with blv := { t.blv with mapLostSec := some s.second } }.raise 0x2009 26 0 (leBytes 8 (k - 2))
  else s

/-- MAP_COMPLETE (R246): map k goes into MAP0 when k is even and MAP1 when it is odd, and MAP_SEQ becomes k. -/
def execMapComplete (s : State) : Res :=
  let k := s.blv.mapNext + 1
  let t := s.mapOverwrite k
  let m := t.mapBytes k
  .next { t with blv := { t.blv with mapNext := k, mapSeq := BitVec.ofNat 32 k, map0 := if k % 2 = 0 then m else t.blv.map0,
                                     map1 := if k % 2 = 0 then t.blv.map1 else m } }.mapReset

end Sys2Proof.Machine
end

