-- ==== Sys2Proof/Machine/Lamp.lean ====
section
/-! DEFINITION. Lamps: fade values and their thresholds, drive control, spares, and crossfades (R251 to R262). -/
namespace Sys2Proof.Machine

/-! ### Banks and feeds (R251) -/

/-- The spare of a lamp's bank. -/
def spareOf (l : Nat) : Nat := l / 4 * 4 + 3
/-- A feed of the package by bank and feed number, as the lane map counts it. -/
def feedIx (l f : Nat) : Nat := l / 4 * 3 + f
/-- The plaza of lamp and calibration events: the management die. -/
def mPlaza : Nat := 26

/-- The transmit lane groups that a feed lights (R251). -/
def feedLanes (feed : Nat) : List (Nat × Nat) :=
  (upto 27).flatMap (fun p => ((upto (laneCount false p)).filter (fun n => Sys2Proof.Config.laneFeed p n == feed)).map (fun n => (p, n)))

/-- The streets with a wavelength on a feed: source and destination (R214, R251). -/
def feedStreets (feed : Nat) : List (Nat × Nat) :=
  ((feedLanes feed).flatMap (fun (g : Nat × Nat) => (upto 16).map (fun j => (g.1, Sys2Proof.Config.lightPath g.1 g.2 j / 64)))).eraseDups.filter
    (fun x => decide (0 < streetWidth x.1 x.2))

/-! ### Fade thresholds (R253, R254) -/

/-- The threshold of a level 1 to 5 in 0.01 dB (R254). -/
def fadeLimit (level : Nat) : Int := match level with | 1 => -100 | 2 => -200 | 3 => -300 | 4 => -450 | _ => -600

/-- One fade value: consecutive values at or below each threshold are counted, and the drive control follows (R253, R255). -/
def Lamp.fadeIn (l : Lamp) (f : Int) : Lamp :=
  let runs := (fromN 1 5).foldl (fun (t : Tbl Nat) k => t.set k (if f ≤ fadeLimit k then min 3 (t.get k + 1) else 0)) l.runs
  { l with fade := f, runs := runs, raising := if -50 ≤ f then false else l.raising || runs.get 1 == 3 }

/-- Does a spare of this state serve (R257)? -/
def LampState.spareServes : LampState → Bool
  | .spareCold | .spareWarming | .spareReady => true
  | _ => false

/-- A spare is needed and none is available (R257). -/
def State.noSpare (s : State) (l : Nat) : State := s.raise 0x3007 mPlaza l []

/-- The spare of the bank is warmed, unless it warms already or there is none (R254, R256, R257). -/
def State.warmSpare (s : State) (l : Nat) : State :=
  let k := spareOf l
  match (s.lamp.lamps.get k).state with
  | .spareCold => (s.modLamp k (fun x => { x with state := .spareWarming, tries := 0 })).raise 0x3002 mPlaza l [BitVec.ofNat 8 k]
  | .spareWarming | .spareReady => s
  | _ => s.noSpare l

/-- The lamp of the bank that the spare is to serve and that has not begun its crossfade. -/
def State.spareHolder (s : State) (l : Nat) : Option Nat :=
  ((upto 3).map (fun f => l / 4 * 4 + f)).find? (fun m => (s.lamp.lamps.get m).bySpare.isSome)

/-- Take a lamp's demand back: its bank has no spare for it. -/
def State.dropDemand (s : State) (l : Nat) : State :=
  { s.modLamp l (fun x => { x with demandAt := none, bySpare := none }) with
    seq := { s.seq with work := { s.seq.work with lamps := s.seq.work.lamps.erase l } } }

/-- The lamp demands its crossfade (R258); in IDLE and LOADED the control plane grants it at once. -/
def State.demandCrossfade (s : State) (l : Nat) : State :=
  ((s.modLamp l (fun x => { x with demandAt := some s.top.now, bySpare := some (spareOf l) })).raise 0x3003 mPlaza l []).grantIdle

/-- A crossing of −3.0 dB (R257, R258): the spare serves the lamp that crossed first, and between crossings of one millisecond the lower
feed. -/
def State.wantCrossfade (s : State) (l : Nat) : State :=
  if (s.lamp.lamps.get (spareOf l)).state.spareServes then
    match s.spareHolder l with
    | none => (s.warmSpare l).demandCrossfade l
    | some m =>
      let h := s.lamp.lamps.get m
      let sameMs : Bool := match h.demandAt with | some t => t / 1000000 == s.top.now / 1000000 | none => false
      if m ≠ l ∧ h.state = .active ∧ sameMs = true ∧ l < m then ((s.dropDemand m).noSpare m).demandCrossfade l
      else if m = l then s else s.noSpare l
  else s.noSpare l

/-- A street loses all its light: every wavelength is down until the next full calibration (R254, R262). A street that is down already
is not raised again, and the shallots at its ends become FENCED all the same. -/
def State.darkStreet (s : State) (src dst : Nat) : State :=
  let width := streetWidth src dst
  if (s.street src dst).widthUp width = 0 then
    let t := if src < 8 then s.fence src else s
    if dst < 8 then t.fence dst else t
  else ((upto width).foldl (fun t w => t.markDown src dst w true) s).streetDown src dst

/-- A feed fell by 6.0 dB (R254). -/
def State.feedDown (s : State) (l : Nat) : State :=
  match (s.lamp.lamps.get l).feed with
  | none => s
  | some f => ((feedStreets (feedIx l f)).foldl (fun t x => t.darkStreet x.1 x.2) s).raise 0x3006 mPlaza l []

/-- What the first crossing of a level starts (R254). -/
def State.crossLevel (s : State) (l level : Nat) : State :=
  match level with
  | 1 => s.raise 0x3001 mPlaza l []
  | 2 => s.warmSpare l
  | 3 => s.wantCrossfade l
  | 4 => s.raise 0x3005 mPlaza l []
  | _ => s.feedDown l

/-- The levels above the deepest one crossed so far whose threshold is crossed now, shallow ones first. -/
def Lamp.crossed (l : Lamp) : List Nat := (fromN 1 5).filter (fun k => decide (l.level < k) && l.runs.get k == 3)

/-- FADE_VALUE (R253, R254): a lit lamp's fade value; an ACTIVE lamp starts the actions of the thresholds that it crosses. -/
def execFadeValue (l : Fin 32) (f : Int) (s : State) : Res :=
  let x := s.lamp.lamps.get l.val
  if x.state.lit then
    let y := x.fadeIn f
    let t := s.modLamp l.val (fun _ => y)
    if x.state = .active then
      let t := t.modLamp l.val (fun z => { z with level := max z.level (maxOf y.crossed) })
      .next (y.crossed.foldl (fun t k => t.crossLevel l.val k) t)
    else .next t
  else .next s

/-- DRIVE_ADJUST (R254, R255): every 10 ms the drive moves by 1 % of I0; at 120 % of I0 the spare is warmed. The drive control of a lamp
that crossfades is stopped (R259). -/
def execDriveAdjust (l : Fin 32) (s : State) : Res :=
  let x := s.lamp.lamps.get l.val
  if x.state = .active then
    if x.raising ∧ x.drive < 1200 then
      let t := s.modLamp l.val (fun y => { y with drive := min 1200 (y.drive + 10) })
      if 1200 ≤ x.drive + 10 ∧ x.level < 2 then .next ((t.modLamp l.val (fun y => { y with level := 2 })).warmSpare l.val) else .next t
    else if -20 < x.fade ∧ 1000 < x.drive then .next (s.modLamp l.val (fun y => { y with drive := max 1000 (y.drive - 10) }))
    else .next s
  else .next s

/-- SPARE_READY (R256): after 40 ms the spare's lines are locked, or it tries once more, or it becomes FAILED. -/
def execSpareReady (l : Fin 32) (locked : Bool) (s : State) : Res :=
  let x := s.lamp.lamps.get l.val
  if x.state = .spareWarming then
    if locked then .next (s.modLamp l.val (fun y => { y with state := .spareReady, tries := 0 }))
    else if x.tries = 0 then .next (s.modLamp l.val (fun y => { y with tries := 1 }))
    else
      let t := s.modLamp l.val (fun y => { y with state := .failed, tries := 0 })
      let t := match s.spareHolder l.val with | some m => t.dropDemand m | none => t
      .next (t.noSpare l.val)
  else .next s

/-! ### Crossfades (R258 to R261) -/

/-- CROSSFADE_DEADLINE (R258): no recess point took the crossfade within 1 s; while RUNNING a recess is forced, or the one in progress goes on
as a forced one. -/
def execCrossfadeDeadline (l : Fin 32) (s : State) : Res :=
  let x := s.lamp.lamps.get l.val
  match x.demandAt with
  | none => .next s
  | some t0 =>
    if s.top.state = .running ∧ x.state = .active ∧ t0 + 1000000000 ≤ s.top.now ∧ !s.seq.work.lamps.contains l.val then
      if s.seq.grant.isNone then .next s.forceRecess
      else
        let t := s.modShs (fun h => h.recess.isSome) (fun h => { h with recess := some .forced })
        .next ({ t with seq := { t.seq with grant := some .forced, work := t.seq.work.join { lamps := s.waitingLamps, lanes := s.waitingLanes } } }.raise
          0x0017 pkgPlaza 0 [])
    else .next s

/-- May the crossfade of a lamp begin: it is granted, or bring-up has not passed the lamp warm-up (R258)? -/
def State.crossfadeGranted (s : State) (l : Nat) : Bool :=
  (s.seq.work.lamps.contains l && s.seq.grant.isSome && !s.seq.flitWait) ||
  (s.top.state == .bringup && s.top.phase == 3 && !s.top.phase4 && (s.waitingLamps.contains l))

/-- CROSSFADE (R258, R259): a granted crossfade begins as soon as its spare is ready; `ps` is the feed power P_s in 0.01 mW. -/
def execCrossfade (l : Fin 32) (ps : Nat) (s : State) : Res :=
  let s := s.grantIdle
  let x := s.lamp.lamps.get l.val
  match x.bySpare with
  | none => .next s
  | some k =>
    if s.crossfadeGranted l.val ∧ x.state = .active ∧ (s.lamp.lamps.get k).state = .spareReady then
      let t := s.modLamp l.val (fun y => { y with state := .crossfading, step := 0, ps := ps, raising := false })
      .next (t.modLamp k (fun y => { y with state := .crossfading, feed := x.feed }))
    else .next s

/-- Recalibrations of every transmit lane group of a feed are demanded (R267). -/
def State.demandFeed (s : State) (feed : Nat) : State :=
  (feedLanes feed).foldl (fun t (g : Nat × Nat) =>
    t.demandLane { rx := false, plaza := finOf 27 (by decide) g.1, lane := finOf 128 (by decide) g.2 }) s

/-- With the last crossfade of a recess over, the lane groups that now wait join it as far as it has room: all of them in a forced recess and
outside RUNNING (R260). -/
def State.grantLanes (s : State) : State :=
  if s.seq.work.lamps.isEmpty ∧ s.seq.grant.isSome then
    let lanes := match s.seq.grant, s.top.state with
      | some .scheduled, .running => match s.recessPoint s.seq.committed.toNat with
        | some p => if p.allow.getLsbD 1 then fitLanes ((p.maxUs - 205) / 150) s.waitingLanes else s.seq.work.lanes
        | none => s.seq.work.lanes
      | _, _ => s.waitingLanes
    { s with seq := { s.seq with work := { s.seq.work with lanes := lanes } } }
  else s

/-- The crossfade is complete (R259): the fading lamp is retired, and the spare serves its feed. -/
def State.crossfadeDone (s : State) (l k : Nat) : State :=
  let feed := (s.lamp.lamps.get l).feed
  let t := s.modLamp l (fun y => { y with state := .retired, feed := none, fade := 0, raising := false, demandAt := none, bySpare := none, step := 40 })
  let t := t.modLamp k (fun y => { y with state := .active, feed := feed, level := 0, runs := {}, raising := false, p0Due := true })
  let t := { t with
    lamp := { t.lamp with crossfades := satAdd t.lamp.crossfades 1, forced := satAdd t.lamp.forced (b2n (t.seq.grant == some RecessKind.forced)) },
    seq := { t.seq with work := { t.seq.work with lamps := t.seq.work.lamps.erase l } } }
  let t := t.raise 0x3004 mPlaza l [BitVec.ofNat 8 k, BitVec.ofNat 8 (feed.getD 3)]
  (match feed with | some f => t.demandFeed (feedIx l f) | none => t).grantLanes

/-- CROSSFADE_STEP (R259): 2.5 % of the feed's light moves; the fortieth step ends the crossfade. -/
def execCrossfadeStep (l : Fin 32) (s : State) : Res :=
  let x := s.lamp.lamps.get l.val
  match x.state, x.bySpare with
  | .crossfading, some k => .next (if x.step + 1 < 40 then s.modLamp l.val (fun y => { y with step := y.step + 1 }) else s.crossfadeDone l.val k)
  | _, _ => .next s

/-- The new P0 and I0 of a lamp are written, or the write waits for its temperature window (R261, R440). -/
def State.writeP0 (s : State) (l : Nat) : State :=
  if s.pp.nvOpen then (s.modLamp l (fun y => { y with p0Pending := false })).nvStart (.lampP0 l)
  else (s.modLamp l (fun y => { y with p0Pending := true })).nvRefuse

/-- P0_UPDATE (R261): the output measured within 1 ms after the crossfade is the new P0, and the drive in force the new I0. -/
def execP0Update (l : Fin 32) (p0 : BitVec 16) (s : State) : Res :=
  let x := s.lamp.lamps.get l.val
  if x.p0Due then
    let t := s.modLamp l.val (fun y => { y with p0 := p0.toNat, i0 := y.i0 * y.drive / 1000, drive := 1000, p0Due := false })
    .next (if s.pp.nvOpen then t.writeP0 l.val else (t.writeP0 l.val).raise 0x3008 mPlaza l.val [])
  else .next s

/-- P0_WRITE_RETRY (R261): the deferred write is tried again every 1 s. -/
def execP0WriteRetry (l : Fin 32) (s : State) : Res :=
  .next (if (s.lamp.lamps.get l.val).p0Pending then s.writeP0 l.val else s)

/-- The write of P0 and I0 is done (R261). -/
def State.lampWritten (s : State) (l : Nat) : State := s.modLamp l (fun y => { y with storedP0 := y.p0, storedI0 := y.i0 })

end Sys2Proof.Machine
end

