-- ==== Sys2Proof/Machine/Life.lean ====
section
/-! DEFINITION. What a life-cycle transition and a non-volatile write leave behind (R261, R402, R440, R467, R469, R499). -/
namespace Sys2Proof.Machine

/-! ### Life-cycle transitions (R466, R467) -/

/-- The keys of 68 bytes that stand one after another in a list (R469). -/
def keyList (b : List Byte) : List (List Byte) := chunks 68 b
/-- Keys by index. -/
def keyTbl (l : List (List Byte)) : Tbl (List Byte) := Tbl.setRun {} 0 l

/-- The parameters of PROVISIONED to OWNED after the target, in the model's layout (log 60): mode, policy, number of owner keys, number of
signer keys, the keys. -/
structure OwnedParams where
  rot : Bool
  policy : Word64
  owners : List (List Byte)
  signers : List (List Byte)

/-- Are the bytes a well-formed list of `n` keys within limits? -/
def keyCountOk (lo hi n len : Nat) : Bool := decide (lo ≤ n) && decide (n ≤ hi) && decide (len = 68 * n)

/-- Read the parameters of PROVISIONED to OWNED. -/
def ownedParams (b : List Byte) : Option OwnedParams :=
  let n := ((b[9]?).getD 0).toNat
  let m := ((b[10]?).getD 0).toNat
  let keys := b.drop 11
  if ((b[0]?).getD 0).toNat ≤ 1 ∧ leVal ((b.drop 1).take 8) < 16 ∧ 2 ≤ n ∧ n ≤ 8 ∧ 1 ≤ m ∧ m ≤ 4 ∧ keys.length = 68 * (n + m) then
    some { rot := ((b[0]?).getD 0) == 1, policy := BitVec.ofNat 64 (leVal ((b.drop 1).take 8)), owners := keyList (keys.take (68 * n)),
           signers := keyList (keys.drop (68 * n)) }
  else none

/-- Owner secrets are erased (R467). -/
def State.eraseOwner (s : State) : State :=
  { s with sec := { s.sec with owners := {}, policy := 0, rot := false, pending := none }, mews := { s.mews with creds := {}, seqs := {} } }

/-- A device identity key is made anew, with its own signing state (R448, R467). -/
def State.newIdentity (s : State) : State :=
  { s with sec := { s.sec with identity := true, identityGen := s.sec.identityGen + 1, xmssNext := 0, xmssBlock := 0, xmssLow := false } }

/-- The fuses of a transition are written, and it has its effect (R467). -/
def State.enterLife (s : State) (target : Nat) (params : List Byte) : State :=
  let from_ := s.sec.lifecycle
  let t := if from_ = 2 then s.eraseOwner else s
  let t := { t with sec := { t.sec with lifecycle := target } }
  match target with
  | 1 => if from_ = 0 ∨ (from_ = 3 ∧ (params[0]?) = some 1) then t.newIdentity else t
  | 2 => match ownedParams params with
    | some o => { t with sec := { t.sec with rot := o.rot, policy := o.policy, owners := keyTbl o.owners, fwSigners := keyTbl o.signers } }
    | none => t
  | 4 => { t with sec := { t.sec with identity := false } }
  | _ => t

/-! ### Writes that have run to completion (R440) -/

/-- What a completed write leaves, whether or not anything waits for it. -/
def State.nvLands (s : State) : NvWrite → State
  | .retire sh pod => s.modPod sh pod (fun p => { p with fused := true })
  | .xmss limit => { s with sec := { s.sec with xmssBlock := limit } }
  | .bondLog group wire => s.bondLogged group wire
  | .lampP0 l => s.lampWritten l
  | .lifecycle target params => s.enterLife target params

end Sys2Proof.Machine
end

