-- ==== Sys2Proof/Machine/Mews.lean ====
section
/-! DEFINITION. Mews requests: authentication, authority, state rules, answers (R479 to R483, R488). -/
namespace Sys2Proof.Machine

/-- The classes of Mews opcodes (R481). -/
inductive MewsClass where
  | anyone | reader | operator | signed | quorum
deriving DecidableEq, Repr

/-- A row of the table of Mews opcodes: the opcode, its class, the states that accept it, and whether the recovery subset holds it
(R481, R488). -/
structure MewsOp where
  /-- OPCODE -/
  code : Nat
  /-- class -/
  cls : MewsClass
  /-- bit s: accepted in the state of code s -/
  accept : Nat
  /-- in the recovery subset -/
  recovery : Bool := false
deriving DecidableEq, Repr

/-- What the authentication of a request finds (R479, R480). -/
inductive MewsAuth where
  /-- it fails -/
  | bad
  /-- CRED 0xFF -/
  | nobody
  /-- a credential slot of role READ or OPERATE -/
  | slot (operate : Bool)
  /-- a maker key signed -/
  | maker
  /-- a registered owner key signed -/
  | owner
deriving DecidableEq, Repr

/-! ### Authentication (R479, R480) -/

/-- The header of a request as it arrived: STATUS is 0. -/
def mewsReqHeader (op : Nat) (r : MewsReq) : List Byte := mewsHeader op r.tag r.cred 0 r.body.length r.seq

/-- D of a signed request (R480). -/
def State.signedDigest (s : State) (op : Nat) (r : MewsReq) : Digest :=
  shakeDigest (ascii "MH96MEWS" ++ leBytes 4 s.top.identity.toNat ++ Sys2Proof.Config.devRoot s.sec.identityGen ++ s.mews.bootBytes ++
    mewsReqHeader op r ++ r.body)

/-- Does an XMSS signature of 2,820 bytes hold under a key (R469)? -/
def signatureOk (key : List Byte) (d : Digest) (sig : List Byte) : Bool :=
  decide (key.length = 68) && decide (sig.length = 2820) && Sys2Proof.Config.xmssVerify key d sig

/-- Is a SEQ above the last one accepted? -/
def seqAbove (last : Option Word64) (seq : Word64) : Bool := match last with | none => true | some x => decide (x.toNat < seq.toNat)

/-- Does the AUTH of a signed request hold: a key index, and the signature under that key? -/
def State.signedOk (s : State) (op : Nat) (r : MewsReq) (key : Nat → List Byte) : Bool :=
  match r.auth with
  | [] => false
  | k :: sig => signatureOk (key k.toNat) (s.signedDigest op r) sig && seqAbove s.mews.signedSeq r.seq

/-- The authentication of a request (R479, R480). -/
def State.mewsAuth (s : State) (op : Nat) (r : MewsReq) : MewsAuth :=
  let n := r.cred.toNat
  if n < 16 then
    match s.mews.creds.get n with
    | none => .bad
    | some c => if s.mews.tag n (mewsReqHeader op r) r.body = r.auth ∧ seqAbove (s.mews.seqs.get n) r.seq then .slot c.operate else .bad
  else if n = 0xFD then (if s.signedOk op r Sys2Proof.Config.makerKey then .maker else .bad)
  else if n = 0xFE then (if s.signedOk op r s.sec.owners.get then .owner else .bad)
  else if n = 0xFF ∧ r.auth = [] then .nobody
  else .bad

/-- The SEQ of an authenticated request is the last one accepted. -/
def State.takeSeq (s : State) (r : MewsReq) : MewsAuth → State
  | .slot _ => { s with mews := { s.mews with seqs := s.mews.seqs.set r.cred.toNat (some r.seq) } }
  | .maker | .owner => { s with mews := { s.mews with signedSeq := some r.seq } }
  | _ => s

/-! ### Authority and state (R481 to R483, R488) -/

/-- Does the authentication give the authority that the class needs in the life-cycle state (R482)? -/
def State.mewsMay (s : State) (o : MewsOp) (a : MewsAuth) : Bool :=
  let l := s.sec.lifecycle
  match o.cls with
  | .anyone => true
  | .reader => if l = 2 then (match a with | .slot _ => true | _ => false) else true
  | .operator =>
    if s.mews.recovery && (o.code == 0x30 || o.code == 0x31) then true
    else if l = 4 then false
    else if l = 2 then (if s.sec.rot then a == .owner else a == .slot true)
    else a == .maker
  | .signed => if l = 4 then false else if l = 2 then a == .owner else a == .maker
  | .quorum => l != 4

/-- Is the request accepted in the present state (R481, R483, R488)? -/
def State.mewsState (s : State) (o : MewsOp) : Bool := if s.mews.recovery then o.recovery else bitAt o.accept s.top.state.code

/-- Does the management die serve Mews: VDD_AON and VDD_IO within tolerance, and no reset of the die (R476)? -/
def State.mewsUp (s : State) : Bool := s.top.aon && !s.top.pkgRst

/-- Answer a request. -/
def State.mewsAnswer (s : State) (o : MewsOp) (r : MewsReq) (st : Status) (body : List Byte) : State :=
  s.mewsReply r.port.val o.code r.tag r.cred r.seq st true body

/-- The request as the command that runs. -/
def mewsCmd (o : MewsOp) (r : MewsReq) : RunningCmd := { path := .mews r.port.val, mewsOp := o.code, tag := r.tag, cred := r.cred, seq := r.seq }

/-- A failed authentication is answered without AUTH, and raised once a second (R479, R487). -/
def State.authFails (s : State) (op : Nat) (r : MewsReq) : State :=
  let t := if s.mews.authSec = some s.second then s
    else { s with mews := { s.mews with authSec := some s.second } }.raise 0xC001 26 0 [r.cred, BitVec.ofNat 8 op]
  t.mewsReply r.port.val op r.tag r.cred r.seq .authFailed false []

/-- A request is received: a fifth open one of its port is dropped; then authentication and authority, and `run` on what passes (R479, R482,
R483). -/
def State.mewsReceive (s : State) (o : MewsOp) (r : MewsReq) (run : State → State) : State :=
  let n := s.mews.openReqs.get r.port.val
  if !s.mewsUp then s
  else if 4 ≤ n then { s with mews := { s.mews with drops := min 0xFFFF (s.mews.drops + 1) } }
  else
    let t := { s with mews := { s.mews with openReqs := s.mews.openReqs.set r.port.val (n + 1) } }
    match t.mewsAuth o.code r with
    | .bad => t.authFails o.code r
    | a =>
      let t := t.takeSeq r a
      if t.mewsMay o a then run t else t.mewsAnswer o r .authFailed []

/-- A Public or Read request: served at once, whether or not a command runs (R483). -/
def State.mewsServe (s : State) (o : MewsOp) (r : MewsReq) (bad : Bool) (run : State → State) : State :=
  s.mewsReceive o r (fun t =>
    if bad then t.mewsAnswer o r .badArgument []
    else if !t.mewsState o then t.mewsAnswer o r .stateRefused []
    else run t)

/-- An Operate, Signed or Quorum request: refused while another command runs, otherwise the command that runs until
`run` ends it (R365, R483). -/
def State.mewsRun (s : State) (o : MewsOp) (r : MewsReq) (bad : Bool) (run : State → State) : State :=
  s.mewsReceive o r (fun t =>
    if bad then t.mewsAnswer o r .badArgument []
    else if !t.mewsState o || t.host.running.isSome then t.mewsAnswer o r .stateRefused []
    else run { t with host := { t.host with running := some (mewsCmd o r) } })

/-- Byte `i` of a body. -/
def bodyAt (b : List Byte) (i : Nat) : Nat := ((b[i]?).getD 0).toNat
/-- A little-endian number of `n` bytes of a body. -/
def bodyNum (b : List Byte) (i n : Nat) : Nat := leVal ((b.drop i).take n)
/-- Are the body's bytes from `i` on, `n` of them, zero? -/
def bodyZero (b : List Byte) (i n : Nat) : Bool := ((b.drop i).take n).all (fun x => x == 0)

end Sys2Proof.Machine
end

