-- ==== Sys2Proof/Machine/Lock.lean ====
section
/-! DEFINITION. Ring locks: lock loops, heater codes, thermal feed-forward, slips and thermometry (R240 to R245). -/
namespace Sys2Proof.Machine

/-- The heater code of ring `i` from the corrected loop outputs (R241). -/
def heaterCode (matrix : Tbl Int) (u : Nat → Nat) (i : Nat) : Nat :=
  let acc := sumI ((upto 7).map (fun k => if 3 ≤ i + k ∧ i + k ≤ 18 then matrix.get (7 * i + k) * (u (i + k - 3) : Int) else 0))
  (clampI 0 65535 ((acc + 2 ^ 13) / 2 ^ 14)).toNat

/-- A loop output with the feed-forward term added, 16 bits (R241, R242). -/
def LaneGroup.u (l : LaneGroup) (i : Nat) : Nat := (clampI 0 65535 ((l.outputs.get i : Int) + l.ffTerm)).toNat

/-- One ring's reading enters: its lock state follows the error (R240); slipped and down rings stay as they are. -/
def LaneGroup.reading (l : LaneGroup) (i : Nat) (r : RingReading) : LaneGroup :=
  let e := r.err.natAbs
  let l := { l with outputs := l.outputs.set i r.u.toNat, errRun := l.errRun.mod i (fun n => if 120 < e then n + 1 else 0),
                    mapErr := max l.mapErr e }
  match l.rings.get i with
  | .slipped => l
  | .down => l
  | _ => l.setRing i (if e ≤ 30 then .locked else .tracking)

/-- Every ring that is not down takes its heater code; a down ring holds its last one (R240, R241), and so do the loops of a group that
recalibrates (R267). -/
def LaneGroup.heat (l : LaneGroup) : LaneGroup :=
  (upto 16).foldl (fun l i => if l.running || l.rings.get i == .down then l else { l with codes := l.codes.set i (heaterCode l.matrix l.u i) }) l

/-- Has a heater come to an end of its range that it was not at before (R243)? -/
def rangeReached (before after : LaneGroup) : Bool :=
  (upto 16).any (fun i => (after.codes.get i == 0 || after.codes.get i == 65535) && before.codes.get i != after.codes.get i)

/-- What the lock events carry: END and lane (R250). -/
def laneDetail (g : LaneRef) : List Byte := [BitVec.ofNat 8 (b2n g.rx), 0] ++ leBytes 2 g.lane.val

/-- LOCK_LOOP_UPDATE (R240, R241, R243): the readings of a lane group's rings, then its heater codes. -/
def execLockLoopUpdate (g : LaneRef) (rings : List RingReading) (s : State) : Res :=
  let l := s.lane g
  let l' := ((rings.take 16).zipIdx.foldl (fun l r => l.reading r.2 r.1) l).heat
  let t := s.modLane g (fun _ => l')
  .next (if rangeReached l l' then t.raise 0x2004 g.plaza.val g.lane.val (laneDetail g) else t)

/-- The heat profile of a shallot for the step that runs (R210). -/
def State.profileOf (s : State) (n : Nat) : Option Profile :=
  match s.img.image with
  | none => none
  | some i =>
    ((i.profiles.filter (fun p => p.1 == s.img.active && p.2.sh == n && p.2.kind == i.kindOf s.seq.current.toNat)).head?).map Prod.snd

/-- The segment in force at a beat (R210). -/
def Profile.segment (p : Profile) (beat : Nat) : Option (Nat × Nat × Nat) := (p.segs.filter (fun g => decide (g.1 ≤ beat))).getLast?

/-- The power P of the feed-forward term in 0.25 W (R242): the segment of the profile, or the measured AD power where there
is none or where they differ by more than 72 W. -/
def State.feedPower (s : State) (n : Nat) : Nat :=
  let m := (s.shal n).pwr.adPower
  if s.executing then
    match (s.profileOf n).bind (fun p => p.segment (s.shal n).beat.toNat) with
    | some g => if g.2.1 + 288 < m ∨ m + 288 < g.2.1 then m else g.2.1
    | none => m
  else m

/-- FEEDFORWARD_UPDATE (R242): two first-order filters of 300 µs and 200 µs, one update per 1 µs (DEDUCED, log 11); lane groups
that lie beneath no AD have no such term. -/
def execFeedforwardUpdate (g : LaneRef) (s : State) : Res :=
  if g.plaza.val < 8 then
    let target : Int := (s.feedPower g.plaza.val : Int) * 2048 / 10
    .next (s.modLane g (fun l =>
      let f1 := l.ff1 + (target - l.ff1) / 300
      let f2 := l.ff2 + (l.ff1 - l.ff2) / 200
      { l with ff1 := f1, ff2 := f2, ffTerm := - ((l.gain : Int) * f2 / 65536) }))
  else .next s

/-- RING_SLIP (R240, R244): after 2 µs above 12 GHz, or with the detector signal lost, the ring is SLIPPED, and PAUSE goes to the
sender of its wavelength. -/
def execRingSlip (g : LaneRef) (ring : Fin 16) (w : WaveRef) (lost : Bool) (s : State) : Res :=
  let l := s.lane g
  let st := l.rings.get ring.val
  if (st = .locked ∨ st = .tracking) ∧ (lost ∨ 4 ≤ l.errRun.get ring.val) then
    let t := s.modLane g (fun l => { l.setRing ring.val .slipped with mapSlips := l.mapSlips + 1, errRun := l.errRun.set ring.val 0 })
    let t := t.raise 0x2003 g.plaza.val g.lane.val (laneDetail g ++ [BitVec.ofNat 8 ring.val])
    let t := t.modWave w.src.val w.dst.val w.wave.val (fun x => { x with slips := x.slips + 1 })
    .next (t.sendLink w.src.val w.dst.val 3 w.wave.val 1)
  else .next s

/-- RELOCK_DONE (R244): the ring is locked again, and RESUME goes out when no ring of its wavelength is slipped any more; the third failure
of one ring declares the wavelength down and demands a recalibration of the lane group. -/
def execRelockDone (g : LaneRef) (ring : Fin 16) (w : WaveRef) (ok : Bool) (s : State) : Res :=
  if (s.lane g).rings.get ring.val = .slipped then
    let fails := (s.lane g).relocks.get ring.val + 1
    let left := ((s.street w.src.val w.dst.val).waves.get w.wave.val).slips - 1
    if ok then
      let t := s.modLane g (fun l => { l.setRing ring.val .locked with relocks := l.relocks.set ring.val 0 })
      let t := t.modWave w.src.val w.dst.val w.wave.val (fun x => { x with slips := left })
      .next (if left = 0 then t.sendLink w.src.val w.dst.val 3 w.wave.val 0 else t)
    else if fails < 3 then .next (s.modLane g (fun l => { l with relocks := l.relocks.set ring.val fails }))
    else
      let t := s.modLane g (fun l => { l.setRing ring.val .down with relocks := l.relocks.set ring.val 0 })
      .next ((t.waveDown w.src.val w.dst.val w.wave.val).demandLane g)
  else .next s

/-- The lane groups of a plaza that the model holds. -/
def State.plazaLanes (s : State) (p : Nat) : List LaneGroup :=
  (s.blv.lanes.cells.filter (fun c => bitsOf c.1 16 8 == p)).map Prod.snd

/-- The mean of the valid readings beneath an AD (R245). -/
def State.thermoMean (s : State) (n : Nat) : Option Half :=
  let l := (s.plazaLanes n).filterMap (fun g => g.thermo)
  if l.isEmpty then none else some (BitVec.ofInt 16 (sumI (l.map (fun h => h.toInt)) / (l.length : Int)))

/-- LOCK_THERMO_REPORT (R245, R249): a reading counts from a locked, calibrated group; THERMO_Sn is the mean beneath ADn. -/
def execLockThermoReport (g : LaneRef) (temp : Option (BitVec 16)) (s : State) : Res :=
  let t := s.modLane g (fun l =>
    { l with thermo := if l.calNumber ≠ 0 ∧ (upto 16).all (fun i => l.rings.get i == .locked) then temp else none })
  .next (if g.plaza.val < 8 then t.modSh g.plaza.val (fun h => { h with pwr := { h.pwr with thermo := t.thermoMean g.plaza.val } }) else t)

end Sys2Proof.Machine
end

