-- ==== Sys2Proof/Machine/Calib.lean ====
section
/-! DEFINITION. Link calibration: plausibility, full calibration, lane-group recalibration and RECALIBRATE (R241, R264 to R270, R373). -/
namespace Sys2Proof.Machine

/-! ### Plausibility (R241, R268) -/

/-- Coupling of ring `i` to ring `i + k - 3` in 2^-20. -/
def CalReading.coupling (r : Sys2Proof.CalReading) (i k : Nat) : Int := if k = 3 then 0 else (r.couplings[7 * i + k]?).getD 0

/-- The couplings are plausible: none above 0.20, no row above 0.45, none beyond three rings (R241). -/
def couplingsOk (r : Sys2Proof.CalReading) : Bool :=
  !r.farCoupling && (upto 16).all (fun i =>
    (upto 7).all (fun k => decide ((CalReading.coupling r i k).natAbs * 5 ≤ 2 ^ 20)) &&
    decide (((upto 7).map (fun k => (CalReading.coupling r i k).natAbs)).foldl (· + ·) 0 * 100 ≤ 45 * 2 ^ 20))

/-- The limits of R268 on one lane group; `full` where the crosstalk and the gain are measured afresh. -/
def plausible (r : Sys2Proof.CalReading) (full : Bool) : Bool :=
  r.codes.all (fun c => decide (2048 ≤ c.toNat) && decide (c.toNat ≤ 63487)) &&
  decide (r.gainRef * 3 ≤ r.gain * 4) && decide (r.gain * 4 ≤ r.gainRef * 5) &&
  (!full || couplingsOk r) &&
  r.bias.all (fun c => decide (256 ≤ c.toNat) && decide (c.toNat ≤ 3839)) && decide (50 ≤ r.extinction) &&
  r.offsets.all (fun c => decide (112 ≤ c.toNat) && decide (c.toNat ≤ 911)) &&
  decide (r.tcalError.natAbs ≤ 640) && decide (71 ≤ r.q)

/-! ### The crosstalk matrix (R241) -/

/-- Entry of E = K − I between rings `i` and `j`, in 2^-20. -/
def offDiag (r : Sys2Proof.CalReading) (i j : Nat) : Int := if i = j ∨ i + 3 < j ∨ j + 3 < i then 0 else CalReading.coupling r i (j + 3 - i)

/-- Entry of C = I − E + E², exact in 2^-40, rounded to Q2.14 by NEAREST_EVEN (R241). -/
def crosstalkEntry (r : Sys2Proof.CalReading) (i j : Nat) : Int :=
  let e2 := sumI ((upto 16).map (fun l => offDiag r i l * offDiag r l j))
  rne ((if i = j then p2 40 else 0) - offDiag r i j * p2 20 + e2) 26

/-- The matrix C, truncated to three rings on either side. -/
def crosstalk (r : Sys2Proof.CalReading) : Tbl Int :=
  (upto 16).foldl (fun (t : Tbl Int) i => (upto 7).foldl (fun (t : Tbl Int) k =>
    if 3 ≤ i + k ∧ i + k ≤ 18 then t.set (7 * i + k) (crosstalkEntry r i (i + k - 3)) else t) t) {}

/-! ### Results (R268 to R270) -/

/-- New values are committed: the codes at lock, the biases and offsets, the gain, the thermometry constants and, at a full calibration,
the matrix (R265, R267, R268). -/
def LaneGroup.commitCal (l : LaneGroup) (r : Sys2Proof.CalReading) (full : Bool) : LaneGroup :=
  { l with
    codes := Tbl.setRun l.codes 0 (r.codes.map BitVec.toNat), gain := r.gain, matrix := if full then crosstalk r else l.matrix,
    bias := Tbl.setRun l.bias 0 (r.bias.map BitVec.toNat), offsets := Tbl.setRun l.offsets 0 (r.offsets.map BitVec.toNat),
    tcal := r.tcal, hcal := r.hcal, thermoGain := r.thermoGain,
    calNumber := l.calNumber + 1, marked := false, autoOff := false, failRun := 0 }

/-- A lane group that fails keeps its old values and is marked; after two failures in a row it recalibrates by command only (R269). -/
def State.failCal (s : State) (g : LaneRef) : State :=
  let n := (s.lane g).failRun + 1
  let t := s.modLane g (fun l => { l with marked := true, failRun := n, autoOff := l.autoOff || decide (2 ≤ n) })
  let t := { t with lamp := { t.lamp with calFails := satAdd t.lamp.calFails 1 } }.raise 0x3010 g.plaza.val g.lane.val (laneDetail g)
  if n = 2 then t.raise 0x3011 g.plaza.val g.lane.val (laneDetail g) else t

/-- One group's measurements are committed or refused (R268, R269). -/
def State.judgeCal (s : State) (full : Bool) (r : Sys2Proof.CalReading) : State :=
  if plausible r full then s.modLane r.group (fun l => l.commitCal r full) else s.failCal r.group

/-- Does some wavelength that starts or ends at a plaza stand down? -/
def State.plazaDark (s : State) (p : Nat) : Bool :=
  (upto 27).any (fun q => (s.street p q).waves.cells.any (fun c => c.2.down) || (s.street q p).waves.cells.any (fun c => c.2.down))

/-- A plaza passes: no lane group of it is marked, and no wavelength of it is down (R270). -/
def State.plazaPasses (s : State) (p : Nat) : Bool :=
  !(s.plazaLanes p).any (fun l => l.marked) && !s.plazaDark p

/-- The pass results of R270. -/
def State.calResult (s : State) : State :=
  let pass := (upto 27).map (fun p => (p, s.plazaPasses p))
  { s with lamp := { s.lamp with
      packagePass := pass.all Prod.snd, plazaPass := BitVec.ofNat 27 (packN 1 (fun p => b2n (s.plazaPasses p)) 27) } }

/-! ### Full calibration (R265, R266) -/

/-- A full calibration begins. -/
def State.beginCal (s : State) : State := { s with lamp := { s.lamp with calPhase := 1 } }

/-- The numbers of a wavelength start again at 0 at both ends; nothing is outstanding during a full calibration (R221, R265; log 100). -/
def Wave.renumber (w : Wave) : Wave :=
  { w with txSeq := 0, rxSeq := 0, replay := [], paused := false, discarding := false, fails := 0, slips := 0 }

/-- A wavelength takes its numbers afresh and comes up, or stays or goes down when it fails its margin check (R265, R266, R269). -/
def State.calWave (s : State) (weak : List (Nat × Nat × Nat)) (src dst w : Nat) : State :=
  let t := s.modWave src dst w Wave.renumber
  if weak.contains (src, dst, w) then (if ((s.street src dst).waves.get w).down then t.ringsDown src dst w else t.waveDown src dst w)
  else t.modWave src dst w (fun y => { y with down := false, dark := false })

/-- The wavelengths at the end of a full calibration: those that the state lists, since an unlisted one is as its calibration leaves it,
and those named weak. -/
def State.calWaves (s : State) (weak : List (Nat × Nat × Nat)) : State :=
  let all := s.blv.streets.cells.flatMap (fun c => c.2.waves.cells.map (fun (w : Nat × Wave) => (c.1 / 32, c.1 % 32, w.1)))
  (all ++ weak.filter (fun x => !all.contains x)).foldl (fun t x => t.calWave weak x.1 x.2.1 x.2.2) s

/-- Rings lock again on the values in force, new or old; no lane group waits any more, so a recess that granted one need not wait for it
(log 100). -/
def State.calRings (s : State) : State :=
  { s with
    seq := { s.seq with work := { s.seq.work with lanes := s.seq.work.lanes.filter (fun k => (s.blv.lanes.get k).running) } },
    blv := { s.blv with lanes := s.blv.lanes.mapAll (fun _ l => { l with rings := {}, errRun := {}, relocks := {}, pending := false }) } }

/-- The last phase ends: results, wavelengths and EV_LAMP_CAL_DONE (R265, R266, R270). -/
def State.endCal (s : State) (readings : List Sys2Proof.CalReading) (weak : List WaveRef) : State :=
  let t := s.calRings.calWaves (weak.map (fun w => (w.src.val, w.dst.val, w.wave.val)))
  let t := (readings.foldl (fun t r => t.judgeCal true r) t).calResult
  let t := { t with lamp := { t.lamp with calPhase := 0, calDone := true } }.raise 0x3012 mPlaza 0 [BitVec.ofNat 8 (b2n t.lamp.packagePass)]
  match t.host.running with
  | some c => if c.opcode = 8 then t.endCmd .ok [] else t
  | none => t

/-- CAL_PHASE_END (R265): the next phase begins; the eighth ends the calibration with its readings and the wavelengths that fail the margin
check. Full calibration never runs while RUNNING or SWEEPING. -/
def execCalPhaseEnd (readings : List Sys2Proof.CalReading) (weak : List WaveRef) (s : State) : Res :=
  let k := s.lamp.calPhase
  let may := s.top.state == .bringup || s.top.state == .idle || s.top.state == .loaded
  if k = 0 ∨ !may then .next s
  else if k < 8 then .next { s with lamp := { s.lamp with calPhase := k + 1 } }
  else .next (s.endCal readings weak)

/-! ### Lane-group recalibration (R267, R268, R373) -/

/-- A recalibration that waits starts, if a recess that granted it has no crossfade left and no group of the same plaza recalibrates. -/
def State.startLane (s : State) (g : LaneRef) : State :=
  let k := laneIx g
  if s.seq.grant.isSome ∧ s.seq.work.lanes.contains k ∧ s.seq.work.lamps.isEmpty ∧ !s.seq.flitWait ∧ (s.lane g).pending ∧
      !(s.plazaLanes g.plaza.val).any (fun l => l.running) then
    s.modLane g (fun l => { l with pending := false, running := true })
  else s

/-- LANE_GROUP_RECAL (R260, R267). -/
def execLaneGroupRecal (g : LaneRef) (s : State) : Res := .next (s.grantIdle.startLane g)

/-- The lane group of an argument in the layout of LOCK_SEL, if there is one (R249, R373). -/
def laneArg (v : Nat) : Option LaneRef :=
  let rx := bitAt v 31
  let p := bitsOf v 16 5
  let n := bitsOf v 0 16
  if bitsOf v 21 10 = 0 ∧ p < 27 ∧ n < laneCount rx p ∧ n < 128 then
    some { rx := rx, plaza := finOf 27 (by decide) p, lane := finOf 128 (by decide) n }
  else none

/-- Does a running command wait for this group's recalibration? -/
def RunningCmd.waitsFor (c : RunningCmd) (g : LaneRef) : Bool := c.opcode == 8 && argAt c.args 0 == 1 && laneArg (argAt c.args 1) == some g

/-- LANE_GROUP_RECAL_DONE (R267 to R270): after 150 µs the new values are committed, or the old ones stay and a wavelength that cannot lock on
them is declared down; the crosstalk matrix is not measured, and no wavelength comes up. -/
def execLaneGroupRecalDone (r : CalReading) (s : State) : Res :=
  let g := r.group
  if (s.lane g).running then
    let t := (s.modLane g (fun l => { l with running := false })).judgeCal false r
    let t := if plausible r false then t else r.noLock.foldl (fun t w => t.waveDown w.src.val w.dst.val w.wave.val) t
    let t := { t with seq := { t.seq with work := { t.seq.work with lanes := t.seq.work.lanes.erase (laneIx g) } } }.calResult
    match t.host.running with
    | some c => .next (if c.waitsFor g then t.endCmd .ok [] else t)
    | none => .next t
  else .next s

/-- A lane group is demanded by command, switched off or not; outside RUNNING it is granted and starts at once (R269, R373). -/
def State.commandLane (s : State) (g : LaneRef) : State :=
  let t := s.modLane g (fun l => { l with pending := true, demandAt := if l.pending then l.demandAt else s.top.now })
  if s.top.state = .running then t.endCmd .ok []
  else
    let t := t.grantIdle
    let t := if t.seq.work.lanes.contains (laneIx g) then t
      else { t with seq := { t.seq with work := { t.seq.work with lanes := t.seq.work.lanes ++ [laneIx g] } } }
    t.startLane g

/-- RECALIBRATE as a command of any path: ARG0 = 0 is a full calibration, ARG0 = 1 a lane group (R367, R369, R373). -/
def State.cmdRecalibrate (s : State) (c : RunningCmd) : State :=
  match argAt c.args 0 with
  | 0 => s.command c { accept := 0x18, bad := !argsZeroFrom c.args 1 } State.beginCal
  | 1 => match laneArg (argAt c.args 1) with
    | some g => s.command c { accept := 0x38, bad := !argsZeroFrom c.args 2 } (fun t => t.commandLane g)
    | none => s.command c { accept := 0x38, bad := true } id
  | _ => s.command c { accept := 0, bad := true } id

/-- The arguments of a RECALIBRATE row: ARG0 as its scope gives it, and the rest as sent. -/
def scopeArgs (scope : Nat) (a : List (BitVec 32)) : List (BitVec 32) := BitVec.ofNat 32 scope :: a.drop 1

/-- RECALIBRATE_FULL (R373): ARG0 is 0. -/
def execRecalibrateFull (a : List (BitVec 32)) (s : State) : Res := .next (s.hostCommand 0x08 (scopeArgs 0 a) State.cmdRecalibrate)

/-- RECALIBRATE_GROUP (R373): ARG0 is 1. -/
def execRecalibrateGroup (a : List (BitVec 32)) (s : State) : Res := .next (s.hostCommand 0x08 (scopeArgs 1 a) State.cmdRecalibrate)

end Sys2Proof.Machine
end

