-- ==== Sys2Proof/Machine/Tick.lean ====
section
/-! DEFINITION. What a nanosecond brings while no command waits: clock periods of the shallots, with their beats, holds, pauses and stops,
the bundles that a beat issues, and the decisions of the avenues (R100 to R107, R119, R120, R149 to R156, R231, R427 to R430). -/
namespace Sys2Proof.Machine

/-! ### Pauses and holds (R153, R428) -/

/-- The largest pause duty of a shallot (R428). -/
def ShPower.duty (p : ShPower) : Nat := max p.dutyPower (max p.dutyHeat p.dutyStack)

/-- A held period is counted in all holds and under its cause, and every hold that runs grows shorter (R122, R124, R153, R404, R430). -/
def Shallot.chargeHold (h : Shallot) (c : HoldCause) : Shallot :=
  { h with
    holdBeats := satAdd h.holdBeats 1,
    wakeHoldBeats := satAdd h.wakeHoldBeats (b2n (c == .wake)),
    retryHoldBeats := satAdd h.retryHoldBeats (b2n (c == .retry)),
    privHoldBeats := satAdd h.privHoldBeats (b2n (c == .priv)),
    wideHoldBeats := satAdd h.wideHoldBeats (b2n (c == .wide)),
    recvHoldBeats := satAdd h.recvHoldBeats (b2n (c == .landing)),
    waitHoldBeats := satAdd h.waitHoldBeats (b2n (c == .wait)),
    wakeHold := h.wakeHold - 1, retryHold := h.retryHold - 1, privHold := h.privHold - 1, wideHold := h.wideHold - 1 }

/-! ### Holds that end (R119, R120) -/

/-- Is the slot that a RECV waits for complete? -/
def Shallot.slotReady (h : Shallot) (r : RecvHold) : Bool := ((h.pods.get r.pod).landing.get r.slot.val).complete

/-- The RECVs whose slots are complete copy them now (R119). -/
def State.landRecvs (s : State) (n : Nat) : State :=
  let ready := (s.shal n).recvHolds.filter (fun r => (s.shal n).slotReady r)
  let t := ready.foldl (fun (t : State) r => t.modPod n r.pod (fun p => p.recv (t.ctx n) r.slot r.buf)) s
  t.modSh n (fun h => { h with recvHolds := h.recvHolds.filter (fun r => !ready.contains r) })

/-- The WAITs whose tallies have reached their values end (R120). -/
def State.endWaits (s : State) (n : Nat) : State :=
  s.modSh n (fun h => { h with waitHolds := h.waitHolds.filter (fun w => !s.tallyMet w) })

/-! ### A beat (R100 to R107, R149) -/

/-- The pod after `k` more bundles, while every one of them is NOP in every slot; none where one is not. -/
def Pod.skipNops (p : Pod) : Nat → Option Pod
  | 0 => some p
  | k + 1 => if bundleIdle (p.bundles.get p.pc.toNat) then p.advance.skipNops k else none

/-- A run of 256 or more NOP bundles with nothing in flight ends 32 beats from now: the pod wakes (R429). -/
def Pod.wakesNow (p : Pod) : Bool :=
  decide (224 ≤ p.nopRun) && (match p.skipNops 31 with
    | some q => !bundleIdle (q.bundles.get q.pc.toNat)
    | none => false)

/-- A pod issues its bundle: the address moves on, and the run of idle bundles is counted (R101, R105, R429). -/
def Pod.issue (p : Pod) : Pod :=
  let idle := bundleIdle (p.bundles.get p.pc.toNat) && p.pend.isEmpty
  { p with lastPc := p.pc, nopRun := if idle then p.nopRun + 1 else 0 }.advance

/-- The reference of pod `p` of shallot `n`. -/
def podRef (n p : Nat) : PodRef := { sh := finOf 8 (by decide) n, pod := finOf 512 (by decide) p }

/-- The bundles that the pods of a shallot issue in this beat: WAITs first, then the other slots, then STEP_ENDs (R100, R102). -/
def Shallot.beatInstrs (h : Shallot) (n : Nat) : List Instr :=
  let at' := (h.pods.cells.filter (fun c => c.2.issuing)).map (fun c => (podRef n c.1, c.2.bundles.get c.2.pc.toNat))
  at'.flatMap (fun c => waitInstr c.1 c.2) ++ at'.flatMap (fun c => bodyInstrs c.1 {} c.2) ++ at'.flatMap (fun c => stepEndInstr c.1 c.2)

/-- Every issuing pod issues: the writes that are visible from this beat land first (R102). -/
def Shallot.issueAll (h : Shallot) (b : Nat) : Shallot :=
  let pods := h.pods.mapAll (fun _ p => let q := p.land b; if q.issuing then q.issue else q)
  { h with pods := pods,
           pwr := { h.pwr with dueWakes := h.pwr.dueWakes ++ (pods.cells.filter (fun c => c.2.issuing && c.2.wakesNow)).map Prod.fst } }

/-- A segment beat less than 20 µs after the end of its forecast frame holds the shallot until they have passed (R432). -/
def State.segmentHold (s : State) (n : Nat) : State :=
  let h := s.shal n
  let starts := match s.profileOf n with | none => false | some p => p.segs.any (fun g => g.1 == h.beat.toNat)
  match starts, h.pwr.frameEnd with
  | true, some e =>
    if s.top.now < e + 20000 then
      s.modSh n (fun h => { h with forecastHold := some (e + 20000), pwr := { h.pwr with forecastLate := satAdd h.pwr.forecastLate 1 } })
    else s
  | _, _ => s

/-- An active period: the counter advances, and every pod that takes part issues one bundle, whose commands go to the queue. -/
def State.beat (s : State) (n : Nat) : State :=
  let h := s.shal n
  let b : Word64 := if h.beatZeroDue then 0 else h.beat + 1
  let landed := { h with beat := b, beatZeroDue := false, pods := h.pods.mapAll (fun _ p => p.land b.toNat) }
  let t := { s with sh := s.sh.set n (landed.issueAll b.toNat), pending := s.pending ++ landed.beatInstrs n }
  t.segmentHold n

/-- A held period for a row that has not landed is charged to the street that the row comes by (R248). -/
def State.chargeStreet (s : State) (n : Nat) (c : HoldCause) : State :=
  match c, (s.shal n).recvHolds with
  | .landing, r :: _ =>
    match s.seq.exe.flights.find? (fun f => f.dst == n && f.pod == r.pod && f.slot == r.slot.val) with
    | some f => if f.src = n then s else s.modStreet f.src n (fun x => { x with mapHolds := x.mapHolds + 1 })
    | none => s
  | _, _ => s

/-- A clock period of a shallot inside a step (R149, R152, R153). -/
def State.stepPeriod (s : State) (n : Nat) : State :=
  let landing := (s.shal n).recvHolds.any (fun r => (s.shal n).slotReady r)
  let t := (s.landRecvs n).endWaits n
  match (t.shal n).stands landing with
  | .stop => t.modSh n (fun h => { h with stopInside := false })
  | .recess _ => t
  | .pause => t.modSh n (fun h => { h with pauseBeats := satAdd h.pauseBeats 1 })
  | .hold c => (t.chargeStreet n c).modSh n (fun h => h.chargeHold c)
  | .none => t.beat n

/-! ### The duty frame (R427) -/

/-- One period of the 64-period frame: its boundaries are commands of their own. -/
def State.dutyPeriod (s : State) (n : Nat) : State :=
  let p := (s.shal n).pwr
  if p.dutyPause then
    let t := s.modSh n (fun h => { h with pwr := { h.pwr with framePos := h.pwr.framePos + 1 } })
    if 64 ≤ p.framePos + 1 then { t with pending := t.pending ++ [.dutyFrameBoundary (finOf 8 (by decide) n)] } else t
  else if p.duty = 0 then s.modSh n (fun h => { h with pwr := { h.pwr with framePos := 0 } })
  else
    let t := s.modSh n (fun h => { h with pwr := { h.pwr with framePos := h.pwr.framePos + 1 } })
    if 64 - p.duty ≤ p.framePos + 1 then { t with pending := t.pending ++ [.dutyFrameBoundary (finOf 8 (by decide) n)] } else t

/-- The first power pause and the first heat pause of a step are raised (R427, R442). -/
def State.pauseEvents (s : State) (n : Nat) : State :=
  let p := (s.shal n).pwr
  let o := s.seq.once
  if (s.shal n).inStep then
    let t := if 0 < p.dutyPower && !o.powerLimit then
        { s with seq := { s.seq with once := { s.seq.once with powerLimit := true } } }.raise 0x9003 n 0 [BitVec.ofNat 8 p.dutyPower]
      else s
    if 0 < max p.dutyHeat p.dutyStack && !o.throttle then
      { t with seq := { t.seq with once := { t.seq.once with throttle := true } } }.raise 0xA002 n 0
        [BitVec.ofNat 8 p.dutyHeat, BitVec.ofNat 8 p.dutyStack]
    else t
  else s

/-- DUTY_FRAME_BOUNDARY (R427): the pause of the frame begins after 64 − d periods, and ends with the frame. -/
def execDutyFrameBoundary (sh : Fin 8) (s : State) : Res :=
  let n := sh.val
  let p := (s.shal n).pwr
  let frame := fun (pause : Bool) (pos : Nat) (t : State) =>
    t.modSh n (fun h => { h with pwr := { h.pwr with dutyPause := pause, framePos := pos } })
  if p.dutyPause || p.duty == 0 then .next (frame false 0 s) else .next ((frame true (64 - p.duty) s).pauseEvents n)

/-- `k` periods of a held shallot pass, each charged to the first cause of a hold that applies; where the counter stands for another
reason no hold is charged (R153). -/
def Shallot.passHeld (h : Shallot) : Nat → Shallot
  | 0 => h
  | k + 1 => match h.stands false with
    | .hold c => (h.chargeHold c).passHeld k
    | _ => h

/-- HELD_ROW_TRANSFER_DONE (R122, R124, R153): the transfer on the private channel, or of two rows, completes: what is left of its held
periods passes. -/
def execHeldRowTransferDone (sh : Fin 8) (s : State) : Res :=
  .next (s.modSh sh.val (fun h => h.passHeld (max h.privHold h.wideHold)))

/-! ### The avenues (R231, R233) -/

/-- A period of an avenue ends: where nothing was to decide, the slot goes by unused (R234, R248). -/
def State.closeAvenue (s : State) (n a : Nat) : State :=
  let k := arbIx 0 n a
  let slot := s.arbSlot 0 n a
  s.modArb k (fun b => { (if b.decided then b else b.turn 0 slot []) with decided := false })

/-- The avenues of a shallot that have something to decide in this period. -/
def State.avenueInstrs (s : State) (n : Nat) : List Instr :=
  ((upto 16).filter (fun a => !(s.arb (arbIx 0 n a)).reqs.isEmpty || (s.arb (arbIx 0 n a)).granted.isSome)).map (fun a =>
    .arbiterDecision { kind := 0, plaza := finOf 27 (by decide) n, unit := finOf 64 (by decide) a } [])

/-! ### Time -/

/-- One clock period of a shallot: the decisions of the one before are over. -/
def State.period (s : State) (n : Nat) : State :=
  let t := ((upto 16).foldl (fun (t : State) a => t.closeAvenue n a) s).dutyPeriod n
  let t := if (t.shal n).inStep then t.stepPeriod n else t
  { t with pending := t.pending ++ t.avenueInstrs n }

/-- The code that a shallot runs at: its current one, or before any the target by R421. -/
def ShClock.runCode (c : ShClock) : Nat := if c.code = 0 then max 16 (bitsOf c.target.toNat 0 7) else c.code

/-- The length of the period under way in thousandths of the period of the running code: a droop stretches it (R424). -/
def ShClock.len (c : ShClock) : Nat := 1000 + 250 * c.stretch

/-- Has a clock period of the shallot ended that has not passed yet? -/
def Shallot.due (h : Shallot) : Bool := h.powered && decide (h.clk.len ≤ h.clk.phase)

/-- The clock of a powered shallot moves on by 1 ns (R156). -/
def Shallot.clockNs (h : Shallot) : Shallot :=
  if h.powered then { h with clk := { h.clk with phase := h.clk.phase + 25 * h.clk.runCode } } else h

/-- A clock period that has ended passes. -/
def State.duePeriod (s : State) (n : Nat) : State :=
  if (s.shal n).due then
    (s.modSh n (fun h => { h with clk := { h.clk with phase := h.clk.phase - h.clk.len, stretch := 0 } })).period n
  else s

/-- Does a clock period wait to pass? -/
def State.periodsDue (s : State) : Bool := shallotNums.any (fun n => (s.shal n).due)

/-- What a step without a command does (log 1): the clock periods that have ended pass, one of each shallot, so that the commands of a
beat come before the next beat; where none has ended, one nanosecond passes. -/
def State.tick (s : State) : State :=
  if s.periodsDue then shallotNums.foldl (fun t n => t.duePeriod n) s
  else shallotNums.foldl (fun t n => t.modSh n Shallot.clockNs) { s with top := { s.top with now := s.top.now + 1 } }

end Sys2Proof.Machine
end

