-- ==== Sys2Proof/Machine/Clocks.lean ====
section
/-! DEFINITION. Clocks and power of the shallots: frequency targets, the governor and its stops, droops, power duties, wakes, forecasts,
VR_LIMIT, sensors and thermistors (R419 to R434, R439, R440). -/
namespace Sys2Proof.Machine

/-! ### Frequency (R421 to R423) -/

/-- The shallot's clock changed. -/
def State.modClk (s : State) (n : Nat) (f : ShClock → ShClock) : State := s.modSh n (fun h => { h with clk := f h.clk })
/-- The shallot's power state changed. -/
def State.modPwr (s : State) (n : Nat) (f : ShPower → ShPower) : State := s.modSh n (fun h => { h with pwr := f h.pwr })

/-- The code that the changes in progress lead to. -/
def ShClock.last (c : ShClock) : Nat := (c.demands.getLast?).getD c.code

/-- The first demanded change begins its stop of 2 µs, within the standstill where the counter stands already; each downward change
is raised (R423, R441, R442). -/
def State.beginStop (s : State) (n : Nat) : State :=
  let c := (s.shal n).clk
  match c.demands with
  | [] => s
  | f :: _ =>
    let down := decide (f < c.code)
    let t := s.modSh n (fun h => { h with
      stopCount := satAdd h.stopCount 1, stopInside := h.standsElse false != .none,
      clk := { h.clk with stopNs := 2000, downCount := satAdd h.clk.downCount (b2n down), upCount := satAdd h.clk.upCount (b2n (!down)) } })
    if down then t.raise 0x9001 n 0 [BitVec.ofNat 8 f] else t

/-- A change to code `f` is demanded: its stop begins now, or as the stop in progress ends (R423). -/
def State.demandCode (s : State) (n f : Nat) : State :=
  let idle := (s.shal n).clk.stopNs == 0
  let t := s.modClk n (fun c => { c with demands := c.demands ++ [f] })
  if idle then t.beginStop n else t

/-- Successive one-code changes down to `f` (R423). -/
def State.lowerTo (s : State) (n f : Nat) : Nat → State
  | 0 => s
  | k + 1 => if f < (s.shal n).clk.last then (s.demandCode n ((s.shal n).clk.last - 1)).lowerTo n f k else s

/-- FREQ_TARGET of a shallot is written; a shallot never runs above its target (R421). -/
def State.setTarget (s : State) (n : Nat) (v : Word) : State :=
  let t := s.modClk n (fun c => { c with target := v &&& 0x7F })
  if (s.shal n).powered then t.lowerTo n (appliedCode s.top.identity v) 128 else t

/-- FREQ_STOP_END (R423): the pair resumes at the new frequency, or the next stop follows at once. -/
def execFreqStopEnd (sh : Fin 8) (s : State) : Res :=
  let n := sh.val
  match (s.shal n).clk.demands with
  | [] => .next (s.modClk n (fun c => { c with stopNs := 0 }))
  | f :: l => .next ((s.modClk n (fun c => { c with code := f, demands := l, stopNs := 0 })).beginStop n)

/-! ### The governor (R422) -/

/-- The set point of VDD_ADn moves by 5 mV, at most once per 10 µs (R422). -/
def State.moveSetPoint (s : State) (n mv : Nat) : State :=
  if 10 ≤ (s.shal n).clk.sinceAvs then (s.modClk n (fun c => { c with setPoint := mv, sinceAvs := 0 })).emit (.avs n mv) else s

/-- Is a pause of the shallot in force, of any cause (R421, R428)? -/
def Shallot.pauseInForce (h : Shallot) : Bool :=
  h.pwr.vrLimit || h.pwr.dutyPause || h.pwr.dutyPower != 0 || h.pwr.dutyHeat != 0 || h.pwr.dutyStack != 0

/-- One code down, never below 16 (R421, R422). -/
def State.codeDown (s : State) (n : Nat) : State :=
  let f := (s.shal n).clk.last
  if 16 < f then s.demandCode n (f - 1) else s

/-- The rows of the governor's table for a worst margin in ps, top row first (R422). -/
def State.govern (s : State) (n worst : Nat) : State :=
  let c := (s.shal n).clk
  if worst < 10 then s.codeDown n
  else if worst ≤ 30 then (if c.setPoint < 800 then s.moveSetPoint n (c.setPoint + 5) else s.codeDown n)
  else if worst ≤ 50 then s
  else
    let t := if 600 < c.setPoint then s.moveSetPoint n (c.setPoint - 5) else s
    let d := (t.shal n).clk
    if 1000 ≤ c.highRun ∧ d.setPoint ≤ 780 ∧ c.last < appliedCode s.top.identity c.target ∧ 1000 ≤ c.sinceRise ∧ !(s.shal n).pauseInForce then
      (t.modClk n (fun c => { c with sinceRise := 0 })).demandCode n (c.last + 1)
    else t

/-- GOVERNOR_TICK (R422): the worst slack margins of the pair in ps, every 1 µs. -/
def execGovernorTick (sh : Fin 8) (marginAd marginSd : BitVec 8) (s : State) : Res :=
  let n := sh.val
  let worst := min marginAd.toNat marginSd.toNat
  if (s.shal n).powered then
    .next ((s.modClk n (fun c => { c with
      marginAd := marginAd.toNat, marginSd := marginSd.toNat, highRun := if 60 < worst then min 1000 (c.highRun + 1) else 0,
      sinceRise := min 1000 (c.sinceRise + 1), sinceAvs := min 10 (c.sinceAvs + 1) })).govern n worst)
  else .next s

/-- DROOP_DETECT (R156, R424): the rail reads `depth` mV below its set point, and the next period of both dies is stretched. -/
def execDroopDetect (sh : Fin 8) (depth : BitVec 10) (s : State) : Res :=
  let q := if depth.toNat < 30 then 0 else if depth.toNat ≤ 45 then 1 else 2
  if q = 0 ∨ !(s.shal sh.val).powered then .next s
  else .next (s.modSh sh.val (fun h => { h with
    stretchCount := satAdd h.stretchCount (b2n (h.clk.stretch == 0)),
    clk := { h.clk with stretch := max h.clk.stretch q, droopCount := satAdd h.clk.droopCount 1 } }))

/-! ### Shallot power and package power (R427, R433) -/

/-- The POWER in force of a shallot: the segment at its beat, or 720 W where the image has no profile for the step (R210, R433). -/
def State.powerInForce (s : State) (n : Nat) : Nat :=
  match s.profileOf n with
  | some p => ((p.segment (s.shal n).beat.toNat).map (fun g => g.2.1)).getD 2880
  | none => 2880

/-- The power duty after a measurement: up by 4/64 above 720 W or, for a placed shallot, with the package above 7,000 W; down by 1/64 per
100 µs below 97 % of the limit that raised it (R427). -/
def ShPower.measure (p : ShPower) (placed : Bool) (pkg : Nat) : ShPower :=
  let own := decide (2880 < p.power)
  let whole := decide (7000 < pkg) && placed
  if own || whole then { p with dutyPower := min 60 (p.dutyPower + 4), calmRun := 0, pkgRaised := !own }
  else
    let calm := if p.pkgRaised then decide (pkg * 100 < 7000 * 97) else decide (p.power * 100 < 2880 * 97)
    if !calm then { p with calmRun := 0 }
    else if 9 ≤ p.calmRun then { p with dutyPower := p.dutyPower - 1, calmRun := 0 }
    else { p with calmRun := p.calmRun + 1 }

/-- More than 72 W above the POWER in force at three measurements in a row is raised, once per step (R433). -/
def State.forecastCheck (s : State) (n : Nat) : State :=
  if (s.shal n).inStep then
    let above := decide (s.powerInForce n + 288 < (s.shal n).pwr.power)
    let run := if above then min 3 ((s.shal n).pwr.overRun + 1) else 0
    let t := s.modPwr n (fun p => { p with overRun := run })
    if run = 3 ∧ !t.seq.once.forecast.contains n then
      { t with seq := { t.seq with once := { t.seq.once with forecast := t.seq.once.forecast ++ [n] } } }.raise 0x9005 n 0
        (leBytes 2 (s.shal n).pwr.power)
    else t
  else s

/-- POWER_MEASURE (R427, R433): the 10 µs averages of the package in W and of its shallots in 0.25 W. -/
def execPowerMeasure (pkg : BitVec 16) (shallots : List PowerReading) (s : State) : Res :=
  let t := { s with pp := { s.pp with power := pkg.toNat } }
  let t := shallots.foldl (fun (t : State) (r : PowerReading) =>
    t.modPwr r.sh.val (fun p => { p with power := r.power.toNat, adPower := r.ad.toNat })) t
  let t := shallotNums.foldl (fun (t : State) n => t.modPwr n (fun p => p.measure (s.shal n).placed pkg.toNat)) t
  .next (shallotNums.foldl State.forecastCheck t)

/-! ### Wakes (R429, R430) -/

/-- SLEW_BUDGET or PKG_SLEW is written; writes while RUNNING are ignored (R429). -/
def State.setSlew (s : State) (pkg : Bool) (v : Word) : State :=
  if s.top.state == .running then s
  else if pkg then { s with pp := { s.pp with pkgSlew := v &&& 0x0FFF0FFF } }
  else { s with pp := { s.pp with slew := v &&& 0x0FFF01FF } }

/-- The buckets refill by a tenth of their rates per 100 ns, up to their capacities (R429). -/
def State.refill (s : State) : State :=
  let rail := s.pp.slew.toNat
  let pkg := s.pp.pkgSlew.toNat
  let t := s.eachShallot (fun _ h => { h with pwr := { h.pwr with credits := min (10 * bitsOf rail 16 12) (h.pwr.credits + bitsOf rail 0 9) } })
  { t with pp := { t.pp with credits := min (10 * bitsOf pkg 16 12) (t.pp.credits + bitsOf pkg 0 12) } }

/-- One due wake is served where both buckets hold a credit, and otherwise deferred, which holds its shallot (R429, R430). -/
def State.serveWake (s : State) (n pod : Nat) : State :=
  let p := (s.shal n).pwr
  let held := (s.shal n).wakeHeld.contains pod
  if 10 ≤ p.credits ∧ 10 ≤ s.pp.credits then
    let t := s.modSh n (fun h => { h with
      wakeHeld := h.wakeHeld.erase pod, wakeHold := if held then 32 else h.wakeHold,
      pwr := { h.pwr with credits := h.pwr.credits - 10, dueWakes := h.pwr.dueWakes.erase pod } })
    { t with pp := { t.pp with credits := t.pp.credits - 10 } }
  else if held then s
  else
    let t := s.modSh n (fun h => { h with wakeHeld := h.wakeHeld ++ [pod], pwr := { h.pwr with wakeDefer := satAdd h.pwr.wakeDefer 1 } })
    if t.seq.once.wakeDefer then t
    else { t with seq := { t.seq with once := { t.seq.once with wakeDefer := true } } }.raise 0x9004 n pod []

/-- WAKE_TICK (R429, R430): the buckets refill, and the wakes due are served in the order of shallot, avenue and pod. -/
def execWakeTick (s : State) : Res :=
  .next (shallotNums.foldl (fun (t : State) n =>
    ((upto 512).filter (fun p => (t.shal n).pwr.dueWakes.contains p)).foldl (fun (t : State) p => t.serveWake n p) t) s.refill)

/-! ### Load forecasts (R431, R432) -/

/-- A forecast frame (R431). -/
def forecastFrame (power : Nat) : BitVec 24 :=
  let top := 11 * 2 ^ 12 + power % 2 ^ 12
  BitVec.ofNat 24 (top * 256 + (crc8 (natBitsMsb 16 top)).toNat)

/-- The profile of a shallot for a step (R210). -/
def State.profileAt (s : State) (n step : Nat) : Option Profile :=
  match s.img.image with
  | none => none
  | some i => ((i.profiles.filter (fun p => p.1 == s.img.active && p.2.sh == n && p.2.kind == i.kindOf step)).head?).map Prod.snd

/-- FORECAST_FRAME (R432): a frame for a segment of the current step, or of the one after it, ends on LFPn; where the image has no profile
for that step the frame announces 720 W. -/
def execForecastFrame (sh : Fin 8) (next : Bool) (segment : Nat) (s : State) : Res :=
  let n := sh.val
  let prof := s.profileAt n (s.seq.current.toNat + b2n next)
  let power := match prof with
    | some p => (p.segs[segment]?).map (fun g => g.2.1)
    | none => if segment = 0 then some 2880 else none
  match power with
  | none => .next s
  | some w =>
    .next ((s.modPwr n (fun p => { p with forecast := BitVec.ofNat 12 w, profile := prof.isSome, frameEnd := some s.top.now })).emit
      (.lfp n (forecastFrame w)))

/-- FORECAST_HOLD_END (R432): 20 µs have passed since the end of the late frame. -/
def execForecastHoldEnd (sh : Fin 8) (s : State) : Res :=
  match (s.shal sh.val).forecastHold with
  | some t => .next (if t ≤ s.top.now then s.modSh sh.val (fun h => { h with forecastHold := none }) else s)
  | none => .next s

/-! ### VR_LIMIT (R434) -/

/-- VR_LIMIT_US with the assertion in progress. -/
def ShPower.vrTime (p : ShPower) (now : Nat) : Word := satAdd p.vrLimitUs (if p.vrLimit then (now - p.vrSince) / 1000 else 0)

/-- VR_LIMIT_ASSERT (R434): the filtered assertion pauses the shallot. -/
def execVrLimitAssert (sh : Fin 8) (s : State) : Res :=
  .next (s.modPwr sh.val (fun p => if p.vrLimit then p else { p with vrLimit := true, vrSince := s.top.now }))

/-- VR_LIMIT_DEASSERT (R434): the pause ends at the next bundle boundary, and its time is counted. -/
def execVrLimitDeassert (sh : Fin 8) (s : State) : Res :=
  .next (s.modPwr sh.val (fun p => { p with vrLimitUs := p.vrTime s.top.now, vrLimit := false }))

/-- VR_LIMIT_TIMER (R434): every 10 ms of assertion is raised. -/
def execVrLimitTimer (sh : Fin 8) (s : State) : Res :=
  .next (if (s.shal sh.val).pwr.vrLimit then s.raise 0x9006 sh.val 0 [] else s)

/-! ### Sensors (R420, R439, R440) -/

/-- A sensor reading is valid from −40 to 150 °C (R420). -/
def validTemp (t : Option (BitVec 16)) : Option Half := t.filter (fun x => decide (-5120 ≤ x.toInt) && decide (x.toInt ≤ 19200))

/-- Temperature sensors of a layer at a plaza (R419): an AD 32 and an SD 16; a gate die 8, and its core-die sensors from number 8; a
gateway 8; the management die 4. -/
def sensorCount (p : Nat) (sd : Bool) : Nat :=
  if sd then (if p < 8 then 16 else 0) else match plazaKind p with | 0 => 32 | 1 => 64 | 2 => 8 | _ => 4

/-- A sensor in the layout of SENSOR_SEL (R441). -/
def sensorIx (p : Nat) (sd : Bool) (n : Nat) : Nat := p * 512 + b2n sd * 256 + n

/-- The hottest valid sensor among numbers `lo` to `lo + n − 1` of a layer. -/
def State.hottest (s : State) (p : Nat) (sd : Bool) (lo n : Nat) : Option Half :=
  ((fromN lo n).filterMap (fun k => s.pp.sensors.get (sensorIx p sd k))).foldl (fun (a : Option Half) x => match a with
    | none => some x
    | some y => some (if x.toInt ≤ y.toInt then y else x)) none

/-- The temperature window of non-volatile writes follows the management die: 0 to 85 °C (R440). -/
def State.nvWindow (s : State) : State :=
  match s.hottest 26 false 0 4 with
  | none => { s with pp := { s.pp with nvOpen := false } }
  | some t => { s with pp := { s.pp with mgmtTemp := t, nvOpen := decide (0 ≤ t.toInt) && decide (t.toInt ≤ 85 * 128) } }

/-- SENSOR_READ (R420, R440): one die temperature sensor is read and its validity judged. -/
def execSensorRead (p : PlazaNo) (sd : Bool) (sensor : Fin 64) (t : Option (BitVec 16)) (s : State) : Res :=
  if sensor.val < sensorCount p.val sd then
    let u := { s with pp := { s.pp with sensors := s.pp.sensors.set (sensorIx p.val sd sensor.val) (validTemp t) } }
    let u := if plazaKind p.val = 1 then u.modMem (p.val - 8) (fun m => { m with temp := (u.hottest p.val false 8 56).getD m.temp }) else u
    .next (if p.val = 26 then u.nvWindow else u)
  else .next s

/-- THERMISTOR_READ (R439): a coolant thermistor is read, none where it is open or short; above the limit it is raised once per minute. -/
def execThermistorRead (n : Fin 4) (t : Option (BitVec 16)) (s : State) : Res :=
  let u := { s with pp := { s.pp with th := s.pp.th.set n.val t } }
  match t with
  | some x =>
    if (s.pp.coolant.setWidth 16 : BitVec 16).toInt < x.toInt ∧ s.pp.coolantMinute ≠ some s.minute then
      .next ({ u with pp := { u.pp with coolantMinute := some s.minute } }.raise 0xA005 26 n.val (leBytes 2 x.toNat))
    else .next u
  | none => .next u

end Sys2Proof.Machine
end

