-- ==== Sys2Proof/Machine/Umpire.lean ====
section
/-! DEFINITION. The conductor pair and the umpire: inputs and outputs, claims and hold buffers, heartbeats, switch-over, the return of a
conductor, comparison mode (R379 to R395, R398). -/
namespace Sys2Proof.Machine

/-! ### Conductors -/

/-- Conductor C0 or C1. -/
def Cond.of (c : Cond) (one : Bool) : Conductor := if one then c.c1 else c.c0
/-- The pair with one conductor changed. -/
def Cond.modOf (c : Cond) (one : Bool) (f : Conductor → Conductor) : Cond := if one then { c with c1 := f c.c1 } else { c with c0 := f c.c0 }
/-- The state with one conductor changed. -/
def State.modConductor (s : State) (one : Bool) (f : Conductor → Conductor) : State := { s with cond := s.cond.modOf one f }
/-- The state with an output stage changed. -/
def State.modStage (s : State) (k : Nat) (f : OutStage → OutStage) : State := { s with cond := { s.cond with stages := s.cond.stages.mod k f } }
/-- Conductor number. -/
def condNo (one : Bool) : Nat := b2n one
/-- Does a stage number name an output stage (R381)? -/
def stageExists (k : Nat) : Bool := decide (k < 3) || (decide (8 ≤ k) && decide (k < 40))
/-- The output stages in order. -/
def stageList : List Nat := (upto 40).filter stageExists

/-! ### Inputs (R379, R380) -/

/-- INPUT_STAGE_ARRIVAL (R379): the input takes the next ISEQ, and a copy goes to each conductor. -/
def execInputStageArrival (plaza : PlazaNo) (s : State) : Res :=
  let c := s.cond
  let i : CondInput := { iseq := c.iseq, plaza := plaza.val, due := s.cycle + 160 }
  .next { s with cond := { c with iseq := c.iseq + 1, inputs := c.inputs ++ [i] } }

/-- A conductor consumes an input. -/
def Cond.consume (c : Cond) (one : Bool) (iseq : Word64) : Cond := c.modOf one (fun k => { k with consumed := k.consumed ++ [iseq] })

/-- The input with its copies consumed as given; it is done when both are. -/
def Cond.took (c : Cond) (iseq : Word64) (zero one : Bool) : Cond :=
  let take := fun (i : CondInput) => if i.iseq = iseq then { i with got0 := i.got0 || zero, got1 := i.got1 || one } else i
  { c with inputs := (c.inputs.map take).filter (fun i => !(i.got0 && i.got1)) }

/-- INPUT_DELIVERY (R379, R392): at the delivery cycle each conductor consumes its copy, unless the copy is late; the copy of a conductor that
is neither active nor standby is lost, since a later snapshot covers it. -/
def execInputDelivery (iseq : BitVec 64) (late0 late1 : Bool) (s : State) : Res :=
  match s.cond.inputs.find? (fun i => i.iseq == iseq) with
  | none => .next s
  | some i =>
    if i.due ≤ s.cycle then
      let r0 := s.cond.c0.state.runs
      let r1 := s.cond.c1.state.runs
      let z := !i.got0 && (!late0 || !r0)
      let o := !i.got1 && (!late1 || !r1)
      let c := if z && r0 then s.cond.consume false iseq else s.cond
      let c := if o && r1 then c.consume true iseq else c
      .next { s with cond := { c.took iseq z o with counts := { c.counts with delivered := c.counts.delivered + 1 } } }
    else .next s

/-- LATE_INPUT_COPY (R380): a late copy is consumed on arrival and sets INPUT_LATE. -/
def execLateInputCopy (iseq : BitVec 64) (c : Bool) (s : State) : Res :=
  match s.cond.inputs.find? (fun i => i.iseq == iseq) with
  | none => .next s
  | some i =>
    if i.due ≤ s.cycle ∧ (if c then !i.got1 else !i.got0) = true then
      if !(s.cond.of c).state.runs then .next { s with cond := s.cond.took iseq (!c) c } else
      let d := ((s.cond.consume c iseq).modOf c (fun k => { k with inputLate := true })).took iseq (!c) c
      .next { s with cond := { d with lateCount := satAdd d.lateCount 1 } }
    else .next s

/-! ### Failure of a conductor (R387, R388, R390 to R392) -/

/-- A conductor fails, and the umpire resets it at once (R392, R497); a second failure within 24 h locks it out. Stages no longer compare
(R395). -/
def State.markFailed (s : State) (one : Bool) : State :=
  let again := match (s.cond.of one).failedAt with | some t => decide (s.top.now < t + 86400000000000) | none => false
  let t := s.modConductor one (fun k =>
    { k with state := if again then .lockedOut else .failed, failedAt := some s.top.now, selfFault := false, bistFail := false, inputLate := false,
             resyncReady := false, consumed := [], issued := [], heartbeat := none })
  let t := { t with cond := { t.cond with comparing := false } }
  if again then t else t.raise 0x0031 pkgPlaza 0 [3, BitVec.ofNat 8 (condNo one), 2]

/-- Both conductors are lost: the package enters FAULTED and lets the running step run on (R391). -/
def State.bothLost (s : State) : State := (s.raise 0x7004 26 0 (leBytes 4 s.cond.interval)).toFaulted false

/-- The largest occupancy of a hold buffer. -/
def Cond.maxHeld (c : Cond) : Nat := maxOf (stageList.map (fun k => (c.stages.get k).held.length))

/-- The active fails: the umpire raises the standby's claim to the old active's claim plus 1 and writes it into every stage (R388); with
no standby both are lost (R391). -/
def State.activeFails (s : State) (cause : Nat) : State :=
  let old := s.cond.active
  if (s.cond.of (!old)).state = .standby then
    let claim := (s.cond.of old).claim + 1
    let c := s.cond.modOf (!old) (fun k => { k with claim := claim })
    { s with cond := { c with
        switching := some { decided := s.cycle, cause := cause, newActive := !old, held := c.maxHeld }, comparing := false,
        stages := stageList.foldl (fun (t : Tbl OutStage) k => t.mod k (fun x => { x with claimDue := true })) c.stages } }
  else (s.markFailed old).bothLost

/-- The standby fails, and no claim changes (R390); a failed self-test is raised too (R393). -/
def State.standbyFails (s : State) (one : Bool) : State :=
  let bist := (((s.cond.of one).heartbeat.map (fun h => h.getLsbD 9)).getD false)
  let t := (s.markFailed one).raise 0x7002 26 (condNo one) (leBytes 4 s.cond.interval)
  if bist then t.raise 0x7006 26 (condNo one) [BitVec.ofNat 8 s.cond.bistIndex] else t

/-- The umpire declares a conductor failed. -/
def State.declareFailed (s : State) (one : Bool) (cause : Nat) : State :=
  if one = s.cond.active then s.activeFails cause else s.standbyFails one

/-! ### Outputs, claims and hold buffers (R381 to R385, R395) -/

/-- OSEQ `a` is above `b`, across a wrap (R382). -/
def oseqAbove (a b : Word) : Bool := decide (1 ≤ (a - b).toNat) && decide ((a - b).toNat ≤ 2 ^ 31 - 1)

/-- Is an OSEQ above the last one that a stage accepted? -/
def OutStage.fresh (x : OutStage) (q : Word) : Bool := match x.last with | none => true | some l => oseqAbove q l

/-- The OSEQ that a stage accepts next: OSEQ starts at 0 and rises by 1 (R381, R382). -/
def OutStage.next (x : OutStage) : Word := match x.last with | none => 0 | some l => l + 1

/-- The conductor whose claim is higher at a stage. -/
def OutStage.leads (x : OutStage) (one : Bool) : Bool := if one then decide (x.claim0.toNat < x.claim1.toNat) else decide (x.claim1.toNat < x.claim0.toNat)

/-- A stage accepts an OSEQ: held outputs that are no longer above it are discarded (R382, R383). -/
def OutStage.accept (x : OutStage) (q : Word) : OutStage :=
  let y := { x with last := some q }
  let held := x.held.filter (fun h => y.fresh h.2.oseq)
  { y with held := held, lagged := x.lagged && decide (16 ≤ held.length) }

/-- An output enters a hold buffer (R383, R385): sixteen of them call for a LAG alarm, and a 65th entry is refused and ends in FAULTED. -/
def State.holdOutput (s : State) (one : Bool) (o : CondOut) : State :=
  let x := s.cond.stages.get o.stage
  if 64 ≤ x.held.length then (s.raise 0x7007 26 (condNo one) (leBytes 4 s.cond.interval ++ [BitVec.ofNat 8 o.stage])).bothLost
  else
    let n := x.held.length + 1
    let t := s.modStage o.stage (fun x => { x with held := x.held ++ [(one, o)], lagged := x.lagged || decide (16 ≤ n) })
    { t with cond := { t.cond with
        counts := { t.cond.counts with maxHeld := max t.cond.counts.maxHeld n },
        switching := t.cond.switching.map (fun w => { w with held := max w.held n }) } }

/-- An output in native mode: from the conductor with the higher claim it is accepted once and in turn, and one ahead of its turn waits in the
hold buffer (R381, R382, R389; DEDUCED, log 122); from the other one it is held or discarded (R383). -/
def State.nativeOutput (s : State) (one : Bool) (o : CondOut) : State :=
  let x := s.cond.stages.get o.stage
  if x.leads one then
    (if o.oseq = x.next then s.modStage o.stage (fun x => x.accept o.oseq) else if x.fresh o.oseq then s.holdOutput one o else s)
  else if x.fresh o.oseq then s.holdOutput one o
  else if x.oldActive = some one then { s with cond := { s.cond with stale := satAdd s.cond.stale 1 } }
  else s

/-- An output in comparison mode waits for the other copy; equal copies are accepted once, unequal ones are reported (R395). -/
def State.comparedOutput (s : State) (one : Bool) (o : CondOut) : State :=
  let x := s.cond.stages.get o.stage
  match x.held.find? (fun h => h.1 != one && h.2.oseq == o.oseq) with
  | none => if x.fresh o.oseq then s.holdOutput one o else s
  | some h =>
    if h.2.payload = o.payload then s.modStage o.stage (fun x => x.accept o.oseq)
    else
      let t := s.holdOutput one o
      { t with cond := { t.cond with mismatch := some (t.cond.mismatch.getD (o.stage, t.cond.interval)) } }

/-- OUTPUT_ARRIVAL (R381 to R383, R395): a running conductor's output reaches a stage; one that the old active of a switch-over had issued is
still held or discarded there. -/
def execOutputArrival (stage : Fin 40) (c : Bool) (oseq : BitVec 32) (payload : List (BitVec 8)) (s : State) : Res :=
  let o : CondOut := { stage := stage.val, oseq := oseq, payload := payload }
  if stageExists stage.val ∧ (s.cond.of c).state.runs then
    let t := s.modConductor c (fun k => { k with issued := k.issued ++ [o] })
    .next (if t.cond.comparing then t.comparedOutput c o else t.nativeOutput c o)
  else if stageExists stage.val ∧ (s.cond.stages.get stage.val).oldActive = some c then .next (s.nativeOutput c o)
  else .next s

/-- LAG_ALARM (R383, R387): the umpire declares the active failed at once. -/
def execLagAlarm (stage : Fin 40) (s : State) : Res :=
  if (s.cond.stages.get stage.val).lagged ∧ s.cond.switching.isNone ∧ !s.cond.umpireLost ∧ (s.cond.of s.cond.active).state = .active then
    .next (s.activeFails 4)
  else .next s

/-! ### Heartbeats (R386, R387) -/

/-- The digest of an interval (R386); the stage of an output counts as 8 bits (DESIGN CHOICE, log 30). -/
def Conductor.digest (k : Conductor) : Word64 :=
  crc64 (k.consumed.flatMap (fun i => natBitsMsb 64 i.toNat) ++
    k.issued.flatMap (fun o => natBitsMsb 8 o.stage ++ natBitsMsb 32 o.oseq.toNat ++ o.payload.flatMap byteBitsMsb))

/-- The heartbeat of an interval (R386). -/
def Conductor.beatWord (k : Conductor) (one : Bool) (m : Nat) (selfFault : Bool) (upset : Word64) : BitVec 192 :=
  BitVec.ofNat 192 ((k.digest ^^^ upset).toNat * 2 ^ 128 + m % 2 ^ 32 * 2 ^ 96 + k.issued.length % 2 ^ 32 * 2 ^ 64 +
    b2n k.resyncReady * 2 ^ 11 + b2n k.inputLate * 2 ^ 10 + b2n k.bistFail * 2 ^ 9 + b2n selfFault * 2 ^ 8 + b2n one)

/-- HEARTBEAT (R386): at the end of the interval a running conductor, or one in RESYNC, sends its heartbeat. What an error inside it changes of its digest is
`upset`. -/
def execHeartbeat (c : Bool) (selfFault : Bool) (upset : BitVec 64) (s : State) : Res :=
  let k := s.cond.of c
  let sent := 1000 * (s.cond.interval + 1)
  if (k.state.runs ∨ k.state = .resync) ∧ sent ≤ s.cycle ∧ k.heartbeat.isNone then
    let late := s.cycle - sent
    let n := s.cond.counts
    let t := s.modConductor c (fun k =>
      { k with heartbeat := some (k.beatWord c s.cond.interval selfFault upset), consumed := [], issued := [], selfFault := selfFault, inputLate := false,
               bistFail := false })
    .next { t with cond := { t.cond with
      counts := if c then { n with late1 := max n.late1 late } else { n with late0 := max n.late0 late } } }
  else .next s

/-- What the umpire has of one conductor for an interval: none where it gives no evidence (R387). -/
structure Evidence where
  /-- its heartbeat is missing -/
  missing : Bool := false
  /-- SELF_FAULT -/
  self : Bool := false
  /-- BIST_FAIL -/
  bist : Bool := false
  /-- INPUT_LATE -/
  late : Bool := false
  /-- DIGEST -/
  digest : Nat := 0
deriving DecidableEq, Repr, Inhabited

/-- Evidence of the conductor's own (R387). -/
def Evidence.own (e : Evidence) : Bool := e.missing || e.self || e.late
/-- The cause code of LAST_SWITCH for a conductor that fails on its own evidence (R398). -/
def Evidence.cause (e : Evidence) : Nat := if e.missing then 1 else if e.self then 2 else 3

/-- The evidence of a conductor; the old active of a switch-over in progress gives none. -/
def State.evidence (s : State) (one : Bool) : Option Evidence :=
  let k := s.cond.of one
  let leaving := match s.cond.switching with | some w => w.newActive != one | none => false
  if k.state.runs && !leaving then
    match k.heartbeat with
    | none => some { missing := true }
    | some h => some { self := h.getLsbD 8, bist := h.getLsbD 9, late := h.getLsbD 10, digest := h.toNat / 2 ^ 128 }
  else none

/-- The decision of R387 by its rows, top row first: both, one of them with its cause, or none. Within a row the evidence that is named first
counts first, then C0 (DESIGN CHOICE, log 123). -/
def umpireDecision (active : Bool) (e0 e1 : Option Evidence) : Option (Option (Bool × Nat)) :=
  match e0, e1 with
  | some a, some b =>
    if a.own && b.own then some none
    else if a.missing then some (some (false, 1))
    else if b.missing then some (some (true, 1))
    else if a.self then some (some (false, 2))
    else if b.self then some (some (true, 2))
    else if a.bist then some (some (false, a.cause))
    else if b.bist then some (some (true, b.cause))
    else if a.late then some (some (false, 3))
    else if b.late then some (some (true, 3))
    else if a.digest ≠ b.digest then some (some (!active, 0))
    else none
  | some a, none => if a.own || a.bist then some (some (false, a.cause)) else none
  | none, some b => if b.own || b.bist then some (some (true, b.cause)) else none
  | none, none => none

/-- Both conductors fail. -/
def State.bothFail (s : State) : State := ((s.markFailed false).markFailed true).bothLost

/-- A mismatch of comparison mode: the conductor with SELF_FAULT in its interval or the next has failed; with neither, the package enters
FAULTED (R395). None while the next interval is awaited. -/
def State.judgeMismatch (s : State) (e0 e1 : Option Evidence) : Option State :=
  match s.cond.mismatch with
  | none => none
  | some (stage, m) =>
    let t := { s with cond := { s.cond with mismatch := none } }
    match (e0.map Evidence.self).getD false, (e1.map Evidence.self).getD false with
    | true, false => some (t.declareFailed false 5)
    | false, true => some (t.declareFailed true 5)
    | true, true => some t.bothFail
    | false, false =>
      if m < s.cond.interval then some ((t.raise 0x7008 26 0 (leBytes 4 s.cond.interval ++ [BitVec.ofNat 8 stage])).bothFail) else none

/-- The umpire's decision takes effect (R387 to R391). -/
def State.umpireActs (s : State) (e0 e1 : Option Evidence) : State :=
  match s.judgeMismatch e0 e1 with
  | some t => t
  | none => match umpireDecision s.cond.active e0 e1 with
    | none => s
    | some none => s.bothFail
    | some (some (one, 0)) => (s.raise 0x7003 26 (condNo one) (leBytes 4 s.cond.interval)).declareFailed one 0
    | some (some (one, cause)) => s.declareFailed one cause

/-- The next interval begins for the umpire. -/
def Cond.nextInterval (c : Cond) : Cond :=
  { c with interval := c.interval + 1, c0 := { c.c0 with heartbeat := none }, c1 := { c.c1 with heartbeat := none } }

/-- HEARTBEAT_CHECK (R387): 100 cycles after the end of the interval the umpire decides; with the umpire lost nothing switches (R390). -/
def execHeartbeatCheck (s : State) : Res :=
  if 1000 * (s.cond.interval + 1) + 100 ≤ s.cycle then
    let e0 := s.evidence false
    let e1 := s.evidence true
    let t := if s.cond.umpireLost then s else s.umpireActs e0 e1
    let both := (s.cond.c0.state.runs && s.cond.c0.heartbeat.isSome && s.cond.c1.state.runs && s.cond.c1.heartbeat.isSome)
    .next { t with cond := { t.cond.nextInterval with counts := { t.cond.counts with compared := t.cond.counts.compared + b2n both } } }
  else .next s

/-! ### Switch-over (R388, R389) -/

/-- CLAIM_WRITE (R388, R389): the raised claim takes force at a stage. -/
def execClaimWrite (stage : Fin 40) (s : State) : Res :=
  match s.cond.switching with
  | none => .next s
  | some w =>
    if (s.cond.stages.get stage.val).claimDue then
      .next (s.modStage stage.val (fun x =>
        { x with claim0 := s.cond.c0.claim, claim1 := s.cond.c1.claim, claimDue := false, oldActive := some (!w.newActive) }))
    else .next s

/-- The held output that a stage releases next: of the conductor that leads there, the one whose turn it is (R389). -/
def OutStage.nextHeld (x : OutStage) : Option CondOut :=
  (x.held.find? (fun h => x.leads h.1 && h.2.oseq == x.next)).map (fun h => h.2)

/-- HELD_RELEASE (R389): the stage accepts its next held output. -/
def execHeldRelease (stage : Fin 40) (s : State) : Res :=
  let x := s.cond.stages.get stage.val
  match x.nextHeld with
  | some o => .next (if s.cond.comparing then s else s.modStage stage.val (fun x => x.accept o.oseq))
  | none => .next s

/-- LAST_SWITCH (R398). -/
def lastSwitchWord (w : SwitchOver) (gap : Nat) : Word :=
  BitVec.ofNat 32 (w.cause * 2 ^ 28 + b2n w.newActive * 2 ^ 27 + gap % 2 ^ 11 * 2 ^ 16 + w.held % 2 ^ 7)

/-- At a boundary that waited for a switch-over the claims are renumbered after it (R22, R384). -/
def State.renumberDue (s : State) : State := if s.seq.boundaryDue then s.renumberClaims else s

/-- SWITCHOVER_COMPLETE (R388): the last stage has acknowledged. A boundary and a forced recess that waited for it go on (R22). -/
def execSwitchoverComplete (s : State) : Res :=
  match s.cond.switching with
  | none => .next s
  | some w =>
    if stageList.all (fun k => !(s.cond.stages.get k).claimDue) then
      let t := (s.markFailed (!w.newActive)).modConductor w.newActive (fun k => { k with state := .active })
      .next (({ t with cond := { t.cond with
        active := w.newActive, switching := none, switches := satAdd t.cond.switches 1,
        lastSwitch := lastSwitchWord w (s.cycle - w.decided) } }.raise 0x7001 26 (condNo w.newActive)
          (leBytes 4 s.cond.interval ++ [BitVec.ofNat 8 w.cause])).renumberDue.testsOver.forceWaiting)
    else .next s

/-! ### Ticks (R390) -/

/-- UMPIRE_TICK (R390): the umpire's tick reaches the conductors; after a loss the return is raised. -/
def execUmpireTick (s : State) : Res :=
  let t := { s with cond := { s.cond with lastTick := s.top.now, umpireLost := false } }
  .next (if s.cond.umpireLost then t.raise 0x700C 26 0 (leBytes 4 s.cond.interval) else t)

/-- TICK_TIMEOUT (R390): no tick for 100 µs. -/
def execTickTimeout (s : State) : Res :=
  .next (if s.cond.lastTick + 100000 ≤ s.top.now then { s with cond := { s.cond with umpireLost := true } } else s)

/-! ### Return as standby (R392), tests (R393), reports (R394), MODE (R398) -/

/-- RESYNC_READY (R392): a failed conductor has been reset and has passed its self-test. -/
def execResyncReady (c : Bool) (s : State) : Res :=
  .next (if (s.cond.of c).state = .failed then s.modConductor c (fun k => { k with state := .resync, resyncReady := true }) else s)

/-- May a snapshot be transferred: at a step boundary, after a commit and before the next start, or outside RUNNING (R392)? -/
def State.mayResync (s : State) : Bool :=
  s.top.state != .running || s.seq.phase == .barrier || s.seq.phase == .recess || (s.seq.phase == .start && s.seq.exe.first)

/-- The conductor that waits for its snapshot. -/
def Cond.returning (c : Cond) : Option Bool :=
  if c.c0.state = .resync ∧ c.c0.resyncReady then some false else if c.c1.state = .resync ∧ c.c1.resyncReady then some true else none

/-- A conductor takes the snapshot of its partner: it has consumed and issued what the partner has, and its heartbeat is the partner's without
its flags (R386, R392; DEDUCED, log 124). -/
def Conductor.snapshot (k p : Conductor) (one : Bool) : Conductor :=
  { k with
    state := .standby, resyncReady := false, consumed := p.consumed, issued := p.issued,
    heartbeat := p.heartbeat.map (fun h => BitVec.ofNat 192 (h.toNat / 2 ^ 64 * 2 ^ 64 + b2n one)) }

/-- The old active of an earlier switch-over is no more told apart once it returns (R383). -/
def Cond.forgetOld (c : Cond) (one : Bool) : Cond :=
  { c with stages := stageList.foldl (fun (t : Tbl OutStage) k => t.mod k (fun x => if x.oldActive = some one then { x with oldActive := none } else x)) c.stages }

/-- RESYNC_SNAPSHOT_DONE (R392, R395): the snapshot is transferred at a step boundary; the conductor is STANDBY, and comparison goes on. -/
def execResyncSnapshotDone (us : Nat) (s : State) : Res :=
  match s.cond.returning with
  | none => .next s
  | some one =>
    if s.mayResync then
      let t := s.modConductor one (fun k => k.snapshot (s.cond.of (!one)) one)
      let t := { t with cond := t.cond.forgetOld one }
      let t := { t with cond := { t.cond.resume with resyncUs := satAdd t.cond.resyncUs (if s.top.state == PkgState.running then us else 0) } }
      .next (t.raise 0x7005 26 (condNo one) (leBytes 4 s.cond.interval))
    else .next s

/-- The conductor that is standby. -/
def Cond.standby (c : Cond) : Option Bool :=
  if c.c0.state = .standby then some false else if c.c1.state = .standby then some true else none

/-- STANDBY_BIST (R393): the next test of the rotation. -/
def execStandbyBist (passed : Bool) (s : State) : Res :=
  match s.cond.standby with
  | none => .next s
  | some one =>
    let k := s.cond.bistNext
    let bit : BitVec 8 := BitVec.ofNat 8 (2 ^ k)
    let t := if passed then s else s.modConductor one (fun c => { c with bistFail := true })
    .next { t with cond := { t.cond with
      bistIndex := k, bistNext := (k + 1) % 8, bistFails := if passed then t.cond.bistFails &&& ~~~bit else t.cond.bistFails ||| bit,
      counts := { t.cond.counts with tests := t.cond.counts.tests + b2n passed } } }

/-- Two 16-bit halves of a health word, saturating. -/
def healthPair (hi lo : Nat) : Word := BitVec.ofNat 32 (min hi 0xFFFF * 2 ^ 16 + min lo 0xFFFF)

/-- HEALTH_REPORT (R394): the report of the last second. -/
def execHealthReport (corrected0 corrected1 : BitVec 16) (s : State) : Res :=
  let n := s.cond.counts
  let words : List Word := [BitVec.ofNat 32 n.compared, healthPair corrected0.toNat corrected1.toNat, healthPair n.late0 n.late1,
    BitVec.ofNat 32 n.tests, BitVec.ofNat 32 n.maxHeld, BitVec.ofNat 32 n.delivered, s.cond.health.get 6 + 1, 0]
  .next { s with cond := { s.cond with health := Tbl.setRun s.cond.health 0 words, counts := {} } }

/-- COND.MODE takes a value: only in IDLE (R398). -/
def State.setMode (s : State) (v : Word) : State :=
  if s.top.state = .idle then { s with cond := { s.cond with mode := v &&& 1 }.resume } else s

end Sys2Proof.Machine
end

