-- ==== Sys2Proof/Machine/Sweep.lean ====
section
/-! DEFINITION. The sweep: its start, what its phases destroy and zero, and its end (R22, R372, R462 to R465). -/
namespace Sys2Proof.Machine

/-! ### The start (R22, R372, R462) -/

/-- A crossfade that has begun goes back to its start, and its demand waits for the end of the sweep; a recalibration waits again (R464). -/
def State.returnWork (s : State) : State :=
  { s with
    lamp := { s.lamp with lamps := s.lamp.lamps.mapAll (fun k x =>
      if x.state == .crossfading then
        (if k % 4 = 3 then { x with state := .spareReady, feed := none } else { x with state := .active, step := 0 })
      else x) },
    blv := { s.blv with lanes := s.blv.lanes.mapAll (fun _ l => if l.running then { l with running := false, pending := true } else l) },
    seq := { s.seq with grant := none, work := {}, flitWait := false } }

/-- A running execution ends at its bundle boundaries, uncommitted, and a commit stops where it stands (R372). -/
def State.endRun (s : State) : State :=
  let t := s.stopShallots
  let t := t.modShs (fun h => h.recess.isSome) (fun h =>
    { h with recess := none, recessUs := satAdd h.recessUs ((s.top.now - h.recessAt) / 1000) })
  { t with
    host := { t.host with windows := t.host.windows.mapAll (fun _ w => { w with moving := false }) },
    blv := { t.blv with mapRunning := false },
    seq := { t.seq with phase := .idle, stopAt := none, replay := false, startAt := none, ready := [], ownReady := none, recoveries := 0,
                        exe := {}, once := {}, boundaryDue := false, forceDue := false, heldActs := [], leave := false } }

/-- Shallots run at code 40 and 0.70 V during the sweep, but those that are FENCED; the forecast pins announce 240 W (R462, R463). -/
def State.sweepClocks (s : State) : State :=
  shallotNums.foldl (fun (t : State) n =>
    if (s.shal n).fenced then t
    else (t.modSh n (fun h => { h with powered := true, clk := { h.clk with code := 40, setPoint := 700, stopNs := 0, demands := [] } })).emit
      (.lfp n (forecastFrame 960))) s

/-- The sweep begins (R462); what follows it is given. The links stay up until it ends (R313). -/
def State.beginSweep (s : State) (after : AfterSweep) : State :=
  let t := s.endRun.returnWork.dropImage.sweepClocks
  { t with net := { t.net with sweepDown := s.modeChanges s.img.image none }, top := { t.top with state := .sweeping, sweepPhase := 1, sweepBad := false, after := after } }

/-- SWEEP as a command of any path (R369, R372). -/
def State.cmdSweep (s : State) (c : RunningCmd) : State :=
  s.command c { accept := 0x38, bad := !argsZeroFrom c.args 0 } (fun s => s.beginSweep .idle)

/-- SWEEP (R364, R369, R372, R462). -/
def execSweep (a : List (BitVec 32)) (s : State) : Res := .next (s.hostCommand 0x04 a State.cmdSweep)

/-! ### 2 to 150 ms: zeroing (R462) -/

/-- A shallot zeroed: pods with every store and table, and tallies. -/
def Shallot.zeroStores (h : Shallot) : Shallot := { h with pods := h.pods.mapAll (fun _ p => p.unplace), tallies := {} }

/-- A gateway zeroed: tallies, stamp buffer, reply store, request slots and combining buffer. -/
def Gateway.zeroStores (g : Gateway) : Gateway :=
  { g with tallies := {}, slots := [], queue := [], stamped := [], replies := [], refusals := [], heldFlags := [], combining := [] }

/-- Every store of R462 is zero. -/
def State.zeroStores (s : State) : State :=
  let t := s.eachShallot (fun _ h => h.zeroStores)
  { t with
    net := { t.net with gw := t.net.gw.mapAll (fun _ g => g.zeroStores), schedOut := [], schedIn := [], calls := [], callRefusals := [], lastCall := {} },
    mem := t.mem.mapAll (fun _ m => { m with combine := [], undo := [] }),
    cond := { t.cond with stages := t.cond.stages.mapAll (fun _ x => { x with held := [] }) },
    host := { t.host with windows := {} },
    img := { t.img with half0 := {}, half1 := {} },
    seq := { t.seq with observers := {}, seed := 0, tallySave := [], ring := [], replayLeft := [], stalled := [], stallSince := none,
                        heldActs := [], ran := false, ranLoad := false, startTimed := false } }

/-! ### The end (R462, R465) -/

/-- A fresh staging key, while the generator is sound (R444, R445). -/
def State.stagingKey (s : State) : State :=
  if s.sec.trngFailed then s else { s with sec := { s.sec with staging := some s.sec.draws, draws := s.sec.draws + 1 } }

/-- The shallots lose their power again, and the forecast pins announce 0 W (R18, R463). -/
def State.sweepClocksEnd (s : State) : State :=
  let t := shallotNums.foldl (fun (t : State) n => if (s.shal n).fenced then t else t.emit (.lfp n (forecastFrame 0))) s
  (t.eachShallot (fun _ h => { h with powered := false })).startClocks

/-- At 250 ms: IDLE, or FAULTED where the read-back found a word that is not zero (R462, R465). The command ends where the sweep is all
that was asked for. -/
def State.sweepOver (s : State) : State :=
  let t := s.stagingKey.sweepClocksEnd
  if s.top.sweepBad then
    let t := { t with sec := { t.sec with sweepFail := true } }.raise 0xB002 pkgPlaza 0 []
    t.toFaulted false
  else
    let t := t.portsDown t.net.sweepDown
    let t := { t with
      net := { t.net with sweepDown := [] },
      top := { t.top with state := .idle, sweepPhase := 0 },
      sec := { t.sec with sweeps := satAdd t.sec.sweeps 1, sweepFail := false } }.raise 0xB001 pkgPlaza 0 []
    t.grantIdle

end Sys2Proof.Machine
end

