-- ==== Sys2Proof/Machine/Reset.lean ====
section
/-! DEFINITION. What a package reset keeps, power of the always-on rails, the phases of bring-up, PARK and UNPARK (R426, R435, R488 to
R495). -/
namespace Sys2Proof.Machine

/-! ### What a reset keeps (R493, R495, R497) -/

/-- Has a tripped shallot cooled: 1 s has passed, and T reads below 85 °C (R436)? -/
def ShPower.cooled (p : ShPower) (now : Nat) : Bool := decide (p.tripAt + 1000000000 ≤ now) && decide (p.temp < 85 * 128)

/-- What a shallot keeps over its reset: fuses, over a reset of the shallot alone the mark of a pod that R123 retired, repair log, the level of its VR_LIMIT pin and, where it has not cooled, its trip; the
frequency target over a reset that keeps RWS registers. -/
def Shallot.kept (h : Shallot) (now : Nat) (rws : Bool) : Shallot :=
  let hot := h.pwr.tripped && !h.pwr.cooled now
  { pods := h.pods.mapAll (fun _ p => { fused := p.fused, rowPath := if rws && p.rowPath == 2 then 2 else 0 }), bonds := h.bonds.mapAll (fun _ g => { fused := g.fused, logged := g.logged }),
    fenced := hot, clk := if rws then { target := h.clk.target } else {},
    pwr := { vrLimit := h.pwr.vrLimit, vrSince := now, tripped := hot, tripAt := if hot then h.pwr.tripAt else 0, temp := if hot then h.pwr.temp else 0 } }

/-- What the Boulevard keeps: fuse maps of its units, and the trim values of the last committed calibration (R264, R269, R495). -/
def Boulevard.kept (b : Boulevard) : Boulevard :=
  { ends := b.ends.mapAll (fun _ e => { fused := e.fused }),
    lanes := b.lanes.mapAll (fun _ l =>
      { codes := l.codes, gain := l.gain, matrix := l.matrix, calNumber := l.calNumber, bias := l.bias, offsets := l.offsets, tcal := l.tcal,
        hcal := l.hcal, thermoGain := l.thermoGain }) }

/-- A lamp whose power went: P0 and I0 as stored; what had begun starts again. -/
def Lamp.kept (l : Lamp) (k : Nat) : Lamp :=
  let st : LampState := match l.state with
    | .spareWarming | .spareReady => .spareCold
    | .crossfading => if k % 4 = 3 then .spareCold else .active
    | x => x
  { state := st, feed := if st == .spareCold then none else l.feed, p0 := l.storedP0, storedP0 := l.storedP0, i0 := l.storedI0, storedI0 := l.storedI0 }

/-- The lamps kept. -/
def Lamps.kept (l : Lamps) : Lamps := { lamps := (upto 32).foldl (fun (t : Tbl Lamp) k => t.mod k (fun x => x.kept k)) l.lamps }

/-- What security keeps in non-volatile memory; the numbers of the generator's draws go on. -/
def Sec.kept (c : Sec) : Sec :=
  { lifecycle := c.lifecycle, rot := c.rot, policy := c.policy, owners := c.owners, fwSigners := c.fwSigners, changes := c.changes,
    xmssNext := c.xmssNext, xmssBlock := c.xmssBlock, draws := c.draws, identity := c.identity, identityGen := c.identityGen, minSvn := c.minSvn }

/-- What Mews keeps: BOOT with its sequence numbers, the credentials, the firmware store and the running firmware's digest. -/
def Mews.kept (m : Mews) : Mews :=
  { boot := m.boot, creds := m.creds, seqs := m.seqs, signedSeq := m.signedSeq, rgmii := m.rgmii, fwStore := m.fwStore,
    fwWhole := m.fwWhole && m.fwLeft == 0, fwDigest := m.fwDigest }

/-- Everything that a package reset loses is lost; the state is BRINGUP with no phase running, and no command runs (R493, R495). -/
def State.loseAll (s : State) : State :=
  { top := { identity := s.top.identity, now := s.top.now, phase := 0, pkgRst := s.top.pkgRst, aon := s.top.aon },
    host := { perstHigh := s.host.perstHigh },
    ev := { ring := s.ev.ring, head := s.ev.head, mewsTail := s.ev.mewsTail, mewsLost := s.ev.mewsLost },
    sh := (upto 8).foldl (fun (t : Tbl Shallot) n => t.set n ((s.shal n).kept s.top.now false)) {},
    blv := s.blv.kept, lamp := s.lamp.kept, sec := s.sec.kept, mews := s.mews.kept,
    out := s.out, free := s.free, pending := s.pending }

/-- A pending two-party change lapses (R471). -/
def State.lapse (s : State) : State :=
  match s.sec.pending with
  | none => s
  | some p => { s with sec := { s.sec with pending := none } }.raise 0xB008 pkgPlaza 0 (leBytes 2 p.kind)

/-- A package reset up to the start of the boot: running writes complete, a pending change lapses, the host link goes down with its event
(R378), and the rest is lost. -/
def State.packageReset (s : State) : State :=
  let t := (((s.top.nv.foldl State.nvLands { s with top := { s.top with nv := [] } }).lapse)).linkDown
  { t.loseAll with host := { t.loseAll.host with linkLost := t.host.linkLost } }

/-- Phase 1 begins, and the reset is recorded with its source: 0 pin, 1 Mews, 2 umpire, 3 power-on (R489, R497). -/
def State.boot (s : State) (source : Nat) : State :=
  { s with top := { s.top with phase := 1 } }.raise 0x0031 pkgPlaza 0 [0, 0, BitVec.ofNat 8 source]

/-- PKG_RST_ASSERT (R494): the pin has been low for 1 µs. -/
def execPkgRstAssert (s : State) : Res :=
  if s.top.aon && !s.top.pkgRst then
    let t := s.packageReset
    .next { t with top := { t.top with pkgRst := true } }
  else .next s

/-- PKG_RST_RELEASE (R494). -/
def execPkgRstRelease (s : State) : Res :=
  if s.top.aon && s.top.pkgRst then .next (State.boot { s with top := { s.top with pkgRst := false } } 0) else .next s

/-! ### The always-on rails (R426, R479, R485, R488, R489) -/

/-- The management die stops (R426): the package is OFF, what only power holds is lost, and running writes are cut. The ring, the time and BOOT
stay where only VDD_IO went. -/
def State.aonLost (s : State) (io : Bool) : State :=
  let t := s.loseAll
  { t with
    top := { t.top with state := .off, aon := false, ioOnly := io },
    ev := if io then t.ev else {},
    sec := { t.sec with xmssNext := t.sec.xmssBlock },
    mews := if io then t.mews else { t.mews with seqs := {}, signedSeq := none } }

/-- VDD_AON_LOSS (R426, R488): VDD_AON, or only VDD_IO, leaves its tolerance. -/
def execVddAonLoss (io : Bool) (s : State) : Res :=
  .next (if s.top.aon then s.aonLost io
    else if s.top.ioOnly && !io then { s with ev := {}, top := { s.top with ioOnly := false }, mews := { s.mews with seqs := {}, signedSeq := none } } else s)

/-- VDD_AON_UP (R479, R485, R489): power-up starts in OFF; where VDD_AON had gone, the time starts at 0 and BOOT is drawn. -/
def execVddAonUp (s : State) : Res :=
  if s.top.aon then .next s
  else
    let t := { s with top := { s.top with aon := true, ioOnly := false, now := if s.top.ioOnly then s.top.now else 0 } }
    let t := if s.top.ioOnly then t
      else { t with mews := { t.mews with boot := t.sec.draws }, sec := { t.sec with draws := t.sec.draws + 1 } }
    .next (t.boot 3)

/-! ### Firmware (R498) -/

/-- The first `n` bytes of a firmware image from an offset. -/
def fwBytes (t : Tbl Byte) (off n : Nat) : List Byte := t.getRun off n
/-- LENGTH of a firmware image. -/
def fwLength (t : Tbl Byte) : Nat := leVal (fwBytes t 0x10 8)

/-- Is a firmware image valid (R498)? SIG is an XMSS signature of 2,820 bytes, zero-padded. -/
def State.fwValid (s : State) (t : Tbl Byte) : Bool :=
  let signer := leVal (fwBytes t 0x18 1)
  let key := if s.sec.lifecycle = 2 then s.sec.fwSigners.get signer else Sys2Proof.Config.makerKey signer
  let digest := fwBytes t 0x20 32
  fwBytes t 0 8 == [0x4D, 0x4C, 0x44, 0x46, 0x57, 0x30, 0x30, 0x31] && decide (fwLength t ≤ 2 ^ 26 - 2 ^ 14) && decide (signer < 4) &&
  (fwBytes t 0x19 7).all (fun b => b == 0) && decide (s.sec.minSvn ≤ leVal (fwBytes t 0xC 4)) && (fwBytes t (0x40 + 2820) (16320 - 2820)).all (fun b => b == 0) &&
  shake256 32 (fwBytes t 0 0x20 ++ fwBytes t 0x4000 (fwLength t)) == digest &&
  signatureOk key (BitVec.ofNat 256 (leVal digest)) (fwBytes t 0x40 2820)

/-- Does the boot ROM find the stored firmware valid? A store that nothing has written holds the firmware of manufacture. -/
def State.storeValid (s : State) : Bool := s.mews.fwWhole && (s.mews.fwStore.cells.isEmpty || s.fwValid s.mews.fwStore)

/-- Phase 1 ends (R479, R488, R489): the firmware runs and the package is BRINGUP, or recovery is entered. -/
def State.firmwareEnd (s : State) : State :=
  if s.storeValid then
    let m := s.mews
    { s with
      top := { s.top with state := .bringup, phase := 2, phase3 := false, phase4 := false },
      mews := { m with recovery := false, fwDigest := if m.fwStore.cells.isEmpty then m.fwDigest else BitVec.ofNat 256 (leVal (fwBytes m.fwStore 0x20 32)) } }
  else
    ({ s with top := { s.top with state := .off, phase := 0 }, mews := { s.mews with recovery := true } }.raise 0xC003 26 0 []).endCmd .ok []

/-! ### Phases 2 to 9 (R384, R444, R489, R492) -/

/-- Training units of the package: interface units, row paths and private channels (R400). -/
def allUnits : Nat := ((upto 27).map (fun p => unitCount false p + unitCount true p)).foldl (· + ·) 0 + 8192

/-- Every die but the management die draws a transport key (R444). -/
def State.transportKeys (s : State) : State :=
  { s with sec := { s.sec with
      transport := (upto 26).foldl (fun (t : Tbl (Option Nat)) p => t.set p (some (s.sec.draws + p))) s.sec.transport, draws := s.sec.draws + 26 } }

/-- Claims and states of the conductors after their self-test (R384). -/
def Cond.claims (c : Cond) (ok0 ok1 : Bool) : Cond :=
  let a : Half := if ok0 then 2 else 1
  let b : Half := if ok0 then 1 else 2
  { c with
    active := !ok0, c0 := { c.c0 with state := if ok0 then .active else .failed, claim := a },
    c1 := { c.c1 with state := if !ok1 then .failed else if ok0 then .standby else .active, claim := b },
    stages := stageList.foldl (fun (t : Tbl OutStage) k => t.mod k (fun x => { x with claim0 := a, claim1 := b })) c.stages }

/-- Phases 3 and 4 have both ended: full calibration starts (R265, R489). -/
def State.startCalibration (s : State) : State :=
  if s.top.phase3 && s.top.phase4 then { s with top := { s.top with phase := 5 } }.beginCal else s

/-- Phase 3 ends. -/
def State.joinsEnd (s : State) (c0 c1 : Bool) (fallback down : List BondUnit) : State :=
  let t := s.transportKeys
  let t := { t with
    blv := { t.blv with trained := true, trainCount := satAdd t.blv.trainCount allUnits }, cond := t.cond.claims c0 c1,
    top := { t.top with timeBase := s.top.now, phase3 := true } }
  let t := t.eachShallot (fun _ h => { h with bondsUp := true })
  let t := down.foldl State.unitDown (fallback.foldl State.unitFallback t)
  if !c0 && !c1 then State.bothLost { t with top := { t.top with phase := 0 } } else t.startCalibration

/-- Each staging half takes 512 MiB from every stack in service (R192, R274). -/
def State.sizeStaging (s : State) : State :=
  { s with img := { s.img with stagingMiB := 512 * ((upto 16).filter (fun h => !(s.mem.get h).down)).length } }

/-- Phase 6 ends: stacks valid or down, staging halves, a staging key, empty key slots (R191, R274, R444). -/
def State.stacksEnd (s : State) (down : List StackDown) : State :=
  let t := (upto 16).foldl (fun (t : State) h => t.modMem h (fun m =>
    match down.find? (fun d => d.stack.val == h) with
    | some d => { m with valid := false, down := true, pcUp := d.pcUp.toNat }
    | none => { m with valid := true, down := false, pcUp := 64 })) s
  let t := down.foldl (fun (t : State) d => t.raise 0x4007 (8 + d.stack.val) 0 [BitVec.ofNat 8 d.pcUp.toNat]) t
  let t := t.sizeStaging
  { t with top := { t.top with phase := 7 } }.stagingKey

/-- One failure of the self-test (R492); the ROM test also raises EV_ARITH_ROM_CHECK (R140); a placed shallot that it fences is raised
(R190). -/
def State.bistFail (s : State) (f : BistFail) : State :=
  let n := f.sh.val
  let t := if f.test.val ≤ 1 then s.raise 0x1030 n 0 [] else s
  let t := t.raise 0x0032 n f.pod.val [BitVec.ofNat 8 f.test.val]
  if f.test.val ≤ 1 then t.fence n
  else t.modSh n (fun h => { h with bistRetired := if h.bistRetired.contains f.pod.val then h.bistRetired else h.bistRetired ++ [f.pod.val] })

/-- The self-test of some shallots is over: failures, then the limit of 128 retired pods (R492). -/
def State.bistEnd (s : State) (shallots : List Nat) (fails : List BistFail) : State :=
  let t := (fails.filter (fun f => shallots.contains f.sh.val && !(s.shal f.sh.val).fenced)).foldl State.bistFail s
  shallots.foldl (fun (t : State) n =>
    if 128 < ((upto 512).filter (fun p => (s.pod n p).fused || (t.shal n).bistRetired.contains p)).length then t.fence n
    else t) t

/-- CAL_RESULT (R271). -/
def Lamps.calWord (l : Lamps) : Nat := b2n l.packagePass * 2 ^ 31 + b2n l.calDone * 2 ^ 30 + l.plazaPass.toNat

/-- The package reaches IDLE (R489): UNPARK or RESET ends. -/
def State.reachIdle (s : State) : State :=
  let down := packN 1 (fun h => b2n (s.mem.get h).down) 16
  let fenced := packN 1 (fun n => b2n (s.shal n).fenced) 8
  let t := { s with top := { s.top with state := .idle, phase := 0, unparking := false } }
  let t := t.raise 0x0030 pkgPlaza 0 (leBytes 4 s.lamp.calWord ++ leBytes 2 down ++ leBytes 1 fenced)
  let t := match t.host.running with
    | some c => if c.opcode = 6 ∨ c.mewsOp = 0x32 then t.endCmd .ok [] else t
    | none => t
  t.grantIdle

/-- Has a lamp begun a crossfade that is not over, or does one wait that could run (R258)? -/
def State.crossfadesDue (s : State) : Bool := s.lamp.lamps.cells.any (fun c => c.2.state == .crossfading) || !s.waitingLamps.isEmpty

/-- BRINGUP_PHASE_END (R489): the phase that runs ends, and the next one starts. -/
def execBringupPhaseEnd (p : PhaseEnd) (s : State) : Res :=
  let go := fun (n : Nat) => { s with top := { s.top with phase := n } }
  match p, s.top.phase with
  | .firmware, 1 => .next s.firmwareEnd
  | .rails, 2 => .next (go 3)
  | .joins c0 c1 fallback down, 3 => .next (if s.top.phase3 then s else s.joinsEnd c0 c1 fallback down)
  | .lamps, 3 => .next (if s.crossfadesDue then s else State.startCalibration { s with top := { s.top with phase4 := true } })
  | .calibration, 5 => .next (if s.lamp.calPhase = 0 then go 6 else s)
  | .trainStacks down, 6 => .next (s.stacksEnd down)
  | .ports, 7 => .next (go 8)
  | .selfTest fails, 8 => .next (s.bistEnd (upto 8) fails).reachIdle
  | _, _ => .next s

/-! ### PARK and UNPARK (R369, R491) -/

/-- A lamp over a loss of the main rails: it keeps what only a package reset restores, its levels and its P0 among it (R254, R261); a
crossfade that had begun waits again, and a spare warms again (DESIGN CHOICE, log 117). -/
def Lamp.parked (l : Lamp) (k now : Nat) : Lamp :=
  let begun := l.state == .crossfading
  let st : LampState := match l.state with
    | .spareReady => .spareWarming
    | .crossfading => if k % 4 = 3 then .spareWarming else .active
    | x => x
  { l with state := st, feed := if k % 4 = 3 ∧ begun then none else l.feed, tries := 0, bySpare := none, step := 0, ps := 0,
           demandAt := if begun ∧ k % 4 ≠ 3 then some (l.demandAt.getD now) else l.demandAt }

/-- What lamp control keeps over a loss of the main rails: the lamps, the counts since the package reset and the selects
(R8, R254, R261, R271). -/
def Lamps.parked (l : Lamps) (now : Nat) : Lamps :=
  { lamps := (upto 32).foldl (fun (t : Tbl Lamp) k => t.mod k (fun x => x.parked k now)) l.lamps, sel := l.sel, crossfades := l.crossfades,
    forced := l.forced, calDone := l.calDone, groupSel := l.groupSel, calFails := l.calFails }

/-- The main rails go: the dies other than the management die lose what they hold (R490, R491), but for what only a package reset
restores: COND.MODE, and the counts since package reset of LAMP and MEM (R8, R271, R289). -/
def State.railsOff (s : State) : State :=
  { s with
    host := { perstHigh := s.host.perstHigh, running := s.host.running }, seq := {}, mem := s.mem.mapAll (fun _ m => { scrubPasses := m.scrubPasses }), hbm := [], tags := {}, net := {},
    cond := { mode := s.cond.mode },
    sh := (upto 8).foldl (fun (t : Tbl Shallot) n => t.set n ((s.shal n).kept s.top.now true)) {}, blv := s.blv.kept,
    lamp := s.lamp.parked s.top.now,
    sec := { s.sec with transport := {}, staging := none, unwrapFails := {} },
    img := { s.img with stagingMiB := 0, half0 := {}, half1 := {} } }

/-- PARK as a command of any path: it ends before the link goes down (R369). -/
def State.cmdPark (s : State) (c : RunningCmd) : State :=
  s.command c { accept := 0x08, bad := !argsZeroFrom c.args 0 } (fun s =>
    let t := s.endCmd .ok []
    { t with top := { t.top with parking := true } })

/-- PARK (R364, R369, R491). -/
def execPark (a : List (BitVec 32)) (s : State) : Res := .next (s.hostCommand 0x05 a State.cmdPark)

/-- PARK_COMPLETE (R315, R491): the sub-ports go down, the phases are taken back, and the package is PARKED. It waits until the package is IDLE
and no command runs that was accepted after PARK (DESIGN CHOICE, log 121). -/
def execParkComplete (s : State) : Res :=
  if s.top.parking && s.top.state == .idle && s.host.running.isNone then
    let t := (s.portsDown (upto 128)).railsOff
    .next { t with top := { t.top with state := .parked, parking := false, phase := 0 } }
  else .next s

/-- UNPARK as a command (R369, R491). -/
def State.cmdUnpark (s : State) (c : RunningCmd) : State :=
  s.command c { accept := 0x02, bad := !argsZeroFrom c.args 0 } State.unparkBegin

/-! ### The trip of the management die (R435) -/

/-- The management die destroys its keys and secrets, and the package is PARKED with the losses of a package reset (R435, R497). -/
def State.dieTrip (s : State) : State :=
  let t := (s.abortCmd).packageReset
  { t with top := { t.top with state := .parked, phase := 0 }, mews := { t.mews with creds := {} } }.raise 0xA003 26 0 (leBytes 2 s.pp.mgmtTemp.toNat)

end Sys2Proof.Machine
end

