-- ==== Sys2Proof/Machine/ResetCmd.lean ====
section
/-! DEFINITION. RESET over Mews: package, plaza and shallot resets and their ends; the phases of a sweep (R436, R462, R465, R494 to R497). -/
namespace Sys2Proof.Machine

/-! ### Units of a die after its reset (R414, R496, R497) -/

/-- The units of a die train anew: it sends TREQ with ARG[0] = 1, and both sides discard what they had (R411, R414). -/
def State.retrainDie (s : State) (p : Nat) : State :=
  ((dieUnits (finOf 27 (by decide) p)).foldl State.retrain s).emit (.sideband (sideWord 1 0 0 0 0 1))

/-- A unit of the die that no frame command has trained is trained now, by the maps of both ends. -/
def State.settleUnit (s : State) (u : BondUnit) : State :=
  if (s.bondEnd u false).training || (s.bondEnd u true).training then
    let t := s.modEnds u (fun e => { e with map := none, training := false })
    t.useMap u (t.goodMap u false &&& t.goodMap u true)
  else s

/-- Every unit of the die has trained. -/
def State.settleDie (s : State) (p : Nat) : State := (dieUnits (finOf 27 (by decide) p)).foldl State.settleUnit s

/-! ### Package reset over Mews (R494) -/

/-- The package resets, and its command goes on until IDLE or recovery. -/
def State.resetPackage (s : State) (c : RunningCmd) (port : Nat) : State :=
  let t := s.packageReset
  State.boot { t with host := { t.host with running := some c }, mews := { t.mews with openReqs := Tbl.set {} port 1 } } 1

/-! ### Plaza reset (R496) -/

/-- FREEZE of every arbiter of a plaza (R237). -/
def State.freezePlaza (s : State) (p : Nat) (f : Bool) : State :=
  (upto (arbUnits p).2).foldl (fun (t : State) u => t.setFreeze (arbUnits p).1 p u f) s

/-- A gateway is reset: its conductor is declared failed, its registers, tallies and sub-ports are as at reset, with an event for each that
was up, and the host link of G0 goes down (R315, R353, R388, R390, R496). -/
def State.resetGateway (s : State) (g : Nat) : State :=
  let one := decide (g = 1)
  let t := if (s.cond.of one).state.runs then s.declareFailed one 1 else s
  let t := if one then t else { t.linkDown with host := { t.linkDown.host with ready := false } }
  let t := t.portsDown ((upto 64).map (fun k => 64 * g + k))
  { t with net := { t.net with
      gw := t.net.gw.set g {}, ports := t.net.ports.mapAll (fun k p => if k / 64 = g then {} else p), routes := {}, wins := {}, schedOut := [], schedIn := [],
      calls := [], callRefusals := [], lastCall := {}, egress := t.net.egress.filter (fun f => f.sub / 64 != g) } }

/-- A gate die and its stack are reset; SCRUB_PASSES counts on since the package reset (R289). -/
def State.resetStack (s : State) (h : Nat) : State := { s with mem := s.mem.mod h (fun m => { scrubPasses := m.scrubPasses }) }

/-- A new transport key of a die (R444). -/
def State.transportKey (s : State) (p : Nat) : State :=
  { s with sec := { s.sec with transport := s.sec.transport.set p (some s.sec.draws), draws := s.sec.draws + 1 } }

/-- May a plaza reset change the package state: not in FAULTED or outside the states of an idle package (R391, R497)? -/
def State.resetMoves (s : State) : Bool := s.top.state == .idle || s.top.state == .loaded || s.top.state == .running

/-- Steps 2 to 6 of R496: the execution ends, the image is unloaded, the arbiters freeze, and the die resets and trains. -/
def State.plazaGo (s : State) (p : Nat) : State :=
  let t := if s.top.state = .running then s.endRun else s
  let loaded := s.img.image.isSome
  let t := if loaded then t.unloadImage else t
  let t := if loaded && s.resetMoves then { t with top := { t.top with state := .idle } } else t
  let t := t.freezePlaza p true
  let t := if p = 24 ∨ p = 25 then t.resetGateway (p - 24) else t.resetStack (p - 8)
  let t := { t with top := { t.top with plazaReset := some { plaza := p, loaded := loaded } } }
  (t.transportKey p).retrainDie p

/-- A plaza reset begins, with the sweep first where a tenant session is open (R496). -/
def State.plazaBegin (s : State) (p : Nat) : State :=
  if s.sec.tenant.isSome && s.resetMoves then s.beginSweep (.plaza p) else s.plazaGo p

/-- Does a RESET over Mews run? -/
def State.resetRuns (s : State) : Bool := match s.host.running with | some c => c.mewsOp == 0x32 | none => false

/-- PLAZA_RESET_DONE (R496): the die has trained; a gate die's stack is up or, with fewer than 64 pseudo-channels, down, and the
staging halves have the size that the stacks in service give (R192). -/
def execPlazaResetDone (pcUp : BitVec 7) (s : State) : Res :=
  match s.top.plazaReset with
  | none => .next s
  | some r =>
    let p := r.plaza
    let t := s.settleDie p
    let up := decide (64 ≤ pcUp.toNat)
    let t := if p < 24 then (t.modMem (p - 8) (fun m => { m with valid := up, down := !up, pcUp := if up then 64 else pcUp.toNat })).sizeStaging else t
    let t := if p < 24 ∧ up = false then t.raise 0x4007 p 0 [BitVec.ofNat 8 pcUp.toNat] else t
    let t := (t.freezePlaza p false).raise 0x0031 pkgPlaza 0 [1, BitVec.ofNat 8 p, 1]
    let t := { t with top := { t.top with plazaReset := none } }
    .next (if t.resetRuns then t.endCmd .ok [] else t)

/-! ### Shallot reset (R497) -/

/-- The training ends of a shallot's pods are as a reset leaves them: fuses only. -/
def Boulevard.dropPodEnds (b : Boulevard) (n : Nat) : Boulevard :=
  { b with ends := ⟨b.ends.cells.filter (fun c => !(decide (2 ^ 16 ≤ c.1 % 2 ^ 24) && c.1 % 2 ^ 24 % 2 ^ 16 / 512 == n))⟩,
           trainCount := satAdd b.trainCount 1024 }

/-- The pair resets: an execution that places it ends as R155 gives. -/
def State.shallotGo (s : State) (n : Nat) : State :=
  let t := if (s.shal n).placed then s.endExec .other else s
  let t := t.modSh n (fun h => { h.kept s.top.now true with placed := h.placed, resetting := true, recess := none })
  ({ t with blv := t.blv.dropPodEnds n }).retrainDie n

/-- A shallot reset begins, or waits for the end of the cooling of R436. -/
def State.shallotBegin (s : State) (n : Nat) : State :=
  let p := (s.shal n).pwr
  if p.tripped && !p.cooled s.top.now then s.modSh n (fun h => { h with pwr := { h.pwr with resetWaits := true } }) else s.shallotGo n

/-- SHALLOT_COOLDOWN_END (R436, R497): a reset that waits starts once the shallot has cooled. -/
def execShallotCooldownEnd (sh : Fin 8) (s : State) : Res :=
  let p := (s.shal sh.val).pwr
  .next (if p.resetWaits && p.cooled s.top.now then s.shallotGo sh.val else s)

/-- After a self-test that retired placed pods: another placement, or without one the shallot is FENCED (R123, R492). -/
def State.afterBist (s : State) (n : Nat) : State :=
  match s.img.image with
  | none => s
  | some i =>
    if (s.shal n).placed && (s.shal n).bistRetired.any (fun p => (s.pod n p).placed) then
      match s.usablePlacement i with
      | some _ => s.movePlacement
      | none => s.fence n
    else s

/-- The shallot takes its records from the image in force again (R495). -/
def State.rewrite (s : State) (n : Nat) : State :=
  match s.img.image with
  | none => s
  | some i => (s.modSh n (fun h => h.place i s.img.active n)).startClocks

/-- SHALLOT_RESET_DONE (R492, R495, R497): the pair has trained and tested itself. -/
def execShallotResetDone (sh : Fin 8) (fails : List BistFail) (s : State) : Res :=
  let n := sh.val
  if (s.shal n).resetting then
    let t := (s.settleDie n).modSh n (fun h => { h with resetting := false, bondsUp := true })
    let t := ((t.rewrite n).bistEnd [n] fails).raise 0x0031 pkgPlaza 0 [2, BitVec.ofNat 8 n, 1]
    let t := t.afterBist n
    .next (if t.resetRuns then t.endCmd .ok [] else t)
  else .next s

/-! ### RESET (R481, R494, R497) -/

/-- RESET: Operate, in every state but SWEEPING. -/
def opReset : MewsOp := { code := 0x32, cls := .operator, accept := 0xBF, recovery := true }

/-- Is the body of a RESET malformed (R494)? -/
def resetBad (b : List Byte) : Bool :=
  b.length != 8 || !bodyZero b 2 6 ||
  (match bodyAt b 0 with
   | 0 => bodyAt b 1 != 0
   | 1 => !(decide (8 ≤ bodyAt b 1) && decide (bodyAt b 1 ≤ 25))
   | 2 => decide (7 < bodyAt b 1)
   | _ => true)

/-- Does a shallot reset run or wait? -/
def State.shallotResets (s : State) : Bool := shallotNums.any (fun n => (s.shal n).resetting || (s.shal n).pwr.resetWaits)

/-- A shallot reset in progress gives way to a package or plaza reset, and its request ends without it (R497; log 61). -/
def State.dropShallotReset (s : State) : State :=
  let t := s.eachShallot (fun _ h => if h.resetting then { h with resetting := false, bondsUp := true } else { h with pwr := { h.pwr with resetWaits := false } })
  t.endCmd .stateRefused []

/-- The reset that a body asks for. -/
def State.resetBody (s : State) (b : List Byte) : State :=
  match s.host.running with
  | none => s
  | some c =>
    match bodyAt b 0 with
    | 0 => s.resetPackage c (match c.path with | .mews p => p | _ => 0)
    | 1 => s.plazaBegin (bodyAt b 1)
    | _ => s.shallotBegin (bodyAt b 1)

/-- A RESET request. -/
def State.mewsReset (s : State) (r : MewsReq) : State :=
  s.mewsReceive opReset r (fun t =>
    let t := if t.resetRuns && t.shallotResets && !resetBad r.body && decide (bodyAt r.body 0 ≤ 1) then t.dropShallotReset else t
    if resetBad r.body then t.mewsAnswer opReset r .badArgument []
    else if !t.mewsState opReset || t.host.running.isSome then t.mewsAnswer opReset r .stateRefused []
    else State.resetBody { t with host := { t.host with running := some (mewsCmd opReset r) } } r.body)

/-- PACKAGE_RESET (R494): RESET with KIND 0. -/
def execPackageReset (m : MewsReq) (s : State) : Res := .next (s.mewsReset m)
/-- PLAZA_RESET (R494, R496): RESET with KIND 1. -/
def execPlazaReset (m : MewsReq) (s : State) : Res := .next (s.mewsReset m)
/-- SHALLOT_RESET (R494, R497): RESET with KIND 2. -/
def execShallotReset (m : MewsReq) (s : State) : Res := .next (s.mewsReset m)

/-! ### The phases of a sweep (R462, R465, R467, R496) -/

/-- The fuses of a transition out of OWNED are written after the sweep, or the closed window leaves the change pending (R467). -/
def State.lifeWrite (s : State) (target : Nat) (params : List Byte) : State :=
  if s.pp.nvOpen then s.nvStart (.lifecycle target params) else s.nvRefuse.endCmd .temperatureBlocked []

/-- What follows the end of a sweep that found every store zero. -/
def State.afterSweep (s : State) (a : AfterSweep) : State :=
  let s := { s with top := { s.top with after := .idle } }
  match a with
  | .idle => s.endCmd .ok []
  | .plaza p => s.plazaGo p
  | .lifecycle target params => s.lifeWrite target params

/-- SWEEP_PHASE_END (R462, R465): key destruction, zeroing, the read-back that may find a word that is not zero, the end at 250 ms. -/
def execSweepPhaseEnd (nonzero : Bool) (s : State) : Res :=
  let t := { s with top := { s.top with sweepPhase := s.top.sweepPhase + 1 } }
  match s.top.sweepPhase with
  | 1 => .next t.destroyKeys
  | 2 => .next t.zeroStores
  | 3 => .next { t with top := { t.top with sweepBad := s.top.sweepBad || nonzero } }
  | 4 => .next (if s.top.sweepBad then s.sweepOver else s.sweepOver.afterSweep s.top.after)
  | _ => .next s

end Sys2Proof.Machine
end

