-- ==== Sys2Proof/Machine/HostRun.lean ====
section
/-! DEFINITION. Command opcodes by number, QUERY, EXPORT_JOURNAL, UNPARK and HOST_COMMAND over Mews, unknown opcodes (R365, R367,
R369, R375, R376, R481, R491). -/
namespace Sys2Proof.Machine

/-! ### QUERY (R375) -/

/-- IMAGE.LOAD_STATUS (R212). -/
def Loader.statusWord (l : Loader) : Word := BitVec.ofNat 32 (b2n l.image.isSome * 2 ^ 31 + l.check % 16 * 2 ^ 16 + l.status % 256)

/-- The retired pods of a shallot. -/
def State.retiredCount (s : State) (n : Nat) : Nat := ((upto 512).filter (s.retired n)).length

/-- The results of QUERY for an item (R375). -/
def State.queryWords (s : State) (item sh half : Nat) : List Word :=
  let q := s.seq
  if item = 0 then
    [BitVec.ofNat 32 s.top.state.code, s.img.statusWord, lo32 q.committed, hi32 q.committed, lo32 q.current, hi32 q.current]
  else if item = 1 then
    BitVec.ofNat 32 (packN 1 (fun n => b2n (s.shal n).fenced) 8) ::
      (upto 4).map (fun i => BitVec.ofNat 32 (s.retiredCount (2 * i) + 2 ^ 16 * s.retiredCount (2 * i + 1)))
  else if item = 2 then
    (upto 8).map (fun m => BitVec.ofNat 32 (packN 1 (fun b => b2n (s.retired sh (256 * half + 32 * m + b))) 32))
  else [BitVec.ofNat 32 (b2n s.sec.tenant.isSome), lo32 s.sec.epoch, hi32 s.sec.epoch]

/-- Are the arguments of QUERY outside those of its table? -/
def queryBad (args : List Word) : Bool :=
  let item := argAt args 0
  decide (3 < item) ||
  (if item = 2 then decide (7 < argAt args 1) || decide (1 < argAt args 2) || !argsZeroFrom args 3 else !argsZeroFrom args 1)

/-- QUERY answers at once. -/
def State.cmdQuery (s : State) (c : RunningCmd) : State :=
  s.command c { accept := 0xFE, bad := queryBad c.args } (fun t =>
    t.endCmd .ok (t.queryWords (argAt c.args 0) (argAt c.args 1) (argAt c.args 2)))

/-- QUERY. -/
def execQuery (a : List (BitVec 32)) (s : State) : Res := .next (s.hostCommand 0x07 a State.cmdQuery)

/-! ### EXPORT_JOURNAL (R376) -/

/-- Bytes that EXPORT_JOURNAL copies: 0 stands for 4 GiB. -/
def exportLen (args : List Word) : Nat := if argAt args 2 = 0 then 2 ^ 32 else argAt args 2

/-- Does the ring hold every byte of the range, none of them consumed? -/
def State.exportHolds (s : State) (args : List Word) : Bool :=
  let c := argPair args 0
  decide (s.seq.tail.toNat ≤ c) && decide (s.seq.head.toNat ≤ c + s.ringSize) && decide (c + exportLen args ≤ s.seq.head.toNat)

/-- EXPORT_JOURNAL is checked; the copy then runs. -/
def State.cmdExport (s : State) (c : RunningCmd) : State :=
  s.command c
    { accept := 0x30, bad := argAt c.args 2 % 32 != 0 || argPair c.args 3 % 4096 != 0 || !argsZeroFrom c.args 5,
      badNow := !s.exportHolds c.args, noAuth := s.journalLeave.isNone } id

/-- EXPORT_JOURNAL. -/
def execExportJournal (a : List (BitVec 32)) (s : State) : Res := .next (s.hostCommand 0x0C a State.cmdExport)

/-- Bytes of the ring from a byte count on, round its end (R177); none at an uncorrectable error. -/
def State.readRing (s : State) (count len : Nat) (env : MemEnv) : State × Option (List Byte) :=
  match s.journalRegion with
  | none => (s, none)
  | some (n, r) =>
    let o := count % max 1 r.size
    let len1 := min len (r.size - o)
    let units := (o + len1 - 1) / 64 - o / 64 + 1
    let a := s.readRegion r n o len1 24 { env with faults := env.faults.filter (fun f => decide (f.unit < units)) } false
    let b := a.1.readRegion r n 0 (len - len1) 24
      { faults := (env.faults.filter (fun f => decide (units ≤ f.unit))).map (fun f => { f with unit := f.unit - units }), noSpare := env.noSpare } false
    (b.1, match a.2, b.2 with | some x, some y => some (x ++ y) | _, _ => none)

/-- The status that ends EXPORT_JOURNAL when a byte of the range cannot be read, which no rule fixes (log 34). -/
def freeStatus (n : Nat) : Status :=
  match Sys2Proof.Config.freeNat n 400 % 11 with
  | 0 => .ok | 1 => .badArgument | 2 => .unknownCommand | 3 => .stateRefused | 4 => .claimed | 5 => .authFailed | 6 => .quorumPending
  | 7 => .temperatureBlocked | 8 => .imageInvalid | 9 => .claimConflict | _ => .identityMismatch

/-- JOURNAL_EXPORT_DONE (R376, R459): the bytes stand in host memory and the command ends. -/
def execJournalExportDone (env : MemEnv) (s : State) : Res :=
  match s.host.running with
  | none => .next s
  | some c =>
    if c.opcode = 0x0C ∧ s.host.canSend = true then
      let a := s.readRing (argPair c.args 0) (exportLen c.args) env
      match a.2, s.journalLeave with
      | some bs, some key => .next ((a.1.emit (.hostWrite (argPair c.args 3) (sealJournal key (argPair c.args 0) bs))).endCmd .ok [])
      | _, none => .next (s.endCmd .authFailed [])
      | none, _ => .next ({ a.1 with free := a.1.free + 1 }.endCmd (freeStatus a.1.free) [])
    else .next s

/-! ### Opcodes by number (R367, R369) -/

/-- A command-block opcode with its arguments, from either path. -/
def State.runOpcode (s : State) (c : RunningCmd) : State :=
  match c.opcode with
  | 1 => s.cmdLoadImage none c
  | 2 => s.cmdStart c
  | 3 => s.cmdStop c
  | 4 => s.cmdSweep c
  | 5 => s.cmdPark c
  | 6 => s.cmdUnpark c
  | 7 => s.cmdQuery c
  | 8 => s.cmdRecalibrate c
  | 9 => s.cmdReplay c
  | 10 => s.cmdRotate c
  | 11 => s.cmdRetirePod c
  | 12 => s.cmdExport c
  | _ => s.answerCmd { c with accept := 0 } .unknownCommand false false []

/-! ### HOST_COMMAND (R365, R481): the body is CMD_OPCODE and the twelve arguments, 4 bytes each (log 63) -/

/-- HOST_COMMAND in the table of R481. -/
def hostCommandOp : MewsOp := { code := 0x20, cls := .operator, accept := 0xFF }

/-- The command of a HOST_COMMAND body. -/
def hostCommandOf (r : MewsReq) : RunningCmd :=
  { mewsCmd hostCommandOp r with opcode := bodyNum r.body 0 4, args := (upto 12).map (fun i => BitVec.ofNat 32 (bodyNum r.body (4 + 4 * i) 4)) }

/-- A command-block opcode over Mews: the checks of R479 and R482, then those of R367. -/
def State.mewsHostCommand (s : State) (r : MewsReq) : State :=
  s.mewsReceive hostCommandOp r (fun t =>
    let c := hostCommandOf r
    if r.body.length ≠ 52 then t.answerCmd c .badArgument false false []
    else if t.mews.recovery then t.answerCmd c .stateRefused false false []
    else t.runOpcode c)

/-- HOST_COMMAND. -/
def execHostCommand (m : MewsReq) (s : State) : Res := .next (s.mewsHostCommand m)

/-- UNPARK (R369, R491): a HOST_COMMAND, because the host link is unpowered in PARKED. -/
def execUnpark (m : MewsReq) (s : State) : Res := .next (if bodyNum m.body 0 4 = 6 then s.mewsHostCommand m else s)

/-! ### Unknown opcodes (R367, R481) -/

/-- The Mews opcodes of R481. -/
def mewsCodes : List Nat := [0x01, 0x02, 0x03, 0x10, 0x11, 0x12, 0x13, 0x14, 0x20, 0x21, 0x22, 0x23, 0x24, 0x25, 0x26, 0x30, 0x31, 0x32, 0x40, 0x41]

/-- UNKNOWN_COMMAND: answered with no effect. A Mews request is authenticated first; an opcode of the set is another command. -/
def execUnknownCommand (c : UnknownCmd) (s : State) : Res :=
  match c with
  | .host op a => .next (s.hostCommand op.toNat a State.runOpcode)
  | .mews op m =>
    if mewsCodes.contains op.toNat then .next s
    else
      let o : MewsOp := { code := op.toNat, cls := .anyone, accept := 0xFF, recovery := true }
      .next (s.mewsReceive o m (fun t => t.mewsAnswer o m .unknownCommand []))

end Sys2Proof.Machine
end

