-- ==== Sys2Proof/Machine/RegRead.lean ====
section
/-! DEFINITION. What a read of each register returns, block by block (R7, R18, R64, R96, R125, R147, R188, R189, R212, R249, R271, R289, R314,
R348, R349, R352, R355 to R357, R368, R377, R398, R416, R417, R441, R474, R487). A reserved offset reads zero. -/
namespace Sys2Proof.Machine

/-- Word `i` of an array of registers that starts at `base` and holds `n` of them; none outside it. -/
def inArray (o base n : Nat) : Option Nat := if base ≤ o ∧ o < base + 4 * n then some ((o - base) / 4) else none
/-- The 32-bit word at a byte offset of a list of bytes. -/
def wordAt (bs : List Byte) (o : Nat) : Nat := leVal ((bs.drop o).take 4)
/-- Low and high words of a 64-bit value. -/
def low (x : Word64) : Nat := (lo32 x).toNat
def high (x : Word64) : Nat := (hi32 x).toNat
/-- A bit mask of the numbers below `n` that satisfy a test. -/
def maskOf (n : Nat) (f : Nat → Bool) : Nat := packN 1 (fun i => b2n (f i)) n
/-- A temperature with its VALID bit. -/
def tempWord (t : Option Half) : Nat := match t with | none => 0 | some x => 2 ^ 31 + x.toNat

/-! ### TOP and HOSTIF (R356, R357, R368, R377) -/

/-- TOP. -/
def State.topReg (s : State) (o : Nat) : Nat := match o with | 0 => s.top.identity.toNat | 4 => s.top.state.code | _ => 0

/-- CMD_STATUS. -/
def HostIf.cmdWord (h : HostIf) : Nat := cmdStatus h.busy h.done h.aborted h.otherPath h.accept.toNat h.stateCode.toNat h.status.toNat
/-- LINK_STATUS. -/
def HostIf.linkWord (h : HostIf) : Nat :=
  b2n h.linkUp * 2 ^ 31 + b2n h.linkFlit * 2 ^ 30 + b2n h.ideLink * 2 ^ 29 + h.ideSel.toNat * 2 ^ 25 + h.linkWidth.toNat * 2 ^ 8 + h.linkRate.toNat

/-- HOSTIF with the MSI-X table and its pending bits. -/
def State.hostReg (s : State) (o : Nat) : Nat :=
  let h := s.host
  let n := (h.windows.get (bitsOf h.windowSel.toNat 0 6)).n
  match o with
  | 0x00 => h.opcode.toNat
  | 0x08 => h.cmdWord
  | 0x0C => h.overrun.toNat
  | 0x60 => h.refuseCount.toNat
  | 0x64 => h.lastRefused.toNat
  | 0x68 => h.bar2Target.toNat
  | 0x6C => h.bar2Offset.toNat
  | 0x70 => h.bar2Drops.toNat
  | 0x74 => h.barErrors.toNat
  | 0x78 => h.windowWaitUs.toNat
  | 0x7C => h.linkWord
  | 0x80 => h.windowSel.toNat
  | 0x84 => low n
  | 0x88 => high n
  | _ =>
    match inArray o 0x10 12, inArray o 0x40 8, inArray o 0x10000 256, inArray o 0x11000 2 with
    | some i, _, _, _ => (h.args.get i).toNat
    | _, some i, _, _ => (h.results.get i).toNat
    | _, _, some i, _ => (h.msixWord (i / 4) (i % 4)).toNat
    | _, _, _, some i => bitsOf h.pba.toNat (32 * i) 32
    | _, _, _, _ => 0

/-! ### IMAGE, COND and STEP (R96, R188, R212, R398) -/

/-- IMAGE. -/
def State.imageReg (s : State) (o : Nat) : Nat :=
  let l := s.img
  match o with
  | 0x00 => l.statusWord.toNat
  | 0x04 => l.detailRes.toNat
  | 0x08 => l.detailIndex.toNat
  | 0x0C => l.detailFeat.toNat
  | 0x10 => low l.detailOffset
  | 0x14 => high l.detailOffset
  | 0x18 => l.active % 8
  | 0x1C => l.refuseCount.toNat
  | 0x40 => l.stagingMiB % 2 ^ 16
  | _ =>
    match inArray o 0x20 8, l.image with
    | some i, some m => wordAt m.digest (4 * i)
    | _, _ => 0

/-- COND_STATUS. -/
def Cond.statusWord (c : Cond) : Nat :=
  b2n c.umpireLost * 2 ^ 31 + b2n c.comparing * 2 ^ 30 + c.c1.state.code * 2 ^ 8 + c.c0.state.code * 2 ^ 4 + b2n c.active

/-- COND. -/
def State.condReg (s : State) (o : Nat) : Nat :=
  let c := s.cond
  match o with
  | 0x00 => c.statusWord
  | 0x04 => c.c0.claim.toNat
  | 0x08 => c.c1.claim.toNat
  | 0x0C => c.mode.toNat
  | 0x10 => c.switches.toNat
  | 0x14 => c.lastSwitch.toNat
  | 0x18 => c.stale.toNat
  | 0x1C => c.lateCount.toNat
  | 0x20 => c.bistIndex % 256 * 2 ^ 16 + c.bistFails.toNat
  | 0x24 => c.resyncUs.toNat
  | 0x28 => c.twinHigh.toNat * 2 ^ 16 + c.degradedOdd.toNat * 2 ^ 12 + c.degradedEven.toNat * 2 ^ 8 + c.twins.toNat
  | _ => match inArray o 0x40 8 with | some i => (c.health.get i).toNat | none => 0

/-- STEP_STATUS. -/
def StepSeq.statusWord (q : StepSeq) : Nat :=
  q.phase.code * 2 ^ 24 + q.done.toNat * 2 ^ 16 + b2n q.replay * 2 ^ 7 + b2n q.exe.recovery * 2 ^ 6 + b2n q.exe.satRerun * 2 ^ 5 +
  b2n q.exe.wide * 2 ^ 4 + q.lastResult.toNat
/-- SCALE_STATE. -/
def Observer.stateWord (x : Observer) : Nat :=
  if x.entry.isSome then
    2 ^ 31 + uOf 11 x.eLast * 2 ^ 13 + b2n x.emptyLast * 2 ^ 12 + min 16 x.hist.length * 2 ^ 7 + uOf 6 x.d
  else 0

/-- STEP. -/
def State.stepReg (s : State) (o : Nat) : Nat :=
  let q := s.seq
  let x := q.observers.get (bitsOf q.scaleSel.toNat 0 12)
  match o with
  | 0x00 => low q.committed
  | 0x04 => high q.committed
  | 0x08 => low q.current
  | 0x0C => high q.current
  | 0x10 => q.statusWord
  | 0x14 => q.recoveryCount.toNat
  | 0x18 => q.skewMax.toNat
  | 0x1C => q.domainLate.toNat
  | 0x20 => low q.head
  | 0x24 => high q.head
  | 0x28 => q.tailLo.toNat
  | 0x2C => high q.tail
  | 0x30 => q.gapCount.toNat
  | 0x34 => q.waitUs.toNat
  | 0x38 => q.replayDrops.toNat
  | 0x80000 => q.scaleSel.toNat
  | 0x80004 => x.stateWord
  | 0x80008 => x.satLast.toNat
  | 0x8000C => x.satTotal.toNat
  | 0x80010 => q.satReruns.toNat
  | 0x80014 => q.satEvents.toNat
  | _ => 0

/-! ### SHALLOT (R64, R125, R147, R189, R416) -/

/-- STATE and CAUSE of BEAT_STATE (R152 to R154, R189); of the pause causes VR_LIMIT comes first, then heat, then power (R428). Between steps a
frequency stop reads PAUSED with its cause, and a pause reads ACTIVE (R152, R154; DESIGN CHOICE, log 112). -/
def Shallot.beatCode (h : Shallot) : Nat × Nat :=
  if h.fenced then (4, 0xD)
  else if !h.inStep && h.clk.stopNs == 0 && h.recess.isNone then (0, 0)
  else match h.stands false with
    | .none => (0, 0)
    | .stop => (2, 0xA)
    | .recess .scheduled => (3, 0xB)
    | .recess .forced => (3, 0xC)
    | .pause => (2, if h.pwr.vrLimit then 9 else if max h.pwr.dutyHeat h.pwr.dutyStack < h.pwr.dutyPower then 7 else 8)
    | .hold .landing => (1, 1)
    | .hold .wait => (1, 2)
    | .hold .retry => (1, 3)
    | .hold .priv => (1, 4)
    | .hold .wide => (1, 5)
    | .hold .wake => (1, 6)

/-- POD_STATUS. -/
def Pod.statusWord (p : Pod) (retired : Bool) : Nat :=
  b2n p.placed * 2 ^ 31 + (if retired then 2 else p.rowPath.toNat) * 2 ^ 24 + p.lastPc.toNat

/-- POD_STATUS of the pod that POD_SEL selects; ROW_PATH reads 0b10 for a pod that fuses or the self-test retired too (R125, R375). -/
def Shallot.podStatus (h : Shallot) : Nat :=
  let k := bitsOf h.podSel.toNat 0 9
  (h.pods.get k).statusWord ((h.pods.get k).fused || h.bistRetired.contains k)

/-- ROWBOND_STATUS of a group of a pod. -/
def Shallot.rowbondWord (h : Shallot) (pod g : Nat) : Nat :=
  let b := h.bond pod g
  if g ≤ 16 ∧ (h.pods.get pod).powered = true then
    2 ^ 31 + b2n b.suspect * 2 ^ 30 + b2n b.beyond * 2 ^ 29 + b2n (h.bondsUp && !b.untrained) * 2 ^ 28 + min 31 b.fused.length * 2 ^ 16 +
    min 16 b.marked.length
  else 0

/-- The registers of a shallot that answer without power: identity and fault status (R18). -/
def Shallot.fixedReg (h : Shallot) (o : Nat) : Nat :=
  match o with
  | 0x40000 => h.arithStatus.toNat
  | 0x40004 => h.arithFirst.toNat
  | 0x40008 => h.arithFirstBeat.toNat
  | 0x4000C => h.missCount.toNat
  | 0x40010 => h.a32Count.toNat
  | 0x40014 => h.a192Count.toNat
  | 0x40018 => h.wideCount.toNat
  | 0x60000 => 0x00030204
  | _ => 0

/-- SHALLOTn. -/
def Shallot.reg (h : Shallot) (o : Nat) : Nat :=
  if h.powered then
    match o with
    | 0x10000 => h.beatCode.2 * 16 + h.beatCode.1
    | 0x10004 => low h.beat
    | 0x10008 => high h.beat
    | 0x1000C => h.holdBeats.toNat
    | 0x10010 => h.waitHoldBeats.toNat
    | 0x10014 => h.wakeHoldBeats.toNat
    | 0x10018 => h.retryHoldBeats.toNat
    | 0x1001C => h.pauseBeats.toNat
    | 0x10020 => h.stopCount.toNat
    | 0x10024 => h.recessCount.toNat
    | 0x10028 => h.recessUs.toNat
    | 0x1002C => h.stretchCount.toNat
    | 0x50000 => h.podSel.toNat
    | 0x50004 => h.podStatus
    | 0x50008 => h.privHoldBeats.toNat
    | 0x5000C => h.wideHoldBeats.toNat
    | 0x50010 => h.recvHoldBeats.toNat
    | 0x60004 => h.vecSat.toNat
    | 0x60008 => h.vecDomain.toNat
    | 0x6000C => h.vecRange.toNat
    | 0x70000 => h.rowbondSel.toNat
    | 0x70004 => h.rowbondWord (bitsOf h.rowbondSel.toNat 0 9) (bitsOf h.rowbondSel.toNat 9 5)
    | 0x70008 => h.rowCheckFails.toNat
    | 0x7000C => h.rowRepairs.toNat
    | _ => h.fixedReg o
  else h.fixedReg o

/-! ### PBL (R249, R417) -/

/-- The streets that exist. -/
def streetList : List (Nat × Nat) := (upto 27).flatMap (fun a => ((upto 27).filter (fun b => streetWidth a b != 0)).map (fun b => (a, b)))

/-- PBL_STATUS. -/
def State.pblStatus (s : State) : Nat :=
  let b := s.blv
  let up := fun (e : Nat × Nat) => (s.street e.1 e.2).widthUp (streetWidth e.1 e.2)
  b2n (decide (b.mapAck.toNat < b.mapSeq.toNat)) * 16 + b2n (b.arbs.cells.any (fun c => c.2.freeze)) * 8 +
  b2n (b.lanes.cells.any (fun c => c.2.rings.cells.any (fun r => r.2 == .slipped))) * 4 +
  b2n (streetList.any (fun e => up e == 0 || (s.street e.1 e.2).waves.cells.any (fun w => w.2.down))) * 2 +
  b2n (b.trained && streetList.all (fun e => up e == streetWidth e.1 e.2))

/-- Does ARB_SEL name an arbiter that is powered (R18, R249)? -/
def State.arbPowered (s : State) (kind plaza unit : Nat) : Bool := arbExists kind plaza unit && s.plazaPowered plaza

/-- ARB_STATUS. -/
def State.arbWord (s : State) (kind plaza unit : Nat) : Nat :=
  let a := s.arb (arbIx kind plaza unit)
  if s.arbPowered kind plaza unit then
    b2n a.freeze * 2 ^ 31 + b2n a.granted.isNone * 2 ^ 30 + 2 ^ 29 + a.slot % 4096 * 2 ^ 16 + min 0xFFFF a.reqs.length
  else 0

/-- The lane group that a LOCK_SEL layout names, none where there is no such group (R249). -/
def selLane (v : Nat) : Option Nat :=
  let p := bitsOf v 16 5
  if p < 27 ∧ bitsOf v 0 16 < laneCount (bitAt v 31) p then some (bitsOf v 31 1 * 2 ^ 24 + p * 2 ^ 16 + bitsOf v 0 16) else none

/-- The unit and the end that BOND_SEL names (R417). -/
def selBond (v : Nat) : Option (BondUnit × Bool) :=
  let p := bitsOf v 9 5
  if p < 27 ∧ bitsOf v 0 6 < unitCount (bitAt v 8) p then
    some (.interface (finOf 27 (by decide) p) (bitAt v 8) (finOf 64 (by decide) (bitsOf v 0 6)), bitAt v 31)
  else none

/-- BOND_STATUS. -/
def State.bondWord (s : State) (v : Nat) : Nat :=
  match selBond v with
  | none => 0
  | some (u, far) =>
    let e := s.bondEnd u far
    2 ^ 31 + b2n e.training * 2 ^ 30 + b2n e.fallback * 2 ^ 29 + b2n e.down * 2 ^ 28 + e.attempt % 4 * 2 ^ 26 +
    s.blv.sideband.get (bitsOf v 9 5 * 2 + bitsOf v 8 1) % 32 * 2 ^ 21 + (s.trainedMap u far).toNat

/-- PBL. -/
def State.pblReg (s : State) (o : Nat) : Nat :=
  let b := s.blv
  let a := b.selArb
  let arb := s.arb (arbIx a.1 a.2.1 a.2.2)
  let exists' := arbExists a.1 a.2.1 a.2.2
  let req := if exists' && decide (bitsOf b.reqSel.toNat 0 5 < 27) then arb.counts.get (bitsOf b.reqSel.toNat 0 5) else {}
  let src := bitsOf b.streetSel.toNat 5 5
  let dst := bitsOf b.streetSel.toNat 0 5
  let w := streetWidth src dst
  let up := (s.street src dst).widthUp w
  let lane := match selLane b.lockSel.toNat with | some k => some (b.lanes.get k) | none => none
  match o with
  | 0x00 => s.pblStatus
  | 0x04 => b.arbSel.toNat
  | 0x08 => if exists' then b2n arb.freeze else 0
  | 0x0C => s.arbWord a.1 a.2.1 a.2.2
  | 0x10 => b.reqSel.toNat
  | 0x14 => req.grants.toNat
  | 0x18 => req.waits.toNat
  | 0x1C => req.longest.toNat
  | 0x20 => b.ttIndex.toNat
  | 0x24 => if exists' then (arb.table.get (bitsOf b.ttIndex.toNat 0 12)).toNat else 0
  | 0x28 => b.streetSel.toNat
  | 0x2C => if w = 0 then 0 else 2 ^ 31 + b2n (up == 0) * 2 ^ 30 + up * 2 ^ 16 + w
  | 0x30 => if w = 0 then 0 else (s.street src dst).retries.toNat
  | 0x34 => if w = 0 then 0 else (s.street src dst).crcFails.toNat
  | 0x38 => b.lockSel.toNat
  | 0x3C => match lane with | some l => packN 2 (fun i => (l.rings.get i).code) 16 | none => 0
  | 0x40 => tempWord (lane.bind (fun l => l.thermo))
  | 0x44 => b.mapSeq.toNat
  | 0x48 => b.mapAck.toNat
  | 0x4C => b.mapLost.toNat
  | 0x50 => b.mapCtrl.toNat
  | 0x200 => b.bondSel.toNat
  | 0x204 => s.bondWord b.bondSel.toNat
  | 0x208 => b.trainCount.toNat
  | 0x20C => b.logged % 2 ^ 16 * 2 ^ 16 + b2n (!b.logPending.isEmpty)
  | _ =>
    match inArray o 0x60 32, inArray o 0x100 8 with
    | some i, _ => (b.mapDetail.get i).toNat
    | _, some i => tempWord (s.shal i).pwr.thermo
    | _, _ => if o < 0x80000 then 0 else if o < 0xC0000 then wordAt b.map0 (o - 0x80000) else if o < 0x100000 then wordAt b.map1 (o - 0xC0000) else 0

/-! ### LAMP and MEM (R271, R289) -/

/-- LAMP_STATUS. -/
def Lamp.statusWord (l : Lamp) : Nat :=
  2 ^ 31 + l.state.code * 2 ^ 28 + l.feed.getD 3 % 4 * 2 ^ 26 + b2n l.p0Pending * 2 ^ 25 + l.level % 8

/-- LAMP. -/
def State.lampReg (s : State) (o : Nat) : Nat :=
  let x := s.lamp
  let l := x.lamps.get (bitsOf x.sel.toNat 0 5)
  match o with
  | 0x00 => maskOf 8 (fun b => (upto 4).any (fun i => (x.lamps.get (4 * b + i)).state.spareServes))
  | 0x04 => x.sel.toNat
  | 0x08 => l.statusWord
  | 0x0C => if l.state.lit then uOf 16 l.fade else 0
  | 0x10 => l.drive % 4096
  | 0x14 => l.p0 % 2 ^ 16
  | 0x18 => x.crossfades.toNat
  | 0x1C => x.forced.toNat
  | 0x20 => b2n x.packagePass * 2 ^ 31 + b2n x.calDone * 2 ^ 30 + x.plazaPass.toNat
  | 0x24 => x.groupSel.toNat
  | 0x28 =>
    match selLane x.groupSel.toNat with
    | some k =>
      let g := s.blv.lanes.get k
      2 ^ 31 + b2n g.marked * 2 ^ 30 + b2n g.autoOff * 2 ^ 29 + b2n g.pending * 2 ^ 28
    | none => 0
  | 0x2C => x.calFails.toNat
  | _ => 0

/-- MEM_STATUS. -/
def Stack.statusWord (m : Stack) : Nat :=
  b2n m.valid * 2 ^ 31 + b2n m.down * 2 ^ 30 + b2n m.hot * 2 ^ 29 + b2n m.epoch * 2 ^ 28 + b2n m.keyEven.isSome * 2 ^ 27 +
  b2n m.keyOdd.isSome * 2 ^ 26 + b2n m.keyRun.isSome * 2 ^ 25 + m.share % 128 * 2 ^ 7 + m.pcUp % 128

/-- MEM, one stack. -/
def State.memReg (s : State) (h o : Nat) : Nat :=
  let m := s.mem.get h
  match o with
  | 0x00 => m.statusWord
  | 0x04 => m.temp.toNat
  | 0x08 => m.ce.toNat
  | 0x0C => m.odecc.toNat
  | 0x10 => m.ue.toNat
  | 0x14 => low m.errAddr
  | 0x18 => high m.errAddr
  | 0x1C => m.errInfo.toNat
  | 0x20 => m.scrubPasses.toNat
  | 0x24 => m.combineHits.toNat
  | 0x28 => m.combineFull.toNat
  | 0x2C => m.atomics.toNat
  | 0x30 => m.a96Ovf.toNat
  | 0x34 => min 0xFFFF m.repaired * 2 ^ 16 + m.lost.length % 512
  | 0x38 => b2n m.walking * 2 ^ 31 + b2n s.sec.oldLive * 2 ^ 30 + m.walkUnit / 1024 % 2 ^ 20
  | _ => 0

/-! ### GW and SYNC (R314, R348, R349) -/

/-- PORT_STATUS of a sub-port. -/
def State.portWord (s : State) (n : Nat) : Nat :=
  let p := s.net.ports.get n
  let mode := match s.portMode (n / 8) with | some m => m.mode | none => 0
  let feature := match s.img.image.bind (fun i => i.claimOf 2 n) with | some c => c.feature | none => 0
  b2n (s.subExists n) * 2 ^ 31 + b2n p.up * 2 ^ 30 + b2n p.macsec * 2 ^ 29 + mode % 4 * 2 ^ 27 + (s.net.ports.get (n / 8 * 8)).lanes.toNat * 2 ^ 16 + feature % 256

/-- ROUTE_STATUS of a destination. -/
def State.routeWord (s : State) (d : Nat) : Nat :=
  if s.routeDests.contains d then
    let r := s.net.routes.get d
    2 ^ 31 + r.active % 8 * 2 ^ 28 + maskOf 5 (s.routeUp d) * 2 ^ 23 + min 0xFFFF r.moves
  else 0

/-- ENGINE_STATUS of an engine of a gateway. -/
def State.engineWord (s : State) (g e : Nat) : Nat :=
  let held := (s.net.gw.get g).held (16 * g + e)
  b2n ((s.img.image.map (fun i => i.reachEngines.contains (16 * g + e))).getD false) * 2 ^ 31 + b2n (decide (512 ≤ held)) * 2 ^ 30 + min 512 held

/-- GWn. -/
def State.gwReg (s : State) (g o : Nat) : Nat :=
  let w := s.net.gw.get g
  let sub := 64 * g + bitsOf w.portSel.toNat 0 6
  let p := s.net.ports.get sub
  let e := bitsOf w.engineSel.toNat 0 4
  match o with
  | 0x00 => maskOf 8 (fun i => (upto 8).any (fun k => (s.net.ports.get (64 * g + 8 * i + k)).up)) * 256 + maskOf 8 (fun i => s.subExists (64 * g + 8 * i))
  | 0x04 => w.portSel.toNat
  | 0x08 => s.portWord sub
  | 0x0C => p.rx.toNat
  | 0x10 => p.tx.toNat
  | 0x14 => p.drops.toNat
  | 0x18 => p.fec.toNat
  | 0x1C => w.resends.toNat
  | 0x20 => w.routeSel.toNat
  | 0x24 => s.routeWord (bitsOf w.routeSel.toNat 0 11)
  | 0x28 => w.ptpOffset.toNat
  | 0x2C => w.ptpPort.toNat * 16 + b2n w.ptpMaster * 2 + b2n w.ptpLocked
  | 0x30 => w.svcAdmitted.toNat
  | 0x34 => w.svcBusy.toNat
  | 0x38 => w.svcRejected.toNat
  | 0x3C => w.dgrams.toNat
  | 0x40 => w.withheld.toNat
  | 0x10000 => w.engineSel.toNat
  | 0x10004 => s.engineWord g e
  | 0x10008 => (w.sent.get e).toNat
  | 0x1000C => (w.resent.get e).toNat
  | 0x10010 => w.refusedTx.toNat
  | 0x10014 => w.busyTx.toNat
  | 0x10018 => w.duplicates.toNat
  | 0x1001C => w.combined.toNat
  | 0x10020 => w.fenceTimeouts.toNat
  | 0x10024 => w.late.toNat
  | 0x10028 => w.badPackets.toNat
  | 0x1002C => w.stampUsed % 2 ^ 32
  | _ => 0

/-- Does a tally exist (R337)? -/
def tallyExists (plaza index : Nat) : Bool := (decide (plaza < 8) && decide (index < 16384)) || plazaKind plaza == 2

/-- SYNC. -/
def State.syncReg (s : State) (o : Nat) : Nat :=
  let v := s.net.tallySel.toNat
  let t := s.tally (bitsOf v 16 5) (bitsOf v 0 16)
  let e := tallyExists (bitsOf v 16 5) (bitsOf v 0 16) && s.plazaPowered (bitsOf v 16 5)
  match o with
  | 0x00 => v
  | 0x04 => if e then t.value.toNat else 0
  | 0x08 => if e then 2 ^ 31 + b2n t.held * 2 ^ 21 + t.hflag.toNat * 2 ^ 17 + t.flags.toNat else 0
  | 0x0C => if e then t.msgCount.toNat else 0
  | 0x10 => if e then t.htarget.toNat else 0
  | 0x14 => s.net.releases.toNat
  | _ => 0

/-! ### PWR, CLK and THERM (R441) -/

/-- FREQ_STATUS. -/
def State.freqWord (s : State) (n : Nat) : Nat :=
  let c := (s.shal n).clk
  if (s.shal n).powered then
    2 ^ 31 + b2n (decide (appliedCode s.top.identity 0x7F < bitsOf c.target.toNat 0 7)) * 2 ^ 30 + b2n (c.stopNs != 0) * 2 ^ 29 +
    appliedCode s.top.identity c.target * 2 ^ 8 + c.code % 128
  else 0

/-- VOLT_STATUS: the lowest reading of the last 1 ms, and the set point. -/
def State.voltWord (s : State) (n : Nat) : Nat :=
  let c := (s.shal n).clk
  let r := (c.volts.filter (fun v => decide (s.top.now ≤ v.1 + 1000000))).map Prod.snd
  (if r.isEmpty then 0 else minOf 1023 r) * 2 ^ 16 + c.setPoint % 1024

/-- PAUSE_DUTY. -/
def ShPower.dutyWord (p : ShPower) : Nat :=
  b2n p.vrLimit * 2 ^ 31 + p.dutyStack % 64 * 2 ^ 16 + p.dutyHeat % 64 * 2 ^ 8 + p.dutyPower % 64

/-- PWR, CLK and THERM. -/
def State.pwrReg (s : State) (o : Nat) : Nat :=
  let x := s.pp
  let c := (s.shal (bitsOf x.clkSel.toNat 0 3)).clk
  let p := (s.shal (bitsOf x.pwrSel.toNat 0 3)).pwr
  let k := (s.shal (bitsOf x.xchkSel.toNat 0 3)).pwr
  let v := x.sensorSel.toNat
  match o with
  | 0x00000 => x.clkSel.toNat
  | 0x00004 => c.target.toNat
  | 0x00008 => s.freqWord (bitsOf x.clkSel.toNat 0 3)
  | 0x0000C => s.voltWord (bitsOf x.clkSel.toNat 0 3)
  | 0x00010 => c.marginSd % 256 * 256 + c.marginAd % 256
  | 0x00014 => c.downCount.toNat
  | 0x00018 => c.upCount.toNat
  | 0x0001C => c.droopCount.toNat
  | 0x10000 => x.slew.toNat
  | 0x10004 => x.pkgSlew.toNat
  | 0x10008 => x.pwrSel.toNat
  | 0x1000C => p.power % 2 ^ 16
  | 0x10010 => x.power % 2 ^ 16
  | 0x10014 => p.dutyWord
  | 0x10018 => b2n p.profile * 2 ^ 31 + p.forecast.toNat
  | 0x1001C => p.wakeDefer.toNat
  | 0x10020 => p.forecastLate.toNat
  | 0x10024 => (p.vrTime s.top.now).toNat
  | 0x10028 => x.railSel.toNat
  | 0x1002C => (x.rails.get (bitsOf x.railSel.toNat 0 4)).toNat
  | 0x20000 => v
  | 0x20004 =>
    if bitsOf v 9 5 < 27 ∧ bitsOf v 0 6 < sensorCount (bitsOf v 9 5) (bitAt v 8) then
      tempWord (x.sensors.get (sensorIx (bitsOf v 9 5) (bitAt v 8) (bitsOf v 0 6)))
    else 0
  | 0x20008 => x.xchkSel.toNat
  | 0x2000C => b2n k.suspect * 2 ^ 31 + b2n k.tripEst * 2 ^ 30 + k.xchkRun % 4
  | 0x20010 => k.xchkAd.toNat
  | 0x20014 => k.xchkEst.toNat
  | 0x20028 => x.coolant.toNat
  | 0x2002C => maskOf 8 (fun n => (s.shal n).pwr.suspect) * 2 ^ 16 + maskOf 8 (fun n => (s.shal n).pwr.hot) * 256 + maskOf 8 (fun n => (s.shal n).pwr.tripped)
  | 0x20030 => b2n x.nvOpen * 2 ^ 31 + x.mgmtTemp.toNat
  | 0x20034 => x.nvBlocked.toNat
  | _ => match inArray o 0x20018 4 with | some i => tempWord (x.th.get i) | none => 0

/-! ### SEC and EVENT (R474, R487) -/

/-- SEC_STATUS. -/
def Sec.statusWord (k : Sec) : Nat :=
  b2n k.sweepFail * 2 ^ 31 + b2n k.debug * 2 ^ 30 + b2n k.tenant.isSome * 2 ^ 29 + b2n k.oldLive * 2 ^ 28 +
  b2n ((k.tenant.map (fun t => t.exportOk)).getD false) * 2 ^ 27 + b2n k.rot * 2 ^ 5 + k.lifecycle % 8

/-- PENDING: a first signature lasts 600 s. -/
def State.pendingWord (s : State) : Nat :=
  match s.sec.pending with
  | none => 0
  | some p => 2 ^ 31 + (600 - (s.top.now - p.since) / 1000000000) * 2 ^ 16 + p.kind % 2 ^ 16

/-- SEC. -/
def State.secReg (s : State) (o : Nat) : Nat :=
  let k := s.sec
  let left := 2 ^ 40 - k.xmssNext
  match o with
  | 0x00 => k.statusWord
  | 0x04 => low k.policy
  | 0x08 => high k.policy
  | 0x0C => (k.owners.keys.filter (fun i => decide (i < 8))).length * 256 + maskOf 8 (fun i => k.owners.keys.contains i)
  | 0x10 => s.pendingWord
  | 0x14 => low k.changes
  | 0x18 => high k.changes
  | 0x1C => low k.epoch
  | 0x20 => high k.epoch
  | 0x24 => k.clients.length % 2 ^ 13
  | 0x28 => bitsOf left 0 32
  | 0x2C => bitsOf left 32 8
  | 0x30 => k.sweeps.toNat
  | 0x34 => k.integrityFails.toNat
  | 0x38 => k.refusals.toNat
  | _ => 0

/-- Is the full TAP of JTAG available: in MAKER_TEST and RETURNED (R476, R466)? -/
def Sec.jtagOpen (k : Sec) : Bool := k.lifecycle == 0 || k.lifecycle == 3

/-- MEWS_STATUS (R476, R487): SMBUS reads 1 while no controller has given an I3C address (DEDUCED, log 118). -/
def State.mewsWord (s : State) : Nat :=
  let m := s.mews
  min 0xFFFF m.drops * 2 ^ 16 + m.creds.keys.length % 256 * 2 ^ 8 + b2n s.sec.jtagOpen * 16 + b2n m.recovery * 8 + b2n m.i3c.isNone * 4 +
  b2n m.i3c.isSome * 2 + b2n m.rgmii

/-- EVENT. -/
def State.eventReg (s : State) (o : Nat) : Nat :=
  let e := s.ev
  match o with
  | 0x00 => low e.head
  | 0x04 => high e.head
  | 0x08 => e.hostTailLo.toNat
  | 0x0C => high e.hostTail
  | 0x10 => e.hostLost.toNat
  | 0x14 => b2n e.irqEn
  | 0x18 => s.mewsWord
  | _ =>
    if 0x10000 ≤ o ∧ o < 0x90000 then
      match e.ring.get ((o - 0x10000) / 64) with
      | some r => wordAt r.bytes ((o - 0x10000) % 64)
      | none => 0
    else 0

/-! ### The block map (R352, R355) -/

/-- The blocks of BAR0 (R355). -/
inductive Block where
  | top | hostif | image | cond | step
  | shallot (n : Nat)
  | pbl | lamp
  | mem (h : Nat)
  | gw (g : Nat)
  | sync | pwr | sec | event
deriving DecidableEq, Repr

/-- The block at a BAR0 offset, none where the offset is reserved. -/
def blockAt (o : Nat) : Option Block :=
  match o / 0x100000 with
  | 0 => some .top
  | 1 => some .hostif
  | 2 => some .image
  | 3 => some .cond
  | 4 => some .step
  | 0x10 => some .pbl
  | 0x11 => some .lamp
  | 0x12 => some (.mem (o / 0x10000 % 16))
  | 0x14 => some (.gw 0)
  | 0x15 => some (.gw 1)
  | 0x16 => some .sync
  | 0x18 => some .pwr
  | 0x1A => some .sec
  | 0x1C => some .event
  | n => if 8 ≤ n ∧ n < 16 then some (.shallot (n - 8)) else none

/-- Offset of a BAR0 offset inside its block. -/
def inBlock (o : Nat) : Nat := if o / 0x100000 = 0x12 then o % 0x10000 else o % 0x100000

/-- Does a block answer now (R352)? In OFF and PARKED only the management die has power. -/
def State.blockOpen (s : State) (b : Block) : Bool :=
  let on := s.top.state != .off && s.top.state != .parked
  let up := s.top.state != .bringup
  let p := s.top.phase
  match b with
  | .top | .pwr | .sec | .event => true
  | .hostif => on && (up || s.host.ready)
  | .image | .cond | .step => on && (up || s.top.phase3 || decide (5 ≤ p))
  | .pbl | .lamp => on && (up || decide (6 ≤ p))
  | .mem _ => on && (up || decide (7 ≤ p))
  | .gw _ | .sync => on && (up || decide (8 ≤ p))
  | .shallot _ => on && up

/-- What the register of a block at an offset inside it reads. -/
def State.blockReg (s : State) (b : Block) (o : Nat) : Nat :=
  match b with
  | .top => s.topReg o
  | .hostif => s.hostReg o
  | .image => s.imageReg o
  | .cond => s.condReg o
  | .step => s.stepReg o
  | .shallot n => (s.shal n).reg o
  | .pbl => s.pblReg o
  | .lamp => s.lampReg o
  | .mem h => s.memReg h o
  | .gw g => s.gwReg g o
  | .sync => s.syncReg o
  | .pwr => s.pwrReg o
  | .sec => s.secReg o
  | .event => s.eventReg o

/-- What a 4-byte read of a BAR0 offset returns. -/
def State.regRead (s : State) (o : Nat) : Word :=
  match blockAt o with
  | none => 0
  | some b => if s.blockOpen b then BitVec.ofNat 32 (s.blockReg b (inBlock o)) else 0

end Sys2Proof.Machine
end

