-- ==== Sys2Proof/Machine/RegWrite.lean ====
section
/-! DEFINITION. What a host write of each register does, by its access type and by the rules of the registers that have a behaviour of their own
(R8, R177, R237, R352, R353, R355, R357, R358, R364, R398, R421, R429, R486). -/
namespace Sys2Proof.Machine

/-! ### Registers with a behaviour of their own -/

/-- JOURNAL_TAIL_HI: the write applies the whole consumed count (R177, R188). -/
def State.setJournalTail (s : State) (v : Word) : State := { s with seq := { s.seq with tail := join32 v s.seq.tailLo } }

/-- HOST_TAIL_HI: the write applies the whole value (R486, R487). -/
def State.setHostTail (s : State) (v : Word) : State := { s with ev := { s.ev with hostTail := join32 v s.ev.hostTailLo } }

/-- ARB_CTRL: FREEZE of the arbiter that ARB_SEL names (R237, R249). -/
def State.setArbCtrl (s : State) (v : Word) : State :=
  let q := s.blv.selArb
  if arbExists q.1 q.2.1 q.2.2 then s.setFreeze q.1 q.2.1 q.2.2 (v.getLsbD 0) else s

/-- FREQ_TARGET of the shallot that CLK_SEL names (R421, R441). -/
def State.setFreqTarget (s : State) (v : Word) : State := s.setTarget (bitsOf s.pp.clkSel.toNat 0 3) v

/-- BAR2_TARGET: a region 0x0000 to 0x0FFF or 0xFFFE; a write that carries another value is ignored as a whole (R358). -/
def State.setBar2Target (s : State) (v : Word) : State :=
  let t := bitsOf v.toNat 0 16
  if t < 0x1000 ∨ t = 0xFFFE then { s with host := { s.host with bar2Target := v &&& 0x8000FFFF } } else s

/-- CMD_GO (R364). -/
def State.commandGo (s : State) (v : Word) : State :=
  if s.host.busy then { s with host := { s.host with overrun := satAdd s.host.overrun 1 } }
  else if v.getLsbD 0 then s.runOpcode { opcode := s.host.opcode.toNat, args := (upto 12).map s.host.args.get }
  else s

/-- A word of the MSI-X table: word 0 holds an aligned address and word 3 the mask bit alone (log 5); messages held back are sent when their
vector is unmasked (R357). -/
def State.setMsix (s : State) (i : Nat) (v : Word) : State :=
  let w := if i % 4 = 3 then (v &&& 1) ^^^ 1 else if i % 4 = 0 then v &&& 0xFFFFFFFC else v
  State.flushMsix { s with host := { s.host with msix := s.host.msix.set i w } }

/-! ### Writes by block -/

/-- A count of access type W1C after a write (R8). -/
def w1c (c v : Word) : Word := c &&& ~~~ v

/-- HOSTIF. -/
def State.hostSet (s : State) (o : Nat) (v : Word) : State :=
  let h := s.host
  match o with
  | 0x00 => if h.busy then s else { s with host := { h with opcode := v &&& 0xFF } }
  | 0x04 => s.commandGo v
  | 0x0C => { s with host := { h with overrun := w1c h.overrun v } }
  | 0x60 => { s with host := { h with refuseCount := v } }
  | 0x68 => s.setBar2Target v
  | 0x6C => { s with host := { h with bar2Offset := v } }
  | 0x70 => { s with host := { h with bar2Drops := w1c h.bar2Drops v } }
  | 0x74 => { s with host := { h with barErrors := w1c h.barErrors v } }
  | 0x78 => { s with host := { h with windowWaitUs := v } }
  | 0x80 => { s with host := { h with windowSel := v &&& 0x3F } }
  | _ =>
    match inArray o 0x10 12, inArray o 0x10000 256 with
    | some i, _ => if h.busy then s else { s with host := { h with args := h.args.set i v } }
    | _, some i => s.setMsix i v
    | _, _ => s

/-- COND. -/
def State.condSet (s : State) (o : Nat) (v : Word) : State :=
  let c := s.cond
  match o with
  | 0x0C => s.setMode v
  | 0x10 => { s with cond := { c with switches := w1c c.switches v } }
  | 0x18 => { s with cond := { c with stale := w1c c.stale v } }
  | 0x1C => { s with cond := { c with lateCount := w1c c.lateCount v } }
  | 0x24 => { s with cond := { c with resyncUs := v } }
  | _ => s

/-- STEP. -/
def State.stepSet (s : State) (o : Nat) (v : Word) : State :=
  let q := s.seq
  let n := bitsOf q.scaleSel.toNat 0 12
  match o with
  | 0x14 => { s with seq := { q with recoveryCount := v } }
  | 0x18 => { s with seq := { q with skewMax := v } }
  | 0x1C => { s with seq := { q with domainLate := v } }
  | 0x28 => { s with seq := { q with tailLo := v } }
  | 0x2C => s.setJournalTail v
  | 0x30 => { s with seq := { q with gapCount := v } }
  | 0x34 => { s with seq := { q with waitUs := v } }
  | 0x38 => { s with seq := { q with replayDrops := v } }
  | 0x80000 => { s with seq := { q with scaleSel := v &&& 0xFFF } }
  | 0x8000C => if (q.observers.get n).entry.isSome then { s with seq := { q with observers := q.observers.mod n (fun x => { x with satTotal := v }) } } else s
  | 0x80010 => { s with seq := { q with satReruns := v } }
  | 0x80014 => { s with seq := { q with satEvents := v } }
  | _ => s

/-- SHALLOTn, while it is powered. -/
def Shallot.write (h : Shallot) (o : Nat) (v : Word) : Shallot :=
  if h.powered then
    match o with
    | 0x1000C => { h with holdBeats := v }
    | 0x10010 => { h with waitHoldBeats := v }
    | 0x10014 => { h with wakeHoldBeats := v }
    | 0x10018 => { h with retryHoldBeats := v }
    | 0x1001C => { h with pauseBeats := v }
    | 0x10020 => { h with stopCount := v }
    | 0x10024 => { h with recessCount := v }
    | 0x10028 => { h with recessUs := v }
    | 0x1002C => { h with stretchCount := v }
    | 0x4000C => { h with missCount := v }
    | 0x40010 => { h with a32Count := v }
    | 0x40014 => { h with a192Count := v }
    | 0x40018 => { h with wideCount := v }
    | 0x50000 => { h with podSel := v &&& 0x1FF }
    | 0x50008 => { h with privHoldBeats := v }
    | 0x5000C => { h with wideHoldBeats := v }
    | 0x50010 => { h with recvHoldBeats := v }
    | 0x60004 => { h with vecSat := v }
    | 0x60008 => { h with vecDomain := v }
    | 0x6000C => { h with vecRange := v }
    | 0x70000 => { h with rowbondSel := v &&& 0x3FFF }
    | 0x70008 => { h with rowCheckFails := w1c h.rowCheckFails v }
    | 0x7000C => { h with rowRepairs := w1c h.rowRepairs v }
    | _ => h
  else h

/-- The counters of the requester that ARB_SEL and REQ_SEL name, changed. -/
def State.modReqCount (s : State) (f : ReqCount → ReqCount) : State :=
  let a := s.blv.selArb
  let r := bitsOf s.blv.reqSel.toNat 0 5
  if arbExists a.1 a.2.1 a.2.2 && decide (r < 27) then s.modArb (arbIx a.1 a.2.1 a.2.2) (fun b => { b with counts := b.counts.mod r f }) else s

/-- The street that STREET_SEL names, changed. -/
def State.modSelStreet (s : State) (f : Street → Street) : State :=
  let src := bitsOf s.blv.streetSel.toNat 5 5
  let dst := bitsOf s.blv.streetSel.toNat 0 5
  if streetWidth src dst = 0 then s else s.modStreet src dst f

/-- PBL. -/
def State.pblSet (s : State) (o : Nat) (v : Word) : State :=
  let b := s.blv
  match o with
  | 0x04 => { s with blv := { b with arbSel := v &&& 0xC0001F3F } }
  | 0x08 => s.setArbCtrl v
  | 0x10 => { s with blv := { b with reqSel := v &&& 0x1F } }
  | 0x14 => s.modReqCount (fun c => { c with grants := w1c c.grants v })
  | 0x18 => s.modReqCount (fun c => { c with waits := w1c c.waits v })
  | 0x1C => s.modReqCount (fun c => { c with longest := w1c c.longest v })
  | 0x20 => { s with blv := { b with ttIndex := v &&& 0xFFF } }
  | 0x28 => { s with blv := { b with streetSel := v &&& 0x3FF } }
  | 0x30 => s.modSelStreet (fun t => { t with retries := w1c t.retries v })
  | 0x34 => s.modSelStreet (fun t => { t with crcFails := w1c t.crcFails v })
  | 0x38 => { s with blv := { b with lockSel := v &&& 0x801FFFFF } }
  | 0x48 => { s with blv := { b with mapAck := v } }
  | 0x4C => { s with blv := { b with mapLost := w1c b.mapLost v } }
  | 0x50 => { s with blv := { b with mapCtrl := v &&& 1 } }
  | 0x200 => { s with blv := { b with bondSel := v &&& 0x80003F3F } }
  | 0x208 => { s with blv := { b with trainCount := w1c b.trainCount v } }
  | _ => match inArray o 0x60 32 with | some i => { s with blv := { b with mapDetail := b.mapDetail.set i (v &&& 0x8000FFFF) } } | none => s

/-- LAMP. -/
def State.lampSet (s : State) (o : Nat) (v : Word) : State :=
  let x := s.lamp
  match o with
  | 0x04 => { s with lamp := { x with sel := v &&& 0x1F } }
  | 0x18 => { s with lamp := { x with crossfades := w1c x.crossfades v } }
  | 0x1C => { s with lamp := { x with forced := w1c x.forced v } }
  | 0x24 => { s with lamp := { x with groupSel := v &&& 0x801FFFFF } }
  | 0x2C => { s with lamp := { x with calFails := w1c x.calFails v } }
  | _ => s

/-- MEM, one stack. -/
def Stack.write (m : Stack) (o : Nat) (v : Word) : Stack :=
  match o with
  | 0x08 => { m with ce := w1c m.ce v }
  | 0x0C => { m with odecc := w1c m.odecc v }
  | 0x10 => { m with ue := w1c m.ue v }
  | 0x24 => { m with combineHits := w1c m.combineHits v }
  | 0x28 => { m with combineFull := w1c m.combineFull v }
  | 0x2C => { m with atomics := w1c m.atomics v }
  | 0x30 => { m with a96Ovf := w1c m.a96Ovf v }
  | _ => m

/-- GWn, the registers of the gateway itself. -/
def Gateway.write (w : Gateway) (o : Nat) (v : Word) : Gateway :=
  let e := bitsOf w.engineSel.toNat 0 4
  match o with
  | 0x04 => { w with portSel := v &&& 0x3F }
  | 0x1C => { w with resends := w1c w.resends v }
  | 0x20 => { w with routeSel := v &&& 0x7FF }
  | 0x30 => { w with svcAdmitted := w1c w.svcAdmitted v }
  | 0x34 => { w with svcBusy := w1c w.svcBusy v }
  | 0x38 => { w with svcRejected := w1c w.svcRejected v }
  | 0x3C => { w with dgrams := w1c w.dgrams v }
  | 0x40 => { w with withheld := w1c w.withheld v }
  | 0x10000 => { w with engineSel := v &&& 0xF }
  | 0x10008 => { w with sent := w.sent.mod e (fun c => w1c c v) }
  | 0x1000C => { w with resent := w.resent.mod e (fun c => w1c c v) }
  | 0x10010 => { w with refusedTx := w1c w.refusedTx v }
  | 0x10014 => { w with busyTx := w1c w.busyTx v }
  | 0x10018 => { w with duplicates := w1c w.duplicates v }
  | 0x1001C => { w with combined := w1c w.combined v }
  | 0x10020 => { w with fenceTimeouts := w1c w.fenceTimeouts v }
  | 0x10024 => { w with late := w1c w.late v }
  | 0x10028 => { w with badPackets := w1c w.badPackets v }
  | _ => w

/-- GWn, the counts of the selected sub-port. -/
def SubPort.write (p : SubPort) (o : Nat) (v : Word) : SubPort :=
  match o with
  | 0x0C => { p with rx := w1c p.rx v }
  | 0x10 => { p with tx := w1c p.tx v }
  | 0x14 => { p with drops := w1c p.drops v }
  | 0x18 => { p with fec := w1c p.fec v }
  | _ => p

/-- GWn. -/
def State.gwSet (s : State) (g o : Nat) (v : Word) : State :=
  let sub := 64 * g + bitsOf (s.net.gw.get g).portSel.toNat 0 6
  (s.modGw g (fun w => w.write o v)).modPort sub (fun p => p.write o v)

/-- SYNC. -/
def State.syncSet (s : State) (o : Nat) (v : Word) : State :=
  match o with
  | 0x00 => { s with net := { s.net with tallySel := v &&& 0x1FFFFF } }
  | 0x14 => { s with net := { s.net with releases := w1c s.net.releases v } }
  | _ => s

/-- PWR, CLK and THERM. -/
def State.pwrSet (s : State) (o : Nat) (v : Word) : State :=
  let x := s.pp
  let c := bitsOf x.clkSel.toNat 0 3
  let p := bitsOf x.pwrSel.toNat 0 3
  match o with
  | 0x00000 => { s with pp := { x with clkSel := v &&& 7 } }
  | 0x00004 => s.setFreqTarget v
  | 0x00014 => s.modClk c (fun k => { k with downCount := w1c k.downCount v })
  | 0x00018 => s.modClk c (fun k => { k with upCount := w1c k.upCount v })
  | 0x0001C => s.modClk c (fun k => { k with droopCount := w1c k.droopCount v })
  | 0x10000 => s.setSlew false v
  | 0x10004 => s.setSlew true v
  | 0x10008 => { s with pp := { x with pwrSel := v &&& 7 } }
  | 0x1001C => s.modPwr p (fun k => { k with wakeDefer := w1c k.wakeDefer v })
  | 0x10020 => s.modPwr p (fun k => { k with forecastLate := w1c k.forecastLate v })
  | 0x10024 => s.modPwr p (fun k => { k with vrLimitUs := v, vrSince := s.top.now })
  | 0x10028 => { s with pp := { x with railSel := v &&& 0xF } }
  | 0x20000 => { s with pp := { x with sensorSel := v &&& 0x3F3F } }
  | 0x20008 => { s with pp := { x with xchkSel := v &&& 7 } }
  | 0x20028 => { s with pp := { x with coolant := v &&& 0xFFFF } }
  | 0x20034 => { s with pp := { x with nvBlocked := w1c x.nvBlocked v } }
  | _ => s

/-- EVENT. -/
def State.eventSet (s : State) (o : Nat) (v : Word) : State :=
  let e := s.ev
  match o with
  | 0x08 => { s with ev := { e with hostTailLo := v } }
  | 0x0C => s.setHostTail v
  | 0x10 => { s with ev := { e with hostLost := w1c e.hostLost v } }
  | 0x14 => { s with ev := { e with irqEn := v.getLsbD 0 } }
  | _ => s

/-- A write of the register of a block at an offset inside it. -/
def State.blockSet (s : State) (b : Block) (o : Nat) (v : Word) : State :=
  match b with
  | .top | .sec => s
  | .hostif => s.hostSet o v
  | .image => if o = 0x1C then { s with img := { s.img with refuseCount := v } } else s
  | .cond => s.condSet o v
  | .step => s.stepSet o v
  | .shallot n => s.modSh n (fun h => h.write o v)
  | .pbl => s.pblSet o v
  | .lamp => s.lampSet o v
  | .mem h => s.modMem h (fun m => m.write o v)
  | .gw g => s.gwSet g o v
  | .sync => s.syncSet o v
  | .pwr => s.pwrSet o v
  | .event => s.eventSet o v

/-- A 4-byte write of a BAR0 offset: a reserved offset and a block without power ignore it (R7, R352). -/
def State.regWrite (s : State) (o : Nat) (v : Word) : State :=
  match blockAt o with
  | none => s
  | some b => if s.blockOpen b then s.blockSet b (inBlock o) v else s

/-! ### Host writes (R353, R355) -/

/-- A host write to a block: it reaches the package and the block answers. -/
def State.hostWrites (s : State) (b : Block) (f : State → State) : State := if s.hostReaches && s.blockOpen b then f s else s

/-- A BAR0 access of a wrong size or alignment (R355). -/
def State.badAccess (s : State) (write : Bool) : State :=
  let t := { s with host := { s.host with barErrors := satAdd s.host.barErrors 1 } }
  if write then t else t.emit .completerAbort

/-- BAR0_BAD_ACCESS (R355). -/
def execBar0BadAccess (write : Bool) (s : State) : Res := .next (if s.hostReaches then s.badAccess write else s)

/-- REGISTER_WRITE (R8, R355): 4 bytes, or 8 bytes as two writes, lower address first. -/
def execRegisterWrite (off : BitVec 26) (v : BitVec 32) (hi : Option (BitVec 32)) (s : State) : Res :=
  let o := off.toNat
  if !s.hostReaches then .next s
  else match hi with
    | none => .next (if o % 4 = 0 then s.regWrite o v else s.badAccess true)
    | some h => .next (if o % 8 = 0 then (s.regWrite o v).regWrite (o + 4) h else s.badAccess true)

/-- JOURNAL_TAIL_WRITE (R177, R188). -/
def execJournalTailWrite (v : BitVec 32) (s : State) : Res := .next (s.hostWrites .step (fun t => t.setJournalTail v))

/-- HOST_TAIL_WRITE (R486, R487). -/
def execHostTailWrite (v : BitVec 32) (s : State) : Res := .next (s.hostWrites .event (fun t => t.setHostTail v))

/-- BAR2_TARGET_WRITE (R358). -/
def execBar2TargetWrite (v : BitVec 32) (s : State) : Res := .next (s.hostWrites .hostif (fun t => t.setBar2Target v))

/-- FREEZE_WRITE (R237, R249): bit 0 stops or resumes every grant of the arbiter that ARB_SEL selects. -/
def execFreezeWrite (v : BitVec 32) (s : State) : Res := .next (s.hostWrites .pbl (fun t => t.setArbCtrl v))

/-- FREQ_TARGET_WRITE (R421, R441): acts on the shallot that CLK_SEL names. -/
def execFreqTargetWrite (v : BitVec 32) (s : State) : Res := .next (s.hostWrites .pwr (fun t => t.setFreqTarget v))

/-- MODE_WRITE (R395, R398): ignored outside IDLE. -/
def execModeWrite (v : BitVec 32) (s : State) : Res := .next (s.hostWrites .cond (fun t => t.setMode v))

/-- SLEW_BUDGET_WRITE (R429): SLEW_BUDGET, or PKG_SLEW; ignored while RUNNING. -/
def execSlewBudgetWrite (pkg : Bool) (v : BitVec 32) (s : State) : Res := .next (s.hostWrites .pwr (fun t => t.setSlew pkg v))

end Sys2Proof.Machine
end

