-- ==== Sys2Proof/Machine/Bar2.lean ====
section
/-! DEFINITION. The window of BAR2 onto memory regions and the incoming staging half (R192, R283, R358, R359). -/
namespace Sys2Proof.Machine

/-- What BAR2 reaches in the present state (R358, R359). -/
inductive Bar2View where
  /-- reads return zero and writes are dropped -/
  | closed
  /-- a RUN region by its number; writes are dropped unless the flag is set -/
  | region (n : Nat) (r : Region) (write : Bool)
  /-- the incoming staging half -/
  | staging
deriving DecidableEq, Repr

/-- The view by ENABLE, target and state (R359). -/
def State.bar2View (s : State) : Bar2View :=
  let t := bitsOf s.host.bar2Target.toNat 0 16
  if !s.host.bar2Target.getLsbD 31 then .closed
  else if t = 0xFFFE then
    (match s.top.state with | .idle | .loaded | .running => .staging | _ => .closed)
  else match s.region t with
    | none => .closed
    | some r =>
      if r.session then .closed
      else match s.top.state with
        | .loaded => .region t r true
        | .running | .faulted => .region t r false
        | _ => .closed

/-- Bytes of the target. -/
def State.bar2Size (s : State) : Bar2View → Nat
  | .closed => 0
  | .region _ r _ => r.size
  | .staging => s.img.stagingMiB * 2 ^ 20

/-- A dropped write or a zeroed read is counted, and raised at the first of each second (R359). -/
def State.bar2Drop (s : State) : State :=
  let t := { s with host := { s.host with bar2Drops := satAdd s.host.bar2Drops 1 } }
  if s.host.lastDrop = some s.second then t else { t with host := { t.host with lastDrop := some s.second } }.raise 0x6005 24 0 []

/-- The target's byte of BAR2 offset `x` (R358). -/
def State.bar2Byte (s : State) (x : Nat) : Nat := s.host.bar2Offset.toNat * 2 ^ 20 + x

/-- The bytes of a read that lie inside the target; none where memory fails them (R283). Of the staging half the spec gives no place, so such an
error is counted at no stack (log 65). -/
def State.bar2Bytes (s : State) (v : Bar2View) (o n : Nat) (env : MemEnv) : State × Option (List Byte) :=
  match v with
  | .closed => (s, some [])
  | .region k r _ => s.readRegion r k o n 24 env false
  | .staging => (s, if n != 0 && env.faults.any (fun f => f.fails) then none else some (s.img.incoming.getRun o n))

/-- BAR2_READ (R283, R359): bytes past the end of the target read zero. -/
def execBar2Read (off : BitVec 36) (len : Nat) (env : MemEnv) (s : State) : Res :=
  if s.hostReaches && s.blockOpen .hostif then
    let v := s.bar2View
    let o := s.bar2Byte off.toNat
    let n := min len (s.bar2Size v - o)
    let a := s.bar2Bytes v o n env
    match a.2 with
    | none => .next (a.1.emit .completerAbort)
    | some bs => .next ((if n < len then a.1.bar2Drop else a.1).emit (.readData (bs ++ List.replicate (len - n) 0)))
  else .next s

/-- Bytes written into a region unit by unit (with fuel from the length): a part of a lost unit is dropped, and counted as an uncorrectable
error (R283). -/
def State.bar2Region (r : Region) (k : Nat) : Nat → Nat → List Byte → State → State
  | 0, _, _, s => s
  | fuel + 1, o, bs, s =>
    if bs.isEmpty then s
    else
      let n := 64 - o % 64
      let a := s.writeUnit r k (o / 64) (o % 64) (bs.take n)
      let t := if a.2 then a.1 else (a.1.modMem (r.locate o).1 (fun m => { m with ue := satAdd m.ue 1 })).bar2Drop
      State.bar2Region r k fuel (o + n) (bs.drop n) t

/-- The bytes of a write that lie inside the target are applied. -/
def State.bar2Apply (s : State) (v : Bar2View) (o : Nat) (bs : List Byte) : State :=
  match v with
  | .region k r true => s.bar2Region r k (bs.length + 1) o bs
  | .staging => { s with img := s.img.setIncoming (s.img.incoming.setRun o bs) }
  | _ => s

/-- Does the view take writes? -/
def Bar2View.writes : Bar2View → Bool
  | .region _ _ w => w
  | .staging => true
  | .closed => false

/-- BAR2_WRITE (R359): bytes past the end of the target are dropped. -/
def execBar2Write (off : BitVec 36) (data : List (BitVec 8)) (s : State) : Res :=
  if s.hostReaches && s.blockOpen .hostif then
    let v := s.bar2View
    let o := s.bar2Byte off.toNat
    let n := if v.writes then min data.length (s.bar2Size v - o) else 0
    let t := s.bar2Apply v o (data.take n)
    .next (if n < data.length then t.bar2Drop else t)
  else .next s

/-- EVENT_IRQ_TIMER (R487): the 10 µs have passed; a request that was held back is signalled once, if records still wait. -/
def execEventIrqTimer (s : State) : Res :=
  let e := s.ev
  if e.irqPending && e.irqEn && decide (e.hostTail.toNat < e.head.toNat) then
    .next ({ s with ev := { e with irqPending := false, holdOff := true } }.msix s.eventVector)
  else .next { s with ev := { e with irqPending := false, holdOff := false } }

end Sys2Proof.Machine
end

