-- ==== Sys2Proof/Machine/Heat.lean ====
section
/-! DEFINITION. Rail supervision and the temperature limits (R425, R426, R435 to R438). -/
namespace Sys2Proof.Machine

/-! ### Rails (R425, R426) -/

/-- Nominal voltage of a rail in mV: by RAIL_SEL, then VDD_AON, VDD_IO 1.8 V and VDD_IO 3.3 V; VDD_ADn by its set point (R425, R441). -/
def State.railNominal (s : State) (rail : Nat) : Nat :=
  if rail < 8 then (s.shal rail).clk.setPoint
  else match rail with
    | 8 => 750 | 9 => 1050 | 10 => 750 | 11 => 800 | 12 => 1800 | 13 => 2500 | 14 => 750 | 15 => 1200 | 16 => 750 | 17 => 1800 | _ => 3300

/-- Is a reading outside the total tolerance: −5 % and +3 % of the set point for VDD_ADn, ±5 % for the others (R425)? -/
def railOut (rail nominal mv : Nat) : Bool :=
  decide (mv * 100 < nominal * 95) || decide (nominal * (if rail < 8 then 103 else 105) < mv * 100)

/-- Are the main rails on and past phase 2 of a bring-up? -/
def State.mainRails (s : State) : Bool :=
  s.top.aon && !s.top.pkgRst && s.top.state != .off && s.top.state != .parked && (s.top.state != .bringup || decide (3 ≤ s.top.phase))

/-- A rail fault (R426). -/
def State.railFault (s : State) (rail : Nat) : State :=
  let t := s.raise 0x9002 (if rail < 8 then rail else 26) 0 [BitVec.ofNat 8 rail]
  if rail < 8 then t.fence rail
  else if 16 ≤ rail then t.aonLost (decide (16 < rail))
  else if t.top.state = .faulted then t else t.toFaulted true

/-- The readings of a VDD_ADn of the last 1 ms (R441). -/
def ShClock.reading (c : ShClock) (now mv : Nat) : ShClock := { c with volts := (c.volts.filter (fun v => decide (now < v.1 + 1000000))) ++ [(now, mv)] }

/-- RAIL_CHECK (R426): a rail's voltage in mV and current in A; the third reading in a row out of tolerance is a rail fault. A rail that is off
is not judged. -/
def execRailCheck (rail : Fin 19) (mv amps : BitVec 16) (s : State) : Res :=
  let k := rail.val
  let t := if k < 16 then { s with pp := { s.pp with rails := s.pp.rails.set k (amps ++ mv) } } else s
  let t := if k < 8 then t.modClk k (fun c => c.reading s.top.now mv.toNat) else t
  let nominal := s.railNominal k
  if nominal != 0 && (if k < 16 then s.mainRails else s.top.aon) then
    let run := if railOut k nominal mv.toNat then min 3 (s.pp.railRuns.get k + 1) else 0
    let t := { t with pp := { t.pp with railRuns := t.pp.railRuns.set k run } }
    .next (if run = 3 ∧ s.pp.railRuns.get k < 3 then t.railFault k else t)
  else .next t

/-! ### The cross-check of an AD (R437, R438) -/

/-- The estimate E in 1/128 °C: the mean of T_SD and THERMO_Sn, with θ of 0.040 and 0.030 K/W and P in 0.25 W (R437). -/
def xchkEstimate (sd thermo : Half) (p : Nat) : Int := ((sd.toInt + thermo.toInt) * 100 + 224 * (p : Int)) / 200

/-- E of a shallot, where both neighbours read. -/
def State.estimate (s : State) (n p : Nat) : Option Int :=
  match s.hottest n true 0 16, (s.shal n).pwr.thermo with
  | some sd, some th => some (xchkEstimate sd th p)
  | _, _ => none

/-- One cross-check: XCHK registers, the run of low readings, and suspicion at the third (R438). -/
def ShPower.xchk (p : ShPower) (ad : Option Half) (e : Option Int) : ShPower :=
  let low := match ad, e with | some a, some e => decide (a.toInt + 8 * 128 < e) | _, _ => false
  let run := if low then min 3 (p.xchkRun + 1) else 0
  let sus := p.suspect || decide (run = 3)
  { p with xchkRun := run, xchkAd := ad.getD p.xchkAd, xchkEst := (e.map (BitVec.ofInt 16)).getD p.xchkEst, suspect := sus, suspectNew := sus && !p.suspect }

/-- The effective temperature of an AD: the estimate plus 5 K while its sensors are suspect from an earlier check, or none of them is valid
(R420, R435, R438). -/
def effectiveAd (suspect : Bool) (ad : Option Half) (e : Option Int) : Option Int :=
  match suspect, ad, e with
  | false, some a, _ => some a.toInt
  | _, _, some e => some (e + 5 * 128)
  | true, some a, none => some a.toInt
  | _, none, none => none

/-- The higher of two temperatures that may be missing. -/
def hotter (a b : Option Int) : Option Int :=
  match a, b with
  | some x, some y => some (max x y)
  | some x, none => some x
  | none, y => y

/-! ### Shallots (R435, R436) -/

/-- The heat duty from T in 1/128 °C (R436). -/
def heatDuty (t : Int) (old : Nat) : Nat :=
  if 105 * 128 ≤ t then min 56 (8 * (((t - 105 * 128) / 128).toNat + 1)) else if t < 103 * 128 then 0 else old

/-- A trip: the shallot is FENCED and unpowered (R435, R436). -/
def State.tripShallot (s : State) (n : Nat) (byEstimate : Bool) : State :=
  let t := (s.raise 0xA003 n 0 (leBytes 2 (BitVec.ofInt 16 (s.shal n).pwr.temp).toNat)).fence n
  (t.modSh n (fun h => { h with
    powered := false, pwr := { h.pwr with tripped := true, tripAt := s.top.now, tripEst := h.pwr.tripEst || byEstimate } })).startClocks

/-- The warning at 95 °C, once per step (R435). -/
def State.warnShallot (s : State) (n : Nat) : State :=
  if s.seq.once.warning.contains n then s
  else { s with seq := { s.seq with once := { s.seq.once with warning := s.seq.once.warning ++ [n] } } }.raise 0xA001 n 0
    (leBytes 2 (BitVec.ofInt 16 (s.shal n).pwr.temp).toNat)

/-- The check of one shallot with the AD power of its activity (R435 to R438). -/
def State.checkShallot (s : State) (n p : Nat) : State :=
  let ad := s.hottest n false 0 32
  let e := s.estimate n p
  let old := (s.shal n).pwr
  let t := s.modPwr n (fun q => q.xchk ad e)
  let t := if (t.shal n).pwr.suspectNew then t.raise 0xA004 n 0 (leBytes 2 ((ad.map BitVec.toNat).getD 0)) else t
  match hotter (effectiveAd old.suspect ad e) ((s.hottest n true 0 16).map BitVec.toInt) with
  | none => t
  | some x =>
    let t := t.modPwr n (fun q => { q with temp := x, hot := decide (95 * 128 < x) })
    if (s.shal n).powered && !old.tripped then
      let t := t.modPwr n (fun q => { q with dutyHeat := heatDuty x q.dutyHeat })
      let t := if 95 * 128 ≤ x then t.warnShallot n else t
      let est := match e with | some e => decide (115 * 128 < e) | none => false
      if 115 * 128 ≤ x ∨ est = true then t.tripShallot n est else t
    else t

/-! ### Stacks (R435) -/

/-- The stack duty of a core-die temperature in 1/128 °C (R435). -/
def stackDuty (t : Int) : Nat := if 95 * 128 < t then min 48 (16 + 8 * ((t - 95 * 128) / 128).toNat) else 0

/-- A stack trip: the execution ends as R155 gives, and the package moves to LOADED (R435). -/
def State.tripStack (s : State) (h : Nat) (t : Half) : State :=
  let u := (s.modMem h (fun m => { m with refreshOnly := true })).raise 0xA003 (8 + h) 0 (leBytes 2 t.toNat)
  if u.top.state = .running then
    if u.executing then u.endExec .other
    else match u.seq.phase with
      | .commit => { u with seq := { u.seq with leave := true } }
      | .restore => { u with seq := { u.seq with exe := { u.seq.exe with verdict := some (.fail 3) } } }
      | _ => u.toLoaded
  else u

/-- The check of one stack: MEM_STATUS.HOT with its event, the trip at 105 °C, and its end below 95 °C (R289, R435). -/
def State.checkStack (s : State) (h : Nat) : State :=
  match s.hottest (8 + h) false 8 56 with
  | none => s
  | some t =>
    let hot := decide (95 * 128 < t.toInt)
    let u := s.modMem h (fun m => { m with hot := decide (85 * 128 < t.toInt), above95 := hot, refreshOnly := m.refreshOnly && decide (95 * 128 ≤ t.toInt) })
    let u := if hot && !(s.mem.get h).above95 then u.raise 0x4008 (8 + h) 0 (leBytes 2 t.toNat) else u
    if 105 * 128 ≤ t.toInt ∧ (s.mem.get h).refreshOnly = false then u.tripStack h t else u

/-- The stack duty of every placed shallot follows the hottest stack (R435). -/
def State.stackDuties (s : State) : State :=
  let d := maxOf ((upto 16).map (fun h => match s.hottest (8 + h) false 8 56 with | some t => stackDuty t.toInt | none => 0))
  s.eachShallot (fun _ h => { h with pwr := { h.pwr with dutyStack := if h.placed then d else 0 } })

/-! ### The other dies (R435) -/

/-- Does a die reach a limit in °C? -/
def reaches (t : Option Half) (limit : Int) : Bool := match t with | some x => decide (limit * 128 ≤ x.toInt) | none => false

/-- A gate die, a gateway or the Boulevard electronics at 115 °C: FAULTED, with the hardware in doubt (R391, R435). -/
def State.dieHot (s : State) (plaza : Nat) (t : Option Half) : State :=
  if reaches t 115 && s.top.state != .faulted then (s.raise 0xA003 plaza 0 (leBytes 2 ((t.map BitVec.toNat).getD 0))).toFaulted true else s

/-- The management die at 125 °C (R435). In OFF, and in PARKED with nothing left to destroy, the state stays (log 62). -/
def State.managementHot (s : State) : State :=
  if reaches (s.hottest 26 false 0 4) 125 then
    if s.top.state = .off then { s with mews := { s.mews with creds := {} } }
    else if s.top.state = .parked ∧ s.mews.creds.cells.isEmpty ∧ s.sec.tenant.isNone then s
    else s.dieTrip
  else s

/-- THERMAL_CHECK (R435 to R438): every 100 µs the effective temperatures meet their limits; `activity` is the AD power of the last
100 µs by shallot, and `boulevard` the hottest reading of the Boulevard electronics. -/
def execThermalCheck (activity : List Activity) (boulevard : Option (BitVec 16)) (s : State) : Res :=
  let power := fun (n : Nat) => ((activity.find? (fun a => a.sh.val == n)).map (fun a => a.power.toNat)).getD 0
  let t := if s.mainRails then
      let t := shallotNums.foldl (fun (t : State) n => t.checkShallot n (power n)) s
      let t := ((upto 16).foldl State.checkStack t).stackDuties
      let t := (fromN 8 18).foldl (fun (t : State) p => t.dieHot p (t.hottest p false 0 8)) t
      t.dieHot pkgPlaza boulevard
    else s
  .next t.managementHot

end Sys2Proof.Machine
end

