-- ==== Sys2Proof/Machine/MewsCmds.lean ====
section
/-! DEFINITION. Mews requests that read, acknowledge, stage and set, FIELD_TEST, and the MCTP endpoint (R192, R208, R246, R392, R421, R476, R477,
R481, R484, R486, R502). The layouts of the bodies are the model's (log 63). -/
namespace Sys2Proof.Machine

/-! ### Public and Read requests (R481, R484, R486) -/

/-- GET_INFO in the table of R481. -/
def opGetInfo : MewsOp := { code := 0x01, cls := .anyone, accept := 0xFF, recovery := true }
/-- REG_READ in the table of R481. -/
def opRegRead : MewsOp := { code := 0x10, cls := .reader, accept := 0xFF, recovery := true }
/-- EVENT_READ in the table of R481. -/
def opEventRead : MewsOp := { code := 0x11, cls := .reader, accept := 0xFF, recovery := true }
/-- EVENT_ACK in the table of R481. -/
def opEventAck : MewsOp := { code := 0x12, cls := .reader, accept := 0xFF }
/-- MAP_READ in the table of R481. -/
def opMapRead : MewsOp := { code := 0x13, cls := .reader, accept := 0xFE }
/-- MAP_ACK in the table of R481. -/
def opMapAck : MewsOp := { code := 0x14, cls := .reader, accept := 0xFE }

/-- The next SEQ that a slot needs. -/
def Mews.nextSeq (m : Mews) (slot : Nat) : Nat := match m.seqs.get slot with | none => 0 | some x => x.toNat + 1

/-- The body of GET_INFO's response: VERSION, IDENTITY, STATE, life-cycle, governance, BOOT, next SEQ of the 16 slots. -/
def State.infoBody (s : State) : List Byte :=
  [1] ++ leBytes 4 s.top.identity.toNat ++ [BitVec.ofNat 8 s.top.state.code, BitVec.ofNat 8 s.sec.lifecycle, BitVec.ofNat 8 (b2n s.sec.rot)] ++
  s.mews.bootBytes ++ (upto 16).flatMap (fun i => leBytes 8 (s.mews.nextSeq i))

/-- GET_INFO: no body. -/
def execGetInfo (m : MewsReq) (s : State) : Res :=
  .next (s.mewsServe opGetInfo m (m.body.length != 0) (fun t => t.mewsAnswer opGetInfo m .ok t.infoBody))

/-- Is a BAR0 offset that of a select register (R484)? -/
def isSelect (o : Nat) : Bool :=
  match blockAt o with
  | some .hostif => inBlock o == 0x80
  | some .step => inBlock o == 0x80000
  | some (.shallot _) => inBlock o == 0x50000 || inBlock o == 0x70000
  | some .pbl => [0x04, 0x10, 0x20, 0x28, 0x38, 0x200].contains (inBlock o)
  | some .lamp => inBlock o == 0x04 || inBlock o == 0x24
  | some (.gw _) => [0x04, 0x20, 0x10000].contains (inBlock o)
  | some .sync => inBlock o == 0
  | some .pwr => [0x00000, 0x10008, 0x10028, 0x20000, 0x20008].contains (inBlock o)
  | _ => false

/-- The select pairs of a REG_READ body: after the BAR0 offset and the count, 4 bytes each. -/
def selectPairs (b : List Byte) : List (Nat × Nat) := (chunks 8 (b.drop 8)).map (fun (c : List Byte) => (bodyNum c 0 4, bodyNum c 4 4))

/-- A malformed REG_READ: a count outside 1 to 64, a misaligned or wrong offset, more than 4 pairs, or a pair of no select register. -/
def regReadBad (b : List Byte) : Bool :=
  let n := bodyNum b 4 4
  decide (b.length < 8) || b.length % 8 != 0 || decide (40 < b.length) || n == 0 || decide (64 < n) || bodyNum b 0 4 % 4 != 0 ||
  decide (2 ^ 26 < bodyNum b 0 4 + 4 * n) || (selectPairs b).any (fun p => !isSelect p.1)

/-- The registers that REG_READ returns: the pairs move a private copy of the selects (R484). -/
def State.regReadBody (s : State) (b : List Byte) : List Byte :=
  let t := (selectPairs b).foldl (fun (t : State) p => t.regWrite p.1 (BitVec.ofNat 32 p.2)) s
  (upto (bodyNum b 4 4)).flatMap (fun i => leBytes 4 (t.regRead (bodyNum b 0 4 + 4 * i)).toNat)

/-- REG_READ. -/
def execRegRead (m : MewsReq) (s : State) : Res :=
  .next (s.mewsServe opRegRead m (regReadBad m.body) (fun t => t.mewsAnswer opRegRead m .ok (t.regReadBody m.body)))

/-- The first record that EVENT_READ returns: the oldest held where the ring holds the given one no longer (R486). -/
def EventLog.firstFrom (e : EventLog) (seq : Nat) : Nat := max (max 1 seq) (e.head.toNat - 8191)

/-- FIRST_SEQ and up to 64 records. -/
def EventLog.readBody (e : EventLog) (seq : Nat) : List Byte :=
  let first := e.firstFrom seq
  leBytes 8 first ++ (fromN first (min 64 (e.head.toNat + 1 - first))).flatMap (fun k =>
    match e.ring.get (k % 8192) with | some r => r.bytes | none => [])

/-- EVENT_READ: a SEQ of 8 bytes. -/
def execEventRead (m : MewsReq) (s : State) : Res :=
  .next (s.mewsServe opEventRead m (m.body.length != 8) (fun t => t.mewsAnswer opEventRead m .ok (t.ev.readBody (bodyNum m.body 0 8))))

/-- EVENT_ACK: the Mews tail of 8 bytes (R486). -/
def execEventAck (m : MewsReq) (s : State) : Res :=
  .next (s.mewsServe opEventAck m (m.body.length != 8) (fun t =>
    State.mewsAnswer { t with ev := { t.ev with mewsTail := BitVec.ofNat 64 (bodyNum m.body 0 8) } } opEventAck m .ok []))

/-- MAP_READ: map 0 or 1 (4 bytes), offset and length (4 bytes each), at most 16,384 bytes within the 256 KiB of a window. -/
def mapReadBad (b : List Byte) : Bool :=
  b.length != 12 || decide (1 < bodyNum b 0 4) || decide (2 ^ 18 < bodyNum b 4 4 + bodyNum b 8 4) || decide (16384 < bodyNum b 8 4)

/-- Bytes of MAP0 or MAP1, which read zero while the Boulevard has no power. -/
def State.mapReadBody (s : State) (b : List Byte) : List Byte :=
  let m := if s.blockOpen .pbl then (if bodyNum b 0 4 = 0 then s.blv.map0 else s.blv.map1) else []
  let n := bodyNum b 8 4
  let p := (m.drop (bodyNum b 4 4)).take n
  p ++ List.replicate (n - p.length) 0

/-- MAP_READ (R246). -/
def execMapRead (m : MewsReq) (s : State) : Res :=
  .next (s.mewsServe opMapRead m (mapReadBad m.body) (fun t => t.mewsAnswer opMapRead m .ok (t.mapReadBody m.body)))

/-- MAP_ACK: the number of 4 bytes that PBL.MAP_ACK takes (R246, R481). -/
def execMapAck (m : MewsReq) (s : State) : Res :=
  .next (s.mewsServe opMapAck m (m.body.length != 4) (fun t =>
    (t.regWrite 0x1000048 (BitVec.ofNat 32 (bodyNum m.body 0 4))).mewsAnswer opMapAck m .ok []))

/-! ### Operate requests (R192, R208, R392, R421, R476, R481) -/

/-- STAGE_WRITE in the table of R481. -/
def opStageWrite : MewsOp := { code := 0x21, cls := .operator, accept := 0x38 }
/-- TIME_SOURCE in the table of R481. -/
def opTimeSource : MewsOp := { code := 0x22, cls := .operator, accept := 0x18 }
/-- FREQ_SET in the table of R481. -/
def opFreqSet : MewsOp := { code := 0x23, cls := .operator, accept := 0x3C }
/-- CONDUCTOR_RESET in the table of R481. -/
def opConductorReset : MewsOp := { code := 0x24, cls := .operator, accept := 0x38 }
/-- FIELD_TEST in the table of R481. -/
def opFieldTest : MewsOp := { code := 0x25, cls := .operator, accept := 0x08 }
/-- MGMT_NET_SET in the table of R481. -/
def opMgmtNetSet : MewsOp := { code := 0x26, cls := .operator, accept := 0x3E }

/-- MEWS_STAGE_WRITE: an offset of 8 bytes, then the bytes; nothing is written where they would pass the end of the half (R192). -/
def execMewsStageWrite (m : MewsReq) (s : State) : Res :=
  .next (s.mewsRun opStageWrite m (decide (m.body.length < 8)) (fun t =>
    match t.stageBytes (bodyNum m.body 0 8) (m.body.drop 8) with
    | none => t.endCmd .badArgument []
    | some u => u.endCmd .ok []))

/-- TIME_SOURCE: no body; refused while the image claims SYNC_IO (R208, R483). -/
def execTimeSource (m : MewsReq) (s : State) : Res :=
  .next (s.mewsRun opTimeSource m (m.body.length != 0) (fun t =>
    if (t.img.image.bind (fun i => i.claimOf 1 0)).isSome then t.endCmd .claimed []
    else State.endCmd { t with mews := { t.mews with timeSource := true } } .ok []))

/-- FREQ_SET: the shallot and its target code, one byte each (R421). -/
def execFreqSet (m : MewsReq) (s : State) : Res :=
  .next (s.mewsRun opFreqSet m (m.body.length != 2 || decide (7 < bodyAt m.body 0) || decide (127 < bodyAt m.body 1)) (fun t =>
    (t.setTarget (bodyAt m.body 0) (BitVec.ofNat 32 (bodyAt m.body 1))).endCmd .ok []))

/-- CONDUCTOR_RESET: one byte, 0 for C0 and 1 for C1; a LOCKED_OUT conductor is released to return as a failed one does (R392), and another one
has no release to take (log 35). -/
def execConductorReset (m : MewsReq) (s : State) : Res :=
  let one := bodyAt m.body 0 == 1
  .next (s.mewsRun opConductorReset m (m.body.length != 1 || decide (1 < bodyAt m.body 0)) (fun t =>
    if (t.cond.of one).state = .lockedOut then (t.modConductor one (fun k => { k with state := .failed })).endCmd .ok []
    else t.endCmd .stateRefused []))

/-- MGMT_NET_SET: 0 adds and 1 removes, then the address of 16 bytes; at most two are added (R476). -/
def execMgmtNetSet (m : MewsReq) (s : State) : Res :=
  let a : BitVec 128 := BitVec.ofNat 128 (bodyNum m.body 1 16)
  .next (s.mewsRun opMgmtNetSet m (m.body.length != 17 || decide (1 < bodyAt m.body 0)) (fun t =>
    let l := t.mews.ipv6
    if bodyAt m.body 0 = 1 then
      (if l.contains a then State.endCmd { t with mews := { t.mews with ipv6 := l.erase a } } .ok [] else t.endCmd .badArgument [])
    else if l.contains a then t.endCmd .ok []
    else if 2 ≤ l.length then t.endCmd .badArgument []
    else State.endCmd { t with mews := { t.mews with ipv6 := l ++ [a] } } .ok []))

/-! ### FIELD_TEST (R502) -/

/-- The repair maps with the wires that a test found marked, on a copy that only the verdict reads. -/
def State.markFound (s : State) : WireTest → State
  | .podGroup r g bad => s.markAt (if g.val = 16 then .priv r else .row r) false (if g.val = 16 then 0 else g.val) (bad.map (fun w => w.val))
  | .interfaceGroup p i g bad =>
    let u : BondUnit := .interface p i (finOf 64 (by decide) (g.val / 16))
    (s.markAt u false (g.val % 16) (bad.map (fun w => w.val))).markAt u true (g.val % 16) (bad.map (fun w => w.val))
  | .training _ _ _ => s

/-- The failing wires that no repair map holds yet go into the repair log (R402, R502). -/
def State.logFound (s : State) : WireTest → State
  | .podGroup r g bad =>
    let u : BondUnit := if g.val = 16 then .priv r else .row r
    let new := ((bad.map (fun w => w.val)).filter (fun w => !(s.markedAt u false (if g.val = 16 then 0 else g.val)).contains w)).eraseDups
    s.logWires r.sh.val r.pod.val (podGroupIx r g.val) new
  | .interfaceGroup p i g bad =>
    let u : BondUnit := .interface p i (finOf 64 (by decide) (g.val / 16))
    let new := ((bad.map (fun w => w.val)).filter (fun w => !(s.markedAt u false (g.val % 16)).contains w)).eraseDups
    s.logWires p.val g.val (groupIx p.val i g.val) new
  | .training _ _ _ => s

/-- Does one end's repair map keep every group within its spares? -/
def TrainEnd.withinSpares (e : TrainEnd) : Bool :=
  (upto 16).all (fun p => decide (((e.fused.get p ++ e.wires.get p).eraseDups).length ≤ 2))

/-- Does every group at a plaza lie within its spares (R502)? -/
def State.groupsWithin (s : State) (p : Nat) : Bool :=
  (decide (8 ≤ p) || (s.shal p).bonds.cells.all (fun c => decide (c.2.marked.length ≤ groupSpares (c.1 % 17)))) &&
  (s.blv.ends.cells.filter (fun c => c.1 % 2 ^ 24 / 128 == p)).all (fun c => c.2.withinSpares) &&
  !(s.blv.groupsDown.any (fun k => k / 2 ^ 12 == p))

/-- The verdicts of FIELD_TEST: PACKAGE_PASS at bit 31 and PLAZA_PASS below. -/
def State.fieldVerdict (s : State) (wires : List WireTest) (waves : List WaveRef) : Word :=
  let t := wires.foldl (fun (t : State) w => t.markFound w) s
  let ok := fun (p : Nat) => t.groupsWithin p && !(waves.any (fun w => w.src.val == p || w.dst.val == p))
  BitVec.ofNat 32 (b2n ((upto 27).all ok) * 2 ^ 31 + maskOf 27 ok)

/-- FIELD_TEST (R502): no body; the wires and the wavelengths that fail. FREEZE stands during the test only. -/
def execFieldTest (m : MewsReq) (wires : List WireTest) (waves : List WaveRef) (s : State) : Res :=
  .next (s.mewsRun opFieldTest m (m.body.length != 0) (fun t =>
    let v := t.fieldVerdict wires waves
    let t := wires.foldl (fun (t : State) w => t.logFound w) t
    let t := waves.foldl (fun (t : State) w => t.waveDown w.src.val w.dst.val w.wave.val) t
    (t.raise 0x0033 pkgPlaza 0 (leBytes 4 v.toNat)).endCmd .ok [v]))

/-! ### The MCTP endpoint (R476, R477): responses as DMTF DSP0236 lays them down (log 36) -/

/-- Answer an MCTP control message. -/
def State.mctpAnswer (s : State) (port : Nat) (bs : List Byte) : State := if s.mewsUp then s.emit (.mctp port bs) else s

/-- MEWS_MESSAGE_TIMEOUT (R477): a message in parts is discarded. -/
def execMewsMessageTimeout (port : Fin 2) (tag : Fin 8) (s : State) : Res :=
  .next { s with mews := { s.mews with parts := s.mews.parts.filter (fun p => !(p.port == port.val && p.tag == tag.val)) } }

/-- SET_ENDPOINT_ID (R477): operation 0 or 1 sets an identifier other than 0 and 0xFF. -/
def execSetEndpointId (port : Fin 2) (op : BitVec 2) (eid : BitVec 8) (s : State) : Res :=
  if op.toNat ≤ 1 ∧ eid ≠ 0 ∧ eid ≠ 0xFF then
    if s.mewsUp then
      .next (State.mctpAnswer { s with mews := { s.mews with eids := s.mews.eids.set port.val eid.toNat } } port.val [0x01, 0x00, 0x00, eid, 0x00])
    else .next s
  else .next (s.mctpAnswer port.val [0x01, 0x02])

/-- GET_ENDPOINT_ID (R477). -/
def execGetEndpointId (port : Fin 2) (s : State) : Res :=
  .next (s.mctpAnswer port.val [0x02, 0x00, BitVec.ofNat 8 (s.mews.eids.get port.val), 0x00, 0x00])

/-- GET_MCTP_VERSION_SUPPORT (R477): the base specification, control messages and Mews messages; another message type is not supported. -/
def execGetMctpVersionSupport (port : Fin 2) (type : BitVec 8) (s : State) : Res :=
  .next (s.mctpAnswer port.val
    (if type = 0xFF ∨ type = 0x00 ∨ type = 0x7E then [0x04, 0x00, 0x01, 0xF1, 0xF3, 0xF1, 0x00] else [0x04, 0x80]))

/-- GET_MESSAGE_TYPE_SUPPORT (R477): type 0x7E. -/
def execGetMessageTypeSupport (port : Fin 2) (s : State) : Res := .next (s.mctpAnswer port.val [0x05, 0x00, 0x01, 0x7E])

/-- GET_VENDOR_DEFINED_MESSAGE_SUPPORT (R477): one set, by PCI vendor identifier. -/
def execGetVendorDefinedMessageSupport (port : Fin 2) (selector : BitVec 8) (s : State) : Res :=
  .next (s.mctpAnswer port.val
    (if selector = 0 then [0x06, 0x00, 0xFF, 0x00] ++ (leBytes 2 Sys2Proof.Config.vendorId.toNat).reverse ++ [0x00, 0x00] else [0x06, 0x02]))

/-- I3C_ADDRESS_ASSIGNED (R476): Mews leaves the SMBus fall-back. -/
def execI3cAddressAssigned (addr : BitVec 7) (s : State) : Res :=
  .next (if s.mewsUp then { s with mews := { s.mews with i3c := some addr } } else s)

end Sys2Proof.Machine
end

