-- ==== Sys2Proof/Machine/PodVec.lean ====
section
/-! DEFINITION. VEC: the lane unit of a pod (chapter 06). Each command is its operation on the pod, in the forms that the
loader admits. -/
namespace Sys2Proof.Machine

/-- A function of a signed word, on the word as a pattern (R137). -/
def funcOf (f : Int → Int × Bool) (x : Nat) : Int × Bool := f (sInt 32 x)

/-- VEC ADD (R132). -/
def execVecAdd (p : PodRef) (v : VecArgs) (s : State) : Res :=
  s.podOpIf (binForm v) p (fun ctx q => q.vAdd ctx v)

/-- VEC SUB (R132). -/
def execVecSub (p : PodRef) (v : VecArgs) (s : State) : Res :=
  s.podOpIf (binForm v) p (fun ctx q => q.vSub ctx v)

/-- VEC ADDS (R132). -/
def execAdds (p : PodRef) (v : VecArgs) (s : State) : Res :=
  s.podOpIf (binForm v) p (fun ctx q => q.vAdds ctx v)

/-- VEC SUBS (R132). -/
def execSubs (p : PodRef) (v : VecArgs) (s : State) : Res :=
  s.podOpIf (binForm v) p (fun ctx q => q.vSubs ctx v)

/-- VEC MULLO (R132). -/
def execMullo (p : PodRef) (v : VecArgs) (s : State) : Res :=
  s.podOpIf (binForm v) p (fun ctx q => q.vMullo ctx v)

/-- VEC MULR (R132). -/
def execMulr (p : PodRef) (v : VecArgs) (s : State) : Res :=
  s.podOpIf (mulrForm v) p (fun ctx q => q.vMulr ctx v)

/-- VEC SCALE (R132). -/
def execVecScale (p : PodRef) (v : VecArgs) (s : State) : Res :=
  s.podOpIf (scaleForm v) p (fun ctx q => q.vScale ctx v)

/-- VEC SHL (R132). -/
def execShl (p : PodRef) (v : VecArgs) (s : State) : Res :=
  s.podOpIf (binForm v) p (fun ctx q => q.vShl ctx v)

/-- VEC SHR (R132). -/
def execShr (p : PodRef) (v : VecArgs) (s : State) : Res :=
  s.podOpIf (binForm v) p (fun ctx q => q.vShr ctx v)

/-- VEC SHRU (R132). -/
def execShru (p : PodRef) (v : VecArgs) (s : State) : Res :=
  s.podOpIf (binForm v) p (fun ctx q => q.vShru ctx v)

/-- VEC MIN (R132). -/
def execVecMin (p : PodRef) (v : VecArgs) (s : State) : Res :=
  s.podOpIf (binForm v) p (fun ctx q => q.vMin ctx v)

/-- VEC MAX (R132). -/
def execVecMax (p : PodRef) (v : VecArgs) (s : State) : Res :=
  s.podOpIf (binForm v) p (fun ctx q => q.vMax ctx v)

/-- VEC MINU (R132). -/
def execMinu (p : PodRef) (v : VecArgs) (s : State) : Res :=
  s.podOpIf (binForm v) p (fun ctx q => q.vMinu ctx v)

/-- VEC MAXU (R132). -/
def execMaxu (p : PodRef) (v : VecArgs) (s : State) : Res :=
  s.podOpIf (binForm v) p (fun ctx q => q.vMaxu ctx v)

/-- VEC AND (R132). -/
def execVecAnd (p : PodRef) (v : VecArgs) (s : State) : Res :=
  s.podOpIf (binForm v) p (fun ctx q => q.vAnd ctx v)

/-- VEC OR (R132). -/
def execVecOr (p : PodRef) (v : VecArgs) (s : State) : Res :=
  s.podOpIf (binForm v) p (fun ctx q => q.vOr ctx v)

/-- VEC XOR (R132). -/
def execVecXor (p : PodRef) (v : VecArgs) (s : State) : Res :=
  s.podOpIf (binForm v) p (fun ctx q => q.vXor ctx v)

/-- VEC SEL (R132). -/
def execVecSel (p : PodRef) (v : VecArgs) (s : State) : Res :=
  s.podOpIf (binForm v) p (fun ctx q => q.vSel ctx v)

/-- VEC CMPEQ (R134). -/
def execCmpeq (p : PodRef) (v : VecArgs) (s : State) : Res :=
  s.podOpIf (cmpForm v) p (fun _ q => q.vCmpeq v)

/-- VEC CMPLT (R134). -/
def execCmplt (p : PodRef) (v : VecArgs) (s : State) : Res :=
  s.podOpIf (cmpForm v) p (fun _ q => q.vCmplt v)

/-- VEC CMPLTU (R134). -/
def execCmpltu (p : PodRef) (v : VecArgs) (s : State) : Res :=
  s.podOpIf (cmpForm v) p (fun _ q => q.vCmpltu v)

/-- VEC CLZ (R132). -/
def execClz (p : PodRef) (v : VecArgs) (s : State) : Res :=
  s.podOpIf (noSForm v) p (fun ctx q => q.vClz ctx v)

/-- VEC WIDEN (R132). -/
def execWiden (p : PodRef) (v : VecArgs) (s : State) : Res :=
  s.podOpIf (widenForm v) p (fun ctx q => q.vWiden ctx v)

/-- VEC WIDENU (R132). -/
def execWidenu (p : PodRef) (v : VecArgs) (s : State) : Res :=
  s.podOpIf (widenForm v) p (fun ctx q => q.vWidenu ctx v)

/-- VEC NARROW (R132). -/
def execNarrow (p : PodRef) (v : VecArgs) (s : State) : Res :=
  s.podOpIf (widenForm v) p (fun ctx q => q.vNarrow ctx v)

/-- VEC FEXP2 (R137). -/
def execFexp2 (p : PodRef) (v : VecArgs) (s : State) : Res :=
  s.podOpIf (funcForm v) p (fun ctx q => q.vFunc ctx v (funcOf fexp2))

/-- VEC FLOG2 (R137). -/
def execFlog2 (p : PodRef) (v : VecArgs) (s : State) : Res :=
  s.podOpIf (funcForm v) p (fun ctx q => q.vFunc ctx v flog2)

/-- VEC FRCP (R137). -/
def execFrcp (p : PodRef) (v : VecArgs) (s : State) : Res :=
  s.podOpIf (funcForm v) p (fun ctx q => q.vFunc ctx v frcp)

/-- VEC FRSQ (R137). -/
def execFrsq (p : PodRef) (v : VecArgs) (s : State) : Res :=
  s.podOpIf (funcForm v) p (fun ctx q => q.vFunc ctx v frsq)

/-- VEC FTANH (R137). -/
def execFtanh (p : PodRef) (v : VecArgs) (s : State) : Res :=
  s.podOpIf (funcForm v) p (fun ctx q => q.vFunc ctx v (funcOf ftanh))

/-- VEC FSIGM (R137). -/
def execFsigm (p : PodRef) (v : VecArgs) (s : State) : Res :=
  s.podOpIf (funcForm v) p (fun ctx q => q.vFunc ctx v (funcOf fsigm))

/-- VEC FSGATE (R137). -/
def execFsgate (p : PodRef) (v : VecArgs) (s : State) : Res :=
  s.podOpIf (funcForm v) p (fun ctx q => q.vFunc ctx v (funcOf fsgate))

/-- VEC RSUM (R132). -/
def execRsum (p : PodRef) (v : VecArgs) (s : State) : Res :=
  s.podOpIf (noSForm v) p (fun _ q => q.vRsum v)

/-- VEC RSSQ (R132). -/
def execRssq (p : PodRef) (v : VecArgs) (s : State) : Res :=
  s.podOpIf (rssqForm v) p (fun _ q => q.vRssq v)

/-- VEC RMAX (R132). -/
def execRmax (p : PodRef) (v : VecArgs) (s : State) : Res :=
  s.podOpIf (noSForm v) p (fun _ q => q.vRmax v)

/-- VEC RMIN (R132). -/
def execRmin (p : PodRef) (v : VecArgs) (s : State) : Res :=
  s.podOpIf (noSForm v) p (fun _ q => q.vRmin v)

/-- VEC GATHER (R144). -/
def execGather (p : PodRef) (v : VecArgs) (s : State) : Res :=
  s.podOpIf (gatherForm v) p (fun ctx q => q.vGather ctx v)

/-- VEC SCATTER (R144). -/
def execScatter (p : PodRef) (v : VecArgs) (s : State) : Res :=
  s.podOpIf (scatterForm v) p (fun ctx q => q.vScatter ctx v)

/-- VEC LDK (R133). -/
def execLdk (p : PodRef) (v : VecArgs) (s : State) : Res :=
  s.podOpIf (ctlForm v) p (fun _ q => q.vLdk v)

/-- VEC ZCLR (R133). -/
def execZclr (p : PodRef) (v : VecArgs) (s : State) : Res :=
  s.podOpIf (zclrForm v) p (fun _ q => q.vZclr v)

/-- VEC ZOUT (R133). -/
def execZout (p : PodRef) (v : VecArgs) (s : State) : Res :=
  s.podOpIf (ctlForm v) p (fun ctx q => q.vZout ctx v)

/-- VEC ZACC (R133). -/
def execZacc (p : PodRef) (v : VecArgs) (s : State) : Res :=
  s.podOpIf (ctlForm v) p (fun _ q => q.vZacc v)

/-- VEC ZRCP (R141). -/
def execZrcp (p : PodRef) (v : VecArgs) (s : State) : Res :=
  s.podOpIf (zrcpForm v) p (fun ctx q => q.zInto ctx v false)

/-- VEC ZRSQ (R141). -/
def execZrsq (p : PodRef) (v : VecArgs) (s : State) : Res :=
  s.podOpIf (zrcpForm v) p (fun ctx q => q.zInto ctx v true)

/-- VEC PSET (R133). -/
def execPset (p : PodRef) (v : VecArgs) (s : State) : Res :=
  s.podOpIf (predForm v) p (fun _ q => q.vPset v)

/-- VEC PLD (R133). -/
def execPld (p : PodRef) (v : VecArgs) (s : State) : Res :=
  s.podOpIf (predForm v) p (fun _ q => q.vPld v)

/-- VEC TOPK (R142). -/
def execTopk (p : PodRef) (v : VecArgs) (s : State) : Res :=
  s.podOpIf (topkForm v) p (fun _ q => q.vTopk v)

/-- VEC TKMERGE (R142). -/
def execTkmerge (p : PodRef) (v : VecArgs) (s : State) : Res :=
  s.podOpIf (ctlForm v) p (fun _ q => q.vTkmerge v)

/-- VEC TKOUT (R143). -/
def execTkout (p : PodRef) (v : VecArgs) (s : State) : Res :=
  s.podOpIf (ctlForm v) p (fun ctx q => q.vTkout ctx v)

/-- VEC TKCLR (R133). -/
def execTkclr (p : PodRef) (v : VecArgs) (s : State) : Res :=
  s.podOpIf (ctlForm v) p (fun _ q => q.vTkclr)

/-- VEC ROWSEL (R145). -/
def execRowsel (p : PodRef) (v : VecArgs) (s : State) : Res :=
  s.podOpIf (ctlForm v) p (fun ctx q => q.vRowsel ctx v)

end Sys2Proof.Machine
end

