-- ==== Sys2Proof/Machine/Secure.lean ====
section
/-! DEFINITION. Reports and offers, sessions, the random generator, key transport, two-party changes, completed non-volatile writes
(R440, R445, R446, R449 to R454, R467 to R471). -/
namespace Sys2Proof.Machine

/-- A list cut or padded with zeros to `n` bytes. -/
def fit (n : Nat) (l : List Byte) : List Byte := (l ++ List.replicate n 0).take n

/-! ### Reports (R449, R450) -/

/-- STATE of a report (R450). -/
def State.reportState (s : State) : Nat := s.sec.lifecycle + 8 * b2n s.sec.rot + 16 * b2n s.sec.tenant.isSome + 32 * b2n s.sec.debug

/-- The registered owner keys, in key order. -/
def Sec.ownerBytes (c : Sec) : List Byte := (upto 8).flatMap c.owners.get

/-- DIGEST of the loaded image, zero when none. -/
def State.imageDigest (s : State) : List Byte := fit 32 ((s.img.image.map (fun i => i.digest)).getD [])

/-- Bytes 0x000 to 0x6BF of a report (R450). -/
def State.reportBody (s : State) (nonce : List Byte) : List Byte :=
  leBytes 2 1 ++ leBytes 2 s.reportState ++ leBytes 4 s.top.identity.toNat ++ leBytes 8 s.sec.policy.toNat ++ fit 32 nonce ++
  digestBytes s.mews.fwDigest ++ s.imageDigest ++ shake256 32 s.sec.ownerBytes ++ leBytes 8 s.sec.sweeps.toNat ++ leBytes 8 s.sec.nextOffer ++
  fit 1568 (Sys2Proof.Config.kemPublic s.sec.draws)

/-- A session message or the answer of ATTEST leaves on its way (R451, R481). -/
def State.sendSession (s : State) (p : HelloPath) (st : Status) (bytes : List Byte) : State :=
  match p with
  | .doe => s.emit (.doe bytes)
  | .net src => match s.img.image.bind (fun i => i.endpoint) with
    | some e => s.sendNet e.subport 3 src.toNat bytes
    | none => s
  | .mews port tag cred seq => s.mewsReply port 0x02 tag cred seq st true (if st == .ok then bytes else [])

/-- REFUSED with its status. -/
def State.refuseSession (s : State) (p : HelloPath) (st : Status) : State := s.sendSession p st [BitVec.ofNat 8 st.code]

/-- Device signatures in all (R448). -/
def xmssTotal : Nat := 2 ^ 40

/-- A report is signed with the next index and sent; its key pair is an offer, and the oldest of more than 64 goes (R448 to R450). -/
def State.sendReport (s : State) (w : ReportWait) : State :=
  let body := s.reportBody w.nonce
  let o : Offer := { num := s.sec.nextOffer, draw := s.sec.draws, report := body, made := s.top.now }
  let offers := s.sec.offers ++ [o]
  let sig := fit 9893 (Sys2Proof.Config.xmssSign s.sec.identityGen s.sec.xmssNext body)
  let t := { s with sec := { s.sec with
    offers := offers.drop (offers.length - 64), nextOffer := s.sec.nextOffer + 1, draws := s.sec.draws + 1, xmssNext := s.sec.xmssNext + 1 } }
  let t := if xmssTotal - t.sec.xmssNext < 2 ^ 20 ∧ t.sec.xmssLow = false then
      { t with sec := { t.sec with xmssLow := true } }.raise 0xB00A pkgPlaza 0 []
    else t
  t.sendSession w.path .ok (body ++ sig)

/-- A HELLO is answered (R445, R449): without a signature left or a device identity by REFUSED; a spent block waits for its write, or is
refused while the temperature window is closed. -/
def State.hello (s : State) (w : ReportWait) : State :=
  if !s.sec.identity || decide (xmssTotal ≤ s.sec.xmssNext) then s.refuseSession w.path .authFailed
  else if s.sec.trngFailed then s.refuseSession w.path .stateRefused
  else if s.sec.xmssBlock ≤ s.sec.xmssNext then
    if s.sec.waiting.isEmpty && !s.pp.nvOpen then s.nvRefuse.refuseSession w.path .temperatureBlocked
    else
      let t := { s with sec := { s.sec with waiting := s.sec.waiting ++ [w] } }
      if s.sec.waiting.isEmpty then t.nvStart (.xmss (s.sec.xmssBlock + 256)) else t
  else s.sendReport w

/-- The way of a session message. -/
def helloPath : HelloVia → HelloPath
  | .doe => .doe
  | .net src => .net src

/-- Can the message arrive: the function is ready with its link up, or the image has an endpoint? -/
def State.viaUp (s : State) : HelloVia → Bool
  | .doe => s.host.ready && s.host.linkUp
  | .net _ => (s.img.image.bind (fun i => i.endpoint)).isSome && (s.top.state == .loaded || s.top.state == .running)

/-- HELLO (R449 to R451). -/
def execHello (via : HelloVia) (nonce : List (BitVec 8)) (s : State) : Res :=
  .next (if s.viaUp via then s.hello { path := helloPath via, nonce := nonce } else s)

/-- ATTEST: Public, in every state but OFF. -/
def opAttest : MewsOp := { code := 0x02, cls := .anyone, accept := 0xFE }

/-- ATTEST (R449, R450, R481): BODY is a HELLO. -/
def execAttest (m : MewsReq) (s : State) : Res :=
  .next (s.mewsServe opAttest m (m.body.length != 32) (fun t => t.hello { path := .mews m.port.val m.tag m.cred m.seq, nonce := m.body }))

/-- CERT_CHAIN: Public, in every state but OFF. -/
def opCertChain : MewsOp := { code := 0x03, cls := .anyone, accept := 0xFE }

/-- CERT_CHAIN (R448, R481): part ARG of the chain, 16,384 bytes each (log 63). -/
def execCertChain (m : MewsReq) (s : State) : Res :=
  .next (s.mewsServe opCertChain m (m.body.length != 4) (fun t =>
    let part := ((Sys2Proof.Config.certChain s.sec.identityGen).drop (16384 * bodyNum m.body 0 4)).take 16384
    if t.sec.identity then (if part.isEmpty then t.mewsAnswer opCertChain m .badArgument [] else t.mewsAnswer opCertChain m .ok part)
    else t.mewsAnswer opCertChain m .stateRefused []))

/-- OFFER_EXPIRY (R450): offers of 60 s and more are void. -/
def execOfferExpiry (s : State) : Res :=
  .next { s with sec := { s.sec with offers := s.sec.offers.filter (fun o => decide (s.top.now < o.made + 60000000000)) } }

/-! ### OPEN (R452 to R454) -/

/-- The bytes of an OPEN. -/
def openBytes (m : OpenMsg) : List Byte :=
  leBytes 8 m.offer.toNat ++ [m.role, m.flags] ++ leBytes 6 m.reserved.toNat ++ fit 32 m.image ++ fit 1568 m.ct ++ fit 32 m.confirm

/-- The offer that an OPEN names, while it is valid. -/
def State.offerOf (s : State) (m : OpenMsg) : Option Offer :=
  s.sec.offers.find? (fun o => o.num == m.offer.toNat && decide (s.top.now < o.made + 60000000000))

/-- ss of an OPEN with an offer: 32 bytes. -/
def openSecret (o : Offer) (m : OpenMsg) : List Byte := digestBytes (Sys2Proof.Config.kemDecap o.draw (fit 1568 m.ct))

/-- The conditions of R452 in the table's order: the status of the first that fails. -/
def State.openCheck (s : State) (m : OpenMsg) : Option Status :=
  if m.reserved != 0 || decide (1 < m.role.toNat) || decide (1 < m.flags.toNat) then some .badArgument
  else if s.sec.lifecycle ≠ 2 then some .stateRefused
  else match s.offerOf m with
    | none => some .authFailed
    | some o =>
      if fit 32 m.confirm ≠ shake256 32 (openSecret o m ++ ascii "CNF" ++ leBytes 8 m.offer.toNat) then some .authFailed
      else if m.role = 0 then
        if s.sec.tenant.isSome || !(s.top.state == .idle || s.top.state == .loaded) then some .stateRefused
        else if !(fit 32 m.image).all (fun b => b == 0) && s.img.image.isSome && fit 32 m.image != s.imageDigest then some .identityMismatch
        else none
      else match s.img.image.bind (fun i => i.endpoint) with
        | some e => if s.sec.tenant.isSome ∧ s.sec.clients.length < e.sessions then none else some .stateRefused
        | none => some .stateRefused

/-- A refused OPEN is counted, and raised once a second (R452, R475). -/
def State.openRefused (s : State) (p : HelloPath) (st : Status) : State :=
  let t := { s with sec := { s.sec with refusals := satAdd s.sec.refusals 1 } }
  let t := if s.sec.refusedSec = some s.second then t
    else { t with sec := { t.sec with refusedSec := some s.second } }.raise 0xB004 pkgPlaza 0 [BitVec.ofNat 8 st.code]
  t.refuseSession p st

/-- A tenant session sets its keys up: the even slot of every gate die, at epoch 0 (R454). -/
def State.tenantKeys (s : State) : State :=
  let t := (upto 16).foldl (fun (t : State) h => t.modMem h (fun m => { m with keyEven := some (s.sec.draws + h), keyOdd := none, epoch := false })) s
  { t with sec := { t.sec with draws := t.sec.draws + 16, epoch := 0 } }

/-- An OPEN is accepted (R453, R454). -/
def State.openSession (s : State) (p : HelloPath) (m : OpenMsg) (o : Offer) : State :=
  let ss := openSecret o m
  let x : Session := { id := s.sec.nextSession, secret := shakeDigest (ss ++ o.report ++ openBytes m), image := fit 32 m.image, exportOk := m.flags == 1 }
  let t := { s with sec := { s.sec with offers := s.sec.offers.filter (fun y => y.num != o.num), nextSession := s.sec.nextSession + 1 } }
  let t := if m.role = 0 then State.tenantKeys { t with sec := { t.sec with tenant := some x } }
    else { t with sec := { t.sec with clients := t.sec.clients ++ [x] } }
  let t := t.raise 0xB003 pkgPlaza 0 (leBytes 4 x.id ++ [m.role])
  t.sendSession p .ok (leBytes 4 x.id ++ leBytes 8 t.sec.epoch.toNat ++ shake256 32 (ss ++ ascii "ACK" ++ leBytes 4 x.id))

/-- OPEN (R451 to R454). -/
def execOpenSession (via : HelloVia) (m : OpenMsg) (s : State) : Res :=
  if s.viaUp via then
    match s.openCheck m, s.offerOf m with
    | none, some o => .next (s.openSession (helloPath via) m o)
    | st, _ => .next (s.openRefused (helloPath via) (st.getD .authFailed))
  else .next s

/-! ### The generator and key transport (R445, R446) -/

/-- TRNG_HEALTH_FAIL (R445): no further key is made, and the package enters FAULTED; in OFF it stays (R488). -/
def execTrngHealthFail (s : State) : Res :=
  let t := { s with sec := { s.sec with trngFailed := true } }.raise 0xB00B pkgPlaza 0 []
  .next (if s.top.state = .faulted ∨ s.top.state = .off then t else t.toFaulted true)

/-- KEY_UNWRAP (R446): a wrapped key reaches a die; the second failure in a row puts the package into FAULTED. -/
def execKeyUnwrap (p : PlazaNo) (ok : Bool) (s : State) : Res :=
  let n := if ok then 0 else s.sec.unwrapFails.get p.val + 1
  let t := { s with sec := { s.sec with unwrapFails := s.sec.unwrapFails.set p.val (if n < 2 then n else 0) } }
  let t := if ok then t else t.raise 0xB00C p.val 0 []
  .next (if 2 ≤ n ∧ s.top.state ≠ .faulted then t.toFaulted true else t)

/-! ### Two-party changes (R467 to R471) -/

/-- QUORUM_LAPSE (R471). -/
def execQuorumLapse (s : State) : Res :=
  match s.sec.pending with
  | some p => .next (if p.since + 600000000000 ≤ s.top.now then s.lapse else s)
  | none => .next s

/-- A CHANGE_SUBMIT body in the model's layout (log 60): KIND (2), COUNTER (8), KEY (1), MAKER (1), parameters, then with MAKER = 1 a maker key
index (1) and a maker signature (2,820), and at the end the signature (2,820). -/
structure ChangeBody where
  kind : Nat
  counter : Nat
  key : Nat
  params : List Byte
  maker : Option (Nat × List Byte)
  sig : List Byte
deriving DecidableEq, Repr

/-- Read a CHANGE_SUBMIT body. -/
def changeBody (b : List Byte) : Option ChangeBody :=
  let m := bodyAt b 11
  let tail := if m = 1 then 2820 + 2821 else 2820
  if m ≤ 1 ∧ 12 + tail ≤ b.length then
    let params := (b.take (b.length - tail)).drop 12
    let rest := b.drop (b.length - tail)
    some { kind := bodyNum b 0 2, counter := bodyNum b 2 8, key := bodyAt b 10, params := params,
           maker := if m = 1 then some (bodyAt rest 0, (rest.drop 1).take 2820) else none, sig := b.drop (b.length - 2820) }
  else none

/-- The maker signature as a parameter (R469). -/
def ChangeBody.makerBytes (c : ChangeBody) : List Byte := match c.maker with | some m => BitVec.ofNat 8 m.1 :: m.2 | none => []

/-- D of a change over some parameters (R470). -/
def State.changeDigest (s : State) (kind counter : Nat) (params : List Byte) : Digest :=
  shakeDigest (ascii "MH96CHG" ++ leBytes 4 s.top.identity.toNat ++ Sys2Proof.Config.devRoot s.sec.identityGen ++ leBytes 2 kind ++ leBytes 8 counter ++
    params)

/-- Does the maker signature of a change hold? It covers the parameters before it (log 60). -/
def State.makerOk (s : State) (c : ChangeBody) : Bool :=
  match c.maker with
  | some m => signatureOk (Sys2Proof.Config.makerKey m.1) (s.changeDigest c.kind c.counter c.params) m.2
  | none => false

/-- How a transition is authorised (R467): by a maker signature alone, by two keys, or by two keys and a maker signature; none where the
table has no such transition. -/
inductive LifeAuth where
  | maker | two | twoMaker
deriving DecidableEq, Repr

/-- The rows of R467. -/
def lifeAuth (from_ to_ : Nat) : Option LifeAuth :=
  match from_, to_ with
  | 0, 1 => some .maker | 1, 2 => some .twoMaker | 2, 1 => some .two | 2, 3 => some .twoMaker | 3, 1 => some .maker
  | 0, 4 => some .maker | 1, 4 => some .maker | 3, 4 => some .maker | 2, 4 => some .two
  | _, _ => none

/-- Are the parameters of a change well formed (R469)? -/
def State.changeParamsOk (s : State) (c : ChangeBody) : Bool :=
  let n := c.params.length
  match c.kind with
  | 1 => decide (n = 1) && decide (bodyAt c.params 0 ≤ 1)
  | 2 => decide (n = 8) && decide (leVal c.params < 16)
  | 3 => decide (n % 68 = 0) && decide (2 ≤ n / 68) && decide (n / 68 ≤ 8)
  | 4 => decide (n = 0)
  | 5 => (lifeAuth s.sec.lifecycle (bodyAt c.params 0)).isSome &&
      (if bodyAt c.params 0 = 2 then (ownedParams (c.params.drop 1)).isSome
       else if s.sec.lifecycle = 3 ∧ bodyAt c.params 0 = 1 then decide (n = 2) else decide (n = 1))
  | 6 => decide (n % 68 = 0) && decide (1 ≤ n / 68) && decide (n / 68 ≤ 4)
  | _ => false

/-- The key that the signature must hold under: a maker key, a key of the new owner list, or a registered owner key. -/
def State.changeKey (s : State) (c : ChangeBody) : List Byte :=
  if c.kind = 5 then
    match lifeAuth s.sec.lifecycle (bodyAt c.params 0) with
    | some .maker => Sys2Proof.Config.makerKey c.key
    | _ =>
      if s.sec.lifecycle = 1 then (((ownedParams (c.params.drop 1)).map (fun o => (o.owners[c.key]?).getD [])).getD [])
      else s.sec.owners.get c.key
  else if s.sec.lifecycle = 2 then s.sec.owners.get c.key else []

/-- Does the transition need a maker signature beside the quorum? -/
def State.needsMaker (s : State) (c : ChangeBody) : Bool := c.kind == 5 && lifeAuth s.sec.lifecycle (bodyAt c.params 0) == some .twoMaker

/-- A change has taken effect (R470). -/
def State.changeApplied (s : State) (kind : Nat) : State :=
  ({ s with sec := { s.sec with changes := s.sec.changes + 1, pending := none } }.raise 0xB009 pkgPlaza 0 (leBytes 2 kind)).endCmd .ok []

/-- A change with its authority complete takes effect (R467, R469). -/
def State.applyChange (s : State) (c : ChangeBody) : State :=
  match c.kind with
  | 1 => State.changeApplied { s with sec := { s.sec with rot := bodyAt c.params 0 == 1 } } 1
  | 2 => State.changeApplied { s with sec := { s.sec with policy := BitVec.ofNat 64 (leVal c.params) } } 2
  | 3 => State.changeApplied { s with sec := { s.sec with owners := keyTbl (keyList c.params) } } 3
  | 4 => State.changeApplied { s with sec := { s.sec with debug := true } } 4
  | 5 =>
    if s.sec.lifecycle = 2 then s.beginSweep (.lifecycle (bodyAt c.params 0) (c.params.drop 1))
    else s.lifeWrite (bodyAt c.params 0) (c.params.drop 1)
  | _ => State.changeApplied { s with sec := { s.sec with fwSigners := keyTbl (keyList c.params) } } 6

/-- A valid signature of a change that needs two of them (R470). -/
def State.quorum (s : State) (c : ChangeBody) (d : Digest) : State :=
  match s.sec.pending with
  | none =>
    let p : PendingChange := { kind := c.kind, digest := d, params := c.params, signer := c.key, since := s.top.now }
    ({ s with sec := { s.sec with pending := some p } }.raise 0xB007 pkgPlaza 0 (leBytes 2 c.kind)).endCmd .quorumPending []
  | some p =>
    if p.digest ≠ d then s.endCmd .stateRefused []
    else if p.signer = c.key then s.endCmd .authFailed []
    else s.applyChange c

/-- The change as its rules give it (R467, R470). -/
def State.changeRun (s : State) (c : ChangeBody) : State :=
  let s := match s.sec.pending with | some p => if p.since + 600000000000 ≤ s.top.now then s.lapse else s | none => s
  let d := s.changeDigest c.kind c.counter (c.params ++ c.makerBytes)
  if c.kind = 4 ∧ s.sec.tenant.isSome then s.endCmd .stateRefused []
  else if c.counter ≠ (s.sec.changes + 1).toNat ∨ signatureOk (s.changeKey c) d c.sig = false then s.endCmd .authFailed []
  else if c.kind = 5 ∧ lifeAuth s.sec.lifecycle (bodyAt c.params 0) = some .maker then s.applyChange c
  else if s.needsMaker c && !s.makerOk c then s.endCmd .authFailed []
  else s.quorum c d

/-- CHANGE_SUBMIT: Quorum; in IDLE for the life-cycle, otherwise in every state but OFF, SWEEPING and FAULTED. -/
def opChange (kind : Nat) : MewsOp := { code := 0x41, cls := .quorum, accept := if kind = 5 then 0x08 else 0x3E }

/-- CHANGE_SUBMIT (R467, R470, R480, R481). -/
def execChangeSubmit (m : MewsReq) (s : State) : Res :=
  match changeBody m.body with
  | none => .next (s.mewsRun (opChange 0) m true id)
  | some c => .next (s.mewsRun (opChange c.kind) m (!s.changeParamsOk c || m.cred != 0xFF) (fun t => t.changeRun c))

/-- CRED_SET: Signed, in every state but OFF, SWEEPING and FAULTED. -/
def opCredSet : MewsOp := { code := 0x40, cls := .signed, accept := 0x3E }

/-- CRED_SET (R479, R481, R487): SLOT, ROLE (0 removes, 1 READ, 2 OPERATE), 6 reserved bytes, KEY of 32 bytes (log 63). -/
def execCredSet (m : MewsReq) (s : State) : Res :=
  let slot := bodyAt m.body 0
  let role := bodyAt m.body 1
  .next (s.mewsRun opCredSet m (m.body.length != 40 || decide (15 < slot) || decide (2 < role) || !bodyZero m.body 2 6) (fun t =>
    let c : Option Cred := if role = 0 then none else some { key := BitVec.ofNat 256 (bodyNum m.body 8 32), operate := role == 2 }
    let t := { t with mews := { t.mews with creds := t.mews.creds.set slot c } }
    (t.raise 0xC002 26 slot []).endCmd .ok []))

/-! ### Firmware (R488, R498, R499) -/

/-- FW_WRITE: Operate, in every state but SWEEPING, and in recovery. -/
def opFwWrite : MewsOp := { code := 0x30, cls := .operator, accept := 0xBF, recovery := true }
/-- FW_COMMIT: Operate, in every state but SWEEPING and FAULTED, and in recovery. -/
def opFwCommit : MewsOp := { code := 0x31, cls := .operator, accept := 0x3F, recovery := true }

/-- FW_WRITE (R481, R499): an offset of 8 bytes, then the bytes (log 63). -/
def execFwWrite (m : MewsReq) (s : State) : Res :=
  let off := bodyNum m.body 0 8
  .next (s.mewsRun opFwWrite m (decide (m.body.length < 8) || decide (2 ^ 26 < off + (m.body.length - 8))) (fun t =>
    State.endCmd { t with mews := { t.mews with fwBuf := t.mews.fwBuf.setRun off (m.body.drop 8) } } .ok []))

/-- FW_COMMIT (R440, R498, R499): the buffer is verified, and the store takes it block by block. -/
def execFwCommit (m : MewsReq) (s : State) : Res :=
  .next (s.mewsRun opFwCommit m (m.body.length != 0) (fun t =>
    if !t.fwValid t.mews.fwBuf then t.endCmd .authFailed []
    else if !t.pp.nvOpen then t.nvRefuse.endCmd .temperatureBlocked []
    else { t with mews := { t.mews with fwLeft := 64, fwWhole := false } }))

/-- Block `k` of the store as the buffer has it. -/
def copyBlock (store buf : Tbl Byte) (k : Nat) : Tbl Byte :=
  let lo := k * 2 ^ 20
  let hi := lo + 2 ^ 20
  ⟨store.cells.filter (fun c => decide (c.1 < lo)) ++ buf.cells.filter (fun c => decide (lo ≤ c.1) && decide (c.1 < hi)) ++
   store.cells.filter (fun c => decide (hi ≤ c.1))⟩

/-- The last block is written: the command ends, and out of recovery the new firmware boots (R488, R499). -/
def State.fwDone (s : State) : State :=
  let t := ({ s with mews := { s.mews with fwWhole := true } }.raise 0xC004 26 0 []).endCmd .ok []
  if t.mews.recovery then { t with mews := { t.mews with recovery := false }, top := { t.top with phase := 1 } } else t

/-- FW_BLOCK_WRITE (R440, R499): the next block of 1 MiB, while the temperature window is open. -/
def execFwBlockWrite (s : State) : Res :=
  if s.mews.fwLeft = 0 then .next s
  else if !s.pp.nvOpen then .next s.nvRefuse
  else
    let m := s.mews
    let t := { s with mews := { m with fwStore := copyBlock m.fwStore m.fwBuf (64 - m.fwLeft), fwLeft := m.fwLeft - 1 } }
    .next (if m.fwLeft = 1 then t.fwDone else t)

/-! ### NV_WRITE_DONE (R261, R374, R402, R440, R449, R467) -/

/-- Reports that waited are sent. -/
def State.sendWaiting (s : State) : State := s.sec.waiting.foldl State.sendReport { s with sec := { s.sec with waiting := [] } }

/-- NV_WRITE_DONE (R440): the oldest write completes, and what waited for it goes on. -/
def execNvWriteDone (s : State) : Res :=
  match s.top.nv with
  | [] => .next s
  | w :: l =>
    let t := { s with top := { s.top with nv := l } }
    match w with
    | .retire sh pod => .next (t.retireDone sh pod)
    | .xmss limit => .next (t.nvLands (.xmss limit)).sendWaiting
    | .bondLog group wire => .next (t.nvLands (.bondLog group wire))
    | .lampP0 k => .next (t.nvLands (.lampP0 k))
    | .lifecycle target params => .next ((t.nvLands (.lifecycle target params)).changeApplied 5)

end Sys2Proof.Machine
end

