-- ==== Sys2Proof/Machine/Dispatch.lean ====
section
/-! DEFINITION. One arm per command: each arm is one direct call of its meaning. -/
namespace Sys2Proof.Machine

/-- The effect of one command on everything but the queue. -/
def exec (i : Instr) (s : State) : Host.Outcome State Fault Refusal :=
  match i with
  | .loadImage a ue => Sys2Proof.Machine.execLoadImage a ue s
  | .imageLoadDone ue => Sys2Proof.Machine.execImageLoadDone ue s
  | .start a => Sys2Proof.Machine.execStart a s
  | .stopAtStep a => Sys2Proof.Machine.execStopAtStep a s
  | .sweep a => Sys2Proof.Machine.execSweep a s
  | .sweepPhaseEnd nonzero => Sys2Proof.Machine.execSweepPhaseEnd nonzero s
  | .park a => Sys2Proof.Machine.execPark a s
  | .unpark m => Sys2Proof.Machine.execUnpark m s
  | .query a => Sys2Proof.Machine.execQuery a s
  | .recalibrateFull a => Sys2Proof.Machine.execRecalibrateFull a s
  | .recalibrateGroup a => Sys2Proof.Machine.execRecalibrateGroup a s
  | .replay a => Sys2Proof.Machine.execReplay a s
  | .rotateKeys a => Sys2Proof.Machine.execRotateKeys a s
  | .retirePod a => Sys2Proof.Machine.execRetirePod a s
  | .exportJournal a => Sys2Proof.Machine.execExportJournal a s
  | .bar0BadAccess write => Sys2Proof.Machine.execBar0BadAccess write s
  | .registerWrite off v hi => Sys2Proof.Machine.execRegisterWrite off v hi s
  | .journalTailWrite v => Sys2Proof.Machine.execJournalTailWrite v s
  | .hostTailWrite v => Sys2Proof.Machine.execHostTailWrite v s
  | .bar2TargetWrite v => Sys2Proof.Machine.execBar2TargetWrite v s
  | .freezeWrite v => Sys2Proof.Machine.execFreezeWrite v s
  | .freqTargetWrite v => Sys2Proof.Machine.execFreqTargetWrite v s
  | .modeWrite v => Sys2Proof.Machine.execModeWrite v s
  | .slewBudgetWrite pkg v => Sys2Proof.Machine.execSlewBudgetWrite pkg v s
  | .bar2Read off len env => Sys2Proof.Machine.execBar2Read off len env s
  | .bar2Write off data => Sys2Proof.Machine.execBar2Write off data s
  | .perstDeassert => Sys2Proof.Machine.execPerstDeassert s
  | .functionReady => Sys2Proof.Machine.execFunctionReady s
  | .pcieLinkDown => Sys2Proof.Machine.execPcieLinkDown s
  | .pcieLinkUp flit width rate => Sys2Proof.Machine.execPcieLinkUp flit width rate s
  | .d3hotEntry => Sys2Proof.Machine.execD3hotEntry s
  | .ideKm stream => Sys2Proof.Machine.execIdeKm stream s
  | .inputWindowPoll w word => Sys2Proof.Machine.execInputWindowPoll w word s
  | .inputWindowPullDone w data header tags => Sys2Proof.Machine.execInputWindowPullDone w data header tags s
  | .outputWindowPoll w word => Sys2Proof.Machine.execOutputWindowPoll w word s
  | .outputWindowPushDone w => Sys2Proof.Machine.execOutputWindowPushDone w s
  | .stepStart skew => Sys2Proof.Machine.execStepStart skew s
  | .loopCtl p a => Sys2Proof.Machine.execLoopCtl p a s
  | .stepEnd p => Sys2Proof.Machine.execStepEnd p s
  | .rowRead p a env => Sys2Proof.Machine.execRowRead p a env s
  | .rowWrite p a env => Sys2Proof.Machine.execRowWrite p a env s
  | .loadw p a env => Sys2Proof.Machine.execLoadw p a env s
  | .loads p a env => Sys2Proof.Machine.execLoads p a env s
  | .loadc p a env => Sys2Proof.Machine.execLoadc p a env s
  | .rowZero p a env => Sys2Proof.Machine.execRowZero p a env s
  | .stream p a => Sys2Proof.Machine.execStream p a s
  | .accClear p a => Sys2Proof.Machine.execAccClear p a s
  | .accSnap p a => Sys2Proof.Machine.execAccSnap p a s
  | .accRq p a => Sys2Proof.Machine.execAccRq p a s
  | .narrow96 p a => Sys2Proof.Machine.execNarrow96 p a s
  | .wide192 p a => Sys2Proof.Machine.execWide192 p a s
  | .out32 p a => Sys2Proof.Machine.execOut32 p a s
  | .accAdd96 p a => Sys2Proof.Machine.execAccAdd96 p a s
  | .accAdd192 p a => Sys2Proof.Machine.execAccAdd192 p a s
  | .accAdd32 p a => Sys2Proof.Machine.execAccAdd32 p a s
  | .load192 p a => Sys2Proof.Machine.execLoad192 p a s
  | .send p a => Sys2Proof.Machine.execSend p a s
  | .fetch p a => Sys2Proof.Machine.execFetch p a s
  | .recv p a => Sys2Proof.Machine.execRecv p a s
  | .synAdd p a => Sys2Proof.Machine.execSynAdd p a s
  | .setf p a => Sys2Proof.Machine.execSetf p a s
  | .waitTally p a => Sys2Proof.Machine.execWaitTally p a s
  | .waitRetest p => Sys2Proof.Machine.execWaitRetest p s
  | .synClr p a => Sys2Proof.Machine.execSynClr p a s
  | .vecAdd p v => Sys2Proof.Machine.execVecAdd p v s
  | .vecSub p v => Sys2Proof.Machine.execVecSub p v s
  | .adds p v => Sys2Proof.Machine.execAdds p v s
  | .subs p v => Sys2Proof.Machine.execSubs p v s
  | .mullo p v => Sys2Proof.Machine.execMullo p v s
  | .mulr p v => Sys2Proof.Machine.execMulr p v s
  | .vecScale p v => Sys2Proof.Machine.execVecScale p v s
  | .shl p v => Sys2Proof.Machine.execShl p v s
  | .shr p v => Sys2Proof.Machine.execShr p v s
  | .shru p v => Sys2Proof.Machine.execShru p v s
  | .vecMin p v => Sys2Proof.Machine.execVecMin p v s
  | .vecMax p v => Sys2Proof.Machine.execVecMax p v s
  | .minu p v => Sys2Proof.Machine.execMinu p v s
  | .maxu p v => Sys2Proof.Machine.execMaxu p v s
  | .vecAnd p v => Sys2Proof.Machine.execVecAnd p v s
  | .vecOr p v => Sys2Proof.Machine.execVecOr p v s
  | .vecXor p v => Sys2Proof.Machine.execVecXor p v s
  | .vecSel p v => Sys2Proof.Machine.execVecSel p v s
  | .cmpeq p v => Sys2Proof.Machine.execCmpeq p v s
  | .cmplt p v => Sys2Proof.Machine.execCmplt p v s
  | .cmpltu p v => Sys2Proof.Machine.execCmpltu p v s
  | .clz p v => Sys2Proof.Machine.execClz p v s
  | .widen p v => Sys2Proof.Machine.execWiden p v s
  | .widenu p v => Sys2Proof.Machine.execWidenu p v s
  | .narrow p v => Sys2Proof.Machine.execNarrow p v s
  | .fexp2 p v => Sys2Proof.Machine.execFexp2 p v s
  | .flog2 p v => Sys2Proof.Machine.execFlog2 p v s
  | .frcp p v => Sys2Proof.Machine.execFrcp p v s
  | .frsq p v => Sys2Proof.Machine.execFrsq p v s
  | .ftanh p v => Sys2Proof.Machine.execFtanh p v s
  | .fsigm p v => Sys2Proof.Machine.execFsigm p v s
  | .fsgate p v => Sys2Proof.Machine.execFsgate p v s
  | .rsum p v => Sys2Proof.Machine.execRsum p v s
  | .rssq p v => Sys2Proof.Machine.execRssq p v s
  | .rmax p v => Sys2Proof.Machine.execRmax p v s
  | .rmin p v => Sys2Proof.Machine.execRmin p v s
  | .gather p v => Sys2Proof.Machine.execGather p v s
  | .scatter p v => Sys2Proof.Machine.execScatter p v s
  | .ldk p v => Sys2Proof.Machine.execLdk p v s
  | .zclr p v => Sys2Proof.Machine.execZclr p v s
  | .zout p v => Sys2Proof.Machine.execZout p v s
  | .zacc p v => Sys2Proof.Machine.execZacc p v s
  | .zrcp p v => Sys2Proof.Machine.execZrcp p v s
  | .zrsq p v => Sys2Proof.Machine.execZrsq p v s
  | .pset p v => Sys2Proof.Machine.execPset p v s
  | .pld p v => Sys2Proof.Machine.execPld p v s
  | .topk p v => Sys2Proof.Machine.execTopk p v s
  | .tkmerge p v => Sys2Proof.Machine.execTkmerge p v s
  | .tkout p v => Sys2Proof.Machine.execTkout p v s
  | .tkclr p v => Sys2Proof.Machine.execTkclr p v s
  | .rowsel p v => Sys2Proof.Machine.execRowsel p v s
  | .rowArrival src dst flits => Sys2Proof.Machine.execRowArrival src dst flits s
  | .reqRead src h flits env => Sys2Proof.Machine.execReqRead src h flits env s
  | .reqWrite src h flits => Sys2Proof.Machine.execReqWrite src h flits s
  | .reqAtomic src h flits env => Sys2Proof.Machine.execReqAtomic src h flits env s
  | .linkAck w seq => Sys2Proof.Machine.execLinkAck w seq s
  | .linkNak w seq g => Sys2Proof.Machine.execLinkNak w seq g s
  | .linkPause w => Sys2Proof.Machine.execLinkPause w s
  | .linkResume w => Sys2Proof.Machine.execLinkResume w s
  | .replayTimeout w g => Sys2Proof.Machine.execReplayTimeout w g s
  | .arbiterDecision a reqs => Sys2Proof.Machine.execArbiterDecision a reqs s
  | .staleRequest a => Sys2Proof.Machine.execStaleRequest a s
  | .lockLoopUpdate g rings => Sys2Proof.Machine.execLockLoopUpdate g rings s
  | .feedforwardUpdate g => Sys2Proof.Machine.execFeedforwardUpdate g s
  | .ringSlip g ring w lost => Sys2Proof.Machine.execRingSlip g ring w lost s
  | .relockDone g ring w ok => Sys2Proof.Machine.execRelockDone g ring w ok s
  | .lockThermoReport g temp => Sys2Proof.Machine.execLockThermoReport g temp s
  | .mapComplete => Sys2Proof.Machine.execMapComplete s
  | .fadeValue l f => Sys2Proof.Machine.execFadeValue l f s
  | .driveAdjust l => Sys2Proof.Machine.execDriveAdjust l s
  | .spareReady l locked => Sys2Proof.Machine.execSpareReady l locked s
  | .crossfadeDeadline l => Sys2Proof.Machine.execCrossfadeDeadline l s
  | .forcedRecessWaitEnd => Sys2Proof.Machine.execForcedRecessWaitEnd s
  | .crossfade l ps => Sys2Proof.Machine.execCrossfade l ps s
  | .crossfadeStep l => Sys2Proof.Machine.execCrossfadeStep l s
  | .p0Update l p0 => Sys2Proof.Machine.execP0Update l p0 s
  | .p0WriteRetry l => Sys2Proof.Machine.execP0WriteRetry l s
  | .calPhaseEnd readings weak => Sys2Proof.Machine.execCalPhaseEnd readings weak s
  | .laneGroupRecal g => Sys2Proof.Machine.execLaneGroupRecal g s
  | .laneGroupRecalDone r => Sys2Proof.Machine.execLaneGroupRecalDone r s
  | .recessDemand us overdue => Sys2Proof.Machine.execRecessDemand us overdue s
  | .recessWorkDone => Sys2Proof.Machine.execRecessWorkDone s
  | .drainComplete twins => Sys2Proof.Machine.execDrainComplete twins s
  | .journalStallResume => Sys2Proof.Machine.execJournalStallResume s
  | .commitComplete => Sys2Proof.Machine.execCommitComplete s
  | .restoreDone => Sys2Proof.Machine.execRestoreDone s
  | .packageReady => Sys2Proof.Machine.execPackageReady s
  | .readyMsg member step t => Sys2Proof.Machine.execReadyMsg member step t s
  | .readyResend => Sys2Proof.Machine.execReadyResend s
  | .domainWaitTimer => Sys2Proof.Machine.execDomainWaitTimer s
  | .syncIoRise => Sys2Proof.Machine.execSyncIoRise s
  | .ppsEdge => Sys2Proof.Machine.execPpsEdge s
  | .inputStageArrival plaza => Sys2Proof.Machine.execInputStageArrival plaza s
  | .inputDelivery iseq late0 late1 => Sys2Proof.Machine.execInputDelivery iseq late0 late1 s
  | .lateInputCopy iseq c => Sys2Proof.Machine.execLateInputCopy iseq c s
  | .outputArrival stage c oseq payload => Sys2Proof.Machine.execOutputArrival stage c oseq payload s
  | .lagAlarm stage => Sys2Proof.Machine.execLagAlarm stage s
  | .heartbeat c selfFault upset => Sys2Proof.Machine.execHeartbeat c selfFault upset s
  | .heartbeatCheck => Sys2Proof.Machine.execHeartbeatCheck s
  | .claimWrite stage => Sys2Proof.Machine.execClaimWrite stage s
  | .heldRelease stage => Sys2Proof.Machine.execHeldRelease stage s
  | .switchoverComplete => Sys2Proof.Machine.execSwitchoverComplete s
  | .umpireTick => Sys2Proof.Machine.execUmpireTick s
  | .tickTimeout => Sys2Proof.Machine.execTickTimeout s
  | .resyncReady c => Sys2Proof.Machine.execResyncReady c s
  | .resyncSnapshotDone us => Sys2Proof.Machine.execResyncSnapshotDone us s
  | .standbyBist passed => Sys2Proof.Machine.execStandbyBist passed s
  | .healthReport corrected0 corrected1 => Sys2Proof.Machine.execHealthReport corrected0 corrected1 s
  | .wireTestDone t => Sys2Proof.Machine.execWireTestDone t s
  | .bondLogRetry => Sys2Proof.Machine.execBondLogRetry s
  | .treqFrame f => Sys2Proof.Machine.execTreqFrame f s
  | .repairFrame f words => Sys2Proof.Machine.execRepairFrame f words s
  | .mapFrame f => Sys2Proof.Machine.execMapFrame f s
  | .echoFrame f => Sys2Proof.Machine.execEchoFrame f s
  | .doneFrame f => Sys2Proof.Machine.execDoneFrame f s
  | .trainTimeout u => Sys2Proof.Machine.execTrainTimeout u s
  | .sidebandClockStop b follows passing => Sys2Proof.Machine.execSidebandClockStop b follows passing s
  | .governorTick sh marginAd marginSd => Sys2Proof.Machine.execGovernorTick sh marginAd marginSd s
  | .freqStopEnd sh => Sys2Proof.Machine.execFreqStopEnd sh s
  | .droopDetect sh depth => Sys2Proof.Machine.execDroopDetect sh depth s
  | .railCheck rail mv amps => Sys2Proof.Machine.execRailCheck rail mv amps s
  | .sensorRead p sd sensor t => Sys2Proof.Machine.execSensorRead p sd sensor t s
  | .powerMeasure pkg shallots => Sys2Proof.Machine.execPowerMeasure pkg shallots s
  | .wakeTick => Sys2Proof.Machine.execWakeTick s
  | .forecastFrame sh next segment => Sys2Proof.Machine.execForecastFrame sh next segment s
  | .forecastHoldEnd sh => Sys2Proof.Machine.execForecastHoldEnd sh s
  | .vrLimitAssert sh => Sys2Proof.Machine.execVrLimitAssert sh s
  | .vrLimitDeassert sh => Sys2Proof.Machine.execVrLimitDeassert sh s
  | .vrLimitTimer sh => Sys2Proof.Machine.execVrLimitTimer sh s
  | .thermalCheck activity boulevard => Sys2Proof.Machine.execThermalCheck activity boulevard s
  | .shallotCooldownEnd sh => Sys2Proof.Machine.execShallotCooldownEnd sh s
  | .thermistorRead n t => Sys2Proof.Machine.execThermistorRead n t s
  | .scrubUnit h u fault noSpare => Sys2Proof.Machine.execScrubUnit h u fault noSpare s
  | .rowRepair h row => Sys2Proof.Machine.execRowRepair h row s
  | .walkerStep h => Sys2Proof.Machine.execWalkerStep h s
  | .rotateDone => Sys2Proof.Machine.execRotateDone s
  | .netLinkDown sub fec lanes => Sys2Proof.Machine.execNetLinkDown sub fec lanes s
  | .netLinkUp sub lanes macsec => Sys2Proof.Machine.execNetLinkUp sub lanes macsec s
  | .routeRestore dest => Sys2Proof.Machine.execRouteRestore dest s
  | .rxFrame sub f => Sys2Proof.Machine.execRxFrame sub f s
  | .neighborSolicitation sub target => Sys2Proof.Machine.execNeighborSolicitation sub target s
  | .ptpMessage sub selected offset => Sys2Proof.Machine.execPtpMessage sub selected offset s
  | .ptpLost => Sys2Proof.Machine.execPtpLost s
  | .schedWindow num => Sys2Proof.Machine.execSchedWindow num s
  | .schedData p => Sys2Proof.Machine.execSchedData p s
  | .schedAck num step bits => Sys2Proof.Machine.execSchedAck num step bits s
  | .schedAckTimer num step => Sys2Proof.Machine.execSchedAckTimer num step s
  | .schedResendTimer num step seq => Sys2Proof.Machine.execSchedResendTimer num step seq s
  | .serviceCall c => Sys2Proof.Machine.execServiceCall c s
  | .hello via nonce => Sys2Proof.Machine.execHello via nonce s
  | .openSession via m => Sys2Proof.Machine.execOpenSession via m s
  | .offerExpiry => Sys2Proof.Machine.execOfferExpiry s
  | .reachLoad p env => Sys2Proof.Machine.execReachLoad p env s
  | .reachStore p => Sys2Proof.Machine.execReachStore p s
  | .reachAtomic p env => Sys2Proof.Machine.execReachAtomic p env s
  | .stageWrite p => Sys2Proof.Machine.execStageWrite p s
  | .stageLoad p ue => Sys2Proof.Machine.execStageLoad p ue s
  | .refusedReply g => Sys2Proof.Machine.execRefusedReply g s
  | .loadReply p => Sys2Proof.Machine.execLoadReply p s
  | .reachAck p => Sys2Proof.Machine.execReachAck p s
  | .atomicReply p => Sys2Proof.Machine.execAtomicReply p s
  | .fetchMissing p => Sys2Proof.Machine.execFetchMissing p s
  | .reachStatus p => Sys2Proof.Machine.execReachStatus p s
  | .reachResendTimer engine peer seq => Sys2Proof.Machine.execReachResendTimer engine peer seq s
  | .fenceTimeout g plaza index => Sys2Proof.Machine.execFenceTimeout g plaza index s
  | .replyStoreExpiry g src engine seq => Sys2Proof.Machine.execReplyStoreExpiry g src engine seq s
  | .combineWindowEnd g dst region offset => Sys2Proof.Machine.execCombineWindowEnd g dst region offset s
  | .trngHealthFail => Sys2Proof.Machine.execTrngHealthFail s
  | .keyUnwrap p ok => Sys2Proof.Machine.execKeyUnwrap p ok s
  | .quorumLapse => Sys2Proof.Machine.execQuorumLapse s
  | .eventIrqTimer => Sys2Proof.Machine.execEventIrqTimer s
  | .getInfo m => Sys2Proof.Machine.execGetInfo m s
  | .attest m => Sys2Proof.Machine.execAttest m s
  | .certChain m => Sys2Proof.Machine.execCertChain m s
  | .regRead m => Sys2Proof.Machine.execRegRead m s
  | .eventRead m => Sys2Proof.Machine.execEventRead m s
  | .eventAck m => Sys2Proof.Machine.execEventAck m s
  | .mapRead m => Sys2Proof.Machine.execMapRead m s
  | .mapAck m => Sys2Proof.Machine.execMapAck m s
  | .hostCommand m => Sys2Proof.Machine.execHostCommand m s
  | .mewsStageWrite m => Sys2Proof.Machine.execMewsStageWrite m s
  | .timeSource m => Sys2Proof.Machine.execTimeSource m s
  | .freqSet m => Sys2Proof.Machine.execFreqSet m s
  | .conductorReset m => Sys2Proof.Machine.execConductorReset m s
  | .fieldTest m wires waves => Sys2Proof.Machine.execFieldTest m wires waves s
  | .mgmtNetSet m => Sys2Proof.Machine.execMgmtNetSet m s
  | .fwWrite m => Sys2Proof.Machine.execFwWrite m s
  | .fwCommit m => Sys2Proof.Machine.execFwCommit m s
  | .fwBlockWrite => Sys2Proof.Machine.execFwBlockWrite s
  | .packageReset m => Sys2Proof.Machine.execPackageReset m s
  | .plazaReset m => Sys2Proof.Machine.execPlazaReset m s
  | .plazaResetDone pcUp => Sys2Proof.Machine.execPlazaResetDone pcUp s
  | .shallotReset m => Sys2Proof.Machine.execShallotReset m s
  | .shallotResetDone sh fails => Sys2Proof.Machine.execShallotResetDone sh fails s
  | .credSet m => Sys2Proof.Machine.execCredSet m s
  | .changeSubmit m => Sys2Proof.Machine.execChangeSubmit m s
  | .mewsMessageTimeout port tag => Sys2Proof.Machine.execMewsMessageTimeout port tag s
  | .setEndpointId port op eid => Sys2Proof.Machine.execSetEndpointId port op eid s
  | .getEndpointId port => Sys2Proof.Machine.execGetEndpointId port s
  | .getMctpVersionSupport port type => Sys2Proof.Machine.execGetMctpVersionSupport port type s
  | .getMessageTypeSupport port => Sys2Proof.Machine.execGetMessageTypeSupport port s
  | .getVendorDefinedMessageSupport port selector => Sys2Proof.Machine.execGetVendorDefinedMessageSupport port selector s
  | .vddAonUp => Sys2Proof.Machine.execVddAonUp s
  | .bringupPhaseEnd p => Sys2Proof.Machine.execBringupPhaseEnd p s
  | .pkgRstAssert => Sys2Proof.Machine.execPkgRstAssert s
  | .vddAonLoss io => Sys2Proof.Machine.execVddAonLoss io s
  | .perstAssert => Sys2Proof.Machine.execPerstAssert s
  | .pcieHotReset => Sys2Proof.Machine.execPcieHotReset s
  | .pkgRstRelease => Sys2Proof.Machine.execPkgRstRelease s
  | .heldRowTransferDone sh => Sys2Proof.Machine.execHeldRowTransferDone sh s
  | .dutyFrameBoundary sh => Sys2Proof.Machine.execDutyFrameBoundary sh s
  | .parkComplete => Sys2Proof.Machine.execParkComplete s
  | .nvWriteDone => Sys2Proof.Machine.execNvWriteDone s
  | .journalExportDone env => Sys2Proof.Machine.execJournalExportDone env s
  | .unknownCommand c => Sys2Proof.Machine.execUnknownCommand c s
  | .d3hotExit => Sys2Proof.Machine.execD3hotExit s
  | .i3cAddressAssigned addr => Sys2Proof.Machine.execI3cAddressAssigned addr s

end Sys2Proof.Machine
end

