-- ==== Sys2Proof/Safety.lean ====
section
/-! DEFINITION. What counts as a safe state, and the vocabulary of the statements: the invariant that every step keeps, a pod and a
state as an operation leaves them, and row results. -/
namespace Sys2Proof.Machine

/-- The invariant that every step keeps: the bytes of the stacks and the unit tags stand in their canonical form. -/
def State.Inv (s : State) : Prop := Memory.wf s.hbm = true ∧ s.tags.wf = true

/-- The pod that a slot command acts on. -/
def State.podOf (s : State) (r : PodRef) : Pod := s.pod r.sh.val r.pod.val

/-- The state after a slot operation that leaves the pod as `q`: only that pod and the counter of free values differ. -/
def State.withPod (s : State) (r : PodRef) (q : Pod) : State := { s.modPod r.sh.val r.pod.val (fun _ => q) with free := s.free + 1 }

/-- The beat in which a slot command issues. -/
def State.beatOf (s : State) (r : PodRef) : Nat := (s.shal r.sh.val).beat.toNat

/-- The reports of a slot operation take effect in order (R31, R35, R64, R65, R85, R135, R137, R144). -/
def State.told (s : State) (r : PodRef) (reps : List Report) : State := s.reports r.sh.val r.pod.val reps

/-- A slot operation whose whole effect is one masked row that its pod's store takes from beat `vis` on: each of the first `n` elements
of `w` bits of the row meets `val`, the bits of the store row that change are those of `bits`, and `reps` is reported. Every
other part of the state but the counter of free values stays. -/
def RowResult (s : State) (r : PodRef) (vis : Nat) (dst : BitVec 12) (w n : Nat) (val : Nat → Nat → Prop) (bits : Nat → Bool)
    (reps : List Report) (res : Res) : Prop :=
  ∃ row mask : Row, (∀ i, i < n → val i (rowU w i row)) ∧ (∀ b, b < 4096 → mask.getLsbD b = bits b) ∧
    res = .next ((s.withPod r ((s.podOf r).push vis (.storeRow dst row mask))).told r reps)

/-- The bits of the enabled ones of the elements of `w` bits (R134): those of an element whose lowest byte the predicate enables. -/
def enabledBits (q : Pod) (pred : Fin 8) (w : Nat) (b : Nat) : Bool := q.enabled pred (b / w * w / 8)

/-- What `n` clamps into DST report (R135): none, or VEC_SAT_COUNT by n and the saturations of the tensor that holds DST. -/
def clampsOf (q : Pod) (dst : BitVec 12) (n : Nat) : List Report :=
  if n = 0 then [] else .vecSat n :: ((q.tidOfRow dst.toNat).map (fun t => Report.sat t n)).toList

/-- How many of `n` elements meet a test. -/
def countOf (n : Nat) (f : Nat → Bool) : Nat := (List.range n).countP f

/-- A command goes on to a state that reads as `u` does: every field is the one of `u`, and every shallot reads as in `u`. -/
def Gives (res : Res) (u : State) : Prop := ∃ t, res = .next t ∧ { t with sh := u.sh } = u ∧ ∀ n, t.shal n = u.shal n

/-- Zero values with clear flags at the positions from `c` to `c + n − 1`, the rest as before. -/
def clearedAt {α : Type} [Inhabited α] (old new : Tbl α) (c n : Nat) : Prop :=
  ∀ i, new.get i = if c ≤ i ∧ i < c + n then default else old.get i

/-! ### Commands of the command block -/

/-- CMD_OPCODE and CMD_ARG0 to CMD_ARG11 as a host command leaves them (R364). -/
def State.cmdWritten (s : State) (op : Nat) (a : List Word) : State :=
  { s with host := { s.host with opcode := BitVec.ofNat 32 op, args := Tbl.setRun {} 0 a } }

/-- A host command has ended: CMD_RESULT and CMD_STATUS are written, BUSY is 0, DONE is 1 and vector 0 is signalled (R364, R368). -/
def State.cmdDone (s : State) (accept st : Nat) (other : Bool) (res : List Word) : State :=
  { s with host := { s.host with
      busy := false, done := true, aborted := false, otherPath := other, accept := BitVec.ofNat 8 accept,
      stateCode := BitVec.ofNat 3 s.top.state.code, status := BitVec.ofNat 8 st, results := Tbl.setRun {} 0 res } }.msix 0

/-- A host request reaches the package and BUSY is 0 (R352, R364). -/
def State.hostFree (s : State) : Prop := s.host.ready = true ∧ s.host.linkUp = true ∧ s.host.busy = false

/-- A host command of this ACCEPT mask may begin: no command runs, and the state is in the mask (R365, R366). -/
def State.takesCommand (s : State) (accept : Nat) : Prop :=
  s.hostFree ∧ s.host.running = none ∧ bitAt accept s.top.state.code = true

/-- The command as it runs. -/
def hostCmd (op accept : Nat) (a : List Word) : RunningCmd := { opcode := op, args := a, accept := accept }

/-- A host command has begun: BUSY is 1, DONE is 0 (R364). -/
def State.cmdBegun (s : State) (op accept : Nat) (a : List Word) : State :=
  let t := s.cmdWritten op a
  { t with host := { t.host with running := some (hostCmd op accept a), busy := true, done := false } }

/-- A host command that was accepted has ended, with a status and its results. -/
def State.cmdOver (s : State) (op accept : Nat) (a : List Word) (st : Nat) (res : List Word) : State :=
  (s.cmdWritten op a).cmdDone accept st false res

/-- Only these parts differ: the host interface, the event log and what leaves the package. -/
def Quiet (s t : State) : Prop := { t with host := s.host, ev := s.ev, out := s.out } = s

/-! ### Mews requests -/

/-- A request is served by the management die, passes authentication and authority, and `t` is the state that has noted it as open with its SEQ (R476, R479, R482, R483). -/
def State.mewsGate (s : State) (o : MewsOp) (m : MewsReq) (t : State) : Prop :=
  let n := s.mews.openReqs.get m.port.val
  let u := { s with mews := { s.mews with openReqs := s.mews.openReqs.set m.port.val (n + 1) } }
  s.mewsUp = true ∧ n < 4 ∧ u.mewsAuth o.code m ≠ .bad ∧ t = u.takeSeq m (u.mewsAuth o.code m) ∧ t.mewsMay o (u.mewsAuth o.code m) = true

/-- No command runs, no PARK is under way, and the state accepts the request (R365, R481, R483). -/
def State.mewsFree (s : State) (o : MewsOp) : Prop := s.mewsState o = true ∧ s.host.running = none ∧ s.top.parking = false

/-! ### Requests at a gate die -/

/-- Of the flits that wait or have just been accepted at stack `h` from plaza `src`, the first request of an operation `mine` that is whole and may be served is `q` with the data
flits `data`; `t` is the state once its flits have been taken out of the buffer (R219, R221, R280). -/
def GateTakes (s : State) (src h : Nat) (flits : List RxFlit) (mine : Nat → Bool) (t : State) (q : ReqFields) (data : List Flit) : Prop :=
  let k := streetIx src (8 + h)
  let a := s.rxFlits src (8 + h) flits
  let l := a.1.blv.rxBuf.get k ++ a.2.filter (fun e => flitKind e.2 == 1 || flitKind e.2 == 2)
  let u := { a.1 with blv := { a.1.blv with rxBuf := a.1.blv.rxBuf.set k l } }
  ∃ e, l.find? (fun e => flitKind e.2 == 2 && mine (reqFields e.2).op && u.canServe h l (reqFields e.2)) = some e ∧
    q = reqFields e.2 ∧ reqData l q q.needs = some data ∧
    t = { u with blv := { u.blv with rxBuf := u.blv.rxBuf.set k (data.foldl (fun l f => l.eraseP (fun x => x.2 == f)) (l.erase e)) } }

/-- The stack and the unit number of unit `o` of a region (R275). -/
def Region.unit (r : Region) (o : Nat) : Nat × Nat := ((r.locate (64 * o)).1, (r.locate (64 * o)).2 / 64)

/-- Every byte and every tag outside the units of `us` is the same in both states. -/
def SameOutside (us : List (Nat × Nat)) (s t : State) : Prop :=
  (∀ a, (∀ u ∈ us, a < hbmAddr u.1 (64 * u.2) ∨ hbmAddr u.1 (64 * u.2) + 64 ≤ a) → memGet t.hbm a = memGet s.hbm a) ∧
  ∀ k, (∀ u ∈ us, k ≠ hbmUnit u.1 u.2) → t.tags.get k = s.tags.get k

/-- A region that lies within its stacks, whose granules do not cross units. -/
def Region.fits (r : Region) : Prop := r.base + r.size ≤ 2 ^ 36 ∧ r.base % 64 = 0

end Sys2Proof.Machine
end

