-- ==== Sys2Proof/Certificates/Slice0/Obligations.lean ====
section
/-! DEFINITION. The statements about this model. -/
open Sys2Proof Sys2Proof.Machine

/-- R132: the element operations that neither clamp nor compare. With A and B the elements of the two operands (B by S and SRCB, R129), every enabled
element of DST takes the value of the table, visible at t + 3 (R131), in every form that the loader admits; nothing else changes.
R132, R135: ADDS, SUBS, MULR, SCALE and NARROW clamp the exact result to the signed W-bit range, and every enabled element that a clamp
changes is counted. -/
def Obligations.VecArithmetic : Prop :=
  (
  ∀ (r : PodRef) (v : VecArgs) (s : State), binForm v = true →
    let q := s.podOf r
    let W := v.width
    let res := fun (val : Nat → Nat → Prop) (c : Instr) =>
      RowResult s r (s.beatOf r + 3) v.d W v.count val (enabledBits q v.pred W) [] (exec c s)
    res (fun i x => x = uOf W (q.aS v i + q.bS v i)) (.vecAdd r v) ∧
    res (fun i x => x = uOf W (q.aS v i - q.bS v i)) (.vecSub r v) ∧
    res (fun i x => x = uOf W (q.aS v i * q.bS v i)) (.mullo r v) ∧
    res (fun i x => x = uOf W (q.aS v i * p2 (q.bU v i))) (.shl r v) ∧
    res (fun i x => x = uOf W (q.aS v i / p2 (q.bU v i))) (.shr r v) ∧
    res (fun i x => x = q.aU v i / 2 ^ q.bU v i) (.shru r v) ∧
    res (fun i x => sInt W x = min (q.aS v i) (q.bS v i)) (.vecMin r v) ∧
    res (fun i x => sInt W x = max (q.aS v i) (q.bS v i)) (.vecMax r v) ∧
    res (fun i x => x = min (q.aU v i) (q.bU v i)) (.minu r v) ∧
    res (fun i x => x = max (q.aU v i) (q.bU v i)) (.maxu r v) ∧
    res (fun i x => ∀ b, x.testBit b = ((q.aU v i).testBit b && (q.bU v i).testBit b)) (.vecAnd r v) ∧
    res (fun i x => ∀ b, x.testBit b = ((q.aU v i).testBit b || (q.bU v i).testBit b)) (.vecOr r v) ∧
    res (fun i x => ∀ b, x.testBit b = Bool.xor ((q.aU v i).testBit b) ((q.bU v i).testBit b)) (.vecXor r v)) ∧
  (
  ∀ (r : PodRef) (v : VecArgs) (s : State),
    let q := s.podOf r
    let W := v.width
    let clamped := fun (x : Int) => max (- p2 (W - 1)) (min (p2 (W - 1) - 1) x)
    let row := fun (i : Nat) => rowS 32 i (q.rowA v)
    let j := v.b.toNat % 16
    let scaled := fun (i : Nat) => rne (row i * q.kS j) (((q.k.get (j + 1)).toNat % 128 : Nat) : Int)
    let res := fun (w : Nat) (exact : Nat → Int) (c : Instr) =>
      RowResult s r (s.beatOf r + 3) v.d w (4096 / w) (fun i x => x = uOf w (clamped (exact i))) (enabledBits q v.pred w)
        (clampsOf q v.d (countOf (4096 / w) (fun i => q.enabled v.pred (i * w / 8) && decide (clamped (exact i) ≠ exact i)))) (exec c s)
    (binForm v = true → res W (fun i => q.aS v i + q.bS v i) (.adds r v)) ∧
    (binForm v = true → res W (fun i => q.aS v i - q.bS v i) (.subs r v)) ∧
    (mulrForm v = true → res W (fun i => rne (q.aS v i * q.bS v i) 30) (.mulr r v)) ∧
    (scaleForm v = true → res 32 scaled (.vecScale r v)) ∧
    (widenForm v = true →
      RowResult s r (s.beatOf r + 3) v.d W v.count
        (fun i x => 128 * v.q ≤ i → i < 128 * v.q + 128 → x = uOf W (clamped (row (i - 128 * v.q))))
        (fun b => decide (128 * v.q ≤ b / W) && decide (b / W < 128 * v.q + 128) && enabledBits q v.pred W b)
        (clampsOf q v.d (countOf 128 (fun i => q.enabled v.pred ((128 * v.q + i) * W / 8) && decide (clamped (row i) ≠ row i))))
        (exec (.narrow r v) s)))

/-- R132, R144, R145: the operations that move elements: SEL writes every element by its predicate; CLZ counts leading zeros; WIDEN and WIDENU
extend 128 elements; GATHER reads by index from the 32-row window at SRCB, 0 and a count for an index out of range; SCATTER writes by index, in rising order, into the 32-row window at DST, and counts an index out of range; ROWSEL copies the row
that its index selects, or zeros. -/
def Obligations.VecMovedValues : Prop :=
  ∀ (r : PodRef) (v : VecArgs) (s : State),
    let q := s.podOf r
    let W := v.width
    let en := enabledBits q v.pred
    let x := fun (i : Nat) => rowU 32 i (q.rowA v)
    let E := v.count
    (binForm v = true → RowResult s r (s.beatOf r + 3) v.d W E
      (fun i y => y = if q.enabled v.pred (i * W / 8) then q.aU v i else q.bU v i) (fun _ => true) [] (exec (.vecSel r v) s)) ∧
    (noSForm v = true → RowResult s r (s.beatOf r + 3) v.d W E
      (fun i y => (q.aU v i = 0 ∧ y = W) ∨ (y < W ∧ 2 ^ (W - 1 - y) ≤ q.aU v i ∧ q.aU v i < 2 ^ (W - y))) (en W) [] (exec (.clz r v) s)) ∧
    (widenForm v = true → RowResult s r (s.beatOf r + 3) v.d 32 128
      (fun i y => sInt 32 y = rowS W (128 * v.q + i) (q.rowA v)) (en 32) [] (exec (.widen r v) s)) ∧
    (widenForm v = true → RowResult s r (s.beatOf r + 3) v.d 32 128
      (fun i y => y = rowU W (128 * v.q + i) (q.rowA v)) (en 32) [] (exec (.widenu r v) s)) ∧
    (gatherForm v = true → RowResult s r (s.beatOf r + 9) v.d 32 128
      (fun i y => if x i < 32 * E then sInt 32 y = rowS W (x i % E) (q.store.get (v.b.toNat + x i / E)) else y = 0) (en 32)
      (let n := countOf 128 (fun i => q.enabled v.pred (4 * i) && decide (32 * E ≤ x i))
       if n = 0 then [] else [.vecRange n]) (exec (.gather r v) s)) ∧
    (scatterForm v = true →
      let y := fun (i : Nat) => rowU 32 i (q.rowB v)
      let moved := (List.range 128).filter (fun i => decide (y i < 32 * E) && q.enabled v.pred (y i % E * W / 8))
      ∃ ws : List (Row × Row), ws.length = moved.length ∧
        (∀ (n i : Nat) (row mask : Row), moved[n]? = some i → ws[n]? = some (row, mask) → rowU W (y i % E) row = x i % 2 ^ W ∧
          ∀ b, b < 4096 → mask.getLsbD b = decide (b / W = y i % E)) ∧
        exec (.scatter r v) s = .next ((s.withPod r ((moved.zip ws).foldl (fun (p : Pod) w =>
          p.push (s.beatOf r + 9) (.storeRow (BitVec.ofNat 12 (v.d.toNat + y w.1 / E)) w.2.1 w.2.2)) q)).told r
            (let n := countOf 128 (fun i => decide (32 * E ≤ y i))
             if n = 0 then [] else [.vecRange n]))) ∧
    (ctlForm v = true →
      let idx := ((x (v.b.toNat % 128) : Nat) : Int)
      let part := v.b.toNat / 128 % 16
      let k15 := (q.k.get 15).toNat
      let R := k15 / 2 ^ 28 + 1
      let inTable := (q.k.get 14).toInt ≤ idx ∧ idx < (q.k.get 14).toInt + ((k15 / 2 ^ 16 % 4096 : Nat) : Int) ∧ part < R
      let row := k15 % 4096 + (idx - (q.k.get 14).toInt).toNat * R + part
      ∃ out reps, exec (.rowsel r v) s =
          .next ((s.withPod r (q.push (s.beatOf r + 3) (.storeRow v.d out (BitVec.allOnes 4096)))).told r reps) ∧
        (inTable → row ≤ 4095 → out = q.store.get row ∧ reps = []) ∧
        (inTable → 4095 < row → out = 0 ∧ reps = [.vecRange 1]) ∧
        (¬ inTable → out = 0 ∧ reps = []))

/-- R134, R133: a compare writes PRd: every bit of an enabled element's bytes takes the result, the bits of an element that is not enabled are
cleared; PSET combines two predicates bit by bit and PLD takes the 512 low bits of a row. No other register and no row changes.
R137, R138: FUNC writes its function of each enabled word of A at t + 9 and counts the enabled inputs outside their domain. The corners that the spec
states hold of the functions: FEXP2 above 0 acts as at 0 and is counted; below −32 it gives 0; FLOG2 of 0 and FRCP, FRSQ outside their
range; FTANH is odd and reaches ±2^30 at ±16; FSIGM(x) + FSIGM(−x) = 2^30; FSGATE is x × FSIGM(x), rounded. -/
def Obligations.VecPredicatesAndFunctions : Prop :=
  (
  ∀ (r : PodRef) (v : VecArgs) (s : State),
    let q := s.podOf r
    let W := v.width
    let d := v.d.toNat % 8
    let bit := fun (c : Instr) (f : Nat → Bool) =>
      ∃ pr : BitVec 512, exec c s = .next (s.withPod r { q with pr := q.pr.set d pr }) ∧ ∀ b, b < 512 → pr.getLsbD b = f b
    let elem := fun (b : Nat) => b / (W / 8)
    let en := fun (b : Nat) => q.enabled v.pred (elem b * (W / 8))
    let pa := q.predOf (Fin.ofNat 8 (v.a.toNat % 8))
    let pb := q.predOf (Fin.ofNat 8 (v.b.toNat % 8))
    let f := v.b.toNat / 16 % 4
    (cmpForm v = true →
      bit (.cmpeq r v) (fun b => en b && decide (q.aU v (elem b) = q.bU v (elem b))) ∧
      bit (.cmplt r v) (fun b => en b && decide (q.aS v (elem b) < q.bS v (elem b))) ∧
      bit (.cmpltu r v) (fun b => en b && decide (q.aU v (elem b) < q.bU v (elem b)))) ∧
    (predForm v = true →
      bit (.pset r v) (fun b =>
        if f = 0 then pa.getLsbD b && pb.getLsbD b else if f = 1 then pa.getLsbD b || pb.getLsbD b
        else if f = 2 then pa.getLsbD b && !pb.getLsbD b else Bool.xor (pa.getLsbD b) (pb.getLsbD b)) ∧
      bit (.pld r v) (fun b => (q.rowA v).getLsbD b))) ∧
  (
  (∀ (r : PodRef) (v : VecArgs) (s : State), funcForm v = true →
    let q := s.podOf r
    let res := fun (f : Nat → Int × Bool) (c : Instr) =>
      RowResult s r (s.beatOf r + 9) v.d 32 128 (fun i x => x = uOf 32 (f (rowU 32 i (q.rowA v))).1) (enabledBits q v.pred 32)
        (let n := countOf 128 (fun i => q.enabled v.pred (4 * i) && (f (rowU 32 i (q.rowA v))).2)
         if n = 0 then [] else [.vecDomain n]) (exec c s)
    res (fun x => fexp2 (sInt 32 x)) (.fexp2 r v) ∧ res flog2 (.flog2 r v) ∧ res frcp (.frcp r v) ∧ res frsq (.frsq r v) ∧
    res (fun x => ftanh (sInt 32 x)) (.ftanh r v) ∧ res (fun x => fsigm (sInt 32 x)) (.fsigm r v) ∧
    res (fun x => fsgate (sInt 32 x)) (.fsgate r v)) ∧
  (∀ x : Int, 0 < x → fexp2 x = ((fexp2 0).1, true)) ∧ (∀ x : Int, x < -32 * p2 24 → fexp2 x = (0, false)) ∧
  fexp2 0 = (p2 30, false) ∧ flog2 0 = (- p2 31, true) ∧
  (∀ m : Nat, 0 < m → m < 2 ^ 30 ∨ 2 ^ 31 ≤ m → frcp m = (0, true)) ∧ (∀ m : Nat, 0 < m → m < 2 ^ 29 ∨ 2 ^ 31 ≤ m → frsq m = (0, true)) ∧
  (∀ x : Int, x ≠ 0 → (ftanh (-x)).1 = -(ftanh x).1) ∧ (∀ x : Int, 16 * p2 16 ≤ x → ftanh x = (p2 30, false)) ∧
  (∀ x : Int, 0 < x → x < 32 * p2 16 → (fsigm x).1 + (fsigm (-x)).1 = p2 30) ∧ (fsigm 0).1 = p2 29 ∧
  (∀ x : Int, -32 * p2 16 ≤ x → x < 32 * p2 16 → (fsgate x).1 = rne (x * (fsigm x).1) 30))

/-- R132, R133, R136: reductions and Z registers. RSUM and RSSQ add the sum over the enabled elements to Zk; RMAX and RMIN take the extreme of Zk and the
enabled elements; an addition whose exact result leaves 64 bits sets the flag, and nothing but ZCLR clears it. ZACC adds, or takes the
larger of, the row's eight 64-bit values; ZCLR sets 0, −2^63 or 2^63 − 1; LDK loads four K registers. Only the register named changes.
R133, R136, R141: ZOUT writes the eight Z registers into words 0 to 15 and zeros after them, and with a flagged one among them writes nothing and
reports an A192 overflow for each flagged one; ZRCP and ZRSQ write m's reciprocal (or reciprocal root) and exponent into K(j) and K(j + 1), 0 and 0 with a domain clamp for Zk ≤ 0,
and nothing for a flagged Zk. The tensor of ZOUT's report is the one whose rows hold DST (a free value where none does),
that of ZRCP and ZRSQ a free value; tensor and column are the model's choice, log 49. -/
def Obligations.VecReductionsAndZReads : Prop :=
  (
  ∀ (r : PodRef) (v : VecArgs) (s : State),
    let q := s.podOf r
    let k := v.d.toNat % 8
    let z := q.z.get k
    let en := fun (i : Nat) => q.enabled v.pred (i * v.width / 8)
    let sum := fun (f : Nat → Int) => (((List.range v.count).filter en).map f).sum
    let zs := fun (c : Instr) (z' : ZReg) => exec c s = .next (s.withPod r { q with z := q.z.set k z' })
    let start := if v.b.toNat % 4 = 0 then 0 else if v.b.toNat % 4 = 1 then - p2 63 else p2 63 - 1
    let added := fun (z : ZReg) (t : Int) =>
      ({ v := BitVec.ofInt 64 (z.v.toInt + t), ovf := z.ovf || !decide (- p2 63 ≤ z.v.toInt + t ∧ z.v.toInt + t < p2 63) } : ZReg)
    (noSForm v = true → zs (.rsum r v) (added z (sum (q.aS v)))) ∧
    (rssqForm v = true → zs (.rssq r v) (added z (sum (fun i => q.aS v i * q.aS v i)))) ∧
    (noSForm v = true → ∃ m : Int, zs (.rmax r v) { z with v := BitVec.ofInt 64 m } ∧ z.v.toInt ≤ m ∧
      (∀ i, i < v.count → en i = true → q.aS v i ≤ m) ∧ (m = z.v.toInt ∨ ∃ i, i < v.count ∧ en i = true ∧ m = q.aS v i)) ∧
    (noSForm v = true → ∃ m : Int, zs (.rmin r v) { z with v := BitVec.ofInt 64 m } ∧ m ≤ z.v.toInt ∧
      (∀ i, i < v.count → en i = true → m ≤ q.aS v i) ∧ (m = z.v.toInt ∨ ∃ i, i < v.count ∧ en i = true ∧ m = q.aS v i)) ∧
    (ctlForm v = true → ∃ zt, exec (.zacc r v) s = .next (s.withPod r { q with z := zt }) ∧ (∀ i, 8 ≤ i → zt.get i = q.z.get i) ∧
      ∀ i, i < 8 → zt.get i = if v.b.toNat % 2 = 1 then
          { q.z.get i with v := BitVec.ofInt 64 (max (q.z.get i).v.toInt (rowS 64 i (q.rowA v))) }
        else added (q.z.get i) (rowS 64 i (q.rowA v))) ∧
    (zclrForm v = true → zs (.zclr r v) { v := BitVec.ofInt 64 start, ovf := false }) ∧
    (ctlForm v = true → ∃ kt, exec (.ldk r v) s = .next (s.withPod r { q with k := kt }) ∧
      ∀ i, kt.get i = if 4 * (v.d.toNat % 4) ≤ i ∧ i < 4 * (v.d.toNat % 4) + 4 then
          BitVec.ofNat 32 (rowU 32 (4 * (v.b.toNat % 32) + (i - 4 * (v.d.toNat % 4))) (q.rowA v)) else q.k.get i)) ∧
  (
  ∀ (r : PodRef) (v : VecArgs) (s : State),
    let q := s.podOf r
    let z := q.z.get (v.a.toNat % 8)
    let j := v.d.toNat % 16
    let F := ((v.b.toNat % 32 : Nat) : Int)
    let L := ((bitlen z.v.toInt.toNat : Nat) : Int)
    let tid := q.vecTid (s.ctx r.sh.val) v.d
    let m := fun (sh : Int) => if 0 ≤ sh then (z.v.toInt / p2 sh.toNat).toNat else (z.v.toInt * p2 (-sh).toNat).toNat
    let even := if (L - 31) % 2 = 0 then L - 31 else L - 30
    let ks := fun (c : Instr) (y e : Int) =>
      exec c s = .next (s.withPod r { q with k := (q.k.set j (BitVec.ofInt 32 y)).set (j + 1) (BitVec.ofInt 32 e) })
    let none_ := fun (c : Instr) => exec c s = .next ((s.withPod r q).told r [.a192 (freeTid (s.ctx r.sh.val)) (v.a.toNat % 8)])
    let zeros := fun (c : Instr) => exec c s = .next ((s.withPod r { q with k := (q.k.set j 0).set (j + 1) 0 }).told r [.vecDomain 1])
    (ctlForm v = true →
      RowResult s r (s.beatOf r + 2) v.d 64 64
        (fun i x => x = if i < 8 then (q.z.get i).v.toNat else 0) (fun _ => (List.range 8).all (fun i => !(q.z.get i).ovf))
        (((List.range 8).filter (fun i => (q.z.get i).ovf)).map (fun i => .a192 tid i)) (exec (.zout r v) s)) ∧
    (zrcpForm v = true →
      (z.ovf = true → none_ (.zrcp r v) ∧ none_ (.zrsq r v)) ∧
      (z.ovf = false → z.v.toInt ≤ 0 → zeros (.zrcp r v) ∧ zeros (.zrsq r v)) ∧
      (z.ovf = false → 0 < z.v.toInt →
        ks (.zrcp r v) (frcp (m (L - 31))).1 (60 + (L - 31) - F) ∧ ks (.zrsq r v) (frsq (m even)).1 (45 + even / 2 - F))))

/-- R142, R143, R133: TOPK and TKMERGE leave in T the first k entries of the ordered union of T and the candidates. For an ordered T: the new T is
ordered by value, descending, and then by index, has at most k entries, none twice, all from T or the candidates; and whatever of T and the
candidates is left out (but index 0xFFFF_FFFF) comes after each of its k entries. TKOUT writes T in order with (−2^31, 0xFFFF_FFFF) after
it, and TKCLR empties T. -/
def Obligations.TopKKeepsTheLargest : Prop :=
  ∀ (r : PodRef) (v : VecArgs) (s : State),
    let q := s.podOf r
    let before := fun (x y : TopEntry) => y.v.toInt < x.v.toInt ∨ (x.v = y.v ∧ x.i.toNat < y.i.toNat)
    let ordered := fun (l : List TopEntry) => l.Pairwise before ∧ ∀ x ∈ l, x.i ≠ 0xFFFFFFFF
    let k := v.b.toNat / 16 % 64 + 1
    let word := fun (i : Nat) => BitVec.ofNat 32 (rowU 32 i (q.rowA v))
    let top := fun (isCand : TopEntry → Prop) (c : Instr) =>
      ∃ t, exec c s = .next (s.withPod r { q with t := t }) ∧
        (ordered q.t → ordered t ∧ t.length ≤ k ∧ (∀ x ∈ t, x ∈ q.t ∨ isCand x) ∧
          ∀ x, (x ∈ q.t ∨ isCand x) → x.i ≠ 0xFFFFFFFF → x ∈ t ∨ (t.length = k ∧ ∀ y ∈ t, before y x))
    (topkForm v = true → top (fun x => ∃ i, i < 128 ∧ q.enabled v.pred (4 * i) = true ∧
        x = { v := word i, i := q.k.get (v.b.toNat % 16) + BitVec.ofNat 32 i }) (.topk r v)) ∧
    (ctlForm v = true → top (fun x => ∃ i, i < 64 ∧ x = { v := word (2 * i), i := word (2 * i + 1) }) (.tkmerge r v)) ∧
    (ctlForm v = true → RowResult s r (s.beatOf r + 2) v.d 32 128
      (fun i x => x = match q.t[i / 2]? with
        | some e => if i % 2 = 0 then e.v.toNat else e.i.toNat
        | none => if i % 2 = 0 then 0x80000000 else 0xFFFFFFFF) (fun _ => true) [] (exec (.tkout r v) s)) ∧
    (ctlForm v = true → exec (.tkclr r v) s = .next (s.withPod r { q with t := [] }))

/-- R102, R107, R108, R124: ROW operations on a row path whose tries hold. READ brings the store row ADDR + counter (modulo 4,096) into its buffer, WRITE stores
the buffer, ZERO stores zeros, LOADW, LOADS and LOADC write their part of a bank under the tag FPAIR, all visible at t + 2. In a wide
execution a W96 READ or WRITE of a row of an A96 tensor moves the two rows D + 2(r − D) and the next one, with one more held period.
Everything else stays. A buffer that the step has not written has a free content.
R122, R403, R404, R124: what a ROW operation costs on the bond, beside its effect. Up to three failed tries hold the shallot as many periods, are counted and
make the group suspect; after the fourth the row goes over the private channel, 15 held periods more (31 for two rows); a pod whose
ROW_PATH is private pays only those; a group without a spare left sends the pod to the private channel from the next boundary on. -/
def Obligations.RowOperations : Prop :=
  (
  ∀ (r : PodRef) (a : RowArgs) (env : RowEnv) (s : State),
    env.fails = 0 → (s.podOf r).rowPath = 0 → s.rowTraining r.sh.val r.pod.val = false →
    let q := s.podOf r
    let t := s.beatOf r + 2
    let row := (a.addr.toNat + (if a.idx = 0 then 0 else (q.lc.get (a.idx.val - 1)).toNat)) % 4096
    let buf := q.readBuf (s.ctx r.sh.val) a.buf
    let all := BitVec.allOnes 4096
    let one := fun (c : Instr) (w : PodWrite) => Gives (exec c s) (s.withPod r (q.push t w))
    let span := fun (lo n : Nat) => bitsOf (q.store.get row).toNat lo n
    let wide := s.seq.exe.wide = true ∧ a.w96 = true
    (plainRowForm a = true →
      ((wide → q.a96OfRow row = none) →
        one (.rowRead r a env) (.buf a.buf { q.bufs.get a.buf.val with data := q.store.get row, written := true, wide := false }) ∧
        one (.rowWrite r a env) (.storeRow (BitVec.ofNat 12 row) buf.data all)) ∧
      (∀ d, wide → q.a96OfRow row = some d →
        let x := descDataRow d + 2 * (row - descDataRow d)
        let two := fun (c : Instr) (q' : Pod) =>
          Gives (exec c s) ((s.withPod r q').modSh r.sh.val (fun h => { h with wideHold := max h.wideHold 1 }))
        two (.rowRead r a env) (q.push t (.buf a.buf { data := q.store.get x, ext := q.store.get (x + 1), written := true, wide := true })) ∧
        two (.rowWrite r a env) ((q.push t (.storeRow (BitVec.ofNat 12 x) buf.data all)).push t (.storeRow (BitVec.ofNat 12 (x + 1)) buf.ext all))) ∧
      one (.rowZero r a env) (.storeRow (BitVec.ofNat 12 row) 0 all)) ∧
    (pairForm a = true → one (.loadw r a env) (.bankPart a.bank a.fpair a.part.val (q.store.get row) (q.descOfRow row))) ∧
    (loadsForm a = true → ∀ p, pairOf a.fpair.toNat = some p →
      one (.loads r a env) (.bankScales a.bank a.fpair p.scaleBytes (BitVec.ofNat 2048 (span (a.part.val * 512) (8 * p.scaleBytes))))) ∧
    (loadcForm a = true → one (.loadc r a env) (.bankCmuls a.bank a.fpair (BitVec.ofNat 1024 (span (a.part.val * 1024) 1024))))) ∧
  (
  ∀ (r : PodRef) (a : RowArgs) (env : RowEnv) (s : State) (c : Instr) (ok w96 : Bool),
    (c, ok, w96) ∈ [(.rowRead r a env, plainRowForm a, a.w96), (.rowWrite r a env, plainRowForm a, a.w96),
      (.rowZero r a env, plainRowForm a, false), (.loadw r a env, pairForm a, false), (.loads r a env, loadsForm a, false),
      (.loadc r a env, loadcForm a, false)] →
    ok = true → env.chanFails = false → s.rowTraining r.sh.val r.pod.val = false →
    let n := r.sh.val
    let q := s.podOf r
    let two := (q.wideRows (s.ctx n) w96 (q.rowAddr a.addr a.idx)).isSome
    let chan := if two then 31 else 15
    let k := env.fails.val
    let full := groupSpares env.group.val ≤ (((s.shal n).bond r.pod.val env.group.val).marked).length
    let failed := fun (h : Shallot) =>
      { h with bonds := h.bonds.mod (r.pod.val * 17 + env.group.val) (fun b => { b with suspect := true }), rowCheckFails := satAdd h.rowCheckFails k }
    ∃ q' : Pod, q'.rowPath = q.rowPath ∧ q'.privNext = q.privNext ∧
      (q.rowPath = 1 → Gives (exec c s) ((s.withPod r q').modSh n (fun h => { h with privHold := max h.privHold chan }))) ∧
      (q.rowPath = 0 → 1 ≤ k → k ≤ 3 → ¬ full → Gives (exec c s) ((s.withPod r q').modSh n (fun h =>
        { failed h with retryHold := max h.retryHold k, wideHold := if two then max h.wideHold (k + 1) else h.wideHold }))) ∧
      (q.rowPath = 0 → k = 4 → ¬ full → Gives (exec c s) ((s.withPod r q').modSh n (fun h =>
        { failed h with retryHold := max h.retryHold 3, privHold := max h.privHold (3 + chan) }))) ∧
      (q.rowPath = 0 → 1 ≤ k → full → Gives (exec c s) ((s.withPod r { q' with privNext := true }).modSh n (fun h =>
        { failed h with privHold := max h.privHold chan }))))

/-- R102: a write on its way is seen from its beat on and not before: a row under its mask, a buffer, the terms of a STREAM added column by column with
R59's and R60's overflow flags.
R31, R35, R64, R65, R85, R135, R137, R144: what a slot operation reports takes effect: saturations, malformed codes and lane counts add up; an observation keeps the larger exponent, for a tensor that has an observer; an arithmetic fault sets its status bit, counts, records itself where it is the first by beat, pod and column, and is raised at the first of its kind. -/
def Obligations.WritesAndReportsLand : Prop :=
  (
  ∀ (q : Pod) (e : Pend) (b : Nat), q.pend = [e] →
    (b < e.vis → q.land b = q) ∧
    (e.vis ≤ b → (q.land b).pend = [] ∧
      (∀ row new mask, e.w = .storeRow row new mask →
        { q.land b with store := q.store, pend := [e] } = q ∧ (∀ i, i ≠ row.toNat → (q.land b).store.get i = q.store.get i) ∧
        ∀ i, ((q.land b).store.get row.toNat).getLsbD i = if mask.getLsbD i then new.getLsbD i else (q.store.get row.toNat).getLsbD i) ∧
      (∀ k v, e.w = .buf k v → q.land b = { q with bufs := q.bufs.set k.val v, pend := [] }) ∧
      (∀ ts, e.w = .accTerms ts → { q.land b with accs := q.accs, pend := [e] } = q ∧
        ∀ i, (q.land b).accs.get i = match ts[i]? with
          | none => q.accs.get i
          | some x =>
            let sum := (q.accs.get i).v.toInt + x
            { v := BitVec.ofInt 192 sum, ovf := (q.accs.get i).ovf || !decide (- p2 191 ≤ sum ∧ sum < p2 191) }) ∧
      (∀ ts, e.w = .laneTerms ts → { q.land b with lanes := q.lanes, pend := [e] } = q ∧
        ∀ i, (q.land b).lanes.get i = match ts[i]? with
          | none => q.lanes.get i
          | some x =>
            let sum := (q.lanes.get i).v.toInt + x
            { v := BitVec.ofInt 48 sum, ovf := (q.lanes.get i).ovf || !decide (- p2 47 ≤ sum ∧ sum < p2 47) }))) ∧
  (
  ∀ (r : PodRef) (tid : Half) (k : Nat) (e : Int) (s : State),
    let n := r.sh.val
    let h := s.shal n
    let p := r.pod.val
    let exe := fun (f : Execution → Execution) => { s with seq := { s.seq with exe := f s.seq.exe } }
    let fault := fun (kind : Nat) (t : State) => let u := t.shal n
      u.arithStatus = (h.arithStatus ||| BitVec.ofNat 4 (2 ^ (kind - 1))) ∧ u.arithFirst = (if h.earlier h.beat.toNat p k then BitVec.ofNat 32 (tid.toNat * 2 ^ 16 + kind * 2 ^ 14 + p) else h.arithFirst) ∧
      u.arithFirstBeat = (if h.earlier h.beat.toNat p k then h.beat.setWidth 32 else h.arithFirstBeat) ∧
      u.missCount = satAdd h.missCount (if kind = 1 then 1 else 0) ∧ u.a32Count = satAdd h.a32Count (if kind = 2 then 1 else 0) ∧ u.a192Count = satAdd h.a192Count (if kind = 3 then 1 else 0) ∧
      u.pods = h.pods ∧ (∀ m, m ≠ n → t.shal m = s.shal m) ∧ t.ev.head = (if h.arithStatus.getLsbD (kind - 1) then s.ev.head else s.ev.head + 1) ∧ t.seq = s.seq ∧ t.hbm = s.hbm
    fault 1 (s.told r [.miss tid k]) ∧ fault 2 (s.told r [.a32 tid k]) ∧ fault 3 (s.told r [.a192 tid k]) ∧
    (let b := h.arithFirst.toNat / 2 ^ 14 % 4
     h.earlier h.beat.toNat p k = true ↔ b = 0 ∨ h.beat.toNat < h.arithFirstBeat.toNat ∨ (h.beat.toNat = h.arithFirstBeat.toNat ∧
       (p < h.arithFirst.toNat % 512 ∨ (p = h.arithFirst.toNat % 512 ∧ k < h.firstCol)))) ∧
    s.told r [.sat tid k] = exe (fun x => { x with sats := x.sats.set tid.toNat (x.sats.get tid.toNat + k) }) ∧
    s.told r [.vecSat k] = s.modSh n (fun h => { h with vecSat := satAdd h.vecSat k }) ∧
    s.told r [.vecDomain k] = s.modSh n (fun h => { h with vecDomain := satAdd h.vecDomain k }) ∧
    s.told r [.vecRange k] = s.modSh n (fun h => { h with vecRange := satAdd h.vecRange k }) ∧
    (s.seq.observerOf tid = none → s.told r [.obs tid (some e)] = s) ∧
    ((s.seq.observerOf tid).isSome = true →
      (s.seq.exe.obs.get tid.toNat = none → s.told r [.obs tid (some e)] = exe (fun x => { x with obs := x.obs.set tid.toNat (some (some e)) })) ∧
      (∀ d, s.seq.exe.obs.get tid.toNat = some (some d) → s.told r [.obs tid (some e)] = exe (fun x => { x with obs := x.obs.set tid.toNat (some (some (max d e))) })) ∧
      (∀ d, s.seq.exe.obs.get tid.toNat = some d → s.told r [.obs tid none] = s)) ∧
    (s.seq.once.t2 = true → s.told r [.t2 (some tid) k] = { s with seq := { s.seq with malformed := s.seq.malformed.set tid.toNat (s.seq.malformed.get tid.toNat + k) } } ∧
      s.told r [.t2 none k] = s) ∧
    (s.seq.once.t2 = false → ∃ t, s.told r [.t2 (some tid) k] = t ∧ t.seq.once.t2 = true ∧ t.ev.head = s.ev.head + 1 ∧
      t.seq.malformed = s.seq.malformed.set tid.toNat (s.seq.malformed.get tid.toNat + k) ∧ t.seq.exe = s.seq.exe ∧ t.sh = s.sh) ∧
    (∀ a b, s.told r (a ++ b) = (s.told r a).told r b))

/-- R53, R54, R111, R113: STREAM adds to column c, at t + 3 + V, the sum over the tile's blocks of the block's exact product, times the channel multiplier for QM8
weights, shifted by the block exponents plus 64 on the way to an accumulator and not on the way to a lane. T2 codes 0b10 of T2 weights
are reported by part (R31). No other part of the state changes. -/
def Obligations.StreamTerms : Prop :=
  ∀ (r : PodRef) (a : ArrArgs) (s : State) (p : PairInfo),
    let q := s.podOf r
    let bank := q.banks.get a.bank.val
    pairOf bank.fpair.toNat = some p → (a.a32 = true → p.a32 = true) → a.ofs.toNat + p.k / 32 ≤ p.a.blocks →
    let ctx := s.ctx r.sh.val
    let act := (q.readBuf ctx a.dbuf).data
    let scal := (q.readBuf ctx a.sbuf).data
    let counter := if a.idx = 0 then 0 else (q.lc.get (a.idx.val - 1)).toNat
    let part := fun (k : Nat) => if bank.loadedParts.getLsbD k then bank.parts.get k else Sys2Proof.Config.freeRow s.free (16 + 8 * a.bank.val + k)
    let W := fun (j x : Nat) => p.w.decodeElem (rowU p.w.width (j % p.w.blocks * 32 + x) (part (j / p.w.blocks)))
    let A := fun (i x : Nat) => p.a.decodeElem (rowU p.a.width ((a.ofs.toNat + i) * 32 + x) act)
    let bw := fun (j : Nat) => if p.w.isBlock then sInt 6 (bitsOf bank.scales.toNat (8 * j) 8) else 0
    let ba := fun (i : Nat) => if p.a.isBlock then sInt 6 (rowU 8 ((a.sofs.toNat + p.a.blocks * counter + i) % 512) scal) else 0
    let mult := fun (col : Nat) => if p.w = .qm8 then ((bitsOf bank.cmuls.toNat (16 * col) 16 : Nat) : Int) else 1
    let term := fun (col i : Nat) =>
      let j := col * (p.k / 32) + i
      ((List.range 32).map (fun x => W j x * A i x)).sum * mult col * (if a.a32 then 1 else 2 ^ (bw j + ba i + 64).toNat)
    ∃ ts reps, ts.length = p.n ∧ (∀ col, col < p.n → ts[col]? = some (((List.range (p.k / 32)).map (term col)).sum)) ∧
      (p.w ≠ .t2 → reps = []) ∧
      exec (.stream r a) s =
        .next ((s.withPod r (q.push (s.beatOf r + 4 + p.v) (if a.a32 then .laneTerms ts else .accTerms ts))).told r reps)

/-- R116, R518, R59: ACC CLEAR zeroes all 64 values and flags of its source; SNAP copies them into the snapshot with their origin and then zeroes the source;
ADD96, ADD192 and ADD32 add the slots of a buffer to accumulators or lanes with their overflow flags, LOAD192 replaces 16 accumulators and
clears their flags. The pod's other state stays, and the rest of the package.
R46, R50, R59, R60, R67, R116: NARROW96 writes each value that fits its window as an A96 slot and reports a window miss for each other; in a wide execution it writes A192
slots; WIDE192 writes 16 A192 slots. A value that does not fit leaves its slot alone and is
reported. The buffer is seen at t + 1; CLR zeroes the values read (R115). For sources without overflow flags. -/
def Obligations.AccTransfers : Prop :=
  (
  ∀ (r : PodRef) (a : AccArgs) (s : State),
    let q := s.podOf r
    let ctx := s.ctx r.sh.val
    let b := q.readBuf ctx a.buf
    let P := a.part.val
    let pod := fun (c : Instr) (q' : Pod) => exec c s = .next (s.withPod r q')
    let plus := fun (x : Acc) (n : Int) =>
      ({ v := BitVec.ofInt 192 (x.v.toInt + n), ovf := x.ovf || !decide (- p2 191 ≤ x.v.toInt + n ∧ x.v.toInt + n < p2 191) } : Acc)
    (a.src = .accs → (∃ t, pod (.accClear r a) { q with accs := t } ∧ clearedAt q.accs t 0 64) ∧
      ∃ t, pod (.accSnap r a) { q with snap := q.accs, snapLanes := false, accs := t } ∧ ∀ i, i < 64 → t.get i = default) ∧
    (a.src = .lanes → (∃ t, pod (.accClear r a) { q with lanes := t } ∧ clearedAt q.lanes t 0 64) ∧
      ∃ t sn, pod (.accSnap r a) { q with snap := sn, snapLanes := true, lanes := t } ∧ (∀ i, i < 64 → t.get i = default) ∧
        ∀ i, i < 64 → (sn.get i).v.setWidth 48 = (q.lanes.get i).v ∧ (sn.get i).ovf = (q.lanes.get i).ovf) ∧
    (a.src = .accs → P < 2 → ∃ t, pod (.accAdd96 r a) { q with accs := t } ∧
      ∀ i, t.get i = if 32 * P ≤ i ∧ i < 32 * P + 32 then
          plus (q.accs.get i) (if ctx.wide = false then sInt 96 (rowU 128 (i - 32 * P) b.data) * p2 (descWin (q.desc a.desc.val))
            else if i - 32 * P < 16 then sInt 192 (rowU 256 (i - 32 * P) b.data) else sInt 192 (rowU 256 (i - 32 * P - 16) b.ext))
        else q.accs.get i) ∧
    (a.src = .accs → ∃ t, pod (.accAdd192 r a) { q with accs := t } ∧
      ∀ i, t.get i = if 16 * P ≤ i ∧ i < 16 * P + 16 then plus (q.accs.get i) (sInt 192 (rowU 256 (i - 16 * P) b.data)) else q.accs.get i) ∧
    (a.src = .accs → ∃ t, pod (.load192 r a) { q with accs := t } ∧
      ∀ i, t.get i = if 16 * P ≤ i ∧ i < 16 * P + 16 then { v := BitVec.ofNat 192 (rowU 256 (i - 16 * P) b.data), ovf := false } else q.accs.get i) ∧
    (a.src = .lanes → P < 2 → ∃ t, pod (.accAdd32 r a) { q with lanes := t } ∧
      ∀ i, t.get i = if i < 64 then
          let n := (q.lanes.get i).v.toInt + rowS 32 (P * 64 + i) b.data
          { v := BitVec.ofInt 48 n, ovf := (q.lanes.get i).ovf || !decide (- p2 47 ≤ n ∧ n < p2 47) }
        else q.lanes.get i)) ∧
  (
  ∀ (r : PodRef) (a : AccArgs) (s : State), a.src = .accs →
    let q := s.podOf r
    let ctx := s.ctx r.sh.val
    let b := q.readBuf ctx a.buf
    let P := a.part.val
    let t := s.beatOf r + 1
    let d := q.desc a.desc.val
    let v := fun (i : Nat) => (q.accs.get i).v.toInt
    (∀ i, (q.accs.get i).ovf = false) →
    let done := fun (c : Instr) (rb : RowBuf) (lo n : Nat) (reps : List Report) =>
      ∃ accs, (if a.clr then clearedAt q.accs accs lo n else accs = q.accs) ∧
        exec c s = .next ((s.withPod r { q.push t (.buf a.buf rb) with accs := accs }).told r reps)
    (P < 2 → ctx.wide = false → ∃ row,
      (∀ i, i < 32 → rowU 128 i row =
        if v (32 * P + i) % p2 (descWin d) = 0 ∧ - p2 95 ≤ v (32 * P + i) / p2 (descWin d) ∧ v (32 * P + i) / p2 (descWin d) < p2 95 then
          uOf 96 (v (32 * P + i) / p2 (descWin d))
        else rowU 128 i b.data) ∧
      done (.narrow96 r a) { b with data := row, written := true, wide := false } (32 * P) 32
        (((List.range 32).filter (fun i => !decide (v (32 * P + i) % p2 (descWin d) = 0 ∧ - p2 95 ≤ v (32 * P + i) / p2 (descWin d) ∧
          v (32 * P + i) / p2 (descWin d) < p2 95))).map (fun i => Report.miss (descTid d) (32 * P + i)))) ∧
    (P < 2 → ctx.wide = true → ∃ row ext,
      (∀ i, i < 16 → rowU 256 i row = uOf 192 (v (32 * P + i)) ∧ rowU 256 i ext = uOf 192 (v (32 * P + 16 + i))) ∧
      done (.narrow96 r a) { data := row, ext := ext, written := true, wide := true } (32 * P) 32 []) ∧
    (∃ row, (∀ i, i < 16 → rowU 256 i row = uOf 192 (v (16 * P + i))) ∧
      done (.wide192 r a) { b with data := row, written := true, wide := false } (16 * P) 16 []))

/-- R60, R116: OUT32 of the lanes: the 64 lane values that are 32-bit numbers without an overflow flag go to words PART × 64 onward, the others leave their words alone and
report an A32 overflow; CLR zeroes the lanes. R78, R81, R85: RQ with a plain target writes the rounded and clamped element of each
accumulator without an overflow flag, counts its own use, reports the saturations and its observation, and touches no other element. -/
def Obligations.AccRequantised : Prop :=
  ∀ (r : PodRef) (a : AccArgs) (s : State),
    let q := s.podOf r
    let ctx := s.ctx r.sh.val
    let b := q.readBuf ctx a.buf
    let P := a.part.val
    let t := s.beatOf r + 1
    let d := q.desc a.desc.val
    let f := descFmt d
    let e := q.rqs.get a.rqe.val
    (a.src = .lanes → P < 2 →
      let ok := fun (i : Nat) => decide (- p2 31 ≤ (q.lanes.get i).v.toInt ∧ (q.lanes.get i).v.toInt < p2 31) && !(q.lanes.get i).ovf
      ∃ row lanes, (∀ i, i < 128 → rowU 32 i row =
          if P * 64 ≤ i ∧ i < P * 64 + 64 ∧ ok (i - P * 64) = true then uOf 32 (q.lanes.get (i - P * 64)).v.toInt else rowU 32 i b.data) ∧
        (if a.clr then clearedAt q.lanes lanes 0 64 else lanes = q.lanes) ∧
        exec (.out32 r a) s = .next ((s.withPod r { q.push t (.buf a.buf { b with data := row, written := true, wide := false }) with lanes := lanes }).told r
          (((List.range 64).filter (fun i => !ok i)).map (fun i => Report.a32 (descTid d) i)))) ∧
    (a.src = .accs → (∀ i, (q.accs.get i).ovf = false) → f.isBlock = false → f.isAcc = false → a.pos.toNat * 32 + 64 ≤ f.perRow →
      let x := fun (i : Nat) => (q.accs.get i).v.toInt * (e.mult : Int)
      let draw := fun (i : Nat) => chard s.seq.seed s.seq.current (descTid d) (lidxOf e (q.rqCount.get a.rqe.val) (a.pos.toNat * 32 + i))
      let y := fun (i : Nat) => roundShift (x i) (e.effShift s.seq.exe.offs) e.rmode (draw i)
      let sats := countOf 64 (fun i => decide (y i < f.minV (descSym d) ∨ f.maxV < y i))
      ∃ row accs obs, (∀ i, i < 64 → rowU f.width (a.pos.toNat * 32 + i) row = f.encodeElem (max (f.minV (descSym d)) (min f.maxV (y i)))) ∧
        (∀ k, k < f.perRow → k < a.pos.toNat * 32 ∨ a.pos.toNat * 32 + 64 ≤ k → rowU f.width k row = rowU f.width k b.data) ∧
        (if a.clr then clearedAt q.accs accs 0 64 else accs = q.accs) ∧
        (match obs with
          | none => ∀ i, i < 64 → x i = 0
          | some m => (∃ i, i < 64 ∧ x i ≠ 0 ∧ m = obsE e s.seq.exe.offs (x i)) ∧ ∀ i, i < 64 → x i ≠ 0 → obsE e s.seq.exe.offs (x i) ≤ m) ∧
        exec (.accRq r a) s = .next ((s.withPod r { q.push t (.buf a.buf { b with data := row, written := true, wide := false }) with
            accs := accs, rqCount := q.rqCount.set a.rqe.val (q.rqCount.get a.rqe.val + 1) }).told r
          ((if sats = 0 then [] else [Report.sat (descTid d) sats]) ++ [.obs (descTid d) obs])))

/-- R119, R159, R161, R219, R228: the ST slot. RECV of a complete slot copies it into its buffer (seen at t + 1) and empties the slot; of an incomplete one, it holds the
shallot. FETCH sends a READ request with the entry's fields and the lowest free tag, whose reply comes to the pod's own slot. SEND takes the
row across its own avenue to a pod of the same shallot, as 8 DATA flits to another shallot, and as a WRITE request with FLITS + 1 data flits
to a stack. -/
def Obligations.StTransfers : Prop :=
  ∀ (r : PodRef) (a : StArgs) (s : State),
    let n := r.sh.val
    let q := s.podOf r
    let l := q.landing.get a.lslot.val
    let x := q.xfers.get a.xfer.val
    let d := xferDest x
    let tag := s.freeTag n d
    let b := q.readBuf (s.ctx n) a.buf
    let barrier := xferBarrier x
    let fly := fun (u : State) (f : Flight) => { u with seq := { u.seq with exe := { u.seq.exe with flights := u.seq.exe.flights ++ [f] } } }
    let flits := fun (u : State) (m : Nat) (f : Nat → Nat × Nat) =>
      (List.range m).foldl (fun (u : State) p => u.sendFlit n d (xferWfirst x + p % 8) (f p).1 (f p).2) u
    (l.complete = true → exec (.recv r a) s = .next (s.modPod n r.pod.val (fun _ =>
      { q.push (s.beatOf r + 1) (.buf a.buf { data := l.data, ext := l.ext, written := true, wide := l.wide }) with
        landing := q.landing.set a.lslot.val { l with complete := false } }))) ∧
    (l.complete = false → exec (.recv r a) s =
      .next (s.modSh n (fun h => { h with recvHolds := h.recvHolds ++ [{ pod := r.pod.val, slot := a.lslot, buf := a.buf }] }))) ∧
    (xferLslot x = a.lslot.val → 8 ≤ d → d < 24 → exec (.fetch r a) s =
      .next ((fly s { src := d, dst := n, pod := r.pod.val, slot := xferLslot x, fetch := true, tag := tag }).sendFlit n d (xferWfirst x) (reqHeader tag)
        (reqPayload { rtag := tag, rfirst := xferRfirst x, replyPlaza := n, replyPod := r.pod.val, replySlot := xferLslot x,
                      offset := xferOffset x, region := xferRegion x, flits := xferFlits x, op := 1, mslot := xferMslot x }))) ∧
    (xferLslot x ≠ a.lslot.val → exec (.fetch r a) s = .refused .loaderRefuses) ∧
    (d = n → exec (.send r a) s =
      .next ((fly { s with free := s.free + 1 } { src := n, dst := n, pod := xferUnit x, slot := xferLslot x }).askIngress n n (xferUnit x) (xferLslot x)
        b.data b.ext (s.seq.exe.wide && b.wide) (if barrier then some (BitVec.ofNat 12 (xferRow x)) else none))) ∧
    (d ≠ n → d < 8 → s.seq.exe.wide = false → exec (.send r a) s =
      .next (flits (fly { s with free := s.free + 1 } { src := n, dst := d, pod := xferUnit x, slot := xferLslot x }) 8 (fun p =>
        (dataHeader p true (routeWord p (xferUnit x) false (xferLslot x) (if barrier then some (xferRow x) else none)), rowPayload b.data p)))) ∧
    (8 ≤ d → d < 24 → s.seq.exe.wide = false → exec (.send r a) s =
      .next (flits ((fly { s with free := s.free + 1 } { src := n, dst := d, tag := tag }).sendFlit n d (xferWfirst x) (reqHeader tag)
          (reqPayload { rtag := tag, replyPlaza := n, replyPod := r.pod.val, offset := xferOffset x, region := xferRegion x, flits := xferFlits x,
                        op := 2, mslot := xferMslot x })) (xferFlits x + 1) (fun p =>
        (dataHeader (p % 8) (decide (xferFlits x < 8 ∨ 8 ≤ p)) tag, rowPayload (if p < 8 then b.data else b.ext) (p % 8)))))

/-- R221, R222, R224: a flit handed to a wavelength that is up, not paused, with nothing waiting and fewer than 32 unacknowledged flits leaves at once with the next number and its
CRC, and enters the replay buffer; a wavelength that is down or parked passes it to the next one that is up, and a street with none
carries nothing. No other wavelength and no other part of the state changes.
R221, R222, R224, R244: link replay. An ACK frees the replay buffer up to the flit it names, and what waits goes out; a NAK frees it up to the flit before the one it names and resends that flit and its followers;
RESUME and a timeout resend from the oldest; each resend is counted for the street and the lane group; after eight failed resends of one flit the next failure declares the
wavelength down. PAUSE stops new flits. An entry that names nothing outstanding changes nothing but a later send, and a parked wavelength resends nothing (R202). -/
def Obligations.LinksAndReplay : Prop :=
  (
  ∀ (s : State) (src dst w header payload : Nat), header < 2 ^ 16 → header / 2 ^ 14 ≠ 3 → payload < 2 ^ 512 → w < streetWidth src dst →
    let t := s.street src dst
    let W := streetWidth src dst
    ((∀ v, v < W → (t.waves.get v).up = false) → s.sendFlit src dst w header payload = s) ∧
    (∀ k, k < W → (∀ i, i < k → (t.waves.get ((w + i) % W)).up = false) → (t.waves.get ((w + k) % W)).up = true →
      let v := (w + k) % W
      let x := t.waves.get v
      x.queue = [] → x.paused = false → x.replay.length < 32 →
      let f := mkFlit x.txSeq.toNat header payload
      let u := s.sendFlit src dst w header payload
      u.out = s.out ++ [.flit src dst v f] ∧
      { u with out := s.out, blv := s.blv } = s ∧ { u.blv with streets := s.blv.streets } = s.blv ∧
      (∀ i, i ≠ streetIx src dst → u.blv.streets.get i = s.blv.streets.get i) ∧
      { u.street src dst with waves := t.waves } = t ∧ (∀ i, i ≠ v → (u.street src dst).waves.get i = t.waves.get i) ∧
      (u.street src dst).waves.get v = { x with txSeq := x.txSeq + 1, replay := x.replay ++ [(x.txSeq, f)] })) ∧
  (
  ∀ (w : WaveRef) (seq : BitVec 5) (g : LaneRef) (s : State),
    let a := w.src.val
    let b := w.dst.val
    let n := w.wave.val
    let x := (s.street a b).waves.get n
    let wave := fun (f : Wave) => s.modWave a b n (fun _ => f)
    let resent := fun (u : State) (l : List (BitVec 5 × Flit)) =>
      ({ u with out := u.out ++ l.map (fun (e : BitVec 5 × Flit) => Out.flit a b n e.2) }).modStreet a b (fun t =>
        { t with retries := satAdd t.retries l.length, mapRetries := t.mapRetries + l.length })
    (∀ pre f post, x.replay = pre ++ (seq, f) :: post → (∀ e ∈ pre, e.1 ≠ seq) →
      exec (.linkAck w seq) s = .next ((wave { x with replay := post, fails := 0 }).pump a b n) ∧
      (x.down = false → x.parked = false → pre ≠ [] ∨ x.fails < 8 →
        exec (.linkNak w seq g) s = .next ((resent (wave { x with replay := (seq, f) :: post, fails := if pre = [] then x.fails + 1 else 1 }) ((seq, f) :: post)).laneRetries
          g (post.length + 1))) ∧
      (x.down = false → x.parked = false → pre = [] → 8 ≤ x.fails →
        exec (.linkNak w seq g) s = .next ((wave { x with fails := x.fails + 1 }).waveDown a b n))) ∧
    ((∀ e ∈ x.replay, e.1 ≠ seq) →
      exec (.linkAck w seq) s = .next ((wave x).pump a b n) ∧ exec (.linkNak w seq g) s = .next s) ∧
    exec (.linkPause w) s = .next (wave { x with paused := true }) ∧
    exec (.linkResume w) s = .next ((resent (wave { x with paused := false }) (if x.parked = true then [] else x.replay)).pump a b n) ∧
    ((x.down = true ∨ x.parked = true ∨ x.replay = [] ∨ x.paused = true) → exec (.replayTimeout w g) s = .next s) ∧
    (x.down = false → x.parked = false → x.replay ≠ [] → x.paused = false →
      (x.fails < 8 → exec (.replayTimeout w g) s = .next ((resent (wave { x with fails := x.fails + 1 }) x.replay).laneRetries g x.replay.length)) ∧
      (8 ≤ x.fails → exec (.replayTimeout w g) s = .next ((wave { x with fails := x.fails + 1 }).waveDown a b n))))

/-- R120, R166, R337, R338: tallies. ADD adds ARG to VALUE modulo 2^32, SETF sets flag ARG[3:0], CLR zeroes the entry; the first change of an entry in an execution keeps
its old value for the checkpoint. WAIT holds the shallot while VALUE is below ARG, and a retest ends the holds that are met. No other
tally and no other part of the state changes. -/
def Obligations.TallyOperations : Prop :=
  ∀ (r : PodRef) (a : SynArgs) (s : State), (a.plaza.val < 8 ∧ a.index.toNat < 16384) ∨ a.plaza.val = 24 ∨ a.plaza.val = 25 →
    let P := a.plaza.val
    let I := a.index.toNat
    let old := s.tally P I
    let saved := s.executing = false ∨ ∃ x ∈ s.seq.tallySave, x.1 = P ∧ x.2.1 = I
    let makes := fun (c : Instr) (v : Tally) => ∃ t, exec c s = .next t ∧
      t.tally P I = v ∧ (∀ P' I', P' < 8 ∨ P' = 24 ∨ P' = 25 → (P', I') ≠ (P, I) → t.tally P' I' = s.tally P' I') ∧
      { t with sh := s.sh, net := s.net, seq := s.seq } = s ∧ { t.net with gw := s.net.gw } = s.net ∧
      (∀ n, { t.shal n with tallies := (s.shal n).tallies } = s.shal n) ∧
      (∀ g, { t.net.gw.get g with tallies := (s.net.gw.get g).tallies } = s.net.gw.get g) ∧
      { t.seq with tallySave := s.seq.tallySave } = s.seq ∧
      (saved → t.seq.tallySave = s.seq.tallySave) ∧ (¬ saved → t.seq.tallySave = s.seq.tallySave ++ [(P, I, old)])
    let hold : WaitHold := { pod := r.pod.val, plaza := P, index := I, arg := a.arg }
    makes (.synAdd r a) { old with value := old.value + a.arg.setWidth 32 } ∧
    makes (.setf r a) { old with flags := old.flags ||| BitVec.ofNat 16 (2 ^ (a.arg.toNat % 16)) } ∧
    makes (.synClr r a) {} ∧
    (a.arg.toNat ≤ old.value.toNat → exec (.waitTally r a) s = .next s) ∧
    (old.value.toNat < a.arg.toNat → exec (.waitTally r a) s = .next (s.modSh r.sh.val (fun h => { h with waitHolds := h.waitHolds ++ [hold] }))) ∧
    (∃ l, exec (.waitRetest r) s = .next (s.modSh r.sh.val (fun h => { h with waitHolds := l })) ∧
      ∀ w, w ∈ l ↔ w ∈ (s.shal r.sh.val).waitHolds ∧ (w.pod = r.pod.val → (s.tally w.plaza w.index).value.toNat < w.arg.toNat))

/-- R100, R101, R104, R105, R149, R163, R229: the CTL slot. LOOP opens its body after the bundle just issued, three deep at most. STEP_END ends the pod's bundles and writes its
waiting barrier rows; the last pod's STEP_END completes the shallot's writes under way and reports one more than its beat; when every
placed shallot has reported, the drain begins.
R22, R65, R98, R128, R149, R163, R170, R389: a step starts at its start time, once no recess is granted, no switch-over is decided and no reset or resynchronisation runs: the phase is EXECUTE (or at once DRAIN), and in every placed shallot
beat 0 is next and every placed pod starts with accumulators, lanes, snapshot, K, Z and predicate registers, T and loop counters at zero
and its buffers undefined, at the entry of the step's kind. A placed FENCED shallot ends the execution instead (R155). -/
def Obligations.LoopsAndStepEdges : Prop :=
  (
  ∀ (r : PodRef) (a : LoopArgs) (s : State),
    let n := r.sh.val
    let q := s.podOf r
    let ended := { q with issuing := false }.drainAll
    let others := ∃ p, p ≠ r.pod.val ∧ ∃ c ∈ (s.shal n).pods.cells, c.1 = p ∧ c.2.issuing = true
    (q.loops.length < 3 → exec (.loopCtl r a) s = .next (s.modPod n r.pod.val (fun _ =>
      { q with loops := { start := q.lastPc + 1, stop := a.stop, left := a.trips.toNat, lc := a.lc, stride := a.stride } :: q.loops }))) ∧
    (3 ≤ q.loops.length → exec (.loopCtl r a) s = .refused .loaderRefuses) ∧
    (q.issuing = false → exec (.stepEnd r) s = .next s) ∧
    (q.issuing = true → others → exec (.stepEnd r) s = .next (s.modPod n r.pod.val (fun _ => ended))) ∧
    (q.issuing = true → (s.shal n).pods.wf = true → ¬ others → ∃ t, exec (.stepEnd r) s = .next t ∧
      { t with sh := s.sh, seq := s.seq } = s ∧ (∀ m, m ≠ n → t.shal m = s.shal m) ∧
      { t.seq with phase := s.seq.phase, done := s.seq.done, exe := { t.seq.exe with beats := s.seq.exe.beats } } = s.seq ∧
      t.seq.exe.beats.get n = (s.shal n).beat.toNat + 1 ∧ (∀ m, m ≠ n → t.seq.exe.beats.get m = s.seq.exe.beats.get m) ∧
      t.seq.done = s.seq.done ||| BitVec.ofNat 8 (2 ^ n) ∧
      (t.shal n).inStep = false ∧ (t.shal n).beatZeroDue = false ∧
      (∀ p, ((t.shal n).pods.get p).pend = [] ∧ ((t.shal n).pods.get p).issuing = false) ∧
      (let all := ∀ m, m < 8 → (s.shal m).placed = true → t.seq.done.getLsbD m = true
       (s.seq.phase = .execute → all → t.seq.phase = .drain) ∧ (s.seq.phase ≠ .execute ∨ ¬ all → t.seq.phase = s.seq.phase)))) ∧
  (
  ∀ (skew : BitVec 32) (s : State) (t0 : Nat),
    s.seq.startAt = some t0 → s.top.state = .running → s.seq.phase = .start → t0 ≤ s.top.now → s.seq.grant = none →
    (s.seq.exe.first && s.cond.resyncing) = false → s.cond.switching = none → (∀ n, n < 8 → (s.shal n).placed = true → (s.shal n).resetting = false) →
    (s.placedFence = true → exec (.stepStart skew) s = .next (s.endExec .fence)) ∧
    (s.placedFence = false → ∃ t, exec (.stepStart skew) s = .next t ∧
      (t.seq.phase = .execute ∨ t.seq.phase = .drain) ∧ t.seq.startAt = none ∧ t.seq.tallySave = [] ∧ t.seq.current = s.seq.current ∧
      t.top = s.top ∧ t.sec = s.sec ∧ t.lamp = s.lamp ∧ t.pp = s.pp ∧
      (t.seq.skewMax = (if s.seq.skewMax.toNat < skew.toNat then skew else s.seq.skewMax) ∧
        ∀ n, n < 8 → (s.shal n).placed = true →
          (t.shal n).beat = 0 ∧ (t.shal n).recvHolds = [] ∧ (t.shal n).waitHolds = [] ∧ (t.shal n).beatZeroDue = (t.shal n).inStep ∧
          (t.shal n).arithStatus = (if s.seq.exe.wide then 8 else 0) ∧ (t.shal n).arithFirst = 0 ∧
          ((s.shal n).pods.wf = true → ∀ p, (s.pod n p).placed = true →
            let u := t.pod n p
            u.accs = {} ∧ u.lanes = {} ∧ u.snap = {} ∧ u.k = {} ∧ u.z = {} ∧ u.pr = {} ∧ u.t = [] ∧ u.lc = {} ∧ u.loops = [] ∧ u.pend = [] ∧
            (∀ b, (u.bufs.get b).written = false) ∧ u.store = (s.pod n p).store ∧
            (∀ im, s.img.image = some im → u.pc = ((s.pod n p).entries.get (im.kindOf s.seq.current.toNat)).getD 0)))))

/-- R219, R280, R283, R284: a READ that a gate die takes is answered: where no unit of it is lost, its key is there and no error occurs, the reply carries the units' bytes in order;
memory is not changed, and of the stacks only the combining buffer, its counts and the on-die corrections of that stack may change.
R219, R280, R282, R283, R288: a WRITE that a gate die takes stores its data flits in its units, one flit a unit: each unit then reads them back (where the region's key slot holds a key) and leaves
the lost-unit list; every other byte of every stack and every other tag is unchanged.
R219, R285, R286, R287: an ATOMIC of one unit that a gate die takes changes each cell by its AOP, and only that unit: the new bytes are those of the cells' new values, a cell whose ADD96 leaves its range
stays; the count rises by 1, and with RET the old bytes are the reply. A malformed one changes no memory and raises EV_MEM_BAD_REQUEST. -/
def Obligations.RequestsAtGateDies : Prop :=
  (
  ∀ (src : PlazaNo) (h : Fin 16) (flits : List RxFlit) (env : MemEnv) (s t : State) (q : ReqFields) (data : List Flit) (r : Region) (bytes : Nat → List Byte),
    GateTakes s src.val h.val flits (fun op => op != 2 && op != 3) t q data → q.op = 1 → env.faults = [] →
    t.region q.region = some r → r.holds (64 * q.offset) (64 * (q.flits + 1)) = true →
    (∀ i, i ≤ q.flits → (t.mem.get (r.unit (q.offset + i)).1).lost.contains (r.unit (q.offset + i)).2 = false ∧
      t.unitBytes (r.unit (q.offset + i)).1 (r.unit (q.offset + i)).2 r.session = some (bytes i)) →
    ∃ u : State, exec (.reqRead src h flits env) s = .next (u.replyRow h.val q ((List.range (q.flits + 1)).flatMap bytes)) ∧
      { u with mem := t.mem } = t ∧ (∀ k, k ≠ h.val → u.mem.get k = t.mem.get k) ∧
      let m := t.mem.get h.val
      let m' := u.mem.get h.val
      { m' with combine := m.combine, combineHits := m.combineHits, combineFull := m.combineFull, odecc := m.odecc } = m ∧
      (m'.combineHits = m.combineHits ∨ m'.combineHits = satAdd m.combineHits 1)) ∧
  (
  ∀ (src : PlazaNo) (h : Fin 16) (flits : List RxFlit) (s t : State) (q : ReqFields) (data : List Flit) (r : Region),
    GateTakes s src.val h.val flits (fun op => op == 2) t q data → q.op = 2 → t.region q.region = some r → r.fits →
    r.holds (64 * q.offset) (64 * (q.flits + 1)) = true →
    let units := (List.range (q.flits + 1)).map (fun i => r.unit (q.offset + i))
    ∃ u : State, exec (.reqWrite src h flits) s = .next u ∧ { u with hbm := t.hbm, tags := t.tags, mem := t.mem, seq := t.seq } = t ∧
      { u.seq with exe := { u.seq.exe with flights := t.seq.exe.flights } } = t.seq ∧ SameOutside units t u ∧
      ∀ i, i ≤ q.flits → ∀ f, data[i]? = some f →
        let n := (r.unit (q.offset + i)).1
        let k := (r.unit (q.offset + i)).2
        (u.mem.get n).lost.count k = (t.mem.get n).lost.count k - 1 ∧
        (r.session = true → ((t.mem.get n).sessionKey (t.mem.get n).epoch).isSome = true → u.unitBytes n k true = some (leBytes 64 (flitPayload f))) ∧
        (r.session = false → u.unitBytes n k false = some (leBytes 64 (flitPayload f)))) ∧
  (
  ∀ (src : PlazaNo) (h : Fin 16) (flits : List RxFlit) (s t : State) (q : ReqFields) (data : List Flit) (r : Region) (old : List Byte) (f : Flit),
    GateTakes s src.val h.val flits (fun op => op == 3) t q data → q.op = 3 → t.region q.region = some r → r.fits →
    r.holds (64 * q.offset) (64 * (q.flits + 1)) = true → (r.unit q.offset).1 = h.val →
    (aopOk q.aop q.flits = false → exec (.reqAtomic src h flits {}) s =
      .next ((t.raise 0x4006 (8 + h.val) 0 (leBytes 8 (64 * (r.unit q.offset).2))).writeDone src.val h.val q.rtag)) ∧
    (aopOk q.aop q.flits = true → q.aop % 128 ≠ 11 → q.flits = 0 → data = [f] →
      let k := (r.unit q.offset).2
      (t.mem.get h.val).lost.contains k = false → t.unitBytes h.val k r.session = some old →
      let w := cellBytes q.aop
      let cell := fun (i : Nat) => leVal ((old.drop (w * i)).take w)
      let opnd := fun (i : Nat) => leVal (((leBytes 64 (flitPayload f)).drop (w * i)).take w)
      ∃ u : State, exec (.reqAtomic src h flits {}) s = .next (if q.aop / 128 % 2 = 1 then u.replyRow h.val q old else u) ∧
        SameOutside [(h.val, k)] t u ∧
        (u.mem.get h.val).atomics = satAdd (t.mem.get h.val).atomics 1 ∧
        (r.session = true → ((t.mem.get h.val).sessionKey (t.mem.get h.val).epoch).isSome = true → ∃ new, u.unitBytes h.val k true = some new ∧ new.length = 64 ∧
          ∀ i, i < 64 / w → leVal ((new.drop (w * i)).take w) = (aopCell q.aop (cell i) (opnd i) 0).getD (cell i)) ∧
        (r.session = false → ∃ new, u.unitBytes h.val k false = some new ∧ new.length = 64 ∧
          ∀ i, i < 64 / w → leVal ((new.drop (w * i)).take w) = (aopCell q.aop (cell i) (opnd i) 0).getD (cell i))))

/-- R176, R281, R282, R288, R289: what the gate die does on its own. The scrub reports a lost unit and an uncorrectable one, lists the latter and wants its row repaired, counts a corrected one, and
ends its pass at the last unit. A wanted row is repaired in a recess that grants other work only, after its crossfades and lane groups (R176). The walker stops past the last unit of the SESSION regions; a unit
of the old epoch it re-encrypts keeps its bytes and takes the current epoch. -/
def Obligations.GateDieWork : Prop :=
  ∀ (h : Fin 16) (u : BitVec 30) (f : MemFault) (noSpare : Bool) (row : Nat) (s : State),
    let n := h.val
    let k := u.toNat
    let m := s.mem.get n
    let region := ((s.regionAt n (64 * k)).map Prod.fst).getD 0xFFF
    let at_ := leBytes 8 (64 * k)
    let info := fun (kind : Nat) => BitVec.ofNat 32 (kind * 2 ^ 28 + region % 4096 * 2 ^ 16 + (8 + n))
    let ue := fun (kind : Nat) => s.modMem n (fun m => { m with ue := satAdd m.ue 1, errAddr := BitVec.ofNat 64 (64 * k), errInfo := info kind })
    let other := s.seq.grant.isSome = true ∧ s.seq.flitWait = false ∧ s.seq.work.lamps = [] ∧ s.seq.work.lanes = [] ∧ s.seq.work.other ≠ []
    (m.serves = false → exec (.scrubUnit h u (some f) noSpare) s = .next s ∧ exec (.scrubUnit h u none noSpare) s = .next s) ∧
    (m.serves = true → k ≠ 2 ^ 30 - 1 →
      (m.lost.contains k = true → exec (.scrubUnit h u (some f) noSpare) s = .next ((ue 5).raise 0x4002 (8 + n) 0 at_)) ∧
      (m.lost.contains k = false →
        exec (.scrubUnit h u none noSpare) s = .next s ∧
        (f.fails = true → noSpare = false → m.lost.length < 256 → ∃ t, exec (.scrubUnit h u (some f) noSpare) s = .next t ∧
          { t with mem := s.mem } = { ((ue 3).raise 0x4002 (8 + n) 0 at_) with mem := s.mem } ∧ (t.mem.get n).lost = m.lost ++ [k] ∧ f.row ∈ (t.mem.get n).repairs) ∧
        (f.fails = false → m.corrected.get f.row + 1 ≠ 16 → exec (.scrubUnit h u (some f) noSpare) s =
          .next (s.modMem n (fun m => { m with ce := satAdd m.ce 1, corrected := m.corrected.set f.row (m.corrected.get f.row + 1) }))))) ∧
    (m.serves = true → k = 2 ^ 30 - 1 → m.lost.contains k = false →
      exec (.scrubUnit h u none noSpare) s = .next (s.modMem n (fun m => { m with scrubPasses := satAdd m.scrubPasses 1, corrected := {} }))) ∧
    (row ∈ m.repairs → other → exec (.rowRepair h row) s = .next (s.modMem n (fun m =>
      { m with repairs := m.repairs.erase row, repaired := min 0xFFFF (m.repaired + 1), corrected := m.corrected.set row 0 }))) ∧
    (row ∉ m.repairs ∨ ¬ other → exec (.rowRepair h row) s = .next s) ∧
    (m.walking = false → exec (.walkerStep h) s = .next s) ∧
    (m.walking = true → s.nextSessionUnit n m.walkUnit = none → exec (.walkerStep h) s = .next (s.modMem n (fun m => { m with walking := false }))) ∧
    (∀ v bs, m.walking = true → s.nextSessionUnit n m.walkUnit = some v → v < 2 ^ 30 → m.lost.contains v = false → (s.tags.get (hbmUnit n v)).epoch ≠ m.epoch →
      (m.sessionKey m.epoch).isSome = true → s.unitBytes n v true = some bs →
      ∃ t, exec (.walkerStep h) s = .next t ∧ { t with hbm := s.hbm, tags := s.tags, mem := s.mem } = s ∧
        t.mem = s.mem.mod n (fun m => { m with walkUnit := v + 1 }) ∧
        t.unitBytes n v true = some bs ∧ (t.tags.get (hbmUnit n v)).epoch = m.epoch ∧ SameOutside [(n, v)] s t)

/-- R218, R228, R229: eight DATA flits of a row that a shallot's ingress has accepted, part p on the wavelength that WFIRST + p has now, whose two copies of every route field agree, make the row: it lands in the pod and slot
that the route names, as the first row of a pair when LAST is 0, and with the row that waited when the second-half bit is set. Where no row has all eight parts the flits wait.
R160, R161, R229, R233, R234: a row that has reached an ingress is a request at its avenue's arbiter with its source, its pod's number in the group of 32, its landing slot and its row, behind the requests that wait there.
The granted request of the period before completes at the next decision: its slot is complete and holds the row, or, for a barrier row of a pod that still issues, the row waits there, and the transfer is no longer in flight. -/
def Obligations.RowsArriveAndLand : Prop :=
  (
  ∀ (src : PlazaNo) (dst : Fin 8) (flits : List RxFlit) (s : State),
    let k := streetIx src.val dst.val
    let a := s.rxFlits src.val dst.val flits
    let l := a.1.blv.rxBuf.get k ++ a.2.filter (fun e => flitKind e.2 == 1)
    let buf := fun (x : List (Nat × Flit)) => { a.1 with blv := { a.1.blv with rxBuf := a.1.blv.rxBuf.set k x } }
    let t := a.1.street src.val dst.val
    let W := streetWidth src.val dst.val
    let lacks := fun (l : List (Nat × Flit)) (g : Nat) => ∃ p, p < 8 ∧ ∀ e ∈ l, flitPart e.2 = p → t.next W ((g + p) % W) ≠ some e.1
    ((∀ g, g < W → lacks l g) → exec (.rowArrival src dst flits) s = .next (buf l)) ∧
    (∀ (g : Nat) (e : Nat → Nat × Flit), g < W → (∀ i, i < g → lacks l i) →
      (∀ p, p < 8 → l.find? (fun x => flitPart x.2 == p && t.next W ((g + p) % W) == some x.1) = some (e p)) →
      (∀ p, p < 4 → flitRoute (e p).2 = flitRoute (e (p + 4)).2) →
      let rest := (List.range 8).foldl (fun l p => l.erase (e p)) l
      (∀ i, i < W → lacks rest i) →
      let pod := flitRoute (e 0).2 % 512
      let r1 := flitRoute (e 1).2
      let slot := r1 % 16
      let barrier : Option (BitVec 12) := if r1 / 512 % 2 = 1 then some (BitVec.ofNat 12 (flitRoute (e 2).2 + flitRoute (e 3).2 % 4 * 1024)) else none
      let key := src.val * 2 ^ 20 + dst.val * 2 ^ 16 + pod * 16 + slot
      ∃ row : Row, (∀ p, p < 8 → rowU 512 p row = flitPayload (e p).2) ∧
        (r1 / 256 % 2 = 0 → flitLast (e 7).2 = true → exec (.rowArrival src dst flits) s = .next ((buf rest).askIngress src.val dst.val pod slot row 0 false barrier)) ∧
        (r1 / 256 % 2 = 0 → flitLast (e 7).2 = false → exec (.rowArrival src dst flits) s =
          .next { buf rest with blv := { (buf rest).blv with firstHalf := (buf rest).blv.firstHalf.set key (some row) } }) ∧
        (∀ first, r1 / 256 % 2 = 1 → a.1.blv.firstHalf.get key = some first → exec (.rowArrival src dst flits) s =
          .next ({ buf rest with blv := { (buf rest).blv with firstHalf := (buf rest).blv.firstHalf.set key none } }.askIngress src.val dst.val pod slot first row true barrier)))) ∧
  (
  ∀ (s : State) (src sh pod slot : Nat) (data ext : Row) (wide : Bool) (barrier : Option (BitVec 12)) (unit : Nat) (g : ArbReq),
    let k := arbIx 0 sh (pod / 32)
    let q : ArbReq := { source := src, target := pod % 32, lslot := slot, stamp := (s.arb k).counter, data := data, ext := ext, wide := wide, barrierRow := barrier }
    let p := unit * 32 + g.target
    let t := s.arbComplete 0 sh unit
    let land : Landing := { data := g.data, ext := g.ext, wide := g.wide, complete := g.barrierRow.isNone, barrierRow := g.barrierRow }
    (∃ v, v = s.askIngress src sh pod slot data ext wide barrier ∧ (v.arb k).reqs = (s.arb k).reqs ++ [q] ∧ (v.arb k).granted = (s.arb k).granted ∧
      (∀ n, n ≠ k → v.arb n = s.arb n) ∧ { v with blv := s.blv } = s) ∧
    ((s.arb (arbIx 0 sh unit)).granted = none → t = s) ∧
    ((s.arb (arbIx 0 sh unit)).granted = some g → g.barrierRow = none ∨ (s.pod sh p).issuing = true →
      t.pod sh p = { s.pod sh p with landing := (s.pod sh p).landing.set g.lslot land } ∧ (∀ n, n ≠ sh → t.shal n = s.shal n) ∧
      (∀ m, m ≠ p → t.pod sh m = s.pod sh m) ∧ { t with sh := s.sh, blv := s.blv, seq := s.seq } = s ∧ (t.arb (arbIx 0 sh unit)).granted = none ∧
      t.seq.exe.flights = s.seq.exe.flights.eraseP (fun f => f.src == g.source && f.dst == sh && f.pod == p && f.slot == g.lslot)) ∧
    (∀ row, (s.arb (arbIx 0 sh unit)).granted = some g → g.barrierRow = some row → g.wide = false → (s.pod sh p).issuing = false →
      (t.pod sh p).store = (s.pod sh p).store.set row.toNat g.data))

/-- R229, R234, R235, R237, R238: a decision of an arbiter with nothing in flight and no request newly stale. The new requests are visible with the present stamp; a frozen arbiter grants nothing; otherwise the
owner of the slot is granted where its request is visible, else one that no other grantable request ranks above (stale, age, source,
target, slot), and with none the period is idle. At an avenue only rows whose slot is free can be granted. Only this arbiter changes. -/
def Obligations.ArbiterDecisions : Prop :=
  ∀ (a : ArbRef) (reqs : List NewReq) (s : State),
    let kind := a.kind.val
    let k := arbIx kind a.plaza.val a.unit.val
    let b := s.arb k
    let all := b.reqs ++ reqs.map (fun r => ({ source := r.source.val, target := r.target.toNat, lslot := r.lslot.val, stamp := b.counter, data := r.data,
                                               ext := r.ext, wide := r.wide, barrierRow := r.barrierRow } : ArbReq))
    let slot := s.arbSlot kind a.plaza.val a.unit.val
    let landing := fun (r : ArbReq) => (s.pod a.plaza.val (a.unit.val * 32 + r.target)).landing.get r.lslot
    let may := fun (r : ArbReq) => r ∈ all ∧ (kind = 0 → (landing r).complete = false ∧ (landing r).barrierRow = none)
    let owner := fun (r : ArbReq) => ∃ m, slot = some m ∧ ownerIs kind (b.table.get m) r = true
    (arbExists kind a.plaza.val a.unit.val = false → exec (.arbiterDecision a reqs) s = .next s ∧ exec (.staleRequest a) s = .next s) ∧
    (arbExists kind a.plaza.val a.unit.val = true → b.granted = none → (∀ r ∈ b.reqs, r.age b.counter < 2 ^ 15 ∨ r.stale = true) →
      ∃ t, exec (.arbiterDecision a reqs) s = .next t ∧ { t with blv := s.blv } = s ∧ { t.blv with arbs := s.blv.arbs } = s.blv ∧
        (∀ j, j ≠ k → t.arb j = s.arb j) ∧ (t.arb k).counter = b.counter + 1 ∧ (t.arb k).table = b.table ∧ (t.arb k).freeze = b.freeze ∧
        (b.freeze = true → (t.arb k).granted = none ∧ (t.arb k).reqs = all) ∧
        (b.freeze = false → (∀ r, ¬ may r) → (t.arb k).granted = none ∧ (t.arb k).reqs = all) ∧
        (b.freeze = false → (∃ r, may r) → ∃ r, may r ∧ (t.arb k).granted = some r ∧ (t.arb k).reqs = all.erase r ∧
          ((t.arb k).counts.get r.source).grants = satAdd (b.counts.get r.source).grants 1 ∧
          ((∃ x, may x ∧ owner x) → owner r) ∧ ((∀ x, may x → ¬ owner x) → ∀ x, may x → x.before b.counter r = false))) ∧
    (arbExists kind a.plaza.val a.unit.val = true → (∀ r ∈ b.reqs, r.age b.counter < 2 ^ 15 ∨ r.stale = true) → exec (.staleRequest a) s = .next s) ∧
    (arbExists kind a.plaza.val a.unit.val = true → (∃ r ∈ b.reqs, 2 ^ 15 ≤ r.age b.counter ∧ r.stale = false) →
      let marked := s.modArb k (fun b => { b with reqs := b.reqs.map (fun r => { r with stale := r.stale || decide (2 ^ 15 ≤ r.age b.counter) }) })
      (k ∈ s.seq.once.stale → exec (.staleRequest a) s = .next marked) ∧
      (k ∉ s.seq.once.stale → exec (.staleRequest a) s =
        .next ({ marked with seq := { marked.seq with once := { marked.seq.once with stale := marked.seq.once.stale ++ [k] } } }.raise 0x2007 a.plaza.val a.unit.val
          (leBytes 2 (kind * 2 ^ 14 + a.plaza.val * 2 ^ 9 + a.unit.val)))))

/-- R240, R241, R242, R243: the lock loops of a lane group take 16 readings: outputs, lock states (LOCKED up to 3.0 GHz, TRACKING above; SLIPPED and DOWN stay) and the heater codes from the crosstalk matrix; a
heater newly at an end of its range raises its event. The feed-forward update moves the two filters (300 µs, 200 µs; DEDUCED, log 11). Only that lane
group and the event log change. -/
def Obligations.LockLoops : Prop :=
  ∀ (g : LaneRef) (rings : List RingReading) (s : State),
    let l := s.lane g
    let clamp := fun (x : Int) => (max 0 (min 65535 x)).toNat
    (rings.length = 16 → ∃ l' : LaneGroup,
      (∀ i r, rings[i]? = some r →
        l'.outputs.get i = r.u.toNat ∧ l'.errRun.get i = (if 120 < r.err.natAbs then l.errRun.get i + 1 else 0) ∧
        (l.rings.get i = .slipped ∨ l.rings.get i = .down → l'.rings.get i = l.rings.get i) ∧
        (l.rings.get i ≠ .slipped → l.rings.get i ≠ .down → l'.rings.get i = if r.err.natAbs ≤ 30 then .locked else .tracking)) ∧
      (∀ i, i < 16 → l'.codes.get i = if l.running = true ∨ l.rings.get i = .down then l.codes.get i else
        clamp ((((List.range 7).map (fun k => if 3 ≤ i + k ∧ i + k ≤ 18 then
          l.matrix.get (7 * i + k) * (clamp ((l'.outputs.get (i + k - 3) : Int) + l.ffTerm) : Int) else 0)).sum + 2 ^ 13) / 2 ^ 14)) ∧
      { l' with outputs := l.outputs, rings := l.rings, errRun := l.errRun, codes := l.codes, mapErr := l.mapErr, mapRings := l.mapRings } = l ∧
      exec (.lockLoopUpdate g rings) s =
        .next (if ∃ i, i < 16 ∧ (l'.codes.get i = 0 ∨ l'.codes.get i = 65535) ∧ l.codes.get i ≠ l'.codes.get i then
            (s.modLane g (fun _ => l')).raise 0x2004 g.plaza.val g.lane.val ([BitVec.ofNat 8 (b2n g.rx), 0] ++ leBytes 2 g.lane.val)
          else s.modLane g (fun _ => l'))) ∧
    (8 ≤ g.plaza.val → exec (.feedforwardUpdate g) s = .next s) ∧
    (g.plaza.val < 8 →
      let target : Int := (s.feedPower g.plaza.val : Int) * 2048 / 10
      let f2 := l.ff2 + (l.ff1 - l.ff2) / 200
      exec (.feedforwardUpdate g) s = .next (s.modLane g (fun l =>
        { l with ff1 := l.ff1 + (target - l.ff1) / 300, ff2 := f2, ffTerm := - ((l.gain : Int) * f2 / 65536) })))

/-- R224, R240, R244, R245, R246, R249: a ring slips after 2 µs above 12 GHz or without its signal: it is SLIPPED, raises its event and PAUSE goes to the sender; it relocks with RESUME, or after three failures it and its wavelength
are down and the lane group wants a recalibration. A temperature counts only from a locked and calibrated group, and THERMO_Sn is the
mean beneath the die. Map k goes into MAP0 or MAP1 by its parity, and an unread map overwritten is counted. -/
def Obligations.RingsAndMaps : Prop :=
  ∀ (g : LaneRef) (ring : Fin 16) (w : WaveRef) (lost ok : Bool) (temp : Option (BitVec 16)) (s : State),
    let l := s.lane g
    let st := l.rings.get ring.val
    let a := w.src.val
    let b := w.dst.val
    let n := w.wave.val
    let x := (s.street a b).waves.get n
    let detail := [BitVec.ofNat 8 (b2n g.rx), 0] ++ leBytes 2 g.lane.val ++ [BitVec.ofNat 8 ring.val]
    let slips := (st = .locked ∨ st = .tracking) ∧ (lost = true ∨ 4 ≤ l.errRun.get ring.val)
    (slips → exec (.ringSlip g ring w lost) s =
      .next ((((s.modLane g (fun l => { l.setRing ring.val .slipped with mapSlips := l.mapSlips + 1, errRun := l.errRun.set ring.val 0 })).raise 0x2003
        g.plaza.val g.lane.val detail).modWave a b n (fun x => { x with slips := x.slips + 1 })).sendLink a b 3 n 1)) ∧
    (¬ slips → exec (.ringSlip g ring w lost) s = .next s) ∧
    (st ≠ .slipped → exec (.relockDone g ring w ok) s = .next s) ∧
    (let locked := (s.modLane g (fun l => { l.setRing ring.val .locked with relocks := l.relocks.set ring.val 0 })).modWave a b n (fun y => { y with slips := x.slips - 1 })
     (st = .slipped → x.slips ≤ 1 → exec (.relockDone g ring w true) s = .next (locked.sendLink a b 3 n 0)) ∧
     (st = .slipped → 1 < x.slips → exec (.relockDone g ring w true) s = .next locked)) ∧
    (st = .slipped → l.relocks.get ring.val + 1 < 3 → exec (.relockDone g ring w false) s =
      .next (s.modLane g (fun y => { y with relocks := y.relocks.set ring.val (l.relocks.get ring.val + 1) }))) ∧
    (st = .slipped → 3 ≤ l.relocks.get ring.val + 1 → exec (.relockDone g ring w false) s =
      .next (((s.modLane g (fun l => { l.setRing ring.val .down with relocks := l.relocks.set ring.val 0 })).waveDown a b n).demandLane g)) ∧
    (let good := l.calNumber ≠ 0 ∧ ∀ i, i < 16 → l.rings.get i = .locked
     ∃ t, exec (.lockThermoReport g temp) s = .next t ∧ (good → (t.lane g).thermo = temp) ∧ (¬ good → (t.lane g).thermo = none) ∧
       (∀ g', laneIx g' ≠ laneIx g → t.lane g' = s.lane g') ∧ { t with blv := s.blv, sh := s.sh } = s ∧
       (∀ m, m ≠ g.plaza.val → t.shal m = s.shal m) ∧ (8 ≤ g.plaza.val → t.sh = s.sh)) ∧
    (∃ t, exec .mapComplete s = .next t ∧
      let k := s.blv.mapNext + 1
      t.blv.mapNext = k ∧ t.blv.mapSeq = BitVec.ofNat 32 k ∧ t.blv.mapStart = s.cycle ∧ t.blv.mapStep = s.seq.current ∧
      (k % 2 = 0 → t.blv.map1 = s.blv.map1) ∧ (k % 2 = 1 → t.blv.map0 = s.blv.map0) ∧
      t.blv.mapLost = (if 3 ≤ k ∧ 2 ^ 31 ≤ (s.blv.mapAck - BitVec.ofNat 32 (k - 2)).toNat then satAdd s.blv.mapLost 1 else s.blv.mapLost) ∧
      { t with blv := s.blv, ev := s.ev, host := s.host, out := s.out } = s)

/-- R253, R254, R255, R256: fade values, drive control and spares. A lit lamp takes its fade value and counts, up to three, the values in a row at or below each of the thresholds −1.0, −2.0, −3.0, −4.5 and −6.0 dB; an ACTIVE
lamp reaches the deepest level counted to three, with that level's action. The drive rises or falls by 1 % of I0 between 100 % and
120 %. A warming spare is ready when locked, tries once more, and then is FAILED. Nothing else changes.
R257, R258, R259, R260, R261, R440: crossfades. A granted crossfade whose spare is ready begins; 39 steps move the light; the fortieth retires the lamp, hands its feed to the spare, counts and raises the crossfade. With no recess for 1 s a
forced recess begins. The new P0 and I0 are written where the temperature window is open, else the write is refused, raised once and tried
again. -/
def Obligations.LampsAndCrossfades : Prop :=
  (
  ∀ (l : Fin 32) (f : Int) (locked : Bool) (s : State),
    let x := s.lamp.lamps.get l.val
    let lamp := fun (y : Lamp) => s.modLamp l.val (fun _ => y)
    let limit := fun (k : Nat) => if k = 1 then -100 else if k = 2 then -200 else if k = 3 then -300 else if k = 4 then -450 else (-600 : Int)
    let run := fun (k : Nat) => if f ≤ limit k then min 3 (x.runs.get k + 1) else 0
    let crossed := fun (k : Nat) => 1 ≤ k ∧ k ≤ 5 ∧ x.level < k ∧ run k = 3
    (x.state.lit = false → exec (.fadeValue l f) s = .next s) ∧
    (x.state.lit = true → ∃ y : Lamp, { y with runs := x.runs, raising := x.raising } = { x with fade := f } ∧
      (∀ k, 1 ≤ k → k ≤ 5 → y.runs.get k = run k) ∧ y.raising = (!decide (-50 ≤ f) && (x.raising || decide (run 1 = 3))) ∧
      (x.state ≠ .active → exec (.fadeValue l f) s = .next (lamp y)) ∧
      (x.state = .active → (∀ k, ¬ crossed k) → exec (.fadeValue l f) s = .next ((lamp y).modLamp l.val (fun z => { z with level := max z.level 0 }))) ∧
      (x.state = .active → crossed 1 → (∀ k, crossed k → k = 1) → exec (.fadeValue l f) s =
        .next (((lamp y).modLamp l.val (fun z => { z with level := max z.level 1 })).raise 0x3001 26 l.val [])) ∧
      (x.state = .active → crossed 4 → (∀ k, crossed k → k = 4) → exec (.fadeValue l f) s =
        .next (((lamp y).modLamp l.val (fun z => { z with level := max z.level 4 })).raise 0x3005 26 l.val []))) ∧
    (x.state ≠ .active → exec (.driveAdjust l) s = .next s) ∧
    (x.state = .active → x.raising = true → x.drive < 1200 → x.drive + 10 < 1200 ∨ 2 ≤ x.level →
      exec (.driveAdjust l) s = .next (lamp { x with drive := min 1200 (x.drive + 10) })) ∧
    (x.state = .active → x.raising = true → x.drive < 1200 → 1200 ≤ x.drive + 10 → x.level < 2 →
      exec (.driveAdjust l) s = .next (((lamp { x with drive := 1200 }).modLamp l.val (fun y => { y with level := 2 })).warmSpare l.val)) ∧
    (x.state = .active → x.raising = false → -20 < x.fade → 1000 < x.drive →
      exec (.driveAdjust l) s = .next (lamp { x with drive := max 1000 (x.drive - 10) })) ∧
    (x.state = .spareWarming →
      exec (.spareReady l true) s = .next (lamp { x with state := .spareReady, tries := 0 }) ∧
      (x.tries = 0 → exec (.spareReady l false) s = .next (lamp { x with tries := 1 })) ∧
      (x.tries ≠ 0 → s.spareHolder l.val = none → exec (.spareReady l false) s =
        .next ((lamp { x with state := .failed, tries := 0 }).raise 0x3007 26 l.val []))) ∧
    (x.state ≠ .spareWarming → exec (.spareReady l locked) s = .next s)) ∧
  (
  ∀ (l : Fin 32) (ps : Nat) (p0 : BitVec 16) (s : State) (k : Nat),
    let x := s.lamp.lamps.get l.val
    let write := fun (u : State) => (u.modLamp l.val (fun y => { y with p0Pending := false })).nvStart (.lampP0 l.val)
    let defer := fun (u : State) => (u.modLamp l.val (fun y => { y with p0Pending := true })).nvRefuse
    let measured := s.modLamp l.val (fun y => { y with p0 := p0.toNat, i0 := y.i0 * y.drive / 1000, drive := 1000, p0Due := false })
    (s.top.state = .running → x.bySpare = some k → s.seq.work.lamps.contains l.val = true → s.seq.grant.isSome = true → s.seq.flitWait = false →
      x.state = .active → (s.lamp.lamps.get k).state = .spareReady → exec (.crossfade l ps) s =
        .next ((s.modLamp l.val (fun y => { y with state := .crossfading, step := 0, ps := ps, raising := false })).modLamp k
          (fun y => { y with state := .crossfading, feed := x.feed }))) ∧
    (s.top.state = .running → x.bySpare = none → exec (.crossfade l ps) s = .next s) ∧
    (x.state = .crossfading → x.bySpare = some k → x.step + 1 < 40 →
      exec (.crossfadeStep l) s = .next (s.modLamp l.val (fun y => { y with step := y.step + 1 }))) ∧
    (x.state = .crossfading → x.bySpare = some k → k ≠ l.val → 40 ≤ x.step + 1 → ∃ t, exec (.crossfadeStep l) s = .next t ∧
      (t.lamp.lamps.get l.val).state = .retired ∧ (t.lamp.lamps.get l.val).feed = none ∧ (t.lamp.lamps.get l.val).demandAt = none ∧
      (t.lamp.lamps.get k).state = .active ∧ (t.lamp.lamps.get k).feed = x.feed ∧ (t.lamp.lamps.get k).p0Due = true ∧
      (∀ j, j ≠ l.val → j ≠ k → t.lamp.lamps.get j = s.lamp.lamps.get j) ∧
      t.lamp.crossfades = satAdd s.lamp.crossfades 1 ∧
      t.lamp.forced = satAdd s.lamp.forced (if s.seq.grant = some .forced then 1 else 0) ∧
      t.seq.work.lamps = s.seq.work.lamps.erase l.val ∧
      { t with lamp := s.lamp, seq := s.seq, ev := s.ev, host := s.host, out := s.out, blv := s.blv } = s) ∧
    (x.demandAt = none → exec (.crossfadeDeadline l) s = .next s) ∧
    (∀ t0, x.demandAt = some t0 → s.top.state = .running → x.state = .active → t0 + 1000000000 ≤ s.top.now → s.seq.work.lamps.contains l.val = false →
      s.seq.grant = none → s.cond.switching = none → ∃ t, exec (.crossfadeDeadline l) s = .next t ∧ t.seq.grant = some .forced ∧ t.seq.flitWait = true ∧
        t.seq.work = { lamps := s.waitingLamps, lanes := s.waitingLanes, other := s.seq.demands } ∧
        ∀ n, n < 8 → (s.shal n).placed = true → (s.shal n).recess = none → (t.shal n).recess = some .forced) ∧
    (x.p0Due = false → exec (.p0Update l p0) s = .next s) ∧
    (x.p0Due = true → s.pp.nvOpen = true → exec (.p0Update l p0) s = .next (write measured)) ∧
    (x.p0Due = true → s.pp.nvOpen = false → exec (.p0Update l p0) s = .next ((defer measured).raise 0x3008 26 l.val [])) ∧
    (x.p0Pending = false → exec (.p0WriteRetry l) s = .next s) ∧
    (x.p0Pending = true → exec (.p0WriteRetry l) s = .next (if s.pp.nvOpen then write s else defer s)))

/-- R241, R265, R267, R268, R269, R270: calibration. The eight phases follow one another outside RUNNING and SWEEPING, and the last leaves the results; a lane group whose measurements lie within every limit of R268 takes its codes and gain, another keeps its
values, is marked and counted, and after two failures in a row is switched off. A granted lane group starts alone at its plaza.
R22, R154, R175, R176, R189, R211: recesses. A demand waits while RUNNING, forces a recess at once when it is overdue, and is granted at once in IDLE and LOADED, while a decided switch-over comes before a forced recess (R22); the end of the wait for flits clears it; once no crossfade and no lane group
is left the recess ends, the shallots in it resume with its time counted, and a boundary recess goes on to the barrier. -/
def Obligations.CalibrationsAndRecesses : Prop :=
  (
  ∀ (g : LaneRef) (r : CalReading) (readings : List CalReading) (weak : List WaveRef) (s : State),
    let l := s.lane r.group
    let limits := (∀ v ∈ r.codes, 2048 ≤ v.toNat ∧ v.toNat ≤ 63487) ∧ r.gainRef * 3 ≤ r.gain * 4 ∧ r.gain * 4 ≤ r.gainRef * 5 ∧
      (∀ v ∈ r.bias, 256 ≤ v.toNat ∧ v.toNat ≤ 3839) ∧ 50 ≤ r.extinction ∧ (∀ v ∈ r.offsets, 112 ≤ v.toNat ∧ v.toNat ≤ 911) ∧
      r.tcalError.natAbs ≤ 640 ∧ 71 ≤ r.q
    let may := s.top.state = .bringup ∨ s.top.state = .idle ∨ s.top.state = .loaded
    (s.lamp.calPhase = 0 ∨ ¬ may → exec (.calPhaseEnd readings weak) s = .next s) ∧
    (may → 1 ≤ s.lamp.calPhase → s.lamp.calPhase < 8 →
      exec (.calPhaseEnd readings weak) s = .next { s with lamp := { s.lamp with calPhase := s.lamp.calPhase + 1 } }) ∧
    (may → 8 ≤ s.lamp.calPhase → ∃ t, exec (.calPhaseEnd readings weak) s = .next t ∧
      t.lamp.calPhase = 0 ∧ t.lamp.calDone = true ∧ (t.lamp.packagePass = true ↔ ∀ p, p < 27 → t.lamp.plazaPass.getLsbD p = true) ∧
      (s.host.running = none → t.host.running = none) ∧ (∀ c, s.host.running = some c → c.opcode = 8 → t.host.running = none)) ∧
    (s.top.state = .running → s.seq.grant.isSome = true → s.seq.work.lanes.contains (laneIx g) = true → s.seq.work.lamps = [] → s.seq.flitWait = false →
      (s.lane g).pending = true → (∀ x ∈ s.plazaLanes g.plaza.val, x.running = false) →
      exec (.laneGroupRecal g) s = .next (s.modLane g (fun l => { l with pending := false, running := true }))) ∧
    (s.top.state = .running → s.seq.grant = none → exec (.laneGroupRecal g) s = .next s) ∧
    (l.running = false → exec (.laneGroupRecalDone r) s = .next s) ∧
    (l.running = true → r.noLock = [] → s.host.running = none → ∃ t, exec (.laneGroupRecalDone r) s = .next t ∧
      (t.lane r.group).running = false ∧ t.seq.work.lanes = s.seq.work.lanes.erase (laneIx r.group) ∧
      (limits → ∀ i v, r.codes[i]? = some v → (t.lane r.group).codes.get i = v.toNat) ∧
      (limits → (t.lane r.group).gain = r.gain ∧ (t.lane r.group).matrix = l.matrix ∧ (t.lane r.group).marked = false ∧
        (t.lane r.group).failRun = 0 ∧ t.lamp.calFails = s.lamp.calFails) ∧
      (¬ limits → (t.lane r.group).codes = l.codes ∧ (t.lane r.group).gain = l.gain ∧ (t.lane r.group).marked = true ∧
        (t.lane r.group).failRun = l.failRun + 1 ∧ t.lamp.calFails = satAdd s.lamp.calFails 1 ∧
        ((t.lane r.group).autoOff = true ↔ l.autoOff = true ∨ 2 ≤ l.failRun + 1)) ∧
      ∀ g', laneIx g' ≠ laneIx r.group → t.lane g' = s.lane g')) ∧
  (
  ∀ (us : Nat) (overdue : Bool) (s : State),
    let asked := { s with seq := { s.seq with demands := s.seq.demands ++ [us] } }
    let whole : RecessWork := { lamps := s.waitingLamps, lanes := s.waitingLanes, other := s.seq.demands ++ [us] }
    (s.top.state = .running → overdue = false → exec (.recessDemand us overdue) s = .next asked) ∧
    (s.top.state = .running → overdue = true → s.seq.grant = none → s.cond.switching.isSome = true → exec (.recessDemand us overdue) s =
      .next { asked with seq := { asked.seq with forceDue := true } }) ∧
    (s.top.state = .running → overdue = true → s.seq.grant = none → s.cond.switching = none → ∃ t, exec (.recessDemand us overdue) s = .next t ∧
      t.seq.grant = some .forced ∧ t.seq.flitWait = true ∧ t.seq.work = whole ∧ t.seq.demands = [] ∧
      ∀ n, n < 8 → (s.shal n).placed = true → (s.shal n).recess = none → (t.shal n).recess = some .forced ∧ (t.shal n).recessAt = s.top.now ∧
        (t.shal n).recessCount = satAdd (s.shal n).recessCount 1) ∧
    (s.top.state = .idle ∨ s.top.state = .loaded → s.seq.grant = none → exec (.recessDemand us overdue) s =
      .next { asked with seq := { asked.seq with grant := some .scheduled, work := whole, demands := [] } }) ∧
    exec .forcedRecessWaitEnd s = .next { s with seq := { s.seq with flitWait := false } } ∧
    (s.seq.grant.isSome = true → s.seq.work.lamps = [] → s.seq.work.lanes = [] → ∃ t, exec .recessWorkDone s = .next t ∧
      t.seq.grant = none ∧ t.seq.work = {} ∧ t.seq.flitWait = false ∧ t.seq.phase = (if s.seq.phase = .recess then .barrier else s.seq.phase) ∧
      { t with sh := s.sh, seq := s.seq } = s ∧
      (∀ n, n < 8 → (s.shal n).recess.isSome = true → t.shal n = { s.shal n with recess := none, recessUs := satAdd (s.shal n).recessUs ((s.top.now - (s.shal n).recessAt) / 1000) }) ∧
      ∀ n, (s.shal n).recess = none → t.shal n = s.shal n) ∧
    (s.seq.grant = none ∨ s.seq.work.lamps ≠ [] ∨ s.seq.work.lanes ≠ [] → exec .recessWorkDone s = .next s))

/-- R364, R365, R366, R367, R369: a host command counts in CMD_OVERRUN while BUSY is 1; else its opcode and arguments are written, and it ends at once with ST_BAD_ARGUMENT
where its own arguments are malformed, with ST_STATE_REFUSED and OTHER_PATH while a command of another path runs, and with ST_STATE_REFUSED outside its ACCEPT mask; a
refusal is counted with its opcode, and CMD_STATUS gives STATE and ACCEPT. A request that does not reach the package changes nothing. -/
def Obligations.HostCommandChecks : Prop :=
  ∀ (a : List Word) (s : State) (c : Instr) (op accept : Nat) (args : List Word) (fine : Bool), a.length = 12 →
    let n := fun (i : Nat) => ((a[i]?).getD 0).toNat
    let zero := fun (i : Nat) => (a.drop i).all (fun w => w == 0)
    (c, op, accept, args, fine) ∈
      ([(.loadImage a none, 0x01, 0x18, a, zero 0),
        (.start a, 0x02, 0x10, a, decide (n 0 < 8) && zero 9 && (bitAt (n 0) 2 || bitAt (n 0) 1 || (n 7 == 0 && n 8 == 0))),
        (.stopAtStep a, 0x03, 0x30, a, zero 2), (.sweep a, 0x04, 0x38, a, zero 0), (.park a, 0x05, 0x08, a, zero 0),
        (.query a, 0x07, 0xFE, a, decide (n 0 ≤ 3) && (if n 0 = 2 then decide (n 1 ≤ 7) && decide (n 2 ≤ 1) && zero 3 else zero 1)),
        (.recalibrateFull a, 0x08, 0x18, 0 :: a.drop 1, zero 1),
        (.recalibrateGroup a, 0x08, 0x38, 1 :: a.drop 1, (laneArg (n 1)).isSome && zero 2),
        (.replay a, 0x09, 0x10, a, zero 2), (.rotateKeys a, 0x0A, 0x30, a, zero 0), (.retirePod a, 0x0B, 0x18, a, decide (n 0 ≤ 0xFFF) && zero 1),
        (.exportJournal a, 0x0C, 0x30, a, n 2 % 32 == 0 && (n 3 + 2 ^ 32 * n 4) % 4096 == 0 && zero 5)] : List (Instr × Nat × Nat × List Word × Bool)) →
    let counted := fun (t : State) => { t with host := { t.host with refuseCount := satAdd t.host.refuseCount 1, lastRefused := BitVec.ofNat 32 op } }
    (¬ (s.host.ready = true ∧ s.host.linkUp = true) → exec c s = .next s) ∧
    (s.host.ready = true → s.host.linkUp = true → s.host.busy = true →
      exec c s = .next { s with host := { s.host with overrun := satAdd s.host.overrun 1 } }) ∧
    (s.hostFree → fine = false → exec c s = .next ((s.cmdWritten op args).cmdDone accept 1 false [])) ∧
    (∀ d, s.hostFree → fine = true → s.host.running = some d →
      exec c s = .next ((counted (s.cmdWritten op args)).cmdDone accept 3 (decide (d.path ≠ .host)) [])) ∧
    (s.hostFree → fine = true → s.host.running = none → bitAt accept s.top.state.code = false →
      exec c s = .next ((counted (s.cmdWritten op args)).cmdDone accept 3 false []))

/-- R194, R195, R212, R369, R520: LOAD_IMAGE whose checks pass swaps the staging halves and starts the writing, with BUSY until it ends; a failed check leaves the loaded image and the state and is
recorded in LOAD_STATUS, the detail registers and REFUSE_COUNT. At the end of the writing the image is in force: LOADED, its placement, empty windows, an empty journal, a fresh
RUN key in every stack; an uncorrectable error during the writing leaves no image and IDLE. -/
def Obligations.ImageLoads : Prop :=
  ∀ (a : List Word) (ue : Option StagedUe) (s : State) (i : Image) (f : LoadFail),
    let b0 := s.cmdBegun 0x01 0x18 a
    let b := { b0 with img := { b0.img with detailRes := 0, detailIndex := 0, detailFeat := 0, detailOffset := 0 } }
    (a.length = 12 → a.all (fun w => w == 0) = true → s.takesCommand 0x18 → b.checkImage b.stagedImage = .ok i → ∃ t,
      exec (.loadImage a none) s = .next t ∧ t.img.writing = some i ∧ t.img.swapped = !s.img.swapped ∧ t.img.image = s.img.image ∧ t.top = s.top ∧
      t.host = b.host ∧ t.seq = s.seq ∧ t.hbm = s.hbm ∧ t.mem = s.mem ∧ t.sec = s.sec ∧ t.net = s.net ∧ t.blv = s.blv) ∧
    (a.length = 12 → a.all (fun w => w == 0) = true → s.takesCommand 0x18 → b.checkImage b.stagedImage = .error f → ∃ t,
      exec (.loadImage a none) s = .next t ∧
      t.img = { s.img with detailRes := BitVec.ofNat 32 f.res, detailIndex := BitVec.ofNat 32 f.idx, detailFeat := BitVec.ofNat 32 f.feat,
                           detailOffset := BitVec.ofNat 64 f.off, check := f.check, status := f.status.code, refuseCount := satAdd s.img.refuseCount 1 } ∧
      t.host.busy = false ∧ t.host.done = true ∧ t.host.running = none ∧ t.host.status = BitVec.ofNat 8 f.status.code ∧
      { t with img := s.img, host := s.host, ev := s.ev, out := s.out } = s) ∧
    (s.img.writing = none → exec (.imageLoadDone ue) s = .next s) ∧
    (s.img.writing = some i → s.sec.rotateDue = false → (∀ c, s.host.running = some c → c.opcode = 1) → ∃ t, exec (.imageLoadDone none) s = .next t ∧
      t.top.state = .loaded ∧ t.img.image = some i ∧ t.img.writing = none ∧ t.img.check = 0 ∧ t.img.status = 0 ∧
      t.img.active = (s.usablePlacement i).getD 0 ∧ t.host.windows = {} ∧ t.host.running = none ∧ t.seq.head = 0 ∧ t.seq.tail = 0 ∧ t.seq.ring = [] ∧
      t.seq.ran = false ∧ t.seq.ranLoad = false ∧ t.seq.observers = i.observerTbl ∧ t.hbm = s.hbm ∧
      (∀ h, h < 16 → (t.mem.get h).keyRun = some (s.sec.draws + h)) ∧ t.sec.draws = s.sec.draws + 16 ∧
      (∀ n, n < 8 → (t.shal n).placed = ((i.placements[(s.usablePlacement i).getD 0]?).getD {}).shallots.getLsbD n ∧ (t.shal n).powered = (t.shal n).placed ∧
        (t.shal n).tallies = {})) ∧
    (∀ u, s.img.writing = some i → ue = some u → (∀ c, s.host.running = some c → c.opcode = 1) → ∃ t, exec (.imageLoadDone ue) s = .next t ∧
      t.top.state = .idle ∧ t.img.image = none ∧ t.img.writing = none ∧ t.img.check = 2 ∧ t.img.refuseCount = satAdd s.img.refuseCount 1 ∧
      t.host.running = none)

/-- R179, R183, R360, R370, R371: START begins a run at its first step with its seed: RUNNING at the barrier, observers at D_INIT, tallies and window counts zero, RUN_START written. With CONTINUE it resumes at
STEP_CURRENT and keeps seed and observers. REPLAY begins the run of a RUN_START record with the records that follow it. STOP_AT_STEP arms a stop or disarms it, and ends at once. -/
def Obligations.RunsBegin : Prop :=
  ∀ (a : List Word) (s : State) (r : JRecord), a.length = 12 →
    let n := fun (i : Nat) => ((a[i]?).getD 0).toNat
    let pair := fun (i : Nat) => n i + 2 ^ 32 * n (i + 1)
    let zero := fun (i : Nat) => (a.drop i).all (fun w => w == 0)
    let digest := (s.img.image.map (fun i => i.digest)).getD []
    let seed : BitVec 128 := BitVec.ofNat 128 (pair 3 + 2 ^ 64 * pair 5)
    let first : Word64 := BitVec.ofNat 64 (pair 1)
    let start : JRecord := { step := first, type := 1, payload := leBytes 16 seed.toNat ++ digest ++ leBytes 8 first.toNat }
    let armed : Option Word64 := if pair 0 = 2 ^ 64 - 1 then none
      else if s.seq.boundaryDue = true ∧ pair 0 ≤ s.seq.current.toNat then some (s.seq.current + 1) else some (BitVec.ofNat 64 (pair 0))
    let stopped := { s with seq := { s.seq with stopAt := armed } }
    (s.takesCommand 0x10 → n 0 = 0 → zero 7 = true → s.placedFence = false → (s.needsSession = true → s.sec.tenant.isSome = true) →
      (s.img.image.bind (fun i => i.domain)) = none → ∃ t, exec (.start a) s = .next t ∧
      t.top.state = .running ∧ t.seq.phase = .barrier ∧ t.seq.current = first ∧ t.seq.seed = seed ∧ t.seq.replay = false ∧
      t.seq.startAt = some s.top.now ∧ t.host.busy = true ∧ t.host.done = false ∧ t.host.running = some (hostCmd 0x02 0x10 a) ∧
      t.seq.committed = s.seq.committed ∧ t.img = s.img ∧
      (∀ k, (t.seq.observers.get k).d = (((s.seq.observers.get k).entry.map (fun e => e.dInit)).getD 0) ∨ s.seq.observers.get k = default) ∧
      (∀ n, n < 8 → t.shal n = { s.shal n with tallies := {} }) ∧ (∀ k, t.host.windows.get k = {}) ∧
      (s.journalWraps = false → s.seq.stalled = [] → s.seq.head.toNat + start.size ≤ s.seq.tail.toNat + s.ringSize →
        t.seq.ring.getLast? = some (s.seq.head.toNat, { start with seq := s.seq.jseq }) ∧ t.seq.jseq = s.seq.jseq + 1 ∧
        t.seq.head = BitVec.ofNat 64 (s.seq.head.toNat + start.size))) ∧
    (s.takesCommand 0x10 → n 0 = 4 → pair 1 = s.seq.current.toNat → zero 3 = true → s.seq.ranLoad = true → s.placedFence = false →
      (s.needsSession = true → s.sec.tenant.isSome = true) → ∃ t, exec (.start a) s = .next t ∧
      t.top = { s.top with state := .running } ∧ t.seq.phase = .barrier ∧ t.seq.current = s.seq.current ∧ t.seq.seed = s.seq.seed ∧
      t.seq.observers = s.seq.observers ∧ t.seq.ring = s.seq.ring ∧ t.host = (s.cmdBegun 0x02 0x10 a).host ∧ { t with top := s.top, seq := s.seq, host := s.host } = s) ∧
    (s.takesCommand 0x10 → n 0 = 4 → zero 9 = true → s.placedFence = false → (s.needsSession = true → s.sec.tenant.isSome = true) →
      (pair 1 ≠ s.seq.current.toNat ∨ zero 3 = false ∨ s.seq.ranLoad = false) → exec (.start a) s = .next (s.cmdOver 0x02 0x10 a 1 [])) ∧
    (s.takesCommand 0x30 → zero 2 = true → exec (.stopAtStep a) s = .next (stopped.cmdOver 0x03 0x30 a 0 [])) ∧
    (s.takesCommand 0x10 → zero 2 = true → s.placedFence = false → s.seq.runStartAt (pair 0) = none →
      exec (.replay a) s = .next (s.cmdOver 0x09 0x10 a 1 [])) ∧
    (s.takesCommand 0x10 → zero 2 = true → s.placedFence = false → s.seq.runStartAt (pair 0) = some r → ∃ t, exec (.replay a) s = .next t ∧
      t.top = { s.top with state := .running } ∧ t.seq.phase = .barrier ∧ t.seq.replay = true ∧ t.seq.seed = BitVec.ofNat 128 (leVal (r.payload.take 16)) ∧
      t.seq.current = BitVec.ofNat 64 (leVal ((r.payload.drop 48).take 8)) ∧ t.seq.replayLeft = s.seq.runRecords (pair 0) ∧
      t.seq.ring = s.seq.ring ∧ t.seq.head = s.seq.head ∧ t.hbm = s.hbm ∧ t.host.busy = true)

/-- R369, R372, R462, R465, R491: SWEEP ends the run uncommitted, unloads the image and enters SWEEPING; the sweep destroys session and RUN slots, staging key and offers, then zeroes tallies,
observers, windows, staging and undo logs, reads back, and ends in IDLE with its count, or in FAULTED where a word was not zero. PARK ends with ST_OK and its completion is PARKED; UNPARK, a HOST_COMMAND, begins the
bring-up at phase 2. -/
def Obligations.SweepsAndParking : Prop :=
  ∀ (a : List Word) (m : MewsReq) (nonzero : Bool) (s t0 : State), a.length = 12 →
    let zero := (a.all (fun w => w == 0))
    (s.takesCommand 0x38 → zero = true → ∃ t, exec (.sweep a) s = .next t ∧
      t.top.state = .sweeping ∧ t.top.sweepPhase = 1 ∧ t.top.after = .idle ∧ t.img.image = none ∧ t.seq.phase = .idle ∧ t.seq.stopAt = none ∧
      t.seq.committed = s.seq.committed ∧ t.seq.current = s.seq.current ∧ t.seq.grant = none ∧ t.hbm = s.hbm ∧ t.host.busy = true ∧
      t.host.running = some (hostCmd 0x04 0x38 a) ∧
      (∀ n, n < 8 → (t.shal n).inStep = false) ∧
      ∀ n, n < 8 → (s.shal n).fenced = false → (t.shal n).placed = false ∧ (t.shal n).powered = true ∧ (t.shal n).clk.code = 40 ∧ (t.shal n).clk.setPoint = 700) ∧
    (s.top.sweepPhase = 1 → ∃ t, exec (.sweepPhaseEnd nonzero) s = .next t ∧ t.top = { s.top with sweepPhase := 2 } ∧
      t.sec.tenant = none ∧ t.sec.clients = [] ∧ t.sec.offers = [] ∧ t.sec.staging = none ∧ t.sec.epoch = 0 ∧
      (∀ h, h < 16 → (t.mem.get h).keyEven = none ∧ (t.mem.get h).keyOdd = none ∧ (t.mem.get h).keyRun = none) ∧
      { t with top := s.top, sec := s.sec, mem := s.mem } = s) ∧
    (s.top.sweepPhase = 2 → ∃ t, exec (.sweepPhaseEnd nonzero) s = .next t ∧ t.top = { s.top with sweepPhase := 3 } ∧
      t.host.windows = {} ∧ t.img.half0 = {} ∧ t.img.half1 = {} ∧ t.seq.observers = {} ∧ t.seq.seed = 0 ∧ t.seq.ring = [] ∧
      (∀ n, n < 8 → (t.shal n).tallies = {} ∧ ∀ p, (t.pod n p).store = {} ∧ (t.pod n p).bundles = {} ∧ (t.pod n p).accs = {} ∧ (t.pod n p).fused = (s.pod n p).fused)) ∧
    (s.top.sweepPhase = 3 → exec (.sweepPhaseEnd nonzero) s =
      .next { s with top := { s.top with sweepPhase := 4, sweepBad := s.top.sweepBad || nonzero } }) ∧
    (s.top.sweepPhase = 4 → s.top.sweepBad = false → s.top.after = .idle → s.top.state = .sweeping → ∃ t, exec (.sweepPhaseEnd nonzero) s = .next t ∧
      t.top.state = .idle ∧ t.top.sweepPhase = 0 ∧ t.sec.sweeps = satAdd s.sec.sweeps 1 ∧ t.sec.sweepFail = false ∧ t.host.running = none) ∧
    (s.top.sweepPhase = 4 → s.top.sweepBad = true → ∃ t, exec (.sweepPhaseEnd nonzero) s = .next t ∧
      t.top.state = .faulted ∧ t.sec.sweepFail = true ∧ t.sec.sweeps = s.sec.sweeps ∧ t.host.running = none) ∧
    (s.takesCommand 0x08 → zero = true → exec (.park a) s =
      .next { s.cmdOver 0x05 0x08 a 0 [] with top := { s.top with parking := true } }) ∧
    (s.top.parking = true → s.top.state = .idle → s.host.running = none → ∃ t, exec .parkComplete s = .next t ∧ t.top.state = .parked ∧ t.top.parking = false ∧ t.hbm = [] ∧ t.seq = {} ∧ t.net = {} ∧ t.mem = {} ∧
      t.sec.owners = s.sec.owners ∧ ((∀ k, k < 128 → (s.net.ports.get k).up = false) → t.ev = s.ev) ∧ t.top.now = s.top.now) ∧
    (s.top.parking = false ∨ s.top.state ≠ .idle ∨ s.host.running.isSome = true → exec .parkComplete s = .next s) ∧
    (s.mewsGate hostCommandOp m t0 → m.body.length = 52 → bodyNum m.body 0 4 = 6 → (∀ i, i < 12 → bodyNum m.body (4 + 4 * i) 4 = 0) → t0.mews.recovery = false →
      t0.host.running = none → t0.top.state = .parked → t0.top.parking = false → ∃ c, exec (.unpark m) s =
      .next { t0 with host := { t0.host with running := some c },
                      top := { t0.top with state := .bringup, phase := 2, phase3 := false, phase4 := false, unparking := true, parking := false } })

/-- R288, R373, R374, R375, R376, R440, R459, R460, R461: QUERY returns its item; RECALIBRATE full starts phase 1; of a lane group it is demanded and, outside RUNNING, runs at once; ROTATE_KEYS without a tenant session does nothing, in RUNNING it draws a key for the free slot and waits, in LOADED
the epoch rises at once; once every walker has finished the old slot is empty. RETIRE_POD ends at once for a fused pod or outside the temperature window, and else writes; EXPORT_JOURNAL copies the sealed bytes of its range; an unknown opcode ends with ST_UNKNOWN_COMMAND. -/
def Obligations.CommandsThatEnd : Prop :=
  ∀ (a : List Word) (env : MemEnv) (op : Byte) (s : State), a.length = 12 →
    let n := fun (i : Nat) => ((a[i]?).getD 0).toNat
    let zero := fun (i : Nat) => (a.drop i).all (fun w => w == 0)
    let lo := fun (x : Word64) => BitVec.ofNat 32 (x.toNat % 2 ^ 32)
    let hi := fun (x : Word64) => BitVec.ofNat 32 (x.toNat / 2 ^ 32)
    let sh := n 0 / 512 % 8
    let pod := n 0 % 512
    let full : List Word := 0 :: a.drop 1
    let group : List Word := 1 :: a.drop 1
    (s.takesCommand 0xFE → n 0 = 0 → zero 1 = true → exec (.query a) s = .next (s.cmdOver 0x07 0xFE a 0
      [BitVec.ofNat 32 s.top.state.code,
       BitVec.ofNat 32 ((if s.img.image.isSome then 2 ^ 31 else 0) + s.img.check % 16 * 2 ^ 16 + s.img.status % 256),
       lo s.seq.committed, hi s.seq.committed, lo s.seq.current, hi s.seq.current])) ∧
    (s.takesCommand 0xFE → n 0 = 1 → zero 1 = true → ∃ w : List Word, exec (.query a) s = .next (s.cmdOver 0x07 0xFE a 0 w) ∧ w.length = 5 ∧
      (∀ k, k < 8 → ((w[0]?).getD 0).getLsbD k = (s.shal k).fenced) ∧
      ∀ k, k < 8 → ((w[1 + k / 2]?).getD 0).toNat / 2 ^ (16 * (k % 2)) % 2 ^ 16 = countOf 512 (s.retired k)) ∧
    (s.takesCommand 0xFE → n 0 = 2 → n 1 < 8 → n 2 < 2 → zero 3 = true → ∃ w : List Word, exec (.query a) s = .next (s.cmdOver 0x07 0xFE a 0 w) ∧ w.length = 8 ∧
      ∀ k, k < 256 → ((w[k / 32]?).getD 0).getLsbD (k % 32) = s.retired (n 1) (256 * n 2 + k)) ∧
    (s.takesCommand 0xFE → n 0 = 3 → zero 1 = true → exec (.query a) s =
      .next (s.cmdOver 0x07 0xFE a 0 [if s.sec.tenant.isSome then 1 else 0, lo s.sec.epoch, hi s.sec.epoch])) ∧
    (s.takesCommand 0x18 → zero 1 = true → exec (.recalibrateFull a) s =
      .next { s.cmdBegun 0x08 0x18 full with lamp := { s.lamp with calPhase := 1 } }) ∧
    (∀ g : LaneRef, s.takesCommand 0x38 → zero 2 = true → laneArg (n 1) = some g → s.top.state = .running → exec (.recalibrateGroup a) s =
      .next ((s.modLane g (fun l => { l with pending := true, demandAt := if l.pending then l.demandAt else s.top.now })).cmdOver 0x08 0x38 group 0 [])) ∧
    (∀ g : LaneRef, s.takesCommand 0x38 → zero 2 = true → laneArg (n 1) = some g → s.top.state ≠ .running → s.seq.grant = none → s.waitingLamps = [] → s.seq.flitWait = false →
      (∀ l ∈ s.plazaLanes g.plaza.val, l.running = false) → ∃ t, exec (.recalibrateGroup a) s = .next t ∧
        (t.lane g).running = true ∧ (t.lane g).pending = false ∧ (t.lane g).codes = (s.lane g).codes ∧ t.host.busy = true ∧ t.sh = s.sh) ∧
    (s.takesCommand 0x30 → zero 0 = true → s.sec.oldLive = false → s.sec.tenant = none →
      exec (.rotateKeys a) s = .next (s.cmdOver 0x0A 0x30 a 0 [])) ∧
    (s.takesCommand 0x30 → zero 0 = true → s.sec.oldLive = true → exec (.rotateKeys a) s =
      .next (let u := s.cmdWritten 0x0A a
             ({ u with host := { u.host with refuseCount := satAdd s.host.refuseCount 1, lastRefused := 0x0A } } : State).cmdDone 0x30 3 false [])) ∧
    (s.takesCommand 0x30 → zero 0 = true → s.sec.oldLive = false → s.sec.tenant.isSome = true → ∃ t, exec (.rotateKeys a) s = .next t ∧
      (∀ h, h < 16 → if (s.mem.get h).epoch then (t.mem.get h).keyEven = some (s.sec.draws + h) ∧ (t.mem.get h).keyOdd = (s.mem.get h).keyOdd
        else (t.mem.get h).keyOdd = some (s.sec.draws + h) ∧ (t.mem.get h).keyEven = (s.mem.get h).keyEven) ∧
      (s.top.state = .running → t.sec.rotateDue = true ∧ t.sec.epoch = s.sec.epoch ∧ t.host.busy = true) ∧
      (s.top.state = .loaded → t.sec.rotateDue = false ∧ t.sec.epoch = s.sec.epoch + 1 ∧ t.sec.oldLive = true ∧ t.host.busy = false ∧
        t.host.results.get 0 = lo (s.sec.epoch + 1) ∧ t.host.results.get 1 = hi (s.sec.epoch + 1) ∧
        ∀ h, h < 16 → (t.mem.get h).epoch = !(s.mem.get h).epoch ∧ (t.mem.get h).walking = true ∧ (t.mem.get h).walkUnit = 0)) ∧
    (s.sec.oldLive = true → (∀ h, h < 16 → (s.mem.get h).walking = false) → ∃ t, exec .rotateDone s = .next t ∧ t.sec = { s.sec with oldLive := false } ∧
      (∀ h, h < 16 → t.mem.get h = if (s.mem.get h).epoch then { s.mem.get h with keyEven := none } else { s.mem.get h with keyOdd := none }) ∧ t.hbm = s.hbm) ∧
    (s.sec.oldLive = false → exec .rotateDone s = .next s) ∧
    (s.takesCommand 0x18 → n 0 ≤ 0xFFF → zero 1 = true →
      ((s.pod sh pod).fused = true → exec (.retirePod a) s = .next (s.cmdOver 0x0B 0x18 a 0 [])) ∧
      ((s.pod sh pod).fused = false → s.pp.nvOpen = true → exec (.retirePod a) s =
        .next { s.cmdBegun 0x0B 0x18 a with top := { s.top with nv := s.top.nv ++ [.retire sh pod] } }) ∧
      ((s.pod sh pod).fused = false → s.pp.nvOpen = false → ∃ t, exec (.retirePod a) s = .next t ∧ t.host.status = 7 ∧ t.host.busy = false ∧ t.host.running = none ∧
        t.pp.nvBlocked = satAdd s.pp.nvBlocked 1 ∧ { t with host := s.host, ev := s.ev, out := s.out, pp := s.pp } = s)) ∧
    (s.takesCommand 0x30 → n 2 % 32 = 0 → (n 3 + 2 ^ 32 * n 4) % 4096 = 0 → zero 5 = true →
      (s.exportHolds a = false → exec (.exportJournal a) s = .next (s.cmdOver 0x0C 0x30 a 1 [])) ∧
      (s.exportHolds a = true → s.journalLeave = none → exec (.exportJournal a) s = .next (s.cmdOver 0x0C 0x30 a 5 [])) ∧
      (s.exportHolds a = true → s.journalLeave.isSome = true → exec (.exportJournal a) s = .next (s.cmdBegun 0x0C 0x30 a))) ∧
    (∀ key bs u, s.host.running = some (hostCmd 0x0C 0x30 a) → s.host.canSend = true → s.journalLeave = some key →
      s.readRing (n 0 + 2 ^ 32 * n 1) (if n 2 = 0 then 2 ^ 32 else n 2) env = (u, some bs) → exec (.journalExportDone env) s =
      .next ((({ u with host := { u.host with running := none } } : State).emit
        (.hostWrite (n 3 + 2 ^ 32 * n 4) (sealJournal key (n 0 + 2 ^ 32 * n 1) bs))).cmdDone 0x30 0 false [])) ∧
    (s.hostFree → op.toNat = 0 ∨ 12 < op.toNat → exec (.unknownCommand (.host op a)) s = .next ((s.cmdWritten op.toNat a).cmdDone 0 2 false []))

/-- R8, R177, R237, R355, R358, R398, R421, R429, R486: a register write of a wrong size or alignment is counted in BAR_ERRORS and writes nothing; a reserved offset and a block without power ignore a write; a write of a W1C count clears the bits that are 1; BAR2_TARGET ignores a reserved target;
JOURNAL_TAIL_HI and HOST_TAIL_HI apply both halves; FREEZE takes its bit; MODE is written in IDLE only; the slew registers are not written while RUNNING; FREQ_TARGET takes its code, bounded by the grade and 16, and lowers the shallot that CLK_SEL names. -/
def Obligations.RegisterWrites : Prop :=
  ∀ (off : BitVec 26) (v : Word) (h2 : Option Word) (pkg : Bool) (s : State), s.host.ready = true → s.host.linkUp = true →
    let host := fun (f : HostIf → HostIf) => { s with host := f s.host }
    let counted := host (fun h => { h with barErrors := satAdd h.barErrors 1 })
    let o := off.toNat
    let t := v.toNat % 2 ^ 16
    let arb := s.blv.selArb
    let k := arbIx arb.1 arb.2.1 arb.2.2
    (exec (.bar0BadAccess true) s = .next counted ∧ exec (.bar0BadAccess false) s = .next (counted.emit .completerAbort)) ∧
    (o % 4 ≠ 0 ∨ (h2.isSome = true ∧ o % 8 ≠ 0) → exec (.registerWrite off v h2) s = .next counted) ∧
    (o % 4 = 0 → blockAt o = none → exec (.registerWrite off v none) s = .next s) ∧
    (∀ b, o % 4 = 0 → blockAt o = some b → s.blockOpen b = false → exec (.registerWrite off v none) s = .next s) ∧
    (∀ h, o % 8 = 0 → h2 = some h → ∃ u, exec (.registerWrite off v none) s = .next u ∧ (u.host.ready = true → u.host.linkUp = true →
      ∀ up : BitVec 26, up.toNat = o + 4 → exec (.registerWrite off v h2) s = exec (.registerWrite up h none) u)) ∧
    (∀ b, blockAt o = some b → s.blockOpen b = true → o % 4 = 0 →
      (b = .hostif → inBlock o = 0x0C → exec (.registerWrite off v none) s = .next (host (fun h => { h with overrun := h.overrun &&& ~~~v }))) ∧
      (b = .hostif → inBlock o = 0x6C → exec (.registerWrite off v none) s = .next (host (fun h => { h with bar2Offset := v }))) ∧
      (b = .hostif → inBlock o = 0x08 → exec (.registerWrite off v none) s = .next s) ∧
      (b = .image → inBlock o = 0x1C → exec (.registerWrite off v none) s = .next { s with img := { s.img with refuseCount := v } }) ∧
      (b = .step → inBlock o = 0x28 → exec (.registerWrite off v none) s = .next { s with seq := { s.seq with tailLo := v } }) ∧
      (b = .event → inBlock o = 0x08 → exec (.registerWrite off v none) s = .next { s with ev := { s.ev with hostTailLo := v } }) ∧
      (b = .pwr → inBlock o = 0x00 → exec (.registerWrite off v none) s = .next { s with pp := { s.pp with clkSel := v &&& 7 } }) ∧
      (∀ m, b = .mem m → inBlock o = 0x10 → exec (.registerWrite off v none) s = .next (s.modMem m (fun x => { x with ue := x.ue &&& ~~~v }))) ∧
      (b = .top ∨ b = .sec → exec (.registerWrite off v none) s = .next s)) ∧
    (s.blockOpen .step = true → exec (.journalTailWrite v) s =
      .next { s with seq := { s.seq with tail := BitVec.ofNat 64 (v.toNat * 2 ^ 32 + s.seq.tailLo.toNat) } }) ∧
    exec (.hostTailWrite v) s = .next { s with ev := { s.ev with hostTail := BitVec.ofNat 64 (v.toNat * 2 ^ 32 + s.ev.hostTailLo.toNat) } } ∧
    (s.blockOpen .hostif = true → exec (.bar2TargetWrite v) s = .next (if t < 0x1000 ∨ t = 0xFFFE then
      host (fun h => { h with bar2Target := BitVec.ofNat 32 (v.toNat / 2 ^ 31 * 2 ^ 31 + t) }) else s)) ∧
    (s.blockOpen .pbl = true → arbExists arb.1 arb.2.1 arb.2.2 = true →
      (∀ f, v.getLsbD 0 = false → arb.1 = 2 → s.net.egress = [f] → f.sub / 8 = (arb.2.1 - 24) * 8 + arb.2.2 → (s.net.ports.get f.sub).up = true →
        ∃ t, exec (.freezeWrite v) s = .next t ∧ t.net.egress = [] ∧ t.out = s.out ++ [f.out] ∧ (t.arb k).freeze = false) ∧
      (v.getLsbD 0 = false ∨ (s.arb k).freeze = true ∨ s.top.state ≠ .running → v.getLsbD 0 = true ∨ arb.1 ≠ 2 ∨ s.net.egress = [] →
        exec (.freezeWrite v) s = .next (s.modArb k (fun b => { b with freeze := v.getLsbD 0 }))) ∧
      (v.getLsbD 0 = true → (s.arb k).freeze = false → s.top.state = .running → exec (.freezeWrite v) s =
        .next ((s.modArb k (fun b => { b with freeze := true })).raise 0x2008 arb.2.1 arb.2.2
          (leBytes 2 (arb.1 * 2 ^ 14 + arb.2.1 * 2 ^ 9 + arb.2.2))))) ∧
    (s.blockOpen .pbl = true → arbExists arb.1 arb.2.1 arb.2.2 = false → exec (.freezeWrite v) s = .next s) ∧
    (let n := s.pp.clkSel.toNat % 8
     let u := s.modSh n (fun h => { h with clk := { h.clk with target := v &&& 0x7F } })
     let top := if s.top.identity.toNat / 2 ^ 24 % 16 = 1 then 72 else 60
     let code := max 16 (min top (v.toNat % 128))
     ((s.shal n).powered = false → exec (.freqTargetWrite v) s = .next u) ∧
     ((s.shal n).powered = true → exec (.freqTargetWrite v) s = .next (u.lowerTo n code 128))) ∧
    (s.blockOpen .cond = true → (s.top.state ≠ .idle → exec (.modeWrite v) s = .next s) ∧
      (s.top.state = .idle → ∃ u, exec (.modeWrite v) s = .next u ∧ u.cond.mode = v &&& 1 ∧
        u.cond.comparing = (v.getLsbD 0 && s.cond.c0.state.runs && s.cond.c1.state.runs) ∧
        { u with cond := { u.cond with mode := s.cond.mode, comparing := s.cond.comparing } } = s)) ∧
    (s.top.state = .running → exec (.slewBudgetWrite pkg v) s = .next s) ∧
    (s.top.state ≠ .running → exec (.slewBudgetWrite false v) s = .next { s with pp := { s.pp with slew := v &&& 0x0FFF01FF } } ∧
      exec (.slewBudgetWrite true v) s = .next { s with pp := { s.pp with pkgSlew := v &&& 0x0FFF0FFF } })

/-- R192, R283, R358, R359: BAR2. With ENABLE 0, a missing or SESSION region, or a state that closes it, a read returns zeros and a write is dropped, each counted once. The staging target reads and writes the bytes of the incoming half at
BAR2_OFFSET MiB plus the offset; what passes the end reads zero or is dropped, and counts. A region of the image is read in LOADED, RUNNING and FAULTED and written in LOADED only. -/
def Obligations.Bar2Window : Prop :=
  ∀ (off : BitVec 36) (len : Nat) (data : List Byte) (env : MemEnv) (s : State), s.host.ready = true → s.host.linkUp = true → s.blockOpen .hostif = true →
    let target := s.host.bar2Target.toNat % 2 ^ 16
    let enabled := s.host.bar2Target.getLsbD 31
    let o := s.host.bar2Offset.toNat * 2 ^ 20 + off.toNat
    let drop := fun (u : State) => u.bar2Drop
    let zeros := List.replicate len (0 : Byte)
    let closed := enabled = false ∨ (target ≠ 0xFFFE ∧ (s.region target = none ∨ (∃ r, s.region target = some r ∧ r.session = true) ∨
      (s.top.state ≠ .loaded ∧ s.top.state ≠ .running ∧ s.top.state ≠ .faulted))) ∨
      (target = 0xFFFE ∧ s.top.state ≠ .idle ∧ s.top.state ≠ .loaded ∧ s.top.state ≠ .running)
    let staging := enabled = true ∧ target = 0xFFFE ∧ (s.top.state = .idle ∨ s.top.state = .loaded ∨ s.top.state = .running)
    let half := s.img.stagingMiB * 2 ^ 20
    (drop s).host.bar2Drops = satAdd s.host.bar2Drops 1 ∧
    (closed → (0 < len → exec (.bar2Read off len env) s = .next ((drop s).emit (.readData zeros))) ∧
      (data ≠ [] → exec (.bar2Write off data) s = .next (drop s))) ∧
    (staging → o + len ≤ half → (∀ f ∈ env.faults, f.fails = false) → exec (.bar2Read off len env) s = .next (s.emit (.readData (s.img.incoming.getRun o len)))) ∧
    (staging → o < half → 0 < len → (∃ f ∈ env.faults, f.fails = true) → exec (.bar2Read off len env) s = .next (s.emit .completerAbort)) ∧
    (staging → o + data.length ≤ half → exec (.bar2Write off data) s = .next { s with img := s.img.setIncoming (s.img.incoming.setRun o data) }) ∧
    (staging → half ≤ o → 0 < len → data ≠ [] → exec (.bar2Read off len env) s = .next ((drop s).emit (.readData zeros)) ∧
      ∃ t, exec (.bar2Write off data) s = .next t ∧ t.img.incoming = s.img.incoming ∧ t.host.bar2Drops = satAdd s.host.bar2Drops 1) ∧
    (∀ r, enabled = true → target ≠ 0xFFFE → s.region target = some r → r.session = false → s.top.state = .loaded ∨ s.top.state = .running ∨ s.top.state = .faulted →
      (∀ u bs, o + len ≤ r.size → s.readRegion r target o len 24 env false = (u, some bs) → exec (.bar2Read off len env) s =
        .next (u.emit (.readData bs))) ∧
      (∀ u, o + len ≤ r.size → s.readRegion r target o len 24 env false = (u, none) → exec (.bar2Read off len env) s = .next (u.emit .completerAbort)) ∧
      (s.top.state ≠ .loaded → data ≠ [] → exec (.bar2Write off data) s = .next (drop s)) ∧
      (s.top.state = .loaded → data.length = 64 → o % 64 = 0 → o + 64 ≤ r.size → r.fits → ∃ t, exec (.bar2Write off data) s = .next t ∧
        (∀ i, i < 64 → memGet t.hbm (hbmAddr (r.unit (o / 64)).1 (64 * (r.unit (o / 64)).2) + i) = data[i]?) ∧ SameOutside [r.unit (o / 64)] s t ∧
        t.host = s.host))

/-- R352, R353, R354, R369, R377, R378, R491: the host link. The function becomes ready after PERST# and its power; the link comes up with its width and rate; a link-down or PERST# resets the function with the RW registers of HOSTIF and raises the loss once; D3hot holds back requests;
a hot reset keeps the link; IDE keys are drawn inside. In PARKED a rising PERST# has the effect of UNPARK. -/
def Obligations.HostLink : Prop :=
  ∀ (flit : Bool) (width rate : BitVec 4) (stream : Fin 5) (s : State),
    let host := fun (f : HostIf → HostIf) => { s with host := f s.host }
    let still := fun (h : HostIf) => h.windows.mapAll (fun _ w => { w with moving := false })
    let cleared := fun (h : HostIf) =>
      let g := { h with opcode := 0, args := {}, refuseCount := 0, bar2Target := 0, bar2Offset := 0, windowWaitUs := 0, windowSel := 0 }
      { g with msix := {}, pba := 0, d3hot := false, ideLink := false, ideSel := 0, ideKeys := {}, windows := still h }
    let down := fun (h : HostIf) => { cleared h with linkUp := false, linkFlit := false, linkWidth := 0, linkRate := 0, linkLost := h.linkLost || h.linkUp }
    (¬ (s.top.state = .parked ∧ s.host.perstHigh = false ∧ s.host.running = none) → exec .perstDeassert s = .next (host (fun h => { h with perstHigh := true }))) ∧
    (s.top.state = .parked → s.host.perstHigh = false → s.host.running = none → exec .perstDeassert s =
      .next { host (fun h => { h with perstHigh := true }) with top := { s.top with state := .bringup, phase := 2, phase3 := false, phase4 := false, unparking := true, parking := false } }) ∧
    (s.host.perstHigh = true → s.hostPort = true → s.host.lateWords = [] → exec .functionReady s = .next (host (fun h => { h with ready := true }))) ∧
    (s.host.perstHigh = false ∨ s.hostPort = false → exec .functionReady s = .next s) ∧
    (s.host.linkUp = false → exec .pcieLinkDown s = .next (host down) ∧ exec .perstAssert s = .next (host (fun h => { down h with perstHigh := false, ready := false }))) ∧
    (s.host.linkUp = true → s.top.parking = true → exec .pcieLinkDown s = .next (host down)) ∧
    (s.host.linkUp = true → s.top.parking = false → exec .pcieLinkDown s = .next ((host down).raise 0x6001 24 0 []) ∧
      ∃ t, exec .perstAssert s = .next t ∧ t.host.perstHigh = false ∧ t.host.ready = false ∧ t.host.linkUp = false ∧ t.host.linkLost = true ∧ t.host.opcode = 0 ∧
        t.host.bar2Target = 0 ∧ t.host.msix = {} ∧ t.host.overrun = s.host.overrun ∧ t.host.running = s.host.running ∧ t.host.windows = still s.host ∧
        { t with host := s.host, ev := s.ev, out := s.out } = s) ∧
    (s.host.perstHigh = true → s.hostPort = true → s.host.linkUp = false → ∃ t, exec (.pcieLinkUp flit width rate) s = .next t ∧
      t.host.linkUp = true ∧ t.host.linkFlit = flit ∧ t.host.linkWidth = width ∧ t.host.linkRate = rate ∧ t.host.linkLost = false ∧
      (t.ev.head = if s.host.linkLost then s.ev.head + 1 else s.ev.head) ∧ { t with host := s.host, ev := s.ev, out := s.out } = s) ∧
    (s.host.linkUp = true → exec (.pcieLinkUp flit width rate) s = .next s) ∧
    exec .pcieHotReset s = .next (host cleared) ∧
    (s.host.ready = true → exec .d3hotEntry s = .next (host (fun h => { h with d3hot := true, windows := still h }))) ∧
    (∃ t, exec .d3hotExit s = .next t ∧ t.host.d3hot = false ∧ { t with host := s.host, out := s.out } = s ∧
      (s.host.lateWords = [] → (∀ v, v < 64 → s.host.pba.getLsbD v = true → s.host.masked v = true ∨ s.host.ready = false ∨ s.host.linkUp = false) → t = host (fun h => { h with d3hot := false }))) ∧
    (s.host.linkUp = true → s.sec.trngFailed = false → exec (.ideKm stream) s = .next
      { host (fun h =>
          let sel := if stream.val = 0 then h.ideSel else h.ideSel ||| BitVec.ofNat 4 (2 ^ (stream.val - 1))
          { h with ideLink := h.ideLink || decide (stream.val = 0), ideSel := sel, ideKeys := h.ideKeys.set stream.val s.sec.draws })
        with sec := { s.sec with draws := s.sec.draws + 1 } }) ∧
    (s.host.linkUp = false ∨ s.sec.trngFailed = true → exec (.ideKm stream) s = .next s)

/-- R205, R354, R360, R361, R362, R363, R455, R457: host windows. A poll of an active window starts its transfer when the word has reached its count, and else waits one more microsecond, raised once at 1 ms. A pull lands the bytes in the region, journals them and writes the consumer word;
a sealed window that fails its checks counts and ends the run in LOADED. A push writes the bytes, then the producer word, and signals its vector. -/
def Obligations.HostWindows : Prop :=
  ∀ (w : Fin 64) (word : Word64) (data header : List Byte) (tags : List Word64) (x : Window) (r : Region) (s : State),
    let q := s.host.windows.get w.val
    let mod := fun (u : State) (f : WindowState → WindowState) => { u with host := { u.host with windows := u.host.windows.mod w.val f } }
    let one := mod s (fun y => { y with waited := y.waited + 1 })
    let waits := { one with host := { one.host with windowWaitUs := satAdd s.host.windowWaitUs 1 } }
    let late := (mod waits (fun y => { y with waitRaised := true })).raise 0x6003 24 w.val [BitVec.ofNat 8 w.val]
    let outTime := s.top.state = .running ∧ s.seq.phase = .commit ∧ s.seq.stalled = []
    (s.pullTime = true → (s.activeWindow w.val false).isSome = true → q.moved = false → q.moving = false →
      (s.windowsMay = true → q.n.toNat < word.toNat → exec (.inputWindowPoll w word) s = .next (mod s (fun y => { y with moving := true }))) ∧
      (s.windowsMay = false ∨ word.toNat ≤ q.n.toNat → exec (.inputWindowPoll w word) s = .next (if 1000 ≤ q.waited ∧ q.waitRaised = false then late else waits))) ∧
    (s.pullTime = false ∨ s.activeWindow w.val false = none ∨ q.moved = true ∨ q.moving = true → exec (.inputWindowPoll w word) s = .next s) ∧
    (s.activeWindow w.val false = some x → s.pullTime = true → s.windowsMay = true → q.moving = true → data.length = x.size → x.extGcm = false → s.region x.region = some r →
      HeldAct.window w.val ∉ s.seq.heldActs →
      let landed := ((s.writeRegion r x.region x.regionOffset data).1).recordInput s.seq.current 2 w.val 0 data
      (landed.seq.stalled = [] → landed.host.canSend = true → exec (.inputWindowPullDone w data header tags) s =
        .next (mod (landed.emit (.hostWrite (x.seqAddr + 8) (leBytes 8 (q.n + 1).toNat))) (fun y => { y with n := q.n + 1, moving := false, moved := true }))) ∧
      (landed.seq.stalled ≠ [] → exec (.inputWindowPullDone w data header tags) s =
        .next { landed with seq := { landed.seq with heldActs := landed.seq.heldActs ++ [.window w.val] } })) ∧
    (s.activeWindow w.val false = some x → s.pullTime = true → s.windowsMay = true → q.moving = true → data.length = x.size → x.extGcm = true →
      HeldAct.window w.val ∉ s.seq.heldActs → s.openWindow w.val q.n.toNat data header tags = none → ∃ t, exec (.inputWindowPullDone w data header tags) s = .next t ∧
      t.top.state = .loaded ∧ t.sec.integrityFails = satAdd s.sec.integrityFails 1 ∧ t.seq.committed = s.seq.committed ∧ (t.host.windows.get w.val).n = q.n ∧ t.hbm = s.hbm) ∧
    (outTime → (s.activeWindow w.val true).isSome = true → q.moved = false → q.moving = false →
      (s.windowsMay = true → q.n.toNat ≤ word.toNat → exec (.outputWindowPoll w word) s = .next (mod s (fun y => { y with moving := true }))) ∧
      (s.windowsMay = false ∨ word.toNat < q.n.toNat → exec (.outputWindowPoll w word) s = .next (if 1000 ≤ q.waited ∧ q.waitRaised = false then late else waits))) ∧
    (¬ outTime → exec (.outputWindowPoll w word) s = .next s) ∧
    (∀ u bs, s.activeWindow w.val true = some x → s.top.state = .running → s.seq.phase = .commit → s.windowsMay = true → q.moving = true → x.extGcm = false →
      s.windowBytes x = (u, some bs) →
      let v := mod ((u.emit (.hostWrite x.addr bs)).emit (.hostWrite x.seqAddr (leBytes 8 (q.n.toNat + 1)))) (fun y => { y with n := y.n + 1, moving := false, moved := true })
      exec (.outputWindowPushDone w) s = .next (if x.irq then v.msix x.msix else v)) ∧
    (s.windowsMay = false → exec (.inputWindowPullDone w data header tags) s = .next s ∧ exec (.outputWindowPushDone w) s = .next s) ∧
    (s.activeWindow w.val true = none → exec (.outputWindowPushDone w) s = .next s)

/-- R22, R66, R67, R89, R90, R163, R164, R167, R168, R169, R181, R371, R405: the end of a step. Once drained, an overflow fails the step, a window miss of the first execution asks for a wide one, a hardware fault for a recovery up to three times, and all of them go to the restore; else the commit begins. The restore writes back every checkpoint row and
runs the step again at least 200 ns ahead, or ends the run in LOADED uncommitted. A completed commit advances STEP_COMMITTED and STEP_CURRENT and reaches the barrier, or LOADED at an armed stop, after the wire tests of suspect groups. A record that waits under STALL is written when there is room, and then what waited for it
happens: the end of a failed step, the scale tracker of a commit, a consumer word, an acknowledgement. A decided switch-over comes before the boundary (R22).
R163, R170, R171, R172, R173: the start of a step. A ready package outside a domain fixes the start at least 200 ns ahead; under EXT_BARRIER it waits for SYNC_IO and starts 1 µs after it; in a domain it sends READY with its time and, with the READY of every other member,
starts at the latest time plus D. READY goes out again while it waits, and a package that waits 10 ms raises it. -/
def Obligations.StepEndsAndReadiness : Prop :=
  (
  ∀ (twins : List TwinReport) (s : State) (k : HwFault) (rec : JRecord) (since : Nat),
    let e := s.seq.exe
    let atDrain := s.top.state = .running ∧ s.seq.phase = .drain
    let atRestore := s.top.state = .running ∧ s.seq.phase = .restore ∧ HeldAct.failed ∉ s.seq.heldActs
    let failRoom := s.seq.replay = true ∨ s.journalWraps = true ∨ s.seq.head.toNat + 64 ≤ s.seq.tail.toNat + s.ringSize
    let atCommit := s.top.state = .running ∧ s.seq.phase = .commit ∧ s.seq.stalled = [] ∧ s.windowsMoved true = true
    let drained := e.ending = none ∧ e.flights = [] ∧ s.loadsDone = true
    let faults := fun (m : BitVec 4) => ∃ n, n < 8 ∧ (s.shal n).placed = true ∧ (s.shal n).arithStatus &&& m ≠ 0
    (¬ atDrain → exec (.drainComplete twins) s = .next s) ∧
    (atDrain → e.ending = none → ¬ drained → exec (.drainComplete twins) s = .next s) ∧
    (atDrain → e.ending = some (.hardware k) → s.seq.recoveries < 3 → ∃ t, exec (.drainComplete twins) s = .next t ∧
      t.seq.phase = .restore ∧ t.seq.exe = { e with verdict := some .recover } ∧ t.seq.recoveryCount = satAdd s.seq.recoveryCount 1 ∧
      t.seq.failInfo = (0, 0) ∧ { t with seq := s.seq } = s) ∧
    (atDrain → e.ending = some (.hardware k) → 3 ≤ s.seq.recoveries → ∃ t, exec (.drainComplete twins) s = .next t ∧
      t.seq.phase = .restore ∧ t.seq.exe = { e with verdict := some (.fail 2) } ∧ { t with seq := s.seq } = s) ∧
    (atDrain → drained → faults 6 ∨ e.failed = true → ∃ t, exec (.drainComplete twins) s = .next t ∧
      t.seq.phase = .restore ∧ t.seq.exe = { e with verdict := some (.fail 1) } ∧ { t with seq := s.seq, cond := s.cond } = s) ∧
    (atDrain → drained → ¬ faults 6 → e.failed = false → s.cond.twins = 0 → faults 1 → e.second = false → ∃ t, exec (.drainComplete twins) s = .next t ∧
      t.seq.phase = .restore ∧ t.seq.exe.verdict = some .rerun ∧ t.seq.exe.missCause = true ∧ t.seq.exe.raised = s.seq.raises.map Prod.fst ∧
      { t with seq := s.seq, cond := s.cond } = s) ∧
    (atDrain → drained → ¬ faults 6 → e.failed = false → s.cond.twins = 0 → (e.second = true ∨ (¬ faults 1 ∧ s.seq.raises = [])) →
      s.activeWindows true = [] → s.seq.replay = false → ∃ t, exec (.drainComplete twins) s = .next t ∧
      t.seq.phase = .commit ∧ t.seq.committed = s.seq.committed ∧ t.seq.current = s.seq.current ∧ t.top = s.top ∧ t.sh = s.sh ∧
      ∀ j o, s.seq.observers.get j = o → o.entry = none → t.seq.observers.get j = o) ∧
    (¬ atRestore → exec .restoreDone s = .next s) ∧
    (atRestore → e.verdict = some .rerun → ∃ t, exec .restoreDone s = .next t ∧
      t.seq.phase = .start ∧ t.seq.startAt = some (s.top.now + 200) ∧ t.seq.exe.wide = true ∧ t.seq.exe.second = true ∧ t.seq.exe.recovery = false ∧
      t.seq.exe.offs = e.offs ∧ t.seq.exe.sats = {} ∧ t.seq.exe.obs = {} ∧ t.seq.committed = s.seq.committed ∧ t.seq.current = s.seq.current ∧ t.top = s.top ∧
      ∀ n p, n < 8 → (s.shal n).placed = true → (s.shal n).pods.wf = true → (s.pod n p).placed = true →
        (t.pod n p).store = (s.pod n p).ckpt.foldl (fun (x : Tbl Row) (c : Nat × Row) => x.set c.1 c.2) (s.pod n p).store ∧ (t.pod n p).pend = []) ∧
    (atRestore → e.verdict = some .recover → s.img.image = none → ∃ t, exec .restoreDone s = .next t ∧
      t.seq.phase = .start ∧ t.seq.startAt = some (s.top.now + 200) ∧ t.seq.recoveries = s.seq.recoveries + 1 ∧ t.seq.exe.wide = e.wide ∧ t.seq.exe.recovery = true ∧
      t.seq.exe.second = e.second ∧ t.seq.exe.offs = e.offs ∧ t.seq.committed = s.seq.committed ∧ t.top = s.top) ∧
    (∀ cause, atRestore → e.verdict = some (.fail cause) → s.seq.stalled = [] → ¬ failRoom → ∃ t, exec .restoreDone s = .next t ∧
      t.top = s.top ∧ t.seq.phase = .restore ∧ t.seq.heldActs = s.seq.heldActs ++ [.failed] ∧ t.seq.stalled.length = 1) ∧
    (∀ cause, atRestore → e.verdict = some (.fail cause) → s.seq.stalled = [] → failRoom → s.sec.rotateDue = false → ∃ t, exec .restoreDone s = .next t ∧
      t.top = { s.top with state := .loaded } ∧ t.seq.phase = .idle ∧ t.seq.lastResult = 2 ∧ t.seq.committed = s.seq.committed ∧ t.seq.current = s.seq.current ∧
      t.seq.stopAt = none ∧ t.seq.recoveries = 0) ∧
    (¬ atCommit → exec .commitComplete s = .next s) ∧
    (atCommit → ∃ t, exec .commitComplete s = .next t ∧
      t.seq.committed = s.seq.current ∧ t.seq.current = s.seq.current + 1 ∧ t.seq.lastResult = 1 ∧ t.seq.recoveries = 0 ∧ t.seq.exe = {} ∧ t.seq.tallySave = [] ∧
      (∀ h, (t.mem.get h).undo = []) ∧
      (∀ w, (t.host.windows.get w).moved = false ∧ (t.host.windows.get w).waited = 0 ∧ (t.host.windows.get w).n = (s.host.windows.get w).n) ∧
      (s.testsDue = true → t.top = s.top ∧ t.seq.phase = .barrier ∧ t.seq.boundaryDue = true) ∧
      (s.cond.switching.isSome = true → t.top = s.top ∧ t.seq.phase = .barrier ∧ t.seq.boundaryDue = true) ∧
      (∀ j, s.testsDue = false → s.cond.switching = none → s.seq.stopAt = some j → j.toNat ≤ (s.seq.current + 1).toNat → t.top.state = .loaded ∧ t.seq.phase = .idle ∧ t.seq.stopAt = none) ∧
      (s.seq.stopAt = none → s.seq.replay = false → s.seq.leave = false → t.top = s.top ∧ (t.seq.phase = .barrier ∨ t.seq.phase = .recess))) ∧
    (s.seq.stallSince = none → exec .journalStallResume s = .next s) ∧
    (s.seq.stallSince = some since → s.seq.stalled = [rec] → s.journalRoom rec = true → ∃ t, exec .journalStallResume s = .next (s.seq.heldActs.foldl State.heldAct t) ∧
      t.seq.stalled = [] ∧ t.seq.heldActs = [] ∧ t.seq.stallSince = none ∧ t.seq.waitUs = satAdd s.seq.waitUs ((s.top.now - since) / 1000) ∧
      t.seq.ring.getLast? = some (s.seq.head.toNat, { rec with seq := s.seq.jseq }) ∧ t.seq.jseq = s.seq.jseq + 1 ∧
      t.seq.head = BitVec.ofNat 64 (s.seq.head.toNat + rec.size)) ∧
    (s.seq.stallSince = some since → s.seq.stalled = [rec] → s.journalRoom rec = false → ∃ t, exec .journalStallResume s = .next t ∧
      t.seq.stalled = [rec] ∧ t.seq.ring = s.seq.ring ∧ t.seq.waitUs = satAdd s.seq.waitUs ((s.top.now - since) / 1000) ∧ { t with seq := s.seq } = s)) ∧
  (
  ∀ (member : Fin 2048) (step tm : Word64) (s : State) (i : Image) (d : Nat × Nat × Nat),
    let fixed := fun (u : State) (at_ : Nat) => { u with seq := { u.seq with phase := .start, startAt := some at_ } }
    let noDomain := (s.img.image.bind (fun j => j.domain)) = none
    let inDomain := s.img.image = some i ∧ i.domain = some d
    let own := { s with seq := { s.seq with ownReady := some s.ptpTime } }
    let heard := { s with seq := { s.seq with ready := s.seq.ready.filter (fun (r : Nat × Nat) => r.1 != member.val) ++ [(member.val, tm.toNat)] } }
    let missing := ∃ m, m < d.1 ∧ m ≠ d.2.1 ∧ ∀ r ∈ heard.seq.ready, r.1 ≠ m
    let begins := fun (t : State) (at_ : Nat) => if at_ < s.ptpTime then t.seq.startAt = some (s.top.now + 200) ∧ t.seq.domainLate = satAdd s.seq.domainLate 1
      else t.seq.startAt = some (max ((at_ : Int) - s.net.timeOffset).toNat (s.top.now + 200)) ∧ t.seq.domainLate = s.seq.domainLate
    (s.mayBeReady = false → exec .packageReady s = .next s) ∧
    (∀ t0, s.mayBeReady = true → s.seq.startAt = some t0 → noDomain ∨ s.seq.startTimed = false ∨ s.top.now ≤ t0 →
      exec .packageReady s = .next (fixed s (max t0 (s.top.now + 200)))) ∧
    (∀ t0, s.mayBeReady = true → s.seq.startAt = some t0 → inDomain → s.seq.startTimed = true → t0 < s.top.now →
      exec .packageReady s = .next (fixed ({ s with seq := { s.seq with domainLate := satAdd s.seq.domainLate 1 } }.raise 0x0013 31 0 []) (max t0 (s.top.now + 200)))) ∧
    (s.mayBeReady = true → s.seq.startAt = none → s.seq.replay = true ∨ (s.extBarrier = false ∧ noDomain) →
      exec .packageReady s = .next (fixed s (s.top.now + 200))) ∧
    (s.mayBeReady = true → s.seq.startAt = none → s.seq.replay = false → s.extBarrier = true →
      noDomain ∨ (s.schedReady s.seq.current = true ∧ s.storesDone = true) → exec .packageReady s = .next own) ∧
    (s.mayBeReady = true → s.seq.startAt = none → s.seq.replay = false → inDomain →
      s.schedReady s.seq.current = false ∨ s.storesDone = false → exec .packageReady s = .next s) ∧
    (s.mayBeReady = true → s.seq.startAt = none → s.seq.replay = false → s.extBarrier = false → inDomain → s.schedReady s.seq.current = true → s.storesDone = true →
      (∃ m, m < d.1 ∧ m ≠ d.2.1 ∧ ∀ r ∈ s.seq.ready, r.1 ≠ m) → exec .packageReady s = .next (own.sendReady s.ptpTime)) ∧
    (s.top.state = .running → s.seq.replay = false → s.extBarrier = false → inDomain → member.val < d.1 → member.val ≠ d.2.1 → step = s.nextStep →
      (missing ∨ s.seq.ownReady = none ∨ s.seq.phase ≠ .barrier → exec (.readyMsg member step tm) s = .next heard) ∧
      (∀ o, ¬ missing → s.seq.ownReady = some o → s.seq.phase = .barrier → ∃ t, exec (.readyMsg member step tm) s = .next t ∧
        t.seq.phase = .start ∧ t.seq.ready = [] ∧ begins t (max o (maxOf (heard.seq.ready.map Prod.snd)) + d.2.2 * 1000) ∧ t.sh = s.sh ∧ t.hbm = s.hbm)) ∧
    (s.top.state ≠ .running ∨ s.seq.replay = true ∨ s.extBarrier = true ∨ step ≠ s.nextStep → exec (.readyMsg member step tm) s = .next s) ∧
    (∀ o, s.seq.ownReady = some o → s.top.state = .running → s.seq.phase = .barrier ∨ s.seq.phase = .start → s.extBarrier = false →
      exec .readyResend s = .next (s.sendReady o)) ∧
    (s.seq.ownReady = none → exec .readyResend s = .next s) ∧
    (s.top.state = .running → s.seq.phase = .barrier → s.extBarrier = false → inDomain → s.seq.ownReady.isSome = true →
      exec .domainWaitTimer s = .next (s.raise 0x0014 31 0 [])) ∧
    (s.seq.ownReady = none → exec .domainWaitTimer s = .next s) ∧
    (s.extBarrier = true → s.top.state = .running → s.seq.phase = .barrier → s.seq.ownReady.isSome = true →
      exec .syncIoRise s = .next (fixed s (s.top.now + 1000))) ∧
    (s.extBarrier = false ∨ s.seq.ownReady = none → exec .syncIoRise s = .next s))

/-- R379, R380, R381, R382, R383, R385, R389: the conductors' inputs and outputs. An arrival takes the next ISEQ and is due 160 cycles on; each running conductor consumes its copy then, or late on arrival, which is counted. A stage accepts from the higher claim each OSEQ in its turn, holds one ahead of it, and discards held outputs
that are no longer above it; it holds a fresh output of the lower claim, up to 64 of them, and ends in FAULTED at one more; a stale one of the old active is counted. A release accepts the held output whose turn it is. -/
def Obligations.ConductorTraffic : Prop :=
  ∀ (plaza : PlazaNo) (iseq : Word64) (late0 late1 c : Bool) (stage : Fin 40) (oseq : Word) (payload : List Byte) (s : State) (i : CondInput),
    let q := s.cond
    let o : CondOut := { stage := stage.val, oseq := oseq, payload := payload }
    let x := q.stages.get stage.val
    let above := fun (a b : Word) => 1 ≤ (a - b).toNat ∧ (a - b).toNat < 2 ^ 31
    let fresh := ∀ l, x.last = some l → above oseq l
    let turn := match x.last with | none => 0 | some l => l + 1
    let leads := if c then x.claim0.toNat < x.claim1.toNat else x.claim1.toNat < x.claim0.toNat
    let exist := stage.val < 3 ∨ 8 ≤ stage.val
    let me := fun (b : Bool) (u : Cond) => if b then u.c1 else u.c0
    let sent := fun (t : State) => (if c then t.cond.c0 = q.c0 ∧ t.cond.c1 = { q.c1 with issued := q.c1.issued ++ [o] }
      else t.cond.c0 = { q.c0 with issued := q.c0.issued ++ [o] } ∧ t.cond.c1 = q.c1)
    let elsewhere := fun (t : State) => ∀ k, k ≠ stage.val → t.cond.stages.get k = q.stages.get k
    let quiet := fun (t : State) => { t with cond := s.cond } = s
    let ready := exist ∧ (me c q).state.runs = true ∧ q.comparing = false
    exec (.inputStageArrival plaza) s = .next { s with cond := { q with
      iseq := q.iseq + 1, inputs := q.inputs ++ [{ iseq := q.iseq, plaza := plaza.val, due := s.top.now - s.top.timeBase + 160 }] } } ∧
    (q.inputs.find? (fun j => j.iseq == iseq) = some i → s.top.now - s.top.timeBase < i.due → exec (.inputDelivery iseq late0 late1) s = .next s) ∧
    (q.inputs.find? (fun j => j.iseq == iseq) = some i → i.due ≤ s.top.now - s.top.timeBase → i.got0 = false → i.got1 = false → late0 = false → late1 = false → q.c0.state.runs = true → q.c1.state.runs = true → ∃ t,
      exec (.inputDelivery iseq late0 late1) s = .next t ∧ t.cond.c0 = { q.c0 with consumed := q.c0.consumed ++ [iseq] } ∧
      t.cond.c1 = { q.c1 with consumed := q.c1.consumed ++ [iseq] } ∧ (∀ j ∈ t.cond.inputs, j.iseq ≠ iseq) ∧ quiet t) ∧
    (q.inputs.find? (fun j => j.iseq == iseq) = some i → i.due ≤ s.top.now - s.top.timeBase → (if c then i.got1 else i.got0) = false → (me c q).state.runs = true → ∃ t,
      exec (.lateInputCopy iseq c) s = .next t ∧ me c t.cond = { me c q with consumed := (me c q).consumed ++ [iseq], inputLate := true } ∧
      me (!c) t.cond = me (!c) q ∧ t.cond.lateCount = satAdd q.lateCount 1 ∧ quiet t) ∧
    (q.inputs.find? (fun j => j.iseq == iseq) = some i → i.due ≤ s.top.now - s.top.timeBase → (me c q).state.runs = false → ∃ t u,
      exec (.inputDelivery iseq late0 late1) s = .next t ∧ exec (.lateInputCopy iseq c) s = .next u ∧ me c t.cond = me c q ∧ me c u.cond = me c q ∧ u.cond.lateCount = q.lateCount) ∧
    (q.inputs.find? (fun j => j.iseq == iseq) = none → exec (.inputDelivery iseq late0 late1) s = .next s ∧ exec (.lateInputCopy iseq c) s = .next s) ∧
    (¬ exist ∨ ((me c q).state.runs = false ∧ x.oldActive ≠ some c) → exec (.outputArrival stage c oseq payload) s = .next s) ∧
    (ready → leads → oseq = turn → ∃ t, exec (.outputArrival stage c oseq payload) s = .next t ∧ sent t ∧ elsewhere t ∧ quiet t ∧
      (t.cond.stages.get stage.val).last = some oseq ∧ (t.cond.stages.get stage.val).held = x.held.filter (fun h => oseqAbove h.2.oseq oseq)) ∧
    (ready → leads → oseq ≠ turn → ¬ fresh → ∃ t, exec (.outputArrival stage c oseq payload) s = .next t ∧ sent t ∧ t.cond.stages = q.stages ∧ quiet t) ∧
    (ready → (¬ leads ∨ oseq ≠ turn) → fresh → x.held.length < 64 → ∃ t, exec (.outputArrival stage c oseq payload) s = .next t ∧ sent t ∧ elsewhere t ∧ quiet t ∧
      t.cond.stages.get stage.val = { x with held := x.held ++ [(c, o)], lagged := x.lagged || decide (16 ≤ x.held.length + 1) }) ∧
    (ready → (¬ leads ∨ oseq ≠ turn) → fresh → 64 ≤ x.held.length → ∃ t, exec (.outputArrival stage c oseq payload) s = .next t ∧ t.top.state = .faulted ∧ t.cond.stages = q.stages) ∧
    (ready → ¬ leads → ¬ fresh → ∃ t, exec (.outputArrival stage c oseq payload) s = .next t ∧ sent t ∧ t.cond.stages = q.stages ∧ quiet t ∧
      t.cond.stale = (if x.oldActive = some c then satAdd q.stale 1 else q.stale)) ∧
    (∀ h, x.nextHeld = some h → q.comparing = false → ∃ t, exec (.heldRelease stage) s = .next t ∧ (t.cond.stages.get stage.val).last = some h.oseq ∧
      (t.cond.stages.get stage.val).held = x.held.filter (fun e => oseqAbove e.2.oseq h.oseq) ∧ elsewhere t ∧ quiet t) ∧
    (exist → (me c q).state.runs = false → x.oldActive = some c → ¬ leads → ¬ fresh → exec (.outputArrival stage c oseq payload) s =
      .next { s with cond := { q with stale := satAdd q.stale 1 } }) ∧
    (∀ h, x.nextHeld = some h → ∃ e ∈ x.held, e.2 = h ∧ x.leads e.1 = true ∧ h.oseq = turn) ∧
    (x.nextHeld = none → exec (.heldRelease stage) s = .next s)

/-- R384, R386, R387, R388, R390, R391, R392, R393, R394, R398: heartbeats and the umpire. A running conductor sends one heartbeat per interval; 100 cycles after its end the umpire compares: equal ones change nothing; unequal digests without a flag fail the standby; a missing one fails its conductor, and both missing
end in FAULTED. A failing active hands over: the standby's claim rises above it at every stage, and at the last acknowledgement it is ACTIVE and LAST_SWITCH is written. Without ticks nothing switches. A failed conductor returns through RESYNC as standby; the standby's tests rotate; the health report is written. -/
def Obligations.UmpireDecides : Prop :=
  ∀ (c selfFault passed : Bool) (upset : Word64) (stage : Fin 40) (us : Nat) (k0 k1 : Half) (s : State) (w : SwitchOver),
    let q := s.cond
    let now := s.top.now - s.top.timeBase
    let me := fun (b : Bool) (u : Cond) => if b then u.c1 else u.c0
    let a := q.active
    let quiet := fun (t : State) => { t with cond := s.cond } = s
    let due := 1000 * (q.interval + 1) + 100 ≤ now
    let clean := fun (h : BitVec 192) => h.getLsbD 8 = false ∧ h.getLsbD 9 = false ∧ h.getLsbD 10 = false
    let calm := q.switching = none ∧ q.mismatch = none ∧ q.umpireLost = false
    let both := (me a q).state = .active ∧ (me (!a) q).state = .standby
    let next := fun (t : State) => t.cond.interval = q.interval + 1 ∧ t.cond.c0.heartbeat = none ∧ t.cond.c1.heartbeat = none
    let lost := fun (b : Bool) (t : State) =>
      (me b t.cond).state = (match (me b q).failedAt with | some t0 => if s.top.now < t0 + 86400000000000 then .lockedOut else .failed | none => CondState.failed)
    let hands := fun (cause : Nat) (t : State) => t.cond.switching = some { decided := now, cause := cause, newActive := !a, held := q.maxHeld } ∧
      (me (!a) t.cond).claim = (me a q).claim + 1 ∧ (∀ k, k < 40 → stageExists k = true → (t.cond.stages.get k).claimDue = true) ∧
      (me a t.cond).state = .active ∧ t.cond.active = a ∧ quiet t
    ((me c q).state.runs = true ∨ (me c q).state = .resync → 1000 * (q.interval + 1) ≤ now → (me c q).heartbeat = none → ∃ t h, exec (.heartbeat c selfFault upset) s = .next t ∧
      (me c t.cond).heartbeat = some h ∧ h.getLsbD 0 = c ∧ h.getLsbD 8 = selfFault ∧ h.getLsbD 9 = (me c q).bistFail ∧ h.getLsbD 10 = (me c q).inputLate ∧
      h.getLsbD 11 = (me c q).resyncReady ∧ h.toNat / 2 ^ 96 % 2 ^ 32 = q.interval % 2 ^ 32 ∧ h.toNat / 2 ^ 64 % 2 ^ 32 = (me c q).issued.length % 2 ^ 32 ∧
      h.toNat / 2 ^ 128 = ((me c q).digest ^^^ upset).toNat ∧ (me c t.cond).consumed = [] ∧ (me c t.cond).issued = [] ∧ me (!c) t.cond = me (!c) q ∧ quiet t) ∧
    (((me c q).state.runs = false ∧ (me c q).state ≠ .resync) ∨ (me c q).heartbeat.isSome = true → exec (.heartbeat c selfFault upset) s = .next s) ∧
    (¬ due → exec .heartbeatCheck s = .next s) ∧
    (∀ h0 h1, due → both → calm → q.c0.heartbeat = some h0 → q.c1.heartbeat = some h1 → clean h0 → clean h1 →
      (h0.toNat / 2 ^ 128 = h1.toNat / 2 ^ 128 → ∃ t, exec .heartbeatCheck s = .next t ∧ next t ∧ quiet t ∧ t.cond.stages = q.stages ∧
        { t.cond.c0 with heartbeat := q.c0.heartbeat } = q.c0 ∧ { t.cond.c1 with heartbeat := q.c1.heartbeat } = q.c1 ∧ t.cond.counts.compared = q.counts.compared + 1) ∧
      (h0.toNat / 2 ^ 128 ≠ h1.toNat / 2 ^ 128 → ∃ t, exec .heartbeatCheck s = .next t ∧ next t ∧ lost (!a) t ∧ (me a t.cond).state = .active ∧ t.cond.active = a ∧
        t.cond.switching = none ∧ t.top = s.top ∧ t.cond.stages = q.stages)) ∧
    (∀ h, due → both → calm → (me a q).heartbeat = none → (me (!a) q).heartbeat = some h → clean h → ∃ t, exec .heartbeatCheck s = .next t ∧ next t ∧ hands 1 t) ∧
    (∀ h, due → both → calm → (me a q).heartbeat = some h → clean h → (me (!a) q).heartbeat = none → ∃ t, exec .heartbeatCheck s = .next t ∧ next t ∧ lost (!a) t ∧
      t.cond.active = a ∧ t.top = s.top) ∧
    (due → both → calm → q.c0.heartbeat = none → q.c1.heartbeat = none → ∃ t, exec .heartbeatCheck s = .next t ∧ next t ∧ t.top.state = .faulted ∧ lost false t ∧ lost true t) ∧
    (due → q.umpireLost = true → ∃ t, exec .heartbeatCheck s = .next t ∧ next t ∧ t.cond.active = a ∧ t.cond.switching = q.switching ∧ t.cond.stages = q.stages ∧ quiet t) ∧
    ((q.stages.get stage.val).lagged = true → calm → both → ∃ t, exec (.lagAlarm stage) s = .next t ∧ hands 4 t) ∧
    ((q.stages.get stage.val).lagged = false → exec (.lagAlarm stage) s = .next s) ∧
    (q.switching = some w → (q.stages.get stage.val).claimDue = true → exec (.claimWrite stage) s = .next { s with cond := { q with
      stages := q.stages.mod stage.val (fun x => { x with claim0 := q.c0.claim, claim1 := q.c1.claim, claimDue := false, oldActive := some (!w.newActive) }) } }) ∧
    (q.switching = none → exec (.claimWrite stage) s = .next s ∧ exec .switchoverComplete s = .next s) ∧
    (q.switching = some w → (∀ k, k < 40 → stageExists k = true → (q.stages.get k).claimDue = false) → s.seq.boundaryDue = false → s.seq.forceDue = false →
      ∃ t, exec .switchoverComplete s = .next t ∧
      t.cond.active = w.newActive ∧ t.cond.switching = none ∧ (me w.newActive t.cond).state = .active ∧ lost (!w.newActive) t ∧
      t.cond.switches = satAdd q.switches 1 ∧ t.cond.lastSwitch.toNat / 2 ^ 28 = w.cause % 16 ∧ t.cond.lastSwitch.getLsbD 27 = w.newActive ∧
      t.cond.lastSwitch.toNat / 2 ^ 16 % 2 ^ 11 = (now - w.decided) % 2 ^ 11 ∧ t.cond.lastSwitch.toNat % 2 ^ 16 = w.held % 2 ^ 7 ∧ t.cond.stages = q.stages) ∧
    (q.umpireLost = false → exec .umpireTick s = .next { s with cond := { q with lastTick := s.top.now, umpireLost := false } }) ∧
    (q.umpireLost = true → exec .umpireTick s = .next
      (({ s with cond := { q with lastTick := s.top.now, umpireLost := false } } : State).raise 0x700C 26 0 (leBytes 4 q.interval))) ∧
    exec .tickTimeout s = .next (if q.lastTick + 100000 ≤ s.top.now then { s with cond := { q with umpireLost := true } } else s) ∧
    ((me c q).state = .failed → ∃ t, exec (.resyncReady c) s = .next t ∧ (me c t.cond).state = .resync ∧ (me c t.cond).resyncReady = true ∧ me (!c) t.cond = me (!c) q ∧ quiet t) ∧
    ((me c q).state ≠ .failed → exec (.resyncReady c) s = .next s) ∧
    ((me c q).state = .resync → (me c q).resyncReady = true → (c = true → q.c0.state ≠ .resync) → s.mayResync = true → ∃ t, exec (.resyncSnapshotDone us) s = .next t ∧
      (me c t.cond).state = .standby ∧ (me c t.cond).resyncReady = false ∧ me (!c) t.cond = me (!c) q ∧
      t.cond.resyncUs = satAdd q.resyncUs (if s.top.state = .running then us else 0) ∧ t.seq = s.seq) ∧
    (s.mayResync = false → exec (.resyncSnapshotDone us) s = .next s) ∧
    (q.c0.state = .standby ∨ q.c1.state = .standby → ∃ t, exec (.standbyBist passed) s = .next t ∧ t.cond.bistIndex = q.bistNext ∧ t.cond.bistNext = (q.bistNext + 1) % 8 ∧
      (∀ b, b < 8 → t.cond.bistFails.getLsbD b = if b = q.bistNext then !passed else q.bistFails.getLsbD b) ∧ quiet t) ∧
    (q.c0.state ≠ .standby → q.c1.state ≠ .standby → exec (.standbyBist passed) s = .next s) ∧
    (∃ t, exec (.healthReport k0 k1) s = .next t ∧ t.cond.health.get 0 = BitVec.ofNat 32 q.counts.compared ∧
      t.cond.health.get 1 = BitVec.ofNat 32 (k0.toNat * 2 ^ 16 + k1.toNat) ∧
      t.cond.health.get 2 = BitVec.ofNat 32 (min q.counts.late0 0xFFFF * 2 ^ 16 + min q.counts.late1 0xFFFF) ∧ t.cond.health.get 6 = q.health.get 6 + 1 ∧
      t.cond.counts = {} ∧ { t.cond with health := q.health, counts := q.counts } = q ∧ quiet t)

/-- R402, R403, R405, R407, R408, R409, R410, R411, R412, R413, R415: wire tests and training. The test of a suspect group clears SUSPECT, marks and counts the wires it found and starts their log writes. A frame counts only with its CRC, type and unit. TREQ starts attempt 1 at both ends; REPAIR marks the peer's wires; MAP is answered by ECHO with the AND of both maps and
its CHECK; an ECHO with equal CHECK is answered by DONE, and another one fails the attempt; when both ends have sent DONE the unit is trained by the AND. A failed attempt is tried again up to the third, after which the unit falls to lane zero or is down. A sideband moves to the lowest group that passes. -/
def Obligations.BondTraining : Prop :=
  ∀ (r : PodRef) (g : Fin 17) (bad : List (Fin 272)) (tests : List (List (Fin 512))) (u : BondUnit) (far : Bool) (f : SideFrame) (words : List Word64)
    (b : SideRef) (s : State),
    let n := r.sh.val
    let bond := (s.shal n).bond r.pod.val g.val
    let wires := bad.map Fin.val
    let new := (wires.filter (fun w => !bond.marked.contains w)).eraseDups
    let me := s.bondEnd f.unit f.far
    let type := f.word.toNat / 2 ^ 60
    let counts := fun (k : Nat) => f.crc = crc16 (natBitsMsb 64 f.word.toNat) ∧ type = k ∧ f.word.toNat / 2 ^ 54 % 64 = unitField f.unit ∧ unitExists f.unit = true
    let attempt := f.word.toNat / 2 ^ 52 % 4
    let map : BitVec 16 := BitVec.ofNat 16 (f.word.toNat / 2 ^ 36)
    let check := fun (m : Nat) => 65535 - (unitField f.unit + me.attempt + m) % 65536
    let word := fun (k a m c : Nat) => BitVec.ofNat 64 (k * 2 ^ 60 + unitField f.unit * 2 ^ 54 + a * 2 ^ 52 + m * 2 ^ 36 + c * 2 ^ 20)
    let mod := fun (g : TrainEnd → TrainEnd) => s.modEnd f.unit f.far g
    let fails := fun (c : Instr) (u : BondUnit) => let a := max (s.bondEnd u false).attempt (s.bondEnd u true).attempt
      let zero := (s.bondEnd u false).good.getLsbD 0 && (s.bondEnd u true).good.getLsbD 0
      (a < 3 → ∃ t, exec c s = .next t ∧ ∀ e, (t.bondEnd u e).training = true ∧ (t.bondEnd u e).attempt = a + 1 ∧ (t.bondEnd u e).map = some 0 ∧ (t.bondEnd u e).peer = none) ∧
      (3 ≤ a → ∃ t, exec c s = .next t ∧ ∀ e, (t.bondEnd u e).training = false ∧ (t.bondEnd u e).fallback = zero ∧ (t.bondEnd u e).down = !zero ∧
        (t.bondEnd u e).map = some (if zero then 1 else 0))
    (bond.suspect = false → exec (.wireTestDone (.podGroup r g bad)) s = .next s) ∧
    (bond.suspect = true → s.seq.boundaryDue = false → new = [] → ∃ t, exec (.wireTestDone (.podGroup r g bad)) s = .next t ∧
      (t.shal n).bond r.pod.val g.val = { bond with suspect := false } ∧ (t.shal n).rowRepairs = satAdd (s.shal n).rowRepairs 0 ∧ t.top = s.top ∧ t.ev = s.ev) ∧
    (bond.suspect = true → s.seq.boundaryDue = false → new ≠ [] → (bond.marked ++ new).length ≤ (if g.val = 16 then 12 else 16) → s.pp.nvOpen = true → ∃ t,
      exec (.wireTestDone (.podGroup r g bad)) s = .next t ∧ (t.shal n).bond r.pod.val g.val = { bond with suspect := false, fresh := bond.fresh ++ new } ∧
      (t.shal n).rowRepairs = satAdd (s.shal n).rowRepairs new.length ∧ t.top.nv.length = s.top.nv.length + new.length ∧ t.ev.head = s.ev.head + 1 ∧ t.seq = s.seq) ∧
    ((s.bondEnd u far).training = false → exec (.wireTestDone (.training u far tests)) s = .next s) ∧
    ((s.bondEnd u far).training = true → ∃ t m, exec (.wireTestDone (.training u far tests)) s = .next t ∧ (t.bondEnd u far).good = m ∧ (t.bondEnd u far).training = true ∧
      (∀ p, p < 16 → m.getLsbD p = (decide (p < unitWidth u) && decide ((t.markedAt u far p).length ≤ unitSpares u))) ∧
      t.out.getLast? = some (.sideband (BitVec.ofNat 64 (3 * 2 ^ 60 + unitField u * 2 ^ 54 + (s.bondEnd u far).attempt % 4 * 2 ^ 52 + m.toNat * 2 ^ 36)))) ∧
    (s.blv.logPending = [] → exec .bondLogRetry s = .next s) ∧
    (s.blv.logPending ≠ [] → s.pp.nvOpen = true → exec .bondLogRetry s = .next { s with
      blv := { s.blv with logPending := [] }, top := { s.top with nv := s.top.nv ++ s.blv.logPending.map (fun (x : Nat × Nat) => .bondLog x.1 x.2) } }) ∧
    (s.blv.logPending ≠ [] → s.pp.nvOpen = false → ∃ t, exec .bondLogRetry s = .next t ∧ t.pp.nvBlocked = satAdd s.pp.nvBlocked 1 ∧ t.blv = s.blv ∧ t.top = s.top) ∧
    (¬ counts 1 → exec (.treqFrame f) s = .next s) ∧
    (counts 1 → f.word.toNat % 2 = 0 → (me.training = true ∧ (s.bondEnd f.unit (!f.far)).training = true ∧ me.attempt = 1 → exec (.treqFrame f) s = .next s) ∧
      (me.training = false → ∃ t, exec (.treqFrame f) s = .next t ∧ t.blv.trainCount = satAdd s.blv.trainCount 1 ∧
        ∀ e, (t.bondEnd f.unit e).training = true ∧ (t.bondEnd f.unit e).attempt = 1 ∧ (t.bondEnd f.unit e).map = some 0 ∧ (t.bondEnd f.unit e).down = false ∧
          (t.bondEnd f.unit e).fallback = false ∧ (t.bondEnd f.unit e).sentDone = false)) ∧
    (¬ counts 2 ∨ me.training = false → exec (.repairFrame f words) s = .next s) ∧
    (counts 2 → me.training = true → ∃ t, exec (.repairFrame f words) s = .next t ∧
      ∀ k w, k < f.word.toNat % 32 → k / 7 < words.length → w = ((words[k / 7]?).getD 0).toNat / 2 ^ (9 * (k % 7)) % 512 →
        w ∈ t.markedAt f.unit f.far (f.word.toNat / 2 ^ 16 % 16)) ∧
    (¬ counts 3 ∨ me.training = false ∨ attempt ≠ me.attempt → exec (.mapFrame f) s = .next s) ∧
    (counts 3 → me.training = true → attempt = me.attempt → exec (.mapFrame f) s = .next
      ((mod (fun x => { x with peer := some map })).emit (.sideband (word 4 me.attempt (me.good &&& map).toNat (check (me.good &&& map).toNat))))) ∧
    (me.peer = none ∨ ¬ counts 4 ∨ me.training = false ∨ attempt ≠ me.attempt → exec (.echoFrame f) s = .next s) ∧
    (∀ p, me.peer = some p → counts 4 → me.training = true → attempt = me.attempt →
      (f.word.toNat / 2 ^ 20 % 2 ^ 16 = check (me.good &&& p).toNat → exec (.echoFrame f) s = .next
        ((mod (fun x => { x with sentDone := true })).emit (.sideband (word 5 me.attempt 0 0)))) ∧
      (f.word.toNat / 2 ^ 20 % 2 ^ 16 ≠ check (me.good &&& p).toNat → fails (.echoFrame f) f.unit)) ∧
    (¬ counts 5 ∨ me.training = false ∨ attempt ≠ me.attempt → exec (.doneFrame f) s = .next s) ∧
    (counts 5 → me.training = true → attempt = me.attempt →
      (me.sentDone = false ∨ (s.bondEnd f.unit (!f.far)).sentDone = false → exec (.doneFrame f) s = .next (mod (fun x => { x with peerDone := true }))) ∧
      (me.sentDone = true → (s.bondEnd f.unit (!f.far)).sentDone = true → ∀ p, (s.bondEnd f.unit false).peer = some p → ∃ t, exec (.doneFrame f) s = .next t ∧
        ∀ e, (t.bondEnd f.unit e).map = some ((s.bondEnd f.unit false).good &&& p) ∧ (t.bondEnd f.unit e).training = false ∧ (t.bondEnd f.unit e).down = false)) ∧
    ((s.bondEnd u false).training = false → (s.bondEnd u true).training = false → exec (.trainTimeout u) s = .next s) ∧
    ((s.bondEnd u false).training = true ∨ (s.bondEnd u true).training = true → fails (.trainTimeout u) u) ∧
    (exec (.sidebandClockStop b true none) s = .next s) ∧
    (∀ p : Fin 640, ∃ t, exec (.sidebandClockStop b false (some p)) s = .next t ∧ t.blv = { s.blv with sideband := s.blv.sideband.set (sideIx b) p.val } ∧
      t.ev.head = s.ev.head + (if p.val = s.blv.sideband.get (sideIx b) then 0 else 1)) ∧
    (∀ v, v ∈ sideUnits b → ∃ t, exec (.sidebandClockStop b false none) s = .next t ∧ ∀ e, (t.bondEnd v e).down = true ∧ (t.bondEnd v e).map = some 0 ∧ (t.bondEnd v e).training = false)

/-- R124, R421, R422, R423, R424, R425, R426, R427, R434: clocks and rails. Each governor tick stores the margins and acts by the worst one: below 10 ps one code down, to 30 ps the set point rises 5 mV or the code falls, to 50 ps nothing, above it the set point falls and after 1,000 high readings the code rises. A stop ends at its new code,
and the next one follows. A droop of 30 to 45 mV stretches the next period by 1/4 and a deeper one by 2/4. The third reading of a rail out of tolerance is a fault: it fences its shallot, or ends in FAULTED. The duty pauses the last d of 64 periods; VR_LIMIT pauses and is timed; a held transfer is counted. -/
def Obligations.ClocksAndRails : Prop :=
  ∀ (sh : Fin 8) (ad sd : BitVec 8) (depth : BitVec 10) (rail : Fin 19) (mv amps : BitVec 16) (s : State),
    let n := sh.val
    let h := s.shal n
    let k := h.clk
    let worst := min ad.toNat sd.toNat
    let mod := fun (f : Shallot → Shallot) => s.modSh n f
    let clk := fun (f : ShClock → ShClock) => s.modSh n (fun h => { h with clk := f h.clk })
    let pwr := fun (f : ShPower → ShPower) => s.modSh n (fun h => { h with pwr := f h.pwr })
    let last := (k.demands.getLast?).getD k.code
    let high := if 60 < worst then min 1000 (k.highRun + 1) else 0
    let read := fun (k : ShClock) =>
      { k with marginAd := ad.toNat, marginSd := sd.toNat, highRun := high, sinceRise := min 1000 (k.sinceRise + 1), sinceAvs := min 10 (k.sinceAvs + 1) }
    let tick := exec (.governorTick sh ad sd) s
    let top := if s.top.identity.toNat / 2 ^ 24 % 16 = 1 then 72 else 60
    let target := max 16 (min top (k.target.toNat % 128))
    (h.powered = false → tick = .next s) ∧
    (h.powered = true → worst < 10 → last ≤ 16 → tick = .next (clk read)) ∧
    (h.powered = true → worst < 10 → 16 < last → k.stopNs = 0 → k.demands = [] → ∃ t, tick = .next t ∧
      (t.shal n).clk = { read k with demands := [last - 1], stopNs := 2000, downCount := satAdd k.downCount 1, upCount := satAdd k.upCount 0 } ∧
      (t.shal n).stopCount = satAdd h.stopCount 1 ∧ t.ev.head = s.ev.head + 1 ∧ { t with sh := s.sh, ev := s.ev, host := s.host, out := s.out } = s) ∧
    (h.powered = true → 10 ≤ worst → worst ≤ 30 → k.setPoint < 800 → tick = .next (if 9 ≤ k.sinceAvs then
      (clk (fun k => { read k with setPoint := k.setPoint + 5, sinceAvs := 0 })).emit (.avs n (k.setPoint + 5)) else clk read)) ∧
    (h.powered = true → 30 < worst → worst ≤ 50 → tick = .next (clk read)) ∧
    (h.powered = true → 50 < worst → 600 < k.setPoint → high < 1000 → tick = .next (if 9 ≤ k.sinceAvs then
      (clk (fun k => { read k with setPoint := k.setPoint - 5, sinceAvs := 0 })).emit (.avs n (k.setPoint - 5)) else clk read)) ∧
    (h.powered = true → 60 < worst → k.setPoint ≤ 600 → 999 ≤ k.highRun → last < target → 999 ≤ k.sinceRise → h.pauseInForce = false → k.stopNs = 0 → k.demands = [] →
      ∃ t, tick = .next t ∧ (t.shal n).clk =
        { read k with sinceRise := 0, demands := [last + 1], stopNs := 2000, downCount := satAdd k.downCount 0, upCount := satAdd k.upCount 1 } ∧ t.ev = s.ev) ∧
    (k.demands = [] → exec (.freqStopEnd sh) s = .next (clk (fun k => { k with stopNs := 0 }))) ∧
    (∀ f, k.demands = [f] → exec (.freqStopEnd sh) s = .next (clk (fun k => { k with code := f, demands := [], stopNs := 0 }))) ∧
    (∀ f g l, k.demands = f :: g :: l → ∃ t, exec (.freqStopEnd sh) s = .next t ∧ (t.shal n).clk.code = f ∧ (t.shal n).clk.demands = g :: l ∧ (t.shal n).clk.stopNs = 2000 ∧
      (t.shal n).stopCount = satAdd h.stopCount 1) ∧
    (h.powered = false ∨ depth.toNat < 30 → exec (.droopDetect sh depth) s = .next s) ∧
    (h.powered = true → 30 ≤ depth.toNat → exec (.droopDetect sh depth) s = .next (mod (fun h =>
      { h with stretchCount := satAdd h.stretchCount (if h.clk.stretch = 0 then 1 else 0),
               clk := { h.clk with stretch := max h.clk.stretch (if depth.toNat ≤ 45 then 1 else 2), droopCount := satAdd h.clk.droopCount 1 } }))) ∧
    (let m := s.railNominal rail.val
     let good := m * 95 ≤ mv.toNat * 100 ∧ mv.toNat * 100 ≤ m * (if rail.val < 8 then 103 else 105)
     let judged := m ≠ 0 ∧ (if rail.val < 16 then s.mainRails else s.top.aon) = true
     ∃ t, exec (.railCheck rail mv amps) s = .next t ∧
      (judged → good → t.pp.railRuns.get rail.val = 0 ∧ t.top = s.top ∧ t.ev = s.ev) ∧
      (judged → ¬ good → s.pp.railRuns.get rail.val < 2 → t.pp.railRuns.get rail.val = s.pp.railRuns.get rail.val + 1 ∧ t.top = s.top ∧ t.ev = s.ev) ∧
      (judged → ¬ good → s.pp.railRuns.get rail.val = 2 → rail.val < 8 → (t.shal rail.val).fenced = true) ∧
      (judged → ¬ good → s.pp.railRuns.get rail.val = 2 → 8 ≤ rail.val → rail.val < 16 → t.top.state = .faulted) ∧
      (judged → ¬ good → s.pp.railRuns.get rail.val = 2 → 16 ≤ rail.val → t.top.state = .off ∧ t.top.aon = false) ∧
      (¬ judged → t.top = s.top ∧ t.ev = s.ev) ∧ (rail.val < 16 → judged → good → t.pp.rails.get rail.val = amps ++ mv)) ∧
    (h.pwr.dutyPause = true ∨ h.pwr.duty = 0 → exec (.dutyFrameBoundary sh) s = .next (pwr (fun p => { p with dutyPause := false, framePos := 0 }))) ∧
    (h.pwr.dutyPause = false → 0 < h.pwr.duty → ∃ t, exec (.dutyFrameBoundary sh) s = .next t ∧
      (t.shal n).pwr = { h.pwr with dutyPause := true, framePos := 64 - h.pwr.duty } ∧ t.top = s.top ∧ (h.inStep = false → t.ev = s.ev)) ∧
    (∃ g, exec (.heldRowTransferDone sh) s = .next (mod (fun _ => g)) ∧ ((∀ c, h.stands false ≠ .hold c) → g = h) ∧
      (h.clk.stopNs = 0 → h.recess = none → h.pwr.vrLimit = false → h.pwr.dutyPause = false → h.wakeHeld = [] → h.wakeHold = 0 → h.forecastHold = none →
        h.retryHold = 0 → h.rowWaits = [] →
        let wide := h.wideHold - h.privHold
        g.privHold = 0 ∧ g.wideHold = 0 ∧ g.holdBeats = satAdd h.holdBeats (h.privHold + wide) ∧
        g.privHoldBeats = satAdd h.privHoldBeats h.privHold ∧ g.wideHoldBeats = satAdd h.wideHoldBeats wide)) ∧
    (h.pwr.vrLimit = false → exec (.vrLimitAssert sh) s = .next (pwr (fun p => { p with vrLimit := true, vrSince := s.top.now }))) ∧
    (h.pwr.vrLimit = true → exec (.vrLimitDeassert sh) s =
      .next (pwr (fun p => { p with vrLimitUs := satAdd p.vrLimitUs ((s.top.now - p.vrSince) / 1000), vrLimit := false }))) ∧
    exec (.vrLimitTimer sh) s = .next (if h.pwr.vrLimit then s.raise 0x9006 n 0 [] else s)

/-- R420, R427, R429, R430, R431, R432, R433, R435, R436, R439, R440: power and heat. A sensor reading is kept where valid, and the management die opens or closes the window of non-volatile writes; a coolant reading above its limit is raised once a minute. A measurement above 720 W or 7,000 W raises the power duty by 4/64. A wake takes a credit of both buckets or holds its shallot. A forecast
frame goes out with its CRC. The thermal check warns, sets the heat duty, and trips a shallot at 115 °C; a die of the package at its limit ends in FAULTED. A waiting reset starts once its shallot has cooled. -/
def Obligations.PowerAndHeat : Prop :=
  ∀ (p : PlazaNo) (sd next : Bool) (sensor : Fin 64) (v : Option Half) (th : Fin 4) (pkg : Half) (readings : List PowerReading) (sh : Fin 8) (segment : Nat)
    (activity : List Activity) (boulevard : Option Half) (x : Half) (s : State),
    let n := sh.val
    let h := s.shal n
    let pp := fun (f : PkgPwr → PkgPwr) => { s with pp := f s.pp }
    let count := if sd then (if p.val < 8 then 16 else 0) else if p.val < 8 then 32 else if p.val < 24 then 64 else if p.val < 26 then 8 else 4
    let valid := fun (x : Half) => -40 * 128 ≤ x.toInt ∧ x.toInt ≤ 150 * 128
    let quiet := fun (t : State) => t.top = s.top ∧ t.seq = s.seq ∧ t.sh = s.sh
    let u := { s with pp := { s.pp with th := s.pp.th.set th.val (some x) } }
    (count ≤ sensor.val → exec (.sensorRead p sd sensor v) s = .next s) ∧
    (sensor.val < count → ∃ t, exec (.sensorRead p sd sensor v) s = .next t ∧ quiet t ∧ t.hbm = s.hbm ∧ t.ev = s.ev ∧
      t.pp.sensors = s.pp.sensors.set (p.val * 512 + (if sd then 256 else 0) + sensor.val) (v.filter (fun y => decide (valid y))) ∧
      (p.val ≠ 26 → t.pp.nvOpen = s.pp.nvOpen ∧ t.pp.mgmtTemp = s.pp.mgmtTemp) ∧
      (p.val = 26 → (t.hottest 26 false 0 4 = none → t.pp.nvOpen = false) ∧
        ∀ y, t.hottest 26 false 0 4 = some y → t.pp.mgmtTemp = y ∧ (t.pp.nvOpen = true ↔ 0 ≤ y.toInt ∧ y.toInt ≤ 85 * 128))) ∧
    exec (.thermistorRead th none) s = .next (pp (fun q => { q with th := q.th.set th.val none })) ∧
    (x.toInt ≤ (s.pp.coolant.setWidth 16 : Half).toInt ∨ s.pp.coolantMinute = some s.minute → exec (.thermistorRead th (some x)) s = .next u) ∧
    ((s.pp.coolant.setWidth 16 : Half).toInt < x.toInt → s.pp.coolantMinute ≠ some s.minute → exec (.thermistorRead th (some x)) s = .next
      (({ u with pp := { u.pp with coolantMinute := some s.minute } } : State).raise 0xA005 26 th.val (leBytes 2 x.toNat))) ∧
    (∃ t, exec (.powerMeasure pkg readings) s = .next t ∧ t.pp.power = pkg.toNat ∧ t.top = s.top ∧ t.hbm = s.hbm ∧
      (∀ r, readings = [r] → r.sh = sh → (t.shal n).pwr.power = r.power.toNat ∧ (t.shal n).pwr.adPower = r.ad.toNat ∧
        (2880 < r.power.toNat ∨ (7000 < pkg.toNat ∧ h.placed = true) → (t.shal n).pwr.dutyPower = min 60 (h.pwr.dutyPower + 4)) ∧
        (r.power.toNat ≤ 2880 → pkg.toNat ≤ 7000 → (t.shal n).pwr.dutyPower = h.pwr.dutyPower ∨ (t.shal n).pwr.dutyPower = h.pwr.dutyPower - 1))) ∧
    (∃ t, exec .wakeTick s = .next t ∧ t.top = s.top ∧
      ((∀ m, m < 8 → (s.shal m).pwr.dueWakes = []) → t.pp.credits = min (10 * (s.pp.pkgSlew.toNat / 2 ^ 16 % 4096)) (s.pp.credits + s.pp.pkgSlew.toNat % 4096) ∧
        ∀ m, m < 8 → (t.shal m).pwr = { (s.shal m).pwr with credits := min (10 * (s.pp.slew.toNat / 2 ^ 16 % 4096)) ((s.shal m).pwr.credits + s.pp.slew.toNat % 512) }) ∧
      (∀ pod, pod < 512 → h.pwr.dueWakes = [pod] → (∀ m, m < 8 → m ≠ n → (s.shal m).pwr.dueWakes = []) →
        let rail := min (10 * (s.pp.slew.toNat / 2 ^ 16 % 4096)) (h.pwr.credits + s.pp.slew.toNat % 512)
        let all := min (10 * (s.pp.pkgSlew.toNat / 2 ^ 16 % 4096)) (s.pp.credits + s.pp.pkgSlew.toNat % 4096)
        (10 ≤ rail → 10 ≤ all → (t.shal n).pwr.dueWakes = [] ∧ (t.shal n).pwr.credits = rail - 10 ∧ t.pp.credits = all - 10) ∧
        (rail < 10 ∨ all < 10 → h.wakeHeld = [] → (t.shal n).wakeHeld = [pod] ∧ (t.shal n).pwr.wakeDefer = satAdd h.pwr.wakeDefer 1 ∧ (t.shal n).pwr.dueWakes = [pod]))) ∧
    (s.img.image = none → exec (.forecastFrame sh next 0) s = .next ((s.modSh n (fun h =>
      { h with pwr := { h.pwr with forecast := 2880, profile := false, frameEnd := some s.top.now } })).emit
        (.lfp n (BitVec.ofNat 24 ((11 * 2 ^ 12 + 2880) * 256 + (crc8 (natBitsMsb 16 (11 * 2 ^ 12 + 2880))).toNat))))) ∧
    (∀ pr g, s.profileAt n (s.seq.current.toNat + (if next then 1 else 0)) = some pr → pr.segs[segment]? = some g → exec (.forecastFrame sh next segment) s =
      .next ((s.modSh n (fun h => { h with pwr := { h.pwr with forecast := BitVec.ofNat 12 g.2.1, profile := true, frameEnd := some s.top.now } })).emit
        (.lfp n (forecastFrame g.2.1)))) ∧
    (∀ t0, h.forecastHold = some t0 → exec (.forecastHoldEnd sh) s = .next (if t0 ≤ s.top.now then s.modSh n (fun h => { h with forecastHold := none }) else s)) ∧
    (h.forecastHold = none → exec (.forecastHoldEnd sh) s = .next s) ∧
    (∃ t, exec (.thermalCheck activity boulevard) s = .next t ∧
      (s.mainRails = false → s.hottest 26 false 0 4 = none → t = s) ∧
      (∀ y, s.mainRails = true → s.top.state ≠ .faulted → s.hottest 26 false 0 4 = none → boulevard = some y → 115 * 128 ≤ y.toInt → t.top.state = .faulted) ∧
      (∀ y, s.mainRails = true → h.powered = true → h.pwr.tripped = false → h.pwr.suspect = false → s.hottest n false 0 32 = some y → s.hottest n true 0 16 = none → h.placed = false →
        s.hottest 26 false 0 4 = none →
        (115 * 128 ≤ y.toInt → (t.shal n).fenced = true ∧ (t.shal n).powered = false ∧ (t.shal n).pwr.tripped = true) ∧
        (y.toInt < 103 * 128 → (t.shal n).pwr.dutyHeat = 0 ∧ (t.shal n).powered = true ∧ (t.shal n).pwr.tripped = false) ∧
        (105 * 128 ≤ y.toInt → y.toInt < 106 * 128 → (t.shal n).pwr.dutyHeat = 8))) ∧
    (h.pwr.resetWaits = false ∨ h.pwr.cooled s.top.now = false → exec (.shallotCooldownEnd sh) s = .next s) ∧
    (h.pwr.resetWaits = true → h.pwr.cooled s.top.now = true → ∃ t, exec (.shallotCooldownEnd sh) s = .next t ∧ (t.shal n).resetting = true ∧ (t.shal n).placed = h.placed ∧
      (t.shal n).tallies = {} ∧ (t.shal n).clk.target = h.clk.target ∧ t.top = s.top ∧ t.hbm = s.hbm)

/-- R237, R293, R294, R295, R296, R297, R307, R313, R315: links, frames and time. A sub-port that loses its link is down, counted and raised once, and one that meets its conditions is up. A destination returns at a step boundary to a better route that has been up for 1 s. A frame is counted; one that is too long, fails its check, replays its packet number, has no address here or comes when no traffic
is carried is discarded and counted; one for another package is forwarded. A solicitation of an own address is answered, but while FREEZE of the port's arbiter is 1 the frame waits. PTP steers the time base; SYNC_IO aligns its second. -/
def Obligations.Network : Prop :=
  ∀ (sub : SubPortNo) (fec : Nat) (lanes : BitVec 8) (macsec : Bool) (dest : Fin 2048) (f : RxEth) (target : BitVec 128) (offset : Word) (s : State),
    let n := sub.val
    let p := s.net.ports.get n
    let port := fun (g : SubPort → SubPort) => { s with net := { s.net with ports := s.net.ports.mod n g } }
    let seen := port (fun p => { p with rx := satAdd p.rx 1 })
    let taken := s.top.state = .loaded ∨ s.top.state = .running ∨ (s.top.state = .idle ∧ f.ptp = true)
    let good := taken ∧ f.len ≤ 9216 ∧ f.fcsOk = true
    let drops := fun (t : State) => (t.net.ports.get n).rx = satAdd p.rx 1 ∧ (t.net.ports.get n).drops = satAdd p.drops 1 ∧ (t.net.ports.get n).up = p.up ∧ t.out = s.out ∧
      { t with net := s.net } = s ∧ ∀ k, k ≠ n → t.net.ports.get k = s.net.ports.get k
    let clear := s.macsecOn n = false
    let aligned := fun (u : State) => { u with net := { u.net with ports := u.net.ports.mod (n / 8 * 8) (fun p => { p with lanes := lanes }) } }
    let open_ := s.top.state = .loaded ∨ s.top.state = .running ∨ s.top.state = .idle
    let g := n / 64
    (p.up = false → exec (.netLinkDown sub fec lanes) s = .next (aligned (port (fun p => { p with fec := satAdd p.fec fec, up := false, macsec := false })))) ∧
    (p.up = true → s.img.image = none → exec (.netLinkDown sub fec lanes) s =
      .next ((aligned (port (fun p => { p with fec := satAdd p.fec fec, up := false, macsec := false }))).raise 0x5001 (24 + g) n [])) ∧
    (p.up = true ∨ s.linksMay = false ∨ s.subExists n = false ∨ (macsec = false ∧ s.macsecOn n = true) → exec (.netLinkUp sub lanes macsec) s = .next s) ∧
    (p.up = false → s.linksMay = true → s.subExists n = true → macsec = true ∨ clear → s.img.image = none → exec (.netLinkUp sub lanes macsec) s =
      .next ((aligned (port (fun p => { p with macsec := macsec, up := true, upAt := s.top.now, lastPn := {}, txPn := 0 }))).raise 0x5002 (24 + g) n [])) ∧
    (let a := (s.net.routes.get dest.val).active
     let fit := fun (r : Nat) => r < 5 ∧ r < a ∧ ∃ i e, s.img.image = some i ∧ (i.routes.get dest.val)[r]? = some e ∧ (s.net.ports.get e.subport).up = true ∧
       (s.net.ports.get e.subport).upAt + 1000000000 ≤ s.top.now
     (s.atBoundary = false ∨ (∀ r, ¬ fit r) → exec (.routeRestore dest) s = .next s) ∧
     (∀ r, s.atBoundary = true → fit r → (∀ q, q < r → ¬ fit q) → ∃ t, exec (.routeRestore dest) s = .next t ∧ (t.net.routes.get dest.val).active = r ∧
       (∀ d, d ≠ dest.val → t.net.routes.get d = s.net.routes.get d) ∧ t.top = s.top ∧ t.sec = s.sec)) ∧
    (p.up = false → exec (.rxFrame sub f) s = .next s) ∧
    (p.up = true → ¬ good → ∃ t, exec (.rxFrame sub f) s = .next t ∧ drops t) ∧
    (p.up = true → good → clear → f.ptp = true → exec (.rxFrame sub f) s = .next seen) ∧
    (p.up = true → good → clear → f.ptp = false → f.ipv6 = true → s.ownAddress f.dst = true → exec (.rxFrame sub f) s =
      .next (if f.badOp = true ∧ s.claimed 2 0x11 n = true then seen.modGw (n / 64) (fun w => { w with badPackets := satAdd w.badPackets 1 }) else seen)) ∧
    (p.up = true → good → clear → f.ptp = false → f.ipv6 = false ∨ (s.ownAddress f.dst = false ∧ s.destOf f.dst = none) → ∃ t, exec (.rxFrame sub f) s = .next t ∧ drops t) ∧
    (∀ d, p.up = true → good → clear → f.ptp = false → f.ipv6 = true → s.ownAddress f.dst = false → s.destOf f.dst = some d →
      exec (.rxFrame sub f) s = .next (seen.sendTo d 7 f.payload)) ∧
    (p.up = true → good → s.macsecOn n = true → f.macOk = false ∨ (∃ pn, (2 * f.sc.val + f.an.val, pn) ∈ p.lastPn.cells ∧ p.lastPn.wf = true ∧ f.newKey = false ∧ f.pn ≤ pn) → ∃ t, exec (.rxFrame sub f) s = .next t ∧
      (t.net.ports.get n).drops = satAdd p.drops 1 ∧ (t.net.ports.get n).lastPn = p.lastPn ∧ (p.macsecSec = some s.second → t.ev = s.ev) ∧
      (p.macsecSec ≠ some s.second → t.ev.head = s.ev.head + 1)) ∧
    (open_ → s.ownAddress target = true → p.up = true → s.egressFrozen n = true → exec (.neighborSolicitation sub target) s = .next
      { s with net := { s.net with egress := s.net.egress ++ [{ sub := n, kind := 6, bytes := leBytes 16 target.toNat }] } }) ∧
    (open_ → s.ownAddress target = true → p.up = true → s.egressFrozen n = false → exec (.neighborSolicitation sub target) s = .next
      ((port (fun p => { p with tx := satAdd p.tx 1, txPn := p.txPn + (if p.macsec then 1 else 0) })).emit (.net (n / 64) (n % 64) 6 0 (leBytes 16 target.toNat)))) ∧
    (¬ open_ ∨ s.ownAddress target = false → exec (.neighborSolicitation sub target) s = .next s) ∧
    (open_ → s.claimed 2 0x10 n = true → p.up = true → (s.net.gw.get g).ptpMaster = false → g < 2 → ∃ t, exec (.ptpMessage sub true offset) s = .next t ∧
      t.net.timeOffset = s.net.timeOffset - offset.toInt / 1000 ∧ (t.net.gw.get g).ptpOffset = offset ∧ (t.net.gw.get g).ptpPort = BitVec.ofNat 4 (n % 64 / 8) ∧ (t.net.gw.get g).ptpSub = n ∧
      (t.net.gw.get g).ptpLocked = true ∧ (t.net.gw.get (1 - g)).ptpLocked = false ∧ { t with net := s.net } = s) ∧
    exec (.ptpMessage sub false offset) s = .next s ∧
    ((s.net.gw.get 0).ptpLocked = false → (s.net.gw.get 1).ptpLocked = false → exec .ptpLost s = .next s) ∧
    ((s.net.gw.get 0).ptpLocked = true → (s.net.gw.get 0).ptpSub < 64 → exec .ptpLost s = .next
      ((s.modGw 0 (fun w => { w with ptpLocked := false })).raise 0x5005 24 (s.net.gw.get 0).ptpSub [])) ∧
    (s.ppsIn = true → open_ → ∃ t, exec .ppsEdge s = .next t ∧ (t.net.timeOffset + s.top.now) % 1000000000 = 0 ∧
      (t.net.timeOffset + s.top.now - (s.ptpTime : Int)).natAbs ≤ 500000000 ∧ (t.net.gw.get 0).ptpMaster = true ∧ (t.net.gw.get 1).ptpMaster = true ∧
      { t with net := s.net } = s) ∧
    (s.ppsIn = false ∨ ¬ open_ → exec .ppsEdge s = .next s)

/-- R183, R237, R300, R301, R302, R303, R304, R309, R310, R312: the scheduled network and the service endpoint. A window sends the unsent packets that fit in what is left of it, and none outside it or while its port is frozen. A data packet lands at its offset, is journaled and, when the stream is whole, acknowledged; a duplicate is only acknowledged again, and in replay it is dropped and counted. An ACK frees what arrived and sends the rest again; so do the
timers. A call of an open session takes the lowest free slot of its step; a full step answers busy, and an unknown session or tag rejects it without an answer. -/
def Obligations.ScheduledNetwork : Prop :=
  ∀ (num : Half) (p : SchedPkt) (step : Word64) (bits : List Bool) (q : Nat) (c : SvcCall) (s : State) (st : Stream) (r : Region) (x : SchedOut) (e : Endpoint) (k : Session)
    (plain : List Byte),
    let open_ := s.top.state = .loaded ∨ s.top.state = .running
    let tick := s.ptpTime * 25 / 64
    let period := tick % max 1 st.cycle
    let mine := fun (y : SchedOut) => y.stream = st.num ∧ y.step = step
    let bytes := fun (y : SchedOut) => s.schedBytes y
    let resent := fun (u : State) (y : SchedOut) => if u.canSendTo st.peer = false then u else (u.sendTo st.peer 1 (bytes y)).modGw (((s.routeOf st.peer).map (fun r => r.subport / 64)).getD 0)
      (fun w => { w with resends := satAdd w.resends 1 })
    let fits := p.seq < p.count ∧ p.data.length ≤ 8192 ∧ 64 * p.offset + p.data.length ≤ st.bytes ∧ st.roffset + 64 * p.offset + p.data.length ≤ r.size
    let old := (s.schedGot st.num p.step).getD { stream := st.num, step := p.step, count := p.count }
    let now : SchedIn := { old with got := old.got ++ [p.seq] }
    let whole := ∀ i, i < now.count → i ∈ now.got
    let landed := (((s.writeRegion r st.region (st.roffset + 64 * p.offset) p.data).1).recordInput p.step 3 (st.subport / 8) ((st.roffset + 64 * p.offset) / 32) p.data)
    let kept := { landed with net := { landed.net with schedIn := (landed.net.schedIn.filter (fun y => !(y.stream == st.num && y.step == p.step))) ++ [now] } }
    let own := s.stream p.stream.toNat 1 = some st ∧ s.region st.region = some r
    (s.stream num.toNat 0 = none ∨ ¬ open_ → exec (.schedWindow num) s = .next s) ∧
    (s.stream num.toNat 0 = some st → period < st.start ∨ st.start + st.length ≤ period ∨ s.routeOf st.peer = none ∨
      (∃ e, s.routeOf st.peer = some e ∧ ((s.net.ports.get e.subport).up = false ∨ s.egressFrozen e.subport = true)) → exec (.schedWindow num) s = .next s) ∧
    (∀ y e, s.stream num.toNat 0 = some st → open_ → s.net.schedOut = [y] → y.stream = st.num → y.unsent = true → st.start ≤ period → period < st.start + st.length →
      s.routeOf st.peer = some e → (s.net.ports.get e.subport).up = true → (s.net.ports.get e.subport).macsec = false → s.egressFrozen e.subport = false → s.net.schedBusy.get st.num ≤ tick →
      exec (.schedWindow num) s = .next (if y.data.length + 118 ≤ 512 * (st.start + st.length - period) then
        (let t := s.sendTo st.peer 1 (bytes y)
         { t with net := { t.net with schedOut := [{ y with unsent := false }], schedBusy := t.net.schedBusy.set st.num (tick + (y.data.length + 118 + 511) / 512) } })
        else { s with net := { s.net with schedBusy := s.net.schedBusy.set st.num tick } })) ∧
    (∀ y e, s.stream num.toNat 0 = some st → open_ → s.net.schedOut = [y] → st.start ≤ period → period < st.start + st.length →
      s.routeOf st.peer = some e → tick + st.start + st.length - period ≤ s.net.schedBusy.get st.num → ∃ t, exec (.schedWindow num) s = .next t ∧ t.out = s.out ∧
        t.net.schedOut = s.net.schedOut) ∧
    (s.stream p.stream.toNat 1 = none → exec (.schedData p) s = .next s) ∧
    (own → open_ → s.seq.replay = true → exec (.schedData p) s = .next { s with seq := { s.seq with replayDrops := satAdd s.seq.replayDrops 1 } }) ∧
    (own → open_ → s.seq.replay = false → ¬ fits → exec (.schedData p) s = .next s) ∧
    (own → open_ → s.seq.replay = false → fits → s.schedGot st.num p.step = none → s.seq.committed.toNat < p.step.toNat ∨ s.seq.ran = false →
      (¬ whole → exec (.schedData p) s = .next kept) ∧ (whole → exec (.schedData p) s = .next (kept.sendSchedAck st now))) ∧
    (∀ y, own → open_ → s.seq.replay = false → fits → s.schedGot st.num p.step = some y → p.seq ∈ y.got → exec (.schedData p) s = .next (s.sendSchedAck st y)) ∧
    (s.stream num.toNat 0 = none ∨ ¬ open_ → exec (.schedAck num step bits) s = .next s) ∧
    (open_ → s.stream num.toNat 0 = some st → s.net.schedOut = [x] → mine x → (bits[x.seq]?).getD false = true →
      exec (.schedAck num step bits) s = .next { s with net := { s.net with schedOut := [] } }) ∧
    (open_ → s.stream num.toNat 0 = some st → s.net.schedOut = [x] → mine x → (bits[x.seq]?).getD false = false → x.unsent = false →
      exec (.schedAck num step bits) s = .next (resent s x)) ∧
    (∀ y, open_ → s.stream num.toNat 1 = some st → s.schedGot num.toNat step = some y → exec (.schedAckTimer num step) s = .next (if y.complete then s else s.sendSchedAck st y)) ∧
    (s.schedGot num.toNat step = none ∨ ¬ open_ → exec (.schedAckTimer num step) s = .next s) ∧
    (open_ → s.stream num.toNat 0 = some st → s.net.schedOut = [x] → x.stream = num.toNat → x.step = step → x.seq = q → x.unsent = false →
      exec (.schedResendTimer num step q) s = .next (resent s x)) ∧
    (s.net.schedOut = [] ∨ ¬ open_ → exec (.schedResendTimer num step q) s = .next s) ∧
    (s.img.image.bind (fun i => i.endpoint) = none → exec (.serviceCall c) s = .next s) ∧
    (s.img.image.bind (fun i => i.endpoint) = some e → open_ → s.seq.replay = true → exec (.serviceCall c) s =
      .next { s with seq := { s.seq with replayDrops := satAdd s.seq.replayDrops 1 } }) ∧
    (s.img.image.bind (fun i => i.endpoint) = some e → open_ → s.seq.replay = false → s.sec.session c.session.toNat = none → exec (.serviceCall c) s =
      .next (s.modGw e.gw (fun g => { g with svcRejected := satAdd g.svcRejected 1 }))) ∧
    (s.img.image.bind (fun i => i.endpoint) = some e → open_ → s.seq.replay = false → s.sec.session c.session.toNat = some k →
      Sys2Proof.Config.gcmOpen k.svcKey (svcNonce false c.call.toNat) (svcHeader c.session.toNat c.call.toNat c.len.toNat 0) c.sealed = some plain →
      (∀ m, s.net.lastCall.get c.session.toNat = some m → m.toNat < c.call.toNat) → c.len.toNat ≤ e.payload → plain.length = c.len.toNat →
      let serving := s.servingStep e
      let used := fun (i : Nat) => ∃ y ∈ s.net.calls, y.step.toNat = serving ∧ y.slot = i
      ((∀ i, i < e.calls → used i) → exec (.serviceCall c) s = .next
        (let t := s.modGw e.gw (fun g => { g with svcBusy := satAdd g.svcBusy 1 })
         { t with net := { t.net with callRefusals := t.net.callRefusals ++ [{ session := c.session.toNat, call := c.call, status := 1, src := c.src }] } })) ∧
      (∀ i, i < e.calls → ¬ used i → (∀ j, j < i → used j) → ∃ t, exec (.serviceCall c) s = .next t ∧
        t.net.calls = s.net.calls ++ [{ session := c.session.toNat, call := c.call, step := BitVec.ofNat 64 serving, slot := i, src := c.src }] ∧
        t.net.lastCall = s.net.lastCall.set c.session.toNat (some c.call) ∧ (t.net.gw.get e.gw).svcAdmitted = satAdd (s.net.gw.get e.gw).svcAdmitted 1 ∧
        (s.region e.reqRegion = some r → (∀ a, s.journalWraps = false → s.seq.stalled ≠ [] → memGet t.hbm a = memGet (s.writeRegion r e.reqRegion (e.slotOffset serving i)
          (leBytes 4 c.session.toNat ++ leBytes 8 c.call.toNat ++ leBytes 4 plain.length ++ List.replicate 48 0 ++ (plain ++ List.replicate e.payload 0).take e.payload)).1.hbm a))))

/-- R445, R446, R449, R450, R452, R453, R454, R471: sessions. A report takes the next device signature and a fresh key pair, which is an offer for 60 s; at most 64 offers stay. A spent block of signatures waits for its write or is refused. An OPEN is refused with the status of its first failed condition and counted, and an accepted one
numbers its session, uses its offer up and, for a tenant, draws the keys of the sixteen gate dies. A failed generator, and a second failed unwrap in a row, end in FAULTED. A two-party change lapses after ten minutes. -/
def Obligations.Sessions : Prop :=
  ∀ (via : HelloVia) (nonce : List Byte) (m : OpenMsg) (p : PlazaNo) (r : MewsReq) (w : ReportWait) (o : Offer) (x : PendingChange) (s t0 : State),
    let now := s.top.now
    let path := helloPath via
    let can := s.sec.identity = true ∧ s.sec.trngFailed = false ∧ s.sec.xmssNext < 2 ^ 40
    let spent := s.sec.xmssBlock ≤ s.sec.xmssNext
    let refused := fun (st : Status) => ∃ t, exec (.openSession via m) s = .next t ∧ t.sec.refusals = satAdd s.sec.refusals 1 ∧ t.sec.tenant = s.sec.tenant ∧
      t.sec.clients = s.sec.clients ∧ t.sec.offers = s.sec.offers ∧ t.mem = s.mem ∧ t.top = s.top ∧ (via = .doe → ∃ pre, t.out = pre ++ [.doe [BitVec.ofNat 8 st.code]])
    let formed := m.reserved = 0 ∧ m.role.toNat ≤ 1 ∧ m.flags.toNat ≤ 1
    let confirms := fit 32 m.confirm = shake256 32 (openSecret o m ++ ascii "CNF" ++ leBytes 8 m.offer.toNat)
    let owned := formed ∧ s.sec.lifecycle = 2 ∧ s.offerOf m = some o ∧ confirms
    let idle := s.sec.tenant = none ∧ (s.top.state = .idle ∨ s.top.state = .loaded)
    let imageOk := (∀ b ∈ fit 32 m.image, b = 0) ∨ s.img.image = none ∨ fit 32 m.image = s.imageDigest
    (s.viaUp via = false → exec (.hello via nonce) s = .next s ∧ exec (.openSession via m) s = .next s) ∧
    (s.viaUp via = true → exec (.hello via nonce) s = .next (s.hello { path := path, nonce := nonce })) ∧
    (s.mewsGate opAttest r t0 → t0.mewsState opAttest = true → r.body.length = 32 →
      exec (.attest r) s = .next (t0.hello { path := .mews r.port.val r.tag r.cred r.seq, nonce := r.body })) ∧
    (s.mewsGate opCertChain r t0 → t0.mewsState opCertChain = true → r.body.length = 4 → t0.sec.identity = true →
      let part := ((Sys2Proof.Config.certChain t0.sec.identityGen).drop (16384 * leVal r.body)).take 16384
      part ≠ [] → exec (.certChain r) s = .next (t0.mewsAnswer opCertChain r .ok part)) ∧
    (can → ¬ spent → let t := s.hello w
      t.sec.xmssNext = s.sec.xmssNext + 1 ∧ t.sec.draws = s.sec.draws + 1 ∧ t.sec.nextOffer = s.sec.nextOffer + 1 ∧ t.sec.offers.length ≤ 64 ∧
      (∃ pre rep, t.sec.offers = pre ++ [{ num := s.sec.nextOffer, draw := s.sec.draws, report := rep, made := now }] ∧
        rep.take 16 = leBytes 2 1 ++ leBytes 2 (s.sec.lifecycle + 8 * (if s.sec.rot then 1 else 0) + 16 * (if s.sec.tenant.isSome then 1 else 0) + 32 * (if s.sec.debug then 1 else 0)) ++
          leBytes 4 s.top.identity.toNat ++ leBytes 8 s.sec.policy.toNat ∧
        (w.nonce.length = 32 → (rep.drop 16).take 32 = w.nonce) ∧
        (w.path = .doe → ∃ out sig, t.out = out ++ [.doe (rep ++ sig)] ∧ sig.length = 9893)) ∧ t.top = s.top ∧ t.mem = s.mem) ∧
    (s.sec.identity = false ∨ 2 ^ 40 ≤ s.sec.xmssNext → s.hello w = s.refuseSession w.path .authFailed) ∧
    (can → spent → s.sec.waiting = [] → s.pp.nvOpen = true → s.hello w =
      { s with sec := { s.sec with waiting := [w] }, top := { s.top with nv := s.top.nv ++ [.xmss (s.sec.xmssBlock + 256)] } }) ∧
    (can → spent → s.sec.waiting = [] → s.pp.nvOpen = false → (s.hello w).sec = s.sec ∧ (s.hello w).top = s.top ∧
      (s.hello w).pp.nvBlocked = satAdd s.pp.nvBlocked 1) ∧
    (∀ f, s.offerOf m = some f → f ∈ s.sec.offers ∧ f.num = m.offer.toNat ∧ now < f.made + 60000000000) ∧
    (s.viaUp via = true →
      (¬ formed → refused .badArgument) ∧
      (formed → s.sec.lifecycle ≠ 2 → refused .stateRefused) ∧
      (formed → s.sec.lifecycle = 2 → s.offerOf m = none → refused .authFailed) ∧
      (formed → s.sec.lifecycle = 2 → s.offerOf m = some o → ¬ confirms → refused .authFailed) ∧
      (owned → m.role = 0 → ¬ idle → refused .stateRefused) ∧
      (owned → m.role = 0 → idle → ¬ imageOk → refused .identityMismatch) ∧
      (owned → m.role = 1 → (s.sec.tenant = none ∨ s.img.image = none ∨ ∃ e, s.img.image.bind (fun i => i.endpoint) = some e ∧ e.sessions ≤ s.sec.clients.length) → refused .stateRefused) ∧
      (owned → m.role = 0 → idle → imageOk → ∃ t k, exec (.openSession via m) s = .next t ∧ t.sec.tenant = some k ∧ k.id = s.sec.nextSession ∧
        k.exportOk = decide (m.flags = 1) ∧ k.image = fit 32 m.image ∧ k.secret = shakeDigest (openSecret o m ++ o.report ++ openBytes m) ∧
        t.sec.nextSession = s.sec.nextSession + 1 ∧ t.sec.offers = s.sec.offers.filter (fun y => y.num != o.num) ∧ t.sec.clients = s.sec.clients ∧
        t.sec.epoch = 0 ∧ t.sec.draws = s.sec.draws + 16 ∧ t.sec.refusals = s.sec.refusals ∧ t.top = s.top ∧ t.hbm = s.hbm ∧
        (∀ h, h < 16 → t.mem.get h = { s.mem.get h with keyEven := some (s.sec.draws + h), keyOdd := none, epoch := false }) ∧
        (via = .doe → ∃ pre, t.out = pre ++ [.doe (leBytes 4 s.sec.nextSession ++ leBytes 8 0 ++ shake256 32 (openSecret o m ++ ascii "ACK" ++ leBytes 4 s.sec.nextSession))])) ∧
      (∀ e, owned → m.role = 1 → s.sec.tenant.isSome = true → s.img.image.bind (fun i => i.endpoint) = some e → s.sec.clients.length < e.sessions →
        ∃ t k, exec (.openSession via m) s = .next t ∧ t.sec.clients = s.sec.clients ++ [k] ∧ k.id = s.sec.nextSession ∧ t.sec.nextSession = s.sec.nextSession + 1 ∧
        t.sec.tenant = s.sec.tenant ∧ t.sec.epoch = s.sec.epoch ∧ t.mem = s.mem ∧ t.top = s.top ∧ t.sec.refusals = s.sec.refusals)) ∧
    exec .offerExpiry s = .next { s with sec := { s.sec with offers := s.sec.offers.filter (fun f => decide (now < f.made + 60000000000)) } } ∧
    (∃ t, exec .trngHealthFail s = .next t ∧ t.sec.trngFailed = true ∧ (s.top.state ≠ .off → t.top.state = .faulted) ∧ (s.top.state = .off → t.top = s.top) ∧ t.hbm = s.hbm) ∧
    exec (.keyUnwrap p true) s = .next { s with sec := { s.sec with unwrapFails := s.sec.unwrapFails.set p.val 0 } } ∧
    (s.sec.unwrapFails.get p.val = 0 → ∃ t, exec (.keyUnwrap p false) s = .next t ∧ t.sec = { s.sec with unwrapFails := s.sec.unwrapFails.set p.val 1 } ∧ t.top = s.top ∧
      t.ev.head = s.ev.head + 1) ∧
    (s.sec.unwrapFails.get p.val = 1 → ∃ t, exec (.keyUnwrap p false) s = .next t ∧ t.top.state = .faulted) ∧
    (s.sec.pending = none → exec .quorumLapse s = .next s) ∧
    (s.sec.pending = some x → now < x.since + 600000000000 → exec .quorumLapse s = .next s) ∧
    (s.sec.pending = some x → x.since + 600000000000 ≤ now → ∃ t, exec .quorumLapse s = .next t ∧ t.sec = { s.sec with pending := none } ∧
      t.ev.head = s.ev.head + 1 ∧ t.top = s.top)

/-- R313, R324, R326, R327, R328, R329, R330, R331, R333, R335, R340, R341: a Reach request. It is ignored on an unclaimed sub-port, counted outside LOADED and RUNNING, where it is malformed and in replay, and noted for its REFUSED reply where a condition fails. A SEQ beyond the window or received before is not applied again. A store takes effect at once or waits for the
boundary of its step or for lower SEQ values; too late it is answered LATE; without room, BUSY. A message packet adds 1 to MSGCOUNT, and a flag is held or released in one update. A load is answered with the bytes; each request dealt with is taken into the window. -/
def Obligations.ReachRequests : Prop :=
  ∀ (p : ReachIn) (env : MemEnv) (s u : State) (r : Region) (bs : List Byte),
    let g := p.gw
    let src := p.src.val
    let h := fun (op : Nat) => p.hdr op
    let gw := s.net.gw.get g
    let mod := fun (f : Gateway → Gateway) => s.modGw g f
    let open_ := s.claimed 2 0x11 p.sub.val = true ∧ s.netOpen = true ∧ p.version = 1
    let whole := p.data.length = p.length.toNat
    let mine := open_ ∧ s.seq.replay = false ∧ p.dst.val = s.ownIndex
    let key := winIx src p.engine.toNat
    let win := s.net.wins.get key
    let new := win.has p.seq = false ∧ win.beyond p.seq = false ∧ ∀ k, k < 2 → ∀ x ∈ (s.net.gw.get k).stamped, ¬ (x.src = src ∧ x.hdr.engine = p.engine.toNat ∧ x.hdr.seq = p.seq)
    let taken := fun (t : State) => t.net.wins.get key = win.take p.seq
    let message := p.tally.getLsbD 31 = true
    let flag := p.flags.getLsbD 0 = true
    let dep := p.flags.getLsbD 1 = true
    let reg := p.region.toNat
    let o := p.offset.toNat
    let c := s.seq.current
    let started := s.stepStarted = true
    let room := gw.stampUsed + 64 + p.data.length ≤ 2 ^ 25
    let busy := fun (op : Nat) => (s.reachStatus src (h op) 2).modGw g (fun w => { w with busyTx := satAdd w.busyTx 1 })
    let held := fun (k : Word64) => mod (fun w => { w with stamped := w.stamped ++ [{ src := src, hdr := h 2, data := p.data, step := k }] })
    let all := fun (v : State) => exec (.reachStore p) s = .next v ∧ exec (.reachAtomic p env) s = .next v
    let w := (s.writeRegion r reg o p.data).1
    let applied := fun (v : State) => ∃ t, exec (.reachStore p) s = .next t ∧ t.hbm = v.hbm ∧ t.tags = v.tags ∧ t.mem = v.mem ∧ { t.seq with heldActs := v.seq.heldActs } = v.seq ∧ taken t ∧ t.top = s.top
    let store := mine ∧ whole ∧ new ∧ s.reachRegion (h 2) = some r
    let calm := ∀ k, k < 2 → ∀ x ∈ (s.net.gw.get k).stamped, x.dep = false
    (s.claimed 2 0x11 p.sub.val = false → all s ∧ exec (.reachLoad p env) s = .next s) ∧
    (s.claimed 2 0x11 p.sub.val = true → s.netOpen = false →
      let t := { s with net := { s.net with ports := s.net.ports.mod p.sub.val (fun x => { x with drops := satAdd x.drops 1 }) } }
      all t ∧ exec (.reachLoad p env) s = .next t) ∧
    (s.claimed 2 0x11 p.sub.val = true → s.netOpen = true →
      let t := mod (fun x => { x with badPackets := satAdd x.badPackets 1 })
      (p.version ≠ 1 ∨ ¬ whole → all t) ∧ (p.version ≠ 1 ∨ p.data ≠ [] → exec (.reachLoad p env) s = .next t)) ∧
    (open_ → s.seq.replay = true → p.dst.val = s.ownIndex →
      let t := { s with seq := { s.seq with replayDrops := satAdd s.seq.replayDrops 1 } }
      (whole → all t) ∧ (p.data = [] → exec (.reachLoad p env) s = .next t)) ∧
    (∀ op, op = 1 ∨ op = 2 ∨ op = 3 → (s.reachRegion (h op) = some r ↔ s.region reg = some r ∧ r.exported = true ∧ s.claimed 9 0x11 reg = true ∧ p.key = r.key ∧
      (op = 1 → r.canRead = true) ∧ (op = 2 → r.canWrite = true) ∧ (op = 3 → r.canAtomic = true) ∧ o + p.length.toNat ≤ r.size ∧
      (message → s.claimed 5 0x40 (p.tally.toNat / 2 ^ 16 % 32 * 2 ^ 16 + p.tally.toNat % 2 ^ 16) = true))) ∧
    (∀ op, let t := mod (fun x => { x with refusedTx := satAdd x.refusedTx 1, refusals := x.refusals ++ [(src, h op)] })
      mine → s.reachRegion (h op) = none → (op = 1 → p.data = [] → exec (.reachLoad p env) s = .next t) ∧
        (op = 2 → whole → exec (.reachStore p) s = .next t) ∧ (op = 3 → whole → exec (.reachAtomic p env) s = .next t)) ∧
    (let t := mod (fun x => { x with duplicates := satAdd x.duplicates 1 })
     (mine → win.beyond p.seq = true → (s.reachRegion (h 1) = some r → p.data = [] → exec (.reachLoad p env) s = .next t) ∧
       (s.reachRegion (h 2) = some r → whole → exec (.reachStore p) s = .next t) ∧ (s.reachRegion (h 3) = some r → whole → exec (.reachAtomic p env) s = .next t)) ∧
     (mine → whole → s.reachRegion (h 2) = some r → win.beyond p.seq = false → win.has p.seq = true → exec (.reachStore p) s = .next (t.reachAck g src (h 2)))) ∧
    (∀ v : State, ∀ x : ReachHdr, let t := v.reachDone g src x
      t.net.wins.get (winIx src x.engine) = (v.net.wins.get (winIx src x.engine)).take x.seq ∧ { t with net := v.net, out := v.out, seq := v.seq } = v ∧ { t.seq with heldActs := v.seq.heldActs } = v.seq) ∧
    (win.has p.seq = false → win.beyond p.seq = false → (win.take p.seq).bits.getLsbD 0 = false ∧
      ∀ k : Word, (k - win.base).toNat < 4096 → (win.take p.seq).has k = (decide (k = p.seq) || win.has k)) ∧
    (mine → p.data = [] → new → calm → s.reachRegion (h 1) = some r → ¬ message →
      (s.readRegion r reg o p.length.toNat (24 + g) env false = (u, some bs) → exec (.reachLoad p env) s =
        .next ((u.reachSend src ((h 1).reply 0x81 0 bs.length) bs).reachDone g src (h 1))) ∧
      (s.readRegion r reg o p.length.toNat (24 + g) env false = (u, none) → exec (.reachLoad p env) s = .next ((u.reachStatus src (h 1) 4).reachDone g src (h 1)))) ∧
    (store → message → flag → (s.tally (tallyPlaza p.tally) (tallyIndex p.tally)).held = true → exec (.reachStore p) s = .next (busy 2)) ∧
    (store → ¬ message → calm → ¬ dep ∨ p.seq = win.base → (r.scheduled = false → applied w) ∧
      (r.scheduled = true → ¬ started → p.step = 0 ∨ p.step = c → applied (w.recordInput c 4 reg (o / 32) p.data))) ∧
    (store → ¬ message → r.scheduled = false → dep → p.seq ≠ win.base → exec (.reachStore p) s =
      .next (mod (fun x => { x with stamped := x.stamped ++ [{ src := src, hdr := h 2, data := p.data, dep := true }] }))) ∧
    (store → ¬ message → r.scheduled = true →
      (started → p.step = 0 → exec (.reachStore p) s = .next (if room then held (c + 1) else busy 2)) ∧
      (c.toNat < p.step.toNat → exec (.reachStore p) s = .next (if room then held p.step else busy 2)) ∧
      (calm → p.step ≠ 0 → p.step.toNat < c.toNat ∨ (p.step = c ∧ started) → ∃ t, exec (.reachStore p) s = .next t ∧ t.hbm = s.hbm ∧ { t.seq with heldActs := s.seq.heldActs } = s.seq ∧ taken t ∧
        (t.net.gw.get g).late = satAdd gw.late 1)) ∧
    (r.fits → p.data.length = 64 → o % 64 = 0 → let k := r.unit (o / 64)
      (∀ i, i < 64 → memGet w.hbm (hbmAddr k.1 (64 * k.2) + i) = p.data[i]?) ∧ SameOutside [k] s w) ∧
    (store → message → calm → r.scheduled = false → ¬ dep ∨ p.seq = win.base →
      let a := s.tally (tallyPlaza p.tally) (tallyIndex p.tally)
      a.held = false → ∃ t, exec (.reachStore p) s = .next t ∧ taken t ∧ t.hbm = w.hbm ∧
        t.tally (tallyPlaza p.tally) (tallyIndex p.tally) = (if ¬ flag then { a with msgCount := a.msgCount + 1 }
          else if p.count.toNat ≤ (a.msgCount + 1).toNat then { a with msgCount := a.msgCount + 1 - p.count, flags := a.flags ||| BitVec.ofNat 16 (2 ^ p.hflag.toNat),
                                                                        value := a.value + 1, hflag := p.hflag, htarget := p.count, held := false }
          else { a with msgCount := a.msgCount + 1, hflag := p.hflag, htarget := p.count, held := true })) ∧
    (mine → whole → new → s.reachRegion (h 3) = some r → ¬ message →
      (aopOk p.aop.toNat (p.data.length / 64 - 1) = false → gw.replies.length < 16384 → exec (.reachAtomic p env) s = .next (s.reachStatus src (h 3) 1)) ∧
      (bitAt p.aop.toNat 7 = true → 16384 ≤ gw.replies.length → exec (.reachAtomic p env) s = .next (busy 3)) ∧
      (∀ v old, aopOk p.aop.toNat (p.data.length / 64 - 1) = true → gw.replies.length < 16384 → calm → r.scheduled = false → p.data ≠ [] →
        s.applyAtomic r reg (o / 64) p.aop.toNat ((chunks 64 p.data).length - 1) (24 + g) env (fun i => ((chunks 64 p.data)[i]?).getD []) = (v, old) →
        ∃ t, exec (.reachAtomic p env) s = .next t ∧ t.hbm = v.hbm ∧ t.tags = v.tags ∧ t.mem = v.mem ∧ taken t))

/-- R192, R326, R328, R335, R342, R344, R345, R347: what a gateway does with a request in passing, its timers, and staging over Reach. A store and what does not combine go on by the route; the first LOAD goes at once and an identical one joins it; an atomic waits and absorbs identical ones, and leaves at the end of its window. The REFUSED reply leaves later. A flag held too long sends FETCH_MISSING.
A stored reply expires. STAGE_WRITE writes into the incoming half, and STAGE_LOAD runs the loader's checks, both under STAGE_KEY. -/
def Obligations.ReachService : Prop :=
  ∀ (p : ReachIn) (env : MemEnv) (ue : Option StagedUe) (gn : Fin 2) (dst : Fin 2048) (region offset : Nat) (plaza : PlazaNo) (index : BitVec 16) (engine : Byte) (seq : Word)
      (s : State) (c : Combining) (f : HeldFlag) (x : ReachHdr) (peer : Nat) (rest : List (Nat × ReachHdr)),
    let g := p.gw
    let src := p.src.val
    let h := fun (op : Nat) => p.hdr op
    let gw := s.net.gw.get g
    let open_ := s.claimed 2 0x11 p.sub.val = true ∧ s.netOpen = true ∧ p.version = 1
    let whole := p.data.length = p.length.toNat
    let away := open_ ∧ p.dst.val ≠ s.ownIndex
    let dest := p.dst.val
    let orig := (src, p.engine.toNat, p.seq)
    let more := if c.origs.length = 1 then 2 else 1
    let n := s.net.gw.get gn.val
    let modn := fun (k : Gateway → Gateway) => s.modGw gn.val k
    let due := c.dst = dst.val ∧ c.hdr.region = region ∧ c.hdr.offset = offset ∧ c.hdr.op = 3 ∧ c.sent = none
    let net := fun (t : State) => { t with net := s.net, out := s.out } = s
    let key := winIx src p.engine.toNat
    let win := s.net.wins.get key
    let staged := (∀ k, k < 2 → ∀ x ∈ (s.net.gw.get k).stamped, x.dep = false) ∧ open_ ∧ p.dst.val = s.ownIndex ∧ s.stageKeyOk p.key = true ∧ win.has p.seq = false ∧ win.beyond p.seq = false
    let taken := fun (t : State) => t.net.wins.get key = win.take p.seq
    (away → whole → exec (.reachStore p) s = .next (s.forwardReach dest (h 2) p.data)) ∧
    (∀ op, (h op).combines = true → p.flags.getLsbD 0 = false ∧ p.flags.getLsbD 1 = false ∧ p.tally.getLsbD 31 = false ∧ (op = 1 ∨ op = 3)) ∧
    ((h 1).combines = true ↔ p.flags.getLsbD 0 = false ∧ p.flags.getLsbD 1 = false ∧ p.tally.getLsbD 31 = false) ∧
    (away → p.data = [] → (h 1).combines = false → exec (.reachLoad p env) s = .next (s.forwardReach dest (h 1) [])) ∧
    (away → whole → (h 3).combines = false → exec (.reachAtomic p env) s = .next (s.forwardReach dest (h 3) p.data)) ∧
    (away → p.data = [] → (h 1).combines = true → gw.combining = [] → ∃ t, exec (.reachLoad p env) s = .next t ∧ net t ∧
      (t.net.gw.get g).combining = [{ hdr := h 1, dst := dest, origs := [orig], sent := some (gw.combineSeq.get dest) }] ∧
      (t.net.gw.get g).combineSeq.get dest = gw.combineSeq.get dest + 1) ∧
    (away → p.data = [] → (h 1).combines = true → gw.combining = [c] → sameRequest c.dst dest c.hdr (h 1) = true → c.closed = false → exec (.reachLoad p env) s =
      .next (s.modGw g (fun w => { w with combined := satAdd w.combined more, combining := [{ c with origs := c.origs ++ [orig] }] }))) ∧
    (away → whole → (h 3).combines = true → gw.combining = [] → exec (.reachAtomic p env) s =
      .next (s.modGw g (fun w => { w with combining := [{ hdr := h 3, dst := dest, data := p.data, origs := [orig] }] }))) ∧
    (∀ d, away → whole → (h 3).combines = true → gw.combining = [c] → sameRequest c.dst dest c.hdr (h 3) = true → c.sent = none → combineData p.aop.toNat c.data p.data = some d →
      exec (.reachAtomic p env) s = .next (s.modGw g (fun w => { w with combined := satAdd w.combined more, combining := [{ c with origs := c.origs ++ [orig], data := d }] }))) ∧
    ((∀ y ∈ n.combining, ¬ (y.dst = dst.val ∧ y.hdr.region = region ∧ y.hdr.offset = offset ∧ (y.hdr.op = 1 → y.closed = false) ∧ (y.hdr.op ≠ 1 → y.sent = none))) →
      exec (.combineWindowEnd gn dst region offset) s = .next s) ∧
    (n.combining = [c] → c.dst = dst.val → c.hdr.region = region → c.hdr.offset = offset → c.hdr.op = 1 → c.closed = false →
      exec (.combineWindowEnd gn dst region offset) s = .next (modn (fun w => { w with combining := [{ c with closed := true }] }))) ∧
    (n.combining = [c] → due → c.origs.length ≤ 1 → exec (.combineWindowEnd gn dst region offset) s =
      .next ((modn (fun w => { w with combining := [] })).forwardReach c.dst c.hdr c.data)) ∧
    (n.combining = [c] → due → 2 ≤ c.origs.length → ∃ t, exec (.combineWindowEnd gn dst region offset) s = .next t ∧ net t ∧
      (t.net.gw.get gn.val).combining = [{ c with sent := some (n.combineSeq.get dst.val) }] ∧ (t.net.gw.get gn.val).combineSeq.get dst.val = n.combineSeq.get dst.val + 1 ∧
      (∀ e, s.netOpen = true → s.routeOf dst.val = some e → (s.net.ports.get e.subport).up = true → s.egressFrozen e.subport = false → t.out = s.out ++
        [.net (e.subport / 64) (e.subport % 64) 7 e.ip.toNat ((combinedHdr c.hdr (n.combineSeq.get dst.val)).bytes ++ c.data)])) ∧
    (n.refusals = [] → exec (.refusedReply gn) s = .next s) ∧
    (n.refusals = (peer, x) :: rest → ∃ t, exec (.refusedReply gn) s = .next t ∧ (t.net.gw.get gn.val).refusals = rest ∧
      (∀ e, s.netOpen = true → s.routeOf peer = some e → (s.net.ports.get e.subport).up = true → s.egressFrozen e.subport = false → ∃ post, t.out = s.out ++
        .net (e.subport / 64) (e.subport % 64) 2 e.ip.toNat (x.reply 0x85 1 0).bytes :: post) ∧
      t.ev.head = (if n.refusedSec = some s.second then s.ev.head else s.ev.head + 1) ∧ t.hbm = s.hbm ∧ t.seq = s.seq) ∧
    ((∀ y ∈ n.heldFlags, ¬ (y.plaza = plaza.val ∧ y.index = index.toNat)) → exec (.fenceTimeout gn plaza index) s = .next s) ∧
    (n.heldFlags = [f] → f.plaza = plaza.val → f.index = index.toNat →
      ((s.tally plaza.val index.toNat).held = false → exec (.fenceTimeout gn plaza index) s = .next s) ∧
      ((s.tally plaza.val index.toNat).held = true → ∃ t, exec (.fenceTimeout gn plaza index) s = .next t ∧
        (t.net.gw.get gn.val).fenceTimeouts = satAdd n.fenceTimeouts 1 ∧ (t.net.gw.get gn.val).heldFlags = [{ f with raised := true }] ∧
        t.ev.head = (if f.raised then s.ev.head else s.ev.head + 1) ∧ t.tally plaza.val index.toNat = s.tally plaza.val index.toNat ∧ t.hbm = s.hbm ∧
        (∀ e, s.netOpen = true → s.routeOf f.src = some e → (s.net.ports.get e.subport).up = true → s.egressFrozen e.subport = false → ∃ q post : _, t.out = s.out ++ .net (e.subport / 64) (e.subport % 64) 2 e.ip.toNat q :: post ∧
          (q.drop 8).take 4 = leBytes 4 (f.seq - BitVec.ofNat 32 f.count + 1).toNat ∧ (q.drop 12).take 4 = leBytes 2 512 ++ leBytes 2 f.region ∧
          (q.drop 16).take 8 = leBytes 8 f.offset ∧ (q.drop 40).take 4 = leBytes 4 f.msg.toNat ∧ q.length = 64 + 512))) ∧
    exec (.replyStoreExpiry gn dst engine seq) s =
      .next (modn (fun w => { w with replies := w.replies.filter (fun r => !(r.src == dst.val && r.engine == engine.toNat && r.seq == seq)) })) ∧
    (∀ k, s.stageKeyOk k = true ↔ k ≠ 0 ∧ ∃ r, s.img.image.bind (fun i => i.reach) = some r ∧ r.2.2 = k) ∧
    (open_ → p.dst.val = s.ownIndex → s.stageKeyOk p.key = false →
      let t := fun (op : Nat) => s.modGw g (fun y => { y with refusedTx := satAdd y.refusedTx 1, refusals := y.refusals ++ [(src, h op)] })
      (whole → exec (.stageWrite p) s = .next (t 5)) ∧ (p.data = [] → exec (.stageLoad p ue) s = .next (t 6))) ∧
    (staged → whole → ∃ t, exec (.stageWrite p) s = .next t ∧ taken t ∧ t.hbm = s.hbm ∧ t.top = s.top ∧ { t.seq with heldActs := s.seq.heldActs } = s.seq ∧
      t.img = (if p.offset.toNat + p.data.length ≤ s.img.stagingMiB * 2 ^ 20 then s.img.setIncoming (s.img.incoming.setRun p.offset.toNat p.data) else s.img) ∧
      (∀ e, s.netOpen = true → s.routeOf src = some e → (s.net.ports.get e.subport).up = true → s.egressFrozen e.subport = false → ∃ pre, t.out = pre ++ [.net (e.subport / 64) (e.subport % 64) 2 e.ip.toNat
        ((h 5).reply 0x86 (if p.offset.toNat + p.data.length ≤ s.img.stagingMiB * 2 ^ 20 then 0 else 1) 0).bytes])) ∧
    (staged → p.data = [] → exec (.stageLoad p ue) s = .next (State.cmdLoadImage ue (s.reachDone g src (h 6)) { path := .reach src (h 6), opcode := 1 })) ∧
    (staged → p.data = [] → s.top.state = .running → ∃ t, exec (.stageLoad p ue) s = .next t ∧ taken t ∧ t.img = s.img ∧ t.top = s.top ∧
      (∀ e, s.netOpen = true → s.routeOf src = some e → (s.net.ports.get e.subport).up = true → s.egressFrozen e.subport = false → ∃ pre, t.out = pre ++ [.net (e.subport / 64) (e.subport % 64) 2 e.ip.toNat
        ((h 6).reply 0x86 3 0).bytes]))

/-- R316, R318, R319, R332, R334, R336, R342, R345: Reach at the source. A reply whose slot matches frees it, and the last request of an operation adds 1 to DONE; a load's data goes into LREGION. An ACK completes what it covers and nothing twice. An unmatched reply is counted. BUSY and a missing answer send the request again with RESENT; FETCH_MISSING sends
what it shows missing. A load of the step that is refused fails it, and one in error ends it. The answer to a combined request goes to each original with its own SEQ. -/
def Obligations.ReachReplies : Prop :=
  ∀ (p : ReachIn) (engine : Fin 32) (peer : Fin 2048) (seq : Word) (s : State) (r : ReachReq) (reg : Region) (c : Combining) (a : Nat) (e : Nat) (q : Word),
    let src := p.src.val
    let n := p.engine.toNat
    let bad := s.modGw p.gw (fun x => { x with badPackets := satAdd x.badPackets 1 })
    let mine := s.claimed 2 0x11 p.sub.val = true ∧ s.netOpen = true ∧ p.version = 1 ∧ p.data.length = p.length.toNat ∧ p.dst.val = s.ownIndex
    let own := mine ∧ n < 32
    let slots := (s.net.gw.get (n / 16)).slots
    let g := r.engine / 16
    let ret := bitAt r.hdr.aop 7 = true
    let matched := own ∧ s.slotOf p = some r
    let sent := fun (t : State) (h : ReachHdr) => ∀ x, s.netOpen = true → s.routeOf r.peer = some x → (s.net.ports.get x.subport).up = true → s.egressFrozen x.subport = false →
      t.out = s.out ++ [.net (x.subport / 64) (x.subport % 64) 2 x.ip.toNat (h.bytes ++ r.data)]
    let again := s.resendReach r
    (s.claimed 2 0x11 p.sub.val = false → ∀ i, i ∈ [Instr.loadReply p, .reachAck p, .atomicReply p, .fetchMissing p, .reachStatus p] → exec i s = .next s) ∧
    (s.slotOf p = some r → n < 32 ∧ r ∈ slots ∧ r.engine = n ∧ r.peer = src ∧ r.hdr.seq = p.seq) ∧
    (own → s.slotOf p = none → ∀ i, i ∈ [Instr.loadReply p, .atomicReply p, .reachStatus p] → exec i s = .next bad) ∧
    (matched → r.hdr.op = 1 → p.data.length = r.hdr.length → s.region r.lregion = some reg → exec (.loadReply p) s =
      .next (((s.writeRegion reg r.lregion r.loffset p.data).1).reachComplete r)) ∧
    (matched → r.hdr.op ≠ 1 ∨ p.data.length ≠ r.hdr.length → exec (.loadReply p) s = .next bad) ∧
    (matched → r.hdr.op = 3 → ret → exec (.atomicReply p) s = .next (s.reachComplete r)) ∧
    (matched → r.hdr.op ≠ 3 ∨ ¬ ret → exec (.atomicReply p) s = .next bad) ∧
    ((s.net.gw.get g).queue = [] →
      let t := s.reachComplete r
      let left := (s.net.gw.get g).slots.erase r
      let last := ∀ x ∈ left, ¬ (x.engine = r.engine ∧ x.peer = r.peer ∧ x.opSeq = r.opSeq ∧ x.hdr.op = r.hdr.op)
      let ix := r.done.toNat % 2 ^ 16
      let y := (s.net.gw.get g).tallies.get ix
      (t.net.gw.get g).slots = left ∧ t.net.wins = s.net.wins ∧ { t with net := s.net, seq := s.seq } = s ∧
      (t.net.gw.get g).tallies.get ix = (if r.done.getLsbD 31 = true ∧ last then { y with value := y.value + 1 } else y)) ∧
    (∀ k, ackCovers p k = true ↔ if p.flags.getLsbD 3 = true then k = p.seq
      else 2 ^ 31 ≤ (k - p.seq).toNat ∨ ((k - p.seq).toNat < 4096 ∧ bitAt (leVal p.data) (k - p.seq).toNat = true)) ∧
    (own → slots = [r] → r.engine = n → r.peer = src → r.hdr.op ≠ 1 → r.hdr.op ≠ 3 ∨ ¬ ret → exec (.reachAck p) s =
      .next (if ackCovers p r.hdr.seq then s.reachComplete r else s)) ∧
    (own → (∀ x ∈ slots, x.engine = n → x.peer = src → x.hdr.op = 1 ∨ (x.hdr.op = 3 ∧ bitAt x.hdr.aop 7 = true) ∨ ackCovers p x.hdr.seq = false) →
      exec (.reachAck p) s = .next s) ∧
    (own → slots = [r] → r.engine = n → r.peer = src → (r.hdr.seq - p.seq).toNat < p.count.toNat → exec (.fetchMissing p) s =
      .next (if bitAt (leVal p.data) (r.hdr.seq - p.seq).toNat then s else again)) ∧
    (own → (∀ x ∈ slots, x.engine = n → x.peer = src → p.count.toNat ≤ (x.hdr.seq - p.seq).toNat) → exec (.fetchMissing p) s = .next bad) ∧
    (matched → p.status = 2 → exec (.reachStatus p) s = .next s) ∧
    (matched → p.status ≠ 2 → r.hdr.op = 1 →
      (p.status = 1 → exec (.reachStatus p) s = .next ((s.reachComplete r).loadRefused r)) ∧
      (p.status = 4 → r.step = (s.reachComplete r).seq.current → exec (.reachStatus p) s = .next ((s.reachComplete r).hwFault .reachError)) ∧
      (p.status ≠ 1 → p.status ≠ 4 ∨ r.step ≠ (s.reachComplete r).seq.current → exec (.reachStatus p) s = .next (s.reachComplete r))) ∧
    (matched → p.status ≠ 2 → r.hdr.op = 3 → ret → exec (.reachStatus p) s = .next (s.reachComplete r)) ∧
    (matched → r.hdr.op = 2 ∨ (r.hdr.op = 3 ∧ ¬ ret) → exec (.reachStatus p) s = .next s) ∧
    (∃ t, s.loadRefused r = t ∧ t.ev.head = s.ev.head + 1 ∧ t.net = s.net ∧ t.hbm = s.hbm ∧
      t.seq.exe.failed = (if s.executing = true ∧ r.step = s.seq.current then true else s.seq.exe.failed)) ∧
    ((∀ x ∈ (s.net.gw.get (engine.val / 16)).slots, ¬ (x.engine = engine.val ∧ x.peer = peer.val ∧ x.hdr.seq = seq)) →
      exec (.reachResendTimer engine peer seq) s = .next s) ∧
    ((s.net.gw.get (engine.val / 16)).slots = [r] → r.engine = engine.val → r.peer = peer.val → r.hdr.seq = seq → s.netOpen = true →
      exec (.reachResendTimer engine peer seq) s = .next again ∧ sent again { r.hdr with flags := r.hdr.flags ||| 4 } ∧
      (again.net.gw.get g).slots = [{ r with hdr := { r.hdr with flags := r.hdr.flags ||| 4 } }] ∧
      (again.net.gw.get g).resent.get (r.engine % 16) = satAdd ((s.net.gw.get g).resent.get (r.engine % 16)) 1 ∧ { again with net := s.net, out := s.out } = s) ∧
    (mine → p.engine = 0xFF → (s.net.gw.get 0).combining = [c] → (s.net.gw.get 1).combining = [] → c.dst = src → c.sent = some p.seq → c.origs = [(a, e, q)] →
      let answered := fun (i : Instr) (h : ReachHdr) (bs : List Byte) => ∃ t, exec i s = .next t ∧ (t.net.gw.get 0).combining = [] ∧ { t with net := s.net, out := s.out } = s ∧
        ∀ x, s.netOpen = true → s.routeOf a = some x → (s.net.ports.get x.subport).up = true → s.egressFrozen x.subport = false →
          t.out = s.out ++ [.net (x.subport / 64) (x.subport % 64) 2 x.ip.toNat ({ h with engine := e, seq := q }.bytes ++ bs)]
      (c.hdr.op = 1 → answered (.loadReply p) (p.hdr 0x81) p.data ∧ answered (.reachStatus p) (p.hdr 0x85) []) ∧
      (c.hdr.op = 3 → p.flags.getLsbD 3 = true → answered (.reachAck p) { p.hdr 0x82 with flags := p.flags ||| 8, length := 0 } []) ∧
      (c.hdr.op ≠ 1 → exec (.loadReply p) s = .next bad)) ∧
    (mine → 32 ≤ p.engine.toNat → p.engine ≠ 0xFF → exec (.reachAck p) s = .next bad) ∧
    (mine → p.engine = 0xFF → (s.net.gw.get 0).combining = [] → (s.net.gw.get 1).combining = [] →
      exec (.loadReply p) s = .next bad ∧ exec (.reachStatus p) s = .next bad ∧ exec (.reachAck p) s = .next s)

/-- R476, R477, R481, R483, R484, R486: the Public and Read requests of Mews, HOST_COMMAND and the MCTP endpoint. GET_INFO, REG_READ, EVENT_READ and MAP_READ answer with their bytes and change nothing else; REG_READ reads what a host read of each register gives, and moves no select. EVENT_ACK sets the Mews tail, MAP_ACK the map acknowledgement. A request with no authority, out of its
states or malformed is answered with its status. A HOST_COMMAND takes its answer to Mews. The endpoint answers the five control messages of MCTP; the layouts of the bodies (log 63) and of the control messages (log 36) are the model's. -/
def Obligations.MewsServes : Prop :=
  ∀ (m : MewsReq) (port : Fin 2) (tag : Fin 8) (op : BitVec 2) (eid type sel : Byte) (addr : BitVec 7) (k : Byte) (s t0 : State),
    let b := m.body
    let num := fun (i n : Nat) => leVal ((b.drop i).take n)
    let answer := fun (t : State) (o : MewsOp) (body : List Byte) => (Host.Outcome.next (t.mewsAnswer o m .ok body) : Res)
    let runs := fun (o : MewsOp) => s.mewsGate o m t0 ∧ t0.mewsState o = true
    let say := fun (bs : List Byte) => if s.mewsUp then s.emit (.mctp port.val bs) else s
    let table := ([(.getInfo m, opGetInfo), (.regRead m, opRegRead), (.eventRead m, opEventRead), (.eventAck m, opEventAck), (.mapRead m, opMapRead), (.mapAck m, opMapAck),
      (.attest m, opAttest), (.certChain m, opCertChain)] : List (Instr × MewsOp))
    (s.mewsUp = false → ∀ c ∈ table, exec c.1 s = .next s) ∧
    (s.mewsUp = true → 4 ≤ s.mews.openReqs.get m.port.val → ∀ c ∈ table, exec c.1 s =
      .next { s with mews := { s.mews with drops := min 0xFFFF (s.mews.drops + 1) } }) ∧
    (∀ o u body, let t := s.mewsAnswer o m u body
      t.mews.openReqs = s.mews.openReqs.set m.port.val (s.mews.openReqs.get m.port.val - 1) ∧
      (∃ auth, t.out = s.out ++ [.mews m.port.val (([1, BitVec.ofNat 8 o.code] : List Byte) ++ leBytes 2 m.tag.toNat ++ [m.cred, BitVec.ofNat 8 u.code] ++ leBytes 2 body.length ++
        leBytes 8 m.seq.toNat ++ body ++ auth)]) ∧ { t with mews := s.mews, out := s.out } = s) ∧
    (runs opGetInfo → b = [] → exec (.getInfo m) s = answer t0 opGetInfo (([1] : List Byte) ++ leBytes 4 t0.top.identity.toNat ++
      [BitVec.ofNat 8 t0.top.state.code, BitVec.ofNat 8 t0.sec.lifecycle, BitVec.ofNat 8 (if t0.sec.rot then 1 else 0)] ++ leBytes 8 (Sys2Proof.Config.trng t0.mews.boot).toNat ++
      (List.range 16).flatMap (fun i => leBytes 8 (match t0.mews.seqs.get i with | none => 0 | some x => x.toNat + 1)))) ∧
    (runs opRegRead → b.length = 8 → num 0 4 % 4 = 0 → 1 ≤ num 4 4 → num 4 4 ≤ 64 → num 0 4 + 4 * num 4 4 ≤ 2 ^ 26 → exec (.regRead m) s =
      answer t0 opRegRead ((List.range (num 4 4)).flatMap (fun i => leBytes 4 (t0.regRead (num 0 4 + 4 * i)).toNat))) ∧
    (runs opRegRead → b.length = 16 → isSelect (num 8 4) = true → num 0 4 % 4 = 0 → 1 ≤ num 4 4 → num 4 4 ≤ 64 → num 0 4 + 4 * num 4 4 ≤ 2 ^ 26 → exec (.regRead m) s =
      answer t0 opRegRead ((List.range (num 4 4)).flatMap (fun i => leBytes 4 ((t0.regWrite (num 8 4) (BitVec.ofNat 32 (num 12 4))).regRead (num 0 4 + 4 * i)).toNat))) ∧
    (runs opEventRead → b.length = 8 →
      let first := max (max 1 (num 0 8)) (t0.ev.head.toNat - 8191)
      exec (.eventRead m) s = answer t0 opEventRead (leBytes 8 first ++ ((List.range (min 64 (t0.ev.head.toNat + 1 - first))).map (fun i => first + i)).flatMap (fun n =>
        match t0.ev.ring.get (n % 8192) with | some r => r.bytes | none => []))) ∧
    (runs opEventAck → b.length = 8 → exec (.eventAck m) s = answer { t0 with ev := { t0.ev with mewsTail := BitVec.ofNat 64 (num 0 8) } } opEventAck []) ∧
    (runs opMapRead → b.length = 12 → num 0 4 ≤ 1 → num 8 4 ≤ 16384 → num 4 4 + num 8 4 ≤ 2 ^ 18 → ∃ bs : List Byte, exec (.mapRead m) s = answer t0 opMapRead bs ∧ bs.length = num 8 4 ∧
      ∀ i, i < num 8 4 → bs[i]? = some (if t0.blockOpen .pbl then (((if num 0 4 = 0 then t0.blv.map0 else t0.blv.map1)[num 4 4 + i]?).getD 0) else 0)) ∧
    (runs opMapAck → b.length = 4 → exec (.mapAck m) s = answer (t0.regWrite 0x1000048 (BitVec.ofNat 32 (num 0 4))) opMapAck []) ∧
    (s.mewsGate hostCommandOp m t0 → b.length = 52 → t0.mews.recovery = false → t0.mewsFree hostCommandOp →
      (num 0 4 = 0 ∨ 12 < num 0 4 → ∃ t w, exec (.hostCommand m) s = .next t ∧ t = t0.mewsAnswer hostCommandOp m .unknownCommand w ∧ w.length = 36) ∧
      (num 0 4 = 7 → num 4 4 = 3 → (∀ i, 8 ≤ i → i < 52 → b[i]? = some 0) → bitAt 0xFE t0.top.state.code = true →
        ∃ w, exec (.hostCommand m) s = answer t0 hostCommandOp w ∧ w.length = 36 ∧ (w.drop 4).take 4 = leBytes 4 (if t0.sec.tenant.isSome then 1 else 0) ∧
          (w.drop 8).take 8 = leBytes 8 t0.sec.epoch.toNat)) ∧
    (s.mewsGate hostCommandOp m t0 → b.length ≠ 52 → ∃ w, exec (.hostCommand m) s = .next (t0.mewsAnswer hostCommandOp m .badArgument w) ∧ w.length = 36) ∧
    (mewsCodes.contains k.toNat = true → exec (.unknownCommand (.mews k m)) s = .next s) ∧
    (mewsCodes.contains k.toNat = false → s.mewsGate { code := k.toNat, cls := .anyone, accept := 0xFF, recovery := true } m t0 → ∃ o : MewsOp, o.code = k.toNat ∧
      exec (.unknownCommand (.mews k m)) s = .next (t0.mewsAnswer o m .unknownCommand [])) ∧
    exec (.mewsMessageTimeout port tag) s = .next { s with mews := { s.mews with parts := s.mews.parts.filter (fun p => !(p.port == port.val && p.tag == tag.val)) } } ∧
    (op.toNat ≤ 1 → eid ≠ 0 → eid ≠ 0xFF → s.mewsUp = true → ∃ t, exec (.setEndpointId port op eid) s = .next t ∧ t.mews.eids.get port.val = eid.toNat ∧
      exec (.getEndpointId port) t = .next (t.emit (.mctp port.val [0x02, 0x00, eid, 0x00, 0x00])) ∧ { t with mews := s.mews, out := s.out } = s) ∧
    (op.toNat = 2 ∨ op.toNat = 3 ∨ eid = 0 ∨ eid = 0xFF → exec (.setEndpointId port op eid) s = .next (say [0x01, 0x02])) ∧
    exec (.getEndpointId port) s = .next (say [0x02, 0x00, BitVec.ofNat 8 (s.mews.eids.get port.val), 0x00, 0x00]) ∧
    exec (.getMctpVersionSupport port type) s = .next (say (if type = 0xFF ∨ type = 0x00 ∨ type = 0x7E then [0x04, 0x00, 0x01, 0xF1, 0xF3, 0xF1, 0x00] else [0x04, 0x80])) ∧
    exec (.getMessageTypeSupport port) s = .next (say [0x05, 0x00, 0x01, 0x7E]) ∧
    (sel = 0 → ∃ v : List Byte, v.length = 2 ∧ exec (.getVendorDefinedMessageSupport port sel) s = .next (say ([0x06, 0x00, 0xFF, 0x00] ++ v ++ [0x00, 0x00]))) ∧
    (sel ≠ 0 → exec (.getVendorDefinedMessageSupport port sel) s = .next (say [0x06, 0x02])) ∧
    exec (.i3cAddressAssigned addr) s = .next (if s.mewsUp then { s with mews := { s.mews with i3c := some addr } } else s)

/-- R476, R479, R480, R481, R482, R483, R488: who may ask what of Mews. A slot's request carries the tag of its key and a SEQ above the last one; a signed one a signature over its digest. A request that fails authentication is answered without AUTH and counts nothing; one without the authority of its class, with ST_AUTH_FAILED; one out of its states, while a command runs or
PARK is under way, with ST_STATE_REFUSED. In recovery only the recovery subset is served. -/
def Obligations.MewsAuthority : Prop :=
  ∀ (m : MewsReq) (o : MewsOp) (wires : List WireTest) (waves : List WaveRef) (s t0 : State),
    let n := m.cred.toNat
    let open_ := s.mews.openReqs.get m.port.val
    let u := { s with mews := { s.mews with openReqs := s.mews.openReqs.set m.port.val (open_ + 1) } }
    let a := u.mewsAuth o.code m
    let header := fun (op : Nat) => ([1, BitVec.ofNat 8 op] ++ leBytes 2 m.tag.toNat ++ [m.cred, 0] ++ leBytes 2 m.body.length ++ leBytes 8 m.seq.toNat : List Byte)
    let above := fun (last : Option Word64) => ∀ x, last = some x → x.toNat < m.seq.toNat
    let l := s.sec.lifecycle
    let table := ([(.timeSource m, opTimeSource), (.fieldTest m wires waves, opFieldTest), (.fwCommit m, opFwCommit)] : List (Instr × MewsOp))
    (∀ op, n < 16 → (s.mewsAuth op m ≠ .bad ↔ ∃ c, s.mews.creds.get n = some c ∧ above (s.mews.seqs.get n) ∧
      m.auth = leBytes 16 (Sys2Proof.Config.kmac c.key (ascii "MEWS") (leBytes 8 (Sys2Proof.Config.trng s.mews.boot).toNat ++ header op ++ m.body)).toNat)) ∧
    (∀ op c, n < 16 → s.mews.creds.get n = some c → s.mewsAuth op m ≠ .bad → s.mewsAuth op m = .slot c.operate) ∧
    (∀ op, n = 0xFF → s.mewsAuth op m = (if m.auth = [] then .nobody else .bad)) ∧
    (∀ op k sig, m.auth = k :: sig → n = 0xFE → (s.mewsAuth op m = .owner ↔ (s.sec.owners.get k.toNat).length = 68 ∧ sig.length = 2820 ∧ above s.mews.signedSeq ∧
      Sys2Proof.Config.xmssVerify (s.sec.owners.get k.toNat) (s.signedDigest op m) sig = true)) ∧
    (∀ op k sig, m.auth = k :: sig → n = 0xFD → (s.mewsAuth op m = .maker ↔ (Sys2Proof.Config.makerKey k.toNat).length = 68 ∧ sig.length = 2820 ∧ above s.mews.signedSeq ∧
      Sys2Proof.Config.xmssVerify (Sys2Proof.Config.makerKey k.toNat) (s.signedDigest op m) sig = true)) ∧
    (∀ op, 16 ≤ n → n < 0xFD → s.mewsAuth op m = .bad) ∧
    (∀ q, s.mewsMay o q = true ↔ match o.cls with
      | .anyone => True
      | .reader => l = 2 → q = .slot true ∨ q = .slot false
      | .operator => (s.mews.recovery = true ∧ (o.code = 0x30 ∨ o.code = 0x31)) ∨
          (l = 2 ∧ s.sec.rot = false ∧ q = .slot true) ∨ (l = 2 ∧ s.sec.rot = true ∧ q = .owner) ∨ (l ≠ 2 ∧ l ≠ 4 ∧ q = .maker)
      | .signed => (l = 2 ∧ q = .owner) ∨ (l ≠ 2 ∧ l ≠ 4 ∧ q = .maker)
      | .quorum => l ≠ 4) ∧
    (∀ c ∈ table, s.mewsUp = true → open_ < 4 → c.2 = o → a = .bad → ∃ t, exec c.1 s = .next t ∧
      t.mews.openReqs.get m.port.val = open_ ∧ t.mews.seqs = s.mews.seqs ∧ t.mews.signedSeq = s.mews.signedSeq ∧ t.top = s.top ∧ t.sec = s.sec ∧
      t.ev.head = (if s.mews.authSec = some s.second then s.ev.head else s.ev.head + 1) ∧
      ∃ pre, t.out = pre ++ [.mews m.port.val (([1, BitVec.ofNat 8 o.code] : List Byte) ++ leBytes 2 m.tag.toNat ++ [m.cred, 5] ++ leBytes 2 0 ++ leBytes 8 m.seq.toNat)]) ∧
    (∀ c ∈ table, s.mewsUp = true → open_ < 4 → c.2 = o → a ≠ .bad → (u.takeSeq m a).mewsMay o a = false →
      exec c.1 s = .next ((u.takeSeq m a).mewsAnswer o m .authFailed [])) ∧
    (∀ c ∈ table, s.mewsGate o m t0 → c.2 = o → m.body ≠ [] → exec c.1 s = .next (t0.mewsAnswer o m .badArgument [])) ∧
    (∀ c ∈ table, s.mewsGate o m t0 → c.2 = o → m.body = [] → t0.mewsState o = false ∨ t0.host.running.isSome = true →
      exec c.1 s = .next (t0.mewsAnswer o m .stateRefused [])) ∧
    (s.mewsGate o m t0 → { t0 with mews := s.mews } = s ∧ t0.mews.openReqs.get m.port.val = open_ + 1 ∧
      (∀ b, a = .slot b → t0.mews.seqs.get n = some m.seq) ∧ (a = .owner ∨ a = .maker → t0.mews.signedSeq = some m.seq)) ∧
    (s.mewsState o = (if s.mews.recovery then o.recovery else bitAt o.accept s.top.state.code))

/-- R192, R208, R246, R392, R421, R440, R476, R481, R488, R498, R499, R502: the Operate requests of Mews. STAGE_WRITE writes the incoming half; TIME_SOURCE turns SYNC_IO to PPS unless it is claimed; FREQ_SET writes a target; CONDUCTOR_RESET releases a LOCKED_OUT conductor (log 35 of another); FIELD_TEST gives a pass bit for each plaza; MGMT_NET_SET adds at most two addresses; FW_WRITE fills the
buffer, FW_COMMIT verifies it and writes the store in 64 blocks, each in its temperature window, and ends after the last. The layouts of the bodies are the model's (log 63). -/
def Obligations.MewsOperates : Prop :=
  ∀ (m : MewsReq) (wires : List WireTest) (waves : List WaveRef) (s t0 : State) (a : BitVec 128),
    let b := m.body
    let num := fun (i n : Nat) => leVal ((b.drop i).take n)
    let at_ := fun (i : Nat) => ((b[i]?).getD 0).toNat
    let may := fun (o : MewsOp) => s.mewsGate o m t0 ∧ t0.mewsFree o
    let ends := fun (c : Instr) (o : MewsOp) (t : State) (st : Status) (body : List Byte) => exec c s = .next (t.mewsAnswer o m st body)
    let mews := fun (f : Mews → Mews) => { t0 with mews := f t0.mews }
    let off := num 0 8
    let data := b.drop 8
    let one := decide (at_ 0 = 1)
    let me := if one then t0.cond.c1 else t0.cond.c0
    (may opStageWrite → 8 ≤ b.length →
      (off + data.length ≤ t0.img.stagingMiB * 2 ^ 20 → ends (.mewsStageWrite m) opStageWrite { t0 with img := t0.img.setIncoming (t0.img.incoming.setRun off data) } .ok []) ∧
      (t0.img.stagingMiB * 2 ^ 20 < off + data.length → ends (.mewsStageWrite m) opStageWrite t0 .badArgument [])) ∧
    (may opTimeSource → b = [] →
      (t0.img.image = none → ends (.timeSource m) opTimeSource (mews (fun x => { x with timeSource := true })) .ok []) ∧
      (∀ i, t0.img.image = some i → (i.claimOf 1 0).isSome = true → ends (.timeSource m) opTimeSource t0 .claimed []) ∧
      (∀ i, t0.img.image = some i → (i.claimOf 1 0).isSome = false → ends (.timeSource m) opTimeSource (mews (fun x => { x with timeSource := true })) .ok [])) ∧
    (may opFreqSet → b.length = 2 → at_ 0 ≤ 7 → at_ 1 ≤ 127 → ∃ u, ends (.freqSet m) opFreqSet u .ok [] ∧ (u.shal (at_ 0)).clk.target = BitVec.ofNat 32 (at_ 1) ∧
      (∀ n, n ≠ at_ 0 → u.shal n = t0.shal n) ∧ u.top = t0.top ∧ u.hbm = t0.hbm ∧ u.seq = t0.seq) ∧
    (may opConductorReset → b.length = 1 → at_ 0 ≤ 1 →
      (me.state = .lockedOut → ∃ u, ends (.conductorReset m) opConductorReset u .ok [] ∧ { u with cond := t0.cond } = t0 ∧
        (if one then u.cond.c1 else u.cond.c0) = { me with state := .failed } ∧ (if one then u.cond.c0 else u.cond.c1) = (if one then t0.cond.c0 else t0.cond.c1) ∧
        u.cond.stages = t0.cond.stages ∧ u.cond.active = t0.cond.active) ∧
      (me.state ≠ .lockedOut → ends (.conductorReset m) opConductorReset t0 .stateRefused [])) ∧
    (may opFieldTest → b = [] → ∃ u v, ends (.fieldTest m wires waves) opFieldTest u .ok (leBytes 4 v.toNat) ∧ v = t0.fieldVerdict wires waves ∧
      (∀ p, p < 27 → (∃ w ∈ waves, w.src.val = p ∨ w.dst.val = p) → (v : Word).getLsbD p = false) ∧ (∀ p, p < 27 → v.getLsbD p = false → v.getLsbD 31 = false) ∧
      (wires = [] → waves = [] → (∀ p, p < 27 → v.getLsbD p = t0.groupsWithin p) ∧ u.ev.head = t0.ev.head + 1 ∧ Quiet t0 u)) ∧
    (may opMgmtNetSet → b.length = 17 → a = BitVec.ofNat 128 (num 1 16) →
      let l := t0.mews.ipv6
      let o := opMgmtNetSet
      (at_ 0 = 0 → a ∉ l → l.length < 2 → ends (.mgmtNetSet m) o (mews (fun x => { x with ipv6 := l ++ [a] })) .ok []) ∧
      (at_ 0 = 0 → a ∈ l → ends (.mgmtNetSet m) o t0 .ok []) ∧ (at_ 0 = 0 → a ∉ l → 2 ≤ l.length → ends (.mgmtNetSet m) o t0 .badArgument []) ∧
      (at_ 0 = 1 → a ∈ l → ends (.mgmtNetSet m) o (mews (fun x => { x with ipv6 := l.erase a })) .ok []) ∧ (at_ 0 = 1 → a ∉ l → ends (.mgmtNetSet m) o t0 .badArgument [])) ∧
    (may opFwWrite → 8 ≤ b.length → off + data.length ≤ 2 ^ 26 → ends (.fwWrite m) opFwWrite (mews (fun x => { x with fwBuf := x.fwBuf.setRun off data })) .ok []) ∧
    (may opFwWrite → 8 ≤ b.length → 2 ^ 26 < off + data.length → ends (.fwWrite m) opFwWrite t0 .badArgument []) ∧
    (may opFwCommit → b = [] →
      (t0.fwValid t0.mews.fwBuf = false → ends (.fwCommit m) opFwCommit t0 .authFailed []) ∧
      (t0.fwValid t0.mews.fwBuf = true → t0.pp.nvOpen = false → ∃ u, ends (.fwCommit m) opFwCommit u .temperatureBlocked [] ∧ u.mews = t0.mews ∧ u.top = t0.top ∧
        u.pp.nvBlocked = satAdd t0.pp.nvBlocked 1) ∧
      (t0.fwValid t0.mews.fwBuf = true → t0.pp.nvOpen = true → exec (.fwCommit m) s = .next { t0 with
        mews := { t0.mews with fwLeft := 64, fwWhole := false }, host := { t0.host with running := some (mewsCmd opFwCommit m) } })) ∧
    (s.mews.fwLeft = 0 → exec .fwBlockWrite s = .next s) ∧
    (0 < s.mews.fwLeft → s.pp.nvOpen = false → ∃ t, exec .fwBlockWrite s = .next t ∧ t.mews = s.mews ∧ t.pp.nvBlocked = satAdd s.pp.nvBlocked 1 ∧ t.host.running = s.host.running) ∧
    (1 < s.mews.fwLeft → s.pp.nvOpen = true → exec .fwBlockWrite s = .next { s with mews := { s.mews with
      fwStore := copyBlock s.mews.fwStore s.mews.fwBuf (64 - s.mews.fwLeft), fwLeft := s.mews.fwLeft - 1 } }) ∧
    (s.mews.fwLeft = 1 → s.pp.nvOpen = true → s.host.running = some (mewsCmd opFwCommit m) → ∃ t, exec .fwBlockWrite s = .next t ∧ t.mews.fwLeft = 0 ∧ t.mews.fwWhole = true ∧
      t.mews.fwStore = copyBlock s.mews.fwStore s.mews.fwBuf 63 ∧ t.host.running = none ∧ t.ev.head = s.ev.head + 1 ∧ t.mews.recovery = false ∧
      (s.mews.recovery = true → t.top.phase = 1) ∧ (s.mews.recovery = false → t.top = s.top) ∧
      (∃ pre auth, t.out = pre ++ [.mews m.port.val (([1, 0x31] : List Byte) ++ leBytes 2 m.tag.toNat ++ [m.cred, 0] ++ leBytes 2 0 ++ leBytes 8 m.seq.toNat ++ auth)])) ∧
    (∀ k x, k < 64 → x < 2 ^ 26 → s.mews.fwStore.wf = true → s.mews.fwBuf.wf = true → (copyBlock s.mews.fwStore s.mews.fwBuf k).get x =
      if x / 2 ^ 20 = k then s.mews.fwBuf.get x else s.mews.fwStore.get x)

/-- R261, R374, R402, R440, R449, R467, R469, R470, R471, R473, R479, R481: two-party changes, credentials and what a completed non-volatile write leaves. A change takes effect at the second valid signature of a distinct key over the same digest; the first is pending; another digest, the same key, a wrong COUNTER or a bad signature changes nothing. A transition by the maker
alone writes its fuses; one out of OWNED sweeps first. A write that completes lands in the fuses, and what waited for it goes on. The layout of the bodies is the model's (log 60, log 63). -/
def Obligations.TwoPartyChanges : Prop :=
  ∀ (m : MewsReq) (c : ChangeBody) (w : NvWrite) (rest : List NvWrite) (s t0 : State) (x : PendingChange),
    let o := opChange c.kind
    let d := t0.changeDigest c.kind c.counter (c.params ++ c.makerBytes)
    let may := s.mewsGate o m t0 ∧ t0.mewsFree o ∧ changeBody m.body = some c ∧ s.changeParamsOk c = true ∧ m.cred = 0xFF
    let signed := c.counter = (t0.sec.changes + 1).toNat ∧ signatureOk (t0.changeKey c) d c.sig = true
    let ends := fun (t : State) (st : Status) => exec (.changeSubmit m) s = .next (t.mewsAnswer o m st [])
    let fresh := ∀ y, t0.sec.pending = some y → t0.top.now < y.since + 600000000000
    let plain := may ∧ fresh ∧ c.kind ≠ 5 ∧ (c.kind = 4 → t0.sec.tenant = none)
    let second := t0.sec.pending = some x ∧ x.digest = d ∧ x.signer ≠ c.key
    let target := ((c.params[0]?).getD 0).toNat
    let auth := lifeAuth t0.sec.lifecycle target
    let b := m.body
    let at_ := fun (i : Nat) => ((b[i]?).getD 0).toNat
    let done := fun (k : Sec) => { k with changes := t0.sec.changes + 1, pending := none }
    (changeBody m.body = none → s.mewsGate (opChange 0) m t0 → exec (.changeSubmit m) s = .next (t0.mewsAnswer (opChange 0) m .badArgument [])) ∧
    (changeBody m.body = some c → s.mewsGate o m t0 → s.changeParamsOk c = false ∨ m.cred ≠ 0xFF → ends t0 .badArgument) ∧
    (c.kind ≠ 5 → t0.changeKey c = if t0.sec.lifecycle = 2 then t0.sec.owners.get c.key else []) ∧
    (may → fresh → c.kind = 4 → t0.sec.tenant.isSome = true → ends t0 .stateRefused) ∧
    (may → fresh → ¬ signed → (c.kind = 4 → t0.sec.tenant = none) → ends t0 .authFailed) ∧
    (plain → signed → t0.sec.pending = none → ∃ u, ends u .quorumPending ∧ Quiet { t0 with sec := u.sec } u ∧ u.ev.head = t0.ev.head + 1 ∧
      u.sec = { t0.sec with pending := some { kind := c.kind, digest := d, params := c.params, signer := c.key, since := t0.top.now } }) ∧
    (plain → signed → t0.sec.pending = some x → x.digest ≠ d → ends t0 .stateRefused) ∧
    (plain → signed → t0.sec.pending = some x → x.digest = d → x.signer = c.key → ends t0 .authFailed) ∧
    (plain → signed → second → ∃ u, ends u .ok ∧ Quiet { t0 with sec := u.sec } u ∧ u.ev.head = t0.ev.head + 1 ∧
      (c.kind = 1 → u.sec = done { t0.sec with rot := decide (target = 1) }) ∧
      (c.kind = 2 → u.sec = done { t0.sec with policy := BitVec.ofNat 64 (leVal c.params) }) ∧
      (c.kind = 3 → (∀ i, u.sec.owners.get i = ((chunks 68 c.params)[i]?).getD []) ∧ u.sec = done { t0.sec with owners := u.sec.owners }) ∧
      (c.kind = 4 → u.sec = done { t0.sec with debug := true }) ∧
      (c.kind = 6 → (∀ i, u.sec.fwSigners.get i = ((chunks 68 c.params)[i]?).getD []) ∧ u.sec = done { t0.sec with fwSigners := u.sec.fwSigners })) ∧
    (may → fresh → c.kind = 5 → auth = some .maker → signed →
      (t0.pp.nvOpen = true → exec (.changeSubmit m) s = .next { t0 with
        host := { t0.host with running := some (mewsCmd o m) }, top := { t0.top with nv := t0.top.nv ++ [.lifecycle target (c.params.drop 1)] } }) ∧
      (t0.pp.nvOpen = false → ∃ u, ends u .temperatureBlocked ∧ u.sec = t0.sec ∧ u.top = t0.top ∧ u.pp.nvBlocked = satAdd t0.pp.nvBlocked 1)) ∧
    (may → fresh → c.kind = 5 → auth = some .twoMaker → signed → t0.makerOk c = false → ends t0 .authFailed) ∧
    (may → fresh → c.kind = 5 → t0.sec.lifecycle = 2 → auth = some .two ∨ (auth = some .twoMaker ∧ t0.makerOk c = true) → signed → second → ∃ t, exec (.changeSubmit m) s = .next t ∧
      t.top.state = .sweeping ∧ t.top.sweepPhase = 1 ∧ t.top.after = .lifecycle target (c.params.drop 1) ∧ t.sec = t0.sec ∧ t.host.running = some (mewsCmd o m) ∧ t.hbm = t0.hbm) ∧
    (lifeAuth 0 1 = some .maker ∧ lifeAuth 1 2 = some .twoMaker ∧ lifeAuth 2 1 = some .two ∧ lifeAuth 2 3 = some .twoMaker ∧ lifeAuth 3 1 = some .maker ∧
      lifeAuth 0 4 = some .maker ∧ lifeAuth 1 4 = some .maker ∧ lifeAuth 3 4 = some .maker ∧ lifeAuth 2 4 = some .two ∧ ∀ k, lifeAuth 4 k = none) ∧
    (s.mewsGate opCredSet m t0 → t0.mewsFree opCredSet → b.length = 40 → at_ 0 ≤ 15 → at_ 1 ≤ 2 → (∀ i, 2 ≤ i → i < 8 → at_ i = 0) → ∃ u,
      exec (.credSet m) s = .next (u.mewsAnswer opCredSet m .ok []) ∧ Quiet { t0 with mews := u.mews } u ∧ u.ev.head = t0.ev.head + 1 ∧
      { u.mews with creds := t0.mews.creds } = t0.mews ∧ ∀ n, u.mews.creds.get n = if n ≠ at_ 0 then t0.mews.creds.get n
        else if at_ 1 = 0 then none else some { key := BitVec.ofNat 256 (leVal (b.drop 8)), operate := decide (at_ 1 = 2) }) ∧
    (s.top.nv = [] → exec .nvWriteDone s = .next s) ∧
    (s.top.nv = w :: rest →
      let t := { s with top := { s.top with nv := rest } }
      (∀ sh pod, w = .retire sh pod → s.top.state ≠ .loaded → s.host.running = none → exec .nvWriteDone s = .next (t.modPod sh pod (fun p => { p with fused := true }))) ∧
      (∀ k, w = .xmss k → s.sec.waiting = [] → exec .nvWriteDone s = .next { t with sec := { t.sec with xmssBlock := k, waiting := [] } }) ∧
      (∀ k, w = .lampP0 k → exec .nvWriteDone s = .next (t.modLamp k (fun y => { y with storedP0 := y.p0, storedI0 := y.i0 }))) ∧
      (∀ k v, w = .bondLog k v → ∃ u, exec .nvWriteDone s = .next u ∧ u.blv.logged = s.blv.logged + 1 ∧ u.top = t.top) ∧
      (∀ k ps, w = .lifecycle k ps → s.host.running = none → ∃ u, exec .nvWriteDone s = .next u ∧ u.sec.lifecycle = k ∧ u.sec.changes = s.sec.changes + 1 ∧ u.sec.pending = none ∧
        u.ev.head = s.ev.head + 1 ∧ (s.sec.lifecycle = 2 → u.mews.creds = {} ∧ (k ≠ 2 → u.sec.owners = {} ∧ u.sec.policy = 0 ∧ u.sec.rot = false)) ∧
        (k = 4 → u.sec.identity = false) ∧ (s.sec.lifecycle = 0 → k = 1 → u.sec.identity = true ∧ u.sec.identityGen = s.sec.identityGen + 1) ∧
        (∀ q, k = 2 → ownedParams ps = some q → u.sec.rot = q.rot ∧ u.sec.policy = q.policy ∧ ∀ i, u.sec.owners.get i = (q.owners[i]?).getD [])))

/-- R388, R426, R436, R471, R489, R493, R494, R495, R496, R497: resets. A package reset, by pin or Mews, loses everything but fuses, keys, credentials, signing state, time, BOOT and the event ring, and starts bring-up. A plaza reset ends the run, unloads the image, freezes the arbiters and resets the die, after a sweep where a tenant session is open; at its end the die is back
and the freeze is over. A shallot reset ends a run that places it and keeps only its fuses; a hot shallot waits. Losing VDD_AON is OFF, and with it go the ring and the sequence numbers. -/
def Obligations.Resets : Prop :=
  ∀ (m : MewsReq) (pcUp : BitVec 7) (sh : Fin 8) (io : Bool) (s t0 : State) (r : PlazaRst),
    let at_ := fun (i : Nat) => ((m.body[i]?).getD 0).toNat
    let body := m.body.length = 8 ∧ ∀ i, 2 ≤ i → i < 8 → at_ i = 0
    let may := s.mewsGate opReset m t0 ∧ t0.mewsFree opReset ∧ body
    let run := some (mewsCmd opReset m)
    let fresh := fun (u t : State) => t.img = {} ∧ t.seq = {} ∧ t.net = {} ∧ t.cond = {} ∧ t.mem = {} ∧ t.hbm = [] ∧ t.tags = {} ∧ t.pp = {} ∧
      t.sec.tenant = none ∧ t.sec.clients = [] ∧ t.sec.offers = [] ∧ t.sec.debug = false ∧ t.sec.lifecycle = u.sec.lifecycle ∧ t.sec.owners = u.sec.owners ∧ t.sec.policy = u.sec.policy ∧
      t.sec.xmssBlock = u.sec.xmssBlock ∧ t.mews.boot = u.mews.boot ∧ t.mews.creds = u.mews.creds ∧ t.mews.fwStore = u.mews.fwStore ∧ t.mews.ipv6 = [] ∧
      (∀ n p, n < 8 → (t.pod n p).fused = (u.pod n p).fused ∧ (t.pod n p).store = {} ∧ (t.pod n p).bundles = {}) ∧ ∀ n, n < 8 → (t.shal n).placed = false ∧ (t.shal n).tallies = {}
    let booted := fun (u t : State) => fresh u t ∧ t.top.state = .bringup ∧ t.top.phase = 1 ∧ t.top.now = u.top.now ∧ t.top.identity = u.top.identity ∧
      (u.host.linkUp = false ∨ u.top.parking = true → t.ev.head = u.ev.head + 1 ∧ t.ev.mewsTail = u.ev.mewsTail ∧
        ∀ k, k ≠ (u.ev.head + 1).toNat % 8192 → t.ev.ring.get k = u.ev.ring.get k) ∧
      (u.host.linkUp = true → u.top.parking = false → t.ev.head = u.ev.head + 2)
    let p := at_ 1
    let kind := (arbUnits p).1
    let n := sh.val
    let x := s.shal n
    (may → at_ 0 = 0 → p = 0 → t0.sec.pending = none → t0.top.nv = [] → ∃ t, exec (.packageReset m) s = .next t ∧ booted t0 t ∧ t.host.running = run ∧ t.mews.seqs = t0.mews.seqs) ∧
    (s.top.aon = true → s.top.pkgRst = false → s.sec.pending = none → s.top.nv = [] → ∃ t, exec .pkgRstAssert s = .next t ∧ fresh s t ∧ t.top.pkgRst = true ∧ t.top.phase = 0 ∧
      t.top.state = .bringup ∧ (s.host.linkUp = false ∨ s.top.parking = true → t.ev.ring = s.ev.ring ∧ t.ev.head = s.ev.head) ∧
      (s.host.linkUp = true → s.top.parking = false → t.ev.head = s.ev.head + 1) ∧ t.host.running = none) ∧
    (s.top.aon = false ∨ s.top.pkgRst = true → exec .pkgRstAssert s = .next s) ∧
    (s.top.aon = true → s.top.pkgRst = true → ∃ t, exec .pkgRstRelease s = .next t ∧ t.top = { s.top with pkgRst := false, phase := 1 } ∧ t.ev.head = s.ev.head + 1 ∧
      { t with top := s.top, ev := s.ev, host := s.host, out := s.out } = s) ∧
    (s.top.aon = false ∨ s.top.pkgRst = false → exec .pkgRstRelease s = .next s) ∧
    (s.top.aon = true → ∃ t, exec (.vddAonLoss io) s = .next t ∧ t.top.state = .off ∧ t.top.aon = false ∧ t.img = {} ∧ t.seq = {} ∧ t.hbm = [] ∧ t.sec.tenant = none ∧
      t.sec.xmssNext = s.sec.xmssBlock ∧ t.sec.lifecycle = s.sec.lifecycle ∧ t.mews.creds = s.mews.creds ∧
      (io = true → t.ev.ring = s.ev.ring ∧ t.ev.head = s.ev.head ∧ t.mews.seqs = s.mews.seqs) ∧ (io = false → t.ev = {} ∧ t.mews.seqs = {} ∧ t.mews.signedSeq = none)) ∧
    (may → at_ 0 = 1 → 8 ≤ p → p ≤ 25 → t0.sec.tenant.isSome = true → t0.resetMoves = true → ∃ t, exec (.plazaReset m) s = .next t ∧ t.top.state = .sweeping ∧ t.top.sweepPhase = 1 ∧
      t.top.after = .plaza p ∧ t.host.running = run) ∧
    (may → at_ 0 = 1 → 8 ≤ p → p ≤ 25 → t0.sec.tenant = none ∨ t0.resetMoves = false → ∃ t, exec (.plazaReset m) s = .next t ∧ t.img.image = none ∧
      (p = 24 ∨ (t0.host.linkUp = true → t.host.linkUp = true)) ∧ (p = 24 → t.host.linkUp = false ∧ t.host.ready = false) ∧
      (t.top.state = .faulted ∨ (t.top.plazaReset = some { plaza := p, loaded := t0.img.image.isSome } ∧ (t0.img.image.isSome = true → t0.resetMoves = true → t.top.state = .idle) ∧ t.host.running = run)) ∧
      (p < 24 → t.mem.get (p - 8) = { scrubPasses := (t0.mem.get (p - 8)).scrubPasses } ∧ ∀ h, h < 16 → h ≠ p - 8 → (t.mem.get h).valid = (t0.mem.get h).valid ∧ (t.mem.get h).keyEven = (t0.mem.get h).keyEven) ∧
      (24 ≤ p → t.net.gw.get (p - 24) = {} ∧ t.net.gw.get (25 - p) = t0.net.gw.get (25 - p)) ∧
      (∀ u, u < (arbUnits p).2 → (t.arb (arbIx kind p u)).freeze = true) ∧ (t.sec.transport.get p).isSome = true) ∧
    (s.top.plazaReset = none → exec (.plazaResetDone pcUp) s = .next s) ∧
    (s.top.plazaReset = some r → r.plaza < 26 → 8 ≤ r.plaza → ∃ t, exec (.plazaResetDone pcUp) s = .next t ∧ t.top.plazaReset = none ∧ t.top.state = s.top.state ∧
      (∀ u, u < (arbUnits r.plaza).2 → (t.arb (arbIx (arbUnits r.plaza).1 r.plaza u)).freeze = false) ∧
      (r.plaza < 24 → (t.mem.get (r.plaza - 8)).valid = decide (64 ≤ pcUp.toNat) ∧ (t.mem.get (r.plaza - 8)).down = decide (pcUp.toNat < 64)) ∧
      (s.host.running = run → t.host.running = none)) ∧
    (may → at_ 0 = 2 → p = n → (t0.shal n).pwr.tripped = true → (t0.shal n).pwr.cooled t0.top.now = false → exec (.shallotReset m) s = .next
      ({ t0 with host := { t0.host with running := run } }.modSh n (fun h => { h with pwr := { h.pwr with resetWaits := true } }))) ∧
    (may → at_ 0 = 2 → p = n → (t0.shal n).pwr.tripped = false ∨ (t0.shal n).pwr.cooled t0.top.now = true → ∃ t, exec (.shallotReset m) s = .next t ∧
      (t.shal n).resetting = true ∧ (t.shal n).placed = (t0.shal n).placed ∧ (t.shal n).fenced = false ∧ (t.shal n).tallies = {} ∧ t.img = t0.img ∧ t.top = t0.top ∧ t.sec = t0.sec ∧
      (∀ q, (t.pod n q).store = {} ∧ (t.pod n q).accs = {} ∧ (t.pod n q).fused = (t0.pod n q).fused) ∧ t.host.running = run ∧
      (t0.executing = true → (t0.shal n).placed = true → t.seq.phase = .restore ∧ t.seq.exe.verdict = some (.fail 3)) ∧ (t0.executing = false ∨ (t0.shal n).placed = false → t.seq = t0.seq)) ∧
    (x.resetting = false → ∀ f, exec (.shallotResetDone sh f) s = .next s) ∧
    (x.resetting = true → s.img.image = none → ∃ t, exec (.shallotResetDone sh []) s = .next t ∧ (t.shal n).resetting = false ∧ (t.shal n).bondsUp = true ∧
      (s.host.running = run → t.host.running = none) ∧ t.top = s.top ∧ t.img = s.img)

/-- R191, R265, R274, R384, R391, R444, R485, R488, R489, R491, R492: bring-up. Power-up starts phase 1, with the time at 0 and BOOT drawn where VDD_AON had gone. Valid firmware runs and the package is BRINGUP; otherwise recovery. Rails, joins with the conductors' claims, lamps, calibration, stacks with their staging halves, ports and the self-test follow; a phase that does not run changes nothing.
At the end the package is IDLE, an UNPARK or RESET ends, and failed pods and shallots are retired and fenced. -/
def Obligations.BringUp : Prop :=
  ∀ (down : List StackDown) (c0 c1 : Bool) (fails : List BistFail) (f : BistFail) (s : State),
    let ph := fun (n : Nat) => { s with top := { s.top with phase := n } }
    let q := s.cond
    let up := fun (h : Nat) => ∀ d ∈ down, d.stack.val ≠ h
    let ended := fun (t : State) => (∀ c, s.host.running = some c → c.opcode = 6 ∨ c.mewsOp = 0x32 → t.host.running = none)
    let first := fun (e : PhaseEnd) => match e with
      | .firmware => 1 | .rails => 2 | .joins _ _ _ _ => 3 | .lamps => 3 | .calibration => 5 | .trainStacks _ => 6 | .ports => 7 | .selfTest _ => 8
    (s.top.aon = true → exec .vddAonUp s = .next s) ∧
    (s.top.aon = false → s.top.ioOnly = false → ∃ t, exec .vddAonUp s = .next t ∧ t.top = { s.top with aon := true, ioOnly := false, now := 0, phase := 1 } ∧
      t.mews.boot = s.sec.draws ∧ t.sec.draws = s.sec.draws + 1 ∧ t.ev.head = s.ev.head + 1 ∧ t.host.running = s.host.running ∧ t.hbm = s.hbm) ∧
    (s.top.aon = false → s.top.ioOnly = true → ∃ t, exec .vddAonUp s = .next t ∧ t.top = { s.top with aon := true, ioOnly := false, phase := 1 } ∧ t.mews = s.mews ∧ t.sec = s.sec) ∧
    (∀ e, s.top.phase ≠ first e → exec (.bringupPhaseEnd e) s = .next s) ∧
    (s.top.phase = 1 → s.storeValid = true → ∃ t, exec (.bringupPhaseEnd .firmware) s = .next t ∧
      t.top = { s.top with state := .bringup, phase := 2, phase3 := false, phase4 := false } ∧ t.mews.recovery = false ∧ { t with top := s.top, mews := s.mews } = s) ∧
    (s.top.phase = 1 → s.storeValid = false → ∃ t, exec (.bringupPhaseEnd .firmware) s = .next t ∧ t.top = { s.top with state := .off, phase := 0 } ∧ t.mews.recovery = true ∧
      t.ev.head = s.ev.head + 1 ∧ t.host.running = none) ∧
    (s.top.phase = 2 → exec (.bringupPhaseEnd .rails) s = .next (ph 3)) ∧
    (s.top.phase = 3 → s.top.phase3 = true → ∀ a b, exec (.bringupPhaseEnd (.joins c0 c1 a b)) s = .next s) ∧
    (s.top.phase = 3 → s.top.phase3 = false → c0 = true ∨ c1 = true → ∃ t, exec (.bringupPhaseEnd (.joins c0 c1 [] [])) s = .next t ∧
      t.top.phase3 = true ∧ t.top.timeBase = s.top.now ∧ t.top.state = s.top.state ∧ t.top.phase = (if s.top.phase4 then 5 else 3) ∧
      t.cond.active = !c0 ∧ t.cond.c0.state = (if c0 then .active else .failed) ∧ t.cond.c1.state = (if c1 = false then .failed else if c0 then .standby else .active) ∧
      t.cond.c0.claim = (if c0 then 2 else 1) ∧ t.cond.c1.claim = (if c0 then 1 else 2) ∧
      (∀ k, k < 40 → stageExists k = true → (t.cond.stages.get k).claim0 = t.cond.c0.claim ∧ (t.cond.stages.get k).claim1 = t.cond.c1.claim) ∧
      (∀ p, p < 26 → t.sec.transport.get p = some (s.sec.draws + p)) ∧ t.sec.draws = s.sec.draws + 26 ∧ t.blv.trained = true ∧ t.hbm = s.hbm) ∧
    (s.top.phase = 3 → s.top.phase3 = false → ∃ t, exec (.bringupPhaseEnd (.joins false false [] [])) s = .next t ∧ t.top.state = .faulted) ∧
    (s.top.phase = 3 → s.crossfadesDue = true → exec (.bringupPhaseEnd .lamps) s = .next s) ∧
    (s.top.phase = 3 → s.crossfadesDue = false → exec (.bringupPhaseEnd .lamps) s = .next (if s.top.phase3 then
        { s with top := { s.top with phase4 := true, phase := 5 }, lamp := { s.lamp with calPhase := 1 } } else { s with top := { s.top with phase4 := true } })) ∧
    (s.top.phase = 5 → exec (.bringupPhaseEnd .calibration) s = .next (if s.lamp.calPhase = 0 then ph 6 else s)) ∧
    (s.top.phase = 6 → s.sec.trngFailed = false → ∃ t, exec (.bringupPhaseEnd (.trainStacks down)) s = .next t ∧ t.top = { s.top with phase := 7 } ∧
      (∀ h, h < 16 → (t.mem.get h).down = !decide (up h) ∧ (t.mem.get h).valid = decide (up h) ∧ (up h → (t.mem.get h).pcUp = 64)) ∧
      t.img.stagingMiB = 512 * countOf 16 (fun h => decide (up h)) ∧ t.sec.staging = some s.sec.draws ∧ t.sec.draws = s.sec.draws + 1 ∧ t.hbm = s.hbm) ∧
    (s.top.phase = 7 → exec (.bringupPhaseEnd .ports) s = .next (ph 8)) ∧
    (s.top.phase = 8 → ∃ t, exec (.bringupPhaseEnd (.selfTest fails)) s = .next t ∧ t.top.state = .idle ∧ t.top.phase = 0 ∧ t.top.unparking = false ∧ ended t ∧ t.hbm = s.hbm ∧
      t.sec = s.sec ∧ t.img = s.img) ∧
    (s.top.phase = 8 → (s.shal f.sh.val).fenced = false → ∃ t, exec (.bringupPhaseEnd (.selfTest [f])) s = .next t ∧
      (f.test.val ≤ 1 → (t.shal f.sh.val).fenced = true) ∧ (2 ≤ f.test.val → f.pod.val ∈ (t.shal f.sh.val).bistRetired))

/-- R485, R486, R487: the event log. An event takes the next SEQ and stands at ring index SEQ modulo 8,192 with time, step, code, source, flags and detail, in 64 bytes with a CRC; no other record changes. Overwriting a record above a tail raises that tail's loss count and sets its flag. With IRQ_EN and records above HOST_TAIL the vector is signalled, at
most once per 10 µs; what was held back is signalled once when they are over. -/
def Obligations.EventLog : Prop :=
  ∀ (code plaza unit : Nat) (detail : List Byte) (s : State), s.ev.head.toNat + 1 < 2 ^ 64 → detail.length ≤ 28 →
    let t := s.raise code plaza unit detail
    let n := s.ev.head.toNat + 1
    let loses := fun (tail : Word64) => 8192 ≤ s.ev.head.toNat ∧ tail.toNat < n - 8192
    let valid := s.top.state = .loaded ∨ s.top.state = .running
    let v := s.eventVector
    let asks := s.ev.irqEn = true ∧ s.ev.hostTail.toNat < n
    let masked := s.host.masked v = true ∨ s.host.canSend = false
    let pends := s.ev.irqPending = true ∧ s.ev.irqEn = true ∧ s.ev.hostTail.toNat < s.ev.head.toNat
    (t.ev.head = s.ev.head + 1 ∧ (∀ k, k ≠ n % 8192 → t.ev.ring.get k = s.ev.ring.get k) ∧ Quiet s t ∧ t.ev.hostTail = s.ev.hostTail ∧ t.ev.mewsTail = s.ev.mewsTail ∧ t.ev.irqEn = s.ev.irqEn) ∧
    (∃ r, t.ev.ring.get (n % 8192) = some r ∧ r.bytes.length = 64 ∧ r.bytes.take 8 = leBytes 8 n ∧ (r.bytes.drop 8).take 8 = leBytes 8 (s.top.now % 2 ^ 64) ∧
      (valid → (r.bytes.drop 16).take 8 = leBytes 8 s.seq.current.toNat) ∧ (¬ valid → (r.bytes.drop 16).take 8 = leBytes 8 0) ∧
      (r.bytes.drop 24).take 2 = leBytes 2 (code % 2 ^ 16) ∧ (r.bytes.drop 26).take 2 = leBytes 2 (plaza % 32 * 2048 + unit % 2048) ∧
      ((r.bytes.drop 28).take 2 = leBytes 2 ((if valid then 1 else 0) + (if loses s.ev.hostTail then 2 else 0) + (if loses s.ev.mewsTail then 4 else 0))) ∧
      (r.bytes.drop 32).take detail.length = detail ∧ r.bytes.drop 60 = leBytes 4 (crc32c (r.bytes.take 60)).toNat) ∧
    (t.ev.hostLost = (if loses s.ev.hostTail then satAdd s.ev.hostLost 1 else s.ev.hostLost) ∧
      t.ev.mewsLost = (if loses s.ev.mewsTail then satAdd s.ev.mewsLost 1 else s.ev.mewsLost)) ∧
    (¬ asks → t.host = s.host ∧ t.out = s.out ∧ t.ev.holdOff = s.ev.holdOff ∧ t.ev.irqPending = s.ev.irqPending) ∧
    (asks → s.ev.holdOff = true → t.host = s.host ∧ t.out = s.out ∧ t.ev.holdOff = true ∧ t.ev.irqPending = true) ∧
    (asks → s.ev.holdOff = false → t.ev.holdOff = true ∧ (¬ masked → t.out = s.out ++ [.msix v] ∧ t.host = s.host) ∧
      (masked → t.out = s.out ∧ t.host = { s.host with pba := s.host.pba ||| BitVec.ofNat 64 (2 ^ v) })) ∧
    (pends → exec .eventIrqTimer s = .next ({ s with ev := { s.ev with irqPending := false, holdOff := true } }.msix v)) ∧
    (¬ pends → exec .eventIrqTimer s = .next { s with ev := { s.ev with irqPending := false, holdOff := false } }) ∧
    ((∃ i, s.img.image = some i ∧ i.claims.all (fun x => !(x.resource == 4 && x.feature == 0x31)) = true) ∨ s.img.image = none → v = 0)

/-- R110, R113, R114, R116, R126, R129, R132, R133, R134, R148: a slot command in a form that the image loader refuses stops with the refusal loaderRefuses, and in every other form it does not. -/
def Obligations.LoaderRefusesForms : Prop :=
  ∀ (r : PodRef) (v : VecArgs) (a : AccArgs) (w : RowArgs) (env : RowEnv) (s : State),
    let refused := fun (c : Instr) => exec c s = .refused .loaderRefuses
    let two := ¬ (v.s = true ∧ 16 ≤ v.b.toNat)
    let d3 := v.d.toNat % 8
    (∀ c, c ∈ [Instr.vecAdd r v, .vecSub r v, .adds r v, .subs r v, .mullo r v, .shl r v, .shr r v, .shru r v, .vecMin r v, .vecMax r v, .minu r v, .maxu r v, .vecAnd r v, .vecOr r v,
      .vecXor r v, .vecSel r v] → (refused c ↔ ¬ two)) ∧
    (refused (.mulr r v) ↔ ¬ (two ∧ v.w = 2)) ∧ (refused (.vecScale r v) ↔ ¬ (v.s = false ∧ v.b.toNat % 2 = 0)) ∧
    (∀ c, c ∈ [Instr.cmpeq r v, .cmplt r v, .cmpltu r v] → (refused c ↔ ¬ (two ∧ d3 ≠ 0))) ∧
    (∀ c, c ∈ [Instr.clz r v, .rsum r v, .rmax r v, .rmin r v, .topk r v] → (refused c ↔ v.s = true)) ∧
    (∀ c, c ∈ [Instr.widen r v, .widenu r v, .narrow r v] → (refused c ↔ ¬ (v.s = false ∧ (v.w = 0 ∨ (v.w = 1 ∧ v.q < 2))))) ∧
    (∀ c, c ∈ [Instr.fexp2 r v, .flog2 r v, .frcp r v, .frsq r v, .ftanh r v, .fsigm r v, .fsgate r v] → (refused c ↔ ¬ (v.s = false ∧ v.w = 2))) ∧
    (refused (.rssq r v) ↔ ¬ (v.s = false ∧ v.w ≠ 2)) ∧ (refused (.gather r v) ↔ ¬ (v.s = false ∧ v.b.toNat + 31 ≤ 4095)) ∧
    (refused (.scatter r v) ↔ ¬ (v.s = false ∧ v.d.toNat + 31 ≤ 4095)) ∧
    (∀ c, c ∈ [Instr.ldk r v, .zout r v, .zacc r v, .tkmerge r v, .tkout r v, .tkclr r v, .rowsel r v] → (refused c ↔ ¬ (v.pred = 0 ∧ v.s = false))) ∧
    (refused (.zclr r v) ↔ ¬ (v.pred = 0 ∧ v.s = false ∧ v.b.toNat % 4 < 3)) ∧
    (∀ c, c ∈ [Instr.zrcp r v, .zrsq r v] → (refused c ↔ ¬ (v.pred = 0 ∧ v.s = false ∧ v.d.toNat % 2 = 0 ∧ v.b.toNat % 32 ≤ 30))) ∧
    (∀ c, c ∈ [Instr.pset r v, .pld r v] → (refused c ↔ ¬ (v.pred = 0 ∧ v.s = false ∧ d3 ≠ 0))) ∧
    (∀ c, c ∈ [Instr.accClear r a, .accSnap r a] → (refused c ↔ ¬ (a.src = .accs ∨ a.src = .lanes))) ∧
    (refused (.narrow96 r a) ↔ ¬ ((a.src = .accs ∨ a.src = .snap) ∧ a.part.val < 2)) ∧ (refused (.wide192 r a) ↔ ¬ (a.src = .accs ∨ a.src = .snap)) ∧
    (refused (.out32 r a) ↔ ¬ ((a.src = .lanes ∨ a.src = .snap) ∧ a.part.val < 2)) ∧ (refused (.accAdd96 r a) ↔ ¬ (a.src = .accs ∧ a.part.val < 2)) ∧
    (∀ c, c ∈ [Instr.accAdd192 r a, .load192 r a] → (refused c ↔ a.src ≠ .accs)) ∧ (refused (.accAdd32 r a) ↔ ¬ (a.src = .lanes ∧ a.part.val < 2)) ∧
    (∀ c, c ∈ [Instr.rowRead r w env, .rowWrite r w env, .rowZero r w env] → (refused c ↔ w.fpair ≠ 0)) ∧
    (refused (.loadw r w env) ↔ pairOf w.fpair.toNat = none) ∧ (refused (.loadc r w env) ↔ ¬ (w.part.val < 4 ∧ w.fpair = 0x0D)) ∧
    (refused (.loads r w env) ↔ ¬ ∃ x, pairOf w.fpair.toNat = some x ∧ w.part.val * 64 + x.scaleBytes ≤ 512)

/-- The block takes its commands in the order in which they wait: a step with command c at the front of the queue is exec of c on the state with the queue's rest. -/
def Obligations.FrontCommandRuns : Prop :=
  ∀ (c : Instr) (rest : List Instr) (s : State), step { s with pending := c :: rest } = exec c { s with pending := rest }

/-- The model's choice (log 1; no rule fixes what a step without a command is). R149, R156: with no command waiting and no clock period ended, one nanosecond passes: the time rises by 1, the clock of every powered
shallot moves on by 25 times its code, and nothing else changes. Where a period has ended (the phase of a powered shallot has reached 1,000, more after a droop), it passes and the time stands: every other
shallot and everything outside shallots, arbiters, hold counts of streets, events, outputs, the queue and the sequencer's first-time flags stays, and the phase of a shallot in no step falls by the length of the period. -/
def Obligations.IdleStep : Prop :=
  ∀ (s : State), s.pending = [] →
    let due := fun (n : Nat) => (s.shal n).powered = true ∧ 1000 + 250 * (s.shal n).clk.stretch ≤ (s.shal n).clk.phase
    ∃ t, step s = .next t ∧ t.hbm = s.hbm ∧ t.tags = s.tags ∧ t.mem = s.mem ∧ t.net = s.net ∧ t.img = s.img ∧ { t.blv with arbs := s.blv.arbs, streets := s.blv.streets } = s.blv ∧ t.cond = s.cond ∧ t.mews = s.mews ∧
      t.sec = s.sec ∧ (∀ n, n < 8 → (s.shal n).powered = false → t.shal n = s.shal n) ∧
      ((∀ n, n < 8 → ¬ due n) → t.top = { s.top with now := s.top.now + 1 } ∧ { t with top := s.top, sh := s.sh } = s ∧
        ∀ n, n < 8 → (s.shal n).powered = true → t.shal n = { s.shal n with clk := { (s.shal n).clk with phase := (s.shal n).clk.phase + 25 * (s.shal n).clk.runCode } }) ∧
      ((∃ n, n < 8 ∧ due n) → t.top = s.top ∧ (∀ n, n < 8 → ¬ due n → t.shal n = s.shal n) ∧
        ∀ n, n < 8 → due n → (s.shal n).inStep = false →
          (t.shal n).clk = { (s.shal n).clk with phase := (s.shal n).clk.phase - (1000 + 250 * (s.shal n).clk.stretch), stretch := 0 })

/-- R251, R333, R356, R364, R371, R429, R441, R450, R453, R474, R485, R489: the state right after a package reset: BRINGUP in phase 1, no image, no session, no key, empty queues and counts; offers and sessions are numbered from 1; the slew budgets, the coolant limit, the frequency targets and the share of the stacks stand at their reset values; in each bank of
lamps three are ACTIVE and the fourth is a cold spare. -/
def Obligations.ResetState : Prop :=
  let s := State.reset
  s.top.state = .bringup ∧ s.top.phase = 1 ∧ s.img.image = none ∧ s.sec.tenant = none ∧ s.sec.clients = [] ∧ s.sec.nextSession = 1 ∧ s.sec.nextOffer = 1 ∧ s.sec.epoch = 0 ∧
    s.sec.staging = none ∧ s.host.busy = false ∧ s.host.running = none ∧ s.seq.stopAt = none ∧ s.seq.phase = .idle ∧ s.seq.ring = [] ∧ s.pending = [] ∧
    s.pp.slew = 0x00400010 ∧ s.pp.pkgSlew = 0x01000040 ∧ s.pp.coolant = 0x1680 ∧ s.ev.head = 0 ∧
    (∀ n, n < 8 → (s.shal n).clk.target = 0x3C ∧ (s.shal n).placed = false) ∧
    (∀ h, h < 16 → (s.mem.get h).share = 0x4B ∧ (s.mem.get h).keyEven = none ∧ (s.mem.get h).keyOdd = none ∧ (s.mem.get h).keyRun = none) ∧
    (∀ k, s.net.wins.get k = { base := 0, bits := 0 }) ∧
    (∀ l, l < 32 → (s.lamp.lamps.get l).state = (if l % 4 = 3 then .spareCold else .active)) ∧
    s.regRead 0x14 = 0 ∧ s.cond.c0.state = .off ∧ s.cond.c1.state = .off

/-- The state right after reset meets the invariant that every step keeps. -/
def Obligations.ResetMeetsInvariant : Prop := State.reset.Inv

/-- Every step keeps the invariant: the bytes of the stacks and the tags of their units stay in canonical form, whatever command is at the front of the queue. -/
def Obligations.EveryStepKeepsInvariant : Prop := ∀ s t : State, s.Inv → step s = .next t → t.Inv

/-- R111, R113, R117, R160, R163, R164, R167, R168, R170, R172, R173, R175, R176, R181, R211, R246, R253, R254, R255, R256, R258, R259, R261, R265, R267, R268, R297: where the STREAM slot, the lamp, calibration and recess commands and the commands of the step sequencer complete, and what they then do: every clause ends in the next state of the command's own effect, under conditions on the state and the
operands alone. -/
def Obligations.LightAndStepCommandsComplete : Prop :=
  ∀ (p : PodRef) (a : ArrArgs) (w : PairInfo) (l : Fin 32) (f : Int) (ps : Nat) (p0 : BitVec 16) (g : LaneRef) (cal : CalReading) (readings : List CalReading) (weak : List WaveRef)
    (us : Nat) (overdue : Bool) (twins : List TwinReport) (member : Fin 2048) (step tm : Word64) (s : State) (k : Nat) (rec : JRecord) (since o : Nat) (i : Image) (d : Nat × Nat × Nat),
    let q := s.podOf p
    let x := s.lamp.lamps.get l.val
    let u := s.grantIdle
    let e := s.seq.exe
    let lamp := fun (f : Lamp → Lamp) => s.modLamp l.val f
    let running := s.top.state = .running
    let waits := running ∧ s.seq.phase = .barrier ∧ s.seq.ownReady = some o
    let inDomain := s.img.image = some i ∧ i.domain = some d
    let drained := running ∧ s.seq.phase = .drain ∧ e.ending = none ∧ e.flights = [] ∧ s.loadsDone = true
    let clean := e.failed = false ∧ s.cond.twins = 0 ∧ (∀ n, n < 8 → (s.shal n).placed = true → (s.shal n).arithStatus &&& 6 = 0 ∧ (s.shal n).arithStatus &&& 1 = 0) ∧ s.seq.raises = []
    (pairOf (q.banks.get a.bank.val).fpair.toNat = some w → (a.a32 = true → w.a32 = true) → a.ofs.toNat + w.k / 32 ≤ w.a.blocks → ∃ ts reps, ts.length = w.n ∧
      exec (.stream p a) s = .next ((s.withPod p (q.push (s.beatOf p + 4 + w.v) (if a.a32 then .laneTerms ts else .accTerms ts))).told p reps)) ∧
    (x.state.lit = true → ∃ t, exec (.fadeValue l f) s = .next t ∧ (x.state ≠ .active → t = lamp (fun _ => x.fadeIn f) ∧ (t.lamp.lamps.get l.val).fade = f)) ∧
    (x.state = .active → ∃ t, exec (.driveAdjust l) s = .next t ∧
      (x.raising = true → x.drive + 10 < 1200 → t = lamp (fun y => { y with drive := min 1200 (y.drive + 10) })) ∧
      (x.raising = false → -20 < x.fade → 1000 < x.drive → t = lamp (fun y => { y with drive := max 1000 (y.drive - 10) }))) ∧
    (x.state = .spareWarming → exec (.spareReady l true) s = .next (lamp (fun y => { y with state := .spareReady, tries := 0 })) ∧
      (x.tries = 0 → exec (.spareReady l false) s = .next (lamp (fun y => { y with tries := 1 })))) ∧
    (x.demandAt = some o → running → x.state = .active → o + 1000000000 ≤ s.top.now → s.seq.work.lamps.contains l.val = false → s.cond.switching = none →
      ∃ t, exec (.crossfadeDeadline l) s = .next t ∧ t.seq.grant = some .forced) ∧
    (u.crossfadeGranted l.val = true → (u.lamp.lamps.get l.val).bySpare = some k → (u.lamp.lamps.get l.val).state = .active → (u.lamp.lamps.get k).state = .spareReady →
      exec (.crossfade l ps) s = .next ((u.modLamp l.val (fun y => { y with state := .crossfading, step := 0, ps := ps, raising := false })).modLamp k
        (fun y => { y with state := .crossfading, feed := (u.lamp.lamps.get l.val).feed }))) ∧
    (x.state = .crossfading → x.bySpare = some k → k ≠ l.val → ∃ t, exec (.crossfadeStep l) s = .next t ∧
      (x.step + 1 < 40 → t = lamp (fun y => { y with step := y.step + 1 })) ∧ (40 ≤ x.step + 1 → (t.lamp.lamps.get l.val).state = .retired ∧ (t.lamp.lamps.get k).state = .active)) ∧
    (x.p0Due = true → s.pp.nvOpen = true → exec (.p0Update l p0) s = .next (((lamp (fun y => { y with p0 := p0.toNat, i0 := y.i0 * y.drive / 1000, drive := 1000, p0Due := false })).modLamp l.val
      (fun y => { y with p0Pending := false })).nvStart (.lampP0 l.val))) ∧
    (x.p0Pending = true → s.pp.nvOpen = true → exec (.p0WriteRetry l) s = .next ((lamp (fun y => { y with p0Pending := false })).nvStart (.lampP0 l.val))) ∧
    (s.top.state = .bringup ∨ s.top.state = .idle ∨ s.top.state = .loaded → 1 ≤ s.lamp.calPhase →
      (s.lamp.calPhase < 8 → exec (.calPhaseEnd readings weak) s = .next { s with lamp := { s.lamp with calPhase := s.lamp.calPhase + 1 } }) ∧
      (8 ≤ s.lamp.calPhase → ∃ t, exec (.calPhaseEnd readings weak) s = .next t ∧ t.lamp.calPhase = 0 ∧ t.lamp.calDone = true)) ∧
    (u.seq.grant.isSome = true → u.seq.work.lanes.contains (laneIx g) = true → u.seq.work.lamps = [] → u.seq.flitWait = false → (u.lane g).pending = true →
      (∀ y ∈ u.plazaLanes g.plaza.val, y.running = false) → exec (.laneGroupRecal g) s = .next (u.modLane g (fun l => { l with pending := false, running := true }))) ∧
    ((s.lane cal.group).running = true → ∃ t, exec (.laneGroupRecalDone cal) s = .next t ∧ (cal.noLock = [] → (t.lane cal.group).running = false)) ∧
    (∃ t, exec .mapComplete s = .next t ∧ t.blv.mapNext = s.blv.mapNext + 1) ∧
    (∃ t, exec (.recessDemand us overdue) s = .next t ∧ (running → overdue = false → t = { s with seq := { s.seq with demands := s.seq.demands ++ [us] } })) ∧
    exec .forcedRecessWaitEnd s = .next { s with seq := { s.seq with flitWait := false } } ∧
    (s.seq.grant.isSome = true → s.seq.work.lamps = [] → s.seq.work.lanes = [] → ∃ t, exec .recessWorkDone s = .next t ∧ t.seq.grant = none) ∧
    (drained → clean → s.activeWindows true = [] → s.seq.replay = false → ∃ t, exec (.drainComplete twins) s = .next t ∧ t.seq.phase = .commit) ∧
    (s.seq.stallSince = some since → s.seq.stalled = [rec] → s.seq.heldActs = [] → s.journalRoom rec = true → ∃ t, exec .journalStallResume s = .next t ∧ t.seq.stalled = [] ∧ t.seq.stallSince = none) ∧
    (running → s.seq.phase = .commit → s.seq.stalled = [] → s.windowsMoved true = true → ∃ t, exec .commitComplete s = .next t ∧ t.seq.committed = s.seq.current ∧ t.seq.current = s.seq.current + 1) ∧
    (running → s.seq.phase = .restore → HeldAct.failed ∉ s.seq.heldActs → e.verdict = some .rerun → ∃ t, exec .restoreDone s = .next t ∧ t.seq.phase = .start ∧ t.seq.exe.wide = true ∧ t.seq.exe.second = true) ∧
    (s.mayBeReady = true → s.seq.startAt = none → s.seq.replay = true ∨ (s.extBarrier = false ∧ (s.img.image.bind (fun j => j.domain)) = none) →
      exec .packageReady s = .next { s with seq := { s.seq with phase := .start, startAt := some (s.top.now + 200) } }) ∧
    (running → s.seq.replay = false → s.extBarrier = false → inDomain → member.val < d.1 → member.val ≠ d.2.1 → step = s.nextStep → s.seq.ownReady = none →
      exec (.readyMsg member step tm) s = .next { s with seq := { s.seq with ready := s.seq.ready.filter (fun (r : Nat × Nat) => r.1 != member.val) ++ [(member.val, tm.toNat)] } }) ∧
    (waits → s.extBarrier = false → exec .readyResend s = .next (s.sendReady o)) ∧
    (waits → s.extBarrier = false → inDomain → exec .domainWaitTimer s = .next (s.raise 0x0014 31 0 [])) ∧
    (waits → s.extBarrier = true → exec .syncIoRise s = .next { s with seq := { s.seq with phase := .start, startAt := some (s.top.now + 1000) } }) ∧
    (s.ppsIn = true → s.top.state = .loaded ∨ s.top.state = .running ∨ s.top.state = .idle → ∃ t, exec .ppsEdge s = .next t ∧ (t.net.timeOffset + s.top.now) % 1000000000 = 0)

/-- R281, R282, R288, R379, R380, R381, R382, R386, R387, R388, R389, R391, R393, R394, R402, R405, R408, R411, R412, R422, R424, R426, R427, R430, R432, R436: where the commands of the conductor pair, of the vertical bonds, of clocks, power and heat and of the gate dies' own work complete, and what they then do: every clause ends in the
next state of the command's own effect, under conditions on the state and the operands alone. -/
def Obligations.PackageCommandsComplete : Prop :=
  ∀ (plaza : PlazaNo) (iseq upset : Word64) (c selfFault passed : Bool) (stage : Fin 40) (oseq : Word) (payload : List Byte) (us : Nat) (k0 k1 : Half) (r : PodRef) (grp : Fin 17) (bad : List (Fin 272))
    (tests : List (List (Fin 512))) (b : BondUnit) (far : Bool) (f : SideFrame) (words : List Word64) (side : SideRef) (mid : Fin 640) (sh : Fin 8) (ad sd : BitVec 8) (depth : BitVec 10) (rail : Fin 19)
    (mv amps pkg : BitVec 16) (sdie next : Bool) (sensor : Fin 64) (v : Option Half) (th : Fin 4) (pr : List PowerReading) (segment : Nat) (activity : List Activity) (blvd : Option Half) (st : Fin 16)
    (unit : BitVec 30) (noSpare : Bool) (row o : Nat) (s : State) (i : CondInput) (out : CondOut) (sw : SwitchOver) (y : BitVec 16),
    let q := s.cond
    let now := s.top.now - s.top.timeBase
    let me := fun (b : Bool) (u : Cond) => if b then u.c1 else u.c0
    let x := q.stages.get stage.val
    let arrives := (stage.val < 3 ∨ 8 ≤ stage.val) ∧ (me c q).state.runs = true ∧ q.comparing = false
    let n := sh.val
    let h := s.shal n
    let mod := fun (f : Shallot → Shallot) => s.modSh n f
    let bond := (s.shal r.sh.val).bond r.pod.val grp.val
    let end_ := s.bondEnd f.unit f.far
    let counts := fun (k : Nat) => f.crc = crc16 (natBitsMsb 64 f.word.toNat) ∧ f.word.toNat / 2 ^ 60 = k ∧ f.word.toNat / 2 ^ 54 % 64 = unitField f.unit ∧ unitExists f.unit = true
    let live := end_.training = true ∧ f.word.toNat / 2 ^ 52 % 4 = end_.attempt
    let m := s.mem.get st.val
    exec (.inputStageArrival plaza) s = .next { s with cond := { q with
      iseq := q.iseq + 1, inputs := q.inputs ++ [{ iseq := q.iseq, plaza := plaza.val, due := now + 160 }] } } ∧
    (q.inputs.find? (fun j => j.iseq == iseq) = some i → i.due ≤ now → i.got0 = false → i.got1 = false → q.c0.state.runs = true → q.c1.state.runs = true → ∃ t, exec (.inputDelivery iseq false false) s = .next t ∧
      t.cond.c0 = { q.c0 with consumed := q.c0.consumed ++ [iseq] } ∧ t.cond.c1 = { q.c1 with consumed := q.c1.consumed ++ [iseq] }) ∧
    (q.inputs.find? (fun j => j.iseq == iseq) = some i → i.due ≤ now → (if c then i.got1 else i.got0) = false → (me c q).state.runs = true → ∃ t, exec (.lateInputCopy iseq c) s = .next t ∧
      t.cond.lateCount = satAdd q.lateCount 1) ∧
    (arrives → (if c then x.claim0.toNat < x.claim1.toNat else x.claim1.toNat < x.claim0.toNat) → x.last = none → oseq = 0 → ∃ t, exec (.outputArrival stage c oseq payload) s = .next t ∧
      (t.cond.stages.get stage.val).last = some oseq) ∧
    (x.lagged = true → q.switching = none → q.mismatch = none → q.umpireLost = false → (me q.active q).state = .active → (me (!q.active) q).state = .standby →
      ∃ t, exec (.lagAlarm stage) s = .next t ∧ t.cond.switching.isSome = true) ∧
    ((me c q).state.runs = true → 1000 * (q.interval + 1) ≤ now → (me c q).heartbeat = none → ∃ t, exec (.heartbeat c selfFault upset) s = .next t ∧ (me c t.cond).heartbeat.isSome = true) ∧
    (1000 * (q.interval + 1) + 100 ≤ now → ∃ t, exec .heartbeatCheck s = .next t ∧ t.cond.c0.heartbeat = none ∧ t.cond.c1.heartbeat = none) ∧
    (q.switching = some sw → x.claimDue = true → exec (.claimWrite stage) s = .next { s with cond := { q with
      stages := q.stages.mod stage.val (fun x => { x with claim0 := q.c0.claim, claim1 := q.c1.claim, claimDue := false, oldActive := some (!sw.newActive) }) } }) ∧
    (x.nextHeld = some out → q.comparing = false → ∃ t, exec (.heldRelease stage) s = .next t ∧ (t.cond.stages.get stage.val).last = some out.oseq) ∧
    (q.switching = some sw → (∀ k, k < 40 → stageExists k = true → (q.stages.get k).claimDue = false) → s.seq.boundaryDue = false → s.seq.forceDue = false →
      ∃ t, exec .switchoverComplete s = .next t ∧ t.cond.active = sw.newActive ∧ t.cond.switching = none) ∧
    (∃ t, exec .umpireTick s = .next t ∧ t.cond = { q with lastTick := s.top.now, umpireLost := false }) ∧
    (q.lastTick + 100000 ≤ s.top.now → exec .tickTimeout s = .next { s with cond := { q with umpireLost := true } }) ∧
    ((me c q).state = .failed → ∃ t, exec (.resyncReady c) s = .next t ∧ (me c t.cond).state = .resync) ∧
    ((me c q).state = .resync → (me c q).resyncReady = true → (c = true → q.c0.state ≠ .resync) → s.mayResync = true → ∃ t, exec (.resyncSnapshotDone us) s = .next t ∧ (me c t.cond).state = .standby) ∧
    (q.c0.state = .standby ∨ q.c1.state = .standby → ∃ t, exec (.standbyBist passed) s = .next t ∧ t.cond.bistIndex = q.bistNext) ∧
    (∃ t, exec (.healthReport k0 k1) s = .next t ∧ t.cond.counts = {} ∧ t.cond.health.get 6 = q.health.get 6 + 1) ∧
    (bond.suspect = true → s.seq.boundaryDue = false → bad = [] → ∃ t, exec (.wireTestDone (.podGroup r grp bad)) s = .next t ∧ (t.shal r.sh.val).bond r.pod.val grp.val = { bond with suspect := false }) ∧
    ((s.bondEnd b far).training = true → ∃ t, exec (.wireTestDone (.training b far tests)) s = .next t ∧ (t.bondEnd b far).training = true) ∧
    (s.blv.logPending ≠ [] → s.pp.nvOpen = true → exec .bondLogRetry s = .next { s with
      blv := { s.blv with logPending := [] }, top := { s.top with nv := s.top.nv ++ s.blv.logPending.map (fun (x : Nat × Nat) => .bondLog x.1 x.2) } }) ∧
    (counts 1 → f.word.toNat % 2 = 0 → end_.training = false → ∃ t, exec (.treqFrame f) s = .next t ∧ ∀ e, (t.bondEnd f.unit e).training = true ∧ (t.bondEnd f.unit e).attempt = 1) ∧
    (counts 2 → end_.training = true → ∃ t, exec (.repairFrame f words) s = .next t ∧ ∀ k w, k < f.word.toNat % 32 → k / 7 < words.length →
      w = ((words[k / 7]?).getD 0).toNat / 2 ^ (9 * (k % 7)) % 512 → w ∈ t.markedAt f.unit f.far (f.word.toNat / 2 ^ 16 % 16)) ∧
    (counts 3 → live → ∃ t, exec (.mapFrame f) s = .next t ∧ (t.bondEnd f.unit f.far).peer = some (BitVec.ofNat 16 (f.word.toNat / 2 ^ 36))) ∧
    (counts 4 → live → end_.peer = some y → f.word.toNat / 2 ^ 20 % 2 ^ 16 = 65535 - (unitField f.unit + end_.attempt + (end_.good &&& y).toNat) % 65536 →
      ∃ t, exec (.echoFrame f) s = .next t ∧ (t.bondEnd f.unit f.far).sentDone = true) ∧
    (counts 5 → live → end_.sentDone = false → exec (.doneFrame f) s = .next (s.modEnd f.unit f.far (fun x => { x with peerDone := true }))) ∧
    ((s.bondEnd b false).training = true ∨ (s.bondEnd b true).training = true → max (s.bondEnd b false).attempt (s.bondEnd b true).attempt < 3 →
      ∃ t, exec (.trainTimeout b) s = .next t ∧ ∀ e, (t.bondEnd b e).attempt = max (s.bondEnd b false).attempt (s.bondEnd b true).attempt + 1) ∧
    (∃ t, exec (.sidebandClockStop side false (some mid)) s = .next t ∧ t.blv = { s.blv with sideband := s.blv.sideband.set (sideIx side) mid.val }) ∧
    (h.powered = true → 30 < min ad.toNat sd.toNat → min ad.toNat sd.toNat ≤ 50 → exec (.governorTick sh ad sd) s = .next (mod (fun h => { h with clk := { h.clk with
      marginAd := ad.toNat, marginSd := sd.toNat, highRun := 0, sinceRise := min 1000 (h.clk.sinceRise + 1), sinceAvs := min 10 (h.clk.sinceAvs + 1) } }))) ∧
    (h.clk.demands = [o] → exec (.freqStopEnd sh) s = .next (mod (fun h => { h with clk := { h.clk with code := o, demands := [], stopNs := 0 } }))) ∧
    (h.powered = true → 30 ≤ depth.toNat → ∃ t, exec (.droopDetect sh depth) s = .next t ∧ (t.shal n).clk.droopCount = satAdd h.clk.droopCount 1 ∧
      (t.shal n).clk.stretch = max h.clk.stretch (if depth.toNat ≤ 45 then 1 else 2)) ∧
    (∃ t, exec (.railCheck rail mv amps) s = .next t ∧ (let m := s.railNominal rail.val
      m ≠ 0 → (if rail.val < 16 then s.mainRails else s.top.aon) = true → m * 95 ≤ mv.toNat * 100 → mv.toNat * 100 ≤ m * (if rail.val < 8 then 103 else 105) →
        t.pp.railRuns.get rail.val = 0)) ∧
    (plaza.val < 8 → sdie = false → sensor.val < 32 → ∃ t, exec (.sensorRead plaza sdie sensor v) s = .next t ∧
      t.pp.sensors = s.pp.sensors.set (plaza.val * 512 + sensor.val) (v.filter (fun y => decide (-40 * 128 ≤ y.toInt ∧ y.toInt ≤ 150 * 128)))) ∧
    (∃ t, exec (.powerMeasure pkg pr) s = .next t ∧ t.pp.power = pkg.toNat) ∧
    (∃ t, exec .wakeTick s = .next t ∧ ((∀ m, m < 8 → (s.shal m).pwr.dueWakes = []) →
      t.pp.credits = min (10 * (s.pp.pkgSlew.toNat / 2 ^ 16 % 4096)) (s.pp.credits + s.pp.pkgSlew.toNat % 4096))) ∧
    (∃ t, exec (.forecastFrame sh next segment) s = .next t ∧ (s.img.image = none → segment = 0 → (t.shal n).pwr.forecast = 2880 ∧ (t.shal n).pwr.profile = false)) ∧
    (h.forecastHold = some o → o ≤ s.top.now → exec (.forecastHoldEnd sh) s = .next (mod (fun h => { h with forecastHold := none }))) ∧
    (h.pwr.vrLimit = false → exec (.vrLimitAssert sh) s = .next (mod (fun h => { h with pwr := { h.pwr with vrLimit := true, vrSince := s.top.now } }))) ∧
    (h.pwr.vrLimit = true → exec (.vrLimitDeassert sh) s = .next (mod (fun h =>
      { h with pwr := { h.pwr with vrLimitUs := satAdd h.pwr.vrLimitUs ((s.top.now - h.pwr.vrSince) / 1000), vrLimit := false } }))) ∧
    (h.pwr.vrLimit = true → exec (.vrLimitTimer sh) s = .next (s.raise 0x9006 n 0 [])) ∧
    (∃ t, exec (.thermalCheck activity blvd) s = .next t ∧ (s.mainRails = false → s.hottest 26 false 0 4 = none → t = s)) ∧
    (h.pwr.resetWaits = true → h.pwr.cooled s.top.now = true → ∃ t, exec (.shallotCooldownEnd sh) s = .next t ∧ (t.shal n).resetting = true) ∧
    (∃ t, exec (.thermistorRead th v) s = .next t ∧ t.pp.th.get th.val = v) ∧
    (m.serves = true → m.lost.contains unit.toNat = false → exec (.scrubUnit st unit none noSpare) s =
      .next (if unit.toNat = 2 ^ 30 - 1 then s.modMem st.val (fun m => { m with scrubPasses := satAdd m.scrubPasses 1, corrected := {} }) else s)) ∧
    (row ∈ m.repairs → s.seq.grant.isSome = true → s.seq.flitWait = false → s.seq.work.lamps = [] → s.seq.work.lanes = [] → s.seq.work.other ≠ [] → exec (.rowRepair st row) s =
      .next (s.modMem st.val (fun m => { m with repairs := m.repairs.erase row, repaired := min 0xFFFF (m.repaired + 1), corrected := m.corrected.set row 0 }))) ∧
    (m.walking = true → ∃ t, exec (.walkerStep st) s = .next t ∧ (s.nextSessionUnit st.val m.walkUnit = none → (t.mem.get st.val).walking = false) ∧
      ∀ o, s.nextSessionUnit st.val m.walkUnit = some o → (t.mem.get st.val).walkUnit = o + 1) ∧
    (s.sec.oldLive = true → (∀ h, h < 16 → (s.mem.get h).walking = false) → ∃ t, exec .rotateDone s = .next t ∧ t.sec = { s.sec with oldLive := false })

/-- R183, R192, R293, R294, R296, R297, R301, R302, R303, R304, R307, R309, R313, R318, R319, R324, R326, R328, R329, R331, R332, R333, R334, R335, R340, R342, R344, R345, R347, R445, R449, R450, R452, R471, R487: where the commands of the sub-ports, of the scheduled network, of sessions and of Reach complete, and what they then do: every clause ends in the next state
of the command's own effect, under conditions on the state and the operands alone. -/
def Obligations.NetworkAndReachCommandsComplete : Prop :=
  ∀ (sub : SubPortNo) (fec : Nat) (lanes : BitVec 8) (macsec : Bool) (dest : Fin 2048) (f : RxEth) (target : BitVec 128) (offset : Word) (num : Half) (pkt : SchedPkt) (step : Word64) (bits : List Bool)
    (q : Nat) (c : SvcCall) (via : HelloVia) (nonce : List Byte) (m : OpenMsg) (p : ReachIn) (env : MemEnv) (ue : Option StagedUe) (gn : Fin 2) (region : Nat) (plaza : PlazaNo) (index : BitVec 16)
    (eng : Byte) (engine : Fin 32) (seq : Word) (s u : State) (st : Stream) (r : Region) (x : SchedOut) (y : SchedIn) (e : Endpoint) (k : Session) (plain bs : List Byte) (z : Combining)
    (hf : HeldFlag) (v : ReachReq) (o : PendingChange) (of : Offer) (hd : ReachHdr) (rest : List (Nat × ReachHdr)),
    let n := sub.val
    let port := s.net.ports.get n
    let setPort := fun (g : SubPort → SubPort) => { s with net := { s.net with ports := s.net.ports.mod n g } }
    let seen := setPort (fun p => { p with rx := satAdd p.rx 1 })
    let open_ := s.top.state = .loaded ∨ s.top.state = .running
    let taken := open_ ∨ (s.top.state = .idle ∧ f.ptp = true)
    let links := open_ ∨ s.top.state = .idle
    let at_ := s.ptpTime * 25 / 64 % max 1 st.cycle
    let fits := pkt.seq < pkt.count ∧ pkt.data.length ≤ 8192 ∧ 64 * pkt.offset + pkt.data.length ≤ st.bytes ∧ st.roffset + 64 * pkt.offset + pkt.data.length ≤ r.size
    let mine := fun (z : ReachIn) => s.claimed 2 0x11 z.sub.val = true ∧ s.netOpen = true ∧ z.version = 1 ∧ z.dst.val = s.ownIndex
    let g := p.gw
    let src := p.src.val
    let win := s.net.wins.get (winIx src p.engine.toNat)
    let new := win.has p.seq = false ∧ win.beyond p.seq = false ∧ ∀ k, k < 2 → ∀ x ∈ (s.net.gw.get k).stamped, ¬ (x.src = src ∧ x.hdr.engine = p.engine.toNat ∧ x.hdr.seq = p.seq)
    let request := mine p ∧ s.seq.replay = false ∧ p.tally.getLsbD 31 = false ∧ new
    let marked := fun (t : State) => t.net.wins.get (winIx src p.engine.toNat) = win.take p.seq
    let calm := ∀ k, k < 2 → ∀ x ∈ (s.net.gw.get k).stamped, x.dep = false
    let whole := p.data.length = p.length.toNat
    let gw := s.net.gw.get gn.val
    let reply := mine p ∧ whole ∧ p.engine.toNat < 32
    let matched := reply ∧ s.slotOf p = some v
    let owned := m.reserved = 0 ∧ m.flags.toNat ≤ 1 ∧ s.sec.lifecycle = 2 ∧ s.offerOf m = some of ∧ fit 32 m.confirm = shake256 32 (openSecret of m ++ ascii "CNF" ++ leBytes 8 m.offer.toNat)
    let serving := s.servingStep e
    (port.up = true → ∃ t, exec (.netLinkDown sub fec lanes) s = .next t ∧ (t.net.ports.get n).up = false) ∧
    (port.up = false → s.linksMay = true → s.subExists n = true → macsec = true ∨ s.macsecOn n = false → ∃ t, exec (.netLinkUp sub lanes macsec) s = .next t ∧
      (t.net.ports.get n).up = true ∧ (t.net.ports.get n).upAt = s.top.now) ∧
    (∀ b, let fit := fun (b : Nat) => b < 5 ∧ b < (s.net.routes.get dest.val).active ∧ ∃ i a, s.img.image = some i ∧ (i.routes.get dest.val)[b]? = some a ∧
        (s.net.ports.get a.subport).up = true ∧ (s.net.ports.get a.subport).upAt + 1000000000 ≤ s.top.now
      s.atBoundary = true → fit b → (∀ a, a < b → ¬ fit a) → ∃ t, exec (.routeRestore dest) s = .next t ∧ (t.net.routes.get dest.val).active = b) ∧
    (port.up = true → taken → f.len ≤ 9216 → f.fcsOk = true → s.macsecOn n = false → f.ptp = true ∨ (f.ipv6 = true ∧ s.ownAddress f.dst = true ∧ f.badOp = false) → exec (.rxFrame sub f) s = .next seen) ∧
    (links → s.ownAddress target = true → port.up = true → s.egressFrozen n = false → exec (.neighborSolicitation sub target) s = .next
      ((setPort (fun p => { p with tx := satAdd p.tx 1, txPn := p.txPn + (if p.macsec then 1 else 0) })).emit (.net (n / 64) (n % 64) 6 0 (leBytes 16 target.toNat)))) ∧
    (links → s.claimed 2 0x10 n = true → port.up = true → (s.net.gw.get (n / 64)).ptpMaster = false → ∃ t, exec (.ptpMessage sub true offset) s = .next t ∧
      t.net.timeOffset = s.net.timeOffset - offset.toInt / 1000 ∧ (t.net.gw.get (n / 64)).ptpLocked = true) ∧
    ((s.net.gw.get 0).ptpLocked = true → ∃ t, exec .ptpLost s = .next t ∧ (t.net.gw.get 0).ptpLocked = false) ∧
    (∀ e, s.stream num.toNat 0 = some st → open_ → s.net.schedOut = [x] → x.stream = st.num → x.unsent = true → st.start ≤ at_ → at_ < st.start + st.length →
      s.routeOf st.peer = some e → (s.net.ports.get e.subport).up = true → (s.net.ports.get e.subport).macsec = false → s.egressFrozen e.subport = false → s.net.schedBusy.get st.num ≤ s.ptpTime * 25 / 64 →
      x.data.length + 118 ≤ 512 * (st.start + st.length - at_) →
      exec (.schedWindow num) s = .next (let t := s.sendTo st.peer 1 (s.schedBytes x)
        { t with net := { t.net with schedOut := [{ x with unsent := false }], schedBusy := t.net.schedBusy.set st.num (s.ptpTime * 25 / 64 + (x.data.length + 118 + 511) / 512) } })) ∧
    (s.stream pkt.stream.toNat 1 = some st → s.region st.region = some r → open_ → s.seq.replay = false → fits → s.schedGot st.num pkt.step = some y → pkt.seq ∈ y.got →
      exec (.schedData pkt) s = .next (s.sendSchedAck st y)) ∧
    (s.stream pkt.stream.toNat 1 = some st → s.region st.region = some r → open_ → s.seq.replay = false → fits → s.schedGot st.num pkt.step = none → s.seq.committed.toNat < pkt.step.toNat →
      ∃ t z, exec (.schedData pkt) s = .next t ∧ z ∈ t.net.schedIn ∧ z.stream = st.num ∧ z.step = pkt.step ∧ z.got = [pkt.seq]) ∧
    (open_ → s.stream num.toNat 0 = some st → s.net.schedOut = [x] → x.stream = st.num → x.step = step → (bits[x.seq]?).getD false = true →
      exec (.schedAck num step bits) s = .next { s with net := { s.net with schedOut := [] } }) ∧
    (open_ → s.stream num.toNat 1 = some st → s.schedGot num.toNat step = some y → y.complete = false → exec (.schedAckTimer num step) s = .next (s.sendSchedAck st y)) ∧
    (open_ → s.stream num.toNat 0 = some st → s.net.schedOut = [x] → x.stream = num.toNat → x.step = step → x.seq = q → x.unsent = false → s.canSendTo st.peer = true →
      exec (.schedResendTimer num step q) s = .next ((s.sendTo st.peer 1 (s.schedBytes x)).modGw (((s.routeOf st.peer).map (fun r => r.subport / 64)).getD 0)
        (fun w => { w with resends := satAdd w.resends 1 }))) ∧
    (s.img.image.bind (fun i => i.endpoint) = some e → open_ → s.seq.replay = false → s.sec.session c.session.toNat = some k →
      Sys2Proof.Config.gcmOpen k.svcKey (svcNonce false c.call.toNat) (svcHeader c.session.toNat c.call.toNat c.len.toNat 0) c.sealed = some plain →
      (∀ m, s.net.lastCall.get c.session.toNat = some m → m.toNat < c.call.toNat) → c.len.toNat ≤ e.payload → plain.length = c.len.toNat →
      0 < e.calls → (∀ y ∈ s.net.calls, y.step.toNat ≠ serving) → ∃ t, exec (.serviceCall c) s = .next t ∧
        t.net.calls = s.net.calls ++ [{ session := c.session.toNat, call := c.call, step := BitVec.ofNat 64 serving, slot := 0, src := c.src }]) ∧
    (s.viaUp via = true → s.sec.identity = true → s.sec.trngFailed = false → s.sec.xmssNext < 2 ^ 40 → s.sec.xmssNext < s.sec.xmssBlock → ∃ t, exec (.hello via nonce) s = .next t ∧
      t.sec.xmssNext = s.sec.xmssNext + 1 ∧ t.sec.nextOffer = s.sec.nextOffer + 1) ∧
    (s.viaUp via = true → owned → m.role = 0 → s.sec.tenant = none → s.top.state = .idle ∨ s.top.state = .loaded →
      (∀ b ∈ fit 32 m.image, b = 0) ∨ s.img.image = none ∨ fit 32 m.image = s.imageDigest → ∃ t k, exec (.openSession via m) s = .next t ∧
        t.sec.tenant = some k ∧ k.id = s.sec.nextSession ∧ t.sec.offers = s.sec.offers.filter (fun y => y.num != of.num)) ∧
    exec .offerExpiry s = .next { s with sec := { s.sec with offers := s.sec.offers.filter (fun f => decide (s.top.now < f.made + 60000000000)) } } ∧
    (request → calm → p.data = [] → s.reachRegion (p.hdr 1) = some r → s.readRegion r p.region.toNat p.offset.toNat p.length.toNat (24 + g) env false = (u, some bs) → exec (.reachLoad p env) s =
      .next ((u.reachSend src ((p.hdr 1).reply 0x81 0 bs.length) bs).reachDone g src (p.hdr 1))) ∧
    (request → whole → s.reachRegion (p.hdr 2) = some r → calm → p.flags.getLsbD 1 = false → r.scheduled = false → ∃ t, exec (.reachStore p) s = .next t ∧
      t.hbm = (s.writeRegion r p.region.toNat p.offset.toNat p.data).1.hbm ∧ marked t) ∧
    (∀ old, request → whole → p.data ≠ [] → s.reachRegion (p.hdr 3) = some r → calm → p.flags.getLsbD 1 = false → r.scheduled = false → aopOk p.aop.toNat (p.data.length / 64 - 1) = true →
      (s.net.gw.get g).replies.length < 16384 →
      s.applyAtomic r p.region.toNat (p.offset.toNat / 64) p.aop.toNat ((chunks 64 p.data).length - 1) (24 + g) env (fun i => ((chunks 64 p.data)[i]?).getD []) = (u, old) →
      ∃ t, exec (.reachAtomic p env) s = .next t ∧ t.hbm = u.hbm ∧ marked t) ∧
    (mine p → calm → s.stageKeyOk p.key = true → win.has p.seq = false → win.beyond p.seq = false →
      (whole → p.offset.toNat + p.data.length ≤ s.img.stagingMiB * 2 ^ 20 → ∃ t, exec (.stageWrite p) s = .next t ∧ t.img = s.img.setIncoming (s.img.incoming.setRun p.offset.toNat p.data) ∧ marked t) ∧
      (p.data = [] → exec (.stageLoad p ue) s = .next (State.cmdLoadImage ue (s.reachDone g src (p.hdr 6)) { path := .reach src (p.hdr 6), opcode := 1 }))) ∧
    (gw.refusals = (dest.val, hd) :: rest → ∃ t, exec (.refusedReply gn) s = .next t ∧ (t.net.gw.get gn.val).refusals = rest) ∧
    (matched → v.hdr.op = 1 → p.data.length = v.hdr.length → s.region v.lregion = some r → exec (.loadReply p) s =
      .next (((s.writeRegion r v.lregion v.loffset p.data).1).reachComplete v)) ∧
    (reply → (s.net.gw.get (p.engine.toNat / 16)).slots = [v] → v.engine = p.engine.toNat → v.peer = src → v.hdr.op = 2 → ackCovers p v.hdr.seq = true → exec (.reachAck p) s = .next (s.reachComplete v)) ∧
    (matched → v.hdr.op = 3 → bitAt v.hdr.aop 7 = true → exec (.atomicReply p) s = .next (s.reachComplete v)) ∧
    (reply → (s.net.gw.get (p.engine.toNat / 16)).slots = [v] → v.engine = p.engine.toNat → v.peer = src → (v.hdr.seq - p.seq).toNat < p.count.toNat →
      bitAt (leVal p.data) (v.hdr.seq - p.seq).toNat = false → exec (.fetchMissing p) s = .next (s.resendReach v)) ∧
    (matched → p.status = 1 → v.hdr.op = 1 → exec (.reachStatus p) s = .next ((s.reachComplete v).loadRefused v)) ∧
    ((s.net.gw.get (engine.val / 16)).slots = [v] → v.engine = engine.val → v.peer = dest.val → v.hdr.seq = seq → s.netOpen = true → exec (.reachResendTimer engine dest seq) s = .next (s.resendReach v)) ∧
    (gw.heldFlags = [hf] → hf.plaza = plaza.val → hf.index = index.toNat → (s.tally plaza.val index.toNat).held = true → ∃ t, exec (.fenceTimeout gn plaza index) s = .next t ∧
      (t.net.gw.get gn.val).fenceTimeouts = satAdd gw.fenceTimeouts 1) ∧
    exec (.replyStoreExpiry gn dest eng seq) s = .next (s.modGw gn.val (fun w =>
      { w with replies := w.replies.filter (fun r => !(r.src == dest.val && r.engine == eng.toNat && r.seq == seq)) })) ∧
    (gw.combining = [z] → z.dst = dest.val → z.hdr.region = region → z.hdr.offset = q → z.hdr.op = 3 → z.sent = none → z.origs.length ≤ 1 → exec (.combineWindowEnd gn dest region q) s =
      .next ((s.modGw gn.val (fun w => { w with combining := [] })).forwardReach z.dst z.hdr z.data)) ∧
    (s.top.state ≠ .off → ∃ t, exec .trngHealthFail s = .next t ∧ t.sec.trngFailed = true ∧ t.top.state = .faulted) ∧
    exec (.keyUnwrap plaza true) s = .next { s with sec := { s.sec with unwrapFails := s.sec.unwrapFails.set plaza.val 0 } } ∧
    (s.sec.pending = some o → o.since + 600000000000 ≤ s.top.now → ∃ t, exec .quorumLapse s = .next t ∧ t.sec = { s.sec with pending := none }) ∧
    (s.ev.irqPending = true → s.ev.irqEn = true → s.ev.hostTail.toNat < s.ev.head.toNat → exec .eventIrqTimer s =
      .next ({ s with ev := { s.ev with irqPending := false, holdOff := true } }.msix s.eventVector))

/-- R122, R192, R246, R261, R352, R353, R354, R369, R372, R374, R376, R388, R421, R429, R436, R440, R469, R471, R473, R476, R477, R479, R481, R483, R484, R486, R488, R489, R490, R491, R492, R493, R494, R496, R497, R499, R502: where the requests of Mews and of the MCTP endpoint, the resets, the bring-up phases and the commands of the pins complete, and what they then do: every clause ends in the next
state of the command's own effect, under conditions on the state and the operands alone. -/
def Obligations.MewsAndPinCommandsComplete : Prop :=
  ∀ (m : MewsReq) (wires : List WireTest) (waves : List WaveRef) (pcUp : BitVec 7) (sh : Fin 8) (port : Fin 2) (tag : Fin 8) (op : BitVec 2) (eid type sel : Byte) (addr : BitVec 7)
    (down : List StackDown) (c0 c1 io : Bool) (fails : List BistFail) (env : MemEnv) (hop : Byte) (a : List Word) (c : ChangeBody) (x : PendingChange) (w : NvWrite) (rest : List NvWrite)
    (r : PlazaRst) (key : Option (List Byte)) (s t0 u : State) (bs : List Byte),
    let b := m.body
    let num := fun (i n : Nat) => leVal ((b.drop i).take n)
    let at_ := fun (i : Nat) => ((b[i]?).getD 0).toNat
    let runs := fun (o : MewsOp) => s.mewsGate o m t0 ∧ t0.mewsState o = true
    let may := fun (o : MewsOp) => s.mewsGate o m t0 ∧ t0.mewsFree o
    let ok := fun (o : MewsOp) (t : State) (body : List Byte) => (Host.Outcome.next (t.mewsAnswer o m .ok body) : Res)
    let say := fun (bs : List Byte) => s.emit (.mctp port.val bs)
    let mews := fun (f : Mews → Mews) => { t0 with mews := f t0.mews }
    let me := if at_ 0 = 1 then t0.cond.c1 else t0.cond.c0
    let run := some (mewsCmd opReset m)
    let resets := may opReset ∧ b.length = 8 ∧ ∀ i, 2 ≤ i → i < 8 → at_ i = 0
    let o := opChange c.kind
    let d := t0.changeDigest c.kind c.counter (c.params ++ c.makerBytes)
    let signed := may o ∧ changeBody b = some c ∧ s.changeParamsOk c = true ∧ m.cred = 0xFF ∧ c.counter = (t0.sec.changes + 1).toNat ∧ signatureOk (t0.changeKey c) d c.sig = true
    let ph := fun (n : Nat) => { s with top := { s.top with phase := n } }
    let h := s.shal sh.val
    let n := fun (i : Nat) => ((a[i]?).getD 0).toNat
    (runs opGetInfo → b = [] → ∃ body, exec (.getInfo m) s = ok opGetInfo t0 body ∧ body.take 8 = ([1] : List Byte) ++ leBytes 4 t0.top.identity.toNat ++
      [BitVec.ofNat 8 t0.top.state.code, BitVec.ofNat 8 t0.sec.lifecycle, BitVec.ofNat 8 (if t0.sec.rot then 1 else 0)]) ∧
    (runs opAttest → b.length = 32 → exec (.attest m) s = .next (t0.hello { path := .mews m.port.val m.tag m.cred m.seq, nonce := b })) ∧
    (runs opCertChain → b.length = 4 → t0.sec.identity = true → ((Sys2Proof.Config.certChain t0.sec.identityGen).drop (16384 * leVal b)).take 16384 ≠ [] →
      exec (.certChain m) s = ok opCertChain t0 (((Sys2Proof.Config.certChain t0.sec.identityGen).drop (16384 * leVal b)).take 16384)) ∧
    (runs opRegRead → b.length = 8 → num 0 4 % 4 = 0 → 1 ≤ num 4 4 → num 4 4 ≤ 64 → num 0 4 + 4 * num 4 4 ≤ 2 ^ 26 →
      exec (.regRead m) s = ok opRegRead t0 ((List.range (num 4 4)).flatMap (fun i => leBytes 4 (t0.regRead (num 0 4 + 4 * i)).toNat))) ∧
    (runs opEventRead → b.length = 8 → ∃ body, exec (.eventRead m) s = ok opEventRead t0 body ∧ body.take 8 = leBytes 8 (max (max 1 (num 0 8)) (t0.ev.head.toNat - 8191))) ∧
    (runs opEventAck → b.length = 8 → exec (.eventAck m) s = ok opEventAck { t0 with ev := { t0.ev with mewsTail := BitVec.ofNat 64 (num 0 8) } } []) ∧
    (runs opMapRead → b.length = 12 → num 0 4 ≤ 1 → num 8 4 ≤ 16384 → num 4 4 + num 8 4 ≤ 2 ^ 18 → ∃ body : List Byte, exec (.mapRead m) s = ok opMapRead t0 body ∧ body.length = num 8 4) ∧
    (runs opMapAck → b.length = 4 → exec (.mapAck m) s = ok opMapAck (t0.regWrite 0x1000048 (BitVec.ofNat 32 (num 0 4))) []) ∧
    (s.mewsGate hostCommandOp m t0 → b.length = 52 → t0.mews.recovery = false → t0.mewsFree hostCommandOp → num 0 4 = 7 → num 4 4 = 3 → (∀ i, 8 ≤ i → i < 52 → b[i]? = some 0) →
      bitAt 0xFE t0.top.state.code = true → ∃ body, exec (.hostCommand m) s = ok hostCommandOp t0 body ∧ (body.drop 8).take 8 = leBytes 8 t0.sec.epoch.toNat) ∧
    (may opStageWrite → 8 ≤ b.length → num 0 8 + (b.drop 8).length ≤ t0.img.stagingMiB * 2 ^ 20 → exec (.mewsStageWrite m) s =
      ok opStageWrite { t0 with img := t0.img.setIncoming (t0.img.incoming.setRun (num 0 8) (b.drop 8)) } []) ∧
    (may opTimeSource → b = [] → t0.img.image = none → exec (.timeSource m) s = ok opTimeSource (mews (fun x => { x with timeSource := true })) []) ∧
    (may opFreqSet → b.length = 2 → at_ 0 ≤ 7 → at_ 1 ≤ 127 → ∃ t, exec (.freqSet m) s = ok opFreqSet t [] ∧ (t.shal (at_ 0)).clk.target = BitVec.ofNat 32 (at_ 1)) ∧
    (may opConductorReset → b.length = 1 → at_ 0 ≤ 1 → me.state = .lockedOut → ∃ t, exec (.conductorReset m) s = ok opConductorReset t [] ∧
      (if at_ 0 = 1 then t.cond.c1 else t.cond.c0) = { me with state := .failed }) ∧
    (may opFieldTest → b = [] → ∃ t, exec (.fieldTest m wires waves) s = ok opFieldTest t (leBytes 4 (t0.fieldVerdict wires waves).toNat)) ∧
    (may opMgmtNetSet → b.length = 17 → at_ 0 = 0 → BitVec.ofNat 128 (num 1 16) ∉ t0.mews.ipv6 → t0.mews.ipv6.length < 2 → exec (.mgmtNetSet m) s =
      ok opMgmtNetSet (mews (fun x => { x with ipv6 := t0.mews.ipv6 ++ [BitVec.ofNat 128 (num 1 16)] })) []) ∧
    (may opFwWrite → 8 ≤ b.length → num 0 8 + (b.drop 8).length ≤ 2 ^ 26 → exec (.fwWrite m) s = ok opFwWrite (mews (fun x => { x with fwBuf := x.fwBuf.setRun (num 0 8) (b.drop 8) })) []) ∧
    (may opFwCommit → b = [] → t0.fwValid t0.mews.fwBuf = true → t0.pp.nvOpen = true → exec (.fwCommit m) s = .next { t0 with
      mews := { t0.mews with fwLeft := 64, fwWhole := false }, host := { t0.host with running := some (mewsCmd opFwCommit m) } }) ∧
    (1 < s.mews.fwLeft → s.pp.nvOpen = true → exec .fwBlockWrite s = .next { s with mews := { s.mews with
      fwStore := copyBlock s.mews.fwStore s.mews.fwBuf (64 - s.mews.fwLeft), fwLeft := s.mews.fwLeft - 1 } }) ∧
    (resets → at_ 0 = 0 → at_ 1 = 0 → t0.sec.pending = none → t0.top.nv = [] → ∃ t, exec (.packageReset m) s = .next t ∧ t.top.state = .bringup ∧ t.top.phase = 1 ∧ t.host.running = run ∧
      t.img = {} ∧ t.seq = {} ∧ t.mem = {}) ∧
    (resets → at_ 0 = 1 → 8 ≤ at_ 1 → at_ 1 ≤ 25 → t0.sec.tenant = none → ∃ t, exec (.plazaReset m) s = .next t ∧ t.img.image = none ∧
      (t.top.state = .faulted ∨ t.top.plazaReset = some { plaza := at_ 1, loaded := t0.img.image.isSome })) ∧
    (s.top.plazaReset = some r → 8 ≤ r.plaza → r.plaza < 26 → ∃ t, exec (.plazaResetDone pcUp) s = .next t ∧ t.top.plazaReset = none) ∧
    (resets → at_ 0 = 2 → at_ 1 = sh.val → (t0.shal sh.val).pwr.tripped = false → ∃ t, exec (.shallotReset m) s = .next t ∧ (t.shal sh.val).resetting = true ∧ (t.shal sh.val).tallies = {}) ∧
    (h.resetting = true → s.img.image = none → ∃ t, exec (.shallotResetDone sh []) s = .next t ∧ (t.shal sh.val).resetting = false) ∧
    (may opCredSet → b.length = 40 → at_ 0 ≤ 15 → 1 ≤ at_ 1 → at_ 1 ≤ 2 → (∀ i, 2 ≤ i → i < 8 → at_ i = 0) → ∃ t, exec (.credSet m) s = ok opCredSet t [] ∧
      t.mews.creds.get (at_ 0) = some { key := BitVec.ofNat 256 (leVal (b.drop 8)), operate := decide (at_ 1 = 2) }) ∧
    (signed → c.kind = 1 → t0.sec.pending = some x → t0.top.now < x.since + 600000000000 → x.digest = d → x.signer ≠ c.key → ∃ t, exec (.changeSubmit m) s = ok o t [] ∧
      t.sec = { t0.sec with rot := decide (((c.params[0]?).getD 0).toNat = 1), changes := t0.sec.changes + 1, pending := none }) ∧
    exec (.mewsMessageTimeout port tag) s = .next { s with mews := { s.mews with parts := s.mews.parts.filter (fun p => !(p.port == port.val && p.tag == tag.val)) } } ∧
    (s.mewsUp = true → (op.toNat ≤ 1 → eid ≠ 0 → eid ≠ 0xFF → ∃ t, exec (.setEndpointId port op eid) s = .next t ∧ t.mews.eids.get port.val = eid.toNat) ∧
      exec (.getEndpointId port) s = .next (say [0x02, 0x00, BitVec.ofNat 8 (s.mews.eids.get port.val), 0x00, 0x00]) ∧
      (type = 0xFF ∨ type = 0x00 ∨ type = 0x7E → exec (.getMctpVersionSupport port type) s = .next (say [0x04, 0x00, 0x01, 0xF1, 0xF3, 0xF1, 0x00])) ∧
      exec (.getMessageTypeSupport port) s = .next (say [0x05, 0x00, 0x01, 0x7E]) ∧
      (sel = 0 → ∃ v : List Byte, v.length = 2 ∧ exec (.getVendorDefinedMessageSupport port sel) s = .next (say ([0x06, 0x00, 0xFF, 0x00] ++ v ++ [0x00, 0x00]))) ∧
      exec (.i3cAddressAssigned addr) s = .next { s with mews := { s.mews with i3c := some addr } }) ∧
    (s.top.aon = false → ∃ t, exec .vddAonUp s = .next t ∧ t.top = { s.top with aon := true, ioOnly := false, now := (if s.top.ioOnly then s.top.now else 0), phase := 1 }) ∧
    (s.top.phase = 1 → s.storeValid = true → ∃ t, exec (.bringupPhaseEnd .firmware) s = .next t ∧ t.top = { s.top with state := .bringup, phase := 2, phase3 := false, phase4 := false }) ∧
    (s.top.phase = 2 → exec (.bringupPhaseEnd .rails) s = .next (ph 3)) ∧
    (s.top.phase = 3 → s.top.phase3 = false → c0 = true ∨ c1 = true → ∃ t, exec (.bringupPhaseEnd (.joins c0 c1 [] [])) s = .next t ∧ t.top.phase3 = true ∧ t.cond.active = !c0) ∧
    (s.top.phase = 3 → s.top.phase3 = false → s.crossfadesDue = false → exec (.bringupPhaseEnd .lamps) s = .next { s with top := { s.top with phase4 := true } }) ∧
    (s.top.phase = 5 → s.lamp.calPhase = 0 → exec (.bringupPhaseEnd .calibration) s = .next (ph 6)) ∧
    (s.top.phase = 6 → s.sec.trngFailed = false → ∃ t, exec (.bringupPhaseEnd (.trainStacks down)) s = .next t ∧ t.top = { s.top with phase := 7 }) ∧
    (s.top.phase = 7 → exec (.bringupPhaseEnd .ports) s = .next (ph 8)) ∧
    (s.top.phase = 8 → ∃ t, exec (.bringupPhaseEnd (.selfTest fails)) s = .next t ∧ t.top.state = .idle ∧ t.top.phase = 0) ∧
    (s.top.aon = true → s.top.pkgRst = false → ∃ t, exec .pkgRstAssert s = .next t ∧ t.top.pkgRst = true ∧ t.top.state = .bringup ∧ t.img = {} ∧ t.seq = {}) ∧
    (s.top.aon = true → ∃ t, exec (.vddAonLoss io) s = .next t ∧ t.top.state = .off ∧ t.top.aon = false) ∧
    (s.top.state ≠ .parked → ∃ t, exec .perstDeassert s = .next t ∧ t.host.perstHigh = true ∧ { t with host := s.host } = s) ∧
    (s.host.perstHigh = true → s.hostPort = true → ∃ t, exec .functionReady s = .next t ∧ t.host.ready = true ∧ { t with host := s.host, out := s.out } = s) ∧
    (∃ t, exec .pcieLinkDown s = .next t ∧ t.host.linkUp = false ∧ t.host.linkWidth = 0) ∧
    (s.host.ready = true → ∃ t, exec .d3hotEntry s = .next t ∧ t.host.d3hot = true ∧ { t with host := s.host } = s) ∧
    (∃ t, exec .perstAssert s = .next t ∧ t.host.perstHigh = false ∧ t.host.ready = false ∧ t.host.linkUp = false) ∧
    (∃ t, exec .pcieHotReset s = .next t ∧ t.host.msix = {} ∧ t.host.d3hot = false ∧ { t with host := s.host } = s) ∧
    (s.top.aon = true → s.top.pkgRst = true → ∃ t, exec .pkgRstRelease s = .next t ∧ t.top = { s.top with pkgRst := false, phase := 1 }) ∧
    (h.clk.stopNs = 0 → h.recess = none → h.pwr.vrLimit = false → h.pwr.dutyPause = false → h.wakeHeld = [] → h.wakeHold = 0 → h.forecastHold = none → h.retryHold = 0 → h.rowWaits = [] →
      h.privHold = 0 → ∃ t, exec (.heldRowTransferDone sh) s = .next t ∧ (t.shal sh.val).wideHold = 0 ∧ (t.shal sh.val).wideHoldBeats = satAdd h.wideHoldBeats h.wideHold) ∧
    (h.pwr.dutyPause = false → 0 < h.pwr.duty → ∃ t, exec (.dutyFrameBoundary sh) s = .next t ∧ (t.shal sh.val).pwr = { h.pwr with dutyPause := true, framePos := 64 - h.pwr.duty }) ∧
    (s.top.parking = true → s.top.state = .idle → s.host.running = none → ∃ t, exec .parkComplete s = .next t ∧ t.top.state = .parked ∧ t.top.parking = false ∧ t.hbm = []) ∧
    (∀ k, s.top.nv = w :: rest → w = .xmss k → s.sec.waiting = [] → exec .nvWriteDone s = .next { s with top := { s.top with nv := rest }, sec := { s.sec with xmssBlock := k, waiting := [] } }) ∧
    (s.host.running = some (hostCmd 0x0C 0x30 a) → s.host.canSend = true → s.journalLeave = some key → s.readRing (n 0 + 2 ^ 32 * n 1) (if n 2 = 0 then 2 ^ 32 else n 2) env = (u, some bs) →
      exec (.journalExportDone env) s = .next ((({ u with host := { u.host with running := none } } : State).emit
        (.hostWrite (n 3 + 2 ^ 32 * n 4) (sealJournal key (n 0 + 2 ^ 32 * n 1) bs))).cmdDone 0x30 0 false [])) ∧
    (s.hostFree → hop.toNat = 0 ∨ 12 < hop.toNat → exec (.unknownCommand (.host hop a)) s = .next ((s.cmdWritten hop.toNat a).cmdDone 0 2 false [])) ∧
    (∃ t, exec .d3hotExit s = .next t ∧ t.host.d3hot = false ∧ { t with host := s.host, out := s.out } = s)
end

