-- ==== Sys2Proof/Laws/Codes.lean ====
section
/-! SUPPORT. What the digest and its helpers give whatever the message: their lengths. -/
namespace Sys2Proof.Laws
open Sys2Proof.Machine

theorem leBytes_length (n v : Nat) : (leBytes n v).length = n := by
  induction n generalizing v with
  | zero => rfl
  | succ n ih => simp [leBytes, ih]

theorem keccakRound_length (a : List Nat) (rc : Nat) : (keccakRound a rc).length = 25 := by
  have h : (kChi (kRhoPi (kTheta a))).length = 25 := by simp [kChi, upto]
  unfold keccakRound
  split
  · simp_all
  · simp_all

theorem keccakF_length (a : List Nat) : (keccakF a).length = 25 := by
  unfold keccakF keccakRc
  simp only [List.cons_append, List.nil_append, List.foldl_cons, List.foldl_nil, keccakRound_length]

theorem kSqueeze_length (n : Nat) (a : List Nat) (h : a.length = 25) : (kSqueeze n a).length = 136 * n := by
  induction n generalizing a with
  | zero => rfl
  | succ n ih =>
    have hb : ∀ l : List Nat, (l.flatMap (leBytes 8)).length = 8 * l.length := by
      intro l; induction l with
      | nil => rfl
      | cons x l ih => simp only [List.flatMap_cons, List.length_append, leBytes_length, ih, List.length_cons]; omega
    simp only [kSqueeze, List.length_append, hb, List.length_take, h, ih _ (keccakF_length a)]; omega

theorem absorb_length (bs : List (List Byte)) (a : List Nat) (h : a.length = 25) : (bs.foldl kAbsorb a).length = 25 := by
  induction bs generalizing a with
  | nil => exact h
  | cons b bs ih => exact ih _ (keccakF_length _)

/-- SHAKE256 gives as many bytes as it is asked for. -/
theorem shake256_length (n : Nat) (m : List Byte) : (shake256 n m).length = n := by
  have hc : n ≤ 136 * cdiv n 136 := by simp only [cdiv]; omega
  unfold shake256
  rw [List.length_take, kSqueeze_length _ _ (absorb_length _ _ (by simp))]
  omega

/-- What has the length asked for stays as it is. -/
theorem fit_self (n : Nat) (l : List Byte) (h : l.length = n) : fit n l = l := by
  subst h; simp [fit]

end Sys2Proof.Laws
end

