-- ==== Sys2Proof/Laws/Exec.lean ====
section
/-! SUPPORT. Which meaning each command runs: one rewrite rule per command. -/
namespace Sys2Proof.Machine

@[simp] theorem exec_loadImage (a ue) (s : State) : exec (.loadImage a ue) s = execLoadImage a ue s := rfl
@[simp] theorem exec_imageLoadDone (ue) (s : State) : exec (.imageLoadDone ue) s = execImageLoadDone ue s := rfl
@[simp] theorem exec_start (a) (s : State) : exec (.start a) s = execStart a s := rfl
@[simp] theorem exec_stopAtStep (a) (s : State) : exec (.stopAtStep a) s = execStopAtStep a s := rfl
@[simp] theorem exec_sweep (a) (s : State) : exec (.sweep a) s = execSweep a s := rfl
@[simp] theorem exec_sweepPhaseEnd (nonzero) (s : State) : exec (.sweepPhaseEnd nonzero) s = execSweepPhaseEnd nonzero s := rfl
@[simp] theorem exec_park (a) (s : State) : exec (.park a) s = execPark a s := rfl
@[simp] theorem exec_unpark (m) (s : State) : exec (.unpark m) s = execUnpark m s := rfl
@[simp] theorem exec_query (a) (s : State) : exec (.query a) s = execQuery a s := rfl
@[simp] theorem exec_recalibrateFull (a) (s : State) : exec (.recalibrateFull a) s = execRecalibrateFull a s := rfl
@[simp] theorem exec_recalibrateGroup (a) (s : State) : exec (.recalibrateGroup a) s = execRecalibrateGroup a s := rfl
@[simp] theorem exec_replay (a) (s : State) : exec (.replay a) s = execReplay a s := rfl
@[simp] theorem exec_rotateKeys (a) (s : State) : exec (.rotateKeys a) s = execRotateKeys a s := rfl
@[simp] theorem exec_retirePod (a) (s : State) : exec (.retirePod a) s = execRetirePod a s := rfl
@[simp] theorem exec_exportJournal (a) (s : State) : exec (.exportJournal a) s = execExportJournal a s := rfl
@[simp] theorem exec_bar0BadAccess (write) (s : State) : exec (.bar0BadAccess write) s = execBar0BadAccess write s := rfl
@[simp] theorem exec_registerWrite (off v hi) (s : State) : exec (.registerWrite off v hi) s = execRegisterWrite off v hi s := rfl
@[simp] theorem exec_journalTailWrite (v) (s : State) : exec (.journalTailWrite v) s = execJournalTailWrite v s := rfl
@[simp] theorem exec_hostTailWrite (v) (s : State) : exec (.hostTailWrite v) s = execHostTailWrite v s := rfl
@[simp] theorem exec_bar2TargetWrite (v) (s : State) : exec (.bar2TargetWrite v) s = execBar2TargetWrite v s := rfl
@[simp] theorem exec_freezeWrite (v) (s : State) : exec (.freezeWrite v) s = execFreezeWrite v s := rfl
@[simp] theorem exec_freqTargetWrite (v) (s : State) : exec (.freqTargetWrite v) s = execFreqTargetWrite v s := rfl
@[simp] theorem exec_modeWrite (v) (s : State) : exec (.modeWrite v) s = execModeWrite v s := rfl
@[simp] theorem exec_slewBudgetWrite (pkg v) (s : State) : exec (.slewBudgetWrite pkg v) s = execSlewBudgetWrite pkg v s := rfl
@[simp] theorem exec_bar2Read (off len env) (s : State) : exec (.bar2Read off len env) s = execBar2Read off len env s := rfl
@[simp] theorem exec_bar2Write (off data) (s : State) : exec (.bar2Write off data) s = execBar2Write off data s := rfl
@[simp] theorem exec_perstDeassert (s : State) : exec (.perstDeassert) s = execPerstDeassert s := rfl
@[simp] theorem exec_functionReady (s : State) : exec (.functionReady) s = execFunctionReady s := rfl
@[simp] theorem exec_pcieLinkDown (s : State) : exec (.pcieLinkDown) s = execPcieLinkDown s := rfl
@[simp] theorem exec_pcieLinkUp (flit width rate) (s : State) : exec (.pcieLinkUp flit width rate) s = execPcieLinkUp flit width rate s := rfl
@[simp] theorem exec_d3hotEntry (s : State) : exec (.d3hotEntry) s = execD3hotEntry s := rfl
@[simp] theorem exec_ideKm (stream) (s : State) : exec (.ideKm stream) s = execIdeKm stream s := rfl
@[simp] theorem exec_inputWindowPoll (w word) (s : State) : exec (.inputWindowPoll w word) s = execInputWindowPoll w word s := rfl
@[simp] theorem exec_inputWindowPullDone (w data header tags) (s : State) : exec (.inputWindowPullDone w data header tags) s = execInputWindowPullDone w data header tags s := rfl
@[simp] theorem exec_outputWindowPoll (w word) (s : State) : exec (.outputWindowPoll w word) s = execOutputWindowPoll w word s := rfl
@[simp] theorem exec_outputWindowPushDone (w) (s : State) : exec (.outputWindowPushDone w) s = execOutputWindowPushDone w s := rfl
@[simp] theorem exec_stepStart (skew) (s : State) : exec (.stepStart skew) s = execStepStart skew s := rfl
@[simp] theorem exec_loopCtl (p a) (s : State) : exec (.loopCtl p a) s = execLoopCtl p a s := rfl
@[simp] theorem exec_stepEnd (p) (s : State) : exec (.stepEnd p) s = execStepEnd p s := rfl
@[simp] theorem exec_rowRead (p a env) (s : State) : exec (.rowRead p a env) s = execRowRead p a env s := rfl
@[simp] theorem exec_rowWrite (p a env) (s : State) : exec (.rowWrite p a env) s = execRowWrite p a env s := rfl
@[simp] theorem exec_loadw (p a env) (s : State) : exec (.loadw p a env) s = execLoadw p a env s := rfl
@[simp] theorem exec_loads (p a env) (s : State) : exec (.loads p a env) s = execLoads p a env s := rfl
@[simp] theorem exec_loadc (p a env) (s : State) : exec (.loadc p a env) s = execLoadc p a env s := rfl
@[simp] theorem exec_rowZero (p a env) (s : State) : exec (.rowZero p a env) s = execRowZero p a env s := rfl
@[simp] theorem exec_stream (p a) (s : State) : exec (.stream p a) s = execStream p a s := rfl
@[simp] theorem exec_accClear (p a) (s : State) : exec (.accClear p a) s = execAccClear p a s := rfl
@[simp] theorem exec_accSnap (p a) (s : State) : exec (.accSnap p a) s = execAccSnap p a s := rfl
@[simp] theorem exec_accRq (p a) (s : State) : exec (.accRq p a) s = execAccRq p a s := rfl
@[simp] theorem exec_narrow96 (p a) (s : State) : exec (.narrow96 p a) s = execNarrow96 p a s := rfl
@[simp] theorem exec_wide192 (p a) (s : State) : exec (.wide192 p a) s = execWide192 p a s := rfl
@[simp] theorem exec_out32 (p a) (s : State) : exec (.out32 p a) s = execOut32 p a s := rfl
@[simp] theorem exec_accAdd96 (p a) (s : State) : exec (.accAdd96 p a) s = execAccAdd96 p a s := rfl
@[simp] theorem exec_accAdd192 (p a) (s : State) : exec (.accAdd192 p a) s = execAccAdd192 p a s := rfl
@[simp] theorem exec_accAdd32 (p a) (s : State) : exec (.accAdd32 p a) s = execAccAdd32 p a s := rfl
@[simp] theorem exec_load192 (p a) (s : State) : exec (.load192 p a) s = execLoad192 p a s := rfl
@[simp] theorem exec_send (p a) (s : State) : exec (.send p a) s = execSend p a s := rfl
@[simp] theorem exec_fetch (p a) (s : State) : exec (.fetch p a) s = execFetch p a s := rfl
@[simp] theorem exec_recv (p a) (s : State) : exec (.recv p a) s = execRecv p a s := rfl
@[simp] theorem exec_synAdd (p a) (s : State) : exec (.synAdd p a) s = execSynAdd p a s := rfl
@[simp] theorem exec_setf (p a) (s : State) : exec (.setf p a) s = execSetf p a s := rfl
@[simp] theorem exec_waitTally (p a) (s : State) : exec (.waitTally p a) s = execWaitTally p a s := rfl
@[simp] theorem exec_waitRetest (p) (s : State) : exec (.waitRetest p) s = execWaitRetest p s := rfl
@[simp] theorem exec_synClr (p a) (s : State) : exec (.synClr p a) s = execSynClr p a s := rfl
@[simp] theorem exec_vecAdd (p v) (s : State) : exec (.vecAdd p v) s = execVecAdd p v s := rfl
@[simp] theorem exec_vecSub (p v) (s : State) : exec (.vecSub p v) s = execVecSub p v s := rfl
@[simp] theorem exec_adds (p v) (s : State) : exec (.adds p v) s = execAdds p v s := rfl
@[simp] theorem exec_subs (p v) (s : State) : exec (.subs p v) s = execSubs p v s := rfl
@[simp] theorem exec_mullo (p v) (s : State) : exec (.mullo p v) s = execMullo p v s := rfl
@[simp] theorem exec_mulr (p v) (s : State) : exec (.mulr p v) s = execMulr p v s := rfl
@[simp] theorem exec_vecScale (p v) (s : State) : exec (.vecScale p v) s = execVecScale p v s := rfl
@[simp] theorem exec_shl (p v) (s : State) : exec (.shl p v) s = execShl p v s := rfl
@[simp] theorem exec_shr (p v) (s : State) : exec (.shr p v) s = execShr p v s := rfl
@[simp] theorem exec_shru (p v) (s : State) : exec (.shru p v) s = execShru p v s := rfl
@[simp] theorem exec_vecMin (p v) (s : State) : exec (.vecMin p v) s = execVecMin p v s := rfl
@[simp] theorem exec_vecMax (p v) (s : State) : exec (.vecMax p v) s = execVecMax p v s := rfl
@[simp] theorem exec_minu (p v) (s : State) : exec (.minu p v) s = execMinu p v s := rfl
@[simp] theorem exec_maxu (p v) (s : State) : exec (.maxu p v) s = execMaxu p v s := rfl
@[simp] theorem exec_vecAnd (p v) (s : State) : exec (.vecAnd p v) s = execVecAnd p v s := rfl
@[simp] theorem exec_vecOr (p v) (s : State) : exec (.vecOr p v) s = execVecOr p v s := rfl
@[simp] theorem exec_vecXor (p v) (s : State) : exec (.vecXor p v) s = execVecXor p v s := rfl
@[simp] theorem exec_vecSel (p v) (s : State) : exec (.vecSel p v) s = execVecSel p v s := rfl
@[simp] theorem exec_cmpeq (p v) (s : State) : exec (.cmpeq p v) s = execCmpeq p v s := rfl
@[simp] theorem exec_cmplt (p v) (s : State) : exec (.cmplt p v) s = execCmplt p v s := rfl
@[simp] theorem exec_cmpltu (p v) (s : State) : exec (.cmpltu p v) s = execCmpltu p v s := rfl
@[simp] theorem exec_clz (p v) (s : State) : exec (.clz p v) s = execClz p v s := rfl
@[simp] theorem exec_widen (p v) (s : State) : exec (.widen p v) s = execWiden p v s := rfl
@[simp] theorem exec_widenu (p v) (s : State) : exec (.widenu p v) s = execWidenu p v s := rfl
@[simp] theorem exec_narrow (p v) (s : State) : exec (.narrow p v) s = execNarrow p v s := rfl
@[simp] theorem exec_fexp2 (p v) (s : State) : exec (.fexp2 p v) s = execFexp2 p v s := rfl
@[simp] theorem exec_flog2 (p v) (s : State) : exec (.flog2 p v) s = execFlog2 p v s := rfl
@[simp] theorem exec_frcp (p v) (s : State) : exec (.frcp p v) s = execFrcp p v s := rfl
@[simp] theorem exec_frsq (p v) (s : State) : exec (.frsq p v) s = execFrsq p v s := rfl
@[simp] theorem exec_ftanh (p v) (s : State) : exec (.ftanh p v) s = execFtanh p v s := rfl
@[simp] theorem exec_fsigm (p v) (s : State) : exec (.fsigm p v) s = execFsigm p v s := rfl
@[simp] theorem exec_fsgate (p v) (s : State) : exec (.fsgate p v) s = execFsgate p v s := rfl
@[simp] theorem exec_rsum (p v) (s : State) : exec (.rsum p v) s = execRsum p v s := rfl
@[simp] theorem exec_rssq (p v) (s : State) : exec (.rssq p v) s = execRssq p v s := rfl
@[simp] theorem exec_rmax (p v) (s : State) : exec (.rmax p v) s = execRmax p v s := rfl
@[simp] theorem exec_rmin (p v) (s : State) : exec (.rmin p v) s = execRmin p v s := rfl
@[simp] theorem exec_gather (p v) (s : State) : exec (.gather p v) s = execGather p v s := rfl
@[simp] theorem exec_scatter (p v) (s : State) : exec (.scatter p v) s = execScatter p v s := rfl
@[simp] theorem exec_ldk (p v) (s : State) : exec (.ldk p v) s = execLdk p v s := rfl
@[simp] theorem exec_zclr (p v) (s : State) : exec (.zclr p v) s = execZclr p v s := rfl
@[simp] theorem exec_zout (p v) (s : State) : exec (.zout p v) s = execZout p v s := rfl
@[simp] theorem exec_zacc (p v) (s : State) : exec (.zacc p v) s = execZacc p v s := rfl
@[simp] theorem exec_zrcp (p v) (s : State) : exec (.zrcp p v) s = execZrcp p v s := rfl
@[simp] theorem exec_zrsq (p v) (s : State) : exec (.zrsq p v) s = execZrsq p v s := rfl
@[simp] theorem exec_pset (p v) (s : State) : exec (.pset p v) s = execPset p v s := rfl
@[simp] theorem exec_pld (p v) (s : State) : exec (.pld p v) s = execPld p v s := rfl
@[simp] theorem exec_topk (p v) (s : State) : exec (.topk p v) s = execTopk p v s := rfl
@[simp] theorem exec_tkmerge (p v) (s : State) : exec (.tkmerge p v) s = execTkmerge p v s := rfl
@[simp] theorem exec_tkout (p v) (s : State) : exec (.tkout p v) s = execTkout p v s := rfl
@[simp] theorem exec_tkclr (p v) (s : State) : exec (.tkclr p v) s = execTkclr p v s := rfl
@[simp] theorem exec_rowsel (p v) (s : State) : exec (.rowsel p v) s = execRowsel p v s := rfl
@[simp] theorem exec_rowArrival (src dst flits) (s : State) : exec (.rowArrival src dst flits) s = execRowArrival src dst flits s := rfl
@[simp] theorem exec_reqRead (src h flits env) (s : State) : exec (.reqRead src h flits env) s = execReqRead src h flits env s := rfl
@[simp] theorem exec_reqWrite (src h flits) (s : State) : exec (.reqWrite src h flits) s = execReqWrite src h flits s := rfl
@[simp] theorem exec_reqAtomic (src h flits env) (s : State) : exec (.reqAtomic src h flits env) s = execReqAtomic src h flits env s := rfl
@[simp] theorem exec_linkAck (w seq) (s : State) : exec (.linkAck w seq) s = execLinkAck w seq s := rfl
@[simp] theorem exec_linkNak (w seq g) (s : State) : exec (.linkNak w seq g) s = execLinkNak w seq g s := rfl
@[simp] theorem exec_linkPause (w) (s : State) : exec (.linkPause w) s = execLinkPause w s := rfl
@[simp] theorem exec_linkResume (w) (s : State) : exec (.linkResume w) s = execLinkResume w s := rfl
@[simp] theorem exec_replayTimeout (w g) (s : State) : exec (.replayTimeout w g) s = execReplayTimeout w g s := rfl
@[simp] theorem exec_arbiterDecision (a reqs) (s : State) : exec (.arbiterDecision a reqs) s = execArbiterDecision a reqs s := rfl
@[simp] theorem exec_staleRequest (a) (s : State) : exec (.staleRequest a) s = execStaleRequest a s := rfl
@[simp] theorem exec_lockLoopUpdate (g rings) (s : State) : exec (.lockLoopUpdate g rings) s = execLockLoopUpdate g rings s := rfl
@[simp] theorem exec_feedforwardUpdate (g) (s : State) : exec (.feedforwardUpdate g) s = execFeedforwardUpdate g s := rfl
@[simp] theorem exec_ringSlip (g ring w lost) (s : State) : exec (.ringSlip g ring w lost) s = execRingSlip g ring w lost s := rfl
@[simp] theorem exec_relockDone (g ring w ok) (s : State) : exec (.relockDone g ring w ok) s = execRelockDone g ring w ok s := rfl
@[simp] theorem exec_lockThermoReport (g temp) (s : State) : exec (.lockThermoReport g temp) s = execLockThermoReport g temp s := rfl
@[simp] theorem exec_mapComplete (s : State) : exec (.mapComplete) s = execMapComplete s := rfl
@[simp] theorem exec_fadeValue (l f) (s : State) : exec (.fadeValue l f) s = execFadeValue l f s := rfl
@[simp] theorem exec_driveAdjust (l) (s : State) : exec (.driveAdjust l) s = execDriveAdjust l s := rfl
@[simp] theorem exec_spareReady (l locked) (s : State) : exec (.spareReady l locked) s = execSpareReady l locked s := rfl
@[simp] theorem exec_crossfadeDeadline (l) (s : State) : exec (.crossfadeDeadline l) s = execCrossfadeDeadline l s := rfl
@[simp] theorem exec_forcedRecessWaitEnd (s : State) : exec (.forcedRecessWaitEnd) s = execForcedRecessWaitEnd s := rfl
@[simp] theorem exec_crossfade (l ps) (s : State) : exec (.crossfade l ps) s = execCrossfade l ps s := rfl
@[simp] theorem exec_crossfadeStep (l) (s : State) : exec (.crossfadeStep l) s = execCrossfadeStep l s := rfl
@[simp] theorem exec_p0Update (l p0) (s : State) : exec (.p0Update l p0) s = execP0Update l p0 s := rfl
@[simp] theorem exec_p0WriteRetry (l) (s : State) : exec (.p0WriteRetry l) s = execP0WriteRetry l s := rfl
@[simp] theorem exec_calPhaseEnd (readings weak) (s : State) : exec (.calPhaseEnd readings weak) s = execCalPhaseEnd readings weak s := rfl
@[simp] theorem exec_laneGroupRecal (g) (s : State) : exec (.laneGroupRecal g) s = execLaneGroupRecal g s := rfl
@[simp] theorem exec_laneGroupRecalDone (r) (s : State) : exec (.laneGroupRecalDone r) s = execLaneGroupRecalDone r s := rfl
@[simp] theorem exec_recessDemand (us overdue) (s : State) : exec (.recessDemand us overdue) s = execRecessDemand us overdue s := rfl
@[simp] theorem exec_recessWorkDone (s : State) : exec (.recessWorkDone) s = execRecessWorkDone s := rfl
@[simp] theorem exec_drainComplete (twins) (s : State) : exec (.drainComplete twins) s = execDrainComplete twins s := rfl
@[simp] theorem exec_journalStallResume (s : State) : exec (.journalStallResume) s = execJournalStallResume s := rfl
@[simp] theorem exec_commitComplete (s : State) : exec (.commitComplete) s = execCommitComplete s := rfl
@[simp] theorem exec_restoreDone (s : State) : exec (.restoreDone) s = execRestoreDone s := rfl
@[simp] theorem exec_packageReady (s : State) : exec (.packageReady) s = execPackageReady s := rfl
@[simp] theorem exec_readyMsg (member step t) (s : State) : exec (.readyMsg member step t) s = execReadyMsg member step t s := rfl
@[simp] theorem exec_readyResend (s : State) : exec (.readyResend) s = execReadyResend s := rfl
@[simp] theorem exec_domainWaitTimer (s : State) : exec (.domainWaitTimer) s = execDomainWaitTimer s := rfl
@[simp] theorem exec_syncIoRise (s : State) : exec (.syncIoRise) s = execSyncIoRise s := rfl
@[simp] theorem exec_ppsEdge (s : State) : exec (.ppsEdge) s = execPpsEdge s := rfl
@[simp] theorem exec_inputStageArrival (plaza) (s : State) : exec (.inputStageArrival plaza) s = execInputStageArrival plaza s := rfl
@[simp] theorem exec_inputDelivery (iseq late0 late1) (s : State) : exec (.inputDelivery iseq late0 late1) s = execInputDelivery iseq late0 late1 s := rfl
@[simp] theorem exec_lateInputCopy (iseq c) (s : State) : exec (.lateInputCopy iseq c) s = execLateInputCopy iseq c s := rfl
@[simp] theorem exec_outputArrival (stage c oseq payload) (s : State) : exec (.outputArrival stage c oseq payload) s = execOutputArrival stage c oseq payload s := rfl
@[simp] theorem exec_lagAlarm (stage) (s : State) : exec (.lagAlarm stage) s = execLagAlarm stage s := rfl
@[simp] theorem exec_heartbeat (c selfFault upset) (s : State) : exec (.heartbeat c selfFault upset) s = execHeartbeat c selfFault upset s := rfl
@[simp] theorem exec_heartbeatCheck (s : State) : exec (.heartbeatCheck) s = execHeartbeatCheck s := rfl
@[simp] theorem exec_claimWrite (stage) (s : State) : exec (.claimWrite stage) s = execClaimWrite stage s := rfl
@[simp] theorem exec_heldRelease (stage) (s : State) : exec (.heldRelease stage) s = execHeldRelease stage s := rfl
@[simp] theorem exec_switchoverComplete (s : State) : exec (.switchoverComplete) s = execSwitchoverComplete s := rfl
@[simp] theorem exec_umpireTick (s : State) : exec (.umpireTick) s = execUmpireTick s := rfl
@[simp] theorem exec_tickTimeout (s : State) : exec (.tickTimeout) s = execTickTimeout s := rfl
@[simp] theorem exec_resyncReady (c) (s : State) : exec (.resyncReady c) s = execResyncReady c s := rfl
@[simp] theorem exec_resyncSnapshotDone (us) (s : State) : exec (.resyncSnapshotDone us) s = execResyncSnapshotDone us s := rfl
@[simp] theorem exec_standbyBist (passed) (s : State) : exec (.standbyBist passed) s = execStandbyBist passed s := rfl
@[simp] theorem exec_healthReport (corrected0 corrected1) (s : State) : exec (.healthReport corrected0 corrected1) s = execHealthReport corrected0 corrected1 s := rfl
@[simp] theorem exec_wireTestDone (t) (s : State) : exec (.wireTestDone t) s = execWireTestDone t s := rfl
@[simp] theorem exec_bondLogRetry (s : State) : exec (.bondLogRetry) s = execBondLogRetry s := rfl
@[simp] theorem exec_treqFrame (f) (s : State) : exec (.treqFrame f) s = execTreqFrame f s := rfl
@[simp] theorem exec_repairFrame (f words) (s : State) : exec (.repairFrame f words) s = execRepairFrame f words s := rfl
@[simp] theorem exec_mapFrame (f) (s : State) : exec (.mapFrame f) s = execMapFrame f s := rfl
@[simp] theorem exec_echoFrame (f) (s : State) : exec (.echoFrame f) s = execEchoFrame f s := rfl
@[simp] theorem exec_doneFrame (f) (s : State) : exec (.doneFrame f) s = execDoneFrame f s := rfl
@[simp] theorem exec_trainTimeout (u) (s : State) : exec (.trainTimeout u) s = execTrainTimeout u s := rfl
@[simp] theorem exec_sidebandClockStop (b follows passing) (s : State) : exec (.sidebandClockStop b follows passing) s = execSidebandClockStop b follows passing s := rfl
@[simp] theorem exec_governorTick (sh marginAd marginSd) (s : State) : exec (.governorTick sh marginAd marginSd) s = execGovernorTick sh marginAd marginSd s := rfl
@[simp] theorem exec_freqStopEnd (sh) (s : State) : exec (.freqStopEnd sh) s = execFreqStopEnd sh s := rfl
@[simp] theorem exec_droopDetect (sh depth) (s : State) : exec (.droopDetect sh depth) s = execDroopDetect sh depth s := rfl
@[simp] theorem exec_railCheck (rail mv amps) (s : State) : exec (.railCheck rail mv amps) s = execRailCheck rail mv amps s := rfl
@[simp] theorem exec_sensorRead (p sd sensor t) (s : State) : exec (.sensorRead p sd sensor t) s = execSensorRead p sd sensor t s := rfl
@[simp] theorem exec_powerMeasure (pkg shallots) (s : State) : exec (.powerMeasure pkg shallots) s = execPowerMeasure pkg shallots s := rfl
@[simp] theorem exec_wakeTick (s : State) : exec (.wakeTick) s = execWakeTick s := rfl
@[simp] theorem exec_forecastFrame (sh next segment) (s : State) : exec (.forecastFrame sh next segment) s = execForecastFrame sh next segment s := rfl
@[simp] theorem exec_forecastHoldEnd (sh) (s : State) : exec (.forecastHoldEnd sh) s = execForecastHoldEnd sh s := rfl
@[simp] theorem exec_vrLimitAssert (sh) (s : State) : exec (.vrLimitAssert sh) s = execVrLimitAssert sh s := rfl
@[simp] theorem exec_vrLimitDeassert (sh) (s : State) : exec (.vrLimitDeassert sh) s = execVrLimitDeassert sh s := rfl
@[simp] theorem exec_vrLimitTimer (sh) (s : State) : exec (.vrLimitTimer sh) s = execVrLimitTimer sh s := rfl
@[simp] theorem exec_thermalCheck (activity boulevard) (s : State) : exec (.thermalCheck activity boulevard) s = execThermalCheck activity boulevard s := rfl
@[simp] theorem exec_shallotCooldownEnd (sh) (s : State) : exec (.shallotCooldownEnd sh) s = execShallotCooldownEnd sh s := rfl
@[simp] theorem exec_thermistorRead (n t) (s : State) : exec (.thermistorRead n t) s = execThermistorRead n t s := rfl
@[simp] theorem exec_scrubUnit (h u fault noSpare) (s : State) : exec (.scrubUnit h u fault noSpare) s = execScrubUnit h u fault noSpare s := rfl
@[simp] theorem exec_rowRepair (h row) (s : State) : exec (.rowRepair h row) s = execRowRepair h row s := rfl
@[simp] theorem exec_walkerStep (h) (s : State) : exec (.walkerStep h) s = execWalkerStep h s := rfl
@[simp] theorem exec_rotateDone (s : State) : exec (.rotateDone) s = execRotateDone s := rfl
@[simp] theorem exec_netLinkDown (sub fec lanes) (s : State) : exec (.netLinkDown sub fec lanes) s = execNetLinkDown sub fec lanes s := rfl
@[simp] theorem exec_netLinkUp (sub lanes macsec) (s : State) : exec (.netLinkUp sub lanes macsec) s = execNetLinkUp sub lanes macsec s := rfl
@[simp] theorem exec_routeRestore (dest) (s : State) : exec (.routeRestore dest) s = execRouteRestore dest s := rfl
@[simp] theorem exec_rxFrame (sub f) (s : State) : exec (.rxFrame sub f) s = execRxFrame sub f s := rfl
@[simp] theorem exec_neighborSolicitation (sub target) (s : State) : exec (.neighborSolicitation sub target) s = execNeighborSolicitation sub target s := rfl
@[simp] theorem exec_ptpMessage (sub selected offset) (s : State) : exec (.ptpMessage sub selected offset) s = execPtpMessage sub selected offset s := rfl
@[simp] theorem exec_ptpLost (s : State) : exec (.ptpLost) s = execPtpLost s := rfl
@[simp] theorem exec_schedWindow (num) (s : State) : exec (.schedWindow num) s = execSchedWindow num s := rfl
@[simp] theorem exec_schedData (p) (s : State) : exec (.schedData p) s = execSchedData p s := rfl
@[simp] theorem exec_schedAck (num step bits) (s : State) : exec (.schedAck num step bits) s = execSchedAck num step bits s := rfl
@[simp] theorem exec_schedAckTimer (num step) (s : State) : exec (.schedAckTimer num step) s = execSchedAckTimer num step s := rfl
@[simp] theorem exec_schedResendTimer (num step seq) (s : State) : exec (.schedResendTimer num step seq) s = execSchedResendTimer num step seq s := rfl
@[simp] theorem exec_serviceCall (c) (s : State) : exec (.serviceCall c) s = execServiceCall c s := rfl
@[simp] theorem exec_hello (via nonce) (s : State) : exec (.hello via nonce) s = execHello via nonce s := rfl
@[simp] theorem exec_openSession (via m) (s : State) : exec (.openSession via m) s = execOpenSession via m s := rfl
@[simp] theorem exec_offerExpiry (s : State) : exec (.offerExpiry) s = execOfferExpiry s := rfl
@[simp] theorem exec_reachLoad (p env) (s : State) : exec (.reachLoad p env) s = execReachLoad p env s := rfl
@[simp] theorem exec_reachStore (p) (s : State) : exec (.reachStore p) s = execReachStore p s := rfl
@[simp] theorem exec_reachAtomic (p env) (s : State) : exec (.reachAtomic p env) s = execReachAtomic p env s := rfl
@[simp] theorem exec_stageWrite (p) (s : State) : exec (.stageWrite p) s = execStageWrite p s := rfl
@[simp] theorem exec_stageLoad (p ue) (s : State) : exec (.stageLoad p ue) s = execStageLoad p ue s := rfl
@[simp] theorem exec_refusedReply (g) (s : State) : exec (.refusedReply g) s = execRefusedReply g s := rfl
@[simp] theorem exec_loadReply (p) (s : State) : exec (.loadReply p) s = execLoadReply p s := rfl
@[simp] theorem exec_reachAck (p) (s : State) : exec (.reachAck p) s = execReachAck p s := rfl
@[simp] theorem exec_atomicReply (p) (s : State) : exec (.atomicReply p) s = execAtomicReply p s := rfl
@[simp] theorem exec_fetchMissing (p) (s : State) : exec (.fetchMissing p) s = execFetchMissing p s := rfl
@[simp] theorem exec_reachStatus (p) (s : State) : exec (.reachStatus p) s = execReachStatus p s := rfl
@[simp] theorem exec_reachResendTimer (engine peer seq) (s : State) : exec (.reachResendTimer engine peer seq) s = execReachResendTimer engine peer seq s := rfl
@[simp] theorem exec_fenceTimeout (g plaza index) (s : State) : exec (.fenceTimeout g plaza index) s = execFenceTimeout g plaza index s := rfl
@[simp] theorem exec_replyStoreExpiry (g src engine seq) (s : State) : exec (.replyStoreExpiry g src engine seq) s = execReplyStoreExpiry g src engine seq s := rfl
@[simp] theorem exec_combineWindowEnd (g dst region offset) (s : State) : exec (.combineWindowEnd g dst region offset) s = execCombineWindowEnd g dst region offset s := rfl
@[simp] theorem exec_trngHealthFail (s : State) : exec (.trngHealthFail) s = execTrngHealthFail s := rfl
@[simp] theorem exec_keyUnwrap (p ok) (s : State) : exec (.keyUnwrap p ok) s = execKeyUnwrap p ok s := rfl
@[simp] theorem exec_quorumLapse (s : State) : exec (.quorumLapse) s = execQuorumLapse s := rfl
@[simp] theorem exec_eventIrqTimer (s : State) : exec (.eventIrqTimer) s = execEventIrqTimer s := rfl
@[simp] theorem exec_getInfo (m) (s : State) : exec (.getInfo m) s = execGetInfo m s := rfl
@[simp] theorem exec_attest (m) (s : State) : exec (.attest m) s = execAttest m s := rfl
@[simp] theorem exec_certChain (m) (s : State) : exec (.certChain m) s = execCertChain m s := rfl
@[simp] theorem exec_regRead (m) (s : State) : exec (.regRead m) s = execRegRead m s := rfl
@[simp] theorem exec_eventRead (m) (s : State) : exec (.eventRead m) s = execEventRead m s := rfl
@[simp] theorem exec_eventAck (m) (s : State) : exec (.eventAck m) s = execEventAck m s := rfl
@[simp] theorem exec_mapRead (m) (s : State) : exec (.mapRead m) s = execMapRead m s := rfl
@[simp] theorem exec_mapAck (m) (s : State) : exec (.mapAck m) s = execMapAck m s := rfl
@[simp] theorem exec_hostCommand (m) (s : State) : exec (.hostCommand m) s = execHostCommand m s := rfl
@[simp] theorem exec_mewsStageWrite (m) (s : State) : exec (.mewsStageWrite m) s = execMewsStageWrite m s := rfl
@[simp] theorem exec_timeSource (m) (s : State) : exec (.timeSource m) s = execTimeSource m s := rfl
@[simp] theorem exec_freqSet (m) (s : State) : exec (.freqSet m) s = execFreqSet m s := rfl
@[simp] theorem exec_conductorReset (m) (s : State) : exec (.conductorReset m) s = execConductorReset m s := rfl
@[simp] theorem exec_fieldTest (m wires waves) (s : State) : exec (.fieldTest m wires waves) s = execFieldTest m wires waves s := rfl
@[simp] theorem exec_mgmtNetSet (m) (s : State) : exec (.mgmtNetSet m) s = execMgmtNetSet m s := rfl
@[simp] theorem exec_fwWrite (m) (s : State) : exec (.fwWrite m) s = execFwWrite m s := rfl
@[simp] theorem exec_fwCommit (m) (s : State) : exec (.fwCommit m) s = execFwCommit m s := rfl
@[simp] theorem exec_fwBlockWrite (s : State) : exec (.fwBlockWrite) s = execFwBlockWrite s := rfl
@[simp] theorem exec_packageReset (m) (s : State) : exec (.packageReset m) s = execPackageReset m s := rfl
@[simp] theorem exec_plazaReset (m) (s : State) : exec (.plazaReset m) s = execPlazaReset m s := rfl
@[simp] theorem exec_plazaResetDone (pcUp) (s : State) : exec (.plazaResetDone pcUp) s = execPlazaResetDone pcUp s := rfl
@[simp] theorem exec_shallotReset (m) (s : State) : exec (.shallotReset m) s = execShallotReset m s := rfl
@[simp] theorem exec_shallotResetDone (sh fails) (s : State) : exec (.shallotResetDone sh fails) s = execShallotResetDone sh fails s := rfl
@[simp] theorem exec_credSet (m) (s : State) : exec (.credSet m) s = execCredSet m s := rfl
@[simp] theorem exec_changeSubmit (m) (s : State) : exec (.changeSubmit m) s = execChangeSubmit m s := rfl
@[simp] theorem exec_mewsMessageTimeout (port tag) (s : State) : exec (.mewsMessageTimeout port tag) s = execMewsMessageTimeout port tag s := rfl
@[simp] theorem exec_setEndpointId (port op eid) (s : State) : exec (.setEndpointId port op eid) s = execSetEndpointId port op eid s := rfl
@[simp] theorem exec_getEndpointId (port) (s : State) : exec (.getEndpointId port) s = execGetEndpointId port s := rfl
@[simp] theorem exec_getMctpVersionSupport (port type) (s : State) : exec (.getMctpVersionSupport port type) s = execGetMctpVersionSupport port type s := rfl
@[simp] theorem exec_getMessageTypeSupport (port) (s : State) : exec (.getMessageTypeSupport port) s = execGetMessageTypeSupport port s := rfl
@[simp] theorem exec_getVendorDefinedMessageSupport (port selector) (s : State) : exec (.getVendorDefinedMessageSupport port selector) s = execGetVendorDefinedMessageSupport port selector s := rfl
@[simp] theorem exec_vddAonUp (s : State) : exec (.vddAonUp) s = execVddAonUp s := rfl
@[simp] theorem exec_bringupPhaseEnd (p) (s : State) : exec (.bringupPhaseEnd p) s = execBringupPhaseEnd p s := rfl
@[simp] theorem exec_pkgRstAssert (s : State) : exec (.pkgRstAssert) s = execPkgRstAssert s := rfl
@[simp] theorem exec_vddAonLoss (io) (s : State) : exec (.vddAonLoss io) s = execVddAonLoss io s := rfl
@[simp] theorem exec_perstAssert (s : State) : exec (.perstAssert) s = execPerstAssert s := rfl
@[simp] theorem exec_pcieHotReset (s : State) : exec (.pcieHotReset) s = execPcieHotReset s := rfl
@[simp] theorem exec_pkgRstRelease (s : State) : exec (.pkgRstRelease) s = execPkgRstRelease s := rfl
@[simp] theorem exec_heldRowTransferDone (sh) (s : State) : exec (.heldRowTransferDone sh) s = execHeldRowTransferDone sh s := rfl
@[simp] theorem exec_dutyFrameBoundary (sh) (s : State) : exec (.dutyFrameBoundary sh) s = execDutyFrameBoundary sh s := rfl
@[simp] theorem exec_parkComplete (s : State) : exec (.parkComplete) s = execParkComplete s := rfl
@[simp] theorem exec_nvWriteDone (s : State) : exec (.nvWriteDone) s = execNvWriteDone s := rfl
@[simp] theorem exec_journalExportDone (env) (s : State) : exec (.journalExportDone env) s = execJournalExportDone env s := rfl
@[simp] theorem exec_unknownCommand (c) (s : State) : exec (.unknownCommand c) s = execUnknownCommand c s := rfl
@[simp] theorem exec_d3hotExit (s : State) : exec (.d3hotExit) s = execD3hotExit s := rfl
@[simp] theorem exec_i3cAddressAssigned (addr) (s : State) : exec (.i3cAddressAssigned addr) s = execI3cAddressAssigned addr s := rfl

end Sys2Proof.Machine
end

