-- ==== Sys2Proof/Laws/Tables.lean ====
section
/-! SUPPORT. Laws of the sparse tables and of the memory of the stacks: a read after a write, what a write leaves alone, and
that every operation keeps the canonical form. -/
namespace Sys2Proof.Machine

variable {α : Type}

/-- Every number of the list lies at or above `lo`. -/
def cellsAbove (lo : Nat) (l : List (Nat × α)) : Prop := ∀ p ∈ l, lo ≤ p.1

theorem cellsFind_none_of_above {l : List (Nat × α)} {k lo : Nat} (h : cellsAbove lo l) (hk : k < lo) : cellsFind l k = none := by
  induction l with
  | nil => rfl
  | cons p l ih =>
    have h1 : lo ≤ p.1 := h p (by simp)
    have h2 : cellsAbove lo l := fun q hq => h q (by simp [hq])
    have : p.1 ≠ k := by omega
    simp [cellsFind, this, ih h2]

theorem cellsRising_tail {p : Nat × α} {l : List (Nat × α)} (h : cellsRising (p :: l) = true) : cellsRising l = true := by
  cases l with
  | nil => rfl
  | cons q l => simp [cellsRising] at h; exact h.2

theorem cellsRising_above {p : Nat × α} {l : List (Nat × α)} (h : cellsRising (p :: l) = true) : cellsAbove (p.1 + 1) l := by
  induction l generalizing p with
  | nil => intro q hq; simp at hq
  | cons q l ih =>
    simp [cellsRising] at h
    intro r hr
    rcases List.mem_cons.mp hr with rfl | hr
    · omega
    · have := ih h.2 r hr; omega

theorem cellsRising_cons {p : Nat × α} {l : List (Nat × α)} (ha : cellsAbove (p.1 + 1) l) (h : cellsRising l = true) :
    cellsRising (p :: l) = true := by
  cases l with
  | nil => rfl
  | cons q l =>
    have := ha q (by simp)
    simp [cellsRising, h]; omega

theorem cellsRising_iff {l : List (Nat × α)} : cellsRising l = true ↔ l.Pairwise (fun p q => p.1 < q.1) := by
  induction l with
  | nil => simp [cellsRising]
  | cons p l ih =>
    constructor
    · intro h
      refine List.pairwise_cons.mpr ⟨fun q hq => ?_, ih.mp (cellsRising_tail h)⟩
      have := cellsRising_above h q hq; omega
    · intro h
      rw [List.pairwise_cons] at h
      exact cellsRising_cons (fun q hq => h.1 q hq) (ih.mpr h.2)

/-! ### Reading and setting -/

theorem cellsFind_ins_self (l : List (Nat × α)) (k : Nat) (v : α) : cellsFind (cellsIns l k v) k = some v := by
  induction l with
  | nil => simp [cellsIns, cellsFind]
  | cons p l ih =>
    obtain ⟨j, w⟩ := p
    by_cases h1 : k < j
    · simp [cellsIns, h1, cellsFind]
    · by_cases h2 : j = k
      · subst h2; simp [cellsIns, cellsFind]
      · simp [cellsIns, h1, h2, cellsFind, ih]

theorem cellsFind_ins_ne (l : List (Nat × α)) {k k' : Nat} (v : α) (h : k' ≠ k) : cellsFind (cellsIns l k v) k' = cellsFind l k' := by
  induction l with
  | nil => simp [cellsIns, cellsFind, Ne.symm h]
  | cons p l ih =>
    obtain ⟨j, w⟩ := p
    by_cases h1 : k < j
    · simp [cellsIns, h1, cellsFind, Ne.symm h]
    · by_cases h2 : j = k
      · subst h2; simp [cellsIns, cellsFind, Ne.symm h]
      · simp [cellsIns, h1, h2, cellsFind, ih]

theorem cellsFind_del_self (l : List (Nat × α)) (k : Nat) : cellsFind (cellsDel l k) k = none := by
  induction l with
  | nil => simp [cellsDel, cellsFind]
  | cons p l ih =>
    obtain ⟨j, w⟩ := p
    by_cases h2 : j = k
    · simp [cellsDel, h2, ih]
    · simp [cellsDel, h2, cellsFind, ih]

theorem cellsFind_del_ne (l : List (Nat × α)) {k k' : Nat} (h : k' ≠ k) : cellsFind (cellsDel l k) k' = cellsFind l k' := by
  induction l with
  | nil => simp [cellsDel, cellsFind]
  | cons p l ih =>
    obtain ⟨j, w⟩ := p
    by_cases h2 : j = k
    · subst h2; simp [cellsDel, cellsFind, ih, Ne.symm h]
    · simp [cellsDel, h2, cellsFind, ih]

/-- A read after a write to the same entry gives the value written. -/
@[simp] theorem Tbl.get_set_self [Inhabited α] [DecidableEq α] (t : Tbl α) (k : Nat) (v : α) : (t.set k v).get k = v := by
  unfold Tbl.set Tbl.get
  split
  · next h => simp [cellsFind_del_self, h]
  · simp [cellsFind_ins_self]

/-- A write leaves every other entry alone. -/
theorem Tbl.get_set_ne [Inhabited α] [DecidableEq α] (t : Tbl α) {k k' : Nat} (v : α) (h : k' ≠ k) : (t.set k v).get k' = t.get k' := by
  unfold Tbl.set Tbl.get
  split
  · simp [cellsFind_del_ne _ h]
  · simp [cellsFind_ins_ne _ _ h]

theorem Tbl.get_set [Inhabited α] [DecidableEq α] (t : Tbl α) (k k' : Nat) (v : α) :
    (t.set k v).get k' = if k' = k then v else t.get k' := by
  split
  · next h => subst h; simp
  · next h => exact t.get_set_ne v h

@[simp] theorem Tbl.get_mod_self [Inhabited α] [DecidableEq α] (t : Tbl α) (k : Nat) (f : α → α) : (t.mod k f).get k = f (t.get k) := by
  simp [Tbl.mod]

theorem Tbl.get_mod_ne [Inhabited α] [DecidableEq α] (t : Tbl α) {k k' : Nat} (f : α → α) (h : k' ≠ k) :
    (t.mod k f).get k' = t.get k' := by
  simp [Tbl.mod, Tbl.get_set_ne _ _ h]

@[simp] theorem Tbl.get_empty [Inhabited α] (k : Nat) : (({} : Tbl α)).get k = default := rfl

/-! ### Canonical form -/

theorem mem_cellsIns {l : List (Nat × α)} {k : Nat} {v : α} {p : Nat × α} (h : p ∈ cellsIns l k v) : p = (k, v) ∨ p ∈ l := by
  induction l with
  | nil => simp [cellsIns] at h; exact .inl h
  | cons q l ih =>
    obtain ⟨j, w⟩ := q
    unfold cellsIns at h
    split at h
    · rcases List.mem_cons.mp h with h | h
      · exact .inl h
      · exact .inr h
    · split at h
      · rcases List.mem_cons.mp h with h | h
        · exact .inl h
        · exact .inr (by simp [h])
      · rcases List.mem_cons.mp h with h | h
        · exact .inr (by simp [h])
        · rcases ih h with h | h
          · exact .inl h
          · exact .inr (by simp [h])

theorem mem_cellsDel {l : List (Nat × α)} {k : Nat} {p : Nat × α} (h : p ∈ cellsDel l k) : p ∈ l := by
  induction l with
  | nil => simp [cellsDel] at h
  | cons q l ih =>
    obtain ⟨j, w⟩ := q
    unfold cellsDel at h
    split at h
    · simp [ih h]
    · rcases List.mem_cons.mp h with h | h
      · simp [h]
      · simp [ih h]

theorem cellsIns_rising {l : List (Nat × α)} (h : cellsRising l = true) (k : Nat) (v : α) : cellsRising (cellsIns l k v) = true := by
  induction l with
  | nil => rfl
  | cons q l ih =>
    obtain ⟨j, w⟩ := q
    have ha := cellsRising_above h
    have ht := cellsRising_tail h
    unfold cellsIns
    split
    · next hk =>
      refine cellsRising_cons ?_ h
      intro p hp
      rcases List.mem_cons.mp hp with rfl | hp
      · exact hk
      · have := ha p hp; simp only at this ⊢; omega
    · split
      · next hk => subst hk; exact cellsRising_cons ha ht
      · refine cellsRising_cons ?_ (ih ht)
        intro p hp
        rcases mem_cellsIns hp with rfl | hp
        · simp only; omega
        · exact ha p hp

theorem cellsDel_rising {l : List (Nat × α)} (h : cellsRising l = true) (k : Nat) : cellsRising (cellsDel l k) = true := by
  induction l with
  | nil => rfl
  | cons q l ih =>
    obtain ⟨j, w⟩ := q
    have ha := cellsRising_above h
    have ht := cellsRising_tail h
    unfold cellsDel
    split
    · exact ih ht
    · exact cellsRising_cons (fun p hp => ha p (mem_cellsDel hp)) (ih ht)

/-- Setting an entry keeps the canonical form of a table. -/
theorem Tbl.set_wf [Inhabited α] [DecidableEq α] {t : Tbl α} (h : t.wf = true) (k : Nat) (v : α) : (t.set k v).wf = true := by
  unfold Tbl.wf at h ⊢
  simp only [Bool.and_eq_true, List.all_eq_true] at h ⊢
  unfold Tbl.set
  split
  · exact ⟨cellsDel_rising h.1 k, fun p hp => h.2 p (mem_cellsDel hp)⟩
  · next hv =>
    refine ⟨cellsIns_rising h.1 k v, fun p hp => ?_⟩
    rcases mem_cellsIns hp with rfl | hp
    · simpa using hv
    · exact h.2 p hp

/-- Changing an entry keeps the canonical form of a table. -/
theorem Tbl.mod_wf [Inhabited α] [DecidableEq α] {t : Tbl α} (h : t.wf = true) (k : Nat) (f : α → α) : (t.mod k f).wf = true := t.set_wf h k _

/-! ### The memory of the stacks -/

theorem zipIdx_rising (bs : List Byte) (a n : Nat) :
    ((bs.zipIdx n).map (fun p => ((a + p.2, p.1) : Host.Cell))).Pairwise (fun p q => p.1 < q.1) := by
  induction bs generalizing n with
  | nil => simp
  | cons b bs ih =>
    simp only [List.zipIdx_cons, List.map_cons, List.pairwise_cons]
    refine ⟨?_, ih (n + 1)⟩
    intro p hp
    obtain ⟨q, hq, rfl⟩ := List.mem_map.mp hp
    have := List.le_snd_of_mem_zipIdx hq
    simp only; omega

theorem zipIdx_bound {bs : List Byte} {a n : Nat} {p : Host.Cell} (h : p ∈ (bs.zipIdx n).map (fun p => ((a + p.2, p.1) : Host.Cell))) :
    a + n ≤ p.1 ∧ p.1 < a + n + bs.length := by
  obtain ⟨q, hq, rfl⟩ := List.mem_map.mp h
  have h1 := List.le_snd_of_mem_zipIdx hq
  have h2 := List.snd_lt_add_of_mem_zipIdx hq
  simp only; omega

/-- Writing bytes keeps the addresses strictly rising. -/
theorem memPut_wf {l : List Host.Cell} (h : Memory.wf l = true) (a : Nat) (bs : List Byte) : Memory.wf (memPut l a bs) = true := by
  unfold Memory.wf at h ⊢
  rw [cellsRising_iff] at h ⊢
  unfold memPut
  rw [List.pairwise_append, List.pairwise_append]
  refine ⟨⟨h.filter _, zipIdx_rising bs a 0, ?_⟩, h.filter _, ?_⟩
  · intro p hp q hq
    have h1 := (List.mem_filter.mp hp).2
    have h2 := (zipIdx_bound hq).1
    simp at h1; omega
  · intro p hp q hq
    have h2 := (List.mem_filter.mp hq).2
    simp at h2
    rcases List.mem_append.mp hp with hp | hp
    · have h1 := (List.mem_filter.mp hp).2
      simp at h1; omega
    · have h1 := (zipIdx_bound hp).2; omega

/-- Forgetting bytes keeps the addresses strictly rising. -/
theorem memDrop_wf {l : List Host.Cell} (h : Memory.wf l = true) (a n : Nat) : Memory.wf (memDrop l a n) = true := by
  unfold Memory.wf at h ⊢
  rw [cellsRising_iff] at h ⊢
  unfold memDrop
  rw [List.pairwise_append]
  refine ⟨h.filter _, h.filter _, ?_⟩
  intro p hp q hq
  have h1 := (List.mem_filter.mp hp).2
  have h2 := (List.mem_filter.mp hq).2
  simp at h1 h2; omega

theorem cellsFind_append (l m : List (Nat × α)) (k : Nat) : cellsFind (l ++ m) k = (cellsFind l k).or (cellsFind m k) := by
  induction l with
  | nil => simp [cellsFind]
  | cons p l ih =>
    by_cases h : p.1 = k
    · simp [cellsFind, h]
    · simp [cellsFind, h, ih]

theorem cellsFind_filter_of {l : List (Nat × α)} {k : Nat} (f : Nat × α → Bool) (h : ∀ p : Nat × α, p.1 = k → f p = true) :
    cellsFind (l.filter f) k = cellsFind l k := by
  induction l with
  | nil => rfl
  | cons p l ih =>
    by_cases hp : p.1 = k
    · simp [h p hp, cellsFind, hp]
    · by_cases hf : f p = true
      · simp [hf, cellsFind, hp, ih]
      · simp [hf, cellsFind, hp, ih]

theorem cellsFind_filter_not {l : List (Nat × α)} {k : Nat} (f : Nat × α → Bool) (h : ∀ p : Nat × α, p.1 = k → f p = false) :
    cellsFind (l.filter f) k = none := by
  induction l with
  | nil => rfl
  | cons p l ih =>
    by_cases hf : f p = true
    · have hp : p.1 ≠ k := fun e => by simp [h p e] at hf
      simp [hf, cellsFind, hp, ih]
    · simp [hf, ih]

theorem cellsFind_zipIdx (bs : List Byte) (a n k : Nat) (h : a + n ≤ k) :
    cellsFind ((bs.zipIdx n).map (fun p => ((a + p.2, p.1) : Host.Cell))) k = bs[k - (a + n)]? := by
  induction bs generalizing n with
  | nil => simp [cellsFind]
  | cons b bs ih =>
    simp only [List.zipIdx_cons, List.map_cons, cellsFind]
    by_cases e : a + n = k
    · simp [e]
    · rw [if_neg e, ih (n + 1) (by omega)]
      have : k - (a + n) = (k - (a + (n + 1))) + 1 := by omega
      rw [this]; rfl

/-- A byte inside the bytes written reads the byte written. -/
theorem memGet_put_in (l : List Host.Cell) (a : Nat) (bs : List Byte) (k : Nat) (h1 : a ≤ k) (h2 : k < a + bs.length) :
    memGet (memPut l a bs) k = bs[k - a]? := by
  unfold memGet memPut
  rw [cellsFind_append, cellsFind_append, cellsFind_filter_not _ (by intro p hp; simp; omega),
    cellsFind_filter_not (fun c => decide (a + bs.length ≤ c.1)) (by intro p hp; simp; omega), cellsFind_zipIdx bs a 0 k (by omega)]
  simp

/-- A byte outside the bytes written reads as before. -/
theorem memGet_put_out (l : List Host.Cell) (a : Nat) (bs : List Byte) (k : Nat) (h : k < a ∨ a + bs.length ≤ k) :
    memGet (memPut l a bs) k = memGet l k := by
  unfold memGet memPut
  rw [cellsFind_append, cellsFind_append]
  have hz : cellsFind ((bs.zipIdx 0).map (fun p => ((a + p.2, p.1) : Host.Cell))) k = none := by
    rcases h with h | h
    · exact cellsFind_none_of_above (lo := a) (fun p hp => by have := (zipIdx_bound hp).1; omega) h
    · rw [cellsFind_zipIdx bs a 0 k (by omega)]; simp; omega
  rw [hz]
  rcases h with h | h
  · rw [cellsFind_filter_of _ (by intro p hp; simp; omega), cellsFind_filter_not (fun c => decide (a + bs.length ≤ c.1)) (by intro p hp; simp; omega)]
    simp
  · rw [cellsFind_filter_not _ (by intro p hp; simp; omega), cellsFind_filter_of (fun c => decide (a + bs.length ≤ c.1)) (by intro p hp; simp; omega)]
    simp

end Sys2Proof.Machine
end

