-- ==== Sys2Proof/Laws/Memory.lean ====
section
/-! SUPPORT. The memory of the stacks as one part of the state: what leaves it alone, and what keeps its canonical form. -/
namespace Sys2Proof.Machine

/-- The bytes of the stacks and their tags. -/
@[irreducible] def State.hm (s : State) : List Host.Cell × Tbl UnitTag := (s.hbm, s.tags)

@[simp] theorem hm_fold (s : State) : (s.hbm, s.tags) = s.hm := by unfold State.hm; rfl
@[simp] theorem hm_mk (a b c d e f g h i j k l m n o p q r u) :
    (State.mk a b c d e f g h i j k l m n o p q r u).hm = (h, i) := by unfold State.hm; rfl
@[simp] theorem hm_ite (p : Prop) [Decidable p] (a b : State) : (if p then a else b).hm = if p then a.hm else b.hm := apply_ite ..

/-- A list of changes leaves the memory alone if each of them does. -/
theorem hm_foldl {α : Type} (f : State → α → State) (l : List α) (s : State) (h : ∀ s a, (f s a).hm = s.hm) : (l.foldl f s).hm = s.hm := by
  induction l generalizing s with
  | nil => rfl
  | cons a l ih => simp [List.foldl, ih, h]

/-- A command leaves the memory alone. -/
@[irreducible] def KeepsHm (s : State) (r : Res) : Prop := ∀ t, r = .next t → t.hm = s.hm

@[simp] theorem keepsHm_next (s t : State) : KeepsHm s (.next t) ↔ t.hm = s.hm := by
  unfold KeepsHm; exact ⟨fun h => h t rfl, fun h u e => by cases e; exact h⟩
@[simp] theorem keepsHm_refused (s : State) (r : Refusal) : KeepsHm s (.refused r) := by unfold KeepsHm; intro t e; cases e


/-- The memory stands in its canonical form. -/
@[irreducible] def HmWf (m : List Host.Cell × Tbl UnitTag) : Prop := Memory.wf m.1 = true ∧ m.2.wf = true

/-- The invariant is about the memory alone. -/
theorem State.inv_iff (s : State) : s.Inv ↔ HmWf s.hm := by unfold HmWf State.hm State.Inv; rfl

@[simp] theorem HmWf.ite (p : Prop) [Decidable p] (a b : List Host.Cell × Tbl UnitTag) :
    HmWf (if p then a else b) ↔ if p then HmWf a else HmWf b := by split <;> rfl

@[simp] theorem HmWf.empty : HmWf ([], {}) := by unfold HmWf; decide

/-- A list of changes keeps the canonical form if each of them does. -/
theorem HmWf.foldl {α : Type} (f : State → α → State) (l : List α) {s : State} (h : ∀ s a, HmWf s.hm → HmWf (f s a).hm) (hs : HmWf s.hm) :
    HmWf (l.foldl f s).hm := by
  induction l generalizing s with
  | nil => exact hs
  | cons a l ih => exact ih (h _ _ hs)

/-- A command keeps the canonical form of the memory. -/
@[irreducible] def KeepsWf (r : Res) : Prop := ∀ t, r = .next t → HmWf t.hm

@[simp] theorem keepsWf_next (t : State) : KeepsWf (.next t) ↔ HmWf t.hm := by
  unfold KeepsWf; exact ⟨fun h => h t rfl, fun h u e => by cases e; exact h⟩
@[simp] theorem keepsWf_refused (r : Refusal) : KeepsWf (.refused r) := by unfold KeepsWf; intro t e; cases e
/-- What leaves the memory alone keeps its form. -/
theorem KeepsHm.wf {s : State} {r : Res} (h : KeepsHm s r) (hs : HmWf s.hm) : KeepsWf r := by
  unfold KeepsHm at h; unfold KeepsWf; intro t e; rw [h t e]; exact hs

end Sys2Proof.Machine
end

