-- ==== Sys2Proof/Laws/KeepsMemoryA.lean ====
section
/-! SUPPORT. Which operations leave the memory of the stacks alone, from the shared operations to the windows. -/
namespace Sys2Proof.Machine

/-! ### Ops -/

@[simp] theorem State.modSh_hm (s : State) (n : Nat) (f : Shallot → Shallot) : (State.modSh s n f).hm = s.hm := by simp [State.modSh]
@[simp] theorem State.modPod_hm (s : State) (n p : Nat) (f : Pod → Pod) : (State.modPod s n p f).hm = s.hm := by simp [State.modPod]
@[simp] theorem State.modMem_hm (s : State) (h : Nat) (f : Stack → Stack) : (State.modMem s h f).hm = s.hm := by simp [State.modMem]
@[simp] theorem State.modGw_hm (s : State) (g : Nat) (f : Gateway → Gateway) : (State.modGw s g f).hm = s.hm := by simp [State.modGw]
@[simp] theorem State.modLamp_hm (s : State) (l : Nat) (f : Lamp → Lamp) : (State.modLamp s l f).hm = s.hm := by simp [State.modLamp]
@[simp] theorem State.modShs_hm (s : State) (test : Shallot → Bool) (f : Shallot → Shallot) : (State.modShs s test f).hm = s.hm := by
  unfold State.modShs
  repeat' (first | simp | intro _ | (refine (hm_foldl _ _ _ (fun _ _ => ?_)).trans ?_) | split | dsimp only)
@[simp] theorem State.modExe_hm (s : State) (f : Execution → Execution) : (State.modExe s f).hm = s.hm := by simp [State.modExe]
@[simp] theorem State.emit_hm (s : State) (o : Out) : (State.emit s o).hm = s.hm := by simp [State.emit]
@[simp] theorem State.msix_hm (s : State) (v : Nat) : (State.msix s v).hm = s.hm := by simp [State.msix]
@[simp] theorem State.hostWord_hm (s : State) (addr n : Nat) : (State.hostWord s addr n).hm = s.hm := by unfold State.hostWord; split <;> simp
@[simp] theorem State.flushWords_hm (s : State) : (State.flushWords s).hm = s.hm := by
  unfold State.flushWords; split
  · exact (hm_foldl _ _ _ (fun _ _ => by simp)).trans (by simp)
  · rfl
@[simp] theorem State.flushMsix_hm (s : State) : (State.flushMsix s).hm = s.hm := by
  unfold State.flushMsix
  repeat' (first | simp | intro _ | (refine (hm_foldl _ _ _ (fun _ _ => ?_)).trans ?_) | split | dsimp only)
@[simp] theorem State.eventSignal_hm (s : State) : (State.eventSignal s).hm = s.hm := by simp [State.eventSignal]
@[simp] theorem State.raise_hm (s : State) (code plaza unit : Nat) (detail : List Byte) : (State.raise s code plaza unit detail).hm = s.hm := by
  simp [State.raise]
@[simp] theorem State.leave_hm (s : State) (f : Frame) : (State.leave s f).hm = s.hm := by
  unfold State.leave; split <;> simp
@[simp] theorem State.sendFrame_hm (s : State) (f : Frame) : (State.sendFrame s f).hm = s.hm := by
  unfold State.sendFrame; split <;> simp
@[simp] theorem State.thawEgress_hm (s : State) (gw port : Nat) : (State.thawEgress s gw port).hm = s.hm := by
  unfold State.thawEgress
  exact (hm_foldl _ _ _ (fun _ _ => by simp)).trans (by simp)
@[simp] theorem State.sendNet_hm (s : State) (sub kind dst : Nat) (bytes : List Byte) : (State.sendNet s sub kind dst bytes).hm = s.hm := by
  simp [State.sendNet]
@[simp] theorem State.sendTo_hm (s : State) (dest kind : Nat) (bytes : List Byte) : (State.sendTo s dest kind bytes).hm = s.hm := by
  unfold State.sendTo; split <;> simp
@[simp] theorem State.mewsReply_hm (s : State) (port op : Nat) (tag : Half) (cred : Byte) (seq : Word64) (st : Status) (auth : Bool) (body : List Byte) : (State.mewsReply s port op tag cred seq st auth body).hm = s.hm := by simp [State.mewsReply]
@[simp] theorem State.answerCmd_hm (s : State) (c : RunningCmd) (st : Status) (aborted other : Bool) (res : List Word) : (State.answerCmd s c st aborted other res).hm = s.hm := by unfold State.answerCmd; split <;> simp
@[simp] theorem State.endCmd_hm (s : State) (st : Status) (res : List Word) : (State.endCmd s st res).hm = s.hm := by
  unfold State.endCmd; split <;> simp
@[simp] theorem State.abortCmd_hm (s : State) : (State.abortCmd s).hm = s.hm := by unfold State.abortCmd; split <;> simp
@[simp] theorem State.countRefusal_hm (s : State) (opcode : Nat) : (State.countRefusal s opcode).hm = s.hm := by simp [State.countRefusal]
@[simp] theorem State.stopShallots_hm (s : State) : (State.stopShallots s).hm = s.hm := by simp [State.stopShallots]
@[simp] theorem State.endExec_hm (s : State) (c : EndCause) : (State.endExec s c).hm = s.hm := by
  unfold State.endExec; repeat' split
  all_goals simp
@[simp] theorem State.hwFault_hm (s : State) (k : HwFault) : (State.hwFault s k).hm = s.hm := by simp [State.hwFault]
@[simp] theorem State.fence_hm (s : State) (n : Nat) : (State.fence s n).hm = s.hm := by simp [State.fence]
@[simp] theorem State.endStart_hm (s : State) : (State.endStart s).hm = s.hm := by unfold State.endStart; split <;> simp
@[simp] theorem State.rotateInForce_hm (s : State) : (State.rotateInForce s).hm = s.hm := by simp [State.rotateInForce]
@[simp] theorem State.toLoaded_hm (s : State) : (State.toLoaded s).hm = s.hm := by simp [State.toLoaded]
@[simp] theorem State.destroyKeys_hm (s : State) : (State.destroyKeys s).hm = s.hm := by simp [State.destroyKeys]
@[simp] theorem State.toFaulted_hm (s : State) (doubt : Bool) : (State.toFaulted s doubt).hm = s.hm := by simp [State.toFaulted]
@[simp] theorem State.retirePod_hm (s : State) (n p : Nat) : (State.retirePod s n p).hm = s.hm := by
  unfold State.retirePod
  repeat' (first | simp | intro _ | (refine (hm_foldl _ _ _ (fun _ _ => ?_)).trans ?_) | split | dsimp only)
@[simp] theorem State.arithFault_hm (s : State) (n pod kind : Nat) (tid : Half) (col : Nat) : (State.arithFault s n pod kind tid col).hm = s.hm := by
  simp [State.arithFault]
@[simp] theorem State.report_hm (s : State) (n pod : Nat) (r : Report) : (s.report n pod r).hm = s.hm := by
  unfold State.report; repeat' split
  all_goals simp
@[simp] theorem State.reports_hm (s : State) (n pod : Nat) (rs : List Report) : (State.reports s n pod rs).hm = s.hm := by
  unfold State.reports
  repeat' (first | simp | intro _ | (refine (hm_foldl _ _ _ (fun _ _ => ?_)).trans ?_) | split | dsimp only)
@[simp] theorem State.podOp_hm (s : State) (r : PodRef) (f : ExecCtx → Pod → Pod × List Report) : KeepsHm s (State.podOp s r f) := by
  simp [State.podOp]
@[simp] theorem State.podOpIf_hm (s : State) (ok : Bool) (r : PodRef) (f : ExecCtx → Pod → Pod × List Report) : KeepsHm s (State.podOpIf s ok r f) := by unfold State.podOpIf; split <;> simp

/-! ### Street -/

@[simp] theorem State.modStreet_hm (s : State) (src dst : Nat) (f : Street → Street) : (State.modStreet s src dst f).hm = s.hm := by
  simp [State.modStreet]
@[simp] theorem State.modWave_hm (s : State) (src dst w : Nat) (f : Wave → Wave) : (State.modWave s src dst w f).hm = s.hm := by simp [State.modWave]
@[simp] theorem pumpGo_hm (src dst w n : Nat) (s : State) : (pumpGo src dst w n s).hm = s.hm := by
  induction n generalizing s with
  | zero => rfl
  | succ n ih =>
    unfold pumpGo; dsimp only
    split
    · rfl
    · split <;> simp [ih]
@[simp] theorem State.pump_hm (s : State) (src dst w : Nat) : (State.pump s src dst w).hm = s.hm := by simp [State.pump]
@[simp] theorem State.sendFlit_hm (s : State) (src dst w : Nat) (header payload : Nat) : (State.sendFlit s src dst w header payload).hm = s.hm := by
  unfold State.sendFlit; split <;> simp
@[simp] theorem State.sendLink_hm (s : State) (src dst type wave seq : Nat) : (State.sendLink s src dst type wave seq).hm = s.hm := by
  simp [State.sendLink]
@[simp] theorem State.sendRow_hm (s : State) (src dst wfirst n : Nat) (last : Bool) (route : Nat → Nat) (r : Row) : (State.sendRow s src dst wfirst n last route r).hm = s.hm := by
  unfold State.sendRow
  repeat' (first | simp | intro _ | (refine (hm_foldl _ _ _ (fun _ _ => ?_)).trans ?_) | split | dsimp only)
@[simp] theorem State.streetDown_hm (s : State) (src dst : Nat) : (State.streetDown s src dst).hm = s.hm := by simp [State.streetDown]
@[simp] theorem State.modLaneAt_hm (s : State) (rx : Bool) (plaza lane : Nat) (f : LaneGroup → LaneGroup) : (State.modLaneAt s rx plaza lane f).hm = s.hm := by simp [State.modLaneAt]
@[simp] theorem State.notPassing_hm (s : State) (p q : Nat) : (State.notPassing s p q).hm = s.hm := by simp [State.notPassing]
@[simp] theorem State.ringsDown_hm (s : State) (src dst w : Nat) : (State.ringsDown s src dst w).hm = s.hm := by simp [State.ringsDown]
@[simp] theorem State.markDown_hm (s : State) (src dst w : Nat) (dark : Bool) : (State.markDown s src dst w dark).hm = s.hm := by
  simp [State.markDown]
@[simp] theorem State.moveWaiting_hm (s : State) (src dst w : Nat) : (State.moveWaiting s src dst w).hm = s.hm := by unfold State.moveWaiting; split <;> simp
@[simp] theorem State.waveDown_hm (s : State) (src dst w : Nat) : (State.waveDown s src dst w).hm = s.hm := by
  unfold State.waveDown
  repeat' (first | simp | intro _ | (refine (hm_foldl _ _ _ (fun _ _ => ?_)).trans ?_) | split | dsimp only)
@[simp] theorem State.modLane_hm (s : State) (g : LaneRef) (f : LaneGroup → LaneGroup) : (State.modLane s g f).hm = s.hm := by simp [State.modLane]
@[simp] theorem State.demandLane_hm (s : State) (g : LaneRef) : (State.demandLane s g).hm = s.hm := by simp [State.demandLane]
@[simp] theorem State.resend_hm (s : State) (src dst w : Nat) (l : List (BitVec 5 × Flit)) : (State.resend s src dst w l).hm = s.hm := by
  unfold State.resend
  repeat' (first | simp | intro _ | (refine (hm_foldl _ _ _ (fun _ _ => ?_)).trans ?_) | split | dsimp only)
@[simp] theorem State.laneRetries_hm (s : State) (g : LaneRef) (n : Nat) : (State.laneRetries s g n).hm = s.hm := by simp [State.laneRetries]
@[simp] theorem execLinkAck_hm (w : WaveRef) (seq : BitVec 5) (s : State) : KeepsHm s (execLinkAck w seq s) := by simp [execLinkAck]
@[simp] theorem execLinkNak_hm (w : WaveRef) (seq : BitVec 5) (g : LaneRef) (s : State) : KeepsHm s (execLinkNak w seq g s) := by
  unfold execLinkNak
  repeat' (first | simp | intro _ | (refine (hm_foldl _ _ _ (fun _ _ => ?_)).trans ?_) | split | dsimp only)
@[simp] theorem execLinkPause_hm (w : WaveRef) (s : State) : KeepsHm s (execLinkPause w s) := by simp [execLinkPause]
@[simp] theorem execLinkResume_hm (w : WaveRef) (s : State) : KeepsHm s (execLinkResume w s) := by simp [execLinkResume]
@[simp] theorem execReplayTimeout_hm (w : WaveRef) (g : LaneRef) (s : State) : KeepsHm s (execReplayTimeout w g s) := by
  unfold execReplayTimeout
  repeat' (first | simp | intro _ | (refine (hm_foldl _ _ _ (fun _ _ => ?_)).trans ?_) | split | dsimp only)
@[simp] theorem State.halfFail_hm (s : State) (src dst w : Nat) : (State.halfFail s src dst w).hm = s.hm := by simp [State.halfFail]
@[simp] theorem State.rxFail_hm (s : State) (src dst w : Nat) : (State.rxFail s src dst w).hm = s.hm := by simp [State.rxFail]
@[simp] theorem State.rxFlit_hm (s : State) (src dst w : Nat) (f : Flit) : (State.rxFlit s src dst w f).1.hm = s.hm := by
  unfold State.rxFlit
  repeat' (first | simp | intro _ | (refine (hm_foldl _ _ _ (fun _ _ => ?_)).trans ?_) | split | dsimp only)
@[simp] theorem State.rxFlits_hm (s : State) (src dst : Nat) (l : List RxFlit) : (s.rxFlits src dst l).1.hm = s.hm := by
  induction l generalizing s with
  | nil => rfl
  | cons f fs ih => simp [State.rxFlits, ih]
@[simp] theorem State.deliver_hm (s : State) (sh pod slot : Nat) (data ext : Row) (wide : Bool) (barrier : Option (BitVec 12)) : (State.deliver s sh pod slot data ext wide barrier).hm = s.hm := by simp [State.deliver]
@[simp] theorem State.landed_hm (s : State) (src dst pod slot : Nat) : (State.landed s src dst pod slot).hm = s.hm := by simp [State.landed]
@[simp] theorem State.modArb_hm (s : State) (k : Nat) (f : Arbiter → Arbiter) : (State.modArb s k f).hm = s.hm := by simp [State.modArb]
@[simp] theorem State.askIngress_hm (s : State) (src sh pod slot : Nat) (data ext : Row) (wide : Bool) (barrier : Option (BitVec 12)) : (State.askIngress s src sh pod slot data ext wide barrier).hm = s.hm := by simp [State.askIngress]
@[simp] theorem State.rowAtShallot_hm (s : State) (src dst : Nat) (l : List (Nat × Flit)) : (State.rowAtShallot s src dst l).hm = s.hm := by
  simp [State.rowAtShallot]
@[simp] theorem State.routeMismatch_hm (s : State) (src dst : Nat) (l row : List (Nat × Flit)) : (State.routeMismatch s src dst l row).hm = s.hm := by
  unfold State.routeMismatch
  repeat' (first | simp | intro _ | (refine (hm_foldl _ _ _ (fun _ _ => ?_)).trans ?_) | split | dsimp only)
@[simp] theorem State.takeRows_hm (src dst n : Nat) (s : State) : (State.takeRows src dst n s).hm = s.hm := by
  induction n generalizing s with
  | zero => rfl
  | succ n ih =>
    unfold State.takeRows
    repeat' (first | rfl | simp [ih] | split | dsimp only)
@[simp] theorem execRowArrival_hm (src : PlazaNo) (dst : Fin 8) (flits : List RxFlit) (s : State) : KeepsHm s (execRowArrival src dst flits s) := by
  unfold execRowArrival
  repeat' (first | simp | intro _ | (refine (hm_foldl _ _ _ (fun _ _ => ?_)).trans ?_) | split | dsimp only)

/-! ### Arb -/

@[simp] theorem State.staleEvent_hm (s : State) (kind plaza unit : Nat) : (State.staleEvent s kind plaza unit).hm = s.hm := by simp [State.staleEvent]
@[simp] theorem State.markStale_hm (s : State) (kind plaza unit : Nat) : (State.markStale s kind plaza unit).hm = s.hm := by simp [State.markStale]
@[simp] theorem State.arbComplete_hm (s : State) (kind plaza unit : Nat) : (State.arbComplete s kind plaza unit).hm = s.hm := by
  unfold State.arbComplete
  repeat' (first | simp | intro _ | (refine (hm_foldl _ _ _ (fun _ _ => ?_)).trans ?_) | split | dsimp only)
@[simp] theorem execArbiterDecision_hm (a : ArbRef) (reqs : List NewReq) (s : State) : KeepsHm s (execArbiterDecision a reqs s) := by
  unfold execArbiterDecision
  repeat' (first | simp | intro _ | (refine (hm_foldl _ _ _ (fun _ _ => ?_)).trans ?_) | split | dsimp only)
@[simp] theorem execStaleRequest_hm (a : ArbRef) (s : State) : KeepsHm s (execStaleRequest a s) := by simp [execStaleRequest]
@[simp] theorem State.setFreeze_hm (s : State) (kind plaza unit : Nat) (f : Bool) : (State.setFreeze s kind plaza unit f).hm = s.hm := by
  unfold State.setFreeze
  repeat' (first | simp | split | dsimp only)

/-! ### Hbm -/

@[simp] theorem State.wantRepair_hm (s : State) (h u row : Nat) (noSpare : Bool) : (State.wantRepair s h u row noSpare).hm = s.hm := by
  simp [State.wantRepair]
@[simp] theorem State.loseUnit_hm (s : State) (h u row : Nat) (noSpare : Bool) : (State.loseUnit s h u row noSpare).hm = s.hm := by
  simp [State.loseUnit]
@[simp] theorem State.countUe_hm (s : State) (h u kind region src : Nat) : (State.countUe s h u kind region src).hm = s.hm := by simp [State.countUe]
@[simp] theorem State.correctUnit_hm (s : State) (h u row : Nat) (noSpare : Bool) : (State.correctUnit s h u row noSpare).hm = s.hm := by
  simp [State.correctUnit]
@[simp] theorem State.readUnit_hm (s : State) (h u region : Nat) (session : Bool) (src kind : Nat) (f : Option MemFault) (noSpare quiet : Bool) : (State.readUnit s h u region session src kind f noSpare quiet).1.hm = s.hm := by
  unfold State.readUnit; repeat' split
  all_goals simp
@[simp] theorem State.readUnits_hm (s : State) (r : Region) (region o src kind : Nat) (env : MemEnv) (quiet : Bool) (l : List Nat) :
    (s.readUnits r region o src kind env quiet l).1.hm = s.hm := by
  induction l generalizing s with
  | nil => rfl
  | cons f fs ih => simp [State.readUnits, ih]
@[simp] theorem State.countOdecc_hm (s : State) (h n : Nat) : (State.countOdecc s h n).hm = s.hm := by simp [State.countOdecc]
@[simp] theorem State.readRegion_hm (s : State) (r : Region) (region o len src : Nat) (env : MemEnv) (quiet : Bool) : (State.readRegion s r region o len src env quiet).1.hm = s.hm := by unfold State.readRegion; split <;> simp
@[simp] theorem State.dropCombine_hm (s : State) (h region o n : Nat) : (State.dropCombine s h region o n).hm = s.hm := by simp [State.dropCombine]

/-! ### Gate -/

@[simp] theorem State.replyRow_hm (s : State) (h : Nat) (q : ReqFields) (bs : List Byte) : (State.replyRow s h q bs).hm = s.hm := by
  unfold State.replyRow
  repeat' (first | simp | intro _ | (refine (hm_foldl _ _ _ (fun _ _ => ?_)).trans ?_) | split | dsimp only)
@[simp] theorem State.stepMemFault_hm (s : State) (src : Nat) : (State.stepMemFault s src).hm = s.hm := by simp [State.stepMemFault]
@[simp] theorem State.combineEnter_hm (s : State) (h : Nat) (q : ReqFields) : (State.combineEnter s h q).hm = s.hm := by simp [State.combineEnter]
@[simp] theorem State.serveRead_hm (s : State) (src h : Nat) (r : Region) (q : ReqFields) (env : MemEnv) : (State.serveRead s src h r q env).hm = s.hm := by
  unfold State.serveRead
  repeat' (first | simp | intro _ | (refine (hm_foldl _ _ _ (fun _ _ => ?_)).trans ?_) | split | dsimp only)
@[simp] theorem State.writeDone_hm (s : State) (src h tag : Nat) : (State.writeDone s src h tag).hm = s.hm := by simp [State.writeDone]
@[simp] theorem State.undoCell_hm (s : State) (own : Bool) (h addr region w old : Nat) : (State.undoCell s own h addr region w old).hm = s.hm := by
  simp [State.undoCell]
@[simp] theorem State.a96Overflow_hm (s : State) (own : Bool) (h addr : Nat) : (State.a96Overflow s own h addr).hm = s.hm := by
  simp [State.a96Overflow]
@[simp] theorem State.badRequest_hm (s : State) (h : Nat) (r : Region) (q : ReqFields) : (State.badRequest s h r q).hm = s.hm := by simp [State.badRequest]
@[simp] theorem execScrubUnit_hm (h : Fin 16) (u : BitVec 30) (fault : Option MemFault) (noSpare : Bool) (s : State) : KeepsHm s (execScrubUnit h u fault noSpare s) := by
  unfold execScrubUnit
  repeat' (first | simp | intro _ | (refine (hm_foldl _ _ _ (fun _ _ => ?_)).trans ?_) | split | dsimp only)
@[simp] theorem execRowRepair_hm (h : Fin 16) (row : Nat) (s : State) : KeepsHm s (execRowRepair h row s) := by unfold execRowRepair; split <;> simp

/-! ### PodCtl -/

@[simp] theorem State.addFlight_hm (s : State) (f : Flight) : (State.addFlight s f).hm = s.hm := by simp [State.addFlight]
@[simp] theorem State.sendHere_hm (s : State) (n : Nat) (x : Entry128) (b : RowBuf) (wide : Bool) : (State.sendHere s n x b wide).hm = s.hm := by
  simp [State.sendHere]
@[simp] theorem State.sendAway_hm (s : State) (n : Nat) (x : Entry128) (b : RowBuf) (wide : Bool) : (State.sendAway s n x b wide).hm = s.hm := by
  simp [State.sendAway]
@[simp] theorem State.sendStack_hm (s : State) (n pod : Nat) (x : Entry128) (b : RowBuf) (wide : Bool) : (State.sendStack s n pod x b wide).hm = s.hm := by
  unfold State.sendStack
  repeat' (first | simp | intro _ | (refine (hm_foldl _ _ _ (fun _ _ => ?_)).trans ?_) | split | dsimp only)
@[simp] theorem execSend_hm (p : PodRef) (a : StArgs) (s : State) : KeepsHm s (execSend p a s) := by simp [execSend]
@[simp] theorem execFetch_hm (p : PodRef) (a : StArgs) (s : State) : KeepsHm s (execFetch p a s) := by
  unfold execFetch
  repeat' (first | simp | intro _ | (refine (hm_foldl _ _ _ (fun _ _ => ?_)).trans ?_) | split | dsimp only)
@[simp] theorem execRecv_hm (p : PodRef) (a : StArgs) (s : State) : KeepsHm s (execRecv p a s) := by
  unfold execRecv
  repeat' (first | simp | intro _ | (refine (hm_foldl _ _ _ (fun _ _ => ?_)).trans ?_) | split | dsimp only)
@[simp] theorem State.putTally_hm (s : State) (plaza index : Nat) (v : Tally) : (State.putTally s plaza index v).hm = s.hm := by simp [State.putTally]
@[simp] theorem State.saveTally_hm (s : State) (plaza index : Nat) : (State.saveTally s plaza index).hm = s.hm := by simp [State.saveTally]
@[simp] theorem State.modTally_hm (s : State) (plaza index : Nat) (f : Tally → Tally) : (State.modTally s plaza index f).hm = s.hm := by
  simp [State.modTally]
@[simp] theorem State.synOp_hm (s : State) (a : SynArgs) (f : Tally → Tally) : KeepsHm s (State.synOp s a f) := by unfold State.synOp; split <;> simp
@[simp] theorem execSynAdd_hm (_p : PodRef) (a : SynArgs) (s : State) : KeepsHm s (execSynAdd _p a s) := by simp [execSynAdd]
@[simp] theorem execSetf_hm (_p : PodRef) (a : SynArgs) (s : State) : KeepsHm s (execSetf _p a s) := by simp [execSetf]
@[simp] theorem execSynClr_hm (_p : PodRef) (a : SynArgs) (s : State) : KeepsHm s (execSynClr _p a s) := by simp [execSynClr]
@[simp] theorem execWaitTally_hm (p : PodRef) (a : SynArgs) (s : State) : KeepsHm s (execWaitTally p a s) := by unfold execWaitTally; split <;> simp
@[simp] theorem State.retest_hm (s : State) (n pod : Nat) : (State.retest s n pod).hm = s.hm := by simp [State.retest]
@[simp] theorem execWaitRetest_hm (p : PodRef) (s : State) : KeepsHm s (execWaitRetest p s) := by simp [execWaitRetest]
@[simp] theorem execLoopCtl_hm (p : PodRef) (a : LoopArgs) (s : State) : KeepsHm s (execLoopCtl p a s) := by
  unfold execLoopCtl
  repeat' (first | simp | intro _ | (refine (hm_foldl _ _ _ (fun _ _ => ?_)).trans ?_) | split | dsimp only)
@[simp] theorem State.shallotDone_hm (s : State) (n : Nat) : (State.shallotDone s n).hm = s.hm := by simp [State.shallotDone]
@[simp] theorem State.maybeDrain_hm (s : State) : (State.maybeDrain s).hm = s.hm := by simp [State.maybeDrain]
@[simp] theorem execStepEnd_hm (p : PodRef) (s : State) : KeepsHm s (execStepEnd p s) := by
  unfold execStepEnd
  repeat' (first | simp | intro _ | (refine (hm_foldl _ _ _ (fun _ _ => ?_)).trans ?_) | split | dsimp only)

/-! ### Journal -/

@[simp] theorem State.journalDatagram_hm (s : State) (sub : Nat) (udp : Nat × Nat) (dst : BitVec 128) (r : JRecord) (frag : Nat) (piece : List Byte) : (State.journalDatagram s sub udp dst r frag piece).hm = s.hm := by simp [State.journalDatagram]
@[simp] theorem State.journalOut_hm (s : State) (count : Nat) (r : JRecord) : (State.journalOut s count r).hm = s.hm := by
  unfold State.journalOut
  repeat' (first | simp | intro _ | (refine (hm_foldl _ _ _ (fun _ _ => ?_)).trans ?_) | split | dsimp only)

/-! ### Sched -/

@[simp] theorem State.replayDrop_hm (s : State) (n : Nat) : (State.replayDrop s n).hm = s.hm := by simp [State.replayDrop]
@[simp] theorem State.sendAck_hm (s : State) (peer kind : Nat) (bytes : List Byte) : (State.sendAck s peer kind bytes).hm = s.hm := by
  unfold State.sendAck; split <;> simp
@[simp] theorem State.sendSched_hm (s : State) (peer : Nat) (x : SchedOut) : (State.sendSched s peer x).hm = s.hm := by simp [State.sendSched]
@[simp] theorem State.resendSched_hm (s : State) (peer : Nat) (x : SchedOut) : (State.resendSched s peer x).hm = s.hm := by simp [State.resendSched]
@[simp] theorem execSchedWindow_hm (num : BitVec 16) (s : State) : KeepsHm s (execSchedWindow num s) := by
  unfold execSchedWindow
  repeat' (first | simp | intro _ | (refine (hm_foldl _ _ _ (fun _ _ => ?_)).trans ?_) | split | dsimp only)
@[simp] theorem State.sendSchedAck_hm (s : State) (st : Stream) (x : SchedIn) : (State.sendSchedAck s st x).hm = s.hm := by simp [State.sendSchedAck]
@[simp] theorem execSchedAck_hm (num : BitVec 16) (step : BitVec 64) (bits : List Bool) (s : State) : KeepsHm s (execSchedAck num step bits s) := by
  unfold execSchedAck
  repeat' (first | simp | intro _ | (refine (hm_foldl _ _ _ (fun _ _ => ?_)).trans ?_) | split | dsimp only)
@[simp] theorem execSchedAckTimer_hm (num : BitVec 16) (step : BitVec 64) (s : State) : KeepsHm s (execSchedAckTimer num step s) := by
  unfold execSchedAckTimer; split <;> simp
@[simp] theorem execSchedResendTimer_hm (num : BitVec 16) (step : BitVec 64) (seq : Nat) (s : State) : KeepsHm s (execSchedResendTimer num step seq s) := by unfold execSchedResendTimer; split <;> simp
@[simp] theorem State.releaseStream_hm (s : State) (st : Stream) : (State.releaseStream s st).hm = s.hm := by
  unfold State.releaseStream
  repeat' (first | simp | intro _ | (refine (hm_foldl _ _ _ (fun _ _ => ?_)).trans ?_) | split | dsimp only)
@[simp] theorem State.releaseSched_hm (s : State) : (State.releaseSched s).hm = s.hm := by
  unfold State.releaseSched
  repeat' (first | simp | intro _ | (refine (hm_foldl _ _ _ (fun _ _ => ?_)).trans ?_) | split | dsimp only)
@[simp] theorem State.rejectCall_hm (s : State) (e : Endpoint) (c : SvcCall) (status : Nat) (answer : Bool) : (State.rejectCall s e c status answer).hm = s.hm := by simp [State.rejectCall]
@[simp] theorem State.replyCall_hm (s : State) (e : Endpoint) (c : Call) : (State.replyCall s e c).hm = s.hm := by
  unfold State.replyCall
  repeat' (first | simp | intro _ | (refine (hm_foldl _ _ _ (fun _ _ => ?_)).trans ?_) | split | dsimp only)
@[simp] theorem State.releaseService_hm (s : State) : (State.releaseService s).hm = s.hm := by
  unfold State.releaseService
  repeat' (first | simp | intro _ | (refine (hm_foldl _ _ _ (fun _ _ => ?_)).trans ?_) | split | dsimp only)

/-! ### Reach -/

@[simp] theorem State.badPacket_hm (s : State) (g : Nat) : (State.badPacket s g).hm = s.hm := by simp [State.badPacket]
@[simp] theorem State.rxDrop_hm (s : State) (sub : Nat) : (State.rxDrop s sub).hm = s.hm := by simp [State.rxDrop]
@[simp] theorem State.reachGate_hm (s : State) (p : ReachIn) (data : Bool) (request : Bool) : (State.reachGate s p data request).2.hm = s.hm := by
  unfold State.reachGate; repeat' split
  all_goals simp
@[simp] theorem State.reachSend_hm (s : State) (dest : Nat) (h : ReachHdr) (data : List Byte) : (State.reachSend s dest h data).hm = s.hm := by
  simp [State.reachSend]
@[simp] theorem State.reachReply_hm (s : State) (dest : Nat) (h : ReachHdr) (data : List Byte) : (State.reachReply s dest h data).hm = s.hm := by
  simp [State.reachReply]
@[simp] theorem State.reachStatus_hm (s : State) (src : Nat) (h : ReachHdr) (st : Nat) : (State.reachStatus s src h st).hm = s.hm := by
  simp [State.reachStatus]
@[simp] theorem State.reachBusy_hm (s : State) (g src : Nat) (h : ReachHdr) : (State.reachBusy s g src h).hm = s.hm := by simp [State.reachBusy]
@[simp] theorem State.refuseReach_hm (s : State) (g src : Nat) (h : ReachHdr) : (State.refuseReach s g src h).hm = s.hm := by simp [State.refuseReach]
@[simp] theorem State.reachAck_hm (s : State) (g src : Nat) (h : ReachHdr) : (State.reachAck s g src h).hm = s.hm := by simp [State.reachAck]
@[simp] theorem State.reachDone_hm (s : State) (g src : Nat) (h : ReachHdr) : (State.reachDone s g src h).hm = s.hm := by simp [State.reachDone]
@[simp] theorem State.dropHeld_hm (s : State) (plaza index : Nat) : (State.dropHeld s plaza index).hm = s.hm := by simp [State.dropHeld]
@[simp] theorem State.message_hm (s : State) (g src : Nat) (h : ReachHdr) : (State.message s g src h).hm = s.hm := by simp [State.message]
@[simp] theorem State.reachLate_hm (s : State) (g src : Nat) (h : ReachHdr) : (State.reachLate s g src h).hm = s.hm := by simp [State.reachLate]
@[simp] theorem State.atomicReply_hm (s : State) (g src : Nat) (h : ReachHdr) (old : List Byte) : (State.atomicReply s g src h old).hm = s.hm := by
  simp [State.atomicReply]
@[simp] theorem State.reachDuplicate_hm (s : State) (g src : Nat) (h : ReachHdr) (env : MemEnv) : (State.reachDuplicate s g src h env).hm = s.hm := by
  unfold State.reachDuplicate
  repeat' (first | simp | intro _ | (refine (hm_foldl _ _ _ (fun _ _ => ?_)).trans ?_) | split | dsimp only)
@[simp] theorem State.forwardReach_hm (s : State) (dst : Nat) (h : ReachHdr) (data : List Byte) : (State.forwardReach s dst h data).hm = s.hm := by
  simp [State.forwardReach]
@[simp] theorem State.sendCombined_hm (s : State) (g dst : Nat) (h : ReachHdr) (data : List Byte) : (State.sendCombined s g dst h data).1.hm = s.hm := by simp [State.sendCombined]
@[simp] theorem State.passReach_hm (s : State) (g src dst : Nat) (h : ReachHdr) (data : List Byte) : (State.passReach s g src dst h data).hm = s.hm := by
  unfold State.passReach; repeat' split
  all_goals simp
@[simp] theorem execCombineWindowEnd_hm (g : Fin 2) (dst : Fin 2048) (region : Nat) (offset : Nat) (s : State) : KeepsHm s (execCombineWindowEnd g dst region offset s) := by
  unfold execCombineWindowEnd; repeat' split
  all_goals simp
@[simp] theorem execRefusedReply_hm (g : Fin 2) (s : State) : KeepsHm s (execRefusedReply g s) := by unfold execRefusedReply; split <;> simp
@[simp] theorem execFenceTimeout_hm (g : Fin 2) (plaza : PlazaNo) (index : BitVec 16) (s : State) : KeepsHm s (execFenceTimeout g plaza index s) := by
  unfold execFenceTimeout; repeat' split
  all_goals simp
@[simp] theorem execReplyStoreExpiry_hm (g : Fin 2) (src : Fin 2048) (engine : BitVec 8) (seq : BitVec 32) (s : State) : KeepsHm s (execReplyStoreExpiry g src engine seq s) := by simp [execReplyStoreExpiry]

/-! ### ReachSrc -/

@[simp] theorem State.firstSend_hm (s : State) (r : ReachReq) : (State.firstSend s r).hm = s.hm := by simp [State.firstSend]
@[simp] theorem State.newReq_hm (s : State) (r : ReachReq) : (State.newReq s r).hm = s.hm := by simp [State.newReq]
@[simp] theorem State.fillSlots_hm (e n : Nat) (s : State) : (State.fillSlots e n s).hm = s.hm := by
  induction n generalizing s with
  | zero => rfl
  | succ n ih =>
    unfold State.fillSlots; dsimp only
    split
    · rfl
    · split <;> simp [ih]
@[simp] theorem State.issueOp_hm (s : State) (o : ReachOp) : (State.issueOp s o).hm = s.hm := by
  unfold State.issueOp
  repeat' (first | simp | intro _ | (refine (hm_foldl _ _ _ (fun _ _ => ?_)).trans ?_) | split | dsimp only)
@[simp] theorem State.issueReach_hm (s : State) (trigger : Nat) : (State.issueReach s trigger).hm = s.hm := by
  unfold State.issueReach
  repeat' (first | simp | intro _ | (refine (hm_foldl _ _ _ (fun _ _ => ?_)).trans ?_) | split | dsimp only)
@[simp] theorem State.reachComplete_hm (s : State) (r : ReachReq) : (State.reachComplete s r).hm = s.hm := by simp [State.reachComplete]
@[simp] theorem State.resendReach_hm (s : State) (r : ReachReq) : (State.resendReach s r).hm = s.hm := by simp [State.resendReach]
@[simp] theorem State.resendAll_hm (s : State) (dest : Nat) : (State.resendAll s dest).hm = s.hm := by
  unfold State.resendAll
  repeat' (first | simp | intro _ | (refine (hm_foldl _ _ _ (fun _ _ => ?_)).trans ?_) | split | dsimp only)
@[simp] theorem execReachResendTimer_hm (engine : Fin 32) (peer : Fin 2048) (seq : BitVec 32) (s : State) : KeepsHm s (execReachResendTimer engine peer seq s) := by unfold execReachResendTimer; split <;> simp
@[simp] theorem State.relay_hm (s : State) (g : Nat) (c : Combining) (drop : Bool) (h : ReachHdr) (data : List Byte) : (State.relay s g c drop h data).hm = s.hm := by
  unfold State.relay
  repeat' (first | simp | intro _ | (refine (hm_foldl _ _ _ (fun _ _ => ?_)).trans ?_) | split | dsimp only)
@[simp] theorem State.replyIn_hm (s : State) (p : ReachIn) (op : Nat) (f : State → State) (hf : ∀ s : State, (f s).hm = s.hm) : (State.replyIn s p op f).hm = s.hm := by
  unfold State.replyIn
  repeat' (first | simp [hf] | intro _ | (refine (hm_foldl _ _ _ (fun _ _ => ?_)).trans ?_) | split | dsimp only)
@[simp] theorem execReachAck_hm (p : ReachIn) (s : State) : KeepsHm s (execReachAck p s) := by
  unfold execReachAck
  refine (keepsHm_next _ _).2 (State.replyIn_hm _ _ _ _ (fun s => ?_))
  repeat' (first | simp | intro _ | (refine (hm_foldl _ _ _ (fun _ _ => ?_)).trans ?_) | split | dsimp only)
@[simp] theorem execAtomicReply_hm (p : ReachIn) (s : State) : KeepsHm s (execAtomicReply p s) := by
  unfold execAtomicReply
  refine (keepsHm_next _ _).2 (State.replyIn_hm _ _ _ _ (fun s => ?_))
  repeat' (first | simp | intro _ | (refine (hm_foldl _ _ _ (fun _ _ => ?_)).trans ?_) | split | dsimp only)
@[simp] theorem execFetchMissing_hm (p : ReachIn) (s : State) : KeepsHm s (execFetchMissing p s) := by
  unfold execFetchMissing
  refine (keepsHm_next _ _).2 (State.replyIn_hm _ _ _ _ (fun s => ?_))
  repeat' (first | simp | intro _ | (refine (hm_foldl _ _ _ (fun _ _ => ?_)).trans ?_) | split | dsimp only)
@[simp] theorem State.loadRefused_hm (s : State) (r : ReachReq) : (State.loadRefused s r).hm = s.hm := by simp [State.loadRefused]
@[simp] theorem execReachStatus_hm (p : ReachIn) (s : State) : KeepsHm s (execReachStatus p s) := by
  unfold execReachStatus
  refine (keepsHm_next _ _).2 (State.replyIn_hm _ _ _ _ (fun s => ?_))
  repeat' (first | simp | intro _ | (refine (hm_foldl _ _ _ (fun _ _ => ?_)).trans ?_) | split | dsimp only)

/-! ### HostCmd -/

@[simp] theorem State.beginCmd_hm (s : State) (c : RunningCmd) : (State.beginCmd s c).hm = s.hm := by simp [State.beginCmd]
@[simp] theorem State.command_hm (s : State) (c : RunningCmd) (k : CmdCheck) (run : State → State) (hrun : ∀ s : State, (run s).hm = s.hm) : (State.command s c k run).hm = s.hm := by
  unfold State.command
  repeat' (first | simp [hrun] | intro _ | (refine (hm_foldl _ _ _ (fun _ _ => ?_)).trans ?_) | split | dsimp only)
@[simp] theorem State.hostCommand_hm (s : State) (opcode : Nat) (args : List Word) (f : State → RunningCmd → State) (hf : ∀ s a1, (f s a1).hm = s.hm) : (State.hostCommand s opcode args f).hm = s.hm := by
  unfold State.hostCommand
  repeat' (first | simp [hf] | intro _ | (refine (hm_foldl _ _ _ (fun _ _ => ?_)).trans ?_) | split | dsimp only)
@[simp] theorem State.nvRefuse_hm (s : State) : (State.nvRefuse s).hm = s.hm := by simp [State.nvRefuse]
@[simp] theorem State.nvStart_hm (s : State) (w : NvWrite) : (State.nvStart s w).hm = s.hm := by simp [State.nvStart]

/-! ### Windows -/

@[simp] theorem State.modWindow_hm (s : State) (w : Nat) (f : WindowState → WindowState) : (State.modWindow s w f).hm = s.hm := by
  simp [State.modWindow]
@[simp] theorem State.windowWait_hm (s : State) (w : Nat) : (State.windowWait s w).hm = s.hm := by simp [State.windowWait]
@[simp] theorem State.windowFails_hm (s : State) (w : Nat) : (State.windowFails s w).hm = s.hm := by simp [State.windowFails]
@[simp] theorem execInputWindowPoll_hm (w : Fin 64) (word : BitVec 64) (s : State) : KeepsHm s (execInputWindowPoll w word s) := by
  unfold execInputWindowPoll
  repeat' (first | simp | intro _ | (refine (hm_foldl _ _ _ (fun _ _ => ?_)).trans ?_) | split | dsimp only)
@[simp] theorem State.windowBytes_hm (s : State) (x : Window) : (State.windowBytes s x).1.hm = s.hm := by
  unfold State.windowBytes
  repeat' (first | simp | intro _ | (refine (hm_foldl _ _ _ (fun _ _ => ?_)).trans ?_) | split | dsimp only)
@[simp] theorem execOutputWindowPoll_hm (w : Fin 64) (word : BitVec 64) (s : State) : KeepsHm s (execOutputWindowPoll w word s) := by
  unfold execOutputWindowPoll
  repeat' (first | simp | intro _ | (refine (hm_foldl _ _ _ (fun _ _ => ?_)).trans ?_) | split | dsimp only)
@[simp] theorem State.pushWindow_hm (s : State) (x : Window) (bs : List Byte) : (State.pushWindow s x bs).hm = s.hm := by simp [State.pushWindow]
@[simp] theorem execOutputWindowPushDone_hm (w : Fin 64) (s : State) : KeepsHm s (execOutputWindowPushDone w s) := by
  unfold execOutputWindowPushDone
  split
  · simp
  · next x _ =>
    split
    · have h := State.windowBytes_hm s x
      split
      all_goals (rename_i e; rw [e] at h; simp_all)
    · simp

/-! ### PodAcc -/

@[simp] theorem execStream_hm (p : PodRef) (a : ArrArgs) (s : State) : KeepsHm s (execStream p a s) := by simp [execStream]
@[simp] theorem execAccClear_hm (p : PodRef) (a : AccArgs) (s : State) : KeepsHm s (execAccClear p a s) := by simp [execAccClear]
@[simp] theorem execAccSnap_hm (p : PodRef) (a : AccArgs) (s : State) : KeepsHm s (execAccSnap p a s) := by simp [execAccSnap]
@[simp] theorem execAccRq_hm (p : PodRef) (a : AccArgs) (s : State) : KeepsHm s (execAccRq p a s) := by simp [execAccRq]
@[simp] theorem execNarrow96_hm (p : PodRef) (a : AccArgs) (s : State) : KeepsHm s (execNarrow96 p a s) := by simp [execNarrow96]
@[simp] theorem execWide192_hm (p : PodRef) (a : AccArgs) (s : State) : KeepsHm s (execWide192 p a s) := by simp [execWide192]
@[simp] theorem execOut32_hm (p : PodRef) (a : AccArgs) (s : State) : KeepsHm s (execOut32 p a s) := by simp [execOut32]
@[simp] theorem execAccAdd96_hm (p : PodRef) (a : AccArgs) (s : State) : KeepsHm s (execAccAdd96 p a s) := by simp [execAccAdd96]
@[simp] theorem execAccAdd192_hm (p : PodRef) (a : AccArgs) (s : State) : KeepsHm s (execAccAdd192 p a s) := by simp [execAccAdd192]
@[simp] theorem execAccAdd32_hm (p : PodRef) (a : AccArgs) (s : State) : KeepsHm s (execAccAdd32 p a s) := by simp [execAccAdd32]
@[simp] theorem execLoad192_hm (p : PodRef) (a : AccArgs) (s : State) : KeepsHm s (execLoad192 p a s) := by simp [execLoad192]

end Sys2Proof.Machine
end

