-- ==== Sys2Proof/Laws/KeepsMemoryB.lean ====
section
/-! SUPPORT. Which operations leave the memory of the stacks alone, from the links to the bonds. -/
namespace Sys2Proof.Machine

/-! ### NetLink -/

@[simp] theorem State.modPort_hm (s : State) (sub : Nat) (f : SubPort → SubPort) : (State.modPort s sub f).hm = s.hm := by simp [State.modPort]
@[simp] theorem State.portLanes_hm (s : State) (sub : Nat) (lanes : BitVec 8) : (State.portLanes s sub lanes).hm = s.hm := by simp [State.portLanes]
@[simp] theorem State.portEvent_hm (s : State) (code sub : Nat) : (State.portEvent s code sub).hm = s.hm := by simp [State.portEvent]
@[simp] theorem State.moveRoute_hm (s : State) (dest r : Nat) : (State.moveRoute s dest r).hm = s.hm := by
  unfold State.moveRoute
  repeat' (first | simp | intro _ | (refine (hm_foldl _ _ _ (fun _ _ => ?_)).trans ?_) | split | dsimp only)
@[simp] theorem State.reroute_hm (s : State) (dest : Nat) : (State.reroute s dest).hm = s.hm := by unfold State.reroute; split <;> simp
@[simp] theorem execNetLinkDown_hm (sub : SubPortNo) (fec : Nat) (lanes : BitVec 8) (s : State) : KeepsHm s (execNetLinkDown sub fec lanes s) := by
  unfold execNetLinkDown
  repeat' (first | simp | intro _ | (refine (hm_foldl _ _ _ (fun _ _ => ?_)).trans ?_) | split | dsimp only)
@[simp] theorem execNetLinkUp_hm (sub : SubPortNo) (lanes : BitVec 8) (macsec : Bool) (s : State) : KeepsHm s (execNetLinkUp sub lanes macsec s) := by
  unfold execNetLinkUp
  repeat' (first | simp | intro _ | (refine (hm_foldl _ _ _ (fun _ _ => ?_)).trans ?_) | split | dsimp only)
@[simp] theorem execRouteRestore_hm (dest : Fin 2048) (s : State) : KeepsHm s (execRouteRestore dest s) := by
  unfold execRouteRestore
  repeat' (first | simp | intro _ | (refine (hm_foldl _ _ _ (fun _ _ => ?_)).trans ?_) | split | dsimp only)
@[simp] theorem State.macsecFail_hm (s : State) (n : Nat) : (State.macsecFail s n).hm = s.hm := by simp [State.macsecFail]
@[simp] theorem execRxFrame_hm (sub : SubPortNo) (f : RxEth) (s : State) : KeepsHm s (execRxFrame sub f s) := by
  have key : ∀ (c : Prop) [Decidable c] (a b : Res), KeepsHm s a → KeepsHm s b → KeepsHm s (if c then a else b) := by
    intro c _ a b ha hb; by_cases h : c <;> simp [h, ha, hb]
  have two : ∀ (c : Prop) [Decidable c] (a b : State), a.hm = s.hm → b.hm = s.hm → (if c then a else b).hm = s.hm := by
    intro c _ a b ha hb; by_cases h : c <;> simp [h, ha, hb]
  unfold execRxFrame
  dsimp only
  repeat' (first | (refine key _ _ _ ?_ ?_) | (refine (keepsHm_next _ _).2 ?_) | (refine two _ _ _ ?_ ?_) | (simp [apply_ite State.hm, State.badPacket]; done) | split)
@[simp] theorem execNeighborSolicitation_hm (sub : SubPortNo) (target : BitVec 128) (s : State) : KeepsHm s (execNeighborSolicitation sub target s) := by unfold execNeighborSolicitation; split <;> simp
@[simp] theorem execPtpMessage_hm (sub : SubPortNo) (selected : Bool) (offset : BitVec 32) (s : State) : KeepsHm s (execPtpMessage sub selected offset s) := by
  unfold execPtpMessage
  repeat' (first | simp | intro _ | (refine (hm_foldl _ _ _ (fun _ _ => ?_)).trans ?_) | split | dsimp only)
@[simp] theorem execPtpLost_hm (s : State) : KeepsHm s (execPtpLost s) := by unfold execPtpLost; split <;> simp
@[simp] theorem execPpsEdge_hm (s : State) : KeepsHm s (execPpsEdge s) := by unfold execPpsEdge; split <;> simp

/-! ### ImgLoad -/

@[simp] theorem State.eachShallot_hm (s : State) (f : Nat → Shallot → Shallot) : (State.eachShallot s f).hm = s.hm := by
  unfold State.eachShallot
  repeat' (first | simp | intro _ | (refine (hm_foldl _ _ _ (fun _ _ => ?_)).trans ?_) | split | dsimp only)
@[simp] theorem State.startClocks_hm (s : State) : (State.startClocks s).hm = s.hm := by simp [State.startClocks]
@[simp] theorem State.setTimetables_hm (s : State) (i : Option Image) (pl : Nat) : (State.setTimetables s i pl).hm = s.hm := by
  simp [State.setTimetables]
@[simp] theorem State.restartWave_hm (s : State) (src dst w : Nat) : (State.restartWave s src dst w).hm = s.hm := by
  unfold State.restartWave
  repeat' (first | simp | intro _ | (refine (hm_foldl _ _ _ (fun _ _ => ?_)).trans ?_) | split | dsimp only)
@[simp] theorem State.parkStreets_hm (s : State) (i : Option Image) : (State.parkStreets s i).hm = s.hm := by
  unfold State.parkStreets
  repeat' (first | simp | intro _ | (refine (hm_foldl _ _ _ (fun _ _ => ?_)).trans ?_) | split | dsimp only)
@[simp] theorem State.imageRefused_hm (s : State) (check : Nat) (st : Status) : (State.imageRefused s check st).hm = s.hm := by
  simp [State.imageRefused]
@[simp] theorem State.setDetail_hm (s : State) (f : LoadFail) : (State.setDetail s f).hm = s.hm := by simp [State.setDetail]
@[simp] theorem State.refuseLoad_hm (s : State) (f : LoadFail) : (State.refuseLoad s f).hm = s.hm := by simp [State.refuseLoad]
@[simp] theorem State.portsDown_hm (s : State) (l : List Nat) : (State.portsDown s l).hm = s.hm := by
  unfold State.portsDown
  exact hm_foldl _ _ _ (fun t k => by split <;> simp)
@[simp] theorem State.portModes_hm (s : State) (old new : Option Image) : (State.portModes s old new).hm = s.hm := by simp [State.portModes]
@[simp] theorem State.dropImage_hm (s : State) : (State.dropImage s).hm = s.hm := by simp [State.dropImage]
@[simp] theorem State.unloadImage_hm (s : State) : (State.unloadImage s).hm = s.hm := by simp [State.unloadImage]
@[simp] theorem State.stagedError_hm (s : State) (u : StagedUe) : (State.stagedError s u).hm = s.hm := by simp [State.stagedError]
@[simp] theorem State.beginWriting_hm (s : State) (i : Image) : (State.beginWriting s i).hm = s.hm := by simp [State.beginWriting]
@[simp] theorem State.judgeLoad_hm (s : State) (ue : Option StagedUe) (out : Except LoadFail Image) : (State.judgeLoad s ue out).hm = s.hm := by
  unfold State.judgeLoad
  dsimp only
  split <;> simp
@[simp] theorem State.runChecks_hm (s : State) (ue : Option StagedUe) : (State.runChecks s ue).hm = s.hm := by simp [State.runChecks]
@[simp] theorem State.cmdLoadImage_hm (ue : Option StagedUe) (s : State) (c : RunningCmd) : (State.cmdLoadImage ue s c).hm = s.hm := by
  simp [State.cmdLoadImage]
@[simp] theorem execLoadImage_hm (a : List (BitVec 32)) (ue : Option StagedUe) (s : State) : KeepsHm s (execLoadImage a ue s) := by
  simp [execLoadImage]
@[simp] theorem State.runKeys_hm (s : State) (i : Image) : (State.runKeys s i).hm = s.hm := by
  unfold State.runKeys
  repeat' (first | simp | intro _ | (refine (hm_foldl _ _ _ (fun _ _ => ?_)).trans ?_) | split | dsimp only)
@[simp] theorem State.netAtLoad_hm (s : State) (i : Image) : (State.netAtLoad s i).hm = s.hm := by simp [State.netAtLoad]
@[simp] theorem State.routesAtLoad_hm (s : State) : (State.routesAtLoad s).hm = s.hm := by
  unfold State.routesAtLoad
  repeat' (first | simp | intro _ | (refine (hm_foldl _ _ _ (fun _ _ => ?_)).trans ?_) | split | dsimp only)
@[simp] theorem State.fillBuckets_hm (s : State) : (State.fillBuckets s).hm = s.hm := by simp [State.fillBuckets]
@[simp] theorem State.takeImage_hm (s : State) (i : Image) : (State.takeImage s i).hm = s.hm := by simp [State.takeImage]
@[simp] theorem execImageLoadDone_hm (ue : Option StagedUe) (s : State) : KeepsHm s (execImageLoadDone ue s) := by
  unfold execImageLoadDone; repeat' split
  all_goals simp
@[simp] theorem State.stageReply_hm (s : State) (src : Nat) (h : ReachHdr) (st : Status) : (State.stageReply s src h st).hm = s.hm := by
  simp [State.stageReply]
theorem State.stageBytes_hm {s t : State} {off : Nat} {bs : List Byte} (h : s.stageBytes off bs = some t) : t.hm = s.hm := by
  unfold State.stageBytes at h; split at h <;> cases h; simp
@[simp] theorem State.changePlacement_hm (s : State) (i : Image) (k : Nat) : (State.changePlacement s i k).hm = s.hm := by
  simp [State.changePlacement]
@[simp] theorem State.replaceOrUnload_hm (s : State) : (State.replaceOrUnload s).hm = s.hm := by
  unfold State.replaceOrUnload; repeat' split
  all_goals simp
@[simp] theorem State.cmdRetirePod_hm (s : State) (c : RunningCmd) : (State.cmdRetirePod s c).hm = s.hm := by simp [State.cmdRetirePod]
@[simp] theorem execRetirePod_hm (a : List (BitVec 32)) (s : State) : KeepsHm s (execRetirePod a s) := by simp [execRetirePod]
@[simp] theorem State.retireDone_hm (s : State) (sh pod : Nat) : (State.retireDone s sh pod).hm = s.hm := by simp [State.retireDone]

/-! ### Recess -/

@[simp] theorem State.beginRecess_hm (s : State) (k : RecessKind) (w : RecessWork) : (State.beginRecess s k w).hm = s.hm := by
  simp [State.beginRecess]
@[simp] theorem State.forceRecess_hm (s : State) : (State.forceRecess s).hm = s.hm := by simp [State.forceRecess]
@[simp] theorem State.grantIdle_hm (s : State) : (State.grantIdle s).hm = s.hm := by simp [State.grantIdle]
@[simp] theorem State.forceWaiting_hm (s : State) : (State.forceWaiting s).hm = s.hm := by
  unfold State.forceWaiting; repeat' split
  all_goals simp
@[simp] theorem State.boundaryRecess_hm (s : State) (k : Nat) : (State.boundaryRecess s k).hm = s.hm := by simp [State.boundaryRecess]
@[simp] theorem State.endRecess_hm (s : State) : (State.endRecess s).hm = s.hm := by simp [State.endRecess]
@[simp] theorem execRecessWorkDone_hm (s : State) : KeepsHm s (execRecessWorkDone s) := by unfold execRecessWorkDone; split <;> simp
@[simp] theorem execRecessDemand_hm (us : Nat) (overdue : Bool) (s : State) : KeepsHm s (execRecessDemand us overdue s) := by simp [execRecessDemand]
@[simp] theorem execForcedRecessWaitEnd_hm (s : State) : KeepsHm s (execForcedRecessWaitEnd s) := by simp [execForcedRecessWaitEnd]

/-! ### Rotate -/

@[simp] theorem State.drawEpoch_hm (s : State) : (State.drawEpoch s).hm = s.hm := by
  unfold State.drawEpoch
  repeat' (first | simp | intro _ | (refine (hm_foldl _ _ _ (fun _ _ => ?_)).trans ?_) | split | dsimp only)
@[simp] theorem State.cmdRotate_hm (s : State) (c : RunningCmd) : (State.cmdRotate s c).hm = s.hm := by simp [State.cmdRotate]
@[simp] theorem execRotateKeys_hm (a : List (BitVec 32)) (s : State) : KeepsHm s (execRotateKeys a s) := by simp [execRotateKeys]
@[simp] theorem execRotateDone_hm (s : State) : KeepsHm s (execRotateDone s) := by unfold execRotateDone; split <;> simp

/-! ### Run -/

@[simp] theorem State.newRun_hm (s : State) (seed : BitVec 128) (first : Word64) : (State.newRun s seed first).hm = s.hm := by simp [State.newRun]
@[simp] theorem State.enterRun_hm (s : State) (replay : Bool) (at_ : Option Nat) : (State.enterRun s replay at_).hm = s.hm := by simp [State.enterRun]
@[simp] theorem State.zeroWindow_hm (s : State) (x : Window) : (State.zeroWindow s x).hm = s.hm := by simp [State.zeroWindow]
@[simp] theorem State.startTime_hm (s : State) (t : Nat) : (State.startTime s t).1.hm = s.hm := by unfold State.startTime; split <;> simp
@[simp] theorem State.runSeed_hm (s : State) (a : List Word) : (State.runSeed s a).1.hm = s.hm := by unfold State.runSeed; split <;> simp
@[simp] theorem State.cmdReplay_hm (s : State) (c : RunningCmd) : (State.cmdReplay s c).hm = s.hm := by
  unfold State.cmdReplay
  refine State.command_hm _ _ _ _ (fun s => ?_)
  repeat' (first | simp | intro _ | (refine (hm_foldl _ _ _ (fun _ _ => ?_)).trans ?_) | split | dsimp only)
@[simp] theorem execReplay_hm (a : List (BitVec 32)) (s : State) : KeepsHm s (execReplay a s) := by simp [execReplay]
@[simp] theorem State.cmdStop_hm (s : State) (c : RunningCmd) : (State.cmdStop s c).hm = s.hm := by simp [State.cmdStop]
@[simp] theorem execStopAtStep_hm (a : List (BitVec 32)) (s : State) : KeepsHm s (execStopAtStep a s) := by simp [execStopAtStep]
@[simp] theorem State.fixStart_hm (s : State) (at_ : Nat) : (State.fixStart s at_).hm = s.hm := by simp [State.fixStart]
@[simp] theorem State.sendReady_hm (s : State) (t : Nat) : (State.sendReady s t).hm = s.hm := by
  unfold State.sendReady
  repeat' (first | simp | intro _ | (refine (hm_foldl _ _ _ (fun _ _ => ?_)).trans ?_) | split | dsimp only)
@[simp] theorem State.checkReady_hm (s : State) : (State.checkReady s).hm = s.hm := by unfold State.checkReady; split <;> simp
@[simp] theorem execPackageReady_hm (s : State) : KeepsHm s (execPackageReady s) := by
  unfold execPackageReady
  repeat' (first | simp | intro _ | (refine (hm_foldl _ _ _ (fun _ _ => ?_)).trans ?_) | split | dsimp only)
@[simp] theorem execReadyMsg_hm (member : Fin 2048) (step t : BitVec 64) (s : State) : KeepsHm s (execReadyMsg member step t s) := by
  unfold execReadyMsg; split <;> simp
@[simp] theorem execReadyResend_hm (s : State) : KeepsHm s (execReadyResend s) := by unfold execReadyResend; split <;> simp
@[simp] theorem execDomainWaitTimer_hm (s : State) : KeepsHm s (execDomainWaitTimer s) := by simp [execDomainWaitTimer]
@[simp] theorem execSyncIoRise_hm (s : State) : KeepsHm s (execSyncIoRise s) := by simp [execSyncIoRise]

/-! ### StepStart -/

@[simp] theorem State.movePrivate_hm (s : State) : (State.movePrivate s).hm = s.hm := by
  unfold State.movePrivate
  repeat' (first | simp | intro _ | (refine (hm_foldl _ _ _ (fun _ _ => ?_)).trans ?_) | split | dsimp only)
@[simp] theorem State.startShallots_hm (s : State) : (State.startShallots s).hm = s.hm := by simp [State.startShallots]
@[simp] theorem State.rerunEvents_hm (s : State) : (State.rerunEvents s).hm = s.hm := by simp [State.rerunEvents]
@[simp] theorem State.runBegun_hm (s : State) : (State.runBegun s).hm = s.hm := by unfold State.runBegun; split <;> simp
@[simp] theorem State.arbsStart_hm (s : State) : (State.arbsStart s).hm = s.hm := by simp [State.arbsStart]

/-! ### Commit -/

@[simp] theorem State.outputBytes_hm (s : State) (l : List Window) : (s.outputBytes l).1.hm = s.hm := by
  induction l generalizing s with
  | nil => rfl
  | cons f fs ih => simp [State.outputBytes, ih]
@[simp] theorem State.compareRecords_hm (s : State) (mine : List JRecord) : (State.compareRecords s mine).hm = s.hm := by simp [State.compareRecords]
@[simp] theorem State.satEvent_hm (s : State) (c : Nat × Observer × ObserverEntry) : (State.satEvent s c).hm = s.hm := by
  simp only [State.satEvent]; split <;> simp
@[simp] theorem State.observerEvents_hm (s : State) (c : Nat × Observer × ObserverEntry) : (State.observerEvents s c).hm = s.hm := by
  simp [State.observerEvents]
@[simp] theorem State.commitScale_hm (s : State) : (State.commitScale s).hm = s.hm := by
  unfold State.commitScale
  repeat' (first | simp | intro _ | (refine (hm_foldl _ _ _ (fun _ _ => ?_)).trans ?_) | split | dsimp only)
theorem State.twinPair_hm {s t : State} {n : Nat} (h : s.twinPair n = some t) : t.hm = s.hm := by
  unfold State.twinPair at h; dsimp only at h
  repeat' split at h
  all_goals first | cases h; done | (cases h; simp; done) | (cases h; split <;> simp)
@[simp] theorem State.twinDecision_hm (s : State) : (State.twinDecision s).1.hm = s.hm := by
  unfold State.twinDecision
  suffices ∀ (l : List Nat) (a : State × Bool), (l.foldl (fun (a : State × Bool) n =>
      if a.1.cond.twins.getLsbD n then
        match a.1.twinPair n with
        | some t => (t, a.2)
        | none => (a.1.raise 0x700B (2 * n) 0 [], false)
      else a) a).1.hm = a.1.hm from this _ _
  intro l
  induction l with
  | nil => intro a; rfl
  | cons n l ih =>
    intro a
    refine (ih _).trans ?_
    dsimp only
    by_cases h : a.1.cond.twins.getLsbD n = true
    · rw [if_pos h]
      cases e : a.1.twinPair n with
      | none => simp
      | some t => exact State.twinPair_hm e
    · rw [if_neg h]
@[simp] theorem State.toRestore_hm (s : State) (v : Verdict) (fail : Nat × Word) : (State.toRestore s v fail).hm = s.hm := by simp [State.toRestore]
@[simp] theorem State.decideFail_hm (s : State) (cause : Nat) : (State.decideFail s cause).hm = s.hm := by simp [State.decideFail]
@[simp] theorem State.decideFault_hm (s : State) : (State.decideFault s).hm = s.hm := by simp [State.decideFault]
@[simp] theorem State.decideRerun_hm (s : State) (raised : List (Nat × Int)) : (State.decideRerun s raised).hm = s.hm := by
  unfold State.decideRerun
  simp only [State.toRestore_hm, State.modExe_hm]
  exact hm_foldl _ _ _ (fun _ _ => State.satEvent_hm _ _)
@[simp] theorem State.dropCkpt_hm (s : State) : (State.dropCkpt s).hm = s.hm := by simp [State.dropCkpt]
@[simp] theorem State.runAgain_hm (s : State) (recovery : Bool) : (State.runAgain s recovery).hm = s.hm := by simp [State.runAgain]
@[simp] theorem State.movePlacement_hm (s : State) : (State.movePlacement s).hm = s.hm := by
  unfold State.movePlacement; repeat' split
  all_goals simp
@[simp] theorem State.renumberClaims_hm (s : State) : (State.renumberClaims s).hm = s.hm := by simp [State.renumberClaims]
@[simp] theorem State.freshWindows_hm (s : State) : (State.freshWindows s).hm = s.hm := by simp [State.freshWindows]
@[simp] theorem State.boundaryRest_hm (s : State) : (State.boundaryRest s).hm = s.hm := by simp [State.boundaryRest]
@[simp] theorem State.finishCommit_hm (s : State) : (State.finishCommit s).hm = s.hm := by simp [State.finishCommit]

/-! ### PodRow -/

@[simp] theorem State.rowBond_hm (s : State) (r : PodRef) (env : RowEnv) (two : Bool) : (State.rowBond s r env two).hm = s.hm := by
  simp [State.rowBond]
@[simp] theorem State.rowOp_hm (s : State) (ok : Bool) (r : PodRef) (a : RowArgs) (env : RowEnv) (w96 : Bool) (f : ExecCtx → Pod → Nat → Pod) : KeepsHm s (State.rowOp s ok r a env w96 f) := by unfold State.rowOp; split <;> simp
@[simp] theorem execRowRead_hm (p : PodRef) (a : RowArgs) (env : RowEnv) (s : State) : KeepsHm s (execRowRead p a env s) := by simp [execRowRead]
@[simp] theorem execRowWrite_hm (p : PodRef) (a : RowArgs) (env : RowEnv) (s : State) : KeepsHm s (execRowWrite p a env s) := by simp [execRowWrite]
@[simp] theorem execLoadw_hm (p : PodRef) (a : RowArgs) (env : RowEnv) (s : State) : KeepsHm s (execLoadw p a env s) := by simp [execLoadw]
@[simp] theorem execLoads_hm (p : PodRef) (a : RowArgs) (env : RowEnv) (s : State) : KeepsHm s (execLoads p a env s) := by simp [execLoads]
@[simp] theorem execLoadc_hm (p : PodRef) (a : RowArgs) (env : RowEnv) (s : State) : KeepsHm s (execLoadc p a env s) := by simp [execLoadc]
@[simp] theorem execRowZero_hm (p : PodRef) (a : RowArgs) (env : RowEnv) (s : State) : KeepsHm s (execRowZero p a env s) := by simp [execRowZero]

/-! ### Bonds -/

@[simp] theorem State.modEnd_hm (s : State) (u : BondUnit) (far : Bool) (f : TrainEnd → TrainEnd) : (State.modEnd s u far f).hm = s.hm := by
  simp [State.modEnd]
@[simp] theorem State.modEnds_hm (s : State) (u : BondUnit) (f : TrainEnd → TrainEnd) : (State.modEnds s u f).hm = s.hm := by simp [State.modEnds]
@[simp] theorem State.wavesDown_hm (s : State) (l : List (Nat × Nat × Nat)) : (State.wavesDown s l).hm = s.hm := by
  unfold State.wavesDown
  repeat' (first | simp | intro _ | (refine (hm_foldl _ _ _ (fun _ _ => ?_)).trans ?_) | split | dsimp only)
@[simp] theorem State.markAt_hm (s : State) (u : BondUnit) (far : Bool) (p : Nat) (bad : List Nat) : (State.markAt s u far p bad).hm = s.hm := by
  unfold State.markAt; split <;> simp
@[simp] theorem State.forget_hm (s : State) (u : BondUnit) (far : Bool) : (State.forget s u far).hm = s.hm := by
  unfold State.forget
  repeat' (first | simp | intro _ | (refine (hm_foldl _ _ _ (fun _ _ => ?_)).trans ?_) | split | dsimp only)
@[simp] theorem State.logWire_hm (s : State) (group wire : Nat) : (State.logWire s group wire).hm = s.hm := by simp [State.logWire]
@[simp] theorem State.logWires_hm (s : State) (plaza unit group : Nat) (wires : List Nat) : (State.logWires s plaza unit group wires).hm = s.hm := by
  unfold State.logWires
  repeat' (first | simp | intro _ | (refine (hm_foldl _ _ _ (fun _ _ => ?_)).trans ?_) | split | dsimp only)
@[simp] theorem State.bondLogged_hm (s : State) (group wire : Nat) : (State.bondLogged s group wire).hm = s.hm := by simp [State.bondLogged]
@[simp] theorem execBondLogRetry_hm (s : State) : KeepsHm s (execBondLogRetry s) := by
  unfold execBondLogRetry
  repeat' (first | simp | intro _ | (refine (hm_foldl _ _ _ (fun _ _ => ?_)).trans ?_) | split | dsimp only)
@[simp] theorem State.rowFallback_hm (s : State) (r : PodRef) : (State.rowFallback s r).hm = s.hm := by simp [State.rowFallback]
@[simp] theorem State.groupDown_hm (s : State) (p : Nat) (inbound : Bool) (g : Nat) : (State.groupDown s p inbound g).hm = s.hm := by
  simp [State.groupDown]
@[simp] theorem State.positionLost_hm (s : State) (u : BondUnit) (pos : Nat) : (State.positionLost s u pos).hm = s.hm := by
  unfold State.positionLost; split <;> simp
@[simp] theorem State.podTest_hm (s : State) (r : PodRef) (g : Nat) (bad : List Nat) : (State.podTest s r g bad).hm = s.hm := by simp [State.podTest]
@[simp] theorem State.interfaceTest_hm (s : State) (p : PlazaNo) (inbound : Bool) (g : Nat) (bad : List Nat) : (State.interfaceTest s p inbound g bad).hm = s.hm := by simp [State.interfaceTest]
@[simp] theorem State.testsOver_hm (s : State) : (State.testsOver s).hm = s.hm := by simp [State.testsOver]
@[simp] theorem State.pauseUnit_hm (s : State) (u : BondUnit) : (State.pauseUnit s u).hm = s.hm := by
  unfold State.pauseUnit
  repeat' (first | simp | intro _ | (refine (hm_foldl _ _ _ (fun _ _ => ?_)).trans ?_) | split | dsimp only)
@[simp] theorem State.resumeWaves_hm (s : State) (l : List (Nat × Nat × Nat)) : (State.resumeWaves s l).hm = s.hm := by
  unfold State.resumeWaves
  repeat' (first | simp | intro _ | (refine (hm_foldl _ _ _ (fun _ _ => ?_)).trans ?_) | split | dsimp only)
@[simp] theorem State.beginAttempt_hm (s : State) (u : BondUnit) (a : Nat) : (State.beginAttempt s u a).hm = s.hm := by simp [State.beginAttempt]
@[simp] theorem State.retrain_hm (s : State) (u : BondUnit) : (State.retrain s u).hm = s.hm := by simp [State.retrain]
@[simp] theorem execTreqFrame_hm (f : SideFrame) (s : State) : KeepsHm s (execTreqFrame f s) := by
  unfold execTreqFrame
  repeat' (first | simp | intro _ | (refine (hm_foldl _ _ _ (fun _ _ => ?_)).trans ?_) | split | dsimp only)
@[simp] theorem State.trainTest_hm (s : State) (u : BondUnit) (far : Bool) (bad : List (List Nat)) : (State.trainTest s u far bad).hm = s.hm := by
  unfold State.trainTest
  repeat' (first | simp | intro _ | (refine (hm_foldl _ _ _ (fun _ _ => ?_)).trans ?_) | split | dsimp only)
@[simp] theorem execWireTestDone_hm (t : WireTest) (s : State) : KeepsHm s (execWireTestDone t s) := by
  unfold execWireTestDone; repeat' split
  all_goals simp
@[simp] theorem execRepairFrame_hm (f : SideFrame) (words : List (BitVec 64)) (s : State) : KeepsHm s (execRepairFrame f words s) := by
  unfold execRepairFrame; split <;> simp
@[simp] theorem execMapFrame_hm (f : SideFrame) (s : State) : KeepsHm s (execMapFrame f s) := by
  unfold execMapFrame
  repeat' (first | simp | intro _ | (refine (hm_foldl _ _ _ (fun _ _ => ?_)).trans ?_) | split | dsimp only)
@[simp] theorem State.useMap_hm (s : State) (u : BondUnit) (map : BitVec 16) : (State.useMap s u map).hm = s.hm := by
  unfold State.useMap
  repeat' (first | simp | intro _ | (refine (hm_foldl _ _ _ (fun _ _ => ?_)).trans ?_) | split | dsimp only)
@[simp] theorem State.trainedUnit_hm (s : State) (u : BondUnit) : (State.trainedUnit s u).hm = s.hm := by simp [State.trainedUnit]
@[simp] theorem State.unitDown_hm (s : State) (u : BondUnit) : (State.unitDown s u).hm = s.hm := by simp [State.unitDown]
@[simp] theorem State.unitFallback_hm (s : State) (u : BondUnit) : (State.unitFallback s u).hm = s.hm := by simp [State.unitFallback]
@[simp] theorem State.attemptFails_hm (s : State) (u : BondUnit) : (State.attemptFails s u).hm = s.hm := by simp [State.attemptFails]
@[simp] theorem execEchoFrame_hm (f : SideFrame) (s : State) : KeepsHm s (execEchoFrame f s) := by
  unfold execEchoFrame
  repeat' (first | simp | intro _ | (refine (hm_foldl _ _ _ (fun _ _ => ?_)).trans ?_) | split | dsimp only)
@[simp] theorem execDoneFrame_hm (f : SideFrame) (s : State) : KeepsHm s (execDoneFrame f s) := by
  unfold execDoneFrame
  repeat' (first | simp | intro _ | (refine (hm_foldl _ _ _ (fun _ _ => ?_)).trans ?_) | split | dsimp only)
@[simp] theorem execTrainTimeout_hm (u : BondUnit) (s : State) : KeepsHm s (execTrainTimeout u s) := by simp [execTrainTimeout]
@[simp] theorem execSidebandClockStop_hm (b : SideRef) (follows : Bool) (passing : Option (Fin 640)) (s : State) : KeepsHm s (execSidebandClockStop b follows passing s) := by
  unfold execSidebandClockStop
  repeat' (first | simp | intro _ | (refine (hm_foldl _ _ _ (fun _ _ => ?_)).trans ?_) | split | dsimp only)

/-! ### MapWin -/

@[simp] theorem State.mapReset_hm (s : State) : (State.mapReset s).hm = s.hm := by simp [State.mapReset]
@[simp] theorem State.mapOverwrite_hm (s : State) (k : Nat) : (State.mapOverwrite s k).hm = s.hm := by simp [State.mapOverwrite]
@[simp] theorem execMapComplete_hm (s : State) : KeepsHm s (execMapComplete s) := by simp [execMapComplete]

end Sys2Proof.Machine
end

