-- ==== Sys2Proof/Laws/KeepsMemoryC.lean ====
section
/-! SUPPORT. Which operations leave the memory of the stacks alone, from the lamps to the sessions. -/
namespace Sys2Proof.Machine

/-! ### Lamp -/

@[simp] theorem State.noSpare_hm (s : State) (l : Nat) : (State.noSpare s l).hm = s.hm := by simp [State.noSpare]
@[simp] theorem State.warmSpare_hm (s : State) (l : Nat) : (State.warmSpare s l).hm = s.hm := by
  unfold State.warmSpare
  repeat' (first | simp | intro _ | (refine (hm_foldl _ _ _ (fun _ _ => ?_)).trans ?_) | split | dsimp only)
@[simp] theorem State.dropDemand_hm (s : State) (l : Nat) : (State.dropDemand s l).hm = s.hm := by simp [State.dropDemand]
@[simp] theorem State.demandCrossfade_hm (s : State) (l : Nat) : (State.demandCrossfade s l).hm = s.hm := by simp [State.demandCrossfade]
@[simp] theorem State.wantCrossfade_hm (s : State) (l : Nat) : (State.wantCrossfade s l).hm = s.hm := by
  unfold State.wantCrossfade; repeat' split
  all_goals simp
@[simp] theorem State.darkStreet_hm (s : State) (src dst : Nat) : (State.darkStreet s src dst).hm = s.hm := by
  unfold State.darkStreet
  repeat' (first | simp | intro _ | (refine (hm_foldl _ _ _ (fun _ _ => ?_)).trans ?_) | split | dsimp only)
@[simp] theorem State.feedDown_hm (s : State) (l : Nat) : (State.feedDown s l).hm = s.hm := by
  unfold State.feedDown
  repeat' (first | simp | intro _ | (refine (hm_foldl _ _ _ (fun _ _ => ?_)).trans ?_) | split | dsimp only)
@[simp] theorem State.crossLevel_hm (s : State) (l level : Nat) : (State.crossLevel s l level).hm = s.hm := by unfold State.crossLevel; split <;> simp
@[simp] theorem execFadeValue_hm (l : Fin 32) (f : Int) (s : State) : KeepsHm s (execFadeValue l f s) := by
  unfold execFadeValue
  repeat' (first | simp | intro _ | (refine (hm_foldl _ _ _ (fun _ _ => ?_)).trans ?_) | split | dsimp only)
@[simp] theorem execDriveAdjust_hm (l : Fin 32) (s : State) : KeepsHm s (execDriveAdjust l s) := by
  unfold execDriveAdjust
  repeat' (first | simp | intro _ | (refine (hm_foldl _ _ _ (fun _ _ => ?_)).trans ?_) | split | dsimp only)
@[simp] theorem execSpareReady_hm (l : Fin 32) (locked : Bool) (s : State) : KeepsHm s (execSpareReady l locked s) := by
  unfold execSpareReady
  repeat' (first | simp | intro _ | (refine (hm_foldl _ _ _ (fun _ _ => ?_)).trans ?_) | split | dsimp only)
@[simp] theorem execCrossfadeDeadline_hm (l : Fin 32) (s : State) : KeepsHm s (execCrossfadeDeadline l s) := by
  unfold execCrossfadeDeadline
  repeat' (first | simp | intro _ | (refine (hm_foldl _ _ _ (fun _ _ => ?_)).trans ?_) | split | dsimp only)
@[simp] theorem execCrossfade_hm (l : Fin 32) (ps : Nat) (s : State) : KeepsHm s (execCrossfade l ps s) := by
  unfold execCrossfade
  repeat' (first | simp | intro _ | (refine (hm_foldl _ _ _ (fun _ _ => ?_)).trans ?_) | split | dsimp only)
@[simp] theorem State.demandFeed_hm (s : State) (feed : Nat) : (State.demandFeed s feed).hm = s.hm := by
  unfold State.demandFeed
  repeat' (first | simp | intro _ | (refine (hm_foldl _ _ _ (fun _ _ => ?_)).trans ?_) | split | dsimp only)
@[simp] theorem State.grantLanes_hm (s : State) : (State.grantLanes s).hm = s.hm := by simp [State.grantLanes]
@[simp] theorem State.crossfadeDone_hm (s : State) (l k : Nat) : (State.crossfadeDone s l k).hm = s.hm := by
  unfold State.crossfadeDone
  repeat' (first | simp | intro _ | (refine (hm_foldl _ _ _ (fun _ _ => ?_)).trans ?_) | split | dsimp only)
@[simp] theorem execCrossfadeStep_hm (l : Fin 32) (s : State) : KeepsHm s (execCrossfadeStep l s) := by
  unfold execCrossfadeStep
  repeat' (first | simp | intro _ | (refine (hm_foldl _ _ _ (fun _ _ => ?_)).trans ?_) | split | dsimp only)
@[simp] theorem State.writeP0_hm (s : State) (l : Nat) : (State.writeP0 s l).hm = s.hm := by simp [State.writeP0]
@[simp] theorem execP0Update_hm (l : Fin 32) (p0 : BitVec 16) (s : State) : KeepsHm s (execP0Update l p0 s) := by
  unfold execP0Update
  repeat' (first | simp | intro _ | (refine (hm_foldl _ _ _ (fun _ _ => ?_)).trans ?_) | split | dsimp only)
@[simp] theorem execP0WriteRetry_hm (l : Fin 32) (s : State) : KeepsHm s (execP0WriteRetry l s) := by simp [execP0WriteRetry]
@[simp] theorem State.lampWritten_hm (s : State) (l : Nat) : (State.lampWritten s l).hm = s.hm := by simp [State.lampWritten]

/-! ### Lock -/

@[simp] theorem execLockLoopUpdate_hm (g : LaneRef) (rings : List RingReading) (s : State) : KeepsHm s (execLockLoopUpdate g rings s) := by
  simp [execLockLoopUpdate]
@[simp] theorem execFeedforwardUpdate_hm (g : LaneRef) (s : State) : KeepsHm s (execFeedforwardUpdate g s) := by
  unfold execFeedforwardUpdate; split <;> simp
@[simp] theorem execRingSlip_hm (g : LaneRef) (ring : Fin 16) (w : WaveRef) (lost : Bool) (s : State) : KeepsHm s (execRingSlip g ring w lost s) := by
  unfold execRingSlip
  repeat' (first | simp | intro _ | (refine (hm_foldl _ _ _ (fun _ _ => ?_)).trans ?_) | split | dsimp only)
@[simp] theorem execRelockDone_hm (g : LaneRef) (ring : Fin 16) (w : WaveRef) (ok : Bool) (s : State) : KeepsHm s (execRelockDone g ring w ok s) := by
  unfold execRelockDone
  repeat' (first | simp | intro _ | (refine (hm_foldl _ _ _ (fun _ _ => ?_)).trans ?_) | split | dsimp only)
@[simp] theorem execLockThermoReport_hm (g : LaneRef) (temp : Option (BitVec 16)) (s : State) : KeepsHm s (execLockThermoReport g temp s) := by
  simp [execLockThermoReport]

/-! ### Calib -/

@[simp] theorem State.failCal_hm (s : State) (g : LaneRef) : (State.failCal s g).hm = s.hm := by simp [State.failCal]
@[simp] theorem State.judgeCal_hm (s : State) (full : Bool) (r : Sys2Proof.CalReading) : (State.judgeCal s full r).hm = s.hm := by
  simp [State.judgeCal]
@[simp] theorem State.calResult_hm (s : State) : (State.calResult s).hm = s.hm := by simp [State.calResult]
@[simp] theorem State.beginCal_hm (s : State) : (State.beginCal s).hm = s.hm := by simp [State.beginCal]
@[simp] theorem State.calWave_hm (s : State) (weak : List (Nat × Nat × Nat)) (src dst w : Nat) : (State.calWave s weak src dst w).hm = s.hm := by
  simp [State.calWave]
@[simp] theorem State.calWaves_hm (s : State) (weak : List (Nat × Nat × Nat)) : (State.calWaves s weak).hm = s.hm := by
  unfold State.calWaves
  repeat' (first | simp | intro _ | (refine (hm_foldl _ _ _ (fun _ _ => ?_)).trans ?_) | split | dsimp only)
@[simp] theorem State.calRings_hm (s : State) : (State.calRings s).hm = s.hm := by simp [State.calRings]
@[simp] theorem State.endCal_hm (s : State) (readings : List Sys2Proof.CalReading) (weak : List WaveRef) : (State.endCal s readings weak).hm = s.hm := by
  unfold State.endCal
  repeat' (first | simp | intro _ | (refine (hm_foldl _ _ _ (fun _ _ => ?_)).trans ?_) | split | dsimp only)
@[simp] theorem execCalPhaseEnd_hm (readings : List Sys2Proof.CalReading) (weak : List WaveRef) (s : State) : KeepsHm s (execCalPhaseEnd readings weak s) := by
  unfold execCalPhaseEnd
  repeat' (first | simp | intro _ | (refine (hm_foldl _ _ _ (fun _ _ => ?_)).trans ?_) | split | dsimp only)
@[simp] theorem State.startLane_hm (s : State) (g : LaneRef) : (State.startLane s g).hm = s.hm := by simp [State.startLane]
@[simp] theorem execLaneGroupRecal_hm (g : LaneRef) (s : State) : KeepsHm s (execLaneGroupRecal g s) := by simp [execLaneGroupRecal]
@[simp] theorem execLaneGroupRecalDone_hm (r : CalReading) (s : State) : KeepsHm s (execLaneGroupRecalDone r s) := by
  unfold execLaneGroupRecalDone
  repeat' (first | simp | intro _ | (refine (hm_foldl _ _ _ (fun _ _ => ?_)).trans ?_) | split | dsimp only)
@[simp] theorem State.commandLane_hm (s : State) (g : LaneRef) : (State.commandLane s g).hm = s.hm := by simp [State.commandLane]
@[simp] theorem State.cmdRecalibrate_hm (s : State) (c : RunningCmd) : (State.cmdRecalibrate s c).hm = s.hm := by
  unfold State.cmdRecalibrate; repeat' split
  all_goals simp
@[simp] theorem execRecalibrateFull_hm (a : List (BitVec 32)) (s : State) : KeepsHm s (execRecalibrateFull a s) := by simp [execRecalibrateFull]
@[simp] theorem execRecalibrateGroup_hm (a : List (BitVec 32)) (s : State) : KeepsHm s (execRecalibrateGroup a s) := by simp [execRecalibrateGroup]

/-! ### Clocks -/

@[simp] theorem State.modClk_hm (s : State) (n : Nat) (f : ShClock → ShClock) : (State.modClk s n f).hm = s.hm := by simp [State.modClk]
@[simp] theorem State.modPwr_hm (s : State) (n : Nat) (f : ShPower → ShPower) : (State.modPwr s n f).hm = s.hm := by simp [State.modPwr]
@[simp] theorem State.beginStop_hm (s : State) (n : Nat) : (State.beginStop s n).hm = s.hm := by
  unfold State.beginStop
  repeat' (first | simp | intro _ | (refine (hm_foldl _ _ _ (fun _ _ => ?_)).trans ?_) | split | dsimp only)
@[simp] theorem State.demandCode_hm (s : State) (n f : Nat) : (State.demandCode s n f).hm = s.hm := by simp [State.demandCode]
@[simp] theorem State.lowerTo_hm (s : State) (n f k : Nat) : (s.lowerTo n f k).hm = s.hm := by
  induction k generalizing s with
  | zero => rfl
  | succ k ih => unfold State.lowerTo; split <;> simp [ih]
@[simp] theorem State.setTarget_hm (s : State) (n : Nat) (v : Word) : (State.setTarget s n v).hm = s.hm := by simp [State.setTarget]
@[simp] theorem execFreqStopEnd_hm (sh : Fin 8) (s : State) : KeepsHm s (execFreqStopEnd sh s) := by
  unfold execFreqStopEnd
  repeat' (first | simp | intro _ | (refine (hm_foldl _ _ _ (fun _ _ => ?_)).trans ?_) | split | dsimp only)
@[simp] theorem State.moveSetPoint_hm (s : State) (n mv : Nat) : (State.moveSetPoint s n mv).hm = s.hm := by simp [State.moveSetPoint]
@[simp] theorem State.codeDown_hm (s : State) (n : Nat) : (State.codeDown s n).hm = s.hm := by simp [State.codeDown]
@[simp] theorem State.govern_hm (s : State) (n worst : Nat) : (State.govern s n worst).hm = s.hm := by simp [State.govern]
@[simp] theorem execGovernorTick_hm (sh : Fin 8) (marginAd marginSd : BitVec 8) (s : State) : KeepsHm s (execGovernorTick sh marginAd marginSd s) := by
  unfold execGovernorTick
  repeat' (first | simp | intro _ | (refine (hm_foldl _ _ _ (fun _ _ => ?_)).trans ?_) | split | dsimp only)
@[simp] theorem execDroopDetect_hm (sh : Fin 8) (depth : BitVec 10) (s : State) : KeepsHm s (execDroopDetect sh depth s) := by
  unfold execDroopDetect
  repeat' (first | simp | intro _ | (refine (hm_foldl _ _ _ (fun _ _ => ?_)).trans ?_) | split | dsimp only)
@[simp] theorem State.forecastCheck_hm (s : State) (n : Nat) : (State.forecastCheck s n).hm = s.hm := by simp [State.forecastCheck]
@[simp] theorem execPowerMeasure_hm (pkg : BitVec 16) (shallots : List PowerReading) (s : State) : KeepsHm s (execPowerMeasure pkg shallots s) := by
  unfold execPowerMeasure
  repeat' (first | simp | intro _ | (refine (hm_foldl _ _ _ (fun _ _ => ?_)).trans ?_) | split | dsimp only)
@[simp] theorem State.setSlew_hm (s : State) (pkg : Bool) (v : Word) : (State.setSlew s pkg v).hm = s.hm := by simp [State.setSlew]
@[simp] theorem State.refill_hm (s : State) : (State.refill s).hm = s.hm := by simp [State.refill]
@[simp] theorem State.serveWake_hm (s : State) (n pod : Nat) : (State.serveWake s n pod).hm = s.hm := by simp [State.serveWake]
@[simp] theorem execWakeTick_hm (s : State) : KeepsHm s (execWakeTick s) := by
  unfold execWakeTick
  repeat' (first | simp | intro _ | (refine (hm_foldl _ _ _ (fun _ _ => ?_)).trans ?_) | split | dsimp only)
@[simp] theorem execForecastFrame_hm (sh : Fin 8) (next : Bool) (segment : Nat) (s : State) : KeepsHm s (execForecastFrame sh next segment s) := by
  unfold execForecastFrame
  repeat' (first | simp | intro _ | (refine (hm_foldl _ _ _ (fun _ _ => ?_)).trans ?_) | split | dsimp only)
@[simp] theorem execForecastHoldEnd_hm (sh : Fin 8) (s : State) : KeepsHm s (execForecastHoldEnd sh s) := by
  unfold execForecastHoldEnd; split <;> simp
@[simp] theorem execVrLimitAssert_hm (sh : Fin 8) (s : State) : KeepsHm s (execVrLimitAssert sh s) := by simp [execVrLimitAssert]
@[simp] theorem execVrLimitDeassert_hm (sh : Fin 8) (s : State) : KeepsHm s (execVrLimitDeassert sh s) := by simp [execVrLimitDeassert]
@[simp] theorem execVrLimitTimer_hm (sh : Fin 8) (s : State) : KeepsHm s (execVrLimitTimer sh s) := by simp [execVrLimitTimer]
@[simp] theorem State.nvWindow_hm (s : State) : (State.nvWindow s).hm = s.hm := by unfold State.nvWindow; split <;> simp
@[simp] theorem execSensorRead_hm (p : PlazaNo) (sd : Bool) (sensor : Fin 64) (t : Option (BitVec 16)) (s : State) : KeepsHm s (execSensorRead p sd sensor t s) := by unfold execSensorRead; split <;> simp
@[simp] theorem execThermistorRead_hm (n : Fin 4) (t : Option (BitVec 16)) (s : State) : KeepsHm s (execThermistorRead n t s) := by
  unfold execThermistorRead; repeat' split
  all_goals simp

/-! ### Umpire -/

@[simp] theorem State.modConductor_hm (s : State) (one : Bool) (f : Conductor → Conductor) : (State.modConductor s one f).hm = s.hm := by
  simp [State.modConductor]
@[simp] theorem State.modStage_hm (s : State) (k : Nat) (f : OutStage → OutStage) : (State.modStage s k f).hm = s.hm := by simp [State.modStage]
@[simp] theorem execInputStageArrival_hm (plaza : PlazaNo) (s : State) : KeepsHm s (execInputStageArrival plaza s) := by simp [execInputStageArrival]
@[simp] theorem execInputDelivery_hm (iseq : BitVec 64) (late0 late1 : Bool) (s : State) : KeepsHm s (execInputDelivery iseq late0 late1 s) := by
  unfold execInputDelivery; repeat' split
  all_goals simp
@[simp] theorem execLateInputCopy_hm (iseq : BitVec 64) (c : Bool) (s : State) : KeepsHm s (execLateInputCopy iseq c s) := by
  unfold execLateInputCopy; repeat' split
  all_goals simp
@[simp] theorem State.markFailed_hm (s : State) (one : Bool) : (State.markFailed s one).hm = s.hm := by simp [State.markFailed]
@[simp] theorem State.bothLost_hm (s : State) : (State.bothLost s).hm = s.hm := by simp [State.bothLost]
@[simp] theorem State.activeFails_hm (s : State) (cause : Nat) : (State.activeFails s cause).hm = s.hm := by simp [State.activeFails]
@[simp] theorem State.standbyFails_hm (s : State) (one : Bool) : (State.standbyFails s one).hm = s.hm := by simp [State.standbyFails]
@[simp] theorem State.declareFailed_hm (s : State) (one : Bool) (cause : Nat) : (State.declareFailed s one cause).hm = s.hm := by
  simp [State.declareFailed]
@[simp] theorem State.holdOutput_hm (s : State) (one : Bool) (o : CondOut) : (State.holdOutput s one o).hm = s.hm := by simp [State.holdOutput]
@[simp] theorem State.nativeOutput_hm (s : State) (one : Bool) (o : CondOut) : (State.nativeOutput s one o).hm = s.hm := by simp [State.nativeOutput]
@[simp] theorem State.comparedOutput_hm (s : State) (one : Bool) (o : CondOut) : (State.comparedOutput s one o).hm = s.hm := by
  unfold State.comparedOutput
  repeat' (first | simp | intro _ | (refine (hm_foldl _ _ _ (fun _ _ => ?_)).trans ?_) | split | dsimp only)
@[simp] theorem execOutputArrival_hm (stage : Fin 40) (c : Bool) (oseq : BitVec 32) (payload : List (BitVec 8)) (s : State) : KeepsHm s (execOutputArrival stage c oseq payload s) := by
  unfold execOutputArrival
  repeat' split
  all_goals (try dsimp only; try split) <;> simp
@[simp] theorem execLagAlarm_hm (stage : Fin 40) (s : State) : KeepsHm s (execLagAlarm stage s) := by unfold execLagAlarm; split <;> simp
@[simp] theorem execHeartbeat_hm (c : Bool) (selfFault : Bool) (upset : BitVec 64) (s : State) : KeepsHm s (execHeartbeat c selfFault upset s) := by
  unfold execHeartbeat
  repeat' (first | simp | intro _ | (refine (hm_foldl _ _ _ (fun _ _ => ?_)).trans ?_) | split | dsimp only)
@[simp] theorem State.bothFail_hm (s : State) : (State.bothFail s).hm = s.hm := by simp [State.bothFail]
theorem State.judgeMismatch_hm {s t : State} {e0 e1 : Option Evidence} (h : s.judgeMismatch e0 e1 = some t) : t.hm = s.hm := by
  unfold State.judgeMismatch at h; dsimp only at h
  repeat' split at h
  all_goals first | (cases h; done) | (cases h; simp; done)
@[simp] theorem State.umpireActs_hm (s : State) (e0 e1 : Option Evidence) : (State.umpireActs s e0 e1).hm = s.hm := by
  unfold State.umpireActs
  repeat' (first | simp | split | exact State.judgeMismatch_hm ‹_›)
@[simp] theorem execHeartbeatCheck_hm (s : State) : KeepsHm s (execHeartbeatCheck s) := by unfold execHeartbeatCheck; split <;> simp
@[simp] theorem execClaimWrite_hm (stage : Fin 40) (s : State) : KeepsHm s (execClaimWrite stage s) := by
  unfold execClaimWrite; repeat' split
  all_goals simp
@[simp] theorem execHeldRelease_hm (stage : Fin 40) (s : State) : KeepsHm s (execHeldRelease stage s) := by
  unfold execHeldRelease
  repeat' (first | simp | intro _ | (refine (hm_foldl _ _ _ (fun _ _ => ?_)).trans ?_) | split | dsimp only)
@[simp] theorem State.renumberDue_hm (s : State) : (State.renumberDue s).hm = s.hm := by unfold State.renumberDue; split <;> simp
@[simp] theorem execSwitchoverComplete_hm (s : State) : KeepsHm s (execSwitchoverComplete s) := by
  unfold execSwitchoverComplete; repeat' split
  all_goals simp
@[simp] theorem execUmpireTick_hm (s : State) : KeepsHm s (execUmpireTick s) := by simp [execUmpireTick]
@[simp] theorem execTickTimeout_hm (s : State) : KeepsHm s (execTickTimeout s) := by simp [execTickTimeout]
@[simp] theorem execResyncReady_hm (c : Bool) (s : State) : KeepsHm s (execResyncReady c s) := by simp [execResyncReady]
@[simp] theorem execResyncSnapshotDone_hm (us : Nat) (s : State) : KeepsHm s (execResyncSnapshotDone us s) := by
  unfold execResyncSnapshotDone; repeat' split
  all_goals simp
@[simp] theorem execStandbyBist_hm (passed : Bool) (s : State) : KeepsHm s (execStandbyBist passed s) := by unfold execStandbyBist; split <;> simp
@[simp] theorem execHealthReport_hm (corrected0 corrected1 : BitVec 16) (s : State) : KeepsHm s (execHealthReport corrected0 corrected1 s) := by
  simp [execHealthReport]
@[simp] theorem State.setMode_hm (s : State) (v : Word) : (State.setMode s v).hm = s.hm := by simp [State.setMode]

/-! ### Sweep -/

@[simp] theorem State.returnWork_hm (s : State) : (State.returnWork s).hm = s.hm := by simp [State.returnWork]
@[simp] theorem State.endRun_hm (s : State) : (State.endRun s).hm = s.hm := by simp [State.endRun]
@[simp] theorem State.sweepClocks_hm (s : State) : (State.sweepClocks s).hm = s.hm := by
  unfold State.sweepClocks
  repeat' (first | simp | intro _ | (refine (hm_foldl _ _ _ (fun _ _ => ?_)).trans ?_) | split | dsimp only)
@[simp] theorem State.beginSweep_hm (s : State) (after : AfterSweep) : (State.beginSweep s after).hm = s.hm := by simp [State.beginSweep]
@[simp] theorem State.cmdSweep_hm (s : State) (c : RunningCmd) : (State.cmdSweep s c).hm = s.hm := by simp [State.cmdSweep]
@[simp] theorem execSweep_hm (a : List (BitVec 32)) (s : State) : KeepsHm s (execSweep a s) := by simp [execSweep]
@[simp] theorem State.zeroStores_hm (s : State) : (State.zeroStores s).hm = s.hm := by simp [State.zeroStores]
@[simp] theorem State.stagingKey_hm (s : State) : (State.stagingKey s).hm = s.hm := by simp [State.stagingKey]
@[simp] theorem State.sweepClocksEnd_hm (s : State) : (State.sweepClocksEnd s).hm = s.hm := by
  unfold State.sweepClocksEnd
  repeat' (first | simp | intro _ | (refine (hm_foldl _ _ _ (fun _ _ => ?_)).trans ?_) | split | dsimp only)
@[simp] theorem State.sweepOver_hm (s : State) : (State.sweepOver s).hm = s.hm := by simp [State.sweepOver]

/-! ### HostLink -/

@[simp] theorem State.linkDown_hm (s : State) : (State.linkDown s).hm = s.hm := by simp [State.linkDown]
@[simp] theorem execPerstAssert_hm (s : State) : KeepsHm s (execPerstAssert s) := by simp [execPerstAssert]
@[simp] theorem State.unparkBegin_hm (s : State) : (State.unparkBegin s).hm = s.hm := by simp [State.unparkBegin]
@[simp] theorem execPerstDeassert_hm (s : State) : KeepsHm s (execPerstDeassert s) := by simp [execPerstDeassert]
@[simp] theorem execFunctionReady_hm (s : State) : KeepsHm s (execFunctionReady s) := by simp [execFunctionReady]
@[simp] theorem execPcieLinkDown_hm (s : State) : KeepsHm s (execPcieLinkDown s) := by simp [execPcieLinkDown]
@[simp] theorem execPcieLinkUp_hm (flit : Bool) (width rate : BitVec 4) (s : State) : KeepsHm s (execPcieLinkUp flit width rate s) := by
  unfold execPcieLinkUp; split <;> simp
@[simp] theorem execPcieHotReset_hm (s : State) : KeepsHm s (execPcieHotReset s) := by simp [execPcieHotReset]
@[simp] theorem execD3hotEntry_hm (s : State) : KeepsHm s (execD3hotEntry s) := by simp [execD3hotEntry]
@[simp] theorem execD3hotExit_hm (s : State) : KeepsHm s (execD3hotExit s) := by simp [execD3hotExit]
@[simp] theorem execIdeKm_hm (stream : Fin 5) (s : State) : KeepsHm s (execIdeKm stream s) := by unfold execIdeKm; split <;> simp

/-! ### Mews -/

@[simp] theorem State.takeSeq_hm (s : State) (r : MewsReq) (a : MewsAuth) : (s.takeSeq r a).hm = s.hm := by cases a <;> simp [State.takeSeq]
@[simp] theorem State.mewsAnswer_hm (s : State) (o : MewsOp) (r : MewsReq) (st : Status) (body : List Byte) : (State.mewsAnswer s o r st body).hm = s.hm := by simp [State.mewsAnswer]
@[simp] theorem State.authFails_hm (s : State) (op : Nat) (r : MewsReq) : (State.authFails s op r).hm = s.hm := by simp [State.authFails]
@[simp] theorem State.mewsReceive_hm (s : State) (o : MewsOp) (r : MewsReq) (run : State → State) (hrun : ∀ s : State, (run s).hm = s.hm) : (State.mewsReceive s o r run).hm = s.hm := by
  unfold State.mewsReceive
  repeat' (first | simp [hrun] | intro _ | (refine (hm_foldl _ _ _ (fun _ _ => ?_)).trans ?_) | split | dsimp only)
@[simp] theorem State.mewsServe_hm (s : State) (o : MewsOp) (r : MewsReq) (bad : Bool) (run : State → State) (hrun : ∀ s : State, (run s).hm = s.hm) : (State.mewsServe s o r bad run).hm = s.hm := by
  unfold State.mewsServe
  repeat' (first | simp [hrun] | intro _ | (refine (hm_foldl _ _ _ (fun _ _ => ?_)).trans ?_) | split | dsimp only)
@[simp] theorem State.mewsRun_hm (s : State) (o : MewsOp) (r : MewsReq) (bad : Bool) (run : State → State) (hrun : ∀ s : State, (run s).hm = s.hm) : (State.mewsRun s o r bad run).hm = s.hm := by
  unfold State.mewsRun
  repeat' (first | simp [hrun] | intro _ | (refine (hm_foldl _ _ _ (fun _ _ => ?_)).trans ?_) | split | dsimp only)

/-! ### Life -/

@[simp] theorem State.eraseOwner_hm (s : State) : (State.eraseOwner s).hm = s.hm := by simp [State.eraseOwner]
@[simp] theorem State.newIdentity_hm (s : State) : (State.newIdentity s).hm = s.hm := by simp [State.newIdentity]
@[simp] theorem State.enterLife_hm (s : State) (target : Nat) (params : List Byte) : (State.enterLife s target params).hm = s.hm := by
  unfold State.enterLife; repeat' split
  all_goals simp
@[simp] theorem State.nvLands_hm (s : State) (w : NvWrite) : (s.nvLands w).hm = s.hm := by cases w <;> simp [State.nvLands]

/-! ### Reset -/

@[simp] theorem State.lapse_hm (s : State) : (State.lapse s).hm = s.hm := by unfold State.lapse; split <;> simp
@[simp] theorem State.boot_hm (s : State) (source : Nat) : (State.boot s source).hm = s.hm := by simp [State.boot]
@[simp] theorem execPkgRstRelease_hm (s : State) : KeepsHm s (execPkgRstRelease s) := by unfold execPkgRstRelease; split <;> simp
@[simp] theorem execVddAonUp_hm (s : State) : KeepsHm s (execVddAonUp s) := by unfold execVddAonUp; split <;> simp
@[simp] theorem State.firmwareEnd_hm (s : State) : (State.firmwareEnd s).hm = s.hm := by simp [State.firmwareEnd]
@[simp] theorem State.transportKeys_hm (s : State) : (State.transportKeys s).hm = s.hm := by simp [State.transportKeys]
@[simp] theorem State.startCalibration_hm (s : State) : (State.startCalibration s).hm = s.hm := by simp [State.startCalibration]
@[simp] theorem State.joinsEnd_hm (s : State) (c0 c1 : Bool) (fallback down : List BondUnit) : (State.joinsEnd s c0 c1 fallback down).hm = s.hm := by
  unfold State.joinsEnd
  repeat' (first | simp | intro _ | (refine (hm_foldl _ _ _ (fun _ _ => ?_)).trans ?_) | split | dsimp only)
@[simp] theorem State.sizeStaging_hm (s : State) : (State.sizeStaging s).hm = s.hm := by simp [State.sizeStaging]
@[simp] theorem State.stacksEnd_hm (s : State) (down : List StackDown) : (State.stacksEnd s down).hm = s.hm := by
  unfold State.stacksEnd
  repeat' (first | simp | intro _ | (refine (hm_foldl _ _ _ (fun _ _ => ?_)).trans ?_) | split | dsimp only)
@[simp] theorem State.bistFail_hm (s : State) (f : BistFail) : (State.bistFail s f).hm = s.hm := by simp [State.bistFail]
@[simp] theorem State.bistEnd_hm (s : State) (shallots : List Nat) (fails : List BistFail) : (State.bistEnd s shallots fails).hm = s.hm := by
  unfold State.bistEnd
  repeat' (first | simp | intro _ | (refine (hm_foldl _ _ _ (fun _ _ => ?_)).trans ?_) | split | dsimp only)
@[simp] theorem State.reachIdle_hm (s : State) : (State.reachIdle s).hm = s.hm := by
  unfold State.reachIdle
  repeat' (first | simp | intro _ | (refine (hm_foldl _ _ _ (fun _ _ => ?_)).trans ?_) | split | dsimp only)
@[simp] theorem execBringupPhaseEnd_hm (p : PhaseEnd) (s : State) : KeepsHm s (execBringupPhaseEnd p s) := by
  unfold execBringupPhaseEnd; split <;> simp
@[simp] theorem State.cmdPark_hm (s : State) (c : RunningCmd) : (State.cmdPark s c).hm = s.hm := by simp [State.cmdPark]
@[simp] theorem execPark_hm (a : List (BitVec 32)) (s : State) : KeepsHm s (execPark a s) := by simp [execPark]
@[simp] theorem State.cmdUnpark_hm (s : State) (c : RunningCmd) : (State.cmdUnpark s c).hm = s.hm := by simp [State.cmdUnpark]

/-! ### ResetCmd -/

@[simp] theorem State.retrainDie_hm (s : State) (p : Nat) : (State.retrainDie s p).hm = s.hm := by
  unfold State.retrainDie
  repeat' (first | simp | intro _ | (refine (hm_foldl _ _ _ (fun _ _ => ?_)).trans ?_) | split | dsimp only)
@[simp] theorem State.settleUnit_hm (s : State) (u : BondUnit) : (State.settleUnit s u).hm = s.hm := by simp [State.settleUnit]
@[simp] theorem State.settleDie_hm (s : State) (p : Nat) : (State.settleDie s p).hm = s.hm := by
  unfold State.settleDie
  repeat' (first | simp | intro _ | (refine (hm_foldl _ _ _ (fun _ _ => ?_)).trans ?_) | split | dsimp only)
@[simp] theorem State.freezePlaza_hm (s : State) (p : Nat) (f : Bool) : (State.freezePlaza s p f).hm = s.hm := by
  unfold State.freezePlaza
  repeat' (first | simp | intro _ | (refine (hm_foldl _ _ _ (fun _ _ => ?_)).trans ?_) | split | dsimp only)
@[simp] theorem State.resetGateway_hm (s : State) (g : Nat) : (State.resetGateway s g).hm = s.hm := by simp [State.resetGateway]
@[simp] theorem State.resetStack_hm (s : State) (h : Nat) : (State.resetStack s h).hm = s.hm := by simp [State.resetStack]
@[simp] theorem State.transportKey_hm (s : State) (p : Nat) : (State.transportKey s p).hm = s.hm := by simp [State.transportKey]
@[simp] theorem State.plazaGo_hm (s : State) (p : Nat) : (State.plazaGo s p).hm = s.hm := by simp [State.plazaGo]
@[simp] theorem State.plazaBegin_hm (s : State) (p : Nat) : (State.plazaBegin s p).hm = s.hm := by simp [State.plazaBegin]
@[simp] theorem execPlazaResetDone_hm (pcUp : BitVec 7) (s : State) : KeepsHm s (execPlazaResetDone pcUp s) := by
  unfold execPlazaResetDone; split <;> simp
@[simp] theorem State.shallotGo_hm (s : State) (n : Nat) : (State.shallotGo s n).hm = s.hm := by simp [State.shallotGo]
@[simp] theorem State.shallotBegin_hm (s : State) (n : Nat) : (State.shallotBegin s n).hm = s.hm := by simp [State.shallotBegin]
@[simp] theorem execShallotCooldownEnd_hm (sh : Fin 8) (s : State) : KeepsHm s (execShallotCooldownEnd sh s) := by simp [execShallotCooldownEnd]
@[simp] theorem State.afterBist_hm (s : State) (n : Nat) : (State.afterBist s n).hm = s.hm := by
  unfold State.afterBist; repeat' split
  all_goals simp
@[simp] theorem State.rewrite_hm (s : State) (n : Nat) : (State.rewrite s n).hm = s.hm := by unfold State.rewrite; split <;> simp
@[simp] theorem execShallotResetDone_hm (sh : Fin 8) (fails : List BistFail) (s : State) : KeepsHm s (execShallotResetDone sh fails s) := by
  unfold execShallotResetDone
  repeat' (first | simp | intro _ | (refine (hm_foldl _ _ _ (fun _ _ => ?_)).trans ?_) | split | dsimp only)
@[simp] theorem State.dropShallotReset_hm (s : State) : (State.dropShallotReset s).hm = s.hm := by simp [State.dropShallotReset]
@[simp] theorem State.lifeWrite_hm (s : State) (target : Nat) (params : List Byte) : (State.lifeWrite s target params).hm = s.hm := by
  simp [State.lifeWrite]
@[simp] theorem State.afterSweep_hm (s : State) (a : AfterSweep) : (State.afterSweep s a).hm = s.hm := by unfold State.afterSweep; split <;> simp
@[simp] theorem execSweepPhaseEnd_hm (nonzero : Bool) (s : State) : KeepsHm s (execSweepPhaseEnd nonzero s) := by
  unfold execSweepPhaseEnd; split <;> simp

/-! ### HostRun -/

@[simp] theorem State.cmdQuery_hm (s : State) (c : RunningCmd) : (State.cmdQuery s c).hm = s.hm := by simp [State.cmdQuery]
@[simp] theorem execQuery_hm (a : List (BitVec 32)) (s : State) : KeepsHm s (execQuery a s) := by simp [execQuery]
@[simp] theorem State.cmdExport_hm (s : State) (c : RunningCmd) : (State.cmdExport s c).hm = s.hm := by simp [State.cmdExport]
@[simp] theorem execExportJournal_hm (a : List (BitVec 32)) (s : State) : KeepsHm s (execExportJournal a s) := by simp [execExportJournal]
@[simp] theorem State.readRing_hm (s : State) (count len : Nat) (env : MemEnv) : (State.readRing s count len env).1.hm = s.hm := by
  unfold State.readRing; split <;> simp
@[simp] theorem execJournalExportDone_hm (env : MemEnv) (s : State) : KeepsHm s (execJournalExportDone env s) := by
  unfold execJournalExportDone
  repeat' (first | simp | intro _ | (refine (hm_foldl _ _ _ (fun _ _ => ?_)).trans ?_) | split | dsimp only)

/-! ### Tick -/

@[simp] theorem State.landRecvs_hm (s : State) (n : Nat) : (State.landRecvs s n).hm = s.hm := by
  unfold State.landRecvs
  repeat' (first | simp | intro _ | (refine (hm_foldl _ _ _ (fun _ _ => ?_)).trans ?_) | split | dsimp only)
@[simp] theorem State.endWaits_hm (s : State) (n : Nat) : (State.endWaits s n).hm = s.hm := by simp [State.endWaits]
@[simp] theorem State.segmentHold_hm (s : State) (n : Nat) : (State.segmentHold s n).hm = s.hm := by
  unfold State.segmentHold
  repeat' (first | simp | intro _ | (refine (hm_foldl _ _ _ (fun _ _ => ?_)).trans ?_) | split | dsimp only)
@[simp] theorem State.beat_hm (s : State) (n : Nat) : (State.beat s n).hm = s.hm := by simp [State.beat]
@[simp] theorem State.chargeStreet_hm (s : State) (n : Nat) (c : HoldCause) : (State.chargeStreet s n c).hm = s.hm := by
  unfold State.chargeStreet
  repeat' (first | rfl | simp; done | split)
@[simp] theorem State.closeAvenue_hm (s : State) (n a : Nat) : (State.closeAvenue s n a).hm = s.hm := by simp [State.closeAvenue]
@[simp] theorem State.stepPeriod_hm (s : State) (n : Nat) : (State.stepPeriod s n).hm = s.hm := by
  unfold State.stepPeriod
  repeat' (first | simp | intro _ | (refine (hm_foldl _ _ _ (fun _ _ => ?_)).trans ?_) | split | dsimp only)
@[simp] theorem State.dutyPeriod_hm (s : State) (n : Nat) : (State.dutyPeriod s n).hm = s.hm := by simp [State.dutyPeriod]
@[simp] theorem State.pauseEvents_hm (s : State) (n : Nat) : (State.pauseEvents s n).hm = s.hm := by simp [State.pauseEvents]
@[simp] theorem execDutyFrameBoundary_hm (sh : Fin 8) (s : State) : KeepsHm s (execDutyFrameBoundary sh s) := by
  unfold execDutyFrameBoundary
  repeat' (first | simp | intro _ | (refine (hm_foldl _ _ _ (fun _ _ => ?_)).trans ?_) | split | dsimp only)
@[simp] theorem execHeldRowTransferDone_hm (sh : Fin 8) (s : State) : KeepsHm s (execHeldRowTransferDone sh s) := by simp [execHeldRowTransferDone]
@[simp] theorem State.period_hm (s : State) (n : Nat) : (State.period s n).hm = s.hm := by
  have h : (List.foldl (fun (t : State) a => t.closeAvenue n a) s (upto 16)).hm = s.hm := hm_foldl _ _ _ (fun t a => State.closeAvenue_hm t n a)
  simp [State.period, h]
@[simp] theorem State.duePeriod_hm (s : State) (n : Nat) : (State.duePeriod s n).hm = s.hm := by
  unfold State.duePeriod
  split <;> simp
@[simp] theorem State.tick_hm (s : State) : (State.tick s).hm = s.hm := by
  unfold State.tick
  repeat' (first | simp | intro _ | (refine (hm_foldl _ _ _ (fun _ _ => ?_)).trans ?_) | split | dsimp only)

/-! ### RegWrite -/

@[simp] theorem State.setJournalTail_hm (s : State) (v : Word) : (State.setJournalTail s v).hm = s.hm := by simp [State.setJournalTail]
@[simp] theorem State.setHostTail_hm (s : State) (v : Word) : (State.setHostTail s v).hm = s.hm := by simp [State.setHostTail]
@[simp] theorem State.setArbCtrl_hm (s : State) (v : Word) : (State.setArbCtrl s v).hm = s.hm := by simp [State.setArbCtrl]
@[simp] theorem State.setFreqTarget_hm (s : State) (v : Word) : (State.setFreqTarget s v).hm = s.hm := by simp [State.setFreqTarget]
@[simp] theorem State.setBar2Target_hm (s : State) (v : Word) : (State.setBar2Target s v).hm = s.hm := by simp [State.setBar2Target]
@[simp] theorem State.setMsix_hm (s : State) (i : Nat) (v : Word) : (State.setMsix s i v).hm = s.hm := by simp [State.setMsix]
@[simp] theorem State.condSet_hm (s : State) (o : Nat) (v : Word) : (State.condSet s o v).hm = s.hm := by unfold State.condSet; split <;> simp
@[simp] theorem State.stepSet_hm (s : State) (o : Nat) (v : Word) : (State.stepSet s o v).hm = s.hm := by unfold State.stepSet; split <;> simp
@[simp] theorem State.modReqCount_hm (s : State) (f : ReqCount → ReqCount) : (State.modReqCount s f).hm = s.hm := by simp [State.modReqCount]
@[simp] theorem State.modSelStreet_hm (s : State) (f : Street → Street) : (State.modSelStreet s f).hm = s.hm := by simp [State.modSelStreet]
@[simp] theorem State.pblSet_hm (s : State) (o : Nat) (v : Word) : (State.pblSet s o v).hm = s.hm := by
  unfold State.pblSet; repeat' split
  all_goals simp
@[simp] theorem State.lampSet_hm (s : State) (o : Nat) (v : Word) : (State.lampSet s o v).hm = s.hm := by unfold State.lampSet; split <;> simp
@[simp] theorem State.gwSet_hm (s : State) (g o : Nat) (v : Word) : (State.gwSet s g o v).hm = s.hm := by simp [State.gwSet]
@[simp] theorem State.syncSet_hm (s : State) (o : Nat) (v : Word) : (State.syncSet s o v).hm = s.hm := by unfold State.syncSet; split <;> simp
@[simp] theorem State.pwrSet_hm (s : State) (o : Nat) (v : Word) : (State.pwrSet s o v).hm = s.hm := by unfold State.pwrSet; split <;> simp
@[simp] theorem State.eventSet_hm (s : State) (o : Nat) (v : Word) : (State.eventSet s o v).hm = s.hm := by unfold State.eventSet; split <;> simp
@[simp] theorem State.hostWrites_hm (s : State) (b : Block) (f : State → State) (hf : ∀ s : State, (f s).hm = s.hm) : (State.hostWrites s b f).hm = s.hm := by
  unfold State.hostWrites
  repeat' (first | simp [hf] | intro _ | (refine (hm_foldl _ _ _ (fun _ _ => ?_)).trans ?_) | split | dsimp only)
@[simp] theorem State.badAccess_hm (s : State) (write : Bool) : (State.badAccess s write).hm = s.hm := by simp [State.badAccess]
@[simp] theorem execBar0BadAccess_hm (write : Bool) (s : State) : KeepsHm s (execBar0BadAccess write s) := by simp [execBar0BadAccess]
@[simp] theorem execJournalTailWrite_hm (v : BitVec 32) (s : State) : KeepsHm s (execJournalTailWrite v s) := by simp [execJournalTailWrite]
@[simp] theorem execHostTailWrite_hm (v : BitVec 32) (s : State) : KeepsHm s (execHostTailWrite v s) := by simp [execHostTailWrite]
@[simp] theorem execBar2TargetWrite_hm (v : BitVec 32) (s : State) : KeepsHm s (execBar2TargetWrite v s) := by simp [execBar2TargetWrite]
@[simp] theorem execFreezeWrite_hm (v : BitVec 32) (s : State) : KeepsHm s (execFreezeWrite v s) := by simp [execFreezeWrite]
@[simp] theorem execFreqTargetWrite_hm (v : BitVec 32) (s : State) : KeepsHm s (execFreqTargetWrite v s) := by simp [execFreqTargetWrite]
@[simp] theorem execModeWrite_hm (v : BitVec 32) (s : State) : KeepsHm s (execModeWrite v s) := by simp [execModeWrite]
@[simp] theorem execSlewBudgetWrite_hm (pkg : Bool) (v : BitVec 32) (s : State) : KeepsHm s (execSlewBudgetWrite pkg v s) := by
  simp [execSlewBudgetWrite]

/-! ### Bar2 -/

@[simp] theorem State.bar2Drop_hm (s : State) : (State.bar2Drop s).hm = s.hm := by simp [State.bar2Drop]
@[simp] theorem State.bar2Bytes_hm (s : State) (v : Bar2View) (o n : Nat) (env : MemEnv) : (State.bar2Bytes s v o n env).1.hm = s.hm := by
  unfold State.bar2Bytes; split <;> simp
@[simp] theorem execBar2Read_hm (off : BitVec 36) (len : Nat) (env : MemEnv) (s : State) : KeepsHm s (execBar2Read off len env s) := by
  unfold execBar2Read
  repeat' (first | simp | intro _ | (refine (hm_foldl _ _ _ (fun _ _ => ?_)).trans ?_) | split | dsimp only)
@[simp] theorem execEventIrqTimer_hm (s : State) : KeepsHm s (execEventIrqTimer s) := by
  unfold execEventIrqTimer
  repeat' (first | simp | intro _ | (refine (hm_foldl _ _ _ (fun _ _ => ?_)).trans ?_) | split | dsimp only)

/-! ### Heat -/

@[simp] theorem State.tripShallot_hm (s : State) (n : Nat) (byEstimate : Bool) : (State.tripShallot s n byEstimate).hm = s.hm := by
  simp [State.tripShallot]
@[simp] theorem State.warnShallot_hm (s : State) (n : Nat) : (State.warnShallot s n).hm = s.hm := by simp [State.warnShallot]
@[simp] theorem State.checkShallot_hm (s : State) (n p : Nat) : (State.checkShallot s n p).hm = s.hm := by
  unfold State.checkShallot
  repeat' (first | simp | intro _ | (refine (hm_foldl _ _ _ (fun _ _ => ?_)).trans ?_) | split | dsimp only)
@[simp] theorem State.tripStack_hm (s : State) (h : Nat) (t : Half) : (State.tripStack s h t).hm = s.hm := by
  unfold State.tripStack
  repeat' (first | simp | intro _ | (refine (hm_foldl _ _ _ (fun _ _ => ?_)).trans ?_) | split | dsimp only)
@[simp] theorem State.checkStack_hm (s : State) (h : Nat) : (State.checkStack s h).hm = s.hm := by unfold State.checkStack; split <;> simp
@[simp] theorem State.stackDuties_hm (s : State) : (State.stackDuties s).hm = s.hm := by simp [State.stackDuties]
@[simp] theorem State.dieHot_hm (s : State) (plaza : Nat) (t : Option Half) : (State.dieHot s plaza t).hm = s.hm := by simp [State.dieHot]

/-! ### MewsCmds -/

@[simp] theorem execGetInfo_hm (m : MewsReq) (s : State) : KeepsHm s (execGetInfo m s) := by simp [execGetInfo]
@[simp] theorem execEventRead_hm (m : MewsReq) (s : State) : KeepsHm s (execEventRead m s) := by simp [execEventRead]
@[simp] theorem execEventAck_hm (m : MewsReq) (s : State) : KeepsHm s (execEventAck m s) := by simp [execEventAck]
@[simp] theorem execMapRead_hm (m : MewsReq) (s : State) : KeepsHm s (execMapRead m s) := by simp [execMapRead]
@[simp] theorem execMewsStageWrite_hm (m : MewsReq) (s : State) : KeepsHm s (execMewsStageWrite m s) := by
  unfold execMewsStageWrite
  refine (keepsHm_next _ _).2 (State.mewsRun_hm _ _ _ _ _ (fun s => ?_))
  split
  · simp
  · next h => simp [State.stageBytes_hm h]
@[simp] theorem execTimeSource_hm (m : MewsReq) (s : State) : KeepsHm s (execTimeSource m s) := by simp [execTimeSource]
@[simp] theorem execFreqSet_hm (m : MewsReq) (s : State) : KeepsHm s (execFreqSet m s) := by simp [execFreqSet]
@[simp] theorem execConductorReset_hm (m : MewsReq) (s : State) : KeepsHm s (execConductorReset m s) := by simp [execConductorReset]
@[simp] theorem execMgmtNetSet_hm (m : MewsReq) (s : State) : KeepsHm s (execMgmtNetSet m s) := by simp [execMgmtNetSet]
@[simp] theorem State.markFound_hm (s : State) (w : WireTest) : (s.markFound w).hm = s.hm := by cases w <;> simp [State.markFound]
@[simp] theorem State.logFound_hm (s : State) (w : WireTest) : (s.logFound w).hm = s.hm := by cases w <;> simp [State.logFound]
@[simp] theorem execFieldTest_hm (m : MewsReq) (wires : List WireTest) (waves : List WaveRef) (s : State) : KeepsHm s (execFieldTest m wires waves s) := by
  unfold execFieldTest
  refine (keepsHm_next _ _).2 (State.mewsRun_hm _ _ _ _ _ (fun s => ?_))
  repeat' (first | simp | intro _ | (refine (hm_foldl _ _ _ (fun _ _ => ?_)).trans ?_) | split | dsimp only)
@[simp] theorem State.mctpAnswer_hm (s : State) (port : Nat) (bs : List Byte) : (State.mctpAnswer s port bs).hm = s.hm := by simp [State.mctpAnswer]
@[simp] theorem execMewsMessageTimeout_hm (port : Fin 2) (tag : Fin 8) (s : State) : KeepsHm s (execMewsMessageTimeout port tag s) := by
  simp [execMewsMessageTimeout]
@[simp] theorem execSetEndpointId_hm (port : Fin 2) (op : BitVec 2) (eid : BitVec 8) (s : State) : KeepsHm s (execSetEndpointId port op eid s) := by
  unfold execSetEndpointId; repeat' split
  all_goals simp
@[simp] theorem execGetEndpointId_hm (port : Fin 2) (s : State) : KeepsHm s (execGetEndpointId port s) := by simp [execGetEndpointId]
@[simp] theorem execGetMctpVersionSupport_hm (port : Fin 2) (type : BitVec 8) (s : State) : KeepsHm s (execGetMctpVersionSupport port type s) := by
  simp [execGetMctpVersionSupport]
@[simp] theorem execGetMessageTypeSupport_hm (port : Fin 2) (s : State) : KeepsHm s (execGetMessageTypeSupport port s) := by
  simp [execGetMessageTypeSupport]
@[simp] theorem execGetVendorDefinedMessageSupport_hm (port : Fin 2) (selector : BitVec 8) (s : State) : KeepsHm s (execGetVendorDefinedMessageSupport port selector s) := by simp [execGetVendorDefinedMessageSupport]
@[simp] theorem execI3cAddressAssigned_hm (addr : BitVec 7) (s : State) : KeepsHm s (execI3cAddressAssigned addr s) := by
  simp [execI3cAddressAssigned]

/-! ### PodVec -/

@[simp] theorem execVecAdd_hm (p : PodRef) (v : VecArgs) (s : State) : KeepsHm s (execVecAdd p v s) := by simp [execVecAdd]
@[simp] theorem execVecSub_hm (p : PodRef) (v : VecArgs) (s : State) : KeepsHm s (execVecSub p v s) := by simp [execVecSub]
@[simp] theorem execAdds_hm (p : PodRef) (v : VecArgs) (s : State) : KeepsHm s (execAdds p v s) := by simp [execAdds]
@[simp] theorem execSubs_hm (p : PodRef) (v : VecArgs) (s : State) : KeepsHm s (execSubs p v s) := by simp [execSubs]
@[simp] theorem execMullo_hm (p : PodRef) (v : VecArgs) (s : State) : KeepsHm s (execMullo p v s) := by simp [execMullo]
@[simp] theorem execMulr_hm (p : PodRef) (v : VecArgs) (s : State) : KeepsHm s (execMulr p v s) := by simp [execMulr]
@[simp] theorem execVecScale_hm (p : PodRef) (v : VecArgs) (s : State) : KeepsHm s (execVecScale p v s) := by simp [execVecScale]
@[simp] theorem execShl_hm (p : PodRef) (v : VecArgs) (s : State) : KeepsHm s (execShl p v s) := by simp [execShl]
@[simp] theorem execShr_hm (p : PodRef) (v : VecArgs) (s : State) : KeepsHm s (execShr p v s) := by simp [execShr]
@[simp] theorem execShru_hm (p : PodRef) (v : VecArgs) (s : State) : KeepsHm s (execShru p v s) := by simp [execShru]
@[simp] theorem execVecMin_hm (p : PodRef) (v : VecArgs) (s : State) : KeepsHm s (execVecMin p v s) := by simp [execVecMin]
@[simp] theorem execVecMax_hm (p : PodRef) (v : VecArgs) (s : State) : KeepsHm s (execVecMax p v s) := by simp [execVecMax]
@[simp] theorem execMinu_hm (p : PodRef) (v : VecArgs) (s : State) : KeepsHm s (execMinu p v s) := by simp [execMinu]
@[simp] theorem execMaxu_hm (p : PodRef) (v : VecArgs) (s : State) : KeepsHm s (execMaxu p v s) := by simp [execMaxu]
@[simp] theorem execVecAnd_hm (p : PodRef) (v : VecArgs) (s : State) : KeepsHm s (execVecAnd p v s) := by simp [execVecAnd]
@[simp] theorem execVecOr_hm (p : PodRef) (v : VecArgs) (s : State) : KeepsHm s (execVecOr p v s) := by simp [execVecOr]
@[simp] theorem execVecXor_hm (p : PodRef) (v : VecArgs) (s : State) : KeepsHm s (execVecXor p v s) := by simp [execVecXor]
@[simp] theorem execVecSel_hm (p : PodRef) (v : VecArgs) (s : State) : KeepsHm s (execVecSel p v s) := by simp [execVecSel]
@[simp] theorem execCmpeq_hm (p : PodRef) (v : VecArgs) (s : State) : KeepsHm s (execCmpeq p v s) := by simp [execCmpeq]
@[simp] theorem execCmplt_hm (p : PodRef) (v : VecArgs) (s : State) : KeepsHm s (execCmplt p v s) := by simp [execCmplt]
@[simp] theorem execCmpltu_hm (p : PodRef) (v : VecArgs) (s : State) : KeepsHm s (execCmpltu p v s) := by simp [execCmpltu]
@[simp] theorem execClz_hm (p : PodRef) (v : VecArgs) (s : State) : KeepsHm s (execClz p v s) := by simp [execClz]
@[simp] theorem execWiden_hm (p : PodRef) (v : VecArgs) (s : State) : KeepsHm s (execWiden p v s) := by simp [execWiden]
@[simp] theorem execWidenu_hm (p : PodRef) (v : VecArgs) (s : State) : KeepsHm s (execWidenu p v s) := by simp [execWidenu]
@[simp] theorem execNarrow_hm (p : PodRef) (v : VecArgs) (s : State) : KeepsHm s (execNarrow p v s) := by simp [execNarrow]
@[simp] theorem execFexp2_hm (p : PodRef) (v : VecArgs) (s : State) : KeepsHm s (execFexp2 p v s) := by simp [execFexp2]
@[simp] theorem execFlog2_hm (p : PodRef) (v : VecArgs) (s : State) : KeepsHm s (execFlog2 p v s) := by simp [execFlog2]
@[simp] theorem execFrcp_hm (p : PodRef) (v : VecArgs) (s : State) : KeepsHm s (execFrcp p v s) := by simp [execFrcp]
@[simp] theorem execFrsq_hm (p : PodRef) (v : VecArgs) (s : State) : KeepsHm s (execFrsq p v s) := by simp [execFrsq]
@[simp] theorem execFtanh_hm (p : PodRef) (v : VecArgs) (s : State) : KeepsHm s (execFtanh p v s) := by simp [execFtanh]
@[simp] theorem execFsigm_hm (p : PodRef) (v : VecArgs) (s : State) : KeepsHm s (execFsigm p v s) := by simp [execFsigm]
@[simp] theorem execFsgate_hm (p : PodRef) (v : VecArgs) (s : State) : KeepsHm s (execFsgate p v s) := by simp [execFsgate]
@[simp] theorem execRsum_hm (p : PodRef) (v : VecArgs) (s : State) : KeepsHm s (execRsum p v s) := by simp [execRsum]
@[simp] theorem execRssq_hm (p : PodRef) (v : VecArgs) (s : State) : KeepsHm s (execRssq p v s) := by simp [execRssq]
@[simp] theorem execRmax_hm (p : PodRef) (v : VecArgs) (s : State) : KeepsHm s (execRmax p v s) := by simp [execRmax]
@[simp] theorem execRmin_hm (p : PodRef) (v : VecArgs) (s : State) : KeepsHm s (execRmin p v s) := by simp [execRmin]
@[simp] theorem execGather_hm (p : PodRef) (v : VecArgs) (s : State) : KeepsHm s (execGather p v s) := by simp [execGather]
@[simp] theorem execScatter_hm (p : PodRef) (v : VecArgs) (s : State) : KeepsHm s (execScatter p v s) := by simp [execScatter]
@[simp] theorem execLdk_hm (p : PodRef) (v : VecArgs) (s : State) : KeepsHm s (execLdk p v s) := by simp [execLdk]
@[simp] theorem execZclr_hm (p : PodRef) (v : VecArgs) (s : State) : KeepsHm s (execZclr p v s) := by simp [execZclr]
@[simp] theorem execZout_hm (p : PodRef) (v : VecArgs) (s : State) : KeepsHm s (execZout p v s) := by simp [execZout]
@[simp] theorem execZacc_hm (p : PodRef) (v : VecArgs) (s : State) : KeepsHm s (execZacc p v s) := by simp [execZacc]
@[simp] theorem execZrcp_hm (p : PodRef) (v : VecArgs) (s : State) : KeepsHm s (execZrcp p v s) := by simp [execZrcp]
@[simp] theorem execZrsq_hm (p : PodRef) (v : VecArgs) (s : State) : KeepsHm s (execZrsq p v s) := by simp [execZrsq]
@[simp] theorem execPset_hm (p : PodRef) (v : VecArgs) (s : State) : KeepsHm s (execPset p v s) := by simp [execPset]
@[simp] theorem execPld_hm (p : PodRef) (v : VecArgs) (s : State) : KeepsHm s (execPld p v s) := by simp [execPld]
@[simp] theorem execTopk_hm (p : PodRef) (v : VecArgs) (s : State) : KeepsHm s (execTopk p v s) := by simp [execTopk]
@[simp] theorem execTkmerge_hm (p : PodRef) (v : VecArgs) (s : State) : KeepsHm s (execTkmerge p v s) := by simp [execTkmerge]
@[simp] theorem execTkout_hm (p : PodRef) (v : VecArgs) (s : State) : KeepsHm s (execTkout p v s) := by simp [execTkout]
@[simp] theorem execTkclr_hm (p : PodRef) (v : VecArgs) (s : State) : KeepsHm s (execTkclr p v s) := by simp [execTkclr]
@[simp] theorem execRowsel_hm (p : PodRef) (v : VecArgs) (s : State) : KeepsHm s (execRowsel p v s) := by simp [execRowsel]

/-! ### Secure -/

@[simp] theorem State.sendSession_hm (s : State) (p : HelloPath) (st : Status) (bytes : List Byte) : (State.sendSession s p st bytes).hm = s.hm := by
  unfold State.sendSession
  repeat' (first | simp | intro _ | (refine (hm_foldl _ _ _ (fun _ _ => ?_)).trans ?_) | split | dsimp only)
@[simp] theorem State.refuseSession_hm (s : State) (p : HelloPath) (st : Status) : (State.refuseSession s p st).hm = s.hm := by
  simp [State.refuseSession]
@[simp] theorem State.sendReport_hm (s : State) (w : ReportWait) : (State.sendReport s w).hm = s.hm := by simp [State.sendReport]
@[simp] theorem State.hello_hm (s : State) (w : ReportWait) : (State.hello s w).hm = s.hm := by simp [State.hello]
@[simp] theorem execHello_hm (via : HelloVia) (nonce : List (BitVec 8)) (s : State) : KeepsHm s (execHello via nonce s) := by simp [execHello]
@[simp] theorem execAttest_hm (m : MewsReq) (s : State) : KeepsHm s (execAttest m s) := by simp [execAttest]
@[simp] theorem execCertChain_hm (m : MewsReq) (s : State) : KeepsHm s (execCertChain m s) := by simp [execCertChain]
@[simp] theorem execOfferExpiry_hm (s : State) : KeepsHm s (execOfferExpiry s) := by simp [execOfferExpiry]
@[simp] theorem State.openRefused_hm (s : State) (p : HelloPath) (st : Status) : (State.openRefused s p st).hm = s.hm := by simp [State.openRefused]
@[simp] theorem State.tenantKeys_hm (s : State) : (State.tenantKeys s).hm = s.hm := by
  unfold State.tenantKeys
  repeat' (first | simp | intro _ | (refine (hm_foldl _ _ _ (fun _ _ => ?_)).trans ?_) | split | dsimp only)
@[simp] theorem State.openSession_hm (s : State) (p : HelloPath) (m : OpenMsg) (o : Offer) : (State.openSession s p m o).hm = s.hm := by
  simp [State.openSession]
@[simp] theorem execOpenSession_hm (via : HelloVia) (m : OpenMsg) (s : State) : KeepsHm s (execOpenSession via m s) := by
  unfold execOpenSession
  repeat' (first | simp | intro _ | (refine (hm_foldl _ _ _ (fun _ _ => ?_)).trans ?_) | split | dsimp only)
@[simp] theorem execTrngHealthFail_hm (s : State) : KeepsHm s (execTrngHealthFail s) := by simp [execTrngHealthFail]
@[simp] theorem execKeyUnwrap_hm (p : PlazaNo) (ok : Bool) (s : State) : KeepsHm s (execKeyUnwrap p ok s) := by simp [execKeyUnwrap]
@[simp] theorem execQuorumLapse_hm (s : State) : KeepsHm s (execQuorumLapse s) := by unfold execQuorumLapse; split <;> simp
@[simp] theorem State.changeApplied_hm (s : State) (kind : Nat) : (State.changeApplied s kind).hm = s.hm := by simp [State.changeApplied]
@[simp] theorem State.applyChange_hm (s : State) (c : ChangeBody) : (State.applyChange s c).hm = s.hm := by unfold State.applyChange; split <;> simp
@[simp] theorem State.quorum_hm (s : State) (c : ChangeBody) (d : Digest) : (State.quorum s c d).hm = s.hm := by unfold State.quorum; split <;> simp
@[simp] theorem State.changeRun_hm (s : State) (c : ChangeBody) : (State.changeRun s c).hm = s.hm := by
  unfold State.changeRun
  repeat' (first | simp | intro _ | (refine (hm_foldl _ _ _ (fun _ _ => ?_)).trans ?_) | split | dsimp only)
@[simp] theorem execChangeSubmit_hm (m : MewsReq) (s : State) : KeepsHm s (execChangeSubmit m s) := by unfold execChangeSubmit; split <;> simp
@[simp] theorem execCredSet_hm (m : MewsReq) (s : State) : KeepsHm s (execCredSet m s) := by simp [execCredSet]
@[simp] theorem execFwWrite_hm (m : MewsReq) (s : State) : KeepsHm s (execFwWrite m s) := by simp [execFwWrite]
@[simp] theorem execFwCommit_hm (m : MewsReq) (s : State) : KeepsHm s (execFwCommit m s) := by simp [execFwCommit]
@[simp] theorem State.fwDone_hm (s : State) : (State.fwDone s).hm = s.hm := by simp [State.fwDone]
@[simp] theorem execFwBlockWrite_hm (s : State) : KeepsHm s (execFwBlockWrite s) := by
  unfold execFwBlockWrite
  repeat' (first | simp | intro _ | (refine (hm_foldl _ _ _ (fun _ _ => ?_)).trans ?_) | split | dsimp only)
@[simp] theorem State.sendWaiting_hm (s : State) : (State.sendWaiting s).hm = s.hm := by
  unfold State.sendWaiting
  repeat' (first | simp | intro _ | (refine (hm_foldl _ _ _ (fun _ _ => ?_)).trans ?_) | split | dsimp only)
@[simp] theorem execNvWriteDone_hm (s : State) : KeepsHm s (execNvWriteDone s) := by
  unfold execNvWriteDone
  repeat' (first | simp | intro _ | (refine (hm_foldl _ _ _ (fun _ _ => ?_)).trans ?_) | split | dsimp only)

/-! ### Step -/

@[simp] theorem State.withFetchWord_hm (s : State) (nbits w : Nat) : (State.withFetchWord s nbits w).hm = s.hm := by
  unfold State.withFetchWord; split <;> simp

end Sys2Proof.Machine
end

