-- ==== Sys2Proof/Laws/KeepsForm.lean ====
section
/-! SUPPORT. Which operations keep the canonical form of the memory of the stacks. -/
namespace Sys2Proof.Machine

/-! ### Hbm -/

@[simp] theorem State.putUnit_wf {s : State} (hs : HmWf s.hm) (h u : Nat) (key : Option Nat) (epoch : Bool) (bs : List Byte) : HmWf (State.putUnit s h u key epoch bs).hm := by
  unfold State.putUnit
  rw [hm_mk]
  unfold HmWf State.hm at hs
  unfold HmWf
  exact ⟨memPut_wf hs.1 _ _, Tbl.set_wf hs.2 _ _⟩
@[simp] theorem State.storeUnit_wf {s : State} (hs : HmWf s.hm) (h u : Nat) (session : Bool) (bs : List Byte) : HmWf (State.storeUnit s h u session bs).hm := by simp [State.storeUnit, hs]
@[simp] theorem State.writeUnit_wf {s : State} (hs : HmWf s.hm) (r : Region) (region o : Nat) (at_ : Nat) (bs : List Byte) : HmWf (State.writeUnit s r region o at_ bs).1.hm := by
  unfold State.writeUnit
  repeat' (first | assumption | (simp [hs]; done) | (refine HmWf.foldl _ _ (fun _ _ hs => ?_) ?_) | intro _ | split | simp | dsimp only)
@[simp] theorem State.writeGo_wf {s : State} (hs : HmWf s.hm) (r : Region) (region n o : Nat) (bs : List Byte) : HmWf (s.writeGo r region n o bs).1.hm := by
  induction n generalizing s o bs with
  | zero => exact hs
  | succ n ih =>
    unfold State.writeGo
    split
    · exact hs
    · exact ih (State.writeUnit_wf hs ..) ..
@[simp] theorem State.writeRegion_wf {s : State} (hs : HmWf s.hm) (r : Region) (region o : Nat) (bs : List Byte) : HmWf (State.writeRegion s r region o bs).1.hm := by simp [State.writeRegion, hs]

/-! ### Gate -/

@[simp] theorem State.serveWrite_wf {s : State} (hs : HmWf s.hm) (src h : Nat) (r : Region) (q : ReqFields) (data : List Flit) : HmWf (State.serveWrite s src h r q data).hm := by simp [State.serveWrite, hs]
@[simp] theorem State.atomicUnit_wf {s : State} (hs : HmWf s.hm) (own : Bool) (r : Region) (region o aop : Nat) (old opnd new : List Byte) : HmWf (State.atomicUnit s own r region o aop old opnd new).hm := by
  unfold State.atomicUnit
  dsimp only
  refine State.writeUnit_wf (HmWf.foldl _ _ (fun s c hs => ?_) hs) ..
  split <;> simp [hs]
@[simp] theorem State.atomicUnits_wf {s : State} (hs : HmWf s.hm) (r : Region) (region o aop src : Nat) (env : MemEnv) (opnd new : Nat → List Byte) (l : List Nat) :
    HmWf (s.atomicUnits r region o aop src env opnd new l).1.hm := by
  induction l generalizing s with
  | nil => exact hs
  | cons i l ih =>
    unfold State.atomicUnits
    dsimp only
    refine ih ?_
    split <;> simp [hs]
@[simp] theorem State.countAtomic_hm (s : State) (hs : List Nat) : (State.countAtomic s hs).hm = s.hm := hm_foldl _ _ _ (fun _ _ => by simp)
@[simp] theorem State.applyAtomic_wf {s : State} (hs : HmWf s.hm) (r : Region) (region o aop flits src : Nat) (env : MemEnv) (data : Nat → List Byte) : HmWf (State.applyAtomic s r region o aop flits src env data).1.hm := by simp [State.applyAtomic, hs]
@[simp] theorem State.serveAtomic_wf {s : State} (hs : HmWf s.hm) (src h : Nat) (r : Region) (q : ReqFields) (data : List Flit) (env : MemEnv) : HmWf (State.serveAtomic s src h r q data env).hm := by
  unfold State.serveAtomic
  repeat' (first | assumption | (simp [hs]; done) | (refine HmWf.foldl _ _ (fun _ _ hs => ?_) ?_) | intro _ | split | simp | dsimp only)
@[simp] theorem State.serveReq_wf {s : State} (hs : HmWf s.hm) (src h : Nat) (q : ReqFields) (data : List Flit) (env : MemEnv) : HmWf (State.serveReq s src h q data env).hm := by
  unfold State.serveReq; repeat' split
  all_goals simp [hs]
@[simp] theorem State.gateArrival_wf {s : State} (hs : HmWf s.hm) (src h : Nat) (flits : List RxFlit) (env : MemEnv) (mine : Nat → Bool) : HmWf (State.gateArrival s src h flits env mine).hm := by
  unfold State.gateArrival
  repeat' (first | assumption | (simp [hs]; done) | (refine HmWf.foldl _ _ (fun _ _ hs => ?_) ?_) | intro _ | split | simp | dsimp only)
@[simp] theorem execReqRead_wf (src : PlazaNo) (h : Fin 16) (flits : List RxFlit) (env : MemEnv) {s : State} (hs : HmWf s.hm) : KeepsWf (execReqRead src h flits env s) := by simp [execReqRead, hs]
@[simp] theorem execReqWrite_wf (src : PlazaNo) (h : Fin 16) (flits : List RxFlit) {s : State} (hs : HmWf s.hm) : KeepsWf (execReqWrite src h flits s) := by simp [execReqWrite, hs]
@[simp] theorem execReqAtomic_wf (src : PlazaNo) (h : Fin 16) (flits : List RxFlit) (env : MemEnv) {s : State} (hs : HmWf s.hm) : KeepsWf (execReqAtomic src h flits env s) := by simp [execReqAtomic, hs]
@[simp] theorem execWalkerStep_wf (h : Fin 16) {s : State} (hs : HmWf s.hm) : KeepsWf (execWalkerStep h s) := by
  unfold execWalkerStep
  repeat' (first | assumption | (simp [hs]; done) | (refine HmWf.foldl _ _ (fun _ _ hs => ?_) ?_) | intro _ | split | simp | dsimp only)

/-! ### Journal -/

@[simp] theorem State.ringWrite_wf {s : State} (hs : HmWf s.hm) (count : Nat) (bs : List Byte) : HmWf (State.ringWrite s count bs).hm := by
  unfold State.ringWrite; split <;> simp [hs]
@[simp] theorem State.putRecord_wf {s : State} (hs : HmWf s.hm) (r : JRecord) : HmWf (State.putRecord s r).hm := by simp [State.putRecord, hs]
@[simp] theorem State.wrapRecord_wf {s : State} (hs : HmWf s.hm) (r : JRecord) : HmWf (State.wrapRecord s r).hm := by simp [State.wrapRecord, hs]
@[simp] theorem State.record_wf {s : State} (hs : HmWf s.hm) (r : JRecord) : HmWf (State.record s r).hm := by simp [State.record, hs]
@[simp] theorem State.recordInput_wf {s : State} (hs : HmWf s.hm) (step : Word64) (type source index : Nat) (bs : List Byte) : HmWf (State.recordInput s step type source index bs).hm := by
  unfold State.recordInput
  repeat' (first | assumption | (simp [hs]; done) | (refine HmWf.foldl _ _ (fun _ _ hs => ?_) ?_) | intro _ | split | simp | dsimp only)
@[simp] theorem State.unstall_wf {s : State} (hs : HmWf s.hm) (n : Nat) : HmWf (State.unstall n s).hm := by
  induction n generalizing s with
  | zero => exact hs
  | succ n ih =>
    unfold State.unstall
    split
    · exact hs
    · split
      · refine ih ?_
        simp [hs]
      · exact hs

/-! ### Sched -/

@[simp] theorem State.acceptSched_wf {s : State} (hs : HmWf s.hm) (st : Stream) (r : Region) (p : SchedPkt) : HmWf (State.acceptSched s st r p).hm := by simp [State.acceptSched, hs]
@[simp] theorem execSchedData_wf (p : SchedPkt) {s : State} (hs : HmWf s.hm) : KeepsWf (execSchedData p s) := by
  unfold execSchedData; repeat' split
  all_goals simp [hs]
@[simp] theorem State.admitCall_wf {s : State} (hs : HmWf s.hm) (e : Endpoint) (c : SvcCall) (k i : Nat) (plain : List Byte) : HmWf (State.admitCall s e c k i plain).hm := by unfold State.admitCall; split <;> simp [hs]
@[simp] theorem execServiceCall_wf (c : SvcCall) {s : State} (hs : HmWf s.hm) : KeepsWf (execServiceCall c s) := by
  unfold execServiceCall
  repeat' (first | assumption | (simp [hs]; done) | (refine HmWf.foldl _ _ (fun _ _ hs => ?_) ?_) | intro _ | split | simp | dsimp only)
@[simp] theorem State.emptySlots_wf {s : State} (hs : HmWf s.hm) : HmWf (State.emptySlots s).hm := by
  unfold State.emptySlots
  repeat' (first | assumption | (simp [hs]; done) | (refine HmWf.foldl _ _ (fun _ _ hs => ?_) ?_) | intro _ | split | simp | dsimp only)

/-! ### Reach -/

@[simp] theorem State.applyStore_wf {s : State} (hs : HmWf s.hm) (g src : Nat) (h : ReachHdr) (data : List Byte) (stamp : Option Word64) : HmWf (State.applyStore s g src h data stamp).hm := by
  unfold State.applyStore; repeat' split
  all_goals simp [hs]
@[simp] theorem State.applyAtomicPkt_wf {s : State} (hs : HmWf s.hm) (g src : Nat) (h : ReachHdr) (data : List Byte) (stamp : Option Word64) (env : MemEnv) : HmWf (State.applyAtomicPkt s g src h data stamp env).hm := by
  unfold State.applyAtomicPkt
  repeat' (first | assumption | (simp [hs]; done) | (refine HmWf.foldl _ _ (fun _ _ hs => ?_) ?_) | intro _ | split | simp | dsimp only)
@[simp] theorem State.applyDeps_wf {s : State} (hs : HmWf s.hm) (src engine n : Nat) : HmWf (State.applyDeps src engine n s).hm := by
  induction n generalizing s with
  | zero => exact hs
  | succ n ih =>
    unfold State.applyDeps
    dsimp only
    split
    · exact hs
    · refine ih ?_
      simp [hs]
@[simp] theorem State.settleDeps_wf {s : State} (hs : HmWf s.hm) (src : Nat) (h : ReachHdr) : HmWf (State.settleDeps s src h).hm := by simp [State.settleDeps, hs]
@[simp] theorem State.reachTaken_wf {s : State} (hs : HmWf s.hm) (g src : Nat) (h : ReachHdr) : HmWf (State.reachTaken s g src h).hm := by simp [State.reachTaken, hs]
@[simp] theorem State.acceptLoad_wf {s : State} (hs : HmWf s.hm) (g src : Nat) (r : Region) (h : ReachHdr) (env : MemEnv) : HmWf (State.acceptLoad s g src r h env).hm := by
  unfold State.acceptLoad; split
  · simp [hs]
  · refine State.reachTaken_wf ?_ _ _ _
    split <;> simp [hs]
@[simp] theorem State.applyOrWait_wf {s : State} (hs : HmWf s.hm) (g src : Nat) (h : ReachHdr) (data : List Byte) (stamp : Option Word64) (env : MemEnv) : HmWf (State.applyOrWait s g src h data stamp env).hm := by simp [State.applyOrWait, hs]
@[simp] theorem State.applyStampsGw_wf {s : State} (hs : HmWf s.hm) (g : Nat) : HmWf (State.applyStampsGw s g).hm := by
  unfold State.applyStampsGw
  repeat' (first | assumption | (simp [hs]; done) | (refine HmWf.foldl _ _ (fun _ _ hs => ?_) ?_) | intro _ | split | simp | dsimp only)
@[simp] theorem State.applyStamps_wf {s : State} (hs : HmWf s.hm) : HmWf (State.applyStamps s).hm := by simp [State.applyStamps, hs]
@[simp] theorem State.acceptWrite_wf {s : State} (hs : HmWf s.hm) (g src : Nat) (r : Region) (h : ReachHdr) (data : List Byte) (env : MemEnv) : HmWf (State.acceptWrite s g src r h data env).hm := by
  unfold State.acceptWrite; repeat' split
  all_goals simp [hs]
@[simp] theorem State.reachRequest_wf {s : State} (hs : HmWf s.hm) (g src : Nat) (h : ReachHdr) (data : List Byte) (env : MemEnv) : HmWf (State.reachRequest s g src h data env).hm := by unfold State.reachRequest; split <;> simp [hs]
@[simp] theorem execReachLoad_wf (p : ReachIn) (env : MemEnv) {s : State} (hs : HmWf s.hm) : KeepsWf (execReachLoad p env s) := by
  simp [execReachLoad, hs]
@[simp] theorem execReachStore_wf (p : ReachIn) {s : State} (hs : HmWf s.hm) : KeepsWf (execReachStore p s) := by simp [execReachStore, hs]
@[simp] theorem execReachAtomic_wf (p : ReachIn) (env : MemEnv) {s : State} (hs : HmWf s.hm) : KeepsWf (execReachAtomic p env s) := by
  simp [execReachAtomic, hs]

/-! ### ReachSrc -/

theorem State.replyIn_wf {s : State} (hs : HmWf s.hm) (p : ReachIn) (op : Nat) (run : State → State) (hr : ∀ s, HmWf s.hm → HmWf (run s).hm) : HmWf (State.replyIn s p op run).hm := by
  unfold State.replyIn
  repeat' (first | assumption | (simp [hs]; done) | (refine hr _ ?_) | (refine hr _ _ ?_) | split | simp | dsimp only)
@[simp] theorem execLoadReply_wf (p : ReachIn) {s : State} (hs : HmWf s.hm) : KeepsWf (execLoadReply p s) := by
  unfold execLoadReply
  refine (keepsWf_next _).2 (State.replyIn_wf hs _ _ _ (fun s hs => ?_))
  repeat' (first | assumption | (simp [hs]; done) | (refine HmWf.foldl _ _ (fun _ _ hs => ?_) ?_) | split | dsimp only)

/-! ### HostCmd -/

theorem State.command_wf {s : State} (hs : HmWf s.hm) (c : RunningCmd) (k : CmdCheck) (run : State → State) (hr : ∀ s, HmWf s.hm → HmWf (run s).hm) : HmWf (State.command s c k run).hm := by
  unfold State.command
  repeat' (first | assumption | (simp [hs]; done) | (refine hr _ ?_) | (refine hr _ _ ?_) | split | simp | dsimp only)
theorem State.hostCommand_wf {s : State} (hs : HmWf s.hm) (op : Nat) (a : List Word) (run : State → RunningCmd → State) (hr : ∀ s c, HmWf s.hm → HmWf (run s c).hm) : HmWf (State.hostCommand s op a run).hm := by
  unfold State.hostCommand
  repeat' (first | assumption | (simp [hs]; done) | (refine hr _ ?_) | (refine hr _ _ ?_) | split | simp | dsimp only)

/-! ### Windows -/

@[simp] theorem State.windowTaken_wf {s : State} (hs : HmWf s.hm) (x : Window) : HmWf (State.windowTaken s x).hm := by simp [State.windowTaken, hs]
@[simp] theorem State.takeWindow_wf {s : State} (hs : HmWf s.hm) (x : Window) (bs : List Byte) : HmWf (State.takeWindow s x bs).hm := by
  have h : ∀ u : State, HmWf u.hm → HmWf (if u.seq.stalled.isEmpty then u.windowTaken x
      else { u with seq := { u.seq with heldActs := u.seq.heldActs ++ [.window x.num] } }).hm := by
    intro u hu; split <;> simp [hu]
  unfold State.takeWindow
  refine h _ ?_
  split <;> simp [hs]
@[simp] theorem execInputWindowPullDone_wf (w : Fin 64) (data header : List (BitVec 8)) (tags : List (BitVec 64)) {s : State} (hs : HmWf s.hm) : KeepsWf (execInputWindowPullDone w data header tags s) := by
  unfold execInputWindowPullDone; repeat' split
  all_goals simp [hs]

/-! ### Run -/

@[simp] theorem State.cmdStart_wf {s : State} (hs : HmWf s.hm) (c : RunningCmd) : HmWf (State.cmdStart s c).hm := by
  unfold State.cmdStart
  refine State.command_wf hs _ _ _ (fun s hs => ?_)
  dsimp only
  split
  · simp [hs]
  · have h : HmWf (({ (((s.runSeed c.args).1).newRun (s.runSeed c.args).2 (BitVec.ofNat 64 (argPair c.args 1))) with host := { (((s.runSeed c.args).1).newRun (s.runSeed c.args).2 (BitVec.ofNat 64 (argPair c.args 1))).host with windows := {} } } : State).imageWindows false |>.foldl State.zeroWindow { (((s.runSeed c.args).1).newRun (s.runSeed c.args).2 (BitVec.ofNat 64 (argPair c.args 1))) with host := { (((s.runSeed c.args).1).newRun (s.runSeed c.args).2 (BitVec.ofNat 64 (argPair c.args 1))).host with windows := {} } }).hm := HmWf.foldl _ _ (fun _ _ hs => by simp [hs]) (by simp [hs])
    split <;> simp [h]
@[simp] theorem execStart_wf (a : List (BitVec 32)) {s : State} (hs : HmWf s.hm) : KeepsWf (execStart a s) := by
  unfold execStart
  exact (keepsWf_next _).2 (State.hostCommand_wf hs _ _ _ (fun s c hs => State.cmdStart_wf hs c))

/-! ### StepStart -/

@[simp] theorem State.replayWrite_wf {s : State} (hs : HmWf s.hm) (region off : Nat) (bs : List Byte) : HmWf (State.replayWrite s region off bs).hm := by unfold State.replayWrite; split <;> simp [hs]
@[simp] theorem State.replayCall_wf {s : State} (hs : HmWf s.hm) (r : JRecord) : HmWf (State.replayCall s r).hm := by
  unfold State.replayCall; split <;> simp [hs]
@[simp] theorem State.replayInput_wf {s : State} (hs : HmWf s.hm) (r : JRecord) : HmWf (State.replayInput s r).hm := by
  unfold State.replayInput
  repeat' (first | assumption | (simp [hs]; done) | (refine HmWf.foldl _ _ (fun _ _ hs => ?_) ?_) | intro _ | split | simp | dsimp only)
@[simp] theorem State.replayInputs_wf {s : State} (hs : HmWf s.hm) : HmWf (State.replayInputs s).hm := by
  unfold State.replayInputs
  repeat' (first | assumption | (simp [hs]; done) | (refine HmWf.foldl _ _ (fun _ _ hs => ?_) ?_) | intro _ | split | simp | dsimp only)
@[simp] theorem State.beginExec_wf {s : State} (hs : HmWf s.hm) (skew : Word) : HmWf (State.beginExec s skew).hm := by
  unfold State.beginExec
  dsimp only
  split <;> simp [hs]
@[simp] theorem execStepStart_wf (skew : BitVec 32) {s : State} (hs : HmWf s.hm) : KeepsWf (execStepStart skew s) := by
  unfold execStepStart; repeat' split
  all_goals simp [hs]

/-! ### Commit -/

@[simp] theorem State.writeRecords_wf {s : State} (hs : HmWf s.hm) (rs : List JRecord) : HmWf (State.writeRecords s rs).hm := by
  unfold State.writeRecords
  repeat' (first | assumption | (simp [hs]; done) | (refine HmWf.foldl _ _ (fun _ _ hs => ?_) ?_) | intro _ | split | simp | dsimp only)
@[simp] theorem State.beginCommit_wf {s : State} (hs : HmWf s.hm) (out : List Byte) : HmWf (State.beginCommit s out).hm := by
  simp [State.beginCommit, hs]
@[simp] theorem State.decideEnd_wf {s : State} (hs : HmWf s.hm) : HmWf (State.decideEnd s).hm := by
  unfold State.decideEnd
  dsimp only
  split
  · simp [hs]
  · split
    · simp [hs]
    · split
      · simp [hs]
      · have h := State.outputBytes_hm s.twinDecision.1 (s.twinDecision.1.activeWindows true)
        split
        · next e => rw [e] at h; exact State.beginCommit_wf (by simp_all) _
        · next e => rw [e] at h; simp_all
@[simp] theorem execDrainComplete_wf (twins : List TwinReport) {s : State} (hs : HmWf s.hm) : KeepsWf (execDrainComplete twins s) := by
  unfold execDrainComplete
  repeat' (first | assumption | (simp [hs]; done) | (refine HmWf.foldl _ _ (fun _ _ hs => ?_) ?_) | intro _ | split | simp | dsimp only)
@[simp] theorem State.undoOne_wf {s : State} (hs : HmWf s.hm) (h : Nat) (e : UndoEntry) : HmWf (State.undoOne s h e).hm := by
  unfold State.undoOne
  repeat' (first | assumption | (simp [hs]; done) | (refine HmWf.foldl _ _ (fun _ _ hs => ?_) ?_) | intro _ | split | simp | dsimp only)
@[simp] theorem State.undoStack_wf {s : State} (hs : HmWf s.hm) (h : Nat) : HmWf (State.undoStack s h).hm := by
  unfold State.undoStack
  repeat' (first | assumption | (simp [hs]; done) | (refine HmWf.foldl _ _ (fun _ _ hs => ?_) ?_) | intro _ | split | simp | dsimp only)
@[simp] theorem State.restoreAll_wf {s : State} (hs : HmWf s.hm) : HmWf (State.restoreAll s).hm := by
  unfold State.restoreAll
  dsimp only
  rw [hm_mk, hm_fold]
  refine HmWf.foldl _ _ (fun s h hs => State.undoStack_wf hs h) ?_
  refine HmWf.foldl _ _ (fun s _ hs => ?_) ?_
  · simp [hs]
  · simp [hs]
@[simp] theorem State.failedEnd_wf {s : State} (hs : HmWf s.hm) : HmWf (State.failedEnd s).hm := by
  unfold State.failedEnd
  dsimp only
  simp [hs]
@[simp] theorem State.heldAct_wf {s : State} (hs : HmWf s.hm) (a : HeldAct) : HmWf (State.heldAct s a).hm := by
  unfold State.heldAct; repeat' split
  all_goals simp [hs]
@[simp] theorem State.runHeld_wf {s : State} (hs : HmWf s.hm) : HmWf (State.runHeld s).hm := by
  unfold State.runHeld; split
  · refine HmWf.foldl _ _ (fun _ _ hs => State.heldAct_wf hs _) ?_
    simp [hs]
  · exact hs
@[simp] theorem execJournalStallResume_wf {s : State} (hs : HmWf s.hm) : KeepsWf (execJournalStallResume s) := by
  unfold execJournalStallResume; split <;> simp [hs]
@[simp] theorem State.stepFailed_wf {s : State} (hs : HmWf s.hm) : HmWf (State.stepFailed s).hm := by
  unfold State.stepFailed
  dsimp only
  simp [hs]
@[simp] theorem execRestoreDone_wf {s : State} (hs : HmWf s.hm) : KeepsWf (execRestoreDone s) := by
  unfold execRestoreDone; repeat' split
  all_goals simp [hs]
@[simp] theorem execCommitComplete_wf {s : State} (hs : HmWf s.hm) : KeepsWf (execCommitComplete s) := by
  unfold execCommitComplete
  repeat' (first | assumption | (simp [hs]; done) | (refine HmWf.foldl _ _ (fun _ _ hs => ?_) ?_) | intro _ | split | simp | dsimp only)

/-! ### Mews -/

theorem State.mewsReceive_wf {s : State} (hs : HmWf s.hm) (o : MewsOp) (r : MewsReq) (run : State → State) (hr : ∀ s, HmWf s.hm → HmWf (run s).hm) : HmWf (State.mewsReceive s o r run).hm := by
  unfold State.mewsReceive
  repeat' (first | assumption | (simp [hs]; done) | (refine hr _ ?_) | (refine hr _ _ ?_) | split | simp | dsimp only)
theorem State.mewsServe_wf {s : State} (hs : HmWf s.hm) (o : MewsOp) (r : MewsReq) (bad : Bool) (run : State → State) (hr : ∀ s, HmWf s.hm → HmWf (run s).hm) : HmWf (State.mewsServe s o r bad run).hm := by
  unfold State.mewsServe
  refine State.mewsReceive_wf hs _ _ _ (fun s hs => ?_)
  split
  · simp [hs]
  · split
    · simp [hs]
    · exact hr _ hs

/-! ### Reset -/

@[simp] theorem State.loseAll_wf (s : State) : HmWf (s.loseAll).hm := by
  unfold State.loseAll; simp
@[simp] theorem State.packageReset_wf (s : State) : HmWf (s.packageReset).hm := by
  unfold State.packageReset; simp
@[simp] theorem execPkgRstAssert_wf {s : State} (hs : HmWf s.hm) : KeepsWf (execPkgRstAssert s) := by unfold execPkgRstAssert; split <;> simp [hs]
@[simp] theorem State.aonLost_wf {s : State} (hs : HmWf s.hm) (io : Bool) : HmWf (State.aonLost s io).hm := by simp [State.aonLost, hs]
@[simp] theorem execVddAonLoss_wf (io : Bool) {s : State} (hs : HmWf s.hm) : KeepsWf (execVddAonLoss io s) := by simp [execVddAonLoss, hs]
@[simp] theorem State.railsOff_wf {s : State} (hs : HmWf s.hm) : HmWf (State.railsOff s).hm := by simp [State.railsOff, hs]
@[simp] theorem execParkComplete_wf {s : State} (hs : HmWf s.hm) : KeepsWf (execParkComplete s) := by unfold execParkComplete; split <;> simp [hs]
@[simp] theorem State.dieTrip_wf {s : State} (hs : HmWf s.hm) : HmWf (State.dieTrip s).hm := by simp [State.dieTrip, hs]

/-! ### ResetCmd -/

@[simp] theorem State.resetPackage_wf {s : State} (hs : HmWf s.hm) (c : RunningCmd) (port : Nat) : HmWf (State.resetPackage s c port).hm := by
  simp [State.resetPackage, hs]
@[simp] theorem State.resetBody_wf {s : State} (hs : HmWf s.hm) (b : List Byte) : HmWf (State.resetBody s b).hm := by
  unfold State.resetBody; repeat' split
  all_goals simp [hs]
@[simp] theorem State.mewsReset_wf {s : State} (hs : HmWf s.hm) (r : MewsReq) : HmWf (State.mewsReset s r).hm := by
  unfold State.mewsReset
  refine State.mewsReceive_wf hs _ _ _ (fun s hs => ?_)
  dsimp only
  generalize hu : (if s.resetRuns && s.shallotResets && !resetBad r.body && decide (bodyAt r.body 0 ≤ 1) then s.dropShallotReset else s) = u
  have hv : HmWf u.hm := by rw [← hu]; split <;> simp [hs]
  split
  · simp [hv]
  · split <;> simp [hv]
@[simp] theorem execPackageReset_wf (m : MewsReq) {s : State} (hs : HmWf s.hm) : KeepsWf (execPackageReset m s) := by simp [execPackageReset, hs]
@[simp] theorem execPlazaReset_wf (m : MewsReq) {s : State} (hs : HmWf s.hm) : KeepsWf (execPlazaReset m s) := by simp [execPlazaReset, hs]
@[simp] theorem execShallotReset_wf (m : MewsReq) {s : State} (hs : HmWf s.hm) : KeepsWf (execShallotReset m s) := by simp [execShallotReset, hs]

/-! ### HostRun -/

@[simp] theorem State.runOpcode_wf {s : State} (hs : HmWf s.hm) (c : RunningCmd) : HmWf (State.runOpcode s c).hm := by
  unfold State.runOpcode; split <;> simp [hs]
@[simp] theorem State.mewsHostCommand_wf {s : State} (hs : HmWf s.hm) (r : MewsReq) : HmWf (State.mewsHostCommand s r).hm := by
  unfold State.mewsHostCommand
  refine State.mewsReceive_wf hs _ _ _ (fun s hs => ?_)
  repeat' (first | assumption | (simp [hs]; done) | (refine HmWf.foldl _ _ (fun _ _ hs => ?_) ?_) | split | dsimp only)
@[simp] theorem execHostCommand_wf (m : MewsReq) {s : State} (hs : HmWf s.hm) : KeepsWf (execHostCommand m s) := by simp [execHostCommand, hs]
@[simp] theorem execUnpark_wf (m : MewsReq) {s : State} (hs : HmWf s.hm) : KeepsWf (execUnpark m s) := by simp [execUnpark, hs]
@[simp] theorem execUnknownCommand_wf (c : UnknownCmd) {s : State} (hs : HmWf s.hm) : KeepsWf (execUnknownCommand c s) := by
  unfold execUnknownCommand
  split
  · exact (keepsWf_next _).2 (State.hostCommand_wf hs _ _ _ (fun s c hs => State.runOpcode_wf hs c))
  · split
    · simp [hs]
    · exact (keepsWf_next _).2 (State.mewsReceive_wf hs _ _ _ (fun s hs => by simp [hs]))

/-! ### RegWrite -/

@[simp] theorem State.commandGo_wf {s : State} (hs : HmWf s.hm) (v : Word) : HmWf (State.commandGo s v).hm := by simp [State.commandGo, hs]
@[simp] theorem State.hostSet_wf {s : State} (hs : HmWf s.hm) (o : Nat) (v : Word) : HmWf (State.hostSet s o v).hm := by
  unfold State.hostSet; repeat' split
  all_goals simp [hs]
@[simp] theorem State.blockSet_wf {s : State} (hs : HmWf s.hm) (b : Block) (o : Nat) (v : Word) : HmWf (State.blockSet s b o v).hm := by
  unfold State.blockSet; split <;> simp [hs]
@[simp] theorem State.regWrite_wf {s : State} (hs : HmWf s.hm) (o : Nat) (v : Word) : HmWf (State.regWrite s o v).hm := by
  unfold State.regWrite; split <;> simp [hs]
theorem State.hostWrites_wf {s : State} (hs : HmWf s.hm) (b : Block) (run : State → State) (hr : ∀ s, HmWf s.hm → HmWf (run s).hm) : HmWf (State.hostWrites s b run).hm := by
  unfold State.hostWrites
  repeat' (first | assumption | (simp [hs]; done) | (refine hr _ ?_) | (refine hr _ _ ?_) | split | simp | dsimp only)
@[simp] theorem execRegisterWrite_wf (off : BitVec 26) (v : BitVec 32) (hi : Option (BitVec 32)) {s : State} (hs : HmWf s.hm) : KeepsWf (execRegisterWrite off v hi s) := by
  unfold execRegisterWrite; repeat' split
  all_goals simp [hs]

/-! ### Bar2 -/

@[simp] theorem State.bar2Region_wf {s : State} (hs : HmWf s.hm) (r : Region) (k n o : Nat) (bs : List Byte) : HmWf (State.bar2Region r k n o bs s).hm := by
  induction n generalizing s o bs with
  | zero => exact hs
  | succ n ih =>
    unfold State.bar2Region
    split
    · exact hs
    · refine ih ?_ _ _
      split <;> simp [hs]
@[simp] theorem State.bar2Apply_wf {s : State} (hs : HmWf s.hm) (v : Bar2View) (o : Nat) (bs : List Byte) : HmWf (State.bar2Apply s v o bs).hm := by
  unfold State.bar2Apply; split <;> simp [hs]
@[simp] theorem execBar2Write_wf (off : BitVec 36) (data : List (BitVec 8)) {s : State} (hs : HmWf s.hm) : KeepsWf (execBar2Write off data s) := by
  unfold execBar2Write; split <;> simp [hs]

/-! ### Staging over Reach -/

theorem State.stageRequest_wf {s : State} (hs : HmWf s.hm) (p : ReachIn) (op : Nat) (f : State → ReachHdr → State)
    (hf : ∀ (s : State) (h : ReachHdr), HmWf s.hm → HmWf (f s h).hm) : HmWf (State.stageRequest s p op f).hm := by
  unfold State.stageRequest
  repeat' (first | (refine hf _ _ ?_) | (simp [hs]; done) | split | dsimp only)
@[simp] theorem execStageWrite_wf (p : ReachIn) {s : State} (hs : HmWf s.hm) : KeepsWf (execStageWrite p s) := by
  unfold execStageWrite
  refine (keepsWf_next _).2 (State.stageRequest_wf hs _ _ _ (fun s h hs => ?_))
  split
  · simp [hs]
  · next t ht => simp [State.stageBytes_hm ht, hs]
@[simp] theorem execStageLoad_wf (p : ReachIn) (ue : Option StagedUe) {s : State} (hs : HmWf s.hm) : KeepsWf (execStageLoad p ue s) := by
  unfold execStageLoad
  refine (keepsWf_next _).2 (State.stageRequest_wf hs _ _ _ (fun s h hs => ?_))
  simp [hs]

/-! ### Heat -/

@[simp] theorem State.railFault_wf {s : State} (hs : HmWf s.hm) (rail : Nat) : HmWf (State.railFault s rail).hm := by simp [State.railFault, hs]
@[simp] theorem execRailCheck_wf (rail : Fin 19) (mv amps : BitVec 16) {s : State} (hs : HmWf s.hm) : KeepsWf (execRailCheck rail mv amps s) := by
  unfold execRailCheck
  repeat' (first | assumption | (simp [hs]; done) | (refine HmWf.foldl _ _ (fun _ _ hs => ?_) ?_) | intro _ | split | simp | dsimp only)
@[simp] theorem State.managementHot_wf {s : State} (hs : HmWf s.hm) : HmWf (State.managementHot s).hm := by simp [State.managementHot, hs]
@[simp] theorem execThermalCheck_wf (activity : List Activity) (boulevard : Option (BitVec 16)) {s : State} (hs : HmWf s.hm) : KeepsWf (execThermalCheck activity boulevard s) := by
  unfold execThermalCheck
  dsimp only
  rw [keepsWf_next]
  refine State.managementHot_wf ?_
  split
  · rw [State.dieHot_hm, hm_foldl _ _ _ (fun _ _ => State.dieHot_hm ..), State.stackDuties_hm, hm_foldl _ _ _ (fun _ _ => State.checkStack_hm ..), hm_foldl _ _ _ (fun _ _ => State.checkShallot_hm ..)]
    exact hs
  · exact hs

/-! ### MewsCmds -/

@[simp] theorem execRegRead_wf (m : MewsReq) {s : State} (hs : HmWf s.hm) : KeepsWf (execRegRead m s) := by simp [execRegRead, hs]
@[simp] theorem execMapAck_wf (m : MewsReq) {s : State} (hs : HmWf s.hm) : KeepsWf (execMapAck m s) := by
  unfold execMapAck
  refine (keepsWf_next _).2 (State.mewsServe_wf hs _ _ _ _ (fun s hs => ?_))
  simp [hs]

end Sys2Proof.Machine
end

