-- ==== Sys2Proof/Laws/State.lean ====
section
/-! SUPPORT. What each update of a part of the state leaves alone, one field at a time, and what it changes. -/
namespace Sys2Proof.Machine

/-! ### modSh -/

@[simp] theorem State.modSh_top (s : State) (n : Nat) (f : Shallot → Shallot) : (s.modSh n f).top = s.top := rfl
@[simp] theorem State.modSh_host (s : State) (n : Nat) (f : Shallot → Shallot) : (s.modSh n f).host = s.host := rfl
@[simp] theorem State.modSh_ev (s : State) (n : Nat) (f : Shallot → Shallot) : (s.modSh n f).ev = s.ev := rfl
@[simp] theorem State.modSh_seq (s : State) (n : Nat) (f : Shallot → Shallot) : (s.modSh n f).seq = s.seq := rfl
@[simp] theorem State.modSh_img (s : State) (n : Nat) (f : Shallot → Shallot) : (s.modSh n f).img = s.img := rfl
@[simp] theorem State.modSh_mem (s : State) (n : Nat) (f : Shallot → Shallot) : (s.modSh n f).mem = s.mem := rfl
@[simp] theorem State.modSh_hbm (s : State) (n : Nat) (f : Shallot → Shallot) : (s.modSh n f).hbm = s.hbm := rfl
@[simp] theorem State.modSh_tags (s : State) (n : Nat) (f : Shallot → Shallot) : (s.modSh n f).tags = s.tags := rfl
@[simp] theorem State.modSh_net (s : State) (n : Nat) (f : Shallot → Shallot) : (s.modSh n f).net = s.net := rfl
@[simp] theorem State.modSh_blv (s : State) (n : Nat) (f : Shallot → Shallot) : (s.modSh n f).blv = s.blv := rfl
@[simp] theorem State.modSh_lamp (s : State) (n : Nat) (f : Shallot → Shallot) : (s.modSh n f).lamp = s.lamp := rfl
@[simp] theorem State.modSh_cond (s : State) (n : Nat) (f : Shallot → Shallot) : (s.modSh n f).cond = s.cond := rfl
@[simp] theorem State.modSh_sec (s : State) (n : Nat) (f : Shallot → Shallot) : (s.modSh n f).sec = s.sec := rfl
@[simp] theorem State.modSh_mews (s : State) (n : Nat) (f : Shallot → Shallot) : (s.modSh n f).mews = s.mews := rfl
@[simp] theorem State.modSh_pp (s : State) (n : Nat) (f : Shallot → Shallot) : (s.modSh n f).pp = s.pp := rfl
@[simp] theorem State.modSh_out (s : State) (n : Nat) (f : Shallot → Shallot) : (s.modSh n f).out = s.out := rfl
@[simp] theorem State.modSh_free (s : State) (n : Nat) (f : Shallot → Shallot) : (s.modSh n f).free = s.free := rfl
@[simp] theorem State.modSh_pending (s : State) (n : Nat) (f : Shallot → Shallot) : (s.modSh n f).pending = s.pending := rfl

/-! ### modPod -/

@[simp] theorem State.modPod_top (s : State) (n p : Nat) (f : Pod → Pod) : (s.modPod n p f).top = s.top := rfl
@[simp] theorem State.modPod_host (s : State) (n p : Nat) (f : Pod → Pod) : (s.modPod n p f).host = s.host := rfl
@[simp] theorem State.modPod_ev (s : State) (n p : Nat) (f : Pod → Pod) : (s.modPod n p f).ev = s.ev := rfl
@[simp] theorem State.modPod_seq (s : State) (n p : Nat) (f : Pod → Pod) : (s.modPod n p f).seq = s.seq := rfl
@[simp] theorem State.modPod_img (s : State) (n p : Nat) (f : Pod → Pod) : (s.modPod n p f).img = s.img := rfl
@[simp] theorem State.modPod_mem (s : State) (n p : Nat) (f : Pod → Pod) : (s.modPod n p f).mem = s.mem := rfl
@[simp] theorem State.modPod_hbm (s : State) (n p : Nat) (f : Pod → Pod) : (s.modPod n p f).hbm = s.hbm := rfl
@[simp] theorem State.modPod_tags (s : State) (n p : Nat) (f : Pod → Pod) : (s.modPod n p f).tags = s.tags := rfl
@[simp] theorem State.modPod_net (s : State) (n p : Nat) (f : Pod → Pod) : (s.modPod n p f).net = s.net := rfl
@[simp] theorem State.modPod_blv (s : State) (n p : Nat) (f : Pod → Pod) : (s.modPod n p f).blv = s.blv := rfl
@[simp] theorem State.modPod_lamp (s : State) (n p : Nat) (f : Pod → Pod) : (s.modPod n p f).lamp = s.lamp := rfl
@[simp] theorem State.modPod_cond (s : State) (n p : Nat) (f : Pod → Pod) : (s.modPod n p f).cond = s.cond := rfl
@[simp] theorem State.modPod_sec (s : State) (n p : Nat) (f : Pod → Pod) : (s.modPod n p f).sec = s.sec := rfl
@[simp] theorem State.modPod_mews (s : State) (n p : Nat) (f : Pod → Pod) : (s.modPod n p f).mews = s.mews := rfl
@[simp] theorem State.modPod_pp (s : State) (n p : Nat) (f : Pod → Pod) : (s.modPod n p f).pp = s.pp := rfl
@[simp] theorem State.modPod_out (s : State) (n p : Nat) (f : Pod → Pod) : (s.modPod n p f).out = s.out := rfl
@[simp] theorem State.modPod_free (s : State) (n p : Nat) (f : Pod → Pod) : (s.modPod n p f).free = s.free := rfl
@[simp] theorem State.modPod_pending (s : State) (n p : Nat) (f : Pod → Pod) : (s.modPod n p f).pending = s.pending := rfl

/-! ### modMem -/

@[simp] theorem State.modMem_top (s : State) (h : Nat) (f : Stack → Stack) : (s.modMem h f).top = s.top := rfl
@[simp] theorem State.modMem_host (s : State) (h : Nat) (f : Stack → Stack) : (s.modMem h f).host = s.host := rfl
@[simp] theorem State.modMem_ev (s : State) (h : Nat) (f : Stack → Stack) : (s.modMem h f).ev = s.ev := rfl
@[simp] theorem State.modMem_seq (s : State) (h : Nat) (f : Stack → Stack) : (s.modMem h f).seq = s.seq := rfl
@[simp] theorem State.modMem_sh (s : State) (h : Nat) (f : Stack → Stack) : (s.modMem h f).sh = s.sh := rfl
@[simp] theorem State.modMem_img (s : State) (h : Nat) (f : Stack → Stack) : (s.modMem h f).img = s.img := rfl
@[simp] theorem State.modMem_hbm (s : State) (h : Nat) (f : Stack → Stack) : (s.modMem h f).hbm = s.hbm := rfl
@[simp] theorem State.modMem_tags (s : State) (h : Nat) (f : Stack → Stack) : (s.modMem h f).tags = s.tags := rfl
@[simp] theorem State.modMem_net (s : State) (h : Nat) (f : Stack → Stack) : (s.modMem h f).net = s.net := rfl
@[simp] theorem State.modMem_blv (s : State) (h : Nat) (f : Stack → Stack) : (s.modMem h f).blv = s.blv := rfl
@[simp] theorem State.modMem_lamp (s : State) (h : Nat) (f : Stack → Stack) : (s.modMem h f).lamp = s.lamp := rfl
@[simp] theorem State.modMem_cond (s : State) (h : Nat) (f : Stack → Stack) : (s.modMem h f).cond = s.cond := rfl
@[simp] theorem State.modMem_sec (s : State) (h : Nat) (f : Stack → Stack) : (s.modMem h f).sec = s.sec := rfl
@[simp] theorem State.modMem_mews (s : State) (h : Nat) (f : Stack → Stack) : (s.modMem h f).mews = s.mews := rfl
@[simp] theorem State.modMem_pp (s : State) (h : Nat) (f : Stack → Stack) : (s.modMem h f).pp = s.pp := rfl
@[simp] theorem State.modMem_out (s : State) (h : Nat) (f : Stack → Stack) : (s.modMem h f).out = s.out := rfl
@[simp] theorem State.modMem_free (s : State) (h : Nat) (f : Stack → Stack) : (s.modMem h f).free = s.free := rfl
@[simp] theorem State.modMem_pending (s : State) (h : Nat) (f : Stack → Stack) : (s.modMem h f).pending = s.pending := rfl

/-! ### modGw -/

@[simp] theorem State.modGw_top (s : State) (g : Nat) (f : Gateway → Gateway) : (s.modGw g f).top = s.top := rfl
@[simp] theorem State.modGw_host (s : State) (g : Nat) (f : Gateway → Gateway) : (s.modGw g f).host = s.host := rfl
@[simp] theorem State.modGw_ev (s : State) (g : Nat) (f : Gateway → Gateway) : (s.modGw g f).ev = s.ev := rfl
@[simp] theorem State.modGw_seq (s : State) (g : Nat) (f : Gateway → Gateway) : (s.modGw g f).seq = s.seq := rfl
@[simp] theorem State.modGw_sh (s : State) (g : Nat) (f : Gateway → Gateway) : (s.modGw g f).sh = s.sh := rfl
@[simp] theorem State.modGw_img (s : State) (g : Nat) (f : Gateway → Gateway) : (s.modGw g f).img = s.img := rfl
@[simp] theorem State.modGw_mem (s : State) (g : Nat) (f : Gateway → Gateway) : (s.modGw g f).mem = s.mem := rfl
@[simp] theorem State.modGw_hbm (s : State) (g : Nat) (f : Gateway → Gateway) : (s.modGw g f).hbm = s.hbm := rfl
@[simp] theorem State.modGw_tags (s : State) (g : Nat) (f : Gateway → Gateway) : (s.modGw g f).tags = s.tags := rfl
@[simp] theorem State.modGw_blv (s : State) (g : Nat) (f : Gateway → Gateway) : (s.modGw g f).blv = s.blv := rfl
@[simp] theorem State.modGw_lamp (s : State) (g : Nat) (f : Gateway → Gateway) : (s.modGw g f).lamp = s.lamp := rfl
@[simp] theorem State.modGw_cond (s : State) (g : Nat) (f : Gateway → Gateway) : (s.modGw g f).cond = s.cond := rfl
@[simp] theorem State.modGw_sec (s : State) (g : Nat) (f : Gateway → Gateway) : (s.modGw g f).sec = s.sec := rfl
@[simp] theorem State.modGw_mews (s : State) (g : Nat) (f : Gateway → Gateway) : (s.modGw g f).mews = s.mews := rfl
@[simp] theorem State.modGw_pp (s : State) (g : Nat) (f : Gateway → Gateway) : (s.modGw g f).pp = s.pp := rfl
@[simp] theorem State.modGw_out (s : State) (g : Nat) (f : Gateway → Gateway) : (s.modGw g f).out = s.out := rfl
@[simp] theorem State.modGw_free (s : State) (g : Nat) (f : Gateway → Gateway) : (s.modGw g f).free = s.free := rfl
@[simp] theorem State.modGw_pending (s : State) (g : Nat) (f : Gateway → Gateway) : (s.modGw g f).pending = s.pending := rfl

/-! ### modLamp -/

@[simp] theorem State.modLamp_top (s : State) (l : Nat) (f : Lamp → Lamp) : (s.modLamp l f).top = s.top := rfl
@[simp] theorem State.modLamp_host (s : State) (l : Nat) (f : Lamp → Lamp) : (s.modLamp l f).host = s.host := rfl
@[simp] theorem State.modLamp_ev (s : State) (l : Nat) (f : Lamp → Lamp) : (s.modLamp l f).ev = s.ev := rfl
@[simp] theorem State.modLamp_seq (s : State) (l : Nat) (f : Lamp → Lamp) : (s.modLamp l f).seq = s.seq := rfl
@[simp] theorem State.modLamp_sh (s : State) (l : Nat) (f : Lamp → Lamp) : (s.modLamp l f).sh = s.sh := rfl
@[simp] theorem State.modLamp_img (s : State) (l : Nat) (f : Lamp → Lamp) : (s.modLamp l f).img = s.img := rfl
@[simp] theorem State.modLamp_mem (s : State) (l : Nat) (f : Lamp → Lamp) : (s.modLamp l f).mem = s.mem := rfl
@[simp] theorem State.modLamp_hbm (s : State) (l : Nat) (f : Lamp → Lamp) : (s.modLamp l f).hbm = s.hbm := rfl
@[simp] theorem State.modLamp_tags (s : State) (l : Nat) (f : Lamp → Lamp) : (s.modLamp l f).tags = s.tags := rfl
@[simp] theorem State.modLamp_net (s : State) (l : Nat) (f : Lamp → Lamp) : (s.modLamp l f).net = s.net := rfl
@[simp] theorem State.modLamp_blv (s : State) (l : Nat) (f : Lamp → Lamp) : (s.modLamp l f).blv = s.blv := rfl
@[simp] theorem State.modLamp_cond (s : State) (l : Nat) (f : Lamp → Lamp) : (s.modLamp l f).cond = s.cond := rfl
@[simp] theorem State.modLamp_sec (s : State) (l : Nat) (f : Lamp → Lamp) : (s.modLamp l f).sec = s.sec := rfl
@[simp] theorem State.modLamp_mews (s : State) (l : Nat) (f : Lamp → Lamp) : (s.modLamp l f).mews = s.mews := rfl
@[simp] theorem State.modLamp_pp (s : State) (l : Nat) (f : Lamp → Lamp) : (s.modLamp l f).pp = s.pp := rfl
@[simp] theorem State.modLamp_out (s : State) (l : Nat) (f : Lamp → Lamp) : (s.modLamp l f).out = s.out := rfl
@[simp] theorem State.modLamp_free (s : State) (l : Nat) (f : Lamp → Lamp) : (s.modLamp l f).free = s.free := rfl
@[simp] theorem State.modLamp_pending (s : State) (l : Nat) (f : Lamp → Lamp) : (s.modLamp l f).pending = s.pending := rfl

/-! ### modExe -/

@[simp] theorem State.modExe_top (s : State) (f : Execution → Execution) : (s.modExe f).top = s.top := rfl
@[simp] theorem State.modExe_host (s : State) (f : Execution → Execution) : (s.modExe f).host = s.host := rfl
@[simp] theorem State.modExe_ev (s : State) (f : Execution → Execution) : (s.modExe f).ev = s.ev := rfl
@[simp] theorem State.modExe_sh (s : State) (f : Execution → Execution) : (s.modExe f).sh = s.sh := rfl
@[simp] theorem State.modExe_img (s : State) (f : Execution → Execution) : (s.modExe f).img = s.img := rfl
@[simp] theorem State.modExe_mem (s : State) (f : Execution → Execution) : (s.modExe f).mem = s.mem := rfl
@[simp] theorem State.modExe_hbm (s : State) (f : Execution → Execution) : (s.modExe f).hbm = s.hbm := rfl
@[simp] theorem State.modExe_tags (s : State) (f : Execution → Execution) : (s.modExe f).tags = s.tags := rfl
@[simp] theorem State.modExe_net (s : State) (f : Execution → Execution) : (s.modExe f).net = s.net := rfl
@[simp] theorem State.modExe_blv (s : State) (f : Execution → Execution) : (s.modExe f).blv = s.blv := rfl
@[simp] theorem State.modExe_lamp (s : State) (f : Execution → Execution) : (s.modExe f).lamp = s.lamp := rfl
@[simp] theorem State.modExe_cond (s : State) (f : Execution → Execution) : (s.modExe f).cond = s.cond := rfl
@[simp] theorem State.modExe_sec (s : State) (f : Execution → Execution) : (s.modExe f).sec = s.sec := rfl
@[simp] theorem State.modExe_mews (s : State) (f : Execution → Execution) : (s.modExe f).mews = s.mews := rfl
@[simp] theorem State.modExe_pp (s : State) (f : Execution → Execution) : (s.modExe f).pp = s.pp := rfl
@[simp] theorem State.modExe_out (s : State) (f : Execution → Execution) : (s.modExe f).out = s.out := rfl
@[simp] theorem State.modExe_free (s : State) (f : Execution → Execution) : (s.modExe f).free = s.free := rfl
@[simp] theorem State.modExe_pending (s : State) (f : Execution → Execution) : (s.modExe f).pending = s.pending := rfl

/-! ### emit -/

@[simp] theorem State.emit_top (s : State) (o : Out) : (s.emit o).top = s.top := rfl
@[simp] theorem State.emit_host (s : State) (o : Out) : (s.emit o).host = s.host := rfl
@[simp] theorem State.emit_ev (s : State) (o : Out) : (s.emit o).ev = s.ev := rfl
@[simp] theorem State.emit_seq (s : State) (o : Out) : (s.emit o).seq = s.seq := rfl
@[simp] theorem State.emit_sh (s : State) (o : Out) : (s.emit o).sh = s.sh := rfl
@[simp] theorem State.emit_img (s : State) (o : Out) : (s.emit o).img = s.img := rfl
@[simp] theorem State.emit_mem (s : State) (o : Out) : (s.emit o).mem = s.mem := rfl
@[simp] theorem State.emit_hbm (s : State) (o : Out) : (s.emit o).hbm = s.hbm := rfl
@[simp] theorem State.emit_tags (s : State) (o : Out) : (s.emit o).tags = s.tags := rfl
@[simp] theorem State.emit_net (s : State) (o : Out) : (s.emit o).net = s.net := rfl
@[simp] theorem State.emit_blv (s : State) (o : Out) : (s.emit o).blv = s.blv := rfl
@[simp] theorem State.emit_lamp (s : State) (o : Out) : (s.emit o).lamp = s.lamp := rfl
@[simp] theorem State.emit_cond (s : State) (o : Out) : (s.emit o).cond = s.cond := rfl
@[simp] theorem State.emit_sec (s : State) (o : Out) : (s.emit o).sec = s.sec := rfl
@[simp] theorem State.emit_mews (s : State) (o : Out) : (s.emit o).mews = s.mews := rfl
@[simp] theorem State.emit_pp (s : State) (o : Out) : (s.emit o).pp = s.pp := rfl
@[simp] theorem State.emit_free (s : State) (o : Out) : (s.emit o).free = s.free := rfl
@[simp] theorem State.emit_pending (s : State) (o : Out) : (s.emit o).pending = s.pending := rfl

@[simp] theorem State.emit_out (s : State) (o : Out) : (s.emit o).out = s.out ++ [o] := rfl
@[simp] theorem State.modSh_sh (s : State) (n : Nat) (f : Shallot → Shallot) : (s.modSh n f).sh = s.sh.mod n f := rfl
@[simp] theorem State.modMem_mem (s : State) (h : Nat) (f : Stack → Stack) : (s.modMem h f).mem = s.mem.mod h f := rfl
@[simp] theorem State.modGw_gw (s : State) (g : Nat) (f : Gateway → Gateway) : (s.modGw g f).net.gw = s.net.gw.mod g f := rfl
@[simp] theorem State.modLamp_lamps (s : State) (l : Nat) (f : Lamp → Lamp) : (s.modLamp l f).lamp.lamps = s.lamp.lamps.mod l f := rfl
@[simp] theorem State.modExe_exe (s : State) (f : Execution → Execution) : (s.modExe f).seq.exe = f s.seq.exe := rfl

/-- The shallot that was changed reads as changed. -/
@[simp] theorem State.modSh_shal_self (s : State) (n : Nat) (f : Shallot → Shallot) : (s.modSh n f).shal n = f (s.shal n) := by
  simp [State.shal]
/-- Every other shallot reads as before. -/
theorem State.modSh_shal_ne (s : State) {n k : Nat} (f : Shallot → Shallot) (h : k ≠ n) : (s.modSh n f).shal k = s.shal k := by
  simp [State.shal, Tbl.get_mod_ne _ _ h]
/-- The pod that was changed reads as changed. -/
@[simp] theorem State.modPod_pod_self (s : State) (n p : Nat) (f : Pod → Pod) : (s.modPod n p f).pod n p = f (s.pod n p) := by
  simp [State.pod, State.modPod]
/-- Every other pod reads as before. -/
theorem State.modPod_pod_ne (s : State) {n p k q : Nat} (f : Pod → Pod) (h : k ≠ n ∨ q ≠ p) : (s.modPod n p f).pod k q = s.pod k q := by
  unfold State.pod State.modPod
  by_cases hk : k = n
  · subst hk
    rw [State.modSh_shal_self]
    exact Tbl.get_mod_ne _ _ (by simpa using h)
  · rw [State.modSh_shal_ne s _ hk]
/-- A slot operation answers the pod it leaves, the next free value, and its reports. -/
theorem State.podOp_next (s : State) (r : PodRef) (f : ExecCtx → Pod → Pod × List Report) : ∃ t, s.podOp r f = .next t := ⟨_, rfl⟩

end Sys2Proof.Machine
end

