-- ==== Sys2Proof/Laws/Ops.lean ====
section
/-! SUPPORT. What the shared operations leave alone: one field of the state at a time. -/
namespace Sys2Proof.Machine

/-- A list of changes leaves a part alone if each of them does. -/
theorem proj_foldl {α β : Type} (p : State → β) (f : State → α → State) (l : List α) (s : State) (h : ∀ s a, p (f s a) = p s) :
    p (l.foldl f s) = p s := by
  induction l generalizing s with
  | nil => rfl
  | cons a l ih => exact (ih _).trans (h _ _)
/-! ### modShs -/

@[simp] theorem State.modShs_top (s : State) (test : Shallot → Bool) (f : Shallot → Shallot) : (s.modShs test f).top = s.top := by
  unfold State.modShs; repeat' (first | (simp; done) | rfl | (refine (proj_foldl State.top _ _ _ (fun _ _ => ?_)).trans ?_) | split | dsimp only)
@[simp] theorem State.modShs_host (s : State) (test : Shallot → Bool) (f : Shallot → Shallot) : (s.modShs test f).host = s.host := by
  unfold State.modShs; repeat' (first | (simp; done) | rfl | (refine (proj_foldl State.host _ _ _ (fun _ _ => ?_)).trans ?_) | split | dsimp only)
@[simp] theorem State.modShs_ev (s : State) (test : Shallot → Bool) (f : Shallot → Shallot) : (s.modShs test f).ev = s.ev := by
  unfold State.modShs; repeat' (first | (simp; done) | rfl | (refine (proj_foldl State.ev _ _ _ (fun _ _ => ?_)).trans ?_) | split | dsimp only)
@[simp] theorem State.modShs_seq (s : State) (test : Shallot → Bool) (f : Shallot → Shallot) : (s.modShs test f).seq = s.seq := by
  unfold State.modShs; repeat' (first | (simp; done) | rfl | (refine (proj_foldl State.seq _ _ _ (fun _ _ => ?_)).trans ?_) | split | dsimp only)
@[simp] theorem State.modShs_img (s : State) (test : Shallot → Bool) (f : Shallot → Shallot) : (s.modShs test f).img = s.img := by
  unfold State.modShs; repeat' (first | (simp; done) | rfl | (refine (proj_foldl State.img _ _ _ (fun _ _ => ?_)).trans ?_) | split | dsimp only)
@[simp] theorem State.modShs_mem (s : State) (test : Shallot → Bool) (f : Shallot → Shallot) : (s.modShs test f).mem = s.mem := by
  unfold State.modShs; repeat' (first | (simp; done) | rfl | (refine (proj_foldl State.mem _ _ _ (fun _ _ => ?_)).trans ?_) | split | dsimp only)
@[simp] theorem State.modShs_net (s : State) (test : Shallot → Bool) (f : Shallot → Shallot) : (s.modShs test f).net = s.net := by
  unfold State.modShs; repeat' (first | (simp; done) | rfl | (refine (proj_foldl State.net _ _ _ (fun _ _ => ?_)).trans ?_) | split | dsimp only)
@[simp] theorem State.modShs_blv (s : State) (test : Shallot → Bool) (f : Shallot → Shallot) : (s.modShs test f).blv = s.blv := by
  unfold State.modShs; repeat' (first | (simp; done) | rfl | (refine (proj_foldl State.blv _ _ _ (fun _ _ => ?_)).trans ?_) | split | dsimp only)
@[simp] theorem State.modShs_lamp (s : State) (test : Shallot → Bool) (f : Shallot → Shallot) : (s.modShs test f).lamp = s.lamp := by
  unfold State.modShs; repeat' (first | (simp; done) | rfl | (refine (proj_foldl State.lamp _ _ _ (fun _ _ => ?_)).trans ?_) | split | dsimp only)
@[simp] theorem State.modShs_cond (s : State) (test : Shallot → Bool) (f : Shallot → Shallot) : (s.modShs test f).cond = s.cond := by
  unfold State.modShs; repeat' (first | (simp; done) | rfl | (refine (proj_foldl State.cond _ _ _ (fun _ _ => ?_)).trans ?_) | split | dsimp only)
@[simp] theorem State.modShs_sec (s : State) (test : Shallot → Bool) (f : Shallot → Shallot) : (s.modShs test f).sec = s.sec := by
  unfold State.modShs; repeat' (first | (simp; done) | rfl | (refine (proj_foldl State.sec _ _ _ (fun _ _ => ?_)).trans ?_) | split | dsimp only)
@[simp] theorem State.modShs_mews (s : State) (test : Shallot → Bool) (f : Shallot → Shallot) : (s.modShs test f).mews = s.mews := by
  unfold State.modShs; repeat' (first | (simp; done) | rfl | (refine (proj_foldl State.mews _ _ _ (fun _ _ => ?_)).trans ?_) | split | dsimp only)
@[simp] theorem State.modShs_pp (s : State) (test : Shallot → Bool) (f : Shallot → Shallot) : (s.modShs test f).pp = s.pp := by
  unfold State.modShs; repeat' (first | (simp; done) | rfl | (refine (proj_foldl State.pp _ _ _ (fun _ _ => ?_)).trans ?_) | split | dsimp only)
@[simp] theorem State.modShs_out (s : State) (test : Shallot → Bool) (f : Shallot → Shallot) : (s.modShs test f).out = s.out := by
  unfold State.modShs; repeat' (first | (simp; done) | rfl | (refine (proj_foldl State.out _ _ _ (fun _ _ => ?_)).trans ?_) | split | dsimp only)
@[simp] theorem State.modShs_free (s : State) (test : Shallot → Bool) (f : Shallot → Shallot) : (s.modShs test f).free = s.free := by
  unfold State.modShs; repeat' (first | (simp; done) | rfl | (refine (proj_foldl State.free _ _ _ (fun _ _ => ?_)).trans ?_) | split | dsimp only)
@[simp] theorem State.modShs_pending (s : State) (test : Shallot → Bool) (f : Shallot → Shallot) : (s.modShs test f).pending = s.pending := by
  unfold State.modShs; repeat' (first | (simp; done) | rfl | (refine (proj_foldl State.pending _ _ _ (fun _ _ => ?_)).trans ?_) | split | dsimp only)

/-! ### msix -/

@[simp] theorem State.msix_top (s : State) (v : Nat) : (s.msix v).top = s.top := by
  unfold State.msix; repeat' (first | (simp; done) | rfl | (refine (proj_foldl State.top _ _ _ (fun _ _ => ?_)).trans ?_) | split | dsimp only)
@[simp] theorem State.msix_ev (s : State) (v : Nat) : (s.msix v).ev = s.ev := by
  unfold State.msix; repeat' (first | (simp; done) | rfl | (refine (proj_foldl State.ev _ _ _ (fun _ _ => ?_)).trans ?_) | split | dsimp only)
@[simp] theorem State.msix_seq (s : State) (v : Nat) : (s.msix v).seq = s.seq := by
  unfold State.msix; repeat' (first | (simp; done) | rfl | (refine (proj_foldl State.seq _ _ _ (fun _ _ => ?_)).trans ?_) | split | dsimp only)
@[simp] theorem State.msix_sh (s : State) (v : Nat) : (s.msix v).sh = s.sh := by
  unfold State.msix; repeat' (first | (simp; done) | rfl | (refine (proj_foldl State.sh _ _ _ (fun _ _ => ?_)).trans ?_) | split | dsimp only)
@[simp] theorem State.msix_img (s : State) (v : Nat) : (s.msix v).img = s.img := by
  unfold State.msix; repeat' (first | (simp; done) | rfl | (refine (proj_foldl State.img _ _ _ (fun _ _ => ?_)).trans ?_) | split | dsimp only)
@[simp] theorem State.msix_mem (s : State) (v : Nat) : (s.msix v).mem = s.mem := by
  unfold State.msix; repeat' (first | (simp; done) | rfl | (refine (proj_foldl State.mem _ _ _ (fun _ _ => ?_)).trans ?_) | split | dsimp only)
@[simp] theorem State.msix_net (s : State) (v : Nat) : (s.msix v).net = s.net := by
  unfold State.msix; repeat' (first | (simp; done) | rfl | (refine (proj_foldl State.net _ _ _ (fun _ _ => ?_)).trans ?_) | split | dsimp only)
@[simp] theorem State.msix_blv (s : State) (v : Nat) : (s.msix v).blv = s.blv := by
  unfold State.msix; repeat' (first | (simp; done) | rfl | (refine (proj_foldl State.blv _ _ _ (fun _ _ => ?_)).trans ?_) | split | dsimp only)
@[simp] theorem State.msix_lamp (s : State) (v : Nat) : (s.msix v).lamp = s.lamp := by
  unfold State.msix; repeat' (first | (simp; done) | rfl | (refine (proj_foldl State.lamp _ _ _ (fun _ _ => ?_)).trans ?_) | split | dsimp only)
@[simp] theorem State.msix_cond (s : State) (v : Nat) : (s.msix v).cond = s.cond := by
  unfold State.msix; repeat' (first | (simp; done) | rfl | (refine (proj_foldl State.cond _ _ _ (fun _ _ => ?_)).trans ?_) | split | dsimp only)
@[simp] theorem State.msix_sec (s : State) (v : Nat) : (s.msix v).sec = s.sec := by
  unfold State.msix; repeat' (first | (simp; done) | rfl | (refine (proj_foldl State.sec _ _ _ (fun _ _ => ?_)).trans ?_) | split | dsimp only)
@[simp] theorem State.msix_mews (s : State) (v : Nat) : (s.msix v).mews = s.mews := by
  unfold State.msix; repeat' (first | (simp; done) | rfl | (refine (proj_foldl State.mews _ _ _ (fun _ _ => ?_)).trans ?_) | split | dsimp only)
@[simp] theorem State.msix_pp (s : State) (v : Nat) : (s.msix v).pp = s.pp := by
  unfold State.msix; repeat' (first | (simp; done) | rfl | (refine (proj_foldl State.pp _ _ _ (fun _ _ => ?_)).trans ?_) | split | dsimp only)
@[simp] theorem State.msix_free (s : State) (v : Nat) : (s.msix v).free = s.free := by
  unfold State.msix; repeat' (first | (simp; done) | rfl | (refine (proj_foldl State.free _ _ _ (fun _ _ => ?_)).trans ?_) | split | dsimp only)
@[simp] theorem State.msix_pending (s : State) (v : Nat) : (s.msix v).pending = s.pending := by
  unfold State.msix; repeat' (first | (simp; done) | rfl | (refine (proj_foldl State.pending _ _ _ (fun _ _ => ?_)).trans ?_) | split | dsimp only)

/-! ### flushMsix -/

@[simp] theorem State.flushMsix_top (s : State) : (s.flushMsix).top = s.top := by
  unfold State.flushMsix; repeat' (first | (simp; done) | rfl | (refine (proj_foldl State.top _ _ _ (fun _ _ => ?_)).trans ?_) | split | dsimp only)
@[simp] theorem State.flushMsix_ev (s : State) : (s.flushMsix).ev = s.ev := by
  unfold State.flushMsix; repeat' (first | (simp; done) | rfl | (refine (proj_foldl State.ev _ _ _ (fun _ _ => ?_)).trans ?_) | split | dsimp only)
@[simp] theorem State.flushMsix_seq (s : State) : (s.flushMsix).seq = s.seq := by
  unfold State.flushMsix; repeat' (first | (simp; done) | rfl | (refine (proj_foldl State.seq _ _ _ (fun _ _ => ?_)).trans ?_) | split | dsimp only)
@[simp] theorem State.flushMsix_sh (s : State) : (s.flushMsix).sh = s.sh := by
  unfold State.flushMsix; repeat' (first | (simp; done) | rfl | (refine (proj_foldl State.sh _ _ _ (fun _ _ => ?_)).trans ?_) | split | dsimp only)
@[simp] theorem State.flushMsix_img (s : State) : (s.flushMsix).img = s.img := by
  unfold State.flushMsix; repeat' (first | (simp; done) | rfl | (refine (proj_foldl State.img _ _ _ (fun _ _ => ?_)).trans ?_) | split | dsimp only)
@[simp] theorem State.flushMsix_mem (s : State) : (s.flushMsix).mem = s.mem := by
  unfold State.flushMsix; repeat' (first | (simp; done) | rfl | (refine (proj_foldl State.mem _ _ _ (fun _ _ => ?_)).trans ?_) | split | dsimp only)
@[simp] theorem State.flushMsix_net (s : State) : (s.flushMsix).net = s.net := by
  unfold State.flushMsix; repeat' (first | (simp; done) | rfl | (refine (proj_foldl State.net _ _ _ (fun _ _ => ?_)).trans ?_) | split | dsimp only)
@[simp] theorem State.flushMsix_blv (s : State) : (s.flushMsix).blv = s.blv := by
  unfold State.flushMsix; repeat' (first | (simp; done) | rfl | (refine (proj_foldl State.blv _ _ _ (fun _ _ => ?_)).trans ?_) | split | dsimp only)
@[simp] theorem State.flushMsix_lamp (s : State) : (s.flushMsix).lamp = s.lamp := by
  unfold State.flushMsix; repeat' (first | (simp; done) | rfl | (refine (proj_foldl State.lamp _ _ _ (fun _ _ => ?_)).trans ?_) | split | dsimp only)
@[simp] theorem State.flushMsix_cond (s : State) : (s.flushMsix).cond = s.cond := by
  unfold State.flushMsix; repeat' (first | (simp; done) | rfl | (refine (proj_foldl State.cond _ _ _ (fun _ _ => ?_)).trans ?_) | split | dsimp only)
@[simp] theorem State.flushMsix_sec (s : State) : (s.flushMsix).sec = s.sec := by
  unfold State.flushMsix; repeat' (first | (simp; done) | rfl | (refine (proj_foldl State.sec _ _ _ (fun _ _ => ?_)).trans ?_) | split | dsimp only)
@[simp] theorem State.flushMsix_mews (s : State) : (s.flushMsix).mews = s.mews := by
  unfold State.flushMsix; repeat' (first | (simp; done) | rfl | (refine (proj_foldl State.mews _ _ _ (fun _ _ => ?_)).trans ?_) | split | dsimp only)
@[simp] theorem State.flushMsix_pp (s : State) : (s.flushMsix).pp = s.pp := by
  unfold State.flushMsix; repeat' (first | (simp; done) | rfl | (refine (proj_foldl State.pp _ _ _ (fun _ _ => ?_)).trans ?_) | split | dsimp only)
@[simp] theorem State.flushMsix_free (s : State) : (s.flushMsix).free = s.free := by
  unfold State.flushMsix; repeat' (first | (simp; done) | rfl | (refine (proj_foldl State.free _ _ _ (fun _ _ => ?_)).trans ?_) | split | dsimp only)
@[simp] theorem State.flushMsix_pending (s : State) : (s.flushMsix).pending = s.pending := by
  unfold State.flushMsix; repeat' (first | (simp; done) | rfl | (refine (proj_foldl State.pending _ _ _ (fun _ _ => ?_)).trans ?_) | split | dsimp only)

/-! ### eventSignal -/

@[simp] theorem State.eventSignal_top (s : State) : (s.eventSignal).top = s.top := by
  unfold State.eventSignal; repeat' (first | (simp; done) | rfl | (refine (proj_foldl State.top _ _ _ (fun _ _ => ?_)).trans ?_) | split | dsimp only)
@[simp] theorem State.eventSignal_seq (s : State) : (s.eventSignal).seq = s.seq := by
  unfold State.eventSignal; repeat' (first | (simp; done) | rfl | (refine (proj_foldl State.seq _ _ _ (fun _ _ => ?_)).trans ?_) | split | dsimp only)
@[simp] theorem State.eventSignal_sh (s : State) : (s.eventSignal).sh = s.sh := by
  unfold State.eventSignal; repeat' (first | (simp; done) | rfl | (refine (proj_foldl State.sh _ _ _ (fun _ _ => ?_)).trans ?_) | split | dsimp only)
@[simp] theorem State.eventSignal_img (s : State) : (s.eventSignal).img = s.img := by
  unfold State.eventSignal; repeat' (first | (simp; done) | rfl | (refine (proj_foldl State.img _ _ _ (fun _ _ => ?_)).trans ?_) | split | dsimp only)
@[simp] theorem State.eventSignal_mem (s : State) : (s.eventSignal).mem = s.mem := by
  unfold State.eventSignal; repeat' (first | (simp; done) | rfl | (refine (proj_foldl State.mem _ _ _ (fun _ _ => ?_)).trans ?_) | split | dsimp only)
@[simp] theorem State.eventSignal_net (s : State) : (s.eventSignal).net = s.net := by
  unfold State.eventSignal; repeat' (first | (simp; done) | rfl | (refine (proj_foldl State.net _ _ _ (fun _ _ => ?_)).trans ?_) | split | dsimp only)
@[simp] theorem State.eventSignal_blv (s : State) : (s.eventSignal).blv = s.blv := by
  unfold State.eventSignal; repeat' (first | (simp; done) | rfl | (refine (proj_foldl State.blv _ _ _ (fun _ _ => ?_)).trans ?_) | split | dsimp only)
@[simp] theorem State.eventSignal_lamp (s : State) : (s.eventSignal).lamp = s.lamp := by
  unfold State.eventSignal; repeat' (first | (simp; done) | rfl | (refine (proj_foldl State.lamp _ _ _ (fun _ _ => ?_)).trans ?_) | split | dsimp only)
@[simp] theorem State.eventSignal_cond (s : State) : (s.eventSignal).cond = s.cond := by
  unfold State.eventSignal; repeat' (first | (simp; done) | rfl | (refine (proj_foldl State.cond _ _ _ (fun _ _ => ?_)).trans ?_) | split | dsimp only)
@[simp] theorem State.eventSignal_sec (s : State) : (s.eventSignal).sec = s.sec := by
  unfold State.eventSignal; repeat' (first | (simp; done) | rfl | (refine (proj_foldl State.sec _ _ _ (fun _ _ => ?_)).trans ?_) | split | dsimp only)
@[simp] theorem State.eventSignal_mews (s : State) : (s.eventSignal).mews = s.mews := by
  unfold State.eventSignal; repeat' (first | (simp; done) | rfl | (refine (proj_foldl State.mews _ _ _ (fun _ _ => ?_)).trans ?_) | split | dsimp only)
@[simp] theorem State.eventSignal_pp (s : State) : (s.eventSignal).pp = s.pp := by
  unfold State.eventSignal; repeat' (first | (simp; done) | rfl | (refine (proj_foldl State.pp _ _ _ (fun _ _ => ?_)).trans ?_) | split | dsimp only)
@[simp] theorem State.eventSignal_free (s : State) : (s.eventSignal).free = s.free := by
  unfold State.eventSignal; repeat' (first | (simp; done) | rfl | (refine (proj_foldl State.free _ _ _ (fun _ _ => ?_)).trans ?_) | split | dsimp only)
@[simp] theorem State.eventSignal_pending (s : State) : (s.eventSignal).pending = s.pending := by
  unfold State.eventSignal; repeat' (first | (simp; done) | rfl | (refine (proj_foldl State.pending _ _ _ (fun _ _ => ?_)).trans ?_) | split | dsimp only)

/-! ### raise -/

@[simp] theorem State.raise_top (s : State) (code plaza unit : Nat) (detail : List Byte) : (s.raise code plaza unit detail).top = s.top := by
  unfold State.raise; repeat' (first | (simp; done) | rfl | (refine (proj_foldl State.top _ _ _ (fun _ _ => ?_)).trans ?_) | split | dsimp only)
@[simp] theorem State.raise_seq (s : State) (code plaza unit : Nat) (detail : List Byte) : (s.raise code plaza unit detail).seq = s.seq := by
  unfold State.raise; repeat' (first | (simp; done) | rfl | (refine (proj_foldl State.seq _ _ _ (fun _ _ => ?_)).trans ?_) | split | dsimp only)
@[simp] theorem State.raise_sh (s : State) (code plaza unit : Nat) (detail : List Byte) : (s.raise code plaza unit detail).sh = s.sh := by
  unfold State.raise; repeat' (first | (simp; done) | rfl | (refine (proj_foldl State.sh _ _ _ (fun _ _ => ?_)).trans ?_) | split | dsimp only)
@[simp] theorem State.raise_img (s : State) (code plaza unit : Nat) (detail : List Byte) : (s.raise code plaza unit detail).img = s.img := by
  unfold State.raise; repeat' (first | (simp; done) | rfl | (refine (proj_foldl State.img _ _ _ (fun _ _ => ?_)).trans ?_) | split | dsimp only)
@[simp] theorem State.raise_mem (s : State) (code plaza unit : Nat) (detail : List Byte) : (s.raise code plaza unit detail).mem = s.mem := by
  unfold State.raise; repeat' (first | (simp; done) | rfl | (refine (proj_foldl State.mem _ _ _ (fun _ _ => ?_)).trans ?_) | split | dsimp only)
@[simp] theorem State.raise_net (s : State) (code plaza unit : Nat) (detail : List Byte) : (s.raise code plaza unit detail).net = s.net := by
  unfold State.raise; repeat' (first | (simp; done) | rfl | (refine (proj_foldl State.net _ _ _ (fun _ _ => ?_)).trans ?_) | split | dsimp only)
@[simp] theorem State.raise_blv (s : State) (code plaza unit : Nat) (detail : List Byte) : (s.raise code plaza unit detail).blv = s.blv := by
  unfold State.raise; repeat' (first | (simp; done) | rfl | (refine (proj_foldl State.blv _ _ _ (fun _ _ => ?_)).trans ?_) | split | dsimp only)
@[simp] theorem State.raise_lamp (s : State) (code plaza unit : Nat) (detail : List Byte) : (s.raise code plaza unit detail).lamp = s.lamp := by
  unfold State.raise; repeat' (first | (simp; done) | rfl | (refine (proj_foldl State.lamp _ _ _ (fun _ _ => ?_)).trans ?_) | split | dsimp only)
@[simp] theorem State.raise_cond (s : State) (code plaza unit : Nat) (detail : List Byte) : (s.raise code plaza unit detail).cond = s.cond := by
  unfold State.raise; repeat' (first | (simp; done) | rfl | (refine (proj_foldl State.cond _ _ _ (fun _ _ => ?_)).trans ?_) | split | dsimp only)
@[simp] theorem State.raise_sec (s : State) (code plaza unit : Nat) (detail : List Byte) : (s.raise code plaza unit detail).sec = s.sec := by
  unfold State.raise; repeat' (first | (simp; done) | rfl | (refine (proj_foldl State.sec _ _ _ (fun _ _ => ?_)).trans ?_) | split | dsimp only)
@[simp] theorem State.raise_mews (s : State) (code plaza unit : Nat) (detail : List Byte) : (s.raise code plaza unit detail).mews = s.mews := by
  unfold State.raise; repeat' (first | (simp; done) | rfl | (refine (proj_foldl State.mews _ _ _ (fun _ _ => ?_)).trans ?_) | split | dsimp only)
@[simp] theorem State.raise_pp (s : State) (code plaza unit : Nat) (detail : List Byte) : (s.raise code plaza unit detail).pp = s.pp := by
  unfold State.raise; repeat' (first | (simp; done) | rfl | (refine (proj_foldl State.pp _ _ _ (fun _ _ => ?_)).trans ?_) | split | dsimp only)
@[simp] theorem State.raise_free (s : State) (code plaza unit : Nat) (detail : List Byte) : (s.raise code plaza unit detail).free = s.free := by
  unfold State.raise; repeat' (first | (simp; done) | rfl | (refine (proj_foldl State.free _ _ _ (fun _ _ => ?_)).trans ?_) | split | dsimp only)
@[simp] theorem State.raise_pending (s : State) (code plaza unit : Nat) (detail : List Byte) : (s.raise code plaza unit detail).pending = s.pending := by
  unfold State.raise; repeat' (first | (simp; done) | rfl | (refine (proj_foldl State.pending _ _ _ (fun _ _ => ?_)).trans ?_) | split | dsimp only)

/-! ### sendNet -/

@[simp] theorem State.sendNet_top (s : State) (sub kind dst : Nat) (bytes : List Byte) : (s.sendNet sub kind dst bytes).top = s.top := by
  unfold State.sendNet State.sendFrame State.leave; repeat' (first | (simp; done) | rfl | (refine (proj_foldl State.top _ _ _ (fun _ _ => ?_)).trans ?_) | split | dsimp only)
@[simp] theorem State.sendNet_host (s : State) (sub kind dst : Nat) (bytes : List Byte) : (s.sendNet sub kind dst bytes).host = s.host := by
  unfold State.sendNet State.sendFrame State.leave; repeat' (first | (simp; done) | rfl | (refine (proj_foldl State.host _ _ _ (fun _ _ => ?_)).trans ?_) | split | dsimp only)
@[simp] theorem State.sendNet_ev (s : State) (sub kind dst : Nat) (bytes : List Byte) : (s.sendNet sub kind dst bytes).ev = s.ev := by
  unfold State.sendNet State.sendFrame State.leave; repeat' (first | (simp; done) | rfl | (refine (proj_foldl State.ev _ _ _ (fun _ _ => ?_)).trans ?_) | split | dsimp only)
@[simp] theorem State.sendNet_seq (s : State) (sub kind dst : Nat) (bytes : List Byte) : (s.sendNet sub kind dst bytes).seq = s.seq := by
  unfold State.sendNet State.sendFrame State.leave; repeat' (first | (simp; done) | rfl | (refine (proj_foldl State.seq _ _ _ (fun _ _ => ?_)).trans ?_) | split | dsimp only)
@[simp] theorem State.sendNet_sh (s : State) (sub kind dst : Nat) (bytes : List Byte) : (s.sendNet sub kind dst bytes).sh = s.sh := by
  unfold State.sendNet State.sendFrame State.leave; repeat' (first | (simp; done) | rfl | (refine (proj_foldl State.sh _ _ _ (fun _ _ => ?_)).trans ?_) | split | dsimp only)
@[simp] theorem State.sendNet_img (s : State) (sub kind dst : Nat) (bytes : List Byte) : (s.sendNet sub kind dst bytes).img = s.img := by
  unfold State.sendNet State.sendFrame State.leave; repeat' (first | (simp; done) | rfl | (refine (proj_foldl State.img _ _ _ (fun _ _ => ?_)).trans ?_) | split | dsimp only)
@[simp] theorem State.sendNet_mem (s : State) (sub kind dst : Nat) (bytes : List Byte) : (s.sendNet sub kind dst bytes).mem = s.mem := by
  unfold State.sendNet State.sendFrame State.leave; repeat' (first | (simp; done) | rfl | (refine (proj_foldl State.mem _ _ _ (fun _ _ => ?_)).trans ?_) | split | dsimp only)
@[simp] theorem State.sendNet_blv (s : State) (sub kind dst : Nat) (bytes : List Byte) : (s.sendNet sub kind dst bytes).blv = s.blv := by
  unfold State.sendNet State.sendFrame State.leave; repeat' (first | (simp; done) | rfl | (refine (proj_foldl State.blv _ _ _ (fun _ _ => ?_)).trans ?_) | split | dsimp only)
@[simp] theorem State.sendNet_lamp (s : State) (sub kind dst : Nat) (bytes : List Byte) : (s.sendNet sub kind dst bytes).lamp = s.lamp := by
  unfold State.sendNet State.sendFrame State.leave; repeat' (first | (simp; done) | rfl | (refine (proj_foldl State.lamp _ _ _ (fun _ _ => ?_)).trans ?_) | split | dsimp only)
@[simp] theorem State.sendNet_cond (s : State) (sub kind dst : Nat) (bytes : List Byte) : (s.sendNet sub kind dst bytes).cond = s.cond := by
  unfold State.sendNet State.sendFrame State.leave; repeat' (first | (simp; done) | rfl | (refine (proj_foldl State.cond _ _ _ (fun _ _ => ?_)).trans ?_) | split | dsimp only)
@[simp] theorem State.sendNet_sec (s : State) (sub kind dst : Nat) (bytes : List Byte) : (s.sendNet sub kind dst bytes).sec = s.sec := by
  unfold State.sendNet State.sendFrame State.leave; repeat' (first | (simp; done) | rfl | (refine (proj_foldl State.sec _ _ _ (fun _ _ => ?_)).trans ?_) | split | dsimp only)
@[simp] theorem State.sendNet_mews (s : State) (sub kind dst : Nat) (bytes : List Byte) : (s.sendNet sub kind dst bytes).mews = s.mews := by
  unfold State.sendNet State.sendFrame State.leave; repeat' (first | (simp; done) | rfl | (refine (proj_foldl State.mews _ _ _ (fun _ _ => ?_)).trans ?_) | split | dsimp only)
@[simp] theorem State.sendNet_pp (s : State) (sub kind dst : Nat) (bytes : List Byte) : (s.sendNet sub kind dst bytes).pp = s.pp := by
  unfold State.sendNet State.sendFrame State.leave; repeat' (first | (simp; done) | rfl | (refine (proj_foldl State.pp _ _ _ (fun _ _ => ?_)).trans ?_) | split | dsimp only)
@[simp] theorem State.sendNet_free (s : State) (sub kind dst : Nat) (bytes : List Byte) : (s.sendNet sub kind dst bytes).free = s.free := by
  unfold State.sendNet State.sendFrame State.leave; repeat' (first | (simp; done) | rfl | (refine (proj_foldl State.free _ _ _ (fun _ _ => ?_)).trans ?_) | split | dsimp only)
@[simp] theorem State.sendNet_pending (s : State) (sub kind dst : Nat) (bytes : List Byte) : (s.sendNet sub kind dst bytes).pending = s.pending := by
  unfold State.sendNet State.sendFrame State.leave; repeat' (first | (simp; done) | rfl | (refine (proj_foldl State.pending _ _ _ (fun _ _ => ?_)).trans ?_) | split | dsimp only)

/-! ### sendTo -/

@[simp] theorem State.sendTo_top (s : State) (dest kind : Nat) (bytes : List Byte) : (s.sendTo dest kind bytes).top = s.top := by
  unfold State.sendTo; repeat' (first | (simp; done) | rfl | (refine (proj_foldl State.top _ _ _ (fun _ _ => ?_)).trans ?_) | split | dsimp only)
@[simp] theorem State.sendTo_host (s : State) (dest kind : Nat) (bytes : List Byte) : (s.sendTo dest kind bytes).host = s.host := by
  unfold State.sendTo; repeat' (first | (simp; done) | rfl | (refine (proj_foldl State.host _ _ _ (fun _ _ => ?_)).trans ?_) | split | dsimp only)
@[simp] theorem State.sendTo_ev (s : State) (dest kind : Nat) (bytes : List Byte) : (s.sendTo dest kind bytes).ev = s.ev := by
  unfold State.sendTo; repeat' (first | (simp; done) | rfl | (refine (proj_foldl State.ev _ _ _ (fun _ _ => ?_)).trans ?_) | split | dsimp only)
@[simp] theorem State.sendTo_seq (s : State) (dest kind : Nat) (bytes : List Byte) : (s.sendTo dest kind bytes).seq = s.seq := by
  unfold State.sendTo; repeat' (first | (simp; done) | rfl | (refine (proj_foldl State.seq _ _ _ (fun _ _ => ?_)).trans ?_) | split | dsimp only)
@[simp] theorem State.sendTo_sh (s : State) (dest kind : Nat) (bytes : List Byte) : (s.sendTo dest kind bytes).sh = s.sh := by
  unfold State.sendTo; repeat' (first | (simp; done) | rfl | (refine (proj_foldl State.sh _ _ _ (fun _ _ => ?_)).trans ?_) | split | dsimp only)
@[simp] theorem State.sendTo_img (s : State) (dest kind : Nat) (bytes : List Byte) : (s.sendTo dest kind bytes).img = s.img := by
  unfold State.sendTo; repeat' (first | (simp; done) | rfl | (refine (proj_foldl State.img _ _ _ (fun _ _ => ?_)).trans ?_) | split | dsimp only)
@[simp] theorem State.sendTo_mem (s : State) (dest kind : Nat) (bytes : List Byte) : (s.sendTo dest kind bytes).mem = s.mem := by
  unfold State.sendTo; repeat' (first | (simp; done) | rfl | (refine (proj_foldl State.mem _ _ _ (fun _ _ => ?_)).trans ?_) | split | dsimp only)
@[simp] theorem State.sendTo_blv (s : State) (dest kind : Nat) (bytes : List Byte) : (s.sendTo dest kind bytes).blv = s.blv := by
  unfold State.sendTo; repeat' (first | (simp; done) | rfl | (refine (proj_foldl State.blv _ _ _ (fun _ _ => ?_)).trans ?_) | split | dsimp only)
@[simp] theorem State.sendTo_lamp (s : State) (dest kind : Nat) (bytes : List Byte) : (s.sendTo dest kind bytes).lamp = s.lamp := by
  unfold State.sendTo; repeat' (first | (simp; done) | rfl | (refine (proj_foldl State.lamp _ _ _ (fun _ _ => ?_)).trans ?_) | split | dsimp only)
@[simp] theorem State.sendTo_cond (s : State) (dest kind : Nat) (bytes : List Byte) : (s.sendTo dest kind bytes).cond = s.cond := by
  unfold State.sendTo; repeat' (first | (simp; done) | rfl | (refine (proj_foldl State.cond _ _ _ (fun _ _ => ?_)).trans ?_) | split | dsimp only)
@[simp] theorem State.sendTo_sec (s : State) (dest kind : Nat) (bytes : List Byte) : (s.sendTo dest kind bytes).sec = s.sec := by
  unfold State.sendTo; repeat' (first | (simp; done) | rfl | (refine (proj_foldl State.sec _ _ _ (fun _ _ => ?_)).trans ?_) | split | dsimp only)
@[simp] theorem State.sendTo_mews (s : State) (dest kind : Nat) (bytes : List Byte) : (s.sendTo dest kind bytes).mews = s.mews := by
  unfold State.sendTo; repeat' (first | (simp; done) | rfl | (refine (proj_foldl State.mews _ _ _ (fun _ _ => ?_)).trans ?_) | split | dsimp only)
@[simp] theorem State.sendTo_pp (s : State) (dest kind : Nat) (bytes : List Byte) : (s.sendTo dest kind bytes).pp = s.pp := by
  unfold State.sendTo; repeat' (first | (simp; done) | rfl | (refine (proj_foldl State.pp _ _ _ (fun _ _ => ?_)).trans ?_) | split | dsimp only)
@[simp] theorem State.sendTo_free (s : State) (dest kind : Nat) (bytes : List Byte) : (s.sendTo dest kind bytes).free = s.free := by
  unfold State.sendTo; repeat' (first | (simp; done) | rfl | (refine (proj_foldl State.free _ _ _ (fun _ _ => ?_)).trans ?_) | split | dsimp only)
@[simp] theorem State.sendTo_pending (s : State) (dest kind : Nat) (bytes : List Byte) : (s.sendTo dest kind bytes).pending = s.pending := by
  unfold State.sendTo; repeat' (first | (simp; done) | rfl | (refine (proj_foldl State.pending _ _ _ (fun _ _ => ?_)).trans ?_) | split | dsimp only)

/-! ### mewsReply -/

@[simp] theorem State.mewsReply_top (s : State) (port op : Nat) (tag : Half) (cred : Byte) (seq : Word64) (st : Status) (auth : Bool) (body : List Byte) : (s.mewsReply port op tag cred seq st auth body).top = s.top := by
  unfold State.mewsReply; repeat' (first | (simp; done) | rfl | (refine (proj_foldl State.top _ _ _ (fun _ _ => ?_)).trans ?_) | split | dsimp only)
@[simp] theorem State.mewsReply_host (s : State) (port op : Nat) (tag : Half) (cred : Byte) (seq : Word64) (st : Status) (auth : Bool) (body : List Byte) : (s.mewsReply port op tag cred seq st auth body).host = s.host := by
  unfold State.mewsReply; repeat' (first | (simp; done) | rfl | (refine (proj_foldl State.host _ _ _ (fun _ _ => ?_)).trans ?_) | split | dsimp only)
@[simp] theorem State.mewsReply_ev (s : State) (port op : Nat) (tag : Half) (cred : Byte) (seq : Word64) (st : Status) (auth : Bool) (body : List Byte) : (s.mewsReply port op tag cred seq st auth body).ev = s.ev := by
  unfold State.mewsReply; repeat' (first | (simp; done) | rfl | (refine (proj_foldl State.ev _ _ _ (fun _ _ => ?_)).trans ?_) | split | dsimp only)
@[simp] theorem State.mewsReply_seq (s : State) (port op : Nat) (tag : Half) (cred : Byte) (seq : Word64) (st : Status) (auth : Bool) (body : List Byte) : (s.mewsReply port op tag cred seq st auth body).seq = s.seq := by
  unfold State.mewsReply; repeat' (first | (simp; done) | rfl | (refine (proj_foldl State.seq _ _ _ (fun _ _ => ?_)).trans ?_) | split | dsimp only)
@[simp] theorem State.mewsReply_sh (s : State) (port op : Nat) (tag : Half) (cred : Byte) (seq : Word64) (st : Status) (auth : Bool) (body : List Byte) : (s.mewsReply port op tag cred seq st auth body).sh = s.sh := by
  unfold State.mewsReply; repeat' (first | (simp; done) | rfl | (refine (proj_foldl State.sh _ _ _ (fun _ _ => ?_)).trans ?_) | split | dsimp only)
@[simp] theorem State.mewsReply_img (s : State) (port op : Nat) (tag : Half) (cred : Byte) (seq : Word64) (st : Status) (auth : Bool) (body : List Byte) : (s.mewsReply port op tag cred seq st auth body).img = s.img := by
  unfold State.mewsReply; repeat' (first | (simp; done) | rfl | (refine (proj_foldl State.img _ _ _ (fun _ _ => ?_)).trans ?_) | split | dsimp only)
@[simp] theorem State.mewsReply_mem (s : State) (port op : Nat) (tag : Half) (cred : Byte) (seq : Word64) (st : Status) (auth : Bool) (body : List Byte) : (s.mewsReply port op tag cred seq st auth body).mem = s.mem := by
  unfold State.mewsReply; repeat' (first | (simp; done) | rfl | (refine (proj_foldl State.mem _ _ _ (fun _ _ => ?_)).trans ?_) | split | dsimp only)
@[simp] theorem State.mewsReply_net (s : State) (port op : Nat) (tag : Half) (cred : Byte) (seq : Word64) (st : Status) (auth : Bool) (body : List Byte) : (s.mewsReply port op tag cred seq st auth body).net = s.net := by
  unfold State.mewsReply; repeat' (first | (simp; done) | rfl | (refine (proj_foldl State.net _ _ _ (fun _ _ => ?_)).trans ?_) | split | dsimp only)
@[simp] theorem State.mewsReply_blv (s : State) (port op : Nat) (tag : Half) (cred : Byte) (seq : Word64) (st : Status) (auth : Bool) (body : List Byte) : (s.mewsReply port op tag cred seq st auth body).blv = s.blv := by
  unfold State.mewsReply; repeat' (first | (simp; done) | rfl | (refine (proj_foldl State.blv _ _ _ (fun _ _ => ?_)).trans ?_) | split | dsimp only)
@[simp] theorem State.mewsReply_lamp (s : State) (port op : Nat) (tag : Half) (cred : Byte) (seq : Word64) (st : Status) (auth : Bool) (body : List Byte) : (s.mewsReply port op tag cred seq st auth body).lamp = s.lamp := by
  unfold State.mewsReply; repeat' (first | (simp; done) | rfl | (refine (proj_foldl State.lamp _ _ _ (fun _ _ => ?_)).trans ?_) | split | dsimp only)
@[simp] theorem State.mewsReply_cond (s : State) (port op : Nat) (tag : Half) (cred : Byte) (seq : Word64) (st : Status) (auth : Bool) (body : List Byte) : (s.mewsReply port op tag cred seq st auth body).cond = s.cond := by
  unfold State.mewsReply; repeat' (first | (simp; done) | rfl | (refine (proj_foldl State.cond _ _ _ (fun _ _ => ?_)).trans ?_) | split | dsimp only)
@[simp] theorem State.mewsReply_sec (s : State) (port op : Nat) (tag : Half) (cred : Byte) (seq : Word64) (st : Status) (auth : Bool) (body : List Byte) : (s.mewsReply port op tag cred seq st auth body).sec = s.sec := by
  unfold State.mewsReply; repeat' (first | (simp; done) | rfl | (refine (proj_foldl State.sec _ _ _ (fun _ _ => ?_)).trans ?_) | split | dsimp only)
@[simp] theorem State.mewsReply_pp (s : State) (port op : Nat) (tag : Half) (cred : Byte) (seq : Word64) (st : Status) (auth : Bool) (body : List Byte) : (s.mewsReply port op tag cred seq st auth body).pp = s.pp := by
  unfold State.mewsReply; repeat' (first | (simp; done) | rfl | (refine (proj_foldl State.pp _ _ _ (fun _ _ => ?_)).trans ?_) | split | dsimp only)
@[simp] theorem State.mewsReply_free (s : State) (port op : Nat) (tag : Half) (cred : Byte) (seq : Word64) (st : Status) (auth : Bool) (body : List Byte) : (s.mewsReply port op tag cred seq st auth body).free = s.free := by
  unfold State.mewsReply; repeat' (first | (simp; done) | rfl | (refine (proj_foldl State.free _ _ _ (fun _ _ => ?_)).trans ?_) | split | dsimp only)
@[simp] theorem State.mewsReply_pending (s : State) (port op : Nat) (tag : Half) (cred : Byte) (seq : Word64) (st : Status) (auth : Bool) (body : List Byte) : (s.mewsReply port op tag cred seq st auth body).pending = s.pending := by
  unfold State.mewsReply; repeat' (first | (simp; done) | rfl | (refine (proj_foldl State.pending _ _ _ (fun _ _ => ?_)).trans ?_) | split | dsimp only)

/-! ### answerCmd -/

@[simp] theorem State.answerCmd_top (s : State) (c : RunningCmd) (st : Status) (aborted other : Bool) (res : List Word) : (s.answerCmd c st aborted other res).top = s.top := by
  unfold State.answerCmd; repeat' (first | (simp; done) | rfl | (refine (proj_foldl State.top _ _ _ (fun _ _ => ?_)).trans ?_) | split | dsimp only)
@[simp] theorem State.answerCmd_ev (s : State) (c : RunningCmd) (st : Status) (aborted other : Bool) (res : List Word) : (s.answerCmd c st aborted other res).ev = s.ev := by
  unfold State.answerCmd; repeat' (first | (simp; done) | rfl | (refine (proj_foldl State.ev _ _ _ (fun _ _ => ?_)).trans ?_) | split | dsimp only)
@[simp] theorem State.answerCmd_seq (s : State) (c : RunningCmd) (st : Status) (aborted other : Bool) (res : List Word) : (s.answerCmd c st aborted other res).seq = s.seq := by
  unfold State.answerCmd; repeat' (first | (simp; done) | rfl | (refine (proj_foldl State.seq _ _ _ (fun _ _ => ?_)).trans ?_) | split | dsimp only)
@[simp] theorem State.answerCmd_sh (s : State) (c : RunningCmd) (st : Status) (aborted other : Bool) (res : List Word) : (s.answerCmd c st aborted other res).sh = s.sh := by
  unfold State.answerCmd; repeat' (first | (simp; done) | rfl | (refine (proj_foldl State.sh _ _ _ (fun _ _ => ?_)).trans ?_) | split | dsimp only)
@[simp] theorem State.answerCmd_img (s : State) (c : RunningCmd) (st : Status) (aborted other : Bool) (res : List Word) : (s.answerCmd c st aborted other res).img = s.img := by
  unfold State.answerCmd; repeat' (first | (simp; done) | rfl | (refine (proj_foldl State.img _ _ _ (fun _ _ => ?_)).trans ?_) | split | dsimp only)
@[simp] theorem State.answerCmd_mem (s : State) (c : RunningCmd) (st : Status) (aborted other : Bool) (res : List Word) : (s.answerCmd c st aborted other res).mem = s.mem := by
  unfold State.answerCmd; repeat' (first | (simp; done) | rfl | (refine (proj_foldl State.mem _ _ _ (fun _ _ => ?_)).trans ?_) | split | dsimp only)
@[simp] theorem State.answerCmd_blv (s : State) (c : RunningCmd) (st : Status) (aborted other : Bool) (res : List Word) : (s.answerCmd c st aborted other res).blv = s.blv := by
  unfold State.answerCmd; repeat' (first | (simp; done) | rfl | (refine (proj_foldl State.blv _ _ _ (fun _ _ => ?_)).trans ?_) | split | dsimp only)
@[simp] theorem State.answerCmd_lamp (s : State) (c : RunningCmd) (st : Status) (aborted other : Bool) (res : List Word) : (s.answerCmd c st aborted other res).lamp = s.lamp := by
  unfold State.answerCmd; repeat' (first | (simp; done) | rfl | (refine (proj_foldl State.lamp _ _ _ (fun _ _ => ?_)).trans ?_) | split | dsimp only)
@[simp] theorem State.answerCmd_cond (s : State) (c : RunningCmd) (st : Status) (aborted other : Bool) (res : List Word) : (s.answerCmd c st aborted other res).cond = s.cond := by
  unfold State.answerCmd; repeat' (first | (simp; done) | rfl | (refine (proj_foldl State.cond _ _ _ (fun _ _ => ?_)).trans ?_) | split | dsimp only)
@[simp] theorem State.answerCmd_sec (s : State) (c : RunningCmd) (st : Status) (aborted other : Bool) (res : List Word) : (s.answerCmd c st aborted other res).sec = s.sec := by
  unfold State.answerCmd; repeat' (first | (simp; done) | rfl | (refine (proj_foldl State.sec _ _ _ (fun _ _ => ?_)).trans ?_) | split | dsimp only)
@[simp] theorem State.answerCmd_pp (s : State) (c : RunningCmd) (st : Status) (aborted other : Bool) (res : List Word) : (s.answerCmd c st aborted other res).pp = s.pp := by
  unfold State.answerCmd; repeat' (first | (simp; done) | rfl | (refine (proj_foldl State.pp _ _ _ (fun _ _ => ?_)).trans ?_) | split | dsimp only)
@[simp] theorem State.answerCmd_free (s : State) (c : RunningCmd) (st : Status) (aborted other : Bool) (res : List Word) : (s.answerCmd c st aborted other res).free = s.free := by
  unfold State.answerCmd; repeat' (first | (simp; done) | rfl | (refine (proj_foldl State.free _ _ _ (fun _ _ => ?_)).trans ?_) | split | dsimp only)
@[simp] theorem State.answerCmd_pending (s : State) (c : RunningCmd) (st : Status) (aborted other : Bool) (res : List Word) : (s.answerCmd c st aborted other res).pending = s.pending := by
  unfold State.answerCmd; repeat' (first | (simp; done) | rfl | (refine (proj_foldl State.pending _ _ _ (fun _ _ => ?_)).trans ?_) | split | dsimp only)

/-! ### endCmd -/

@[simp] theorem State.endCmd_top (s : State) (st : Status) (res : List Word) : (s.endCmd st res).top = s.top := by
  unfold State.endCmd; repeat' (first | (simp; done) | rfl | (refine (proj_foldl State.top _ _ _ (fun _ _ => ?_)).trans ?_) | split | dsimp only)
@[simp] theorem State.endCmd_ev (s : State) (st : Status) (res : List Word) : (s.endCmd st res).ev = s.ev := by
  unfold State.endCmd; repeat' (first | (simp; done) | rfl | (refine (proj_foldl State.ev _ _ _ (fun _ _ => ?_)).trans ?_) | split | dsimp only)
@[simp] theorem State.endCmd_seq (s : State) (st : Status) (res : List Word) : (s.endCmd st res).seq = s.seq := by
  unfold State.endCmd; repeat' (first | (simp; done) | rfl | (refine (proj_foldl State.seq _ _ _ (fun _ _ => ?_)).trans ?_) | split | dsimp only)
@[simp] theorem State.endCmd_sh (s : State) (st : Status) (res : List Word) : (s.endCmd st res).sh = s.sh := by
  unfold State.endCmd; repeat' (first | (simp; done) | rfl | (refine (proj_foldl State.sh _ _ _ (fun _ _ => ?_)).trans ?_) | split | dsimp only)
@[simp] theorem State.endCmd_img (s : State) (st : Status) (res : List Word) : (s.endCmd st res).img = s.img := by
  unfold State.endCmd; repeat' (first | (simp; done) | rfl | (refine (proj_foldl State.img _ _ _ (fun _ _ => ?_)).trans ?_) | split | dsimp only)
@[simp] theorem State.endCmd_mem (s : State) (st : Status) (res : List Word) : (s.endCmd st res).mem = s.mem := by
  unfold State.endCmd; repeat' (first | (simp; done) | rfl | (refine (proj_foldl State.mem _ _ _ (fun _ _ => ?_)).trans ?_) | split | dsimp only)
@[simp] theorem State.endCmd_blv (s : State) (st : Status) (res : List Word) : (s.endCmd st res).blv = s.blv := by
  unfold State.endCmd; repeat' (first | (simp; done) | rfl | (refine (proj_foldl State.blv _ _ _ (fun _ _ => ?_)).trans ?_) | split | dsimp only)
@[simp] theorem State.endCmd_lamp (s : State) (st : Status) (res : List Word) : (s.endCmd st res).lamp = s.lamp := by
  unfold State.endCmd; repeat' (first | (simp; done) | rfl | (refine (proj_foldl State.lamp _ _ _ (fun _ _ => ?_)).trans ?_) | split | dsimp only)
@[simp] theorem State.endCmd_cond (s : State) (st : Status) (res : List Word) : (s.endCmd st res).cond = s.cond := by
  unfold State.endCmd; repeat' (first | (simp; done) | rfl | (refine (proj_foldl State.cond _ _ _ (fun _ _ => ?_)).trans ?_) | split | dsimp only)
@[simp] theorem State.endCmd_sec (s : State) (st : Status) (res : List Word) : (s.endCmd st res).sec = s.sec := by
  unfold State.endCmd; repeat' (first | (simp; done) | rfl | (refine (proj_foldl State.sec _ _ _ (fun _ _ => ?_)).trans ?_) | split | dsimp only)
@[simp] theorem State.endCmd_pp (s : State) (st : Status) (res : List Word) : (s.endCmd st res).pp = s.pp := by
  unfold State.endCmd; repeat' (first | (simp; done) | rfl | (refine (proj_foldl State.pp _ _ _ (fun _ _ => ?_)).trans ?_) | split | dsimp only)
@[simp] theorem State.endCmd_free (s : State) (st : Status) (res : List Word) : (s.endCmd st res).free = s.free := by
  unfold State.endCmd; repeat' (first | (simp; done) | rfl | (refine (proj_foldl State.free _ _ _ (fun _ _ => ?_)).trans ?_) | split | dsimp only)
@[simp] theorem State.endCmd_pending (s : State) (st : Status) (res : List Word) : (s.endCmd st res).pending = s.pending := by
  unfold State.endCmd; repeat' (first | (simp; done) | rfl | (refine (proj_foldl State.pending _ _ _ (fun _ _ => ?_)).trans ?_) | split | dsimp only)

/-! ### abortCmd -/

@[simp] theorem State.abortCmd_top (s : State) : (s.abortCmd).top = s.top := by
  unfold State.abortCmd; repeat' (first | (simp; done) | rfl | (refine (proj_foldl State.top _ _ _ (fun _ _ => ?_)).trans ?_) | split | dsimp only)
@[simp] theorem State.abortCmd_ev (s : State) : (s.abortCmd).ev = s.ev := by
  unfold State.abortCmd; repeat' (first | (simp; done) | rfl | (refine (proj_foldl State.ev _ _ _ (fun _ _ => ?_)).trans ?_) | split | dsimp only)
@[simp] theorem State.abortCmd_seq (s : State) : (s.abortCmd).seq = s.seq := by
  unfold State.abortCmd; repeat' (first | (simp; done) | rfl | (refine (proj_foldl State.seq _ _ _ (fun _ _ => ?_)).trans ?_) | split | dsimp only)
@[simp] theorem State.abortCmd_sh (s : State) : (s.abortCmd).sh = s.sh := by
  unfold State.abortCmd; repeat' (first | (simp; done) | rfl | (refine (proj_foldl State.sh _ _ _ (fun _ _ => ?_)).trans ?_) | split | dsimp only)
@[simp] theorem State.abortCmd_img (s : State) : (s.abortCmd).img = s.img := by
  unfold State.abortCmd; repeat' (first | (simp; done) | rfl | (refine (proj_foldl State.img _ _ _ (fun _ _ => ?_)).trans ?_) | split | dsimp only)
@[simp] theorem State.abortCmd_mem (s : State) : (s.abortCmd).mem = s.mem := by
  unfold State.abortCmd; repeat' (first | (simp; done) | rfl | (refine (proj_foldl State.mem _ _ _ (fun _ _ => ?_)).trans ?_) | split | dsimp only)
@[simp] theorem State.abortCmd_blv (s : State) : (s.abortCmd).blv = s.blv := by
  unfold State.abortCmd; repeat' (first | (simp; done) | rfl | (refine (proj_foldl State.blv _ _ _ (fun _ _ => ?_)).trans ?_) | split | dsimp only)
@[simp] theorem State.abortCmd_lamp (s : State) : (s.abortCmd).lamp = s.lamp := by
  unfold State.abortCmd; repeat' (first | (simp; done) | rfl | (refine (proj_foldl State.lamp _ _ _ (fun _ _ => ?_)).trans ?_) | split | dsimp only)
@[simp] theorem State.abortCmd_cond (s : State) : (s.abortCmd).cond = s.cond := by
  unfold State.abortCmd; repeat' (first | (simp; done) | rfl | (refine (proj_foldl State.cond _ _ _ (fun _ _ => ?_)).trans ?_) | split | dsimp only)
@[simp] theorem State.abortCmd_sec (s : State) : (s.abortCmd).sec = s.sec := by
  unfold State.abortCmd; repeat' (first | (simp; done) | rfl | (refine (proj_foldl State.sec _ _ _ (fun _ _ => ?_)).trans ?_) | split | dsimp only)
@[simp] theorem State.abortCmd_pp (s : State) : (s.abortCmd).pp = s.pp := by
  unfold State.abortCmd; repeat' (first | (simp; done) | rfl | (refine (proj_foldl State.pp _ _ _ (fun _ _ => ?_)).trans ?_) | split | dsimp only)
@[simp] theorem State.abortCmd_free (s : State) : (s.abortCmd).free = s.free := by
  unfold State.abortCmd; repeat' (first | (simp; done) | rfl | (refine (proj_foldl State.free _ _ _ (fun _ _ => ?_)).trans ?_) | split | dsimp only)
@[simp] theorem State.abortCmd_pending (s : State) : (s.abortCmd).pending = s.pending := by
  unfold State.abortCmd; repeat' (first | (simp; done) | rfl | (refine (proj_foldl State.pending _ _ _ (fun _ _ => ?_)).trans ?_) | split | dsimp only)

/-! ### countRefusal -/

@[simp] theorem State.countRefusal_top (s : State) (opcode : Nat) : (s.countRefusal opcode).top = s.top := by
  unfold State.countRefusal; repeat' (first | (simp; done) | rfl | (refine (proj_foldl State.top _ _ _ (fun _ _ => ?_)).trans ?_) | split | dsimp only)
@[simp] theorem State.countRefusal_ev (s : State) (opcode : Nat) : (s.countRefusal opcode).ev = s.ev := by
  unfold State.countRefusal; repeat' (first | (simp; done) | rfl | (refine (proj_foldl State.ev _ _ _ (fun _ _ => ?_)).trans ?_) | split | dsimp only)
@[simp] theorem State.countRefusal_seq (s : State) (opcode : Nat) : (s.countRefusal opcode).seq = s.seq := by
  unfold State.countRefusal; repeat' (first | (simp; done) | rfl | (refine (proj_foldl State.seq _ _ _ (fun _ _ => ?_)).trans ?_) | split | dsimp only)
@[simp] theorem State.countRefusal_sh (s : State) (opcode : Nat) : (s.countRefusal opcode).sh = s.sh := by
  unfold State.countRefusal; repeat' (first | (simp; done) | rfl | (refine (proj_foldl State.sh _ _ _ (fun _ _ => ?_)).trans ?_) | split | dsimp only)
@[simp] theorem State.countRefusal_img (s : State) (opcode : Nat) : (s.countRefusal opcode).img = s.img := by
  unfold State.countRefusal; repeat' (first | (simp; done) | rfl | (refine (proj_foldl State.img _ _ _ (fun _ _ => ?_)).trans ?_) | split | dsimp only)
@[simp] theorem State.countRefusal_mem (s : State) (opcode : Nat) : (s.countRefusal opcode).mem = s.mem := by
  unfold State.countRefusal; repeat' (first | (simp; done) | rfl | (refine (proj_foldl State.mem _ _ _ (fun _ _ => ?_)).trans ?_) | split | dsimp only)
@[simp] theorem State.countRefusal_net (s : State) (opcode : Nat) : (s.countRefusal opcode).net = s.net := by
  unfold State.countRefusal; repeat' (first | (simp; done) | rfl | (refine (proj_foldl State.net _ _ _ (fun _ _ => ?_)).trans ?_) | split | dsimp only)
@[simp] theorem State.countRefusal_blv (s : State) (opcode : Nat) : (s.countRefusal opcode).blv = s.blv := by
  unfold State.countRefusal; repeat' (first | (simp; done) | rfl | (refine (proj_foldl State.blv _ _ _ (fun _ _ => ?_)).trans ?_) | split | dsimp only)
@[simp] theorem State.countRefusal_lamp (s : State) (opcode : Nat) : (s.countRefusal opcode).lamp = s.lamp := by
  unfold State.countRefusal; repeat' (first | (simp; done) | rfl | (refine (proj_foldl State.lamp _ _ _ (fun _ _ => ?_)).trans ?_) | split | dsimp only)
@[simp] theorem State.countRefusal_cond (s : State) (opcode : Nat) : (s.countRefusal opcode).cond = s.cond := by
  unfold State.countRefusal; repeat' (first | (simp; done) | rfl | (refine (proj_foldl State.cond _ _ _ (fun _ _ => ?_)).trans ?_) | split | dsimp only)
@[simp] theorem State.countRefusal_sec (s : State) (opcode : Nat) : (s.countRefusal opcode).sec = s.sec := by
  unfold State.countRefusal; repeat' (first | (simp; done) | rfl | (refine (proj_foldl State.sec _ _ _ (fun _ _ => ?_)).trans ?_) | split | dsimp only)
@[simp] theorem State.countRefusal_mews (s : State) (opcode : Nat) : (s.countRefusal opcode).mews = s.mews := by
  unfold State.countRefusal; repeat' (first | (simp; done) | rfl | (refine (proj_foldl State.mews _ _ _ (fun _ _ => ?_)).trans ?_) | split | dsimp only)
@[simp] theorem State.countRefusal_pp (s : State) (opcode : Nat) : (s.countRefusal opcode).pp = s.pp := by
  unfold State.countRefusal; repeat' (first | (simp; done) | rfl | (refine (proj_foldl State.pp _ _ _ (fun _ _ => ?_)).trans ?_) | split | dsimp only)
@[simp] theorem State.countRefusal_out (s : State) (opcode : Nat) : (s.countRefusal opcode).out = s.out := by
  unfold State.countRefusal; repeat' (first | (simp; done) | rfl | (refine (proj_foldl State.out _ _ _ (fun _ _ => ?_)).trans ?_) | split | dsimp only)
@[simp] theorem State.countRefusal_free (s : State) (opcode : Nat) : (s.countRefusal opcode).free = s.free := by
  unfold State.countRefusal; repeat' (first | (simp; done) | rfl | (refine (proj_foldl State.free _ _ _ (fun _ _ => ?_)).trans ?_) | split | dsimp only)
@[simp] theorem State.countRefusal_pending (s : State) (opcode : Nat) : (s.countRefusal opcode).pending = s.pending := by
  unfold State.countRefusal; repeat' (first | (simp; done) | rfl | (refine (proj_foldl State.pending _ _ _ (fun _ _ => ?_)).trans ?_) | split | dsimp only)

/-! ### stopShallots -/

@[simp] theorem State.stopShallots_top (s : State) : (s.stopShallots).top = s.top := by
  unfold State.stopShallots; repeat' (first | (simp; done) | rfl | (refine (proj_foldl State.top _ _ _ (fun _ _ => ?_)).trans ?_) | split | dsimp only)
@[simp] theorem State.stopShallots_host (s : State) : (s.stopShallots).host = s.host := by
  unfold State.stopShallots; repeat' (first | (simp; done) | rfl | (refine (proj_foldl State.host _ _ _ (fun _ _ => ?_)).trans ?_) | split | dsimp only)
@[simp] theorem State.stopShallots_ev (s : State) : (s.stopShallots).ev = s.ev := by
  unfold State.stopShallots; repeat' (first | (simp; done) | rfl | (refine (proj_foldl State.ev _ _ _ (fun _ _ => ?_)).trans ?_) | split | dsimp only)
@[simp] theorem State.stopShallots_seq (s : State) : (s.stopShallots).seq = s.seq := by
  unfold State.stopShallots; repeat' (first | (simp; done) | rfl | (refine (proj_foldl State.seq _ _ _ (fun _ _ => ?_)).trans ?_) | split | dsimp only)
@[simp] theorem State.stopShallots_img (s : State) : (s.stopShallots).img = s.img := by
  unfold State.stopShallots; repeat' (first | (simp; done) | rfl | (refine (proj_foldl State.img _ _ _ (fun _ _ => ?_)).trans ?_) | split | dsimp only)
@[simp] theorem State.stopShallots_mem (s : State) : (s.stopShallots).mem = s.mem := by
  unfold State.stopShallots; repeat' (first | (simp; done) | rfl | (refine (proj_foldl State.mem _ _ _ (fun _ _ => ?_)).trans ?_) | split | dsimp only)
@[simp] theorem State.stopShallots_net (s : State) : (s.stopShallots).net = s.net := by
  unfold State.stopShallots; repeat' (first | (simp; done) | rfl | (refine (proj_foldl State.net _ _ _ (fun _ _ => ?_)).trans ?_) | split | dsimp only)
@[simp] theorem State.stopShallots_blv (s : State) : (s.stopShallots).blv = s.blv := by
  unfold State.stopShallots; repeat' (first | (simp; done) | rfl | (refine (proj_foldl State.blv _ _ _ (fun _ _ => ?_)).trans ?_) | split | dsimp only)
@[simp] theorem State.stopShallots_lamp (s : State) : (s.stopShallots).lamp = s.lamp := by
  unfold State.stopShallots; repeat' (first | (simp; done) | rfl | (refine (proj_foldl State.lamp _ _ _ (fun _ _ => ?_)).trans ?_) | split | dsimp only)
@[simp] theorem State.stopShallots_cond (s : State) : (s.stopShallots).cond = s.cond := by
  unfold State.stopShallots; repeat' (first | (simp; done) | rfl | (refine (proj_foldl State.cond _ _ _ (fun _ _ => ?_)).trans ?_) | split | dsimp only)
@[simp] theorem State.stopShallots_sec (s : State) : (s.stopShallots).sec = s.sec := by
  unfold State.stopShallots; repeat' (first | (simp; done) | rfl | (refine (proj_foldl State.sec _ _ _ (fun _ _ => ?_)).trans ?_) | split | dsimp only)
@[simp] theorem State.stopShallots_mews (s : State) : (s.stopShallots).mews = s.mews := by
  unfold State.stopShallots; repeat' (first | (simp; done) | rfl | (refine (proj_foldl State.mews _ _ _ (fun _ _ => ?_)).trans ?_) | split | dsimp only)
@[simp] theorem State.stopShallots_pp (s : State) : (s.stopShallots).pp = s.pp := by
  unfold State.stopShallots; repeat' (first | (simp; done) | rfl | (refine (proj_foldl State.pp _ _ _ (fun _ _ => ?_)).trans ?_) | split | dsimp only)
@[simp] theorem State.stopShallots_out (s : State) : (s.stopShallots).out = s.out := by
  unfold State.stopShallots; repeat' (first | (simp; done) | rfl | (refine (proj_foldl State.out _ _ _ (fun _ _ => ?_)).trans ?_) | split | dsimp only)
@[simp] theorem State.stopShallots_free (s : State) : (s.stopShallots).free = s.free := by
  unfold State.stopShallots; repeat' (first | (simp; done) | rfl | (refine (proj_foldl State.free _ _ _ (fun _ _ => ?_)).trans ?_) | split | dsimp only)
@[simp] theorem State.stopShallots_pending (s : State) : (s.stopShallots).pending = s.pending := by
  unfold State.stopShallots; repeat' (first | (simp; done) | rfl | (refine (proj_foldl State.pending _ _ _ (fun _ _ => ?_)).trans ?_) | split | dsimp only)

/-! ### endExec -/

@[simp] theorem State.endExec_top (s : State) (c : EndCause) : (s.endExec c).top = s.top := by
  unfold State.endExec; repeat' (first | (simp; done) | rfl | (refine (proj_foldl State.top _ _ _ (fun _ _ => ?_)).trans ?_) | split | dsimp only)
@[simp] theorem State.endExec_host (s : State) (c : EndCause) : (s.endExec c).host = s.host := by
  unfold State.endExec; repeat' (first | (simp; done) | rfl | (refine (proj_foldl State.host _ _ _ (fun _ _ => ?_)).trans ?_) | split | dsimp only)
@[simp] theorem State.endExec_ev (s : State) (c : EndCause) : (s.endExec c).ev = s.ev := by
  unfold State.endExec; repeat' (first | (simp; done) | rfl | (refine (proj_foldl State.ev _ _ _ (fun _ _ => ?_)).trans ?_) | split | dsimp only)
@[simp] theorem State.endExec_img (s : State) (c : EndCause) : (s.endExec c).img = s.img := by
  unfold State.endExec; repeat' (first | (simp; done) | rfl | (refine (proj_foldl State.img _ _ _ (fun _ _ => ?_)).trans ?_) | split | dsimp only)
@[simp] theorem State.endExec_mem (s : State) (c : EndCause) : (s.endExec c).mem = s.mem := by
  unfold State.endExec; repeat' (first | (simp; done) | rfl | (refine (proj_foldl State.mem _ _ _ (fun _ _ => ?_)).trans ?_) | split | dsimp only)
@[simp] theorem State.endExec_net (s : State) (c : EndCause) : (s.endExec c).net = s.net := by
  unfold State.endExec; repeat' (first | (simp; done) | rfl | (refine (proj_foldl State.net _ _ _ (fun _ _ => ?_)).trans ?_) | split | dsimp only)
@[simp] theorem State.endExec_blv (s : State) (c : EndCause) : (s.endExec c).blv = s.blv := by
  unfold State.endExec; repeat' (first | (simp; done) | rfl | (refine (proj_foldl State.blv _ _ _ (fun _ _ => ?_)).trans ?_) | split | dsimp only)
@[simp] theorem State.endExec_lamp (s : State) (c : EndCause) : (s.endExec c).lamp = s.lamp := by
  unfold State.endExec; repeat' (first | (simp; done) | rfl | (refine (proj_foldl State.lamp _ _ _ (fun _ _ => ?_)).trans ?_) | split | dsimp only)
@[simp] theorem State.endExec_cond (s : State) (c : EndCause) : (s.endExec c).cond = s.cond := by
  unfold State.endExec; repeat' (first | (simp; done) | rfl | (refine (proj_foldl State.cond _ _ _ (fun _ _ => ?_)).trans ?_) | split | dsimp only)
@[simp] theorem State.endExec_sec (s : State) (c : EndCause) : (s.endExec c).sec = s.sec := by
  unfold State.endExec; repeat' (first | (simp; done) | rfl | (refine (proj_foldl State.sec _ _ _ (fun _ _ => ?_)).trans ?_) | split | dsimp only)
@[simp] theorem State.endExec_mews (s : State) (c : EndCause) : (s.endExec c).mews = s.mews := by
  unfold State.endExec; repeat' (first | (simp; done) | rfl | (refine (proj_foldl State.mews _ _ _ (fun _ _ => ?_)).trans ?_) | split | dsimp only)
@[simp] theorem State.endExec_pp (s : State) (c : EndCause) : (s.endExec c).pp = s.pp := by
  unfold State.endExec; repeat' (first | (simp; done) | rfl | (refine (proj_foldl State.pp _ _ _ (fun _ _ => ?_)).trans ?_) | split | dsimp only)
@[simp] theorem State.endExec_out (s : State) (c : EndCause) : (s.endExec c).out = s.out := by
  unfold State.endExec; repeat' (first | (simp; done) | rfl | (refine (proj_foldl State.out _ _ _ (fun _ _ => ?_)).trans ?_) | split | dsimp only)
@[simp] theorem State.endExec_free (s : State) (c : EndCause) : (s.endExec c).free = s.free := by
  unfold State.endExec; repeat' (first | (simp; done) | rfl | (refine (proj_foldl State.free _ _ _ (fun _ _ => ?_)).trans ?_) | split | dsimp only)
@[simp] theorem State.endExec_pending (s : State) (c : EndCause) : (s.endExec c).pending = s.pending := by
  unfold State.endExec; repeat' (first | (simp; done) | rfl | (refine (proj_foldl State.pending _ _ _ (fun _ _ => ?_)).trans ?_) | split | dsimp only)

/-! ### hwFault -/

@[simp] theorem State.hwFault_top (s : State) (k : HwFault) : (s.hwFault k).top = s.top := by
  unfold State.hwFault; repeat' (first | (simp; done) | rfl | (refine (proj_foldl State.top _ _ _ (fun _ _ => ?_)).trans ?_) | split | dsimp only)
@[simp] theorem State.hwFault_host (s : State) (k : HwFault) : (s.hwFault k).host = s.host := by
  unfold State.hwFault; repeat' (first | (simp; done) | rfl | (refine (proj_foldl State.host _ _ _ (fun _ _ => ?_)).trans ?_) | split | dsimp only)
@[simp] theorem State.hwFault_ev (s : State) (k : HwFault) : (s.hwFault k).ev = s.ev := by
  unfold State.hwFault; repeat' (first | (simp; done) | rfl | (refine (proj_foldl State.ev _ _ _ (fun _ _ => ?_)).trans ?_) | split | dsimp only)
@[simp] theorem State.hwFault_img (s : State) (k : HwFault) : (s.hwFault k).img = s.img := by
  unfold State.hwFault; repeat' (first | (simp; done) | rfl | (refine (proj_foldl State.img _ _ _ (fun _ _ => ?_)).trans ?_) | split | dsimp only)
@[simp] theorem State.hwFault_mem (s : State) (k : HwFault) : (s.hwFault k).mem = s.mem := by
  unfold State.hwFault; repeat' (first | (simp; done) | rfl | (refine (proj_foldl State.mem _ _ _ (fun _ _ => ?_)).trans ?_) | split | dsimp only)
@[simp] theorem State.hwFault_net (s : State) (k : HwFault) : (s.hwFault k).net = s.net := by
  unfold State.hwFault; repeat' (first | (simp; done) | rfl | (refine (proj_foldl State.net _ _ _ (fun _ _ => ?_)).trans ?_) | split | dsimp only)
@[simp] theorem State.hwFault_blv (s : State) (k : HwFault) : (s.hwFault k).blv = s.blv := by
  unfold State.hwFault; repeat' (first | (simp; done) | rfl | (refine (proj_foldl State.blv _ _ _ (fun _ _ => ?_)).trans ?_) | split | dsimp only)
@[simp] theorem State.hwFault_lamp (s : State) (k : HwFault) : (s.hwFault k).lamp = s.lamp := by
  unfold State.hwFault; repeat' (first | (simp; done) | rfl | (refine (proj_foldl State.lamp _ _ _ (fun _ _ => ?_)).trans ?_) | split | dsimp only)
@[simp] theorem State.hwFault_cond (s : State) (k : HwFault) : (s.hwFault k).cond = s.cond := by
  unfold State.hwFault; repeat' (first | (simp; done) | rfl | (refine (proj_foldl State.cond _ _ _ (fun _ _ => ?_)).trans ?_) | split | dsimp only)
@[simp] theorem State.hwFault_sec (s : State) (k : HwFault) : (s.hwFault k).sec = s.sec := by
  unfold State.hwFault; repeat' (first | (simp; done) | rfl | (refine (proj_foldl State.sec _ _ _ (fun _ _ => ?_)).trans ?_) | split | dsimp only)
@[simp] theorem State.hwFault_mews (s : State) (k : HwFault) : (s.hwFault k).mews = s.mews := by
  unfold State.hwFault; repeat' (first | (simp; done) | rfl | (refine (proj_foldl State.mews _ _ _ (fun _ _ => ?_)).trans ?_) | split | dsimp only)
@[simp] theorem State.hwFault_pp (s : State) (k : HwFault) : (s.hwFault k).pp = s.pp := by
  unfold State.hwFault; repeat' (first | (simp; done) | rfl | (refine (proj_foldl State.pp _ _ _ (fun _ _ => ?_)).trans ?_) | split | dsimp only)
@[simp] theorem State.hwFault_out (s : State) (k : HwFault) : (s.hwFault k).out = s.out := by
  unfold State.hwFault; repeat' (first | (simp; done) | rfl | (refine (proj_foldl State.out _ _ _ (fun _ _ => ?_)).trans ?_) | split | dsimp only)
@[simp] theorem State.hwFault_free (s : State) (k : HwFault) : (s.hwFault k).free = s.free := by
  unfold State.hwFault; repeat' (first | (simp; done) | rfl | (refine (proj_foldl State.free _ _ _ (fun _ _ => ?_)).trans ?_) | split | dsimp only)
@[simp] theorem State.hwFault_pending (s : State) (k : HwFault) : (s.hwFault k).pending = s.pending := by
  unfold State.hwFault; repeat' (first | (simp; done) | rfl | (refine (proj_foldl State.pending _ _ _ (fun _ _ => ?_)).trans ?_) | split | dsimp only)

/-! ### fence -/

@[simp] theorem State.fence_top (s : State) (n : Nat) : (s.fence n).top = s.top := by
  unfold State.fence; repeat' (first | (simp; done) | rfl | (refine (proj_foldl State.top _ _ _ (fun _ _ => ?_)).trans ?_) | split | dsimp only)
@[simp] theorem State.fence_img (s : State) (n : Nat) : (s.fence n).img = s.img := by
  unfold State.fence; repeat' (first | (simp; done) | rfl | (refine (proj_foldl State.img _ _ _ (fun _ _ => ?_)).trans ?_) | split | dsimp only)
@[simp] theorem State.fence_mem (s : State) (n : Nat) : (s.fence n).mem = s.mem := by
  unfold State.fence; repeat' (first | (simp; done) | rfl | (refine (proj_foldl State.mem _ _ _ (fun _ _ => ?_)).trans ?_) | split | dsimp only)
@[simp] theorem State.fence_net (s : State) (n : Nat) : (s.fence n).net = s.net := by
  unfold State.fence; repeat' (first | (simp; done) | rfl | (refine (proj_foldl State.net _ _ _ (fun _ _ => ?_)).trans ?_) | split | dsimp only)
@[simp] theorem State.fence_blv (s : State) (n : Nat) : (s.fence n).blv = s.blv := by
  unfold State.fence; repeat' (first | (simp; done) | rfl | (refine (proj_foldl State.blv _ _ _ (fun _ _ => ?_)).trans ?_) | split | dsimp only)
@[simp] theorem State.fence_lamp (s : State) (n : Nat) : (s.fence n).lamp = s.lamp := by
  unfold State.fence; repeat' (first | (simp; done) | rfl | (refine (proj_foldl State.lamp _ _ _ (fun _ _ => ?_)).trans ?_) | split | dsimp only)
@[simp] theorem State.fence_cond (s : State) (n : Nat) : (s.fence n).cond = s.cond := by
  unfold State.fence; repeat' (first | (simp; done) | rfl | (refine (proj_foldl State.cond _ _ _ (fun _ _ => ?_)).trans ?_) | split | dsimp only)
@[simp] theorem State.fence_sec (s : State) (n : Nat) : (s.fence n).sec = s.sec := by
  unfold State.fence; repeat' (first | (simp; done) | rfl | (refine (proj_foldl State.sec _ _ _ (fun _ _ => ?_)).trans ?_) | split | dsimp only)
@[simp] theorem State.fence_mews (s : State) (n : Nat) : (s.fence n).mews = s.mews := by
  unfold State.fence; repeat' (first | (simp; done) | rfl | (refine (proj_foldl State.mews _ _ _ (fun _ _ => ?_)).trans ?_) | split | dsimp only)
@[simp] theorem State.fence_pp (s : State) (n : Nat) : (s.fence n).pp = s.pp := by
  unfold State.fence; repeat' (first | (simp; done) | rfl | (refine (proj_foldl State.pp _ _ _ (fun _ _ => ?_)).trans ?_) | split | dsimp only)
@[simp] theorem State.fence_free (s : State) (n : Nat) : (s.fence n).free = s.free := by
  unfold State.fence; repeat' (first | (simp; done) | rfl | (refine (proj_foldl State.free _ _ _ (fun _ _ => ?_)).trans ?_) | split | dsimp only)
@[simp] theorem State.fence_pending (s : State) (n : Nat) : (s.fence n).pending = s.pending := by
  unfold State.fence; repeat' (first | (simp; done) | rfl | (refine (proj_foldl State.pending _ _ _ (fun _ _ => ?_)).trans ?_) | split | dsimp only)

/-! ### endStart -/

@[simp] theorem State.endStart_top (s : State) : (s.endStart).top = s.top := by
  unfold State.endStart; repeat' (first | (simp; done) | rfl | (refine (proj_foldl State.top _ _ _ (fun _ _ => ?_)).trans ?_) | split | dsimp only)
@[simp] theorem State.endStart_ev (s : State) : (s.endStart).ev = s.ev := by
  unfold State.endStart; repeat' (first | (simp; done) | rfl | (refine (proj_foldl State.ev _ _ _ (fun _ _ => ?_)).trans ?_) | split | dsimp only)
@[simp] theorem State.endStart_seq (s : State) : (s.endStart).seq = s.seq := by
  unfold State.endStart; repeat' (first | (simp; done) | rfl | (refine (proj_foldl State.seq _ _ _ (fun _ _ => ?_)).trans ?_) | split | dsimp only)
@[simp] theorem State.endStart_sh (s : State) : (s.endStart).sh = s.sh := by
  unfold State.endStart; repeat' (first | (simp; done) | rfl | (refine (proj_foldl State.sh _ _ _ (fun _ _ => ?_)).trans ?_) | split | dsimp only)
@[simp] theorem State.endStart_img (s : State) : (s.endStart).img = s.img := by
  unfold State.endStart; repeat' (first | (simp; done) | rfl | (refine (proj_foldl State.img _ _ _ (fun _ _ => ?_)).trans ?_) | split | dsimp only)
@[simp] theorem State.endStart_mem (s : State) : (s.endStart).mem = s.mem := by
  unfold State.endStart; repeat' (first | (simp; done) | rfl | (refine (proj_foldl State.mem _ _ _ (fun _ _ => ?_)).trans ?_) | split | dsimp only)
@[simp] theorem State.endStart_blv (s : State) : (s.endStart).blv = s.blv := by
  unfold State.endStart; repeat' (first | (simp; done) | rfl | (refine (proj_foldl State.blv _ _ _ (fun _ _ => ?_)).trans ?_) | split | dsimp only)
@[simp] theorem State.endStart_lamp (s : State) : (s.endStart).lamp = s.lamp := by
  unfold State.endStart; repeat' (first | (simp; done) | rfl | (refine (proj_foldl State.lamp _ _ _ (fun _ _ => ?_)).trans ?_) | split | dsimp only)
@[simp] theorem State.endStart_cond (s : State) : (s.endStart).cond = s.cond := by
  unfold State.endStart; repeat' (first | (simp; done) | rfl | (refine (proj_foldl State.cond _ _ _ (fun _ _ => ?_)).trans ?_) | split | dsimp only)
@[simp] theorem State.endStart_sec (s : State) : (s.endStart).sec = s.sec := by
  unfold State.endStart; repeat' (first | (simp; done) | rfl | (refine (proj_foldl State.sec _ _ _ (fun _ _ => ?_)).trans ?_) | split | dsimp only)
@[simp] theorem State.endStart_pp (s : State) : (s.endStart).pp = s.pp := by
  unfold State.endStart; repeat' (first | (simp; done) | rfl | (refine (proj_foldl State.pp _ _ _ (fun _ _ => ?_)).trans ?_) | split | dsimp only)
@[simp] theorem State.endStart_free (s : State) : (s.endStart).free = s.free := by
  unfold State.endStart; repeat' (first | (simp; done) | rfl | (refine (proj_foldl State.free _ _ _ (fun _ _ => ?_)).trans ?_) | split | dsimp only)
@[simp] theorem State.endStart_pending (s : State) : (s.endStart).pending = s.pending := by
  unfold State.endStart; repeat' (first | (simp; done) | rfl | (refine (proj_foldl State.pending _ _ _ (fun _ _ => ?_)).trans ?_) | split | dsimp only)

/-! ### rotateInForce -/

@[simp] theorem State.rotateInForce_top (s : State) : (s.rotateInForce).top = s.top := by
  unfold State.rotateInForce; repeat' (first | (simp; done) | rfl | (refine (proj_foldl State.top _ _ _ (fun _ _ => ?_)).trans ?_) | split | dsimp only)
@[simp] theorem State.rotateInForce_ev (s : State) : (s.rotateInForce).ev = s.ev := by
  unfold State.rotateInForce; repeat' (first | (simp; done) | rfl | (refine (proj_foldl State.ev _ _ _ (fun _ _ => ?_)).trans ?_) | split | dsimp only)
@[simp] theorem State.rotateInForce_seq (s : State) : (s.rotateInForce).seq = s.seq := by
  unfold State.rotateInForce; repeat' (first | (simp; done) | rfl | (refine (proj_foldl State.seq _ _ _ (fun _ _ => ?_)).trans ?_) | split | dsimp only)
@[simp] theorem State.rotateInForce_sh (s : State) : (s.rotateInForce).sh = s.sh := by
  unfold State.rotateInForce; repeat' (first | (simp; done) | rfl | (refine (proj_foldl State.sh _ _ _ (fun _ _ => ?_)).trans ?_) | split | dsimp only)
@[simp] theorem State.rotateInForce_img (s : State) : (s.rotateInForce).img = s.img := by
  unfold State.rotateInForce; repeat' (first | (simp; done) | rfl | (refine (proj_foldl State.img _ _ _ (fun _ _ => ?_)).trans ?_) | split | dsimp only)
@[simp] theorem State.rotateInForce_blv (s : State) : (s.rotateInForce).blv = s.blv := by
  unfold State.rotateInForce; repeat' (first | (simp; done) | rfl | (refine (proj_foldl State.blv _ _ _ (fun _ _ => ?_)).trans ?_) | split | dsimp only)
@[simp] theorem State.rotateInForce_lamp (s : State) : (s.rotateInForce).lamp = s.lamp := by
  unfold State.rotateInForce; repeat' (first | (simp; done) | rfl | (refine (proj_foldl State.lamp _ _ _ (fun _ _ => ?_)).trans ?_) | split | dsimp only)
@[simp] theorem State.rotateInForce_cond (s : State) : (s.rotateInForce).cond = s.cond := by
  unfold State.rotateInForce; repeat' (first | (simp; done) | rfl | (refine (proj_foldl State.cond _ _ _ (fun _ _ => ?_)).trans ?_) | split | dsimp only)
@[simp] theorem State.rotateInForce_pp (s : State) : (s.rotateInForce).pp = s.pp := by
  unfold State.rotateInForce; repeat' (first | (simp; done) | rfl | (refine (proj_foldl State.pp _ _ _ (fun _ _ => ?_)).trans ?_) | split | dsimp only)
@[simp] theorem State.rotateInForce_free (s : State) : (s.rotateInForce).free = s.free := by
  unfold State.rotateInForce; repeat' (first | (simp; done) | rfl | (refine (proj_foldl State.free _ _ _ (fun _ _ => ?_)).trans ?_) | split | dsimp only)
@[simp] theorem State.rotateInForce_pending (s : State) : (s.rotateInForce).pending = s.pending := by
  unfold State.rotateInForce; repeat' (first | (simp; done) | rfl | (refine (proj_foldl State.pending _ _ _ (fun _ _ => ?_)).trans ?_) | split | dsimp only)

/-! ### toLoaded -/

@[simp] theorem State.toLoaded_ev (s : State) : (s.toLoaded).ev = s.ev := by
  unfold State.toLoaded; repeat' (first | (simp; done) | rfl | (refine (proj_foldl State.ev _ _ _ (fun _ _ => ?_)).trans ?_) | split | dsimp only)
@[simp] theorem State.toLoaded_sh (s : State) : (s.toLoaded).sh = s.sh := by
  unfold State.toLoaded; repeat' (first | (simp; done) | rfl | (refine (proj_foldl State.sh _ _ _ (fun _ _ => ?_)).trans ?_) | split | dsimp only)
@[simp] theorem State.toLoaded_img (s : State) : (s.toLoaded).img = s.img := by
  unfold State.toLoaded; repeat' (first | (simp; done) | rfl | (refine (proj_foldl State.img _ _ _ (fun _ _ => ?_)).trans ?_) | split | dsimp only)
@[simp] theorem State.toLoaded_lamp (s : State) : (s.toLoaded).lamp = s.lamp := by
  unfold State.toLoaded; repeat' (first | (simp; done) | rfl | (refine (proj_foldl State.lamp _ _ _ (fun _ _ => ?_)).trans ?_) | split | dsimp only)
@[simp] theorem State.toLoaded_cond (s : State) : (s.toLoaded).cond = s.cond := by
  unfold State.toLoaded; repeat' (first | (simp; done) | rfl | (refine (proj_foldl State.cond _ _ _ (fun _ _ => ?_)).trans ?_) | split | dsimp only)
@[simp] theorem State.toLoaded_pp (s : State) : (s.toLoaded).pp = s.pp := by
  unfold State.toLoaded; repeat' (first | (simp; done) | rfl | (refine (proj_foldl State.pp _ _ _ (fun _ _ => ?_)).trans ?_) | split | dsimp only)
@[simp] theorem State.toLoaded_free (s : State) : (s.toLoaded).free = s.free := by
  unfold State.toLoaded; repeat' (first | (simp; done) | rfl | (refine (proj_foldl State.free _ _ _ (fun _ _ => ?_)).trans ?_) | split | dsimp only)
@[simp] theorem State.toLoaded_pending (s : State) : (s.toLoaded).pending = s.pending := by
  unfold State.toLoaded; repeat' (first | (simp; done) | rfl | (refine (proj_foldl State.pending _ _ _ (fun _ _ => ?_)).trans ?_) | split | dsimp only)

/-! ### destroyKeys -/

@[simp] theorem State.destroyKeys_top (s : State) : (s.destroyKeys).top = s.top := by
  unfold State.destroyKeys; repeat' (first | (simp; done) | rfl | (refine (proj_foldl State.top _ _ _ (fun _ _ => ?_)).trans ?_) | split | dsimp only)
@[simp] theorem State.destroyKeys_host (s : State) : (s.destroyKeys).host = s.host := by
  unfold State.destroyKeys; repeat' (first | (simp; done) | rfl | (refine (proj_foldl State.host _ _ _ (fun _ _ => ?_)).trans ?_) | split | dsimp only)
@[simp] theorem State.destroyKeys_ev (s : State) : (s.destroyKeys).ev = s.ev := by
  unfold State.destroyKeys; repeat' (first | (simp; done) | rfl | (refine (proj_foldl State.ev _ _ _ (fun _ _ => ?_)).trans ?_) | split | dsimp only)
@[simp] theorem State.destroyKeys_seq (s : State) : (s.destroyKeys).seq = s.seq := by
  unfold State.destroyKeys; repeat' (first | (simp; done) | rfl | (refine (proj_foldl State.seq _ _ _ (fun _ _ => ?_)).trans ?_) | split | dsimp only)
@[simp] theorem State.destroyKeys_sh (s : State) : (s.destroyKeys).sh = s.sh := by
  unfold State.destroyKeys; repeat' (first | (simp; done) | rfl | (refine (proj_foldl State.sh _ _ _ (fun _ _ => ?_)).trans ?_) | split | dsimp only)
@[simp] theorem State.destroyKeys_img (s : State) : (s.destroyKeys).img = s.img := by
  unfold State.destroyKeys; repeat' (first | (simp; done) | rfl | (refine (proj_foldl State.img _ _ _ (fun _ _ => ?_)).trans ?_) | split | dsimp only)
@[simp] theorem State.destroyKeys_net (s : State) : (s.destroyKeys).net = s.net := by
  unfold State.destroyKeys; repeat' (first | (simp; done) | rfl | (refine (proj_foldl State.net _ _ _ (fun _ _ => ?_)).trans ?_) | split | dsimp only)
@[simp] theorem State.destroyKeys_blv (s : State) : (s.destroyKeys).blv = s.blv := by
  unfold State.destroyKeys; repeat' (first | (simp; done) | rfl | (refine (proj_foldl State.blv _ _ _ (fun _ _ => ?_)).trans ?_) | split | dsimp only)
@[simp] theorem State.destroyKeys_lamp (s : State) : (s.destroyKeys).lamp = s.lamp := by
  unfold State.destroyKeys; repeat' (first | (simp; done) | rfl | (refine (proj_foldl State.lamp _ _ _ (fun _ _ => ?_)).trans ?_) | split | dsimp only)
@[simp] theorem State.destroyKeys_cond (s : State) : (s.destroyKeys).cond = s.cond := by
  unfold State.destroyKeys; repeat' (first | (simp; done) | rfl | (refine (proj_foldl State.cond _ _ _ (fun _ _ => ?_)).trans ?_) | split | dsimp only)
@[simp] theorem State.destroyKeys_mews (s : State) : (s.destroyKeys).mews = s.mews := by
  unfold State.destroyKeys; repeat' (first | (simp; done) | rfl | (refine (proj_foldl State.mews _ _ _ (fun _ _ => ?_)).trans ?_) | split | dsimp only)
@[simp] theorem State.destroyKeys_pp (s : State) : (s.destroyKeys).pp = s.pp := by
  unfold State.destroyKeys; repeat' (first | (simp; done) | rfl | (refine (proj_foldl State.pp _ _ _ (fun _ _ => ?_)).trans ?_) | split | dsimp only)
@[simp] theorem State.destroyKeys_out (s : State) : (s.destroyKeys).out = s.out := by
  unfold State.destroyKeys; repeat' (first | (simp; done) | rfl | (refine (proj_foldl State.out _ _ _ (fun _ _ => ?_)).trans ?_) | split | dsimp only)
@[simp] theorem State.destroyKeys_free (s : State) : (s.destroyKeys).free = s.free := by
  unfold State.destroyKeys; repeat' (first | (simp; done) | rfl | (refine (proj_foldl State.free _ _ _ (fun _ _ => ?_)).trans ?_) | split | dsimp only)
@[simp] theorem State.destroyKeys_pending (s : State) : (s.destroyKeys).pending = s.pending := by
  unfold State.destroyKeys; repeat' (first | (simp; done) | rfl | (refine (proj_foldl State.pending _ _ _ (fun _ _ => ?_)).trans ?_) | split | dsimp only)

/-! ### beginCmd -/

@[simp] theorem State.beginCmd_top (s : State) (c : RunningCmd) : (s.beginCmd c).top = s.top := by
  unfold State.beginCmd; repeat' (first | (simp; done) | rfl | (refine (proj_foldl State.top _ _ _ (fun _ _ => ?_)).trans ?_) | split | dsimp only)
@[simp] theorem State.beginCmd_ev (s : State) (c : RunningCmd) : (s.beginCmd c).ev = s.ev := by
  unfold State.beginCmd; repeat' (first | (simp; done) | rfl | (refine (proj_foldl State.ev _ _ _ (fun _ _ => ?_)).trans ?_) | split | dsimp only)
@[simp] theorem State.beginCmd_seq (s : State) (c : RunningCmd) : (s.beginCmd c).seq = s.seq := by
  unfold State.beginCmd; repeat' (first | (simp; done) | rfl | (refine (proj_foldl State.seq _ _ _ (fun _ _ => ?_)).trans ?_) | split | dsimp only)
@[simp] theorem State.beginCmd_sh (s : State) (c : RunningCmd) : (s.beginCmd c).sh = s.sh := by
  unfold State.beginCmd; repeat' (first | (simp; done) | rfl | (refine (proj_foldl State.sh _ _ _ (fun _ _ => ?_)).trans ?_) | split | dsimp only)
@[simp] theorem State.beginCmd_img (s : State) (c : RunningCmd) : (s.beginCmd c).img = s.img := by
  unfold State.beginCmd; repeat' (first | (simp; done) | rfl | (refine (proj_foldl State.img _ _ _ (fun _ _ => ?_)).trans ?_) | split | dsimp only)
@[simp] theorem State.beginCmd_mem (s : State) (c : RunningCmd) : (s.beginCmd c).mem = s.mem := by
  unfold State.beginCmd; repeat' (first | (simp; done) | rfl | (refine (proj_foldl State.mem _ _ _ (fun _ _ => ?_)).trans ?_) | split | dsimp only)
@[simp] theorem State.beginCmd_net (s : State) (c : RunningCmd) : (s.beginCmd c).net = s.net := by
  unfold State.beginCmd; repeat' (first | (simp; done) | rfl | (refine (proj_foldl State.net _ _ _ (fun _ _ => ?_)).trans ?_) | split | dsimp only)
@[simp] theorem State.beginCmd_blv (s : State) (c : RunningCmd) : (s.beginCmd c).blv = s.blv := by
  unfold State.beginCmd; repeat' (first | (simp; done) | rfl | (refine (proj_foldl State.blv _ _ _ (fun _ _ => ?_)).trans ?_) | split | dsimp only)
@[simp] theorem State.beginCmd_lamp (s : State) (c : RunningCmd) : (s.beginCmd c).lamp = s.lamp := by
  unfold State.beginCmd; repeat' (first | (simp; done) | rfl | (refine (proj_foldl State.lamp _ _ _ (fun _ _ => ?_)).trans ?_) | split | dsimp only)
@[simp] theorem State.beginCmd_cond (s : State) (c : RunningCmd) : (s.beginCmd c).cond = s.cond := by
  unfold State.beginCmd; repeat' (first | (simp; done) | rfl | (refine (proj_foldl State.cond _ _ _ (fun _ _ => ?_)).trans ?_) | split | dsimp only)
@[simp] theorem State.beginCmd_sec (s : State) (c : RunningCmd) : (s.beginCmd c).sec = s.sec := by
  unfold State.beginCmd; repeat' (first | (simp; done) | rfl | (refine (proj_foldl State.sec _ _ _ (fun _ _ => ?_)).trans ?_) | split | dsimp only)
@[simp] theorem State.beginCmd_mews (s : State) (c : RunningCmd) : (s.beginCmd c).mews = s.mews := by
  unfold State.beginCmd; repeat' (first | (simp; done) | rfl | (refine (proj_foldl State.mews _ _ _ (fun _ _ => ?_)).trans ?_) | split | dsimp only)
@[simp] theorem State.beginCmd_pp (s : State) (c : RunningCmd) : (s.beginCmd c).pp = s.pp := by
  unfold State.beginCmd; repeat' (first | (simp; done) | rfl | (refine (proj_foldl State.pp _ _ _ (fun _ _ => ?_)).trans ?_) | split | dsimp only)
@[simp] theorem State.beginCmd_out (s : State) (c : RunningCmd) : (s.beginCmd c).out = s.out := by
  unfold State.beginCmd; repeat' (first | (simp; done) | rfl | (refine (proj_foldl State.out _ _ _ (fun _ _ => ?_)).trans ?_) | split | dsimp only)
@[simp] theorem State.beginCmd_free (s : State) (c : RunningCmd) : (s.beginCmd c).free = s.free := by
  unfold State.beginCmd; repeat' (first | (simp; done) | rfl | (refine (proj_foldl State.free _ _ _ (fun _ _ => ?_)).trans ?_) | split | dsimp only)
@[simp] theorem State.beginCmd_pending (s : State) (c : RunningCmd) : (s.beginCmd c).pending = s.pending := by
  unfold State.beginCmd; repeat' (first | (simp; done) | rfl | (refine (proj_foldl State.pending _ _ _ (fun _ _ => ?_)).trans ?_) | split | dsimp only)

/-! ### Shallots and pods -/

@[simp] theorem State.modMem_shal (s : State) (h : Nat) (f : Stack → Stack) (k : Nat) : (s.modMem h f).shal k = s.shal k := by simp [State.shal]
@[simp] theorem State.modMem_pod (s : State) (h : Nat) (f : Stack → Stack) (k q : Nat) : (s.modMem h f).pod k q = s.pod k q := by simp [State.pod]
@[simp] theorem State.modGw_shal (s : State) (g : Nat) (f : Gateway → Gateway) (k : Nat) : (s.modGw g f).shal k = s.shal k := by simp [State.shal]
@[simp] theorem State.modGw_pod (s : State) (g : Nat) (f : Gateway → Gateway) (k q : Nat) : (s.modGw g f).pod k q = s.pod k q := by simp [State.pod]
@[simp] theorem State.modLamp_shal (s : State) (l : Nat) (f : Lamp → Lamp) (k : Nat) : (s.modLamp l f).shal k = s.shal k := by simp [State.shal]
@[simp] theorem State.modLamp_pod (s : State) (l : Nat) (f : Lamp → Lamp) (k q : Nat) : (s.modLamp l f).pod k q = s.pod k q := by simp [State.pod]
@[simp] theorem State.modExe_shal (s : State) (f : Execution → Execution) (k : Nat) : (s.modExe f).shal k = s.shal k := by simp [State.shal]
@[simp] theorem State.modExe_pod (s : State) (f : Execution → Execution) (k q : Nat) : (s.modExe f).pod k q = s.pod k q := by simp [State.pod]
@[simp] theorem State.emit_shal (s : State) (o : Out) (k : Nat) : (s.emit o).shal k = s.shal k := by simp [State.shal]
@[simp] theorem State.emit_pod (s : State) (o : Out) (k q : Nat) : (s.emit o).pod k q = s.pod k q := by simp [State.pod]
@[simp] theorem State.msix_shal (s : State) (v : Nat) (k : Nat) : (s.msix v).shal k = s.shal k := by simp [State.shal]
@[simp] theorem State.msix_pod (s : State) (v : Nat) (k q : Nat) : (s.msix v).pod k q = s.pod k q := by simp [State.pod]
@[simp] theorem State.raise_shal (s : State) (code plaza unit : Nat) (detail : List Byte) (k : Nat) : (s.raise code plaza unit detail).shal k = s.shal k := by simp [State.shal]
@[simp] theorem State.raise_pod (s : State) (code plaza unit : Nat) (detail : List Byte) (k q : Nat) : (s.raise code plaza unit detail).pod k q = s.pod k q := by simp [State.pod]
@[simp] theorem State.sendNet_shal (s : State) (sub kind dst : Nat) (bytes : List Byte) (k : Nat) : (s.sendNet sub kind dst bytes).shal k = s.shal k := by simp [State.shal]
@[simp] theorem State.sendNet_pod (s : State) (sub kind dst : Nat) (bytes : List Byte) (k q : Nat) : (s.sendNet sub kind dst bytes).pod k q = s.pod k q := by simp [State.pod]
@[simp] theorem State.sendTo_shal (s : State) (dest kind : Nat) (bytes : List Byte) (k : Nat) : (s.sendTo dest kind bytes).shal k = s.shal k := by simp [State.shal]
@[simp] theorem State.sendTo_pod (s : State) (dest kind : Nat) (bytes : List Byte) (k q : Nat) : (s.sendTo dest kind bytes).pod k q = s.pod k q := by simp [State.pod]
@[simp] theorem State.mewsReply_shal (s : State) (port op : Nat) (tag : Half) (cred : Byte) (seq : Word64) (st : Status) (auth : Bool) (body : List Byte) (k : Nat) : (s.mewsReply port op tag cred seq st auth body).shal k = s.shal k := by simp [State.shal]
@[simp] theorem State.mewsReply_pod (s : State) (port op : Nat) (tag : Half) (cred : Byte) (seq : Word64) (st : Status) (auth : Bool) (body : List Byte) (k q : Nat) : (s.mewsReply port op tag cred seq st auth body).pod k q = s.pod k q := by simp [State.pod]
@[simp] theorem State.answerCmd_shal (s : State) (c : RunningCmd) (st : Status) (aborted other : Bool) (res : List Word) (k : Nat) : (s.answerCmd c st aborted other res).shal k = s.shal k := by simp [State.shal]
@[simp] theorem State.answerCmd_pod (s : State) (c : RunningCmd) (st : Status) (aborted other : Bool) (res : List Word) (k q : Nat) : (s.answerCmd c st aborted other res).pod k q = s.pod k q := by simp [State.pod]
@[simp] theorem State.endCmd_shal (s : State) (st : Status) (res : List Word) (k : Nat) : (s.endCmd st res).shal k = s.shal k := by simp [State.shal]
@[simp] theorem State.endCmd_pod (s : State) (st : Status) (res : List Word) (k q : Nat) : (s.endCmd st res).pod k q = s.pod k q := by simp [State.pod]
@[simp] theorem State.countRefusal_shal (s : State) (opcode : Nat) (k : Nat) : (s.countRefusal opcode).shal k = s.shal k := by simp [State.shal]
@[simp] theorem State.countRefusal_pod (s : State) (opcode : Nat) (k q : Nat) : (s.countRefusal opcode).pod k q = s.pod k q := by simp [State.pod]

end Sys2Proof.Machine
end

