-- ==== Sys2Proof/Laws/Rows.lean ====
section
/-! SUPPORT. Laws of bit fields and rows: the element read back from a packed row, its bits, and the bits of masks and merges. -/
namespace Sys2Proof.Machine

theorem bitsOf_lt (x lo n : Nat) : bitsOf x lo n < 2 ^ n := Nat.mod_lt _ (Nat.two_pow_pos n)

theorem bitsOf_testBit (x lo n i : Nat) : (bitsOf x lo n).testBit i = (decide (i < n) && x.testBit (lo + i)) := by
  simp [bitsOf, Nat.testBit_mod_two_pow, Nat.testBit_shiftRight]

theorem packN_lt (w : Nat) (f : Nat → Nat) (n : Nat) : packN w f n < 2 ^ (n * w) := by
  induction n with
  | zero => simp [packN]
  | succ n ih =>
    have h : f n % 2 ^ w < 2 ^ w := Nat.mod_lt _ (Nat.two_pow_pos w)
    have e : 2 ^ ((n + 1) * w) = 2 ^ w * 2 ^ (n * w) := by rw [← Nat.pow_add]; congr 1; rw [Nat.succ_mul, Nat.add_comm]
    have : (f n % 2 ^ w + 1) * 2 ^ (n * w) ≤ 2 ^ w * 2 ^ (n * w) := Nat.mul_le_mul_right _ h
    rw [Nat.add_mul, Nat.one_mul] at this
    unfold packN; rw [e]; omega

/-- Bit `i` of a packed number is bit `i % w` of the element that holds it. -/
theorem packN_testBit (w : Nat) (hw : 0 < w) (f : Nat → Nat) (n i : Nat) :
    (packN w f n).testBit i = (decide (i < n * w) && (f (i / w)).testBit (i % w)) := by
  induction n with
  | zero => simp [packN]
  | succ n ih =>
    have hlt := packN_lt w f n
    have e : packN w f (n + 1) = 2 ^ (n * w) * (f n % 2 ^ w) + packN w f n := by
      simp only [packN]; rw [Nat.mul_comm (f n % 2 ^ w)]; omega
    rw [e, Nat.testBit_two_pow_mul_add _ hlt]
    have hs : (n + 1) * w = n * w + w := by rw [Nat.succ_mul]
    by_cases h : i < n * w
    · rw [if_pos h, ih]
      have : i < (n + 1) * w := by omega
      simp [h, this]
    · rw [if_neg h, Nat.testBit_mod_two_pow]
      by_cases h2 : i < (n + 1) * w
      · have hd : i / w = n := by
          rw [Nat.div_eq_iff hw]; constructor
          · rw [Nat.mul_comm]; rw [Nat.mul_comm] at h; omega
          · omega
        have hm : i % w = i - n * w := by
          have := Nat.div_add_mod i w; rw [hd, Nat.mul_comm] at this; omega
        have : i - n * w < w := by omega
        simp [h2, hd, hm, this]
      · have : ¬ (i - n * w < w) := by omega
        simp [h2, this]

/-- An element read back from a packed row. -/
theorem rowU_rowOf (w n : Nat) (hw : 0 < w) (hn : n * w ≤ 4096) (f : Nat → Nat) (k : Nat) (hk : k < n) :
    rowU w k (rowOf w n f) = f k % 2 ^ w := by
  have hlt : packN w f n < 2 ^ 4096 := Nat.lt_of_lt_of_le (packN_lt w f n) (Nat.pow_le_pow_right Nat.zero_lt_two hn)
  unfold rowU rowOf
  rw [BitVec.toNat_ofNat, Nat.mod_eq_of_lt hlt]
  apply Nat.eq_of_testBit_eq
  intro i
  rw [bitsOf_testBit, packN_testBit w hw, Nat.testBit_mod_two_pow]
  by_cases h : i < w
  · have h1 : k * w + i < n * w := by
      have : (k + 1) * w ≤ n * w := Nat.mul_le_mul_right _ hk
      rw [Nat.succ_mul] at this; omega
    have h2 : (k * w + i) / w = k := by
      rw [Nat.mul_comm, Nat.mul_add_div hw, Nat.div_eq_of_lt h]; omega
    have h3 : (k * w + i) % w = i := by
      rw [Nat.mul_comm, Nat.mul_add_mod, Nat.mod_eq_of_lt h]
    simp [h, h1, h2, h3]
  · simp [h]

/-- A bit of a packed row. -/
theorem rowOf_getLsbD (w n : Nat) (hw : 0 < w) (hn : n * w ≤ 4096) (f : Nat → Nat) (i : Nat) :
    (rowOf w n f).getLsbD i = (decide (i < n * w) && (f (i / w)).testBit (i % w)) := by
  have hlt : packN w f n < 2 ^ 4096 := Nat.lt_of_lt_of_le (packN_lt w f n) (Nat.pow_le_pow_right Nat.zero_lt_two hn)
  unfold rowOf
  rw [← BitVec.testBit_toNat, BitVec.toNat_ofNat, Nat.mod_eq_of_lt hlt, packN_testBit w hw]

theorem rowU_lt (w k : Nat) (r : Row) : rowU w k r < 2 ^ w := bitsOf_lt _ _ _

/-- The mask of the enabled elements: bit `i` stands where the lowest byte of its element is enabled (R134). -/
theorem enMask_getLsbD (p : Pod) (pred : Fin 8) (w n : Nat) (hw : 0 < w) (hn : n * w ≤ 4096) (i : Nat) :
    (p.enMask pred w n).getLsbD i = (decide (i < n * w) && p.enabled pred (i / w * w / 8)) := by
  unfold Pod.enMask
  rw [rowOf_getLsbD w n hw hn]
  by_cases h : p.enabled pred (i / w * w / 8) = true
  · have : i % w < w := Nat.mod_lt _ hw
    simp [h, this]
  · simp [h]

/-- A merged row takes the bits under the mask from the new row. -/
theorem rowMerge_getLsbD (old new mask : Row) (i : Nat) :
    (rowMerge old new mask).getLsbD i = if mask.getLsbD i then new.getLsbD i else old.getLsbD i := by
  simp only [rowMerge, BitVec.getLsbD_or, BitVec.getLsbD_and, BitVec.getLsbD_not]
  cases hm : mask.getLsbD i
  · by_cases h2 : i < 4096
    · simp only [h2, decide_true, Bool.not_false, Bool.and_true, Bool.and_false, Bool.or_false, Bool.false_eq_true, if_false]
    · have : old.getLsbD i = false := BitVec.getLsbD_of_ge _ _ (by omega)
      simp [this]
  · simp

theorem upto_mem (n i : Nat) : i ∈ upto n ↔ i < n := by simp [upto]

@[simp] theorem upto_length (n : Nat) : (upto n).length = n := by simp [upto]

theorem width_pos (v : VecArgs) : 0 < v.width := by
  unfold VecArgs.width; split
  · omega
  · split <;> omega

theorem width_le (v : VecArgs) : v.width ≤ 32 := by
  unfold VecArgs.width; split
  · omega
  · split <;> omega

theorem count_width (v : VecArgs) : v.count * v.width = 4096 := by
  unfold VecArgs.count VecArgs.width; split
  · rfl
  · split <;> rfl

end Sys2Proof.Machine
end

