-- ==== Sys2Proof/Laws/Vec.lean ====
section
/-! SUPPORT. Laws of slot operations: what a slot command answers, and the row results of the lane unit. -/
namespace Sys2Proof.Machine

/-- A slot command in a form that the loader admits: the pod as the operation leaves it, and its reports. -/
theorem podOpIf_true (s : State) {ok : Bool} (h : ok = true) (r : PodRef) (f : ExecCtx → Pod → Pod × List Report) :
    s.podOpIf ok r f = .next ((s.withPod r (f (s.ctx r.sh.val) (s.podOf r)).1).told r (f (s.ctx r.sh.val) (s.podOf r)).2) := by
  subst h; rfl

@[simp] theorem told_nil (s : State) (r : PodRef) : s.told r [] = s := rfl

@[simp] theorem ctx_beat (s : State) (r : PodRef) : (s.ctx r.sh.val).beat = s.beatOf r := rfl

/-- A masked row result of the lane unit (R130, R131, R134). -/
theorem rowResult_vecWrite (s : State) (r : PodRef) (o : Nat) (v : VecArgs) (w n : Nat) (hw : 0 < w) (hn : n * w = 4096)
    (f : Nat → Nat) (val : Nat → Nat → Prop) (hv : ∀ i, i < n → val i (f i % 2 ^ w)) (reps : List Report) :
    RowResult s r (s.beatOf r + o + 1) v.d w n val (enabledBits (s.podOf r) v.pred w) reps
      (.next ((s.withPod r ((s.podOf r).vecWrite (s.ctx r.sh.val) o v w n f)).told r reps)) := by
  refine ⟨rowOf w n f, (s.podOf r).enMask v.pred w n, ?_, ?_, rfl⟩
  · intro i hi; rw [rowU_rowOf w n hw (by omega) f i hi]; exact hv i hi
  · intro b hb; rw [enMask_getLsbD _ _ w n hw (by omega)]; simp [enabledBits, hn, hb]

theorem p2_eq (n : Nat) : p2 n = (2 : Int) ^ n := by simp [p2]

theorem p2_pos (n : Nat) : 0 < p2 n := by rw [p2_eq]; exact Int.pow_pos (by decide)

theorem p2_natCast (n : Nat) : ((2 ^ n : Nat) : Int) = p2 n := rfl

/-- The low bits of an element read as signed are those of the element. -/
theorem sInt_emod (w n : Nat) : sInt w n % p2 w = ((n % 2 ^ w : Nat) : Int) := by
  have hb : bitsOf n 0 w = n % 2 ^ w := by simp [bitsOf]
  have hlt : n % 2 ^ w < 2 ^ w := Nat.mod_lt _ (Nat.two_pow_pos w)
  have hz : ((n % 2 ^ w : Nat) : Int) % p2 w = ((n % 2 ^ w : Nat) : Int) :=
    Int.emod_eq_of_lt (by omega) (by unfold p2; omega)
  unfold sInt; rw [hb]
  split
  · exact hz
  · rw [p2_natCast, Int.sub_emod_right]; exact hz

theorem uOf_congr {w : Nat} {x y : Int} (h : x % p2 w = y % p2 w) : uOf w x = uOf w y := by
  unfold uOf; rw [p2_natCast, h]

theorem uOf_natCast (w n : Nat) : uOf w (n : Int) = n % 2 ^ w := by
  unfold uOf; rw [← Int.natCast_emod]; exact Int.toNat_natCast _

theorem uOf_lt (w : Nat) (x : Int) : uOf w x < 2 ^ w := by
  have h := Int.emod_lt_of_pos x (p2_pos w)
  have h0 := Int.emod_nonneg x (Int.ne_of_gt (p2_pos w))
  unfold uOf; rw [p2_natCast]
  have : p2 w = ((2 ^ w : Nat) : Int) := rfl
  omega

theorem uOf_mod (w : Nat) (x : Int) : uOf w x % 2 ^ w = uOf w x := Nat.mod_eq_of_lt (uOf_lt w x)

theorem aU_lt (p : Pod) (v : VecArgs) (i : Nat) : p.aU v i < 2 ^ v.width := rowU_lt _ _ _

theorem bU_lt (p : Pod) (v : VecArgs) (i : Nat) : p.bU v i < 2 ^ v.width := by
  unfold Pod.bU; split
  · exact bitsOf_lt _ _ _
  · exact rowU_lt _ _ _

theorem aS_emod (p : Pod) (v : VecArgs) (i : Nat) : p.aS v i % p2 v.width = (p.aU v i : Int) % p2 v.width := by
  unfold Pod.aS rowS; rw [sInt_emod]
  rw [Nat.mod_eq_of_lt (rowU_lt _ _ _)]
  exact (Int.emod_eq_of_lt (by omega) (by have := aU_lt p v i; unfold p2; exact_mod_cast this)).symm

theorem bS_emod (p : Pod) (v : VecArgs) (i : Nat) : p.bS v i % p2 v.width = (p.bU v i : Int) % p2 v.width := by
  unfold Pod.bS; rw [sInt_emod]
  rw [Nat.mod_eq_of_lt (bU_lt _ _ _)]
  exact (Int.emod_eq_of_lt (by omega) (by have := bU_lt p v i; unfold p2; exact_mod_cast this)).symm

theorem upto_eq_range (n : Nat) : upto n = List.range n := rfl

theorem clampI_eq (lo hi x : Int) (h : lo ≤ hi) : clampI lo hi x = max lo (min hi x) := by
  unfold clampI; split
  · omega
  · split <;> omega

/-- The element read back as signed is the element's signed value. -/
theorem sInt_self (w n : Nat) (x : Int) (h : sInt w n = x) (hn : n < 2 ^ w) : sInt w (n % 2 ^ w) = x := by
  rw [Nat.mod_eq_of_lt hn]; exact h

theorem p2_ge_one (n : Nat) : 1 ≤ p2 n := by have := p2_pos n; omega

theorem clampW_eq (w : Nat) (x : Int) : clampW w x = max (- p2 (w - 1)) (min (p2 (w - 1) - 1) x) :=
  clampI_eq _ _ _ (by have := p2_pos (w - 1); omega)

theorem clampReports_eq (p : Pod) (v : VecArgs) (n : Nat) : p.clampReports v n = clampsOf p v.d n := by
  unfold Pod.clampReports clampsOf; split
  · rfl
  · cases p.tidOfRow v.d.toNat <;> rfl

theorem clampCount_eq (p : Pod) (pred : Fin 8) (w n base cw : Nat) (f : Nat → Int) :
    p.clampCount pred w n base cw f = countOf n (fun i => p.enabled pred ((base + i) * w / 8) && decide (clampW cw (f i) ≠ f i)) := by
  unfold Pod.clampCount countOf; rw [upto_eq_range, List.countP_eq_length_filter]

end Sys2Proof.Machine
end

