-- ==== Sys2Proof/Machine/Pins.lean ====
section
/-! DEFINITION. The levels of the output pins, which the state gives (R173, R465, R507, R508). -/
namespace Sys2Proof.Machine

/-- The output pins whose levels the package state gives (R506, R507). -/
structure Pins where
  /-- PKG_PWR_REQ is high -/
  pwrReq : Bool
  /-- BUSY is high -/
  busy : Bool
  /-- SWEEP_ACT is high -/
  sweepAct : Bool
  /-- the package drives SYNC_IO low; otherwise it is released -/
  syncLow : Bool
deriving DecidableEq, Repr

/-- PKG_PWR_REQ by package state (R490, R507). -/
def PkgState.pwrReq : PkgState → Bool
  | .off | .parked => false
  | _ => true

/-- BUSY by package state (R507). -/
def PkgState.busyPin : PkgState → Bool
  | .off | .bringup | .sweeping | .faulted => true
  | _ => false

/-- SYNC_IO is driven low under EXT_BARRIER while RUNNING and not ready; a replaying package releases it (R173, R183, R508). -/
def State.syncDriven (s : State) : Bool := s.top.state == .running && s.claimed 1 2 0 && !s.seq.replay && s.seq.ownReady.isNone

/-- The output pins. -/
def State.pins (s : State) : Pins :=
  { pwrReq := s.top.state.pwrReq, busy := s.top.state.busyPin,
    sweepAct := s.top.state == .sweeping || (s.top.state == .faulted && s.sec.sweepFail), syncLow := s.syncDriven }

end Sys2Proof.Machine
end

