-- ==== Sys2Proof/WellFormed.lean ====
section
/-! DEFINITION. When a command is well formed: the lengths, ranges and forms that the spec gives its operands. What an ill-formed command
would be, nothing outside the package can send. -/
namespace Sys2Proof

/-- At most the twelve arguments of the command block (R364). -/
def argsWf (a : List (BitVec 32)) : Bool := decide (a.length ≤ 12)

/-- ARG0 of RECALIBRATE names the row's scope (R369). -/
def scopeWf (scope : Nat) (a : List (BitVec 32)) : Bool := ((a[0]?).getD 0).toNat == scope

/-- A Mews request: a body of at most 16,384 bytes, and AUTH as CRED gives it (R478). -/
def mewsWf (m : MewsReq) : Bool :=
  let n := m.cred.toNat
  decide (m.body.length ≤ 16384) &&
  (if n < 16 then m.auth.length == 16 else if n = 0xFD ∨ n = 0xFE then m.auth.length == 2821 else n == 0xFF && m.auth.isEmpty)

/-- A HOST_COMMAND body that carries the given opcode (R369). -/
def opcodeWf (op : Nat) (m : MewsReq) : Bool := ((m.body[0]?).getD 0).toNat == op

/-- A host access inside BAR2, of one request (R351, R358). -/
def accessWf (off : BitVec 36) (len : Nat) : Bool := decide (0 < len) && decide (len ≤ 4096) && decide (off.toNat + len ≤ 2 ^ 36)

/-- No number twice. -/
def distinctWf : List Nat → Bool
  | [] => true
  | x :: xs => !xs.contains x && distinctWf xs

/-- What the DRAM does with a request names each unit once. -/
def envWf (e : MemEnv) : Bool := distinctWf (e.faults.map (fun f => f.unit))

/-- The tally of a SYN slot exists: 16,384 at a shallot, 65,536 at a gateway (R120, R337). -/
def synWf (a : SynArgs) : Bool :=
  let p := a.plaza.val
  (decide (p < 8) && decide (a.index.toNat < 16384)) || p == 24 || p == 25

/-- The flits of a row or a request: at least one, and at most two rows with their header (R219, R229). -/
def flitsWf (l : List RxFlit) : Bool := !l.isEmpty && decide (l.length ≤ 17)

/-- The measurements of a lane group: 16 rings, and a full set of couplings or none (R241, R268). -/
def readingWf (r : CalReading) : Bool :=
  r.codes.length == 16 && (r.couplings.isEmpty || r.couplings.length == 112)

/-- A scheduled packet: one of COUNT, with at most 8,192 bytes (R302). -/
def schedWf (p : SchedPkt) : Bool := decide (p.seq < p.count) && decide (p.data.length ≤ 8192)

/-- A Reach packet: at most 8,192 bytes of data (R321). -/
def reachWf (p : ReachIn) : Bool := decide (p.data.length ≤ 8192)

/-- The fields of an OPEN have their lengths (R451). -/
def openWf (m : OpenMsg) : Bool := m.image.length == 32 && m.ct.length == 1568 && m.confirm.length == 32

/-- The opcodes of Mews (R481). -/
def mewsOpcodes : List Nat := [0x01, 0x02, 0x03, 0x10, 0x11, 0x12, 0x13, 0x14, 0x20, 0x21, 0x22, 0x23, 0x24, 0x25, 0x26, 0x30, 0x31, 0x32, 0x40, 0x41]

/-- An opcode outside the set of its path (R369, R481). -/
def unknownWf : UnknownCmd → Bool
  | .host op a => argsWf a && !(decide (1 ≤ op.toNat) && decide (op.toNat ≤ 12))
  | .mews op m => mewsWf m && !mewsOpcodes.contains op.toNat

/-- Is the command well formed? -/
def Instr.wf : Instr → Bool
  | .loadImage a _ => argsWf a
  | .imageLoadDone .. => true
  | .start a => argsWf a
  | .stopAtStep a => argsWf a
  | .sweep a => argsWf a
  | .sweepPhaseEnd .. => true
  | .park a => argsWf a
  | .unpark m => mewsWf m && opcodeWf 6 m
  | .query a => argsWf a
  | .recalibrateFull a => argsWf a && scopeWf 0 a
  | .recalibrateGroup a => argsWf a && scopeWf 1 a
  | .replay a => argsWf a
  | .rotateKeys a => argsWf a
  | .retirePod a => argsWf a
  | .exportJournal a => argsWf a
  | .bar0BadAccess .. => true
  | .registerWrite .. => true
  | .journalTailWrite .. => true
  | .hostTailWrite .. => true
  | .bar2TargetWrite .. => true
  | .freezeWrite .. => true
  | .freqTargetWrite .. => true
  | .modeWrite .. => true
  | .slewBudgetWrite .. => true
  | .bar2Read off len env => accessWf off len && envWf env
  | .bar2Write off data => accessWf off data.length
  | .perstDeassert => true
  | .functionReady => true
  | .pcieLinkDown => true
  | .pcieLinkUp .. => true
  | .d3hotEntry => true
  | .ideKm .. => true
  | .inputWindowPoll .. => true
  | .inputWindowPullDone .. => true
  | .outputWindowPoll .. => true
  | .outputWindowPushDone .. => true
  | .stepStart .. => true
  | .loopCtl .. => true
  | .stepEnd .. => true
  | .rowRead .. => true
  | .rowWrite .. => true
  | .loadw .. => true
  | .loads .. => true
  | .loadc .. => true
  | .rowZero .. => true
  | .stream .. => true
  | .accClear .. => true
  | .accSnap .. => true
  | .accRq .. => true
  | .narrow96 .. => true
  | .wide192 .. => true
  | .out32 .. => true
  | .accAdd96 .. => true
  | .accAdd192 .. => true
  | .accAdd32 .. => true
  | .load192 .. => true
  | .send .. => true
  | .fetch .. => true
  | .recv .. => true
  | .synAdd _ a => synWf a
  | .setf _ a => synWf a
  | .waitTally _ a => synWf a
  | .waitRetest .. => true
  | .synClr _ a => synWf a
  | .vecAdd .. => true
  | .vecSub .. => true
  | .adds .. => true
  | .subs .. => true
  | .mullo .. => true
  | .mulr .. => true
  | .vecScale .. => true
  | .shl .. => true
  | .shr .. => true
  | .shru .. => true
  | .vecMin .. => true
  | .vecMax .. => true
  | .minu .. => true
  | .maxu .. => true
  | .vecAnd .. => true
  | .vecOr .. => true
  | .vecXor .. => true
  | .vecSel .. => true
  | .cmpeq .. => true
  | .cmplt .. => true
  | .cmpltu .. => true
  | .clz .. => true
  | .widen .. => true
  | .widenu .. => true
  | .narrow .. => true
  | .fexp2 .. => true
  | .flog2 .. => true
  | .frcp .. => true
  | .frsq .. => true
  | .ftanh .. => true
  | .fsigm .. => true
  | .fsgate .. => true
  | .rsum .. => true
  | .rssq .. => true
  | .rmax .. => true
  | .rmin .. => true
  | .gather .. => true
  | .scatter .. => true
  | .ldk .. => true
  | .zclr .. => true
  | .zout .. => true
  | .zacc .. => true
  | .zrcp .. => true
  | .zrsq .. => true
  | .pset .. => true
  | .pld .. => true
  | .topk .. => true
  | .tkmerge .. => true
  | .tkout .. => true
  | .tkclr .. => true
  | .rowsel .. => true
  | .rowArrival _ _ flits => flitsWf flits
  | .reqRead _ _ flits env => flitsWf flits && envWf env
  | .reqWrite _ _ flits => flitsWf flits
  | .reqAtomic _ _ flits env => flitsWf flits && envWf env
  | .linkAck .. => true
  | .linkNak .. => true
  | .linkPause .. => true
  | .linkResume .. => true
  | .replayTimeout .. => true
  | .arbiterDecision .. => true
  | .staleRequest .. => true
  | .lockLoopUpdate _ rings => rings.length == 16
  | .feedforwardUpdate .. => true
  | .ringSlip .. => true
  | .relockDone .. => true
  | .lockThermoReport .. => true
  | .mapComplete => true
  | .fadeValue .. => true
  | .driveAdjust .. => true
  | .spareReady .. => true
  | .crossfadeDeadline .. => true
  | .forcedRecessWaitEnd => true
  | .crossfade .. => true
  | .crossfadeStep .. => true
  | .p0Update .. => true
  | .p0WriteRetry .. => true
  | .calPhaseEnd rs _ => rs.all readingWf
  | .laneGroupRecal .. => true
  | .laneGroupRecalDone r => readingWf r
  | .recessDemand .. => true
  | .recessWorkDone => true
  | .drainComplete .. => true
  | .journalStallResume => true
  | .commitComplete => true
  | .restoreDone => true
  | .packageReady => true
  | .readyMsg .. => true
  | .readyResend => true
  | .domainWaitTimer => true
  | .syncIoRise => true
  | .ppsEdge => true
  | .inputStageArrival .. => true
  | .inputDelivery .. => true
  | .lateInputCopy .. => true
  | .outputArrival .. => true
  | .lagAlarm .. => true
  | .heartbeat .. => true
  | .heartbeatCheck => true
  | .claimWrite .. => true
  | .heldRelease .. => true
  | .switchoverComplete => true
  | .umpireTick => true
  | .tickTimeout => true
  | .resyncReady .. => true
  | .resyncSnapshotDone .. => true
  | .standbyBist .. => true
  | .healthReport .. => true
  | .wireTestDone .. => true
  | .bondLogRetry => true
  | .treqFrame .. => true
  | .repairFrame .. => true
  | .mapFrame .. => true
  | .echoFrame .. => true
  | .doneFrame .. => true
  | .trainTimeout .. => true
  | .sidebandClockStop .. => true
  | .governorTick .. => true
  | .freqStopEnd .. => true
  | .droopDetect .. => true
  | .railCheck .. => true
  | .sensorRead .. => true
  | .powerMeasure _ l => distinctWf (l.map (fun r => r.sh.val))
  | .wakeTick => true
  | .forecastFrame .. => true
  | .forecastHoldEnd .. => true
  | .vrLimitAssert .. => true
  | .vrLimitDeassert .. => true
  | .vrLimitTimer .. => true
  | .thermalCheck l _ => distinctWf (l.map (fun r => r.sh.val))
  | .shallotCooldownEnd .. => true
  | .thermistorRead .. => true
  | .scrubUnit .. => true
  | .rowRepair .. => true
  | .walkerStep .. => true
  | .rotateDone => true
  | .netLinkDown .. => true
  | .netLinkUp .. => true
  | .routeRestore .. => true
  | .rxFrame _ f => decide (f.payload.length ≤ f.len)
  | .neighborSolicitation .. => true
  | .ptpMessage .. => true
  | .ptpLost => true
  | .schedWindow .. => true
  | .schedData p => schedWf p
  | .schedAck .. => true
  | .schedAckTimer .. => true
  | .schedResendTimer .. => true
  | .serviceCall .. => true
  | .hello _ nonce => nonce.length == 32
  | .openSession _ m => openWf m
  | .offerExpiry => true
  | .reachLoad p env => reachWf p && envWf env
  | .reachStore p => reachWf p
  | .reachAtomic p env => reachWf p && envWf env
  | .stageWrite p => reachWf p
  | .stageLoad p _ => reachWf p
  | .refusedReply .. => true
  | .loadReply p => reachWf p
  | .reachAck p => reachWf p
  | .atomicReply p => reachWf p
  | .fetchMissing p => reachWf p
  | .reachStatus p => reachWf p
  | .reachResendTimer .. => true
  | .fenceTimeout .. => true
  | .replyStoreExpiry .. => true
  | .combineWindowEnd .. => true
  | .trngHealthFail => true
  | .keyUnwrap .. => true
  | .quorumLapse => true
  | .eventIrqTimer => true
  | .getInfo m => mewsWf m
  | .attest m => mewsWf m
  | .certChain m => mewsWf m
  | .regRead m => mewsWf m
  | .eventRead m => mewsWf m
  | .eventAck m => mewsWf m
  | .mapRead m => mewsWf m
  | .mapAck m => mewsWf m
  | .hostCommand m => mewsWf m
  | .mewsStageWrite m => mewsWf m
  | .timeSource m => mewsWf m
  | .freqSet m => mewsWf m
  | .conductorReset m => mewsWf m
  | .fieldTest m _ _ => mewsWf m
  | .mgmtNetSet m => mewsWf m
  | .fwWrite m => mewsWf m
  | .fwCommit m => mewsWf m
  | .fwBlockWrite => true
  | .packageReset m => mewsWf m
  | .plazaReset m => mewsWf m
  | .plazaResetDone .. => true
  | .shallotReset m => mewsWf m
  | .shallotResetDone .. => true
  | .credSet m => mewsWf m
  | .changeSubmit m => mewsWf m
  | .mewsMessageTimeout .. => true
  | .setEndpointId .. => true
  | .getEndpointId .. => true
  | .getMctpVersionSupport .. => true
  | .getMessageTypeSupport .. => true
  | .getVendorDefinedMessageSupport .. => true
  | .vddAonUp => true
  | .bringupPhaseEnd .. => true
  | .pkgRstAssert => true
  | .vddAonLoss .. => true
  | .perstAssert => true
  | .pcieHotReset => true
  | .pkgRstRelease => true
  | .heldRowTransferDone .. => true
  | .dutyFrameBoundary .. => true
  | .parkComplete => true
  | .nvWriteDone => true
  | .journalExportDone env => envWf env
  | .unknownCommand c => unknownWf c
  | .d3hotExit => true
  | .i3cAddressAssigned .. => true

end Sys2Proof
end

