-- ==== Sys2Proof/Tests/Slice0.lean ====
section
/-! SUPPORT. Tests: the checks on operands refuse ill-formed commands, worked values of the spec come out of the model, and for every
statement with hypotheses a state and operands meet them (`witness_<statement>`). -/
namespace Sys2Proof.Tests
open Sys2Proof Sys2Proof.Machine
set_option Elab.async false

/-! ### Small states -/

/-- Pod 0 of shallot 0. -/
def wRef : PodRef := ⟨0, 0⟩
/-- A VEC slot on words: operands in rows 1 and 2, result in row 3. -/
def wV : VecArgs := { w := 2, a := 1, b := 2, d := 3 }
/-- Right after reset with pod 0 of shallot 0 as given. -/
def wPod (q : Pod) : State := State.reset.modPod 0 0 (fun _ => q)
/-- Right after reset with shallot 0 as given. -/
def wSh (h : Shallot) : State := State.reset.modSh 0 (fun _ => h)
/-- A ready host with its link up, in a state of the package. -/
def wTop (st : PkgState) : State :=
  { State.reset with top := { State.reset.top with state := st, phase := 0 }, host := { State.reset.host with ready := true, linkUp := true } }
/-- Twelve arguments, the first ones given. -/
def wArgs (l : List Word) : List Word := (l ++ List.replicate 12 0).take 12

/-! ### Ill-formed commands are refused -/

/-- A Mews request with a body of some length and no authentication. -/
def wBody (n : Nat) : MewsReq := { cred := 0xFF, body := List.replicate n 0 }
/-- A lane group. -/
def wGroup0 : LaneRef := { plaza := 0, rx := false, lane := 0 }

theorem test_wf_arguments : (Instr.start (List.replicate 12 0)).wf = true ∧ (Instr.start (List.replicate 13 0)).wf = false := by decide
theorem test_wf_scope : (Instr.recalibrateGroup [1]).wf = true ∧ (Instr.recalibrateGroup [0]).wf = false ∧ (Instr.recalibrateFull [1]).wf = false := by decide
theorem test_wf_mews_body : (Instr.getInfo (wBody 3)).wf = true ∧ mewsWf (wBody 16385) = false := by decide +kernel
theorem test_wf_mews_auth : (Instr.getInfo { cred := 0, auth := List.replicate 16 1 }).wf = true ∧ (Instr.getInfo { cred := 0, auth := [1] }).wf = false ∧
    (Instr.getInfo { cred := 0xFF, auth := [1] }).wf = false ∧ (Instr.getInfo { cred := 0x20 }).wf = false ∧ mewsWf { cred := 0xFE, auth := List.replicate 2821 1 } = true := by decide +kernel
theorem test_wf_unpark_opcode : (Instr.unpark { cred := 0xFF, body := [6] }).wf = true ∧ (Instr.unpark { cred := 0xFF, body := [5] }).wf = false := by decide
theorem test_wf_access : (Instr.bar2Read (BitVec.ofNat 36 (2 ^ 36 - 4)) 4 {}).wf = true ∧ (Instr.bar2Read (BitVec.ofNat 36 (2 ^ 36 - 4)) 5 {}).wf = false ∧ (Instr.bar2Read 0 0 {}).wf = false ∧
    (Instr.bar2Write 0 (List.replicate 4097 0)).wf = false := by decide +kernel
theorem test_wf_units_once : (Instr.journalExportDone { faults := [{ unit := 1 }, { unit := 2 }] }).wf = true ∧ (Instr.journalExportDone { faults := [{ unit := 1 }, { unit := 1 }] }).wf = false := by decide
theorem test_wf_tally : (Instr.synAdd wRef { plaza := 7, index := 16383 }).wf = true ∧ (Instr.synAdd wRef { plaza := 7, index := 16384 }).wf = false ∧
    (Instr.synAdd wRef { plaza := 25, index := 65535 }).wf = true ∧ (Instr.synAdd wRef { plaza := 8 }).wf = false := by decide
theorem test_wf_flits : (Instr.rowArrival 8 0 []).wf = false ∧ (Instr.rowArrival 8 0 (List.replicate 17 { wave := 0, flit := 0 })).wf = true ∧
    (Instr.rowArrival 8 0 (List.replicate 18 { wave := 0, flit := 0 })).wf = false := by decide
theorem test_wf_lock_rings : (Instr.lockLoopUpdate wGroup0 (List.replicate 16 {})).wf = true ∧ (Instr.lockLoopUpdate wGroup0 []).wf = false := by decide
theorem test_wf_reading : (Instr.laneGroupRecalDone { group := wGroup0, codes := List.replicate 16 0 }).wf = true ∧ (Instr.laneGroupRecalDone { group := wGroup0, codes := [] }).wf = false ∧
    readingWf { group := wGroup0, codes := List.replicate 16 0, couplings := [1] } = false := by decide
theorem test_wf_sched : (Instr.schedData { count := 1 }).wf = true ∧ (Instr.schedData { seq := 1, count := 1 }).wf = false := by decide
theorem test_wf_reach : reachWf { data := List.replicate 8192 0 } = true ∧ reachWf { data := List.replicate 8193 0 } = false := by decide +kernel
theorem test_wf_hello : (Instr.hello .doe (List.replicate 32 0)).wf = true ∧ (Instr.hello .doe []).wf = false := by decide
theorem test_wf_open : openWf { image := List.replicate 32 0, ct := List.replicate 1568 0, confirm := List.replicate 32 0 } = true ∧ openWf {} = false := by decide +kernel
theorem test_wf_unknown : (Instr.unknownCommand (.host 13 [])).wf = true ∧ (Instr.unknownCommand (.host 12 [])).wf = false ∧ (Instr.unknownCommand (.mews 0x20 (wBody 0))).wf = false := by decide
theorem test_wf_frame : (Instr.rxFrame 0 { payload := [1], len := 1 }).wf = true ∧ (Instr.rxFrame 0 { payload := [1], len := 0 }).wf = false := by decide

/-! ### Values of the spec's worked examples and tables -/

/-- Chapter 00: a grade B part of stepping B0 and class 0x0003. -/
theorem test_identity : ({ State.reset with top := { State.reset.top with identity := 0x02B00003 } } : State).regRead 0 = 0x02B00003 := by decide +kernel
/-- Chapter 02: the QB4 byte 0x7A and the scale byte 0x3D, and element 0 as A192. -/
theorem test_qb4 : Fmt.qb4.elem 0x7A 0 = -6 ∧ Fmt.qb4.elem 0x7A 1 = 7 ∧ bexpOf 0x3D = -3 ∧ expandBlock (-6) (-3) 1 = -3 * 2 ^ 62 := by decide +kernel
/-- Chapter 02: its A96 windows at 48, 63 and 60. -/
theorem test_a96_window : toA96 (-3 * 2 ^ 62) 48 = some (-49152) ∧ toA96 (-3 * 2 ^ 62) 63 = none ∧ (toA96 (-3 * 2 ^ 62) 60).isSome = true := by decide +kernel
/-- Chapter 03: the partial sums of pods P00 and P01. -/
theorem test_partial_sums : toA96 (1665984 * 2 ^ 56) 48 = some 0x196BC000 ∧ toA96 (5 * 2 ^ 44) 48 = none := by decide +kernel
/-- Chapter 04: the table of roundings at s = 4; the mode codes are those of R74. -/
theorem test_roundings : ([40, 24, -24, -40, 44, -44, 48] : List Int).map (fun x => (roundShift x 4 0 0, roundShift x 4 1 0, roundShift x 4 2 0, roundShift x 4 3 0)) =
    [(2, 3, 2, 3), (2, 2, 1, 1), (-2, -2, -1, -1), (-2, -3, -2, -3), (3, 3, 2, 3), (-3, -3, -2, -3), (3, 3, 3, 3)] := by decide +kernel
/-- Chapter 04: x = 40 rounds up exactly when the top 4 bits of the draw are below 8. -/
theorem test_stochastic : roundShift 40 4 4 (7 * 2 ^ 60 + 5) = 3 ∧ roundShift 40 4 4 (8 * 2 ^ 60) = 2 := by decide +kernel
/-- Chapter 04: a Quay column into I8. -/
theorem test_column_i8 : roundShift (6823870469 * 2 ^ 44) 70 0 0 = 102 ∧ roundShift (6823870469 * 2 ^ 44) 70 2 0 = 101 := by decide +kernel
/-- Chapter 04: the QB8 block that carries to b = 1, and TOWARD_ZERO at b = 0. -/
theorem test_block_carry : (let l := ([130944, -131072] ++ List.replicate 30 1000 : List Int).map (fun x => (x, 0))
    ((chooseBlock l 10 8 0).2 = 1 ∧ (chooseBlock l 10 8 0).1.take 3 = [64, -64, 0]) ∧ (chooseBlock l 10 8 2).2 = 0 ∧ (chooseBlock l 10 8 2).1.take 3 = [127, -128, 0]) := by decide +kernel
/-- Chapter 04: decisions of observer 0x012 in steps 204 to 207 and 209, and the offset it is raised to in step 208. -/
theorem test_observer : (let e : ObserverEntry := { raw := BitVec.ofNat 128 (16 * 2 ^ 96 + 2 * 2 ^ 42 + 56 * 2 ^ 36 + 8 * 2 ^ 30 + 3 * 2 ^ 26 + 2 ^ 23 + 6 * 2 ^ 15 + 2 ^ 14 + 2 ^ 13) }
    let d := fun (h : List Int) (o : Int) => (decideScale (h.map some) o e).1
    d [6, 7, 7, 8] 2 = 2 ∧ d [5, 6, 7, 7] 2 = 2 ∧ d [5, 5, 6, 7] 2 = 2 ∧ d [5, 5, 5, 6] 2 = 1 ∧ d [9, 5, 5, 5] 3 = 3 ∧ raisedOffset e 1 (some 9) = 3 ∧ e.fault = false) := by decide +kernel
/-- Chapter 06: E of the four logits, and the reciprocal's exponent: only the stated ROM constants are used. -/
theorem test_fexp2 : fexp2 0 = (1073741824, false) ∧ fexp2 (-16777216) = (536870912, false) ∧ fexp2 (-50331648) = (134217728, false) ∧ (fexp2 5).2 = true := by
  refine ⟨?_, ?_, ?_, rfl⟩ <;> simp [fexp2, poly, polyStage, romC, rne, roundShift, roundUp, p2]
/-- Chapter 09: the entries of avenue 5 of S2 for H9 to pod 11 slot 3 and for H3 to pod 4 slot 0. -/
theorem test_timetable : ownerIs 0 0xC566 { source := 17, target := 11, lslot := 3 } = true ∧ ownerIs 0 0xAC80 { source := 11, target := 4, lslot := 0 } = true ∧
    ownerIs 0 0xC566 { source := 17, target := 11, lslot := 2 } = false := by decide +kernel
/-- Chapter 14: START sent to an idle package, with vector 0 masked as at reset. -/
theorem test_start_idle : ∃ t, exec (.start (wArgs [])) (wTop .idle) = .next t ∧ t.regRead 0x100008 = 0x40100303 ∧ t.host.refuseCount = 1 ∧ t.host.lastRefused = 2 ∧ t.top = (wTop .idle).top :=
  ⟨_, rfl, by decide +kernel, by decide +kernel, by decide +kernel, by decide +kernel⟩
/-- Chapter 16: CHECK of the ECHO of unit 6 in attempt 1 with map 0x000B. -/
theorem test_bond_check : bondCheck 6 1 0xB = 0xFFED := by decide
/-- Chapter 19: SOURCE of lamp L13, and the place of record 0x1A2B in the ring. -/
theorem test_event_record : (let s : State := { wTop .running with ev := { head := 0x1A2A } }
    let t := s.raise 0x3004 26 13 [0x0F, 0x01]
    t.regRead (0x1C78AC0 + 0x18) = 0xD00D3004 ∧ t.regRead (0x1C78AC0 + 0x1C) % 2 = 1 ∧ (t.regRead (0x1C78AC0 + 0x20)).toNat % 2 ^ 16 = 0x010F ∧ t.regRead 0x1C78AC0 = 0x1A2B) := by decide +kernel
/-- FIPS 202: SHAKE256 of the empty message. -/
theorem test_shake256 : shake256 32 [] = leBytes 32 0x2f76d56e64270cb5821bb862ea52cd3f24eb3e74eb3f3b23138da80b2bddb946 := by decide +kernel
/-- CRC-32C of the nine digits. -/
theorem test_crc32c : crc32c (ascii "123456789") = 0xE3069283 := by decide +kernel

/-- Chapter 08: SYNC_IO claimed twice, and the word that LOAD_STATUS then holds beside the earlier image. -/
theorem test_claim_conflict : check6 { claims := [{ resource := 1, feature := 1, count := 1, off := 0x42040 }, { resource := 1, feature := 2, count := 1, off := 0x42058 }] } =
      some { check := 6, status := .claimConflict, off := 0x42058, res := 1, idx := 0, feat := 0x00010002 } ∧
    ({ image := some {}, check := 6, status := Status.claimConflict.code } : Loader).statusWord = 0x80060009 := by decide +kernel
/-- Chapter 15: the switch-over at stage 2 reads 0x1888_000A. -/
theorem test_last_switch : lastSwitchWord { cause := 1, newActive := true, held := 10 } (5001236 - 5001100) = 0x1888000A := by decide
/-- Chapter 18: a second ROTATE_KEYS during a rotation reads 0x4030_0503. -/
theorem test_rotate_refused : ∃ t, exec (.rotateKeys (wArgs [])) { wTop .running with sec := { tenant := some {}, epoch := 7, oldLive := true } } = .next t ∧ t.regRead 0x100008 = 0x40300503 ∧ t.sec.epoch = 7 :=
  ⟨_, rfl, by decide +kernel, by decide +kernel⟩

/-! ### Hypotheses that are met: pods -/

theorem witness_VecArithmetic_elements : binForm wV = true ∧ binForm { wV with s := true, b := 15 } = true := by decide

theorem witness_VecArithmetic_clamped :
    binForm wV = true ∧ mulrForm wV = true ∧ scaleForm { wV with b := 14 } = true ∧ widenForm { wV with w := 1, b := 1 } = true := by decide

/-- A pod whose table register names `n` indices from row 4,095 on, and whose row 1 holds index 0 and, in element 1, index 1. -/
def wRowsel (n : Nat) : Pod :=
  { k := Tbl.set {} 15 (BitVec.ofNat 32 (n * 2 ^ 16 + 4095)), store := Tbl.set {} 1 (BitVec.ofNat 4096 (2 ^ 32)) }

theorem witness_VecMovedValues :
    binForm wV = true ∧ noSForm wV = true ∧ widenForm { wV with w := 0, b := 3 } = true ∧ gatherForm { wV with b := 4064 } = true ∧
    scatterForm { wV with d := 4064 } = true ∧ ctlForm wV = true ∧
    (let q := (wPod (wRowsel 2)).podOf wRef
     let x := fun (i : Nat) => rowU 32 i (q.rowA wV)
     x 0 = 0 ∧ (q.k.get 15).toNat / 2 ^ 16 % 4096 = 2 ∧ (q.k.get 15).toNat % 4096 + 0 = 4095 ∧ x 1 = 1) := by decide +kernel

theorem witness_VecPredicatesAndFunctions_predicates : cmpForm { wV with d := 1 } = true ∧ cmpForm { wV with w := 0, d := 7 } = true ∧ predForm { wV with d := 7 } = true := by decide

theorem witness_VecPredicatesAndFunctions_functions :
    funcForm wV = true ∧ (0 : Int) < 1 ∧ (-32 * p2 24 - 1 < -32 * p2 24) ∧ (0 < 2 ^ 30 - 1 ∧ 2 ^ 30 - 1 < 2 ^ 30) ∧ (2 ^ 31 ≤ 2 ^ 31) ∧
    (0 < 2 ^ 29 - 1 ∧ 2 ^ 29 - 1 < 2 ^ 29) ∧ 16 * p2 16 ≤ 16 * p2 16 ∧ (0 : Int) < 32 * p2 16 - 1 ∧ 32 * p2 16 - 1 < 32 * p2 16 ∧
    -32 * p2 16 ≤ -32 * p2 16 := by decide

theorem witness_VecReductionsAndZReads_reductions :
    noSForm wV = true ∧ rssqForm { wV with w := 1 } = true ∧ ctlForm wV = true ∧ zclrForm { wV with b := 2 } = true := by decide

theorem witness_VecReductionsAndZReads_z_reads :
    ctlForm wV = true ∧ zrcpForm { wV with d := 14, b := 30 } = true ∧
    (let z := fun (q : Pod) => ((wPod q).podOf wRef).z.get (wV.a.toNat % 8)
     (z { z := Tbl.set {} 1 { v := 5, ovf := true } }).ovf = true ∧
     ((z {}).ovf = false ∧ (z {}).v.toInt ≤ 0) ∧
     ((z { z := Tbl.set {} 1 { v := 1, ovf := false } }).ovf = false ∧ 0 < (z { z := Tbl.set {} 1 { v := 1, ovf := false } }).v.toInt)) := by decide +kernel

theorem witness_TopKKeepsTheLargest :
    topkForm { wV with b := 0x3F0 } = true ∧ ctlForm wV = true ∧ (wPod {}).podOf wRef = { } ∧
    (let t : List TopEntry := [{ v := 5, i := 7 }, { v := 5, i := 9 }, { v := 2, i := 1 }]
     t.Pairwise (fun x y => y.v.toInt < x.v.toInt ∨ (x.v = y.v ∧ x.i.toNat < y.i.toNat)) ∧ ∀ x ∈ t, x.i ≠ 0xFFFFFFFF) := by decide +kernel

/-- An A96 descriptor: TID 3, rows 16 to 19. -/
def wA96 : Entry128 := BitVec.ofNat 128 (13 + 3 * 2 ^ 48 + 16 * 2 ^ 64 + 3 * 2 ^ 100)
/-- A pod that holds it as descriptor 5. -/
def wA96Pod : Pod := { descs := Tbl.set {} 5 (some wA96) }
/-- The same pod in a wide execution. -/
def wWide : State := { wPod wA96Pod with seq := { exe := { wide := true } } }

theorem witness_RowOperations_transfers :
    ((0 : Fin 5) = 0 ∧ ((wPod {}).podOf wRef).rowPath = 0 ∧ (wPod {}).rowTraining 0 0 = false) ∧
    plainRowForm { addr := 4095 } = true ∧ ¬ ((wPod {}).seq.exe.wide = true ∧ true = true) ∧
    (wWide.podOf wRef).a96OfRow 15 = none ∧ (wWide.podOf wRef).a96OfRow 16 = some wA96 ∧ (wWide.podOf wRef).a96OfRow 19 = some wA96 ∧
    (wWide.podOf wRef).a96OfRow 20 = none ∧ descDataRow wA96 + 2 * (19 - descDataRow wA96) = 22 ∧
    pairForm { fpair := 0x12, part := 7 } = true ∧ loadsForm { fpair := 0x0C, part := 6 } = true ∧ (pairOf 0x0C).isSome = true ∧
    loadcForm { fpair := 0x0D, part := 3 } = true := by decide +kernel

/-- A pod whose row group 2 has used its sixteen spares, or none, with a row path. -/
def wBond (full : Bool) (path : BitVec 2) : State :=
  wSh { pods := Tbl.set {} 0 { rowPath := path }, bonds := if full then Tbl.set {} 2 { logged := List.range 16 } else {} }

theorem witness_RowOperations_bond_costs :
    plainRowForm {} = true ∧ (wBond false 0).rowTraining 0 0 = false ∧ ((wBond false 1).podOf wRef).rowPath = 1 ∧
    (((wBond false 0).podOf wRef).rowPath = 0 ∧ 1 ≤ 3 ∧ ¬ groupSpares 2 ≤ (((wBond false 0).shal 0).bond 0 2).marked.length) ∧
    (((wBond true 0).podOf wRef).rowPath = 0 ∧ groupSpares 2 ≤ (((wBond true 0).shal 0).bond 0 2).marked.length) := by decide +kernel

theorem witness_WritesAndReportsLand_writes :
    let e : Pend := { vis := 5, w := .accTerms [1, -1] }
    ({ pend := [e] } : Pod).pend = [e] ∧ 4 < e.vis ∧ e.vis ≤ 5 ∧ ({ vis := 5, w := .storeRow 7 1 1 } : Pend).w = .storeRow 7 1 1 ∧
    ({ w := .buf 1 {} } : Pend).w = .buf 1 {} ∧ ({ w := .laneTerms [2] } : Pend).w = .laneTerms [2] := by decide +kernel

/-- A bank of pair 0x07 in a pod. -/
def wArr : State := wPod { banks := Tbl.set {} 0 { fpair := 7 } }

theorem witness_StreamTerms :
    ∃ p, pairOf (((wArr.podOf wRef).banks.get 0).fpair.toNat) = some p ∧ (true = true → p.a32 = true) ∧ p.a.blocks - p.k / 32 + p.k / 32 ≤ p.a.blocks ∧ p.w ≠ .t2 :=
  ⟨⟨.i8, .i8, 64, 64, 1, 8, true⟩, by decide +kernel, by decide, by decide, by decide⟩

theorem witness_AccTransfers_moves : ({ src := .accs, part := 1 } : AccArgs).src = .accs ∧ ({ src := .accs, part := 1 } : AccArgs).part.val < 2 ∧
    ({ src := .lanes, part := 1 } : AccArgs).src = .lanes := by decide

theorem witness_AccTransfers_outputs : ({ part := 1 } : AccArgs).src = .accs ∧ (∀ i, (((wPod {}).podOf wRef).accs.get i).ovf = false) ∧
    ((wPod {}).ctx 0).wide = false ∧ (wWide.ctx 0).wide = true :=
  ⟨rfl, fun _ => by simp [wPod, State.podOf, wRef, Tbl.get, State.pod, State.shal, State.modPod, State.modSh, State.reset]; rfl, by decide +kernel, by decide +kernel⟩

/-- A pod with an I8 descriptor. -/
def wI8 : State := wPod { descs := Tbl.set {} 0 (some (BitVec.ofNat 128 (3 + 9 * 2 ^ 48))) }

theorem witness_AccRequantised : ({ src := .lanes, part := 1 } : AccArgs).src = .lanes ∧
    (let f := descFmt ((wI8.podOf wRef).desc 0)
     f = .i8 ∧ f.isBlock = false ∧ f.isAcc = false ∧ (14 : BitVec 6).toNat * 32 + 64 ≤ f.perRow) := by decide +kernel

/-- A transfer entry: DEST, UNIT and LSLOT, FLITS and barrier. -/
def wXfer (dest unit lslot flits : Nat) : Entry128 := BitVec.ofNat 128 (dest + unit * 2 ^ 5 + lslot * 2 ^ 14 + flits * 2 ^ 18)

theorem witness_StTransfers :
    let s := fun (q : Pod) => (wPod q).podOf wRef
    ((s { landing := Tbl.set {} 3 { complete := true } }).landing.get 3).complete = true ∧ ((s {}).landing.get 3).complete = false ∧
    (xferLslot (wXfer 23 0 15 7) = 15 ∧ 8 ≤ xferDest (wXfer 23 0 15 7) ∧ xferDest (wXfer 23 0 15 7) < 24) ∧ xferLslot (wXfer 8 0 14 7) ≠ 15 ∧
    xferDest (wXfer 0 511 1 7) = 0 ∧ (xferDest (wXfer 7 0 1 7) ≠ 0 ∧ xferDest (wXfer 7 0 1 7) < 8 ∧ (wPod {}).seq.exe.wide = false) := by decide +kernel

/-- Street 0 to 1 with some wavelengths down. -/
def wStreet (downs : List Nat) : State :=
  { State.reset with blv := { streets := Tbl.set {} (streetIx 0 1) { waves := downs.foldl (fun (t : Tbl Wave) w => t.set w { down := true }) {} } } }

theorem witness_LinksAndReplay_sends :
    (0x4000 < 2 ^ 16 ∧ 0x4000 / 2 ^ 14 ≠ 3 ∧ 2 ^ 512 - 1 < 2 ^ 512 ∧ 63 < streetWidth 0 1) ∧
    (∀ v, v < streetWidth 0 1 → (((wStreet (List.range 64)).street 0 1).waves.get v).up = false) ∧
    (let t := (wStreet [63]).street 0 1
     let x := t.waves.get 0
     (∀ i, i < 1 → (t.waves.get ((63 + i) % 64)).up = false) ∧ x.up = true ∧ x.queue = [] ∧ x.paused = false ∧ x.replay.length < 32) := by decide +kernel

/-- A step under way. -/
def wExec : State := { State.reset with top := { State.reset.top with state := .running }, seq := { phase := .execute } }

theorem witness_TallyOperations :
    ((7 < 8 ∧ (16383 : BitVec 16).toNat < 16384) ∧ State.reset.executing = false ∧ wExec.executing = true ∧ ¬ ∃ x ∈ wExec.seq.tallySave, x.1 = 7) ∧
    ((0 : BitVec 8).toNat ≤ (State.reset.tally 24 5).value.toNat ∧ (State.reset.tally 25 5).value.toNat < (1 : BitVec 8).toNat) := by decide +kernel

/-- Shallot 0 with two pods. -/
def wTwo (a b : Pod) : State := wSh { placed := true, pods := Tbl.set (Tbl.set {} 0 a) 1 b }

theorem witness_LoopsAndStepEdges_loops_and_end :
    ({ loops := [{}, {}] } : Pod).loops.length < 3 ∧ 3 ≤ ({ loops := [{}, {}, {}] } : Pod).loops.length ∧
    ((wTwo {} {}).podOf wRef).issuing = false ∧ ((wTwo { issuing := true } { issuing := true }).podOf wRef).issuing = true ∧
    (∃ p, p ≠ 0 ∧ ∃ c ∈ ((wTwo { issuing := true } { issuing := true }).shal 0).pods.cells, c.1 = p ∧ c.2.issuing = true) ∧
    ((wTwo { issuing := true } {}).shal 0).pods.wf = true ∧
    (¬ ∃ p, p ≠ 0 ∧ ∃ c ∈ ((wTwo { issuing := true } { lastPc := 1 }).shal 0).pods.cells, c.1 = p ∧ c.2.issuing = true) ∧
    (∀ m, m < 8 → ((wTwo {} {}).shal m).placed = true → ((wTwo {} {}).seq.done ||| BitVec.ofNat 8 (2 ^ 0)).getLsbD m = true) ∧
    wExec.seq.phase = .execute ∧ State.reset.seq.phase ≠ .execute :=
  ⟨by decide, by decide, by decide +kernel, by decide +kernel, ⟨1, by decide, by decide +kernel⟩, by decide +kernel,
   fun ⟨_, h, c, hc, h1, h2⟩ => absurd (⟨c, hc, h1 ▸ h, h2⟩ : ∃ c ∈ ((wTwo { issuing := true } { lastPc := 1 }).shal 0).pods.cells, c.1 ≠ 0 ∧ c.2.issuing = true)
     (by decide +kernel),
   by decide +kernel, by decide, by decide⟩

/-- The step that may start now, with or without a fenced shallot that an image places. -/
def wStart (fenced : Bool) : State :=
  { wSh { placed := true, fenced := fenced } with top := { State.reset.top with state := .running }, seq := { phase := .start, startAt := some 0 } }

theorem witness_LoopsAndStepEdges_start :
    let s := wStart false
    (s.seq.startAt = some 0 ∧ s.top.state = .running ∧ s.seq.phase = .start ∧ 0 ≤ s.top.now ∧ s.seq.grant = none ∧ (s.seq.exe.first && s.cond.resyncing) = false ∧
      ∀ n, n < 8 → (s.shal n).placed = true → (s.shal n).resetting = false) ∧ s.placedFence = false ∧ (wStart true).placedFence = true := by decide +kernel

/-! ### Hypotheses that are met: memory stacks -/

/-- A region of 1 MiB on stack 0 that may be read, written and changed by atomics. -/
def wRegion : Region := { flags := 0x38, stackMask := 1, size := 2 ^ 20 }
/-- An image with that region as region 3. -/
def wImg : Image := { regions := Tbl.set {} 3 (some wRegion) }
/-- A package with it, whose stack 0 serves under a RUN key. -/
def wMem : State := { State.reset with img := { image := some wImg }, mem := Tbl.set {} 0 { valid := true, keyRun := some 1 }, sec := { draws := 2 } }
/-- A request of one unit at the end of the region, tag 5, from plaza 0. -/
def wReq (op aop : Nat) : Nat × Flit :=
  (0, BitVec.ofNat 544 (reqHeader 5 * 2 ^ 528 + reqPayload { rtag := 5, offset := 2 ^ 14 - 1, region := 3, aop := aop, op := op } * 2 ^ 16))
/-- Its data flit. -/
def wData : Flit := BitVec.ofNat 544 (dataHeader 0 true 5 * 2 ^ 528 + 7 * 2 ^ 16)
/-- The package with flits that wait at stack 0. -/
def wBuf (l : List (Nat × Flit)) : State := { wMem with blv := { rxBuf := Tbl.set {} (streetIx 0 8) l } }

/-- The state once a request and its data are out of the buffer. -/
def wTake (s : State) (src h : Nat) (flits : List RxFlit) (e : Nat × Flit) (data : List Flit) : State :=
  let k := streetIx src (8 + h)
  let a := s.rxFlits src (8 + h) flits
  let l := a.1.blv.rxBuf.get k ++ a.2.filter (fun e => flitKind e.2 == 1 || flitKind e.2 == 2)
  let u := { a.1 with blv := { a.1.blv with rxBuf := a.1.blv.rxBuf.set k l } }
  { u with blv := { u.blv with rxBuf := u.blv.rxBuf.set k (data.foldl (fun l f => l.eraseP (fun x => x.2 == f)) (l.erase e)) } }

/-- A gate die takes a request that it finds, with its data. -/
theorem gateTakes_of (s : State) (src h : Nat) (flits : List RxFlit) (mine : Nat → Bool) (e : Nat × Flit) (data : List Flit)
    (h1 : (let k := streetIx src (8 + h)
           let a := s.rxFlits src (8 + h) flits
           let l := a.1.blv.rxBuf.get k ++ a.2.filter (fun e => flitKind e.2 == 1 || flitKind e.2 == 2)
           let u := { a.1 with blv := { a.1.blv with rxBuf := a.1.blv.rxBuf.set k l } }
           l.find? (fun e => flitKind e.2 == 2 && mine (reqFields e.2).op && u.canServe h l (reqFields e.2)) = some e ∧
           reqData l (reqFields e.2) (reqFields e.2).needs = some data)) :
    GateTakes s src h flits mine (wTake s src h flits e data) (reqFields e.2) data := ⟨e, h1.1, rfl, h1.2, rfl⟩

/-- What is there is there. -/
theorem some_getD {α : Type} (x : Option α) (d : α) (h : x.isSome = true) : x = some (x.getD d) := by cases x <;> simp_all

/-- The states after the requests of the tests are taken. -/
def wT (op aop : Nat) (d : List Flit) : State := wTake (wBuf (wReq op aop :: d.map (fun f => (1, f)))) 0 0 [] (wReq op aop) d
/-- The fields of the request of a test. -/
def wQ (op aop : Nat) : ReqFields := reqFields (wReq op aop).2

theorem witness_RequestsAtGateDies_reads :
    GateTakes (wBuf [wReq 1 0]) 0 0 [] (fun op => op != 2 && op != 3) (wT 1 0 []) (wQ 1 0) [] ∧ (wQ 1 0).op = 1 ∧ ({} : MemEnv).faults = [] ∧
    (wT 1 0 []).region (wQ 1 0).region = some wRegion ∧ wRegion.holds (64 * (wQ 1 0).offset) (64 * ((wQ 1 0).flits + 1)) = true ∧ (wQ 1 0).flits = 0 ∧
    ((wT 1 0 []).mem.get (wRegion.unit (wQ 1 0).offset).1).lost.contains (wRegion.unit (wQ 1 0).offset).2 = false ∧
    ((wT 1 0 []).unitBytes (wRegion.unit (wQ 1 0).offset).1 (wRegion.unit (wQ 1 0).offset).2 wRegion.session).isSome = true :=
  ⟨gateTakes_of _ 0 0 [] _ _ [] (by decide +kernel), by decide +kernel⟩

theorem witness_RequestsAtGateDies_writes :
    GateTakes (wBuf [wReq 2 0, (1, wData)]) 0 0 [] (fun op => op == 2) (wT 2 0 [wData]) (wQ 2 0) [wData] ∧ (wQ 2 0).op = 2 ∧
    (wT 2 0 [wData]).region (wQ 2 0).region = some wRegion ∧ (wRegion.base + wRegion.size ≤ 2 ^ 36 ∧ wRegion.base % 64 = 0) ∧
    wRegion.holds (64 * (wQ 2 0).offset) (64 * ((wQ 2 0).flits + 1)) = true ∧ [wData][0]? = some wData ∧ wRegion.session = false ∧
    ({ wRegion with flags := 0x39 } : Region).session = true ∧ (({ valid := true, keyEven := some 1 } : Stack).sessionKey false).isSome = true :=
  ⟨gateTakes_of _ 0 0 [] _ _ [wData] (by decide +kernel), by decide +kernel⟩

theorem witness_RequestsAtGateDies_atomics :
    let t := wT 3 0x81 [wData]
    let q := wQ 3 0x81
    GateTakes (wBuf [wReq 3 0x81, (1, wData)]) 0 0 [] (fun op => op == 3) t q [wData] ∧ q.op = 3 ∧ t.region q.region = some wRegion ∧
    (wRegion.base + wRegion.size ≤ 2 ^ 36 ∧ wRegion.base % 64 = 0) ∧ wRegion.holds (64 * q.offset) (64 * (q.flits + 1)) = true ∧ (wRegion.unit q.offset).1 = 0 ∧
    (GateTakes (wBuf [wReq 3 0x7F, (1, wData)]) 0 0 [] (fun op => op == 3) (wT 3 0x7F [wData]) (wQ 3 0x7F) [wData] ∧ aopOk (wQ 3 0x7F).aop (wQ 3 0x7F).flits = false) ∧
    aopOk q.aop q.flits = true ∧ q.aop % 128 ≠ 11 ∧ q.flits = 0 ∧ (t.mem.get 0).lost.contains (wRegion.unit q.offset).2 = false ∧
    (t.unitBytes 0 (wRegion.unit q.offset).2 wRegion.session).isSome = true :=
  ⟨gateTakes_of _ 0 0 [] _ _ [wData] (by decide +kernel), by
    repeat' refine And.intro ?_ ?_
    all_goals first | exact gateTakes_of _ 0 0 [] _ _ [wData] (by decide +kernel) | decide +kernel⟩

/-- Stack 0 as given. -/
def wStack (m : Stack) : State := { wMem with mem := Tbl.set {} 0 m }

theorem witness_GateDieWork :
    ({} : Stack).serves = false ∧ ((wMem.mem.get 0).serves = true ∧ (2 ^ 30 - 2 : BitVec 30).toNat ≠ 2 ^ 30 - 1) ∧
    ({ lost := [7] } : Stack).lost.contains 7 = true ∧ ((wMem.mem.get 0).lost.contains 7 = false ∧ (wMem.mem.get 0).lost.length < 256) ∧
    (wMem.mem.get 0).corrected.get 4 + 1 ≠ 16 ∧ (2 ^ 30 - 1 : BitVec 30).toNat = 2 ^ 30 - 1 ∧
    (4 ∈ ({ repairs := [4] } : Stack).repairs ∧ ({ wMem with seq := { phase := .recess } } : State).seq.phase = .recess) ∧
    ((wMem.mem.get 0).walking = false ∧ ((wStack { walking := true }).mem.get 0).walking = true ∧ (wStack { walking := true }).nextSessionUnit 0 0 = none) ∧
    (let s : State := { wStack { valid := true, walking := true, epoch := true, keyEven := some 1, keyOdd := some 2 } with
       img := { image := some { regions := Tbl.set {} 3 (some { wRegion with flags := 0x39 }) } } }
     s.nextSessionUnit 0 0 = some 0 ∧ (s.mem.get 0).lost.contains 0 = false ∧ (s.tags.get (hbmUnit 0 0)).epoch ≠ (s.mem.get 0).epoch ∧
     ((s.mem.get 0).sessionKey (s.mem.get 0).epoch).isSome = true ∧ (s.unitBytes 0 0 true).isSome = true) := by decide +kernel

/-- The eight flits of a row for pod 9, slot 3 wait at the ingress of shallot 1; their route word 1 and LAST as given. -/
def wRow (r1 : Nat) (last : Bool) : List (Nat × Flit) :=
  (List.range 8).map (fun p => (p, BitVec.ofNat 544 (dataHeader p (last || decide (p < 7)) (if p % 4 = 0 then 9 else if p % 4 = 1 then r1 else 0) * 2 ^ 528 + p * 2 ^ 16)))

theorem witness_RowsArriveAndLand_arrivals :
    let a := fun (fs : List (Nat × Flit)) => ({ State.reset with blv := { rxBuf := Tbl.set {} (streetIx 0 1) fs } } : State).rxFlits 0 1 []
    let l := fun (fs : List (Nat × Flit)) => (a fs).1.blv.rxBuf.get (streetIx 0 1) ++ (a fs).2.filter (fun e => flitKind e.2 == 1)
    let W := streetWidth 0 1
    let ok := fun (r1 : Nat) (last : Bool) =>
      let m := l (wRow r1 last)
      let t := (a (wRow r1 last)).1.street 0 1
      let e := fun (p : Nat) => (m[p]?).getD default
      (0 < W ∧ ∀ p, p < 8 → m.find? (fun x => flitPart x.2 == p && t.next W ((0 + p) % W) == some x.1) = some (e p)) ∧
      (∀ p, p < 4 → flitRoute (e p).2 = flitRoute (e (p + 4)).2) ∧ (List.range 8).foldl (fun l p => l.erase (e p)) m = [] ∧
      flitLast (e 7).2 = last ∧ flitRoute (e 1).2 = r1
    ((l ((wRow 3 true).take 7)).all (fun x => flitPart x.2 != 7) = true) ∧ ok 3 true ∧ ok 3 false ∧ ok (3 + 512) true ∧ ok (3 + 256) true ∧
    ({ firstHalf := Tbl.set {} 5 (some 1) } : Boulevard).firstHalf.get 5 = some 1 := by decide +kernel

theorem witness_RowsArriveAndLand_landing :
    let st := fun (g : Option ArbReq) (issuing : Bool) => ({ wPod { issuing := issuing } with blv := { arbs := Tbl.set {} (arbIx 0 0 0) { granted := g } } } : State)
    let row : ArbReq := { source := 2, lslot := 3 }
    let bar : ArbReq := { source := 2, lslot := 3, barrierRow := some 5 }
    ((st none true).arb (arbIx 0 0 0)).granted = none ∧ ((st (some row) false).arb (arbIx 0 0 0)).granted = some row ∧ row.barrierRow = none ∧
    (((st (some bar) true).arb (arbIx 0 0 0)).granted = some bar ∧ ((st (some bar) true).pod 0 0).issuing = true) ∧
    (((st (some bar) false).arb (arbIx 0 0 0)).granted = some bar ∧ bar.barrierRow = some 5 ∧ bar.wide = false ∧ ((st (some bar) false).pod 0 0).issuing = false) := by decide +kernel

/-! ### Hypotheses that are met: the Boulevard, lamps and calibration -/

/-- Wavelength 0 of street 0 to 1 as given. -/
def wWave (x : Wave) : State := { State.reset with blv := { streets := Tbl.set {} (streetIx 0 1) { waves := Tbl.set {} 0 x } } }

theorem witness_LinksAndReplay_replay :
    let x := fun (w : Wave) => ((wWave w).street 0 1).waves.get 0
    let two : List (BitVec 5 × Flit) := [(30, 1), (31, 2)]
    ((x { replay := two, fails := 8 }).replay = [(30, 1)] ++ (31, 2) :: [] ∧ ([((30, 1) : BitVec 5 × Flit)].all (fun e => e.1 != 31)) = true ∧ (x { replay := two }).down = false ∧ (x { replay := two }).parked = false) ∧
    ((x { replay := two, fails := 7 }).replay = [] ++ (30, 1) :: [(31, 2)] ∧ (x { replay := two, fails := 7 }).fails < 8) ∧
    8 ≤ (x { replay := two, fails := 8 }).fails ∧ (x { replay := two }).replay.all (fun e => e.1 != 5) = true ∧
    (x { down := true }).down = true ∧ (x { parked := true }).parked = true ∧ (x {}).replay = [] ∧ (x { paused := true }).paused = true ∧
    ((x { replay := two }).down = false ∧ (x { replay := two }).replay ≠ [] ∧ (x { replay := two }).paused = false) := by decide +kernel

/-- The ingress of avenue 0 of shallot 0 as given. -/
def wArb (b : Arbiter) : State := { wPod {} with blv := { arbs := Tbl.set {} (arbIx 0 0 0) b } }

theorem witness_ArbiterDecisions :
    let r : ArbReq := { source := 2, target := 3, lslot := 1 }
    let b := fun (x : Arbiter) => (wArb x).arb (arbIx 0 0 0)
    arbExists 0 0 16 = false ∧ arbExists 0 7 15 = true ∧ arbExists 1 23 63 = true ∧ arbExists 2 25 7 = true ∧
    ((b { reqs := [r] }).granted = none ∧ (∀ x ∈ (b { reqs := [r], counter := 0x7FFF }).reqs, x.age (b { reqs := [r], counter := 0x7FFF }).counter < 2 ^ 15 ∨ x.stale = true)) ∧
    (b { freeze := true }).freeze = true ∧ (b {}).reqs = [] ∧
    (((wArb { reqs := [r] }).pod 0 3).landing.get 1).complete = false ∧ (((wArb { reqs := [r] }).pod 0 3).landing.get 1).barrierRow = none ∧
    (∃ x ∈ (b { reqs := [r], counter := 0x8000 }).reqs, 2 ^ 15 ≤ x.age (b { reqs := [r], counter := 0x8000 }).counter ∧ x.stale = false) ∧
    arbIx 0 0 0 ∉ (wArb {}).seq.once.stale ∧ arbIx 0 0 0 ∈ ({ stale := [arbIx 0 0 0] } : StepOnce).stale := by decide +kernel

/-- A lane group. -/
def wLaneRef (p : PlazaNo) : LaneRef := { rx := true, plaza := p, lane := 5 }
/-- It as given, at a plaza. -/
def wLane (p : PlazaNo) (l : LaneGroup) : State := { State.reset with blv := { lanes := Tbl.set {} (laneIx (wLaneRef p)) l } }

theorem witness_LockLoops : (List.replicate 16 ({} : RingReading)).length = 16 ∧ 8 ≤ (wLaneRef 8).plaza.val ∧ (wLaneRef 7).plaza.val < 8 := by decide

theorem witness_RingsAndMaps :
    let st := fun (l : LaneGroup) => ((wLane 0 l).lane (wLaneRef 0)).rings.get 3
    (st {} = .locked ∧ 4 ≤ ((wLane 0 { errRun := Tbl.set {} 3 4 }).lane (wLaneRef 0)).errRun.get 3) ∧
    (st { rings := Tbl.set {} 3 .down } ≠ .locked ∧ st { rings := Tbl.set {} 3 .down } ≠ .tracking ∧ st { rings := Tbl.set {} 3 .down } ≠ .slipped) ∧
    st { rings := Tbl.set {} 3 .slipped } = .slipped ∧ ((wWave { slips := 1 }).street 0 1 |>.waves.get 0).slips ≤ 1 ∧ 1 < ((wWave { slips := 2 }).street 0 1 |>.waves.get 0).slips ∧ ((wLane 0 { relocks := Tbl.set {} 3 1 }).lane (wLaneRef 0)).relocks.get 3 + 1 < 3 ∧
    3 ≤ ((wLane 0 { relocks := Tbl.set {} 3 2 }).lane (wLaneRef 0)).relocks.get 3 + 1 ∧
    (((wLane 0 { calNumber := 1 }).lane (wLaneRef 0)).calNumber ≠ 0 ∧ ∀ i, i < 16 → ((wLane 0 { calNumber := 1 }).lane (wLaneRef 0)).rings.get i = .locked) ∧
    ((wLane 0 {}).lane (wLaneRef 0)).calNumber = 0 := by decide +kernel

/-- Lamps 0 and 3 as given. -/
def wLamp (a b : Lamp) : State := { State.reset with lamp := { lamps := Tbl.set (Tbl.set {} 0 a) 3 b } }

theorem witness_LampsAndCrossfades_lamps :
    let x := fun (a : Lamp) => (wLamp a {}).lamp.lamps.get 0
    (x { state := .spareCold }).state.lit = false ∧ ((x { state := .crossfading }).state.lit = true ∧ (x { state := .crossfading }).state ≠ .active) ∧
    ((x {}).state = .active ∧ (x { level := 1 }).level = 1 ∧ ¬ (-100 + 1 : Int) ≤ -100) ∧
    ((x { runs := Tbl.set {} 1 2 }).runs.get 1 + 1 = 3 ∧ (-100 : Int) ≤ -100 ∧ ¬ (-100 : Int) ≤ -200) ∧
    ((x { level := 3, runs := Tbl.set {} 4 2 }).runs.get 4 + 1 = 3 ∧ (x { level := 3 }).level < 4 ∧ ¬ (-450 : Int) ≤ -600) ∧
    ((x { raising := true, drive := 1190, level := 2 }).raising = true ∧ (x { raising := true, drive := 1180 }).drive + 10 < 1200) ∧
    ((x { raising := true, drive := 1190 }).drive < 1200 ∧ 1200 ≤ (x { raising := true, drive := 1190 }).drive + 10 ∧ (x {}).level < 2) ∧
    ((x { fade := -19, drive := 1001 }).raising = false ∧ -20 < (x { fade := -19, drive := 1001 }).fade ∧ 1000 < (x { drive := 1001 }).drive) ∧
    ((x { state := .spareWarming }).state = .spareWarming ∧ (x { state := .spareWarming }).tries = 0 ∧ (x { state := .spareWarming, tries := 1 }).tries ≠ 0 ∧
      (wLamp { state := .spareWarming, tries := 1 } {}).spareHolder 0 = none) := by decide +kernel

/-- A crossfade of lamp 0 has been wanted for 1 s. -/
def wLate : State := { wLamp { demandAt := some 0 } {} with top := { State.reset.top with state := .running, now := 10 ^ 9 } }

theorem witness_LampsAndCrossfades_crossfades :
    let run := fun (s : State) => { s with top := { s.top with state := .running } }
    let g := fun (s : State) (l : List Nat) => ({ run s with seq := { grant := some .forced, work := { lamps := l } } } : State)
    let x := fun (a : Lamp) => (wLamp a {}).lamp.lamps.get 0
    let s := g (wLamp { bySpare := some 3, demandAt := some 0 } { state := .spareReady }) [0]
    (s.top.state = .running ∧ (s.lamp.lamps.get 0).bySpare = some 3 ∧ s.seq.work.lamps.contains 0 = true ∧ s.seq.grant.isSome = true ∧ s.seq.flitWait = false ∧
      (s.lamp.lamps.get 0).state = .active ∧ (s.lamp.lamps.get 3).state = .spareReady) ∧
    (x {}).bySpare = none ∧ ((x { state := .crossfading, bySpare := some 3, step := 38 }).state = .crossfading ∧ (x { step := 38 }).step + 1 < 40) ∧
    (40 ≤ (x { step := 39 }).step + 1 ∧ 3 ≠ 0) ∧ (x {}).demandAt = none ∧
    ((wLate.lamp.lamps.get 0).demandAt = some 0 ∧ wLate.top.state = .running ∧ (wLate.lamp.lamps.get 0).state = .active ∧ 10 ^ 9 ≤ wLate.top.now ∧
      wLate.seq.work.lamps.contains 0 = false ∧ wLate.seq.grant = none) ∧
    ((x {}).p0Due = false ∧ (x { p0Due := true }).p0Due = true ∧ ({ nvOpen := true } : PkgPwr).nvOpen = true ∧ State.reset.pp.nvOpen = false) ∧
    ((x {}).p0Pending = false ∧ (x { p0Pending := true }).p0Pending = true) := by decide +kernel

/-- A measurement within every limit of R268, each at its edge. -/
def wCal : CalReading :=
  { group := wLaneRef 0, codes := [2048, 63487], gain := 75, gainRef := 100, bias := [256, 3839], extinction := 50, offsets := [112, 911], tcalError := -640, q := 71 }

/-- A recess that grants that lane group. -/
def wRecal : State := { wLane 0 { pending := true } with
  top := { State.reset.top with state := .running }, seq := { grant := some .scheduled, work := { lanes := [laneIx (wLaneRef 0)] } } }

theorem witness_CalibrationsAndRecesses_calibrations :
    ({ calPhase := 0 } : Lamps).calPhase = 0 ∧ State.reset.top.state = .bringup ∧ (1 ≤ ({ calPhase := 7 } : Lamps).calPhase ∧ ({ calPhase := 7 } : Lamps).calPhase < 8) ∧
    (8 ≤ ({ calPhase := 8 } : Lamps).calPhase ∧ State.reset.host.running = none ∧ (hostCmd 8 0x18 []).opcode = 8) ∧
    (wRecal.top.state = .running ∧ wRecal.seq.grant.isSome = true ∧ wRecal.seq.work.lanes.contains (laneIx (wLaneRef 0)) = true ∧ wRecal.seq.work.lamps = [] ∧
      wRecal.seq.flitWait = false ∧ (wRecal.lane (wLaneRef 0)).pending = true ∧ ∀ x ∈ wRecal.plazaLanes 0, x.running = false) ∧
    wExec.seq.grant = none ∧ ((wLane 0 {}).lane wCal.group).running = false ∧ ((wLane 0 { running := true }).lane wCal.group).running = true ∧
    (wCal.codes.all (fun v => decide (2048 ≤ v.toNat ∧ v.toNat ≤ 63487)) = true ∧ wCal.gainRef * 3 ≤ wCal.gain * 4 ∧ wCal.gain * 4 ≤ wCal.gainRef * 5 ∧
      wCal.bias.all (fun v => decide (256 ≤ v.toNat ∧ v.toNat ≤ 3839)) = true ∧ 50 ≤ wCal.extinction ∧ wCal.offsets.all (fun v => decide (112 ≤ v.toNat ∧ v.toNat ≤ 911)) = true ∧
      wCal.tcalError.natAbs ≤ 640 ∧ 71 ≤ wCal.q) ∧ ¬ 71 ≤ ({ wCal with q := 70 } : CalReading).q ∧
    laneIx (wLaneRef 1) ≠ laneIx wCal.group := by decide +kernel

theorem witness_CalibrationsAndRecesses_recesses :
    wExec.top.state = .running ∧ wExec.seq.grant = none ∧ (wTop .idle).top.state = .idle ∧ (wTop .loaded).seq.grant = none ∧
    (({ grant := some .forced } : StepSeq).grant.isSome = true ∧ ({} : StepSeq).work.lamps = [] ∧ ({} : StepSeq).work.lanes = []) ∧
    ((wSh { recess := some .forced }).shal 0).recess.isSome = true ∧ ((wSh { placed := true }).shal 0).recess = none ∧
    ({ work := { lamps := [1] } } : StepSeq).work.lamps ≠ [] ∧ ({ work := { lanes := [1] } } : StepSeq).work.lanes ≠ [] := by decide +kernel

/-! ### An image that passes every check: one placement that uses no pod, a journal region and a session region -/

/-- A record. -/
def wRecord (kind place : Nat) (body : List Byte) : List Byte := leBytes 2 kind ++ leBytes 2 place ++ leBytes 4 (body.length + 8) ++ body
/-- Its sections, each filled up to 64 bytes. -/
def wSections : List (Nat × List Byte) :=
  [(1, wRecord 0x0101 0 (List.replicate 520 0)), (2, wRecord 0x0201 0xFFFF (leBytes 2 1 ++ leBytes 2 0 ++ leBytes 4 1 ++ leBytes 8 0)), (3, []),
   (4, wRecord 0x0401 0xFFFF (leBytes 2 0 ++ [1, 0x18] ++ leBytes 2 1 ++ leBytes 2 3 ++ leBytes 8 0 ++ leBytes 8 (2 ^ 20) ++ leBytes 8 0) ++
       wRecord 0x0401 0xFFFF (leBytes 2 1 ++ [2, 0x18] ++ leBytes 2 1 ++ leBytes 2 3 ++ leBytes 8 (2 ^ 20) ++ leBytes 8 4096 ++ leBytes 8 0) ++
       wRecord 0x0402 0xFFFF (leBytes 8 0)), (6, [])]
/-- The directory and the sections after it, from an offset on. -/
def wLay : Nat → List (Nat × List Byte) → List Byte × List Byte
  | _, [] => ([], [])
  | o, (t, b) :: l =>
    let n := (b.length + 63) / 64 * 64
    let r := wLay (o + n) l
    (leBytes 8 t ++ leBytes 8 o ++ leBytes 8 b.length ++ leBytes 8 0 ++ r.1, b ++ List.replicate (n - b.length) 0 ++ r.2)
/-- The bytes before the digest. -/
def wHead : List Byte := imgMagic ++ leBytes 2 0x100 ++ leBytes 2 3 ++ leBytes 2 0xB01 ++ leBytes 2 0 ++ leBytes 8 1216 ++ leBytes 8 5
/-- The bytes after the digest. -/
def wTail : List Byte := List.replicate 192 0 ++ (wLay 448 wSections).1 ++ List.replicate 32 0 ++ (wLay 448 wSections).2
/-- The digest. -/
def wDigest : List Byte := shake256 32 (wHead ++ List.replicate 32 0 ++ wTail)
/-- The image. -/
def wBytes : List Byte := wHead ++ wDigest ++ wTail
/-- A byte file that lists every byte of a list. -/
def wCells : Nat → List Byte → List (Nat × Byte)
  | _, [] => []
  | p, b :: l => (p, b) :: wCells (p + 1) l
/-- An idle package with the image in the incoming half. -/
def wStaged : State :=
  { wTop .idle with img := { stagingMiB := 1, half1 := ⟨wCells 0 wBytes⟩ }, mem := Tbl.set {} 0 { valid := true } }

theorem runBytes_cells (n p : Nat) (l : List Byte) (h : n ≤ l.length) : runBytes n p (wCells p l) = l.take n := by
  induction l generalizing n p with
  | nil => simp at h; subst h; rfl
  | cons b l ih => cases n with
    | zero => rfl
    | succ n => simp [wCells, runBytes, ih n (p + 1) (by simpa using h)]

theorem wDigest_length : wDigest.length = 32 := by decide +kernel
theorem wBytes_length : wBytes.length = 1216 := by
  have h : wHead.length = 32 ∧ wTail.length = 1152 := by decide +kernel
  simp [wBytes, wDigest_length, h.1, h.2]

theorem staged_bytes (n : Nat) (h : n ≤ 1216) : stagedBytes wStaged.img.incoming 0 n = wBytes.take n := by
  have h0 : wStaged.img.incoming.cells = wCells 0 wBytes := rfl
  unfold stagedBytes
  rw [h0, show (wCells 0 wBytes).dropWhile (fun c => decide (c.1 < 0)) = wCells 0 wBytes from by cases wCells 0 wBytes <;> simp]
  exact runBytes_cells n 0 _ (by rw [wBytes_length]; exact h)

theorem staged_image : wStaged.stagedImage = wBytes := by
  have h : imgLength (wBytes.take 0x300) + imgSigLength (wBytes.take 0x300) = 1216 := by decide +kernel
  have hm : wStaged.img.stagingMiB = 1 := rfl
  unfold State.stagedImage
  dsimp only
  rw [staged_bytes 0x300 (by decide), h, hm]
  show stagedBytes _ 0 1216 = _
  rw [staged_bytes 1216 (by decide), List.take_of_length_le (Nat.le_of_eq wBytes_length)]

theorem staged_digest : check2 wBytes = none := by
  have hh : wHead.length = 32 := by decide +kernel
  have hl : imgLength wBytes = 1216 := by decide +kernel
  have h1 : imgDigest wBytes = wDigest := by
    unfold imgDigest wBytes
    rw [List.append_assoc, List.drop_left' hh, List.take_left' wDigest_length]
  have h2 : digestInput (wBytes.take 1216) = wHead ++ List.replicate 32 0 ++ wTail := by
    rw [List.take_of_length_le (Nat.le_of_eq wBytes_length)]
    unfold digestInput
    rw [show wBytes.take 0x20 = wHead from by unfold wBytes; rw [List.append_assoc]; exact List.take_left' hh,
      show wBytes.drop 0x40 = wTail from by unfold wBytes; exact List.drop_left' (by rw [List.length_append, hh, wDigest_length])]
  have h3 : (shake256 32 (digestInput (wBytes.take (imgLength wBytes))) != imgDigest wBytes) = false := by rw [hl, h2, h1]; simp [wDigest]
  unfold check2 firstBad
  rw [h3]; rfl

/-- The records that an answer gives. -/
def recsOf : Except LoadFail (List Rec) → List Rec
  | .ok rs => rs
  | .error _ => []
/-- Is there no fault? -/
def framed : Except LoadFail (List Rec) → Bool
  | .ok _ => true
  | .error _ => false
/-- The records of the image. -/
def wRecs : List Rec := recsOf (check1 wBytes (2 ^ 20))

/-- An answer that is not an error is its value. -/
theorem ok_of (x : Except LoadFail (List Rec)) (h : framed x = true) : x = .ok (recsOf x) := by
  cases x with
  | ok _ => rfl
  | error _ => exact absurd h Bool.false_ne_true

/-- Checks 1 to 8 pass. -/
theorem passes (s : State) (bs : List Byte) (rs : List Rec) (hr : check1 bs (s.img.stagingMiB * 2 ^ 20) = .ok rs) (h2 : check2 bs = none)
    (h : (firstSome [s.check3 bs, s.check4 bs, check5 rs (imageOf (imgDigest bs) rs), check6 (imageOf (imgDigest bs) rs),
      s.check7 (imageOf (imgDigest bs) rs), s.check8 rs (imageOf (imgDigest bs) rs)]).isNone = true) :
    s.checkImage bs = .ok (imageOf (imgDigest bs) rs) := by
  unfold State.checkImage
  rw [hr]
  dsimp only
  rw [h2]
  rw [show ∀ l : List (Option LoadFail), firstSome (none :: l) = firstSome l from fun _ => rfl, Option.isNone_iff_eq_none.mp h]

/-- The state in which the checks run. -/
def wChecked : State :=
  let b0 := wStaged.cmdBegun 0x01 0x18 (wArgs [])
  { b0 with img := { b0.img with detailRes := 0, detailIndex := 0, detailFeat := 0, detailOffset := 0 } }

theorem image_other_checks : (firstSome [wChecked.check3 wBytes, wChecked.check4 wBytes, check5 wRecs (imageOf (imgDigest wBytes) wRecs),
    check6 (imageOf (imgDigest wBytes) wRecs), wChecked.check7 (imageOf (imgDigest wBytes) wRecs),
    wChecked.check8 wRecs (imageOf (imgDigest wBytes) wRecs)]).isNone = true := by decide +kernel

theorem image_framed : framed (check1 wBytes (2 ^ 20)) = true := by decide +kernel

theorem image_first_check : check1 wBytes (2 ^ 20) = .ok wRecs := ok_of _ image_framed

theorem image_passes : wChecked.checkImage wBytes = .ok (imageOf (imgDigest wBytes) wRecs) := by
  refine passes wChecked wBytes wRecs ?_ staged_digest image_other_checks
  have h : wChecked.img.stagingMiB = 1 := rfl
  rw [h, Nat.one_mul]
  exact image_first_check

/-! ### Hypotheses that are met: host commands, steps and the host interface -/

/-- A running command of Mews. -/
def wMewsCmd : RunningCmd := { path := .mews 0, opcode := 4 }

theorem witness_HostCommandChecks :
    let a := wArgs []
    let zero := fun (a : List Word) (i : Nat) => (a.drop i).all (fun w => w == 0)
    a.length = 12 ∧ State.reset.host.ready = false ∧ ({ (wTop .idle).host with busy := true } : HostIf).busy = true ∧
    ((wTop .idle).host.ready = true ∧ (wTop .idle).host.linkUp = true ∧ (wTop .idle).host.busy = false ∧ (wTop .idle).host.running = none) ∧
    zero (wArgs [1]) 0 = false ∧ zero (wArgs [0xFFF]) 1 = true ∧ zero (wArgs [7]) 2 = true ∧ (laneArg 0x80000000).isSome = true ∧
    ({ running := some wMewsCmd } : HostIf).running = some wMewsCmd ∧ wMewsCmd.path ≠ .host ∧
    bitAt 0x18 (wTop .idle).top.state.code = true ∧ bitAt 0x18 (wTop .running).top.state.code = false ∧ bitAt 0x08 (wTop .loaded).top.state.code = false := by
  decide +kernel

/-- An answer that is an error is one. -/
theorem err_of (x : Except LoadFail Image) (h : (match x with | .ok _ => false | .error _ => true) = true) : ∃ f, x = .error f := by
  cases x with
  | ok _ => exact absurd h Bool.false_ne_true
  | error f => exact ⟨f, rfl⟩

theorem witness_ImageLoads :
    ((wArgs []).length = 12 ∧ (wArgs []).all (fun w => w == 0) = true ∧ ((wStaged.host.ready = true ∧ wStaged.host.linkUp = true ∧ wStaged.host.busy = false) ∧
      wStaged.host.running = none ∧ wStaged.top.parking = false ∧ bitAt 0x18 wStaged.top.state.code = true)) ∧
    wChecked.checkImage wChecked.stagedImage = .ok (imageOf (imgDigest wBytes) wRecs) ∧
    (∃ f, (wTop .idle).checkImage (wTop .idle).stagedImage = .error f) ∧ State.reset.img.writing = none ∧
    (({ writing := some wImg } : Loader).writing = some wImg ∧ State.reset.sec.rotateDue = false ∧ (hostCmd 1 0x18 []).opcode = 1) := by
  refine ⟨by decide +kernel, ?_, ?_, by decide +kernel⟩
  · rw [show wChecked.stagedImage = wBytes from staged_image]; exact image_passes
  · exact err_of _ (by decide +kernel)

/-- A loaded package with an image, a journal of one record, and a run that has been. -/
def wLoaded : State :=
  { wTop .loaded with img := { image := some wImg }, seq := { ran := true, ranLoad := true, current := 5, ring := [(64, { type := 1, payload := leBytes 64 9 }), (160, { type := 2 })] } }

theorem witness_RunsBegin :
    ((wLoaded.host.ready = true ∧ wLoaded.host.linkUp = true ∧ wLoaded.host.busy = false) ∧ wLoaded.host.running = none ∧ wLoaded.top.parking = false ∧
      bitAt 0x10 wLoaded.top.state.code = true ∧ bitAt 0x30 wLoaded.top.state.code = true) ∧
    (wLoaded.placedFence = false ∧ wLoaded.needsSession = false ∧ wLoaded.img.image.bind (fun i => i.domain) = none) ∧
    (wLoaded.journalWraps = false ∧ wLoaded.seq.stalled = [] ∧
      (let s : State := { wLoaded with img := { image := some { regions := Tbl.set {} 1 (some { kind := 1, size := 2 ^ 20 }) } } }
       s.seq.head.toNat + 96 ≤ s.seq.tail.toNat + s.ringSize ∧ s.journalWraps = false)) ∧
    (((wArgs [4, 5])[1]?.getD 0).toNat + 2 ^ 32 * ((wArgs [4, 5])[2]?.getD 0).toNat = wLoaded.seq.current.toNat ∧ wLoaded.seq.ranLoad = true) ∧
    (6 ≠ wLoaded.seq.current.toNat ∧ ({} : StepSeq).ran = false) ∧ wLoaded.seq.runStartAt 0 = none ∧
    wLoaded.seq.runStartAt 64 = some { type := 1, payload := leBytes 64 9 } := by decide +kernel

/-- A served Mews request of an operation: its port has none open, and the management die is up. -/
def wMewsSt (st : PkgState) : State := { (wTop st) with mews := { creds := Tbl.set {} 0 (some { key := 0, operate := true }) }, sec := { lifecycle := 1 } }

theorem witness_SweepsAndParking :
    (bitAt 0x38 (wTop .running).top.state.code = true ∧ (wTop .running).top.parking = false ∧ ((wTop .running).shal 0).fenced = false) ∧
    ({ sweepPhase := 1 } : Top).sweepPhase = 1 ∧ ({ sweepPhase := 2 } : Top).sweepPhase = 2 ∧ ({ sweepPhase := 3 } : Top).sweepPhase = 3 ∧
    (({ sweepPhase := 4, state := .sweeping } : Top).sweepPhase = 4 ∧ ({ state := .sweeping } : Top).sweepBad = false ∧ ({ state := .sweeping } : Top).after = .idle) ∧
    ({ sweepBad := true } : Top).sweepBad = true ∧ bitAt 0x08 (wTop .idle).top.state.code = true ∧
    (({ State.reset with seq := { boundaryDue := true } } : State).seq.boundaryDue = true ∧ 0 ≤ State.reset.seq.current.toNat) ∧ (∀ k, k < 128 → (State.reset.net.ports.get k).up = false) ∧
    (({ parking := true, state := .idle } : Top).parking = true ∧ ({ parking := true, state := .idle } : Top).state = .idle) ∧ ({} : Top).parking = false ∧
    (((6 : Nat) = bodyNum (leBytes 52 6) 0 4 ∧ (leBytes 52 6).length = 52 ∧ ∀ i, i < 12 → bodyNum (leBytes 52 6) (4 + 4 * i) 4 = 0) ∧
      (wTop .parked).mews.recovery = false ∧ (wTop .parked).host.running = none ∧ (wTop .parked).top.state = .parked) := by decide +kernel

/-- A run in a phase, with an execution as given. -/
def wPhase (p : Phase) (e : Execution) : State := { wTop .running with seq := { phase := p, exe := e } }

theorem witness_StepEndsAndReadiness_ends :
    let d := wPhase .drain {}
    ((d.top.state = .running ∧ d.seq.phase = .drain) ∧ d.seq.exe.ending = none ∧ d.seq.exe.flights = [] ∧ d.loadsDone = true ∧ d.seq.exe.failed = false ∧ d.cond.twins = 0 ∧
      d.seq.exe.second = false ∧ d.seq.raises = [] ∧ d.activeWindows true = [] ∧ d.seq.replay = false ∧ (∀ n, n < 8 → (d.shal n).placed = false)) ∧
    (wTop .idle).top.state ≠ .running ∧ (wPhase .drain { flights := [{}] }).seq.exe.flights ≠ [] ∧
    ((wPhase .drain { ending := some (.hardware .memory) }).seq.exe.ending = some (.hardware .memory) ∧ ({ recoveries := 2 } : StepSeq).recoveries < 3 ∧
      3 ≤ ({ recoveries := 3 } : StepSeq).recoveries) ∧
    (((wSh { placed := true, arithStatus := 4 }).shal 0).arithStatus &&& 6 ≠ 0 ∧ ((wSh { placed := true, arithStatus := 1 }).shal 0).arithStatus &&& 1 ≠ 0 ∧
      ((wSh { placed := true, arithStatus := 1 }).shal 0).arithStatus &&& 6 = 0) ∧
    ((wPhase .restore { verdict := some .rerun }).seq.exe.verdict = some .rerun ∧ (wPhase .restore {}).seq.phase = .restore) ∧
    ((wPhase .restore { verdict := some .recover }).img.image = none ∧ (wPhase .restore { verdict := some (.fail 1) }).sec.rotateDue = false) ∧
    ((wPhase .commit {}).seq.stalled = [] ∧ (wPhase .commit {}).windowsMoved true = true ∧ ({ stopAt := some 1 } : StepSeq).stopAt = some 1 ∧
      (1 : Word64).toNat ≤ (({} : StepSeq).current + 1).toNat ∧ (wPhase .commit {}).seq.leave = false ∧ (wPhase .commit {}).testsDue = false ∧
      ({ wPhase .commit {} with blv := { suspects := [0] } } : State).testsDue = true) ∧
    (({} : StepSeq).stallSince = none ∧ ({ wLoaded with seq := { stallSince := some 0, stalled := [{}] } } : State).journalRoom {} = false ∧
      ({ wLoaded with seq := { stallSince := some 0, stalled := [{}], tail := 32 } } : State).journalRoom {} = true) := by decide +kernel

/-- At the barrier, in a domain of two members whose own number is 0, with what is known of READY. -/
def wBarrier (ready : List (Nat × Nat)) (own : Option Nat) (i : Image) : State :=
  { wTop .running with img := { image := some i }, seq := { phase := .barrier, ready := ready, ownReady := own } }
/-- That image. -/
def wDomain : Image := { domain := some (2, 0, 1) }
/-- An image that claims SYNC_IO for the barrier. -/
def wExt : Image := { claims := [{ resource := 1, feature := 2, index := 0, count := 1 }] }

theorem witness_StepEndsAndReadiness_readiness :
    (wTop .idle).mayBeReady = false ∧ (wBarrier [] none wDomain).mayBeReady = true ∧ (wBarrier [] none wDomain).seq.startAt = none ∧
    (let s : State := { wBarrier [] none {} with seq := { phase := .barrier, startAt := some 7 } }; s.mayBeReady = true ∧ s.seq.startAt = some 7) ∧
    ((wBarrier [] none {}).extBarrier = false ∧ ((wBarrier [] none {}).img.image.bind (fun j => j.domain)) = none) ∧
    (let s : State := { wBarrier [] none wDomain with top := { (wBarrier [] none wDomain).top with now := 9 }, seq := { phase := .barrier, startAt := some 7, startTimed := true } }
     s.mayBeReady = true ∧ s.seq.startAt = some 7 ∧ s.seq.startTimed = true ∧ 7 < s.top.now ∧ s.img.image.bind (fun j => j.domain) ≠ none) ∧
    ((wBarrier [] none wExt).extBarrier = true ∧ (wBarrier [] none wExt).mayBeReady = true ∧ (wBarrier [] none wExt).img.image.bind (fun j => j.domain) = none) ∧
    ((wBarrier [] none wDomain).img.image = some wDomain ∧ wDomain.domain = some (2, 0, 1) ∧ (wBarrier [] none wDomain).schedReady 0 = true ∧
      (wBarrier [] none wDomain).storesDone = true ∧ (wBarrier [] none wDomain).extBarrier = false) ∧
    (wBarrier [] none { wDomain with streams := [{ dir := 1 }] }).schedReady 0 = false ∧
    (1 < 2 ∧ 1 ≠ 0 ∧ (wBarrier [] none wDomain).nextStep = 0 ∧ (wBarrier [] none wDomain).seq.ownReady = none) ∧
    ((wBarrier [] (some 4) wDomain).seq.ownReady = some 4 ∧ (wBarrier [] (some 4) wDomain).seq.phase = .barrier ∧ (wBarrier [] (some 4) wDomain).seq.replay = false) ∧
    (wTop .idle).top.state ≠ .running ∧ (wBarrier [] (some 4) wExt).extBarrier = true := by decide +kernel

/-- A state in which a command of the path may begin. -/
def takes (s : State) (accept : Nat) : Bool :=
  s.host.ready && s.host.linkUp && !s.host.busy && s.host.running.isNone && !s.top.parking && bitAt accept s.top.state.code

/-- A loaded package with a journal region that holds 32 bytes. -/
def wJournal : State := { wMem with top := { state := .loaded }, img := { image := some { regions := Tbl.set {} 1 (some { wRegion with kind := 1 }) } }, seq := { head := 32 } }

theorem witness_CommandsThatEnd :
    takes (wTop .idle) 0xFE = true ∧ takes (wTop .idle) 0x18 = true ∧ takes (wTop .running) 0x38 = true ∧ takes (wTop .loaded) 0x30 = true ∧
    (((wArgs [2, 7, 1])[1]?.getD 0).toNat < 8 ∧ ((wArgs [2, 7, 1])[2]?.getD 0).toNat < 2) ∧ (laneArg 0x80000000).isSome = true ∧
    ((wTop .idle).seq.grant = none ∧ (wTop .idle).waitingLamps = [] ∧ (wTop .idle).seq.flitWait = false ∧ ∀ l ∈ (wTop .idle).plazaLanes 0, l.running = false) ∧
    ((wTop .loaded).sec.oldLive = false ∧ (wTop .loaded).sec.tenant = none ∧ ({ oldLive := true } : Sec).oldLive = true ∧ ({ tenant := some {} } : Sec).tenant.isSome = true) ∧
    (∀ h, h < 16 → ((wTop .loaded).mem.get h).walking = false) ∧ (((wArgs [0xFFF])[0]?.getD 0).toNat ≤ 0xFFF) ∧
    (((wTop .idle).pod 7 511).fused = false ∧ (wTop .idle).pp.nvOpen = false ∧ ({ fused := true } : Pod).fused = true) ∧
    (wJournal.exportHolds (wArgs [0, 0, 64]) = false ∧ wJournal.exportHolds (wArgs [0, 0, 32]) = true ∧ wJournal.journalLeave = none ∧
     ({ wJournal with sec := { policy := 8 } } : State).journalLeave = some none) ∧
    ({ running := some (hostCmd 0x0C 0x30 (wArgs [])) } : HostIf).running = some (hostCmd 0x0C 0x30 (wArgs [])) ∧ (wTop .loaded).host.canSend = true ∧
    (wJournal.readRing 0 32 {}).2.isSome = true ∧
    (12 < (13 : Byte).toNat) := by decide +kernel

theorem witness_RegisterWrites :
    let s := wTop .idle
    (s.host.ready = true ∧ s.host.linkUp = true) ∧ (0x40001 % 4 ≠ 0) ∧ ((0x3FFFFF0 : BitVec 26).toNat % 4 = 0 ∧ blockAt 0x3FFFFF0 = none) ∧
    (blockAt 0x0000000 = some .top ∧ (State.reset.blockOpen .step = false) ∧ s.blockOpen .step = true) ∧
    ([(Block.hostif, 0x10000C), (.hostif, 0x10006C), (.hostif, 0x100008), (.image, 0x20001C), (.step, 0x400028), (.event, 0x1C00008), (.pwr, 0x1800000), (.top, 0),
      (.sec, 0x1A00000)].all (fun x => decide (blockAt x.2 = some x.1) && s.blockOpen x.1 && decide (x.2 % 4 = 0)) = true ∧
     inBlock 0x10000C = 0x0C ∧ inBlock 0x10006C = 0x6C ∧ inBlock 0x100008 = 8 ∧ inBlock 0x20001C = 0x1C ∧ inBlock 0x400028 = 0x28 ∧ inBlock 0x1C00008 = 8 ∧
     inBlock 0x1800000 = 0 ∧ blockAt 0x12F0010 = some (.mem 15) ∧ inBlock 0x12F0010 = 0x10 ∧ (wTop .loaded).blockOpen (.mem 15) = true) ∧
    (s.blockOpen .hostif = true ∧ s.blockOpen .pbl = true ∧ s.blockOpen .cond = true) ∧
    (arbExists s.blv.selArb.1 s.blv.selArb.2.1 s.blv.selArb.2.2 = true ∧ (s.arb 0).freeze = false ∧ s.top.state ≠ .running ∧ s.top.state = .idle) ∧
    (let b := ({ arbSel := 0xFFFF } : Boulevard).selArb; arbExists b.1 b.2.1 b.2.2 = false) ∧ (let b := ({ arbSel := 0x80001900 } : Boulevard).selArb; arbExists b.1 b.2.1 b.2.2 = true ∧ b.1 = 2 ∧ ({ sub := 71 } : Frame).sub / 8 = (b.2.1 - 24) * 8 + b.2.2) ∧ (s.shal 0).powered = false ∧ ((wSh { powered := true }).shal 0).powered = true ∧
    (wTop .running).top.state = .running := by decide +kernel

/-- The BAR2 window on a target. -/
def wBar2 (target : Word) (st : PkgState) (i : Image) : State :=
  { wTop st with host := { (wTop st).host with bar2Target := 0x80000000 + target }, img := { image := some i, stagingMiB := 1 } }

theorem witness_Bar2Window :
    ((wTop .idle).host.bar2Target.getLsbD 31 = false ∧ (wBar2 3 .idle wImg).host.bar2Target.getLsbD 31 = true ∧ (wBar2 4 .loaded wImg).region 4 = none) ∧
    ((wBar2 3 .loaded { regions := Tbl.set {} 3 (some { wRegion with flags := 0x39 }) }).region 3 = some { wRegion with flags := 0x39 }) ∧
    ((wBar2 0xFFFE .faulted wImg).top.state ≠ .idle ∧ (wBar2 0xFFFE .idle wImg).host.bar2Target.toNat % 2 ^ 16 = 0xFFFE ∧ (wBar2 0xFFFE .idle wImg).blockOpen .hostif = true) ∧
    (2 ^ 20 - 64 + 64 ≤ (wBar2 0xFFFE .idle wImg).img.stagingMiB * 2 ^ 20 ∧ (wBar2 0xFFFE .idle wImg).img.stagingMiB * 2 ^ 20 ≤ 2 ^ 20) ∧
    ((wBar2 3 .loaded wImg).region 3 = some wRegion ∧ wRegion.session = false ∧ 2 ^ 20 - 64 + 64 ≤ wRegion.size ∧ (wRegion.base + wRegion.size ≤ 2 ^ 36 ∧ wRegion.base % 64 = 0)) ∧
    (((wBar2 3 .running wImg).readRegion wRegion 3 0 64 24 {} false).2.isSome = true ∧
      ((wBar2 3 .running wImg).readRegion wRegion 3 0 64 24 { faults := [{ fails := true }] } false).2 = none) := by decide +kernel

theorem witness_HostLink :
    ((wTop .idle).top.state ≠ .parked ∧ ((wTop .parked).top.state = .parked ∧ (wTop .parked).host.perstHigh = false ∧ (wTop .parked).host.running = none)) ∧
    (({ perstHigh := true } : HostIf).perstHigh = true ∧ (wTop .idle).hostPort = true ∧ (wTop .off).hostPort = false) ∧
    (State.reset.host.linkUp = false ∧ (wTop .idle).host.linkUp = true ∧ (wTop .idle).host.ready = true ∧ (wTop .idle).sec.trngFailed = false ∧
      ({ trngFailed := true } : Sec).trngFailed = true) ∧ (∀ v, v < 64 → (wTop .idle).host.pba.getLsbD v = true → (wTop .idle).host.masked v = true) := by decide +kernel

/-- A run at a phase with one window: number 63, on region 3. -/
def wWin (p : Phase) (flags : Byte) (q : WindowState) : State :=
  { wTop .running with img := { image := some { wImg with windows := [{ num := 63, flags := flags, size := 4096, region := 3 }] } }, seq := { phase := p },
                       host := { (wTop .running).host with windows := Tbl.set {} 63 q } }

theorem witness_HostWindows :
    let x : Window := { num := 63, size := 4096, region := 3 }
    let b := wWin .barrier 0 {}
    let c := wWin .commit 1 {}
    (b.pullTime = true ∧ (b.activeWindow 63 false) = some x ∧ (b.host.windows.get 63).moved = false ∧ (b.host.windows.get 63).moving = false ∧ b.windowsMay = true ∧ b.host.canSend = true ∧ b.host.lateWords = [] ∧
      (b.host.windows.get 63).n.toNat < (1 : Word64).toNat ∧ (0 : Word64).toNat ≤ (b.host.windows.get 63).n.toNat) ∧
    ({ b with sec := { policy := 2 } } : State).windowsMay = false ∧ (wTop .idle).pullTime = false ∧ b.activeWindow 62 false = none ∧
    (({ waited := 1000 } : WindowState).waited = 1000 ∧ ({ waited := 1000 } : WindowState).waitRaised = false) ∧
    ((wWin .barrier 0 { moving := true }).host.windows.get 63).moving = true ∧ (List.replicate 4096 (0 : Byte)).length = x.size ∧ x.extGcm = false ∧ b.region x.region = some wRegion ∧
    (({ x with flags := 2 } : Window).extGcm = true ∧ b.openWindow 63 0 [] [] [] = none) ∧
    ((c.top.state = .running ∧ c.seq.phase = .commit ∧ c.seq.stalled = []) ∧ (c.activeWindow 63 true).isSome = true ∧ (c.host.windows.get 63).n.toNat ≤ (0 : Word64).toNat ∧
      c.activeWindow 62 true = none ∧ (c.windowBytes { x with flags := 1 }).2.isSome = true) := by decide +kernel

/-! ### Hypotheses that are met: conductors, bonds, clocks, power and the network -/

/-- A running pair with conductor 0 active. -/
def wPair (q : Cond) : State := { wTop .loaded with cond := q }
/-- The pair. -/
def wCond : Cond := { c0 := { state := .active, claim := 2 }, c1 := { state := .standby, claim := 1 } }
/-- Outputs of conductor 0 that wait at stage 39. -/
def wHeld (n : Nat) : List (Bool × CondOut) := (List.range n).map (fun k => (false, { stage := 39, oseq := BitVec.ofNat 32 (6 + k) }))
/-- The pair with its stage 39 as it stands when conductor 0 leads there and some of its outputs wait. -/
def wStage (n : Nat) : State :=
  wPair { wCond with stages := Tbl.set {} 39 { claim0 := 2, claim1 := 1, last := some 5, oldActive := some true, held := wHeld n } }

theorem witness_ConductorTraffic :
    let s := fun (i : CondInput) => wPair { wCond with inputs := [i] }
    let above := fun (a b : Word) => 1 ≤ (a - b).toNat ∧ (a - b).toNat < 2 ^ 31
    ((s { iseq := 4, due := 160 }).cond.inputs.find? (fun j => j.iseq == 4) = some { iseq := 4, due := 160 } ∧ (s {}).top.now - (s {}).top.timeBase < 160) ∧
    (({} : CondInput).due ≤ (s {}).top.now - (s {}).top.timeBase ∧ ({} : CondInput).got0 = false ∧ ({} : CondInput).got1 = false) ∧
    ((s {}).cond.inputs.find? (fun j => j.iseq == 9) = none) ∧ ¬ (3 < 3 ∨ 8 ≤ 3) ∧ (8 ≤ 39) ∧ ({} : Conductor).state.runs = false ∧
    ((wStage 0).cond.c0.state.runs = true ∧ (wStage 0).cond.comparing = false) ∧
    ((wStage 0).cond.stages.get 39).claim1.toNat < ((wStage 0).cond.stages.get 39).claim0.toNat ∧ above 6 5 ∧ above (5 + (2 ^ 31 - 1)) 5 ∧ ¬ above 5 5 ∧ ¬ above (5 + 2 ^ 31) 5 ∧
    (((wStage 63).cond.stages.get 39).held.length < 64 ∧ 64 ≤ ((wStage 64).cond.stages.get 39).held.length ∧ (wStage 63).cond.c1.state.runs = true ∧ (wStage 0).cond.c1.state.runs = true) ∧
    (((wStage 2).cond.stages.get 39).nextHeld.isSome = true ∧ ((wStage 0).cond.stages.get 39).nextHeld = none) := by decide +kernel

theorem witness_UmpireDecides :
    let s := fun (q : Cond) => { wPair q with top := { state := .running, now := 1100 } }
    (wCond.c0.state.runs = true ∧ 1000 * (wCond.interval + 1) ≤ 1100 ∧ wCond.c0.heartbeat = none) ∧ ({} : Cond).c0.state.runs = false ∧
    ¬ 1000 * (wCond.interval + 1) + 100 ≤ 1099 ∧ 1000 * (wCond.interval + 1) + 100 ≤ 1100 ∧ (wCond.c0.state = .active ∧ wCond.c1.state = .standby) ∧
    (wCond.switching = none ∧ wCond.mismatch = none ∧ wCond.umpireLost = false) ∧
    (let h : BitVec 192 := BitVec.ofNat 192 (2 ^ 128); h.getLsbD 8 = false ∧ h.getLsbD 9 = false ∧ h.getLsbD 10 = false ∧ h.toNat / 2 ^ 128 ≠ (0 : BitVec 192).toNat / 2 ^ 128) ∧
    ({ umpireLost := true } : Cond).umpireLost = true ∧ ({ lagged := true } : OutStage).lagged = true ∧ ({} : OutStage).lagged = false ∧
    (({ switching := some {} } : Cond).switching = some {} ∧ ({ claimDue := true } : OutStage).claimDue = true ∧
      ∀ k, k < 40 → stageExists k = true → (({} : Cond).stages.get k).claimDue = false) ∧
    (({ c0 := { state := .failed } } : Cond).c0.state = .failed ∧ ({} : Cond).c0.state ≠ .failed) ∧
    ((({ state := .resync, resyncReady := true } : Conductor).state = .resync) ∧ (wPair {}).mayResync = true ∧
      ({ s {} with seq := { phase := .execute } } : State).mayResync = false) ∧
    wCond.c1.state = .standby ∧ ({} : Cond).c0.state ≠ .standby := by decide +kernel

/-- A pod whose row group 3 is as given. -/
def wGroup (b : BondGroup) (open_ : Bool) : State := { wSh { bonds := Tbl.set {} 3 b } with pp := { nvOpen := open_ } }
/-- A unit in training. -/
def wEnd (a b : TrainEnd) : State := (State.reset.modEnd (.row wRef) false (fun _ => a)).modEnd (.row wRef) true (fun _ => b)
/-- A frame of that unit with its CRC. -/
def wFrame (type attempt low : Nat) : SideFrame :=
  let w := type * 2 ^ 60 + attempt * 2 ^ 52 + low
  { unit := .row wRef, far := false, word := BitVec.ofNat 64 w, crc := crc16 (natBitsMsb 64 w) }

theorem witness_BondTraining :
    (((wGroup {} true).shal 0).bond 0 3).suspect = false ∧ ((((wGroup { suspect := true } true).shal 0).bond 0 3).suspect = true ∧ (wGroup {} true).seq.boundaryDue = false) ∧
    (let b := ((wGroup { suspect := true, logged := List.range 15 } true).shal 0).bond 0 3
     [271].filter (fun w => !b.marked.contains w) = [271] ∧ (b.marked ++ [271]).length ≤ 16 ∧ (wGroup {} true).pp.nvOpen = true ∧ (wGroup {} false).pp.nvOpen = false) ∧
    ((wEnd {} {}).bondEnd (.row wRef) false).training = false ∧ ((wEnd { training := true } {}).bondEnd (.row wRef) false).training = true ∧
    (({ logPending := [(1, 2)] } : Boulevard).logPending ≠ [] ∧ State.reset.blv.logPending = []) ∧
    (∀ k, k < 6 → let f := wFrame k 1 0
      f.crc = crc16 (natBitsMsb 64 f.word.toNat) ∧ f.word.toNat / 2 ^ 60 = k ∧ f.word.toNat / 2 ^ 54 % 64 = unitField f.unit ∧ unitExists f.unit = true ∧ f.word.toNat % 2 = 0 ∧
      f.word.toNat / 2 ^ 52 % 4 = 1) ∧
    (let s := wEnd { training := true, attempt := 1, peer := some 7, sentDone := true } { training := true, attempt := 1, sentDone := true }
     let me := s.bondEnd (.row wRef) false
     let m := (me.good &&& 7).toNat
     me.training = true ∧ (s.bondEnd (.row wRef) true).training = true ∧ me.attempt = 1 ∧ me.peer = some 7 ∧ me.sentDone = true ∧ (s.bondEnd (.row wRef) true).sentDone = true ∧
     (wFrame 4 1 ((65535 - (0 + 1 + m)) * 2 ^ 20)).word.toNat / 2 ^ 20 % 2 ^ 16 = 65535 - (unitField (.row wRef) + me.attempt + m) % 65536 ∧
     (wFrame 4 1 0).word.toNat / 2 ^ 20 % 2 ^ 16 ≠ 65535 - (unitField (.row wRef) + me.attempt + m) % 65536) ∧
    (30 < (wFrame 2 1 31).word.toNat % 32 ∧ 30 / 7 < [(0 : Word64), 0, 0, 0, 0].length) ∧
    (2 < 3 ∧ 3 ≤ ((wEnd { attempt := 3 } {}).bondEnd (.row wRef) false).attempt) ∧ BondUnit.row wRef ∈ sideUnits (.row wRef true) := by decide +kernel

/-- A powered shallot 0 at a clock. -/
def wClk (k : ShClock) : State := { wSh { powered := true, clk := k } with top := { state := .loaded } }

theorem witness_ClocksAndRails :
    let k := fun (c : ShClock) => ((wClk c).shal 0).clk
    ((wSh {}).shal 0).powered = false ∧ ((wClk {}).shal 0).powered = true ∧ (min (9 : BitVec 8).toNat (200 : BitVec 8).toNat < 10) ∧
    (((k { code := 16 }).demands.getLast?).getD (k { code := 16 }).code ≤ 16 ∧ 16 < ((k { code := 17 }).demands.getLast?).getD (k { code := 17 }).code ∧ (k {}).stopNs = 0 ∧ (k {}).demands = []) ∧
    ((k { setPoint := 795 }).setPoint < 800 ∧ 9 ≤ (k {}).sinceAvs ∧ ¬ 9 ≤ (k { sinceAvs := 8 }).sinceAvs) ∧
    (600 < (k { setPoint := 605 }).setPoint ∧ min 1000 ((k { highRun := 998 }).highRun + 1) < 1000) ∧
    ((k { setPoint := 600, highRun := 999, code := 59 }).setPoint ≤ 600 ∧ 999 ≤ (k { highRun := 999 }).highRun ∧
      59 < max 16 (min (if (wClk {}).top.identity.toNat / 2 ^ 24 % 16 = 1 then 72 else 60) ((k {}).target.toNat % 128)) ∧ 999 ≤ (k {}).sinceRise ∧ ((wClk {}).shal 0).pauseInForce = false) ∧
    ((k { demands := [5] }).demands = [5] ∧ (k { demands := [5, 6] }).demands = 5 :: 6 :: []) ∧ ((29 : BitVec 10).toNat < 30 ∧ 30 ≤ (30 : BitVec 10).toNat ∧ ¬ (46 : BitVec 10).toNat ≤ 45) ∧
    (let s := wClk { setPoint := 700 }
     s.railNominal 0 = 700 ∧ s.mainRails = true ∧ (700 * 95 ≤ 665 * 100 ∧ 721 * 100 ≤ 700 * 103) ∧ ¬ 722 * 100 ≤ 700 * 103 ∧ s.pp.railRuns.get 0 < 2 ∧
     ({ railRuns := Tbl.set {} 0 2 } : PkgPwr).railRuns.get 0 = 2 ∧ s.railNominal 8 ≠ 0 ∧ s.railNominal 18 ≠ 0 ∧ s.top.aon = true ∧ (wSh {}).railNominal 0 = 0) ∧
    (({ dutyPause := true } : ShPower).dutyPause = true ∧ 0 < ({ dutyPower := 4 } : ShPower).duty ∧ ({} : ShPower).duty = 0) ∧
    (({} : ShPower).vrLimit = false ∧ ({ vrLimit := true } : ShPower).vrLimit = true) := by decide +kernel

/-- A package whose die at a plaza reads a temperature at its sensor 0, in °C. -/
def wHot (p c : Nat) : State :=
  { wSh { powered := true } with top := { state := .loaded }, pp := { sensors := Tbl.set {} (sensorIx p false 0) (some (BitVec.ofNat 16 (c * 128))) } }

theorem witness_PowerAndHeat :
    (64 ≤ 64 ∧ (63 : Fin 64).val < 64 ∧ (3 : Fin 64).val < 4) ∧ (-40 * 128 ≤ (0 : Half).toInt ∧ (0 : Half).toInt ≤ 150 * 128) ∧
    ((State.reset.hottest 26 false 0 4 = none) ∧ (wHot 26 85).hottest 26 false 0 4 = some 10880 ∧ (10880 : Half).toInt ≤ 85 * 128) ∧
    ((5760 : Half).toInt ≤ (State.reset.pp.coolant.setWidth 16 : Half).toInt ∧ (State.reset.pp.coolant.setWidth 16 : Half).toInt < (5761 : Half).toInt ∧
      State.reset.pp.coolantMinute ≠ some State.reset.minute ∧ ({ coolantMinute := some 0 } : PkgPwr).coolantMinute = some State.reset.minute) ∧
    (2880 < (2881 : BitVec 16).toNat ∧ (2880 : BitVec 16).toNat ≤ 2880 ∧ 7000 < (7001 : Half).toNat ∧ (7000 : Half).toNat ≤ 7000) ∧
    ((∀ m, m < 8 → (State.reset.shal m).pwr.dueWakes = []) ∧ ((wSh { pwr := { dueWakes := [511] } }).shal 0).pwr.dueWakes = [511] ∧ ((wSh { pwr := { dueWakes := [511] } }).shal 0).wakeHeld = [] ∧
      10 ≤ min (10 * (State.reset.pp.slew.toNat / 2 ^ 16 % 4096)) (640 + State.reset.pp.slew.toNat % 512) ∧
      10 ≤ min (10 * (State.reset.pp.pkgSlew.toNat / 2 ^ 16 % 4096)) (2560 + State.reset.pp.pkgSlew.toNat % 4096) ∧
      min (10 * ((0x00010001 : Word).toNat / 2 ^ 16 % 4096)) (8 + (0x00010001 : Word).toNat % 512) < 10) ∧
    (let s : State := { State.reset with img := { image := some { profiles := [(0, { segs := [(0, 100, 5), (8192, 200, 5)] })] } } }
     s.profileAt 0 0 = some { segs := [(0, 100, 5), (8192, 200, 5)] } ∧ s.profileAt 0 1 = some { segs := [(0, 100, 5), (8192, 200, 5)] } ∧
     ([((0, 100, 5) : Nat × Nat × Nat), (8192, 200, 5)])[1]? = some (8192, 200, 5)) ∧
    (({ forecastHold := some 0 } : Shallot).forecastHold = some 0 ∧ ({} : Shallot).forecastHold = none) ∧
    (State.reset.mainRails = false ∧ (wHot 0 115).mainRails = true ∧ (wHot 0 115).top.state ≠ .faulted ∧ 115 * 128 ≤ (14720 : Half).toInt) ∧
    (let h := fun (c : Nat) => (wHot 0 c).hottest 0 false 0 32
     h 115 = some 14720 ∧ h 102 = some 13056 ∧ (13056 : Half).toInt < 103 * 128 ∧ h 105 = some 13440 ∧ 105 * 128 ≤ (13440 : Half).toInt ∧ (13440 : Half).toInt < 106 * 128 ∧
     ((wHot 0 105).shal 0).powered = true ∧ ((wHot 0 105).shal 0).pwr.tripped = false ∧ ((wHot 0 105).shal 0).pwr.suspect = false ∧ (wHot 0 105).hottest 0 true 0 16 = none ∧
     ((wHot 0 105).shal 0).placed = false ∧ (wHot 0 105).hottest 26 false 0 4 = none) ∧
    (({} : ShPower).resetWaits = false ∧ ({ resetWaits := true } : ShPower).cooled (10 ^ 9) = true ∧ ({ temp := 85 * 128 } : ShPower).cooled (10 ^ 9) = false) := by decide +kernel

/-- A package with sub-port 0 as given, an own address 7, and address 9 at destination 5 behind route 1 of it. -/
def wNet (p : SubPort) (macsec : Bool) : State :=
  { wTop .loaded with
    net := { ports := Tbl.set {} 0 p }
    img := { image := some { wImg with
      portModes := Tbl.set {} 0 (some { mode := 2, macsec := macsec })
      addrs := Tbl.set {} 0 (some (1, 7))
      claims := [{ resource := 2, feature := 0x10, index := 0, count := 1 }]
      routes := Tbl.set {} 5 [{ subport := 9 }, { subport := 0, ip := 9 }] } } }

theorem witness_Network :
    ((wNet {} false).net.ports.get 0).up = false ∧ ((wNet { up := true } false).net.ports.get 0).up = true ∧ State.reset.img.image = none ∧
    (State.reset.linksMay = false ∧ (wNet {} false).linksMay = true ∧ (wNet {} false).subExists 0 = true ∧ (wNet {} false).subExists 8 = false ∧ (wNet {} true).macsecOn 0 = true ∧
      (wNet {} false).macsecOn 0 = false) ∧
    (let s : State := { wNet { up := true } false with top := { state := .loaded, now := 10 ^ 9 }, net := { ports := Tbl.set {} 0 { up := true }, routes := Tbl.set {} 5 { active := 2 } } }
     s.atBoundary = true ∧ (1 < (s.net.routes.get 5).active) ∧ (∃ e, (((s.img.image.map (fun i => i.routes.get 5)).getD [])[1]?) = some e ∧ (s.net.ports.get e.subport).up = true ∧
       (s.net.ports.get e.subport).upAt + 10 ^ 9 ≤ s.top.now) ∧ (s.net.ports.get 9).up = false) ∧
    ((wTop .running).seq.phase = .idle ∧ (wPhase .execute {}).atBoundary = false) ∧
    (({ len := 9217 } : RxEth).len = 9217 ∧ ({} : RxEth).len ≤ 9216 ∧ ({ fcsOk := false } : RxEth).fcsOk = false ∧ ({ ptp := true } : RxEth).ptp = true ∧ ({} : RxEth).ipv6 = true) ∧
    ((wNet {} false).ownAddress 7 = true ∧ (wNet {} false).ownAddress 9 = false ∧ (wNet {} false).destOf 9 = some 5 ∧ (wNet {} false).destOf 8 = none) ∧
    (let p : SubPort := { lastPn := Tbl.set {} 0 4 }
     (0, 4) ∈ p.lastPn.cells ∧ p.lastPn.wf = true ∧ ({ pn := 4 } : RxEth).pn ≤ 4 ∧ ({} : SubPort).macsecSec ≠ some 0) ∧
    ((wNet {} false).claimed 2 0x10 0 = true ∧ ((wNet {} false).net.gw.get 0).ptpMaster = false) ∧
    ((State.reset.net.gw.get 0).ptpLocked = false ∧ ({ ptpLocked := true } : Gateway).ptpLocked = true ∧ ({} : Gateway).ptpPort.toNat < 8) ∧
    (({ wTop .idle with mews := { timeSource := true } } : State).ppsIn = true ∧ (wTop .idle).ppsIn = false) ∧
    ((wNet {} false).egressFrozen 0 = false ∧ ({ wNet {} false with blv := { arbs := Tbl.set {} (arbIx 2 24 0) { freeze := true } } } : State).egressFrozen 0 = true) := by
  repeat' refine And.intro ?_ ?_
  all_goals first | exact ⟨{ subport := 0, ip := 9 }, by decide +kernel⟩ | decide +kernel

/-- The same package with a stream 3 each way, in a step of the run, with packets out and received. -/
def wSched (dir : Nat) (out : List SchedOut) (got : List SchedIn) (replay : Bool) : State :=
  { wNet { up := true } false with
    top := { state := .running }
    seq := { ran := true, current := 1, replay := replay, phase := .execute }
    img := { image := some { wImg with
      streams := [{ num := 3, dir := dir, region := 3, bytes := 2 ^ 20, length := 2, peer := 5 }]
      portModes := Tbl.set {} 0 (some {})
      routes := Tbl.set {} 5 [{ subport := 0, ip := 9 }]
      endpoint := some { sessions := 1, calls := 2, payload := 64, depth := 1, reqRegion := 3 } } }
    net := { ports := Tbl.set {} 0 { up := true }, schedOut := out, schedIn := got, calls := [{ step := 1, slot := 0 }] } }
/-- The stream. -/
def wStr (dir : Nat) : Stream := { num := 3, dir := dir, region := 3, bytes := 2 ^ 20, length := 2, peer := 5 }
/-- A packet at the end of the stream. -/
def wPkt : SchedPkt := { stream := 3, step := 1, seq := 1, count := 2, offset := 2 ^ 14 - 1, data := List.replicate 64 0 }

/-- The last clauses, on a call, hold of every call that opens: what the sealed bytes open to is a free value (log 4). -/
theorem witness_ScheduledNetwork :
    (wTop .loaded).stream 3 0 = none ∧
    (let s := wSched 0 [{ stream := 3, step := 1, data := List.replicate 906 0 }] [] false
     s.stream 3 0 = some (wStr 0) ∧ s.top.state = .running ∧ s.routeOf (wStr 0).peer = some { subport := 0, ip := 9 } ∧ (s.net.ports.get 0).up = true ∧ (s.net.ports.get 0).macsec = false ∧ s.egressFrozen 0 = false ∧
     s.net.schedBusy.get 3 ≤ s.ptpTime * 25 / 64 ∧
     (let b : State := { s with net := { s.net with schedBusy := Tbl.set {} 3 (s.ptpTime * 25 / 64 + 2) } }
      s.ptpTime * 25 / 64 + (wStr 0).start + (wStr 0).length - s.ptpTime * 25 / 64 % max 1 (wStr 0).cycle ≤ b.net.schedBusy.get 3) ∧ (s.net.schedOut.all (fun y => y.unsent && y.stream == 3)) = true ∧ 906 + 118 ≤ 512 * (wStr 0).length ∧
     ([true][0]?).getD false = true ∧ ([false][0]?).getD false = false) ∧
    (let s := wSched 1 [] [] false
     s.stream wPkt.stream.toNat 1 = some (wStr 1) ∧ s.region 3 = some wRegion ∧ s.seq.replay = false ∧ (wSched 1 [] [] true).seq.replay = true ∧
     (wPkt.seq < wPkt.count ∧ wPkt.data.length ≤ 8192 ∧ 64 * wPkt.offset + wPkt.data.length ≤ (wStr 1).bytes ∧ (wStr 1).roffset + 64 * wPkt.offset + wPkt.data.length ≤ wRegion.size) ∧
     ¬ ({ wPkt with seq := 2 } : SchedPkt).seq < wPkt.count ∧ s.schedGot 3 1 = none ∧ s.seq.committed.toNat < wPkt.step.toNat) ∧
    (let x : SchedIn := { stream := 3, step := 1, count := 2, got := [1, 0] }
     (wSched 1 [] [x] false).schedGot 3 1 = some x ∧ wPkt.seq ∈ x.got ∧ (∀ i, i < x.count → i ∈ x.got) ∧ ¬ ∀ i, i < x.count → i ∈ [1]) ∧
    ((wTop .loaded).img.image.bind (fun i => i.endpoint) = none ∧
     (let s := wSched 1 [] [] false
      ((s.img.image.bind (fun i => i.endpoint)).map (fun e => (e.calls, s.servingStep e))) = some (2, 2) ∧ s.sec.session 9 = none ∧
      (({ s with sec := { clients := [{ id := 9 }] } } : State).sec.session 9).isSome = true ∧ s.net.lastCall.get 9 = none)) := by decide +kernel

/-! ### Hypotheses that are met: Reach, sessions, Mews, resets and bring-up -/

/-- An image that exports region 3 to Reach under key 5, claims sub-port 0 and tally 3 of shallot 0, and has a staging key. -/
def wExport (flags : Byte) : Image :=
  { regions := Tbl.set {} 3 (some { wRegion with flags := flags, key := 5 })
    claims := [{ resource := 2, feature := 0x11, index := 0, count := 1 }, { resource := 9, feature := 0x11, index := 3, count := 1 },
      { resource := 5, feature := 0x40, index := 3, count := 1 }]
    routes := Tbl.set {} 0 [{ subport := 0, ip := 9 }]
    reach := some (0, 10, 7) }
/-- A loaded package with it and gateway 0 as given. -/
def wReach (flags : Byte) (g : Gateway) : State :=
  { wTop .loaded with img := { image := some (wExport flags), stagingMiB := 1 }, net := { gw := Tbl.set {} 0 g, ports := Tbl.set {} 0 { up := true } }
                      mem := Tbl.set {} 0 { valid := true, keyRun := some 1 } }
/-- A request for its last unit. -/
def wIn : ReachIn := { seq := 4095, length := 64, region := 3, offset := 2 ^ 20 - 64, key := 5, data := List.replicate 64 1, aop := 0x81 }

theorem witness_ReachRequests :
    let s := wReach 0x3A {}
    let w := s.net.wins.get (winIx 0 0)
    let held := s.modTally 0 3 (fun t => { t with held := true })
    ((wTop .loaded).claimed 2 0x11 0 = false ∧ s.claimed 2 0x11 0 = true ∧ s.netOpen = true ∧ ({ s with top := { state := .idle } } : State).netOpen = false) ∧
    (wIn.version = 1 ∧ ({ wIn with version := 2 } : ReachIn).version ≠ 1 ∧ wIn.data.length = wIn.length.toNat ∧ s.seq.replay = false ∧ wIn.dst.val = s.ownIndex) ∧
    (w.has 4095 = false ∧ w.beyond 4095 = false ∧ w.beyond 4096 = true ∧ w.has 0xFFFFFFFF = true ∧ (s.net.gw.get 0).stamped = []) ∧
    ((s.reachRegion (wIn.hdr 1)).isSome = true ∧ (s.reachRegion (wIn.hdr 2)).isSome = true ∧ (s.reachRegion (wIn.hdr 3)).isSome = true ∧
      (s.reachRegion (({ wIn with key := 6 } : ReachIn).hdr 2)).isNone = true) ∧
    ((s.readRegion { wRegion with key := 5 } 3 (2 ^ 20 - 64) 64 24 {} false).2.isSome = true ∧
      (s.readRegion { wRegion with key := 5 } 3 (2 ^ 20 - 64) 64 24 { faults := [{ fails := true }] } false).2 = none) ∧
    ((0x80000003 : Word).getLsbD 31 = true ∧ s.claimed 5 0x40 ((0x80000003 : Word).toNat / 2 ^ 16 % 32 * 2 ^ 16 + (0x80000003 : Word).toNat % 2 ^ 16) = true ∧
      (held.tally 0 3).held = true ∧ (s.tally (tallyPlaza 0x80000003) (tallyIndex 0x80000003)).held = false) ∧
    (((wExport 0x3E).regions.get 3).map Region.scheduled = some true ∧ ((wExport 0x3A).regions.get 3).map Region.scheduled = some false) ∧
    (s.stepStarted = false ∧ wExec.stepStarted = true ∧ s.seq.current.toNat < (1 : Word64).toNat) ∧
    ((s.net.gw.get 0).stampUsed + 64 + 64 ≤ 2 ^ 25 ∧ (s.net.gw.get 0).replies.length < 16384 ∧ bitAt 0x81 7 = true) ∧
    (aopOk 0x7F 0 = false ∧ aopOk wIn.aop.toNat (wIn.data.length / 64 - 1) = true) ∧ (wIn.data.length = 64 ∧ wIn.offset.toNat % 64 = 0) ∧
    ((1 : Word).toNat ≤ ((0 : Word) + 1).toNat ∧ ¬ (2 : Word).toNat ≤ ((0 : Word) + 1).toNat) := by decide +kernel

theorem witness_ReachService :
    let s := wReach 0x3A {}
    let away : ReachIn := { wIn with dst := 9, aop := 1 }
    let c1 : Combining := { hdr := away.hdr 1, dst := 9, origs := [(0, 0, 1)] }
    let c3 : Combining := { hdr := away.hdr 3, dst := 9, data := List.replicate 64 2, origs := [(0, 0, 1), (1, 0, 1)] }
    let h := wReach 0x3A { heldFlags := [{ plaza := 0, index := 3, seq := 4, count := 2 }] }
    (away.dst.val ≠ s.ownIndex ∧ away.data.length = away.length.toNat) ∧ ((away.hdr 1).combines = true ∧ (away.hdr 3).combines = true) ∧
    (({ away with flags := 2 } : ReachIn).hdr 1).combines = false ∧ (({ away with aop := 0x81 } : ReachIn).hdr 3).combines = false ∧ (s.net.gw.get 0).combining = [] ∧
    (sameRequest c1.dst 9 c1.hdr (away.hdr 1) = true ∧ sameRequest c3.dst 9 c3.hdr (away.hdr 3) = true ∧ (combineData away.aop.toNat c3.data away.data).isSome = true) ∧
    (((wReach 0x3A { combining := [c3] }).net.gw.get 0).combining = [c3] ∧ c3.hdr.region = 3 ∧ c3.hdr.op = 3 ∧ c3.sent = none ∧ c1.closed = false ∧ c1.hdr.region = 3 ∧ c1.hdr.op = 1 ∧ 2 ≤ c3.origs.length ∧ c1.origs.length ≤ 1) ∧
    (((wReach 0x3A { refusals := [(0, away.hdr 2)] }).net.gw.get 0).refusals = (0, away.hdr 2) :: [] ∧ (s.net.gw.get 0).refusals = []) ∧
    ((h.net.gw.get 0).heldFlags = [{ plaza := 0, index := 3, seq := 4, count := 2 }] ∧ (h.tally 0 3).held = false ∧ ((h.modTally 0 3 (fun t => { t with held := true })).tally 0 3).held = true) ∧
    (∃ e, s.routeOf 0 = some e ∧ (s.net.ports.get e.subport).up = true) ∧ (s.stageKeyOk 7 = true ∧ s.stageKeyOk 0 = false) ∧
    ((s.net.wins.get (winIx 0 0)).has 4095 = false ∧ (s.net.wins.get (winIx 0 0)).beyond 4095 = false) ∧
    (2 ^ 20 - 64 + 64 ≤ s.img.stagingMiB * 2 ^ 20 ∧ ¬ 2 ^ 20 + 64 ≤ s.img.stagingMiB * 2 ^ 20) ∧ ({ s with top := { state := .running } } : State).top.state = .running := by
  repeat' refine And.intro ?_ ?_
  all_goals first | exact ⟨{ subport := 0, ip := 9 }, by decide +kernel⟩ | decide +kernel

theorem witness_ReachReplies :
    let load : ReachReq := { engine := 15, hdr := { op := 1, seq := 6, length := 64 }, lregion := 3 }
    let p : ReachIn := { wIn with engine := 15, seq := 6 }
    let s := fun (l : List ReachReq) => wReach 0x3A { slots := l }
    let atomic := fun (aop : Nat) => ({ load with hdr := { op := 3, aop := aop, seq := 6 } } : ReachReq)
    (p.engine.toNat < 32 ∧ (s [load]).slotOf p = some load ∧ (s []).slotOf p = none ∧ p.data.length = load.hdr.length ∧ ((s [load]).region load.lregion).isSome = true) ∧
    ((s [atomic 0x81]).slotOf p = some (atomic 0x81) ∧ bitAt 0x81 7 = true ∧ bitAt 1 7 = false ∧ ((s [atomic 1]).net.gw.get 0).slots = [atomic 1] ∧ ((s []).net.gw.get 0).queue = []) ∧
    (ackCovers { p with flags := 8 } 6 = true ∧ ackCovers { p with flags := 8 } 5 = false ∧ ackCovers p 5 = true) ∧
    ((load.hdr.seq - p.seq).toNat < (1 : Word).toNat ∧ (0 : Word).toNat ≤ (load.hdr.seq - p.seq).toNat) ∧
    (({ p with status := 2 } : ReachIn).status = 2 ∧ ({ p with status := 4 } : ReachIn).status ≠ 2 ∧ load.step = (s [load]).seq.current) ∧
    (let c : Combining := { hdr := { op := 1 }, dst := 0, sent := some 6, origs := [(1, 2, 3)] }
     ((wReach 0x3A { combining := [c] }).net.gw.get 0).combining = [c] ∧ ((wReach 0x3A { combining := [c] }).net.gw.get 1).combining = [] ∧ c.dst = p.src.val ∧ c.sent = some p.seq ∧
     ({ p with engine := 0xFF } : ReachIn).engine = 0xFF ∧ ¬ (0xFF : Byte).toNat < 32) ∧
    ((wReach 0x3A {}).claimed 2 0x11 0 = true ∧ (wReach 0x3A {}).netOpen = true ∧ p.version = 1 ∧ p.data.length = p.length.toNat ∧ p.dst.val = (wReach 0x3A {}).ownIndex) := by
  decide +kernel

/-- Credential slot 0 may operate; a package in a state. -/
def wMews (st : PkgState) : State :=
  { wTop st with sec := { lifecycle := 2 }, mews := { creds := Tbl.set {} 0 (some { key := 5, operate := true }) }, pp := { nvOpen := true } }
/-- A request of that slot with its tag. -/
def wSlotReq (code : Nat) (body : List Byte) : MewsReq :=
  let r : MewsReq := { cred := 0, seq := 1, body := body }
  { r with auth := (wMews .idle).mews.tag 0 (mewsReqHeader code r) body }

/-- Its authentication holds in every state with that slot and no SEQ yet. -/
theorem slot_auth (s : State) (code : Nat) (body : List Byte) (h0 : s.mews.creds.get 0 = some { key := 5, operate := true }) (h1 : s.mews.seqs.get 0 = none)
    (h2 : s.mews.boot = 0) : s.mewsAuth code (wSlotReq code body) = .slot true := by
  have hr : (wSlotReq code body).cred.toNat = 0 := rfl
  have ht : s.mews.tag 0 (mewsReqHeader code (wSlotReq code body)) (wSlotReq code body).body = (wSlotReq code body).auth := by
    have hk : (wMews .idle).mews.creds.get 0 = some { key := 5, operate := true } := by decide +kernel
    show _ = (wMews .idle).mews.tag 0 _ _
    unfold Mews.tag Mews.bootBytes
    rw [h0, hk, h2]; rfl
  unfold State.mewsAuth
  rw [hr]
  dsimp only
  rw [h0, h1]
  simp [ht, seqAbove]

/-- What a state becomes once a request of that slot is noted. -/
def wNoted (s : State) (code : Nat) (body : List Byte) : State :=
  ({ s with mews := { s.mews with openReqs := s.mews.openReqs.set 0 (s.mews.openReqs.get 0 + 1) } } : State).takeSeq (wSlotReq code body) (.slot true)

/-- A request of that slot is served in every state with the slot, no SEQ yet, no request open and the owner in authority. -/
theorem slot_gate (s : State) (o : MewsOp) (body : List Byte) (h0 : s.mews.creds.get 0 = some { key := 5, operate := true }) (h1 : s.mews.seqs.get 0 = none)
    (h2 : s.mews.boot = 0) (hu : s.mewsUp = true) (hn : s.mews.openReqs.get 0 = 0) (hm : (wNoted s o.code body).mewsMay o (.slot true) = true) :
    s.mewsGate o (wSlotReq o.code body) (wNoted s o.code body) := by
  have ha := slot_auth { s with mews := { s.mews with openReqs := s.mews.openReqs.set 0 (s.mews.openReqs.get 0 + 1) } } o.code body h0 h1 h2
  have hp : (wSlotReq o.code body).port.val = 0 := rfl
  unfold State.mewsGate
  simp only [hp]
  rw [ha]
  exact ⟨hu, by omega, by decide, rfl, hm⟩

/-- The states of the tests are served. -/
theorem wMews_gate (st : PkgState) (o : MewsOp) (body : List Byte) (hm : (wNoted (wMews st) o.code body).mewsMay o (.slot true) = true) :
    (wMews st).mewsGate o (wSlotReq o.code body) (wNoted (wMews st) o.code body) :=
  slot_gate _ o body rfl rfl rfl (by cases st <;> rfl) rfl hm

/-- The confirmation that an offer asks for, and an OPEN that carries it. What the key pair decapsulates is a free value, so the message is built from it. -/
def wOffer : Offer := { num := 3, draw := 1 }
/-- An OPEN without its confirmation. -/
def wAsk (role : Byte) : OpenMsg := { offer := 3, role := role }
/-- The OPEN with it. -/
def wOpen (role : Byte) : OpenMsg := { wAsk role with confirm := shake256 32 (openSecret wOffer (wAsk role) ++ ascii "CNF" ++ leBytes 8 3) }
/-- A package with that offer. -/
def wSess (st : PkgState) (k : Sec) : State := { wTop st with sec := { k with offers := [wOffer] } }

/-- What is asked confirms itself: the part of the message that the key is derived from does not hold the confirmation. -/
theorem open_confirms (r : Byte) : fit 32 (wOpen r).confirm = shake256 32 (openSecret wOffer (wOpen r) ++ ascii "CNF" ++ leBytes 8 (wOpen r).offer.toNat) := by
  have h : (leBytes 8 (wAsk r).offer.toNat) = leBytes 8 3 := rfl
  simp only [wOpen, openSecret, h]
  exact Sys2Proof.Laws.fit_self 32 _ (Sys2Proof.Laws.shake256_length 32 _)

theorem witness_Sessions :
    ((wTop .idle).viaUp .doe = true ∧ State.reset.viaUp .doe = false) ∧
    (((wMews .idle).mewsGate opAttest (wSlotReq 2 (leBytes 32 0)) (wNoted (wMews .idle) 2 (leBytes 32 0)) ∧ (wNoted (wMews .idle) 2 (leBytes 32 0)).mewsState opAttest = true ∧
        (wSlotReq 2 (leBytes 32 0)).body.length = 32) ∧
      ((wMews .idle).mewsGate opCertChain (wSlotReq opCertChain.code (leBytes 4 0)) (wNoted (wMews .idle) opCertChain.code (leBytes 4 0)) ∧
        (wNoted (wMews .idle) opCertChain.code (leBytes 4 0)).mewsState opCertChain = true ∧ (wNoted (wMews .idle) opCertChain.code (leBytes 4 0)).sec.identity = true)) ∧
    ((({ xmssNext := 2 ^ 40 - 1, xmssBlock := 2 ^ 40 } : Sec).xmssNext < 2 ^ 40 ∧ ({} : Sec).identity = true ∧ ({} : Sec).trngFailed = false) ∧ ({} : Sec).xmssBlock ≤ ({} : Sec).xmssNext ∧
      ¬ ({ xmssBlock := 1 } : Sec).xmssBlock ≤ ({ xmssBlock := 1 } : Sec).xmssNext ∧ ({} : Sec).waiting = []) ∧
    (({ reserved := 1 } : OpenMsg).reserved ≠ 0 ∧ ((wAsk 1).reserved = 0 ∧ (wAsk 1).role.toNat ≤ 1 ∧ (wAsk 1).flags.toNat ≤ 1) ∧ (wSess .idle { lifecycle := 1 }).sec.lifecycle ≠ 2 ∧
      (wSess .idle {}).sec.lifecycle = 2 ∧ (wSess .idle {}).offerOf (wAsk 0) = some wOffer ∧ (wSess .idle {}).offerOf { offer := 4 } = none) ∧
    (∀ r, fit 32 (wOpen r).confirm = shake256 32 (openSecret wOffer (wOpen r) ++ ascii "CNF" ++ leBytes 8 (wOpen r).offer.toNat)) ∧
    ((wSess .idle {}).sec.tenant = none ∧ (wSess .idle {}).top.state = .idle ∧ (wSess .running {}).top.state ≠ .idle ∧ (fit 32 (wAsk 0).image).all (fun b => b == 0) = true) ∧
    (({ wSess .loaded { tenant := some {} } with img := { image := some { endpoint := some { sessions := 1 } } } } : State).img.image.bind (fun i => i.endpoint) = some { sessions := 1 } ∧
      ({ tenant := some {} } : Sec).tenant.isSome = true ∧ ({} : Sec).clients.length < 1) ∧
    (({ offers := [{ made := 5 }] } : Sec).offers ≠ [] ∧ State.reset.top.state ≠ .off ∧ (wTop .off).top.state = .off ∧ ({} : Sec).unwrapFails.get 26 = 0 ∧
      ({ unwrapFails := Tbl.set {} 26 1 } : Sec).unwrapFails.get 26 = 1) ∧
    (({} : Sec).pending = none ∧ ({ pending := some { since := 1 } } : Sec).pending = some { since := 1 } ∧ 0 < 1 + 600000000000 ∧ 0 + 600000000000 ≤ 600000000000) :=
  ⟨by decide +kernel, ⟨⟨wMews_gate .idle opAttest _ (by decide +kernel), by decide +kernel, rfl⟩,
    ⟨wMews_gate .idle opCertChain _ (by decide +kernel), by decide +kernel, rfl⟩⟩, by decide +kernel, by decide +kernel, open_confirms, by decide +kernel, by decide +kernel,
    by decide +kernel, ⟨rfl, rfl, by omega, by omega⟩⟩
/-- A request without a signature passes in every state that is served and has no request of its port open, where its class gives it authority. -/
theorem nobody_gate (s : State) (o : MewsOp) (body : List Byte) (hu : s.mewsUp = true) (hn : s.mews.openReqs.get 0 = 0)
    (hm : ({ s with mews := { s.mews with openReqs := s.mews.openReqs.set 0 (s.mews.openReqs.get 0 + 1) } } : State).mewsMay o .nobody = true) :
    s.mewsGate o { cred := 0xFF, body := body } ({ s with mews := { s.mews with openReqs := s.mews.openReqs.set 0 (s.mews.openReqs.get 0 + 1) } } : State) := by
  unfold State.mewsGate
  exact ⟨hu, by show s.mews.openReqs.get 0 < 4; omega, fun h => by exact MewsAuth.noConfusion (show MewsAuth.nobody = MewsAuth.bad from h), rfl, hm⟩

/-- Bodies of the Public and Read requests, with the last operands that each admits. -/
def wReads : List (MewsOp × List Byte) :=
  [(opGetInfo, []), (opRegRead, leBytes 4 (2 ^ 26 - 256) ++ leBytes 4 64), (opRegRead, leBytes 4 0 ++ leBytes 4 1 ++ leBytes 4 0x100080 ++ leBytes 4 5), (opEventRead, leBytes 8 (2 ^ 64 - 1)),
    (opEventAck, leBytes 8 9), (opMapRead, leBytes 4 1 ++ leBytes 4 (2 ^ 18 - 16384) ++ leBytes 4 16384), (opMapAck, leBytes 4 1)]

theorem reads_served (x : MewsOp × List Byte) (h : x ∈ wReads) :
    (wMews .idle).mewsGate x.1 (wSlotReq x.1.code x.2) (wNoted (wMews .idle) x.1.code x.2) ∧ (wNoted (wMews .idle) x.1.code x.2).mewsState x.1 = true := by
  have ha : (wReads.all (fun x => (wNoted (wMews .idle) x.1.code x.2).mewsMay x.1 (.slot true) && (wNoted (wMews .idle) x.1.code x.2).mewsState x.1)) = true := by decide +kernel
  have hx := List.all_eq_true.mp ha x h
  simp only [Bool.and_eq_true] at hx
  exact ⟨wMews_gate .idle x.1 x.2 hx.1, hx.2⟩

/-- A HOST_COMMAND with QUERY of item 3. -/
def wQuery (op : Nat) : List Byte := leBytes 4 op ++ leBytes 4 3 ++ List.replicate 44 0

theorem witness_MewsServes :
    (({ top := { aon := false } } : State).mewsUp = false ∧ (wMews .idle).mewsUp = true ∧ 4 ≤ ({ openReqs := Tbl.set {} 0 4 } : Mews).openReqs.get 0) ∧
    (∀ x ∈ wReads, (wMews .idle).mewsGate x.1 (wSlotReq x.1.code x.2) (wNoted (wMews .idle) x.1.code x.2) ∧ (wNoted (wMews .idle) x.1.code x.2).mewsState x.1 = true) ∧
    (isSelect 0x100080 = true ∧ ((leBytes 4 (2 ^ 26 - 256) ++ leBytes 4 64).length = 8) ∧ (2 ^ 26 - 256) + 4 * 64 ≤ 2 ^ 26) ∧
    ((wMews .idle).mewsGate hostCommandOp (wSlotReq hostCommandOp.code (wQuery 7)) (wNoted (wMews .idle) hostCommandOp.code (wQuery 7)) ∧
      (wNoted (wMews .idle) hostCommandOp.code (wQuery 7)).mewsFree hostCommandOp ∧ (wQuery 7).length = 52 ∧ (wNoted (wMews .idle) hostCommandOp.code (wQuery 7)).mews.recovery = false ∧
      bitAt 0xFE (wNoted (wMews .idle) hostCommandOp.code (wQuery 7)).top.state.code = true ∧ ∀ i, 8 ≤ i → i < 52 → (wQuery 7)[i]? = some 0) ∧
    ((wMews .idle).mewsGate hostCommandOp (wSlotReq hostCommandOp.code []) (wNoted (wMews .idle) hostCommandOp.code []) ∧ ([] : List Byte).length ≠ 52) ∧
    (mewsCodes.contains (0x41 : Byte).toNat = true ∧ mewsCodes.contains (0x42 : Byte).toNat = false ∧
      (wMews .idle).mewsGate { code := 0x42, cls := .anyone, accept := 0xFF, recovery := true } (wSlotReq 0x42 []) (wNoted (wMews .idle) 0x42 [])) ∧
    ((1 : BitVec 2).toNat ≤ 1 ∧ (0x08 : Byte) ≠ 0 ∧ (0x08 : Byte) ≠ 0xFF) :=
  ⟨by decide +kernel, reads_served, by decide +kernel,
    ⟨wMews_gate .idle hostCommandOp _ (by decide +kernel), ⟨by decide +kernel, by decide +kernel, by decide +kernel⟩, by decide +kernel, by decide +kernel, by decide +kernel, by
      intro i h1 h2
      have h : ((List.range 44).all (fun k => (wQuery 7)[8 + k]? == some 0)) = true := by decide +kernel
      have := List.all_eq_true.mp h (i - 8) (by simp; omega)
      have he : 8 + (i - 8) = i := by omega
      simpa [he] using this⟩,
    ⟨wMews_gate .idle hostCommandOp _ (by decide +kernel), by decide⟩,
    ⟨by decide +kernel, by decide +kernel, wMews_gate .idle _ _ (by decide +kernel)⟩, by decide⟩
/-- The states of the tests that hold more than the slot. -/
theorem gate_of (s : State) (o : MewsOp) (body : List Byte) (h : s.mews = (wMews .idle).mews) (hu : s.mewsUp = true) (hm : (wNoted s o.code body).mewsMay o (.slot true) = true) :
    s.mewsGate o (wSlotReq o.code body) (wNoted s o.code body) :=
  slot_gate s o body (by rw [h]; rfl) (by rw [h]; rfl) (by rw [h]; rfl) hu (by rw [h]; rfl) hm

theorem witness_MewsAuthority :
    ((wMews .idle).mewsAuth 0x22 (wSlotReq 0x22 []) = .slot true ∧ (wMews .idle).mewsAuth 0x22 { cred := 1 } = .bad ∧ (wSlotReq 0x22 []).cred.toNat < 16) ∧
    ((0xFF : Byte).toNat = 0xFF ∧ (0xFE : Byte).toNat = 0xFE ∧ (0xFD : Byte).toNat = 0xFD ∧ ({ auth := [3, 4] } : MewsReq).auth = 3 :: [4] ∧ 16 ≤ (16 : Byte).toNat ∧ (0xFC : Byte).toNat < 0xFD) ∧
    ((wMews .idle).mewsUp = true ∧ (wMews .idle).mews.openReqs.get 0 < 4 ∧
      ({ wMews .idle with mews := { (wMews .idle).mews with openReqs := Tbl.set {} 0 1 } } : State).mewsAuth 0x22 { cred := 1 } = .bad ∧ (wMews .idle).mews.authSec ≠ some (wMews .idle).second ∧
      ({ authSec := some 0 } : Mews).authSec = some (wMews .idle).second) ∧
    (let a : MewsAuth := .nobody
     (wMews .idle).mewsAuth 0x22 { cred := 0xFF } = a ∧ a ≠ .bad ∧ ((wMews .idle).takeSeq { cred := 0xFF } a).mewsMay opTimeSource a = false) ∧
    (∀ o ∈ ([opTimeSource, opFieldTest, opFwCommit] : List MewsOp), ∀ b : List Byte, (wMews .off).mewsGate o (wSlotReq o.code b) (wNoted (wMews .off) o.code b)) ∧
    ((wNoted (wMews .off) 0x22 []).mewsState opTimeSource = false ∧ (wNoted (wMews .off) 0x25 []).mewsState opFieldTest = false ∧ (wNoted (wMews .sweeping) 0x31 []).mewsState opFwCommit = false) := by
  refine ⟨⟨slot_auth _ _ _ rfl rfl rfl, by decide +kernel, by decide +kernel⟩, by decide +kernel, by decide +kernel, by decide +kernel, fun o ho b => ?_, by decide +kernel⟩
  simp only [List.mem_cons, List.mem_nil_iff, or_false] at ho
  rcases ho with rfl | rfl | rfl <;> exact wMews_gate .off _ b rfl

/-- Operate requests with their bodies. -/
def wOps : List (MewsOp × List Byte) :=
  [(opStageWrite, leBytes 8 (2 ^ 20 - 2) ++ [1, 2]), (opStageWrite, leBytes 8 (2 ^ 20 - 1) ++ [1, 2]), (opTimeSource, []), (opFreqSet, [7, 127]), (opConductorReset, [1]), (opFieldTest, []),
    (opMgmtNetSet, [0] ++ List.replicate 16 9), (opMgmtNetSet, [1] ++ List.replicate 16 9), (opFwWrite, leBytes 8 (2 ^ 26 - 1) ++ [5]), (opFwWrite, leBytes 8 (2 ^ 26) ++ [5]), (opFwCommit, [])]
/-- An idle package that serves them. -/
def wOpState (q : Conductor) (i : Option Image) (nv : Bool) : State :=
  { wMews .idle with cond := { c1 := q }, img := { stagingMiB := 1, image := i }, pp := { nvOpen := nv } }

theorem ops_run (q : Conductor) (i : Option Image) (nv : Bool) (x : MewsOp × List Byte) (h : x ∈ wOps) :
    (wOpState q i nv).mewsGate x.1 (wSlotReq x.1.code x.2) (wNoted (wOpState q i nv) x.1.code x.2) ∧ (wNoted (wOpState q i nv) x.1.code x.2).mewsFree x.1 := by
  have ha : (wOps.all (fun x => (wNoted (wMews .idle) x.1.code x.2).mewsMay x.1 (.slot true) && (wNoted (wMews .idle) x.1.code x.2).mewsState x.1)) = true := by decide +kernel
  have hx := List.all_eq_true.mp ha x h
  simp only [Bool.and_eq_true] at hx
  exact ⟨gate_of _ x.1 x.2 rfl rfl hx.1, hx.2, rfl, rfl⟩

/-- The clauses on valid firmware hold of every verifier that accepts the buffer: which signatures hold is left open (log 4). -/
theorem witness_MewsOperates :
    (∀ q i nv, ∀ x ∈ wOps, (wOpState q i nv).mewsGate x.1 (wSlotReq x.1.code x.2) (wNoted (wOpState q i nv) x.1.code x.2) ∧ (wNoted (wOpState q i nv) x.1.code x.2).mewsFree x.1) ∧
    ((leBytes 8 (2 ^ 20 - 2) ++ [1, 2]).length = 10 ∧ (2 ^ 20 - 2) + 2 ≤ 1 * 2 ^ 20 ∧ 1 * 2 ^ 20 < (2 ^ 20 - 1) + 2) ∧
    ((({ claims := [{ resource := 1, feature := 0, index := 0, count := 1 }] } : Image).claimOf 1 0).isSome = true ∧ (({} : Image).claimOf 1 0).isSome = false) ∧
    (({ state := .lockedOut } : Conductor).state = .lockedOut ∧ ({} : Conductor).state ≠ .lockedOut) ∧
    (([({ src := 0, dst := 8, wave := 3 } : WaveRef)].any (fun w => w.src.val == 0)) = true) ∧
    (([0] ++ List.replicate 16 9 : List Byte).length = 17 ∧ (3 : BitVec 128) ∉ [(4 : BitVec 128)] ∧ [(4 : BitVec 128)].length < 2 ∧ 2 ≤ [(4 : BitVec 128), 5].length ∧ (4 : BitVec 128) ∈ [(4 : BitVec 128)]) ∧
    ((2 ^ 26 - 1) + 1 ≤ 2 ^ 26 ∧ 2 ^ 26 < 2 ^ 26 + 1) ∧
    (({} : Mews).fwLeft = 0 ∧ 1 < ({ fwLeft := 64 } : Mews).fwLeft ∧ ({ fwLeft := 1 } : Mews).fwLeft = 1 ∧ (wOpState {} none true).pp.nvOpen = true ∧ (wOpState {} none false).pp.nvOpen = false) ∧
    (let m := wSlotReq 0x31 []
     ({ running := some (mewsCmd opFwCommit m) } : HostIf).running = some (mewsCmd opFwCommit m)) ∧
    (({} : Mews).fwStore.wf = true ∧ ({} : Mews).fwBuf.wf = true ∧ 63 < 64 ∧ 2 ^ 26 - 1 < 2 ^ 26 ∧ (2 ^ 26 - 1) / 2 ^ 20 = 63) :=
  ⟨ops_run, by
    repeat' refine And.intro ?_ ?_
    all_goals first | rfl | decide +kernel⟩
/-- A CHANGE_SUBMIT with owner key 1 and a signature; with a maker signature of maker key 2 where one is given. -/
def wChange (kind : Nat) (params : List Byte) (maker : Bool) : List Byte :=
  leBytes 2 kind ++ leBytes 8 1 ++ [1, if maker then 1 else 0] ++ params ++ (if maker then [2] ++ List.replicate 2820 8 else []) ++ List.replicate 2820 7
/-- What it says. -/
def wSaid (kind : Nat) (params : List Byte) (maker : Bool) : ChangeBody :=
  { kind := kind, counter := 1, key := 1, params := params, maker := if maker then some (2, List.replicate 2820 8) else none, sig := List.replicate 2820 7 }
/-- The owner list of 2 and 1 keys, and the rest of what OWNED is entered with. -/
def wOwned : List Byte := [1] ++ leBytes 8 15 ++ [2, 1] ++ List.replicate 204 5
/-- An idle package that serves the request, in a life-cycle state, with a change pending. -/
def wLife (l : Nat) (p : Option PendingChange) : State := { wMews .idle with sec := { lifecycle := l, pending := p } }
/-- The state once the request is noted. -/
def wAsked (s : State) : State := { s with mews := { s.mews with openReqs := s.mews.openReqs.set 0 (s.mews.openReqs.get 0 + 1) } }

/-- Changes with the parameters that their kind takes: kind, life-cycle state, parameters, maker signature. -/
def wChanges : List (Nat × Nat × List Byte × Bool) :=
  [(1, 2, [1], false), (2, 2, leBytes 8 15, false), (3, 2, List.replicate 136 5, false), (4, 2, [], false), (6, 2, List.replicate 68 5, false),
    (5, 0, [1], false), (5, 1, [2] ++ wOwned, true), (5, 2, [1], false), (5, 2, [3], true), (5, 3, [1, 0], false), (5, 2, [4], false)]

theorem changes_formed (x : Nat × Nat × List Byte × Bool) (h : x ∈ wChanges) :
    (changeBody (wChange x.1 x.2.2.1 x.2.2.2) = some (wSaid x.1 x.2.2.1 x.2.2.2) ∧ (wLife x.2.1 none).changeParamsOk (wSaid x.1 x.2.2.1 x.2.2.2) = true) ∧
    (wLife x.2.1 none).mewsGate (opChange x.1) { cred := 0xFF, body := wChange x.1 x.2.2.1 x.2.2.2 } (wAsked (wLife x.2.1 none)) ∧
    (wAsked (wLife x.2.1 none)).mewsFree (opChange x.1) := by
  have ha : (wChanges.all (fun x => changeBody (wChange x.1 x.2.2.1 x.2.2.2) == some (wSaid x.1 x.2.2.1 x.2.2.2) && (wLife x.2.1 none).changeParamsOk (wSaid x.1 x.2.2.1 x.2.2.2) &&
    (wAsked (wLife x.2.1 none)).mewsMay (opChange x.1) .nobody && (wAsked (wLife x.2.1 none)).mewsState (opChange x.1))) = true := by decide +kernel
  have hx := List.all_eq_true.mp ha x h
  simp only [Bool.and_eq_true, beq_iff_eq] at hx
  exact ⟨⟨hx.1.1.1, hx.1.1.2⟩, nobody_gate _ _ _ rfl rfl hx.1.2, hx.2, rfl, rfl⟩

/-- A signature of the right lengths holds as the verifier says. -/
theorem signature_by (key sig : List Byte) (d : Digest) (h1 : key.length = 68) (h2 : sig.length = 2820) : signatureOk key d sig = true ↔ Sys2Proof.Config.xmssVerify key d sig = true := by
  simp [signatureOk, h1, h2]

/-- Which signatures hold is left open (log 4): the clauses on a signed change hold of a verifier that accepts the one given, shown here for a policy change and its second signature. -/
theorem witness_TwoPartyChanges :
    (∀ x ∈ wChanges, (changeBody (wChange x.1 x.2.2.1 x.2.2.2) = some (wSaid x.1 x.2.2.1 x.2.2.2) ∧ (wLife x.2.1 none).changeParamsOk (wSaid x.1 x.2.2.1 x.2.2.2) = true) ∧
      (wLife x.2.1 none).mewsGate (opChange x.1) { cred := 0xFF, body := wChange x.1 x.2.2.1 x.2.2.2 } (wAsked (wLife x.2.1 none)) ∧ (wAsked (wLife x.2.1 none)).mewsFree (opChange x.1)) ∧
    (changeBody [] = none ∧ (wLife 2 none).mewsGate (opChange 0) { cred := 0xFF, body := [] } (wAsked (wLife 2 none))) ∧
    ((wLife 2 none).changeParamsOk (wSaid 1 [2] false) = false) ∧
    (∀ d, signatureOk (List.replicate 68 5) d (wSaid 2 [] false).sig = true ↔ Sys2Proof.Config.xmssVerify (List.replicate 68 5) d (List.replicate 2820 7) = true) ∧
    (({ wLife 2 none with sec := { lifecycle := 2, owners := Tbl.set {} 1 (List.replicate 68 5) } } : State).changeKey (wSaid 2 [] false) = List.replicate 68 5 ∧
      (wSaid 2 [] false).counter = ((0 : Word64) + 1).toNat) ∧
    (∀ d, (let x : PendingChange := { kind := 2, digest := d, signer := 0, since := 5 }
      (wLife 2 (some x)).sec.pending = some x ∧ x.digest = d ∧ x.signer ≠ (wSaid 2 [] false).key ∧ (wLife 2 (some x)).top.now < x.since + 600000000000)) ∧
    (({ tenant := some {} } : Sec).tenant.isSome = true ∧ ({} : Sec).tenant = none ∧ (wLife 2 none).pp.nvOpen = true ∧ ({ nvOpen := false } : PkgPwr).nvOpen = false) ∧
    ((leBytes 2 15 ++ List.replicate 38 0).length = 40 ∧ opCredSet.accept = 0x3E) ∧
    (State.reset.top.nv = [] ∧ ({ nv := [.retire 0 5, .xmss 256] } : Top).nv = .retire 0 5 :: [.xmss 256] ∧ ({} : Sec).waiting = [] ∧ (ownedParams wOwned).isSome = true ∧ State.reset.host.running = none) := by
  exact ⟨changes_formed, ⟨by decide +kernel, nobody_gate _ _ _ rfl rfl rfl⟩, by decide +kernel, fun d => signature_by _ _ d List.length_replicate List.length_replicate, by decide +kernel, fun d => ⟨rfl, rfl, by show (0 : Nat) ≠ 1; decide, by show (0 : Nat) < 5 + 600000000000; decide⟩, by decide +kernel,
    by decide +kernel, by decide +kernel⟩
/-- A RESET of a kind and target. -/
def wReset (kind target : Byte) : List Byte := [kind, target, 0, 0, 0, 0, 0, 0]
/-- An idle or loaded package that serves it, with a tenant where asked, and shallot 3 as given. -/
def wRst (st : PkgState) (tenant : Bool) (h : Shallot) : State :=
  ({ wMews st with sec := { tenant := if tenant then some {} else none }, top := { (wTop st).top with now := 2 * 10 ^ 9 } } : State).modSh 3 (fun _ => h)

theorem resets_run (kind target : Byte) (st : PkgState) (tenant : Bool) (h : Shallot) (hs : bitAt 0xBF st.code = true) :
    (wRst st tenant h).mewsGate opReset (wSlotReq opReset.code (wReset kind target)) (wNoted (wRst st tenant h) opReset.code (wReset kind target)) ∧
      (wNoted (wRst st tenant h) opReset.code (wReset kind target)).mewsFree opReset :=
  ⟨gate_of _ opReset _ rfl rfl rfl, hs, rfl, rfl⟩

theorem witness_Resets :
    (∀ kind target st tenant h, bitAt 0xBF st.code = true →
      (wRst st tenant h).mewsGate opReset (wSlotReq opReset.code (wReset kind target)) (wNoted (wRst st tenant h) opReset.code (wReset kind target)) ∧
      (wNoted (wRst st tenant h) opReset.code (wReset kind target)).mewsFree opReset) ∧
    (bitAt 0xBF PkgState.idle.code = true ∧ bitAt 0xBF PkgState.running.code = true ∧ bitAt 0xBF PkgState.faulted.code = true) ∧
    (∀ kind target, (wReset kind target).length = 8 ∧ (∀ i, 2 ≤ i → i < 8 → (((wReset kind target)[i]?).getD 0).toNat = 0) ∧ (wReset kind target)[0]? = some kind ∧ (wReset kind target)[1]? = some target) ∧
    ((wRst .idle false {}).sec.pending = none ∧ (wRst .idle false {}).top.nv = [] ∧ (wRst .idle false {}).top.aon = true ∧ (wRst .idle false {}).top.pkgRst = false ∧ ({ pkgRst := true } : Top).pkgRst = true ∧
      ({ aon := false } : Top).aon = false) ∧
    ((wRst .loaded true {}).sec.tenant.isSome = true ∧ (wRst .loaded true {}).resetMoves = true ∧ (wRst .loaded false {}).sec.tenant = none ∧ (wRst .faulted true {}).resetMoves = false ∧ 25 ≤ 25) ∧
    (State.reset.top.plazaReset = none ∧ ({ plazaReset := some { plaza := 25 } } : Top).plazaReset = some { plaza := 25 } ∧ (64 : BitVec 7).toNat = 64 ∧ (63 : BitVec 7).toNat < 64) ∧
    (let hot : Shallot := { pwr := { tripped := true, tripAt := 2 * 10 ^ 9 - 5 } }
     let cool : Shallot := { pwr := { tripped := true, temp := 85 * 128 - 1 } }
     ((wRst .idle false hot).shal 3).pwr.tripped = true ∧ ((wRst .idle false hot).shal 3).pwr.cooled (2 * 10 ^ 9) = false ∧ ((wRst .idle false cool).shal 3).pwr.cooled (2 * 10 ^ 9) = true ∧
     ((wRst .idle false {}).shal 3).pwr.tripped = false) ∧
    (wExec.executing = true ∧ ((wRst .idle false { placed := true }).shal 3).placed = true ∧ (wRst .idle false {}).executing = false) ∧
    ((wRst .idle false {}).img.image = none ∧ ((wRst .idle false { resetting := true }).shal 3).resetting = true ∧ ((wRst .idle false {}).shal 3).resetting = false) := by
  refine ⟨resets_run, by decide +kernel, fun kind target => ⟨rfl, fun i h1 h2 => ?_, rfl, rfl⟩, ?_⟩
  · have : i = 2 ∨ i = 3 ∨ i = 4 ∨ i = 5 ∨ i = 6 ∨ i = 7 := by omega
    rcases this with rfl | rfl | rfl | rfl | rfl | rfl <;> rfl
  · repeat' refine And.intro ?_ ?_
    all_goals decide +kernel

theorem witness_BringUp :
    let ph := fun (n : Nat) => { State.reset with top := { State.reset.top with phase := n } }
    (State.reset.top.aon = true ∧ ({ aon := false } : Top).aon = false ∧ ({ aon := false, ioOnly := true } : Top).ioOnly = true) ∧
    ((ph 1).top.phase = 1 ∧ (ph 1).storeValid = true ∧ ({ ph 1 with mews := { fwWhole := false } } : State).storeValid = false ∧ (ph 2).top.phase = 2) ∧
    ((ph 3).top.phase3 = false ∧ ({ phase3 := true } : Top).phase3 = true ∧ (ph 3).crossfadesDue = false ∧
      ({ ph 3 with lamp := { lamps := Tbl.set {} 4 { state := .crossfading } } } : State).crossfadesDue = true) ∧
    ((ph 6).sec.trngFailed = false ∧ (∀ h, h < 16 → ∀ d ∈ ([] : List StackDown), d.stack.val ≠ h) ∧ ([{ stack := 15, pcUp := 63 }] : List StackDown).length = 1) ∧
    ((ph 8).top.phase = 8 ∧ ((ph 8).shal 7).fenced = false ∧ (1 : Fin 6).val ≤ 1 ∧ 2 ≤ (2 : Fin 6).val) ∧
    (∀ n, n < 9 → n ≠ 4 → (ph n).top.phase = n) := by
  refine ⟨by decide +kernel, by decide +kernel, by decide +kernel, ⟨by decide +kernel, fun h _ d hd => by simp at hd, by decide +kernel⟩, by decide +kernel, by decide +kernel⟩

theorem witness_EventLog :
    let s := fun (head host mews : Word64) (en hold : Bool) => { wTop .running with ev := { head := head, hostTail := host, mewsTail := mews, irqEn := en, holdOff := hold } }
    ((s (2 ^ 64 - 2) 0 0 false false).ev.head.toNat + 1 < 2 ^ 64 ∧ (List.replicate 28 (7 : Byte)).length ≤ 28) ∧
    (8192 ≤ (s 8192 0 1 false false).ev.head.toNat ∧ (0 : Word64).toNat < 8193 - 8192 ∧ ¬ (1 : Word64).toNat < 8193 - 8192 ∧ ¬ 8192 ≤ (s 8191 0 0 false false).ev.head.toNat) ∧
    ((s 5 6 0 true false).ev.hostTail.toNat = 6 ∧ ¬ (s 5 6 0 true false).ev.hostTail.toNat < 5 + 1 ∧ (s 5 5 0 true false).ev.hostTail.toNat < 5 + 1 ∧ (s 5 5 0 true true).ev.holdOff = true) ∧
    ((s 5 5 0 true false).host.masked (s 5 5 0 true false).eventVector = true) ∧
    (let h : HostIf := { (wTop .running).host with msix := (wTop .running).host.msix.set 3 1 }
     h.masked 0 = false ∧ h.canSend = true) ∧
    ((s 5 4 0 true false).ev.irqEn = true ∧ ({ irqPending := true, irqEn := true, head := 5, hostTail := 4 } : EventLog).irqPending = true) := by decide +kernel

theorem witness_WritesAndReportsLand_reports :
    let q : StepSeq := { observers := Tbl.set {} 2 { entry := some { raw := BitVec.ofNat 128 (9 * 2 ^ 48) } } }
    (q.observerOf 9 = some 2 ∧ q.observerOf 8 = none) ∧
    (q.exe.obs.get 9 = none ∧ ({ obs := Tbl.set {} 9 (some (some (-3))) } : Execution).obs.get 9 = some (some (-3))) ∧
    (({ once := { t2 := true } } : StepSeq).once.t2 = true ∧ ({} : StepSeq).once.t2 = false) := by decide +kernel

/-- A package with shallot 5 powered at its top code, the others unpowered; its queue is empty. -/
def wNs : State := State.reset.modSh 5 (fun h => { h with powered := true, clk := { h.clk with code := 120, phase := 0 } })

/-- The same one with a period of shallot 5 ended. -/
def wDue : State := wNs.modSh 5 (fun h => { h with clk := { h.clk with phase := 1000 } })

theorem witness_IdleStep :
    (State.reset.pending = [] ∧ (wNs.pending = [] ∧ (wNs.shal 5).powered = true ∧ (wNs.shal 4).powered = false ∧ (wNs.shal 5).clk.phase < 1000)) ∧
    wDue.pending = [] ∧ (wDue.shal 5).powered = true ∧ 1000 + 250 * (wDue.shal 5).clk.stretch ≤ (wDue.shal 5).clk.phase ∧ (wDue.shal 5).inStep = false := by decide +kernel

theorem witness_EveryStepKeepsInvariant : ∃ t, State.reset.Inv ∧ step State.reset = .next t :=
  ⟨State.reset.tick, ⟨by decide +kernel, by decide +kernel⟩, rfl⟩

/-! ### Hypotheses that are met: where commands complete -/

theorem witness_LightAndStepCommandsComplete :
    let x := fun (a : Lamp) => (wLamp a {}).lamp.lamps.get 0
    let s : State := { wLamp { bySpare := some 3, demandAt := some 0 } { state := .spareReady } with
      top := { State.reset.top with state := .running }, seq := { grant := some .forced, work := { lamps := [0] } } }
    let d := wPhase .drain {}
    let j : State := { wLoaded with seq := { stallSince := some 0, stalled := [{}], tail := 32 } }
    (∃ p, pairOf (((wArr.podOf wRef).banks.get 0).fpair.toNat) = some p ∧ (true = true → p.a32 = true) ∧ (p.a.blocks - p.k / 32) + p.k / 32 ≤ p.a.blocks) ∧
    ((x { state := .crossfading }).state.lit = true ∧ (x { state := .crossfading }).state ≠ .active ∧ (x {}).state = .active ∧ (x { state := .spareWarming }).state = .spareWarming) ∧
    ((wLate.lamp.lamps.get 0).demandAt = some 0 ∧ wLate.top.state = .running ∧ (wLate.lamp.lamps.get 0).state = .active ∧ 0 + 1000000000 ≤ wLate.top.now ∧
      wLate.seq.work.lamps.contains 0 = false ∧ wLate.cond.switching = none) ∧
    (s.grantIdle.crossfadeGranted 0 = true ∧ (s.grantIdle.lamp.lamps.get 0).bySpare = some 3 ∧ (s.grantIdle.lamp.lamps.get 0).state = .active ∧ (s.grantIdle.lamp.lamps.get 3).state = .spareReady) ∧
    ((x { state := .crossfading, bySpare := some 3, step := 38 }).bySpare = some 3 ∧ (3 : Nat) ≠ 0 ∧ ({ p0Due := true } : Lamp).p0Due = true ∧ ({ p0Pending := true } : Lamp).p0Pending = true) ∧
    (State.reset.top.state = .bringup ∧ 1 ≤ ({ calPhase := 8 } : Lamps).calPhase ∧ ({ calPhase := 7 } : Lamps).calPhase < 8) ∧
    (wRecal.grantIdle.seq.grant.isSome = true ∧ wRecal.grantIdle.seq.work.lanes.contains (laneIx (wLaneRef 0)) = true ∧ wRecal.grantIdle.seq.work.lamps = [] ∧ wRecal.grantIdle.seq.flitWait = false ∧
      (wRecal.grantIdle.lane (wLaneRef 0)).pending = true ∧ (wRecal.grantIdle.plazaLanes 0).all (fun y => !y.running) = true) ∧
    ((wLane 0 { running := true }).lane wCal.group).running = true ∧
    (d.top.state = .running ∧ d.seq.phase = .drain ∧ d.seq.exe.ending = none ∧ d.seq.exe.flights = [] ∧ d.loadsDone = true ∧ d.seq.exe.failed = false ∧ d.cond.twins = 0 ∧
      (∀ n, n < 8 → (d.shal n).placed = false) ∧ d.seq.raises = [] ∧ d.activeWindows true = [] ∧ d.seq.replay = false) ∧
    (j.seq.stallSince = some 0 ∧ j.seq.stalled = [{}] ∧ j.seq.heldActs = [] ∧ j.journalRoom {} = true) ∧
    ((wPhase .commit {}).seq.stalled = [] ∧ (wPhase .commit {}).windowsMoved true = true ∧ (wPhase .restore { verdict := some .rerun }).seq.exe.verdict = some .rerun ∧
      HeldAct.failed ∉ (wPhase .restore {}).seq.heldActs) ∧
    ((wBarrier [] none {}).mayBeReady = true ∧ (wBarrier [] none {}).seq.startAt = none ∧ (wBarrier [] none {}).extBarrier = false ∧ (wBarrier [] none {}).img.image.bind (fun j => j.domain) = none) ∧
    ((wBarrier [] none wDomain).img.image = some wDomain ∧ wDomain.domain = some (2, 0, 1) ∧ 1 < 2 ∧ (1 : Nat) ≠ 0 ∧ (wBarrier [] none wDomain).seq.ownReady = none) ∧
    ((wBarrier [] (some 4) wDomain).seq.ownReady = some 4 ∧ (wBarrier [] (some 4) wDomain).extBarrier = false ∧ (wBarrier [] (some 4) wExt).extBarrier = true) ∧
    (({ wTop .idle with mews := { timeSource := true } } : State).ppsIn = true ∧ (wTop .idle).top.state = .idle) := by
  refine ⟨⟨⟨.i8, .i8, 64, 64, 1, 8, true⟩, by decide +kernel, by decide, by decide⟩, ?_⟩
  repeat' refine And.intro ?_ ?_
  all_goals decide +kernel

theorem witness_PackageCommandsComplete :
    let s := fun (q : Cond) => { wPair q with top := { state := .running, now := 1100 } }
    let c := s { wCond with inputs := [{ iseq := 4 }] }
    let bad := s { wCond with stages := Tbl.set {} 8 { lagged := true } }
    let w : State := { wStack { repairs := [4], lost := [7] } with seq := { grant := some .forced, work := { other := [5] } } }
    (c.cond.inputs.find? (fun j => j.iseq == 4) = some { iseq := 4 } ∧ (0 ≤ c.top.now - c.top.timeBase) ∧ c.cond.c0.state.runs = true ∧ c.cond.comparing = false ∧ c.cond.c1.state = .standby) ∧
    ((wStage 0).cond.c0.state.runs = true ∧ (({ claim0 := 2, claim1 := 1 } : OutStage).claim1.toNat < 2) ∧ ({} : OutStage).last = none ∧ 8 ≤ 39) ∧
    ((bad.cond.stages.get 8).lagged = true ∧ bad.cond.switching = none ∧ bad.cond.mismatch = none ∧ bad.cond.umpireLost = false ∧ bad.cond.c0.state = .active ∧ bad.cond.active = false) ∧
    (1000 * (c.cond.interval + 1) ≤ c.top.now - c.top.timeBase ∧ c.cond.c0.heartbeat = none ∧ 1000 * (c.cond.interval + 1) + 100 ≤ c.top.now - c.top.timeBase) ∧
    (({ switching := some {}, stages := Tbl.set {} 0 { claimDue := true } } : Cond).switching = some {} ∧ (({ stages := Tbl.set {} 0 { claimDue := true } } : Cond).stages.get 0).claimDue = true) ∧
    (((wStage 2).cond.stages.get 39).nextHeld.isSome = true ∧ (wStage 2).cond.comparing = false) ∧
    (({ switching := some {} } : Cond).switching = some {} ∧ (∀ k, k < 40 → stageExists k = true → (({ switching := some {} } : Cond).stages.get k).claimDue = false) ∧
      State.reset.seq.boundaryDue = false ∧ State.reset.seq.forceDue = false) ∧
    (({ c0 := { state := .resync, resyncReady := true } } : Cond).c0.state = .resync ∧ (wPair { c0 := { state := .resync, resyncReady := true } }).mayResync = true ∧ ({ state := .failed } : Conductor).state = .failed) ∧
    ((((wGroup { suspect := true } true).shal 0).bond 0 3).suspect = true ∧ (wGroup {} true).seq.boundaryDue = false ∧ ((wEnd { training := true } {}).bondEnd (.row wRef) false).training = true ∧
      ((wEnd {} {}).bondEnd (.row wRef) false).training = false ∧ ((wEnd { training := true, peer := some 7 } {}).bondEnd (.row wRef) false).sentDone = false) ∧
    (({ logPending := [(1, 2)] } : Boulevard).logPending ≠ [] ∧ (wGroup {} true).pp.nvOpen = true) ∧
    (((wClk {}).shal 0).powered = true ∧ 30 < min (50 : BitVec 8).toNat (60 : BitVec 8).toNat ∧ min (50 : BitVec 8).toNat (60 : BitVec 8).toNat ≤ 50 ∧ (({ demands := [5] } : ShClock).demands = [5]) ∧ 30 ≤ (30 : BitVec 10).toNat) ∧
    ((∀ m, m < 8 → (State.reset.shal m).pwr.dueWakes = []) ∧ State.reset.img.image = none ∧ ({ forecastHold := some 0 } : Shallot).forecastHold = some 0 ∧ ({} : ShPower).vrLimit = false ∧
      ({ vrLimit := true } : ShPower).vrLimit = true ∧ ({ resetWaits := true } : ShPower).cooled (10 ^ 9) = true) ∧
    ((wMem.mem.get 0).serves = true ∧ (wMem.mem.get 0).lost.contains 5 = false ∧ 4 ∈ (w.mem.get 0).repairs ∧ w.seq.grant.isSome = true ∧ w.seq.flitWait = false ∧ w.seq.work.lamps = [] ∧
      w.seq.work.lanes = [] ∧ w.seq.work.other ≠ [] ∧ ((wStack { walking := true }).mem.get 0).walking = true) ∧
    (({ oldLive := true } : Sec).oldLive = true ∧ ∀ h, h < 16 → (State.reset.mem.get h).walking = false) := by
  repeat' refine And.intro ?_ ?_
  all_goals decide +kernel

/-- Which calls open, and which firmware and changes are signed, is left open (log 4): their clauses hold of what is accepted. -/
theorem witness_NetworkAndReachCommandsComplete :
    let n := wNet { up := true } false
    let r := wReach 0x3A {}
    let win := r.net.wins.get (winIx 0 0)
    let load : ReachReq := { engine := 15, hdr := { op := 1, seq := 6, length := 64 }, lregion := 3 }
    let p : ReachIn := { wIn with engine := 15, seq := 6 }
    (((wNet {} false).net.ports.get 0).up = false ∧ (n.net.ports.get 0).up = true ∧ (wNet {} false).linksMay = true ∧ (wNet {} false).subExists 0 = true ∧ (wNet {} false).macsecOn 0 = false) ∧
    (n.top.state = .loaded ∧ n.ownAddress 7 = true ∧ ({} : RxEth).len ≤ 9216 ∧ ({} : RxEth).fcsOk = true ∧ n.claimed 2 0x10 0 = true ∧ (n.net.gw.get 0).ptpMaster = false) ∧
    (let s := wSched 0 [{ stream := 3, step := 1, data := List.replicate 906 0 }] [] false
     s.stream 3 0 = some (wStr 0) ∧ s.top.state = .running ∧ s.ptpTime * 25 / 64 % max 1 (wStr 0).cycle < (wStr 0).start + (wStr 0).length ∧ (wStr 0).start = 0 ∧ s.canSendTo 5 = true ∧ 906 + 118 ≤ 512 * 2 ∧
     s.egressFrozen 0 = false ∧ (s.net.ports.get 0).macsec = false ∧ s.net.schedBusy.get 3 ≤ s.ptpTime * 25 / 64) ∧
    (let t : State := { n with net := { n.net with routes := Tbl.set {} 5 { active := 1 } } }
     t.canSendTo 5 = true) ∧
    (let s := wSched 1 [] [] false
     s.stream wPkt.stream.toNat 1 = some (wStr 1) ∧ s.region 3 = some wRegion ∧ s.seq.replay = false ∧ s.schedGot 3 1 = none ∧ s.seq.committed.toNat < wPkt.step.toNat) ∧
    (let y : SchedIn := { stream := 3, step := 1, count := 2, got := [1] }
     (wSched 1 [] [y] false).schedGot 3 1 = some y ∧ wPkt.seq ∈ y.got ∧ y.complete = false) ∧
    ((wTop .idle).viaUp .doe = true ∧ ({ xmssNext := 2 ^ 40 - 1, xmssBlock := 2 ^ 40 } : Sec).xmssNext < 2 ^ 40 ∧ ({ xmssNext := 1, xmssBlock := 256 } : Sec).xmssNext < 256) ∧
    ((wAsk 0).reserved = 0 ∧ (wAsk 0).flags.toNat ≤ 1 ∧ (wSess .idle {}).sec.lifecycle = 2 ∧ (wSess .idle {}).offerOf (wAsk 0) = some wOffer ∧ (wSess .idle {}).sec.tenant = none) ∧
    (∀ role, fit 32 (wOpen role).confirm = shake256 32 (openSecret wOffer (wOpen role) ++ ascii "CNF" ++ leBytes 8 (wOpen role).offer.toNat)) ∧
    (r.claimed 2 0x11 0 = true ∧ r.netOpen = true ∧ wIn.version = 1 ∧ wIn.dst.val = r.ownIndex ∧ win.has 4095 = false ∧ win.beyond 4095 = false ∧ (r.net.gw.get 0).stamped = [] ∧
      (r.reachRegion (wIn.hdr 2)).isSome = true ∧ (r.reachRegion (wIn.hdr 3)).isSome = true ∧ wIn.tally.getLsbD 31 = false ∧ wIn.flags.getLsbD 1 = false ∧ wIn.data.length = wIn.length.toNat) ∧
    (r.stageKeyOk 7 = true ∧ 2 ^ 20 - 64 + 64 ≤ r.img.stagingMiB * 2 ^ 20) ∧
    ((wReach 0x3A { slots := [load] }).slotOf p = some load ∧ p.engine.toNat < 32 ∧ p.data.length = load.hdr.length ∧ ((wReach 0x3A { slots := [load] }).region 3).isSome = true) ∧
    (let c : Combining := { hdr := wIn.hdr 3, dst := 9, data := [], origs := [(0, 0, 1)] }
     ((wReach 0x3A { combining := [c] }).net.gw.get 0).combining = [c] ∧ c.hdr.op = 3 ∧ c.sent = none ∧ c.origs.length ≤ 1) ∧
    (({ irqPending := true, irqEn := true, head := 5, hostTail := 4 } : EventLog).hostTail.toNat < 5 ∧ ({ pending := some { since := 0 } } : Sec).pending = some { since := 0 } ∧ State.reset.top.state ≠ .off) :=
  by
  repeat' refine And.intro ?_ ?_
  all_goals first | exact open_confirms | decide +kernel

/-- CREDENTIAL_SET and CHANGE_SUBMIT are signed: which signatures hold is left open (log 4). -/
theorem witness_MewsAndPinCommandsComplete :
    let ph := fun (n : Nat) => { State.reset with top := { State.reset.top with phase := n } }
    let h : Shallot := { wideHold := 3, pwr := { dutyPower := 4 } }
    (∀ x ∈ wReads, (wMews .idle).mewsGate x.1 (wSlotReq x.1.code x.2) (wNoted (wMews .idle) x.1.code x.2) ∧ (wNoted (wMews .idle) x.1.code x.2).mewsState x.1 = true) ∧
    (∀ q i nv, ∀ x ∈ wOps, (wOpState q i nv).mewsGate x.1 (wSlotReq x.1.code x.2) (wNoted (wOpState q i nv) x.1.code x.2) ∧ (wNoted (wOpState q i nv) x.1.code x.2).mewsFree x.1) ∧
    (∀ kind target st tenant g, bitAt 0xBF st.code = true →
      (wRst st tenant g).mewsGate opReset (wSlotReq opReset.code (wReset kind target)) (wNoted (wRst st tenant g) opReset.code (wReset kind target)) ∧
      (wNoted (wRst st tenant g) opReset.code (wReset kind target)).mewsFree opReset) ∧
    ((wRst .idle false {}).sec.tenant = none ∧ ((wRst .idle false {}).shal 3).pwr.tripped = false ∧ ((wRst .idle false { resetting := true }).shal 3).resetting = true ∧ (wRst .idle false {}).img.image = none) ∧
    ((ph 1).storeValid = true ∧ (ph 3).top.phase3 = false ∧ (ph 3).crossfadesDue = false ∧ (ph 5).lamp.calPhase = 0 ∧ (ph 6).sec.trngFailed = false ∧ (ph 8).top.phase = 8) ∧
    (State.reset.top.aon = true ∧ State.reset.top.pkgRst = false ∧ State.reset.top.state ≠ .parked ∧ ({ pkgRst := true } : Top).pkgRst = true ∧ ({ aon := false } : Top).aon = false ∧
      ({ plazaReset := some { plaza := 25 } } : Top).plazaReset = some { plaza := 25 }) ∧
    (h.clk.stopNs = 0 ∧ h.recess = none ∧ h.pwr.vrLimit = false ∧ h.pwr.dutyPause = false ∧ h.wakeHeld = [] ∧ h.wakeHold = 0 ∧ h.forecastHold = none ∧ h.retryHold = 0 ∧ h.rowWaits = [] ∧ h.privHold = 0 ∧
      0 < h.pwr.duty) ∧
    (({ parking := true, state := .idle } : Top).parking = true ∧ ({ nv := [.xmss 256] } : Top).nv = .xmss 256 :: [] ∧ ({} : Sec).waiting = [] ∧ 1 < ({ fwLeft := 64 } : Mews).fwLeft ∧ (wMews .idle).mewsUp = true) :=
  ⟨reads_served, ops_run, resets_run, by decide +kernel, by decide +kernel, by decide +kernel,
   by decide +kernel, by decide +kernel⟩
end Sys2Proof.Tests
end

section
/-! PROOF. Runs of table entries that an operation changes, and rows into which it puts one element: what an entry and an
element read afterwards. -/
namespace Sys2Proof.Machine

variable {α β : Type} [Inhabited α] [DecidableEq α]

/-! ### Runs of entries -/

/-- The table whose entries from `c` onward are changed by the items of a list, one each: the common shape of `addAccs`,
`addLanes` and `Tbl.setRun`. -/
def Tbl.updRun (f : α → β → α) (t : Tbl α) (c : Nat) : List β → Tbl α
  | [] => t
  | x :: xs => (t.set c (f (t.get c) x)).updRun f (c + 1) xs

theorem addAccs_eq_updRun (accs : Tbl Acc) (c : Nat) (ts : List Int) : addAccs accs c ts = accs.updRun Acc.add c ts := by
  induction ts generalizing accs c with
  | nil => rfl
  | cons t ts ih => exact ih _ _

theorem addLanes_eq_updRun (lanes : Tbl Lane) (c : Nat) (ts : List Int) : addLanes lanes c ts = lanes.updRun Lane.add c ts := by
  induction ts generalizing lanes c with
  | nil => rfl
  | cons t ts ih => exact ih _ _

theorem Tbl.setRun_eq_updRun (t : Tbl α) (c : Nat) (vs : List α) : t.setRun c vs = t.updRun (fun _ v => v) c vs := by
  induction vs generalizing t c with
  | nil => rfl
  | cons v vs ih => exact ih _ _

theorem Tbl.get_updRun_below (f : α → β → α) (t : Tbl α) {c i : Nat} (xs : List β) (h : i < c) :
    (t.updRun f c xs).get i = t.get i := by
  induction xs generalizing t c with
  | nil => rfl
  | cons x xs ih => exact (ih _ (by omega)).trans (t.get_set_ne _ (by omega))

theorem Tbl.get_updRun (f : α → β → α) (t : Tbl α) (c k : Nat) (xs : List β) :
    (t.updRun f c xs).get (c + k) = (xs[k]?).elim (t.get (c + k)) (f (t.get (c + k))) := by
  induction xs generalizing t c k with
  | nil => rfl
  | cons x xs ih =>
    cases k with
    | zero => exact (Tbl.get_updRun_below f _ xs (Nat.lt_succ_self c)).trans (t.get_set_self c _)
    | succ k =>
      have hne : c + 1 + k ≠ c := by omega
      have hk := ih (t.set c (f (t.get c) x)) (c + 1) k
      rw [t.get_set_ne _ hne] at hk
      rw [show c + (k + 1) = c + 1 + k by omega]
      exact hk

/-- An entry after a run of `n` changes, the one of entry `c + k` by `g k`. -/
theorem Tbl.get_updRun_upto (f : α → β → α) (t : Tbl α) (c n : Nat) (g : Nat → β) (i : Nat) :
    (t.updRun f c ((upto n).map g)).get i = if c ≤ i ∧ i < c + n then f (t.get i) (g (i - c)) else t.get i := by
  by_cases hc : i < c
  · rw [Tbl.get_updRun_below f t _ hc, if_neg (by omega)]
  · obtain ⟨k, rfl⟩ := Nat.exists_eq_add_of_le (Nat.le_of_not_lt hc)
    rw [Tbl.get_updRun]
    by_cases hk : k < n
    · simp [upto, hk]
    · simp [upto, hk]

/-! ### Clearing -/

theorem mem_fromN (c n i : Nat) : i ∈ fromN c n ↔ c ≤ i ∧ i < c + n := by
  induction n generalizing c with
  | zero => simp [fromN]
  | succ n ih => simp only [fromN, List.mem_cons, ih]; omega

theorem Tbl.get_foldl_set (t : Tbl α) (f : Nat → α) (l : List Nat) (i : Nat) :
    (l.foldl (fun a j => a.set j (f j)) t).get i = if i ∈ l then f i else t.get i := by
  induction l generalizing t with
  | nil => simp
  | cons j l ih =>
    rw [List.foldl_cons, ih, Tbl.get_set]
    by_cases hl : i ∈ l
    · simp [hl]
    · by_cases hj : i = j
      · subst hj; simp
      · simp [hl, hj]

/-- The sources' CLR and CLEAR zero exactly the run of entries (R115, R116). -/
theorem clearedAt_fromN (t : Tbl α) (c n : Nat) : clearedAt t ((fromN c n).foldl (fun a i => a.set i default) t) c n := by
  intro i
  rw [t.get_foldl_set (fun _ => default)]
  simp only [mem_fromN]

/-! ### Elements of a row -/

theorem rowU_testBit (w k : Nat) (r : Row) (i : Nat) : (rowU w k r).testBit i = (decide (i < w) && r.getLsbD (k * w + i)) :=
  bitsOf_testBit _ _ _ _

theorem rowPut_getLsbD (r : Row) (lo n v i : Nat) (hi : i < 4096) :
    (rowPut r lo n v).getLsbD i = if lo ≤ i ∧ i < lo + n then v.testBit (i - lo) else r.getLsbD i := by
  simp only [rowPut, BitVec.getLsbD_or, BitVec.getLsbD_and, BitVec.getLsbD_not, BitVec.getLsbD_ofNat,
    Nat.testBit_mul_two_pow, Nat.testBit_two_pow_sub_one, Nat.testBit_mod_two_pow, hi, decide_true, Bool.true_and]
  by_cases hlo : lo ≤ i
  · by_cases hhi : i < lo + n
    · simp [hlo, hhi, show i - lo < n by omega]
    · simp [hlo, hhi, show ¬ i - lo < n by omega]
  · simp [hlo]

/-- An element of a row after one element was put into it. -/
theorem rowU_rowPut (w j k v : Nat) (r : Row) (hj : (j + 1) * w ≤ 4096) :
    rowU w k (rowPut r (j * w) w v) = if k = j then v % 2 ^ w else rowU w k r := by
  rw [Nat.succ_mul] at hj
  apply Nat.eq_of_testBit_eq
  intro i
  rw [rowU_testBit]
  by_cases hi : i < w
  · by_cases hk : k = j
    · subst hk
      rw [rowPut_getLsbD _ _ _ _ _ (by omega), if_pos (by omega), if_pos rfl, Nat.testBit_mod_two_pow, Nat.add_sub_cancel_left]
    · rw [if_neg hk, rowU_testBit]
      by_cases hb : k * w + i < 4096
      · have hout : ¬ (j * w ≤ k * w + i ∧ k * w + i < j * w + w) := by
          rcases Nat.lt_or_gt_of_ne hk with h | h
          · have := Nat.mul_le_mul_right w h; rw [Nat.succ_mul] at this; omega
          · have := Nat.mul_le_mul_right w h; rw [Nat.succ_mul] at this; omega
        rw [rowPut_getLsbD _ _ _ _ _ hb, if_neg hout]
      · rw [BitVec.getLsbD_of_ge _ _ (by omega), BitVec.getLsbD_of_ge _ _ (by omega)]
  · by_cases hk : k = j
    · simp [hi, hk]
    · simp [hi, hk, rowU_testBit]

end Sys2Proof.Machine
end

section
/-! PROOF. The ACC operations that move values between accumulators, lanes, snapshot and row buffers (R50, R59, R60, R115,
R116, R518): what each leaves in the pod, then what its command answers. -/
namespace Sys2Proof.Machine

/-! ### One value: addition, and the window of R50 -/

theorem outOfRange_eq (lo hi x : Int) : (decide (x < lo) || decide (hi - 1 < x)) = !decide (lo ≤ x ∧ x < hi) := by
  rw [Bool.eq_iff_iff]
  simp only [Bool.or_eq_true, decide_eq_true_eq, Bool.not_eq_true', decide_eq_false_iff_not]
  omega

theorem Acc.add_eq (a : Acc) (n : Int) :
    a.add n = { v := BitVec.ofInt 192 (a.v.toInt + n), ovf := a.ovf || !decide (- p2 191 ≤ a.v.toInt + n ∧ a.v.toInt + n < p2 191) } := by
  rw [Acc.add, Bool.or_assoc, outOfRange_eq]

theorem Lane.add_eq (a : Lane) (n : Int) :
    a.add n = { v := BitVec.ofInt 48 (a.v.toInt + n), ovf := a.ovf || !decide (- p2 47 ≤ a.v.toInt + n ∧ a.v.toInt + n < p2 47) } := by
  rw [Lane.add, Bool.or_assoc, outOfRange_eq]

/-- An A192 value is exact in the A96 window at position `w` (R50). -/
def fitsA96 (w : Nat) (x : Int) : Bool := decide (x % p2 w = 0 ∧ - p2 95 ≤ x / p2 w ∧ x / p2 w < p2 95)

theorem toA96_eq (x : Int) (w : Nat) : toA96 x w = if fitsA96 w x then some (x / p2 w) else none := by
  simp only [toA96, fitsA96, Int.le_sub_one_iff, decide_eq_true_eq]

theorem Pod.srcVal_accs_toA192 (q : Pod) (i : Nat) (h : (q.accs.get i).ovf = false) :
    (q.srcVal .accs i).toA192 = .ok (q.accs.get i).v.toInt := by
  simp only [Pod.srcVal, h, SrcVal.toA192]

/-! ### Slots written one by one -/

section Slots
variable {q : Pod} (hovf : ∀ i, (q.accs.get i).ovf = false)
include hovf

/-- The first `n` steps of NARROW96: a value that fits its window is in its slot, each other is reported. -/
theorem narrowStep_foldl (part w : Nat) (tid : Half) (r0 : SlotAcc) (n : Nat) (hn : n ≤ 32) :
    let v := fun i => (q.accs.get (32 * part + i)).v.toInt
    let r := (List.range n).foldl (narrowStep q .accs part w tid) r0
    r.ext = r0.ext ∧
    r.reps = r0.reps ++ ((List.range n).filter (fun i => !fitsA96 w (v i))).map (fun i => Report.miss tid (32 * part + i)) ∧
    ∀ k, rowU 128 k r.data = if k < n ∧ fitsA96 w (v k) then uOf 96 (v k / p2 w) else rowU 128 k r0.data := by
  intro v
  induction n with
  | zero => simp
  | succ n ih =>
    obtain ⟨hext, hreps, hdata⟩ := ih (by omega)
    have hval : (q.srcVal .accs (part * 32 + n)).toA192 = .ok (v n) := by
      rw [Nat.mul_comm]; exact q.srcVal_accs_toA192 _ (hovf _)
    simp only [List.range_succ, List.foldl_append, List.foldl_cons, List.foldl_nil, List.filter_append, List.map_append]
    by_cases hfit : fitsA96 w (v n)
    · simp only [narrowStep, hval, toA96_eq, if_pos hfit]
      refine ⟨hext, by simp [hreps, hfit], fun k => ?_⟩
      have hlt : uOf 96 (v n / p2 w) < 2 ^ 128 := Nat.lt_trans (uOf_lt _ _) (Nat.pow_lt_pow_right (by decide) (by decide))
      rw [rowU_rowPut _ _ _ _ _ (by omega), Nat.mod_eq_of_lt hlt, hdata]
      by_cases hk : k = n
      · subst hk; simp [hfit]
      · simp only [hk, if_false, show k < n + 1 ↔ k < n by omega]
    · simp only [narrowStep, hval, toA96_eq, if_neg hfit]
      refine ⟨hext, by simp [hreps, hfit, Nat.mul_comm part], fun k => ?_⟩
      rw [hdata]
      by_cases hk : k = n
      · subst hk; simp [hfit]
      · simp only [show k < n + 1 ↔ k < n by omega]

/-- The first `n` steps of WIDE192 and of a wide NARROW96: every value is in its slot, and nothing is reported. -/
theorem wideStep_foldl (base : Nat) (tid : Half) (r0 : SlotAcc) (n : Nat) (hn : n ≤ 32) :
    let v := fun i => (q.accs.get (base + i)).v.toInt
    let r := (List.range n).foldl (wideStep q .accs base tid) r0
    r.reps = r0.reps ∧
    (∀ k, k < 16 → rowU 256 k r.data = if k < n then uOf 192 (v k) else rowU 256 k r0.data) ∧
    ∀ k, rowU 256 k r.ext = if k + 16 < n then uOf 192 (v (16 + k)) else rowU 256 k r0.ext := by
  intro v
  induction n with
  | zero => simp
  | succ n ih =>
    obtain ⟨hreps, hdata, hext⟩ := ih (by omega)
    have hval : (q.srcVal .accs (base + n)).toA192 = .ok (v n) := q.srcVal_accs_toA192 _ (hovf _)
    have hlt : uOf 192 (v n) < 2 ^ 256 := Nat.lt_trans (uOf_lt _ _) (Nat.pow_lt_pow_right (by decide) (by decide))
    simp only [List.range_succ, List.foldl_append, List.foldl_cons, List.foldl_nil, wideStep, hval]
    by_cases hlow : n < 16
    · simp only [if_pos hlow]
      refine ⟨hreps, fun k hk16 => ?_, fun k => ?_⟩
      · rw [rowU_rowPut _ _ _ _ _ (by omega), Nat.mod_eq_of_lt hlt, hdata k hk16]
        by_cases hk : k = n
        · subst hk; simp
        · simp only [hk, if_false, show k < n + 1 ↔ k < n by omega]
      · rw [hext, if_neg (by omega), if_neg (by omega)]
    · simp only [if_neg hlow]
      refine ⟨hreps, fun k hk16 => ?_, fun k => ?_⟩
      · rw [hdata k hk16, if_pos (by omega), if_pos (by omega)]
      · rw [rowU_rowPut _ _ _ _ _ (by omega), Nat.mod_eq_of_lt hlt, hext]
        by_cases hk : k = n - 16
        · rw [if_pos hk, if_pos (by omega), show 16 + k = n by omega]
        · simp only [hk, if_false, show k + 16 < n + 1 ↔ k + 16 < n by omega]

end Slots

/-! ### The pod after an operation -/

theorem Pod.clearSrc_accs (q : Pod) (c n : Nat) : ∃ t, q.clearSrc .accs c n = { q with accs := t } ∧ clearedAt q.accs t c n :=
  ⟨_, rfl, clearedAt_fromN _ _ _⟩

theorem Pod.clearSrc_lanes (q : Pod) (c n : Nat) : ∃ t, q.clearSrc .lanes c n = { q with lanes := t } ∧ clearedAt q.lanes t c n :=
  ⟨_, rfl, clearedAt_fromN _ _ _⟩

theorem Pod.clrIf_accs (q : Pod) (clr : Bool) (c n : Nat) :
    ∃ accs, (if clr then clearedAt q.accs accs c n else accs = q.accs) ∧ q.clrIf clr .accs c n = { q with accs := accs } := by
  cases clr with
  | true =>
    obtain ⟨t, hq, ht⟩ := q.clearSrc_accs c n
    exact ⟨t, ht, hq⟩
  | false => exact ⟨q.accs, rfl, rfl⟩

/-- SNAP of the lanes: the snapshot holds the 48 bits and the flag of every lane, and the lanes are zero (R116, R518). -/
theorem Pod.accSnap_lanes (q : Pod) : ∃ t sn, q.accSnap .lanes = { q with snap := sn, snapLanes := true, lanes := t } ∧
    (∀ i, i < 64 → t.get i = default) ∧
    ∀ i, i < 64 → (sn.get i).v.setWidth 48 = (q.lanes.get i).v ∧ (sn.get i).ovf = (q.lanes.get i).ovf := by
  refine ⟨{}, _, rfl, fun i _ => rfl, fun i hi => ?_⟩
  rw [Tbl.get_foldl_set {} (fun i => ({ v := (q.lanes.get i).v.signExtend 192, ovf := (q.lanes.get i).ovf } : Acc)),
    if_pos ((upto_mem 64 i).2 hi)]
  refine ⟨BitVec.eq_of_getLsbD_eq fun j hj => ?_, rfl⟩
  rw [BitVec.getLsbD_setWidth, BitVec.getLsbD_signExtend]
  simp [hj, show j < 192 by omega]

/-- The amount that ADD96 adds with slot `k` (R62, R67, R124). -/
def add96Term (q : Pod) (ctx : ExecCtx) (buf : Fin 8) (descI k : Nat) : Int :=
  let b := q.readBuf ctx buf
  if ctx.wide = false then sInt 96 (rowU 128 k b.data) * p2 (descWin (q.desc descI))
  else if k < 16 then sInt 192 (rowU 256 k b.data) else sInt 192 (rowU 256 (k - 16) b.ext)

theorem Pod.add96_accs (q : Pod) (ctx : ExecCtx) (buf : Fin 8) (part descI : Nat) :
    ∃ t, q.add96 ctx buf part descI = { q with accs := t } ∧ ∀ i, t.get i =
      if 32 * part ≤ i ∧ i < 32 * part + 32 then (q.accs.get i).add (add96Term q ctx buf descI (i - 32 * part)) else q.accs.get i := by
  refine ⟨addAccs q.accs (part * 32) ((upto 32).map (add96Term q ctx buf descI)), ?_, fun i => ?_⟩
  · unfold Pod.add96 add96Term
    cases ctx.wide <;> rfl
  · rw [addAccs_eq_updRun, Tbl.get_updRun_upto, Nat.mul_comm part]

theorem Pod.add192_accs (q : Pod) (ctx : ExecCtx) (buf : Fin 8) (part : Nat) :
    ∃ t, q.add192 ctx buf part = { q with accs := t } ∧ ∀ i, t.get i =
      if 16 * part ≤ i ∧ i < 16 * part + 16 then (q.accs.get i).add (sInt 192 (rowU 256 (i - 16 * part) (q.readBuf ctx buf).data))
      else q.accs.get i := by
  refine ⟨_, rfl, fun i => ?_⟩
  rw [addAccs_eq_updRun, Tbl.get_updRun_upto, Nat.mul_comm part]

theorem Pod.load192_accs (q : Pod) (ctx : ExecCtx) (buf : Fin 8) (part : Nat) :
    ∃ t, q.load192 ctx buf part = { q with accs := t } ∧ ∀ i, t.get i =
      if 16 * part ≤ i ∧ i < 16 * part + 16 then
        { v := BitVec.ofNat 192 (rowU 256 (i - 16 * part) (q.readBuf ctx buf).data), ovf := false }
      else q.accs.get i := by
  refine ⟨_, rfl, fun i => ?_⟩
  rw [Tbl.setRun_eq_updRun, Tbl.get_updRun_upto, Nat.mul_comm part]

theorem Pod.add32_lanes (q : Pod) (ctx : ExecCtx) (buf : Fin 8) (part : Nat) :
    ∃ t, q.add32 ctx buf part = { q with lanes := t } ∧ ∀ i, t.get i =
      if i < 64 then (q.lanes.get i).add (rowS 32 (part * 64 + i) (q.readBuf ctx buf).data) else q.lanes.get i := by
  refine ⟨_, rfl, fun i => ?_⟩
  rw [addLanes_eq_updRun, Tbl.get_updRun_upto]
  simp only [Nat.zero_le, true_and, Nat.zero_add, Nat.sub_zero]

theorem Pod.narrow96_narrow (q : Pod) (ctx : ExecCtx) (clr : Bool) (buf : Fin 8) (part descI : Nat)
    (hovf : ∀ i, (q.accs.get i).ovf = false) (hwide : ctx.wide = false) :
    let b := q.readBuf ctx buf
    let d := q.desc descI
    let v := fun i => (q.accs.get (32 * part + i)).v.toInt
    ∃ row accs, (∀ i, i < 32 → rowU 128 i row =
        if fitsA96 (descWin d) (v i) then uOf 96 (v i / p2 (descWin d)) else rowU 128 i b.data) ∧
      (if clr then clearedAt q.accs accs (32 * part) 32 else accs = q.accs) ∧
      q.narrow96 ctx .accs clr buf part descI =
        ({ q.push (ctx.beat + 1) (.buf buf { b with data := row, written := true, wide := false }) with accs := accs },
          ((List.range 32).filter (fun i => !fitsA96 (descWin d) (v i))).map (fun i => Report.miss (descTid d) (32 * part + i))) := by
  intro b d v
  obtain ⟨hext, hreps, hdata⟩ :=
    narrowStep_foldl hovf part (descWin d) (descTid d) { data := b.data, ext := b.ext, reps := [] } 32 (Nat.le_refl _)
  generalize hr : (List.range 32).foldl (narrowStep q .accs part (descWin d) (descTid d)) _ = r at hext hreps hdata
  obtain ⟨accs, haccs, hclr⟩ :=
    (q.push (ctx.beat + 1) (.buf buf { b with data := r.data, written := true, wide := false })).clrIf_accs clr (32 * part) 32
  refine ⟨r.data, accs, fun i hi => by simp only [hdata, hi, true_and]; rfl, haccs, ?_⟩
  unfold Pod.narrow96
  simp only [hwide, upto_eq_range, Bool.false_eq_true, if_false]
  rw [hr, Nat.mul_comm part, hreps, hext]
  exact Prod.ext hclr rfl

theorem Pod.narrow96_wide (q : Pod) (ctx : ExecCtx) (clr : Bool) (buf : Fin 8) (part descI : Nat)
    (hovf : ∀ i, (q.accs.get i).ovf = false) (hwide : ctx.wide = true) :
    let v := fun i => (q.accs.get i).v.toInt
    ∃ row ext accs, (∀ i, i < 16 →
        rowU 256 i row = uOf 192 (v (32 * part + i)) ∧ rowU 256 i ext = uOf 192 (v (32 * part + 16 + i))) ∧
      (if clr then clearedAt q.accs accs (32 * part) 32 else accs = q.accs) ∧
      q.narrow96 ctx .accs clr buf part descI =
        ({ q.push (ctx.beat + 1) (.buf buf { data := row, ext := ext, written := true, wide := true }) with accs := accs }, []) := by
  intro v
  obtain ⟨hreps, hdata, hext⟩ := wideStep_foldl hovf (32 * part) (descTid (q.desc descI))
    { data := (q.readBuf ctx buf).data, ext := (q.readBuf ctx buf).ext, reps := [] } 32 (Nat.le_refl _)
  generalize hr : (List.range 32).foldl (wideStep q .accs (32 * part) (descTid (q.desc descI))) _ = r at hreps hdata hext
  obtain ⟨accs, haccs, hclr⟩ :=
    (q.push (ctx.beat + 1) (.buf buf { data := r.data, ext := r.ext, written := true, wide := true })).clrIf_accs clr (32 * part) 32
  refine ⟨r.data, r.ext, accs, fun i hi => ⟨?_, ?_⟩, haccs, ?_⟩
  · rw [hdata i hi, if_pos (by omega)]
  · rw [hext, if_pos (by omega), Nat.add_assoc]
  · unfold Pod.narrow96
    simp only [hwide, upto_eq_range, if_true]
    rw [Nat.mul_comm part, hr, hreps]
    exact Prod.ext hclr rfl

theorem Pod.wide192_accs (q : Pod) (ctx : ExecCtx) (clr : Bool) (buf : Fin 8) (part descI : Nat)
    (hovf : ∀ i, (q.accs.get i).ovf = false) :
    let b := q.readBuf ctx buf
    ∃ row accs, (∀ i, i < 16 → rowU 256 i row = uOf 192 (q.accs.get (16 * part + i)).v.toInt) ∧
      (if clr then clearedAt q.accs accs (16 * part) 16 else accs = q.accs) ∧
      q.wide192 ctx .accs clr buf part descI =
        ({ q.push (ctx.beat + 1) (.buf buf { b with data := row, written := true, wide := false }) with accs := accs }, []) := by
  intro b
  obtain ⟨hreps, hdata, -⟩ := wideStep_foldl hovf (16 * part) (descTid (q.desc descI))
    { data := b.data, ext := b.ext, reps := [] } 16 (by decide)
  generalize hr : (List.range 16).foldl (wideStep q .accs (16 * part) (descTid (q.desc descI))) _ = r at hreps hdata
  obtain ⟨accs, haccs, hclr⟩ :=
    (q.push (ctx.beat + 1) (.buf buf { b with data := r.data, written := true, wide := false })).clrIf_accs clr (16 * part) 16
  refine ⟨r.data, accs, fun i hi => by rw [hdata i hi, if_pos hi], haccs, ?_⟩
  unfold Pod.wide192
  simp only [upto_eq_range]
  rw [Nat.mul_comm part, hr, hreps]
  exact Prod.ext hclr rfl

/-! ### What the commands answer -/

section Commands
variable (r : PodRef) (a : AccArgs) (s : State) {q : Pod} {reps : List Report}

theorem accClear_next (hs : srcForm [.accs, .lanes] a = true) (hq : (s.podOf r).accClear a.src = q) :
    exec (.accClear r a) s = .next (s.withPod r q) := hq ▸ podOpIf_true s hs r _

theorem accSnap_next (hs : srcForm [.accs, .lanes] a = true) (hq : (s.podOf r).accSnap a.src = q) :
    exec (.accSnap r a) s = .next (s.withPod r q) := hq ▸ podOpIf_true s hs r _

theorem accAdd96_next (hs : a.src = .accs) (hp : a.part.val < 2)
    (hq : (s.podOf r).add96 (s.ctx r.sh.val) a.buf a.part.val a.desc.val = q) : exec (.accAdd96 r a) s = .next (s.withPod r q) :=
  hq ▸ podOpIf_true s (by simp [srcForm, halfForm, hs, hp]) r _

theorem accAdd192_next (hs : a.src = .accs) (hq : (s.podOf r).add192 (s.ctx r.sh.val) a.buf a.part.val = q) :
    exec (.accAdd192 r a) s = .next (s.withPod r q) := hq ▸ podOpIf_true s (by simp [srcForm, hs]) r _

theorem load192_next (hs : a.src = .accs) (hq : (s.podOf r).load192 (s.ctx r.sh.val) a.buf a.part.val = q) :
    exec (.load192 r a) s = .next (s.withPod r q) := hq ▸ podOpIf_true s (by simp [srcForm, hs]) r _

theorem accAdd32_next (hs : a.src = .lanes) (hp : a.part.val < 2)
    (hq : (s.podOf r).add32 (s.ctx r.sh.val) a.buf a.part.val = q) : exec (.accAdd32 r a) s = .next (s.withPod r q) :=
  hq ▸ podOpIf_true s (by simp [srcForm, halfForm, hs, hp]) r _

theorem narrow96_next (hs : a.src = .accs) (hp : a.part.val < 2)
    (hq : (s.podOf r).narrow96 (s.ctx r.sh.val) .accs a.clr a.buf a.part.val a.desc.val = (q, reps)) :
    exec (.narrow96 r a) s = .next ((s.withPod r q).told r reps) := by
  rw [exec_narrow96, execNarrow96, podOpIf_true s (by simp [srcForm, halfForm, hs, hp]), hs, hq]

theorem wide192_next (hs : a.src = .accs)
    (hq : (s.podOf r).wide192 (s.ctx r.sh.val) .accs a.clr a.buf a.part.val a.desc.val = (q, reps)) :
    exec (.wide192 r a) s = .next ((s.withPod r q).told r reps) := by
  rw [exec_wide192, execWide192, podOpIf_true s (by simp [srcForm, hs]), hs, hq]

end Commands

/-- Settles O9: CLEAR, SNAP, the additions and LOAD192 each change one run of accumulators or lanes (`Tbl.get_updRun_upto`);
NARROW96 and WIDE192 put their slots one by one (`narrowStep_foldl`, `wideStep_foldl`). -/
theorem accTransfers : Obligations.AccTransfers := by
  unfold Obligations.AccTransfers
  refine ⟨fun r a s => ?_, fun r a s hs => ?_⟩
  · intro q ctx b P pod plus
    refine ⟨fun hs => ⟨?_, ?_⟩, fun hs => ⟨?_, ?_⟩, fun hs hp => ?_, fun hs => ?_, fun hs => ?_, fun hs hp => ?_⟩
    · obtain ⟨t, hq, ht⟩ := q.clearSrc_accs 0 64
      exact ⟨t, accClear_next r a s (by simp [srcForm, hs]) (hs ▸ hq), ht⟩
    · exact ⟨{}, accSnap_next r a s (by simp [srcForm, hs]) (hs ▸ rfl), fun i _ => rfl⟩
    · obtain ⟨t, hq, ht⟩ := q.clearSrc_lanes 0 64
      exact ⟨t, accClear_next r a s (by simp [srcForm, hs]) (hs ▸ hq), ht⟩
    · obtain ⟨t, sn, hq, hsnap⟩ := q.accSnap_lanes
      exact ⟨t, sn, accSnap_next r a s (by simp [srcForm, hs]) (hs ▸ hq), hsnap⟩
    · obtain ⟨t, hq, ht⟩ := q.add96_accs ctx a.buf P a.desc.val
      exact ⟨t, accAdd96_next r a s hs hp hq, fun i => by rw [ht, Acc.add_eq]; rfl⟩
    · obtain ⟨t, hq, ht⟩ := q.add192_accs ctx a.buf P
      exact ⟨t, accAdd192_next r a s hs hq, fun i => by rw [ht, Acc.add_eq]⟩
    · obtain ⟨t, hq, ht⟩ := q.load192_accs ctx a.buf P
      exact ⟨t, load192_next r a s hs hq, ht⟩
    · obtain ⟨t, hq, ht⟩ := q.add32_lanes ctx a.buf P
      exact ⟨t, accAdd32_next r a s hs hp hq, fun i => by rw [ht, Lane.add_eq]⟩
  · intro q ctx b P t d v hovf done
    refine ⟨fun hp hwide => ?_, fun hp hwide => ?_, ?_⟩
    · obtain ⟨row, accs, hrow, haccs, hq⟩ := q.narrow96_narrow ctx a.clr a.buf P a.desc.val hovf hwide
      simp only [fitsA96, decide_eq_true_eq] at hrow hq
      exact ⟨row, hrow, accs, haccs, narrow96_next r a s hs hp hq⟩
    · obtain ⟨row, ext, accs, hrow, haccs, hq⟩ := q.narrow96_wide ctx a.clr a.buf P a.desc.val hovf hwide
      exact ⟨row, ext, hrow, accs, haccs, narrow96_next r a s hs hp hq⟩
    · obtain ⟨row, accs, hrow, haccs, hq⟩ := q.wide192_accs ctx a.clr a.buf P a.desc.val hovf
      exact ⟨row, hrow, accs, haccs, wide192_next r a s hs hq⟩

end Sys2Proof.Machine
end

section
/-! PROOF. The lane unit's moves of elements (R132, R144, R145): bit fields as quotients, signs, leading zeros, and the
writes of a scatter. -/
namespace Sys2Proof.Machine

/-! ### Fields and signs -/

theorem bitsOf_eq_div_mod (x lo n : Nat) : bitsOf x lo n = x / 2 ^ lo % 2 ^ n := by
  rw [bitsOf, Nat.shiftRight_eq_div_pow]

theorem rowU_lt_32 (v : VecArgs) (k : Nat) (r : Row) : rowU v.width k r < 2 ^ 32 :=
  Nat.lt_of_lt_of_le (rowU_lt _ _ _) (Nat.pow_le_pow_right (by decide) (width_le v))

theorem p2_mono {m n : Nat} (h : m ≤ n) : p2 m ≤ p2 n := by
  unfold p2; exact_mod_cast Nat.pow_le_pow_right (by decide) h

theorem p2_pred_double {w : Nat} (hw : 0 < w) : p2 w = 2 * p2 (w - 1) := by
  obtain ⟨k, rfl⟩ := Nat.exists_eq_add_of_lt hw
  simp only [p2_eq, Nat.zero_add, Nat.add_sub_cancel, Int.pow_succ]
  omega

theorem sInt_range {w : Nat} (hw : 0 < w) (n : Nat) : - p2 (w - 1) ≤ sInt w n ∧ sInt w n < p2 (w - 1) := by
  have hd := p2_pred_double hw
  have hlt : ((bitsOf n 0 w : Nat) : Int) < p2 w := by unfold p2; exact_mod_cast bitsOf_lt n 0 w
  have hpos := p2_pos (w - 1)
  unfold sInt
  rw [p2_natCast]
  split
  · next h =>
    have : ((bitsOf n 0 w : Nat) : Int) < p2 (w - 1) := by unfold p2; exact_mod_cast h
    omega
  · next h =>
    have : p2 (w - 1) ≤ ((bitsOf n 0 w : Nat) : Int) := by unfold p2; exact_mod_cast Nat.le_of_not_lt h
    omega

/-- A signed value within the range of `w` bits is read back from its `w`-bit pattern. -/
theorem sInt_uOf {w : Nat} (hw : 0 < w) {x : Int} (hlo : - p2 (w - 1) ≤ x) (hhi : x < p2 (w - 1)) : sInt w (uOf w x) = x := by
  obtain ⟨hlo', hhi'⟩ := sInt_range hw (uOf w x)
  have hd := p2_pred_double hw
  have hu : ((uOf w x : Nat) : Int) = x % p2 w := by
    rw [uOf, p2_natCast]; exact Int.toNat_of_nonneg (Int.emod_nonneg _ (Int.ne_of_gt (p2_pos w)))
  have hm : sInt w (uOf w x) % p2 w = x % p2 w := by rw [sInt_emod, uOf_mod, hu]
  have hdvd : p2 w ∣ sInt w (uOf w x) - x := Int.dvd_of_emod_eq_zero (by rw [Int.sub_emod, hm, Int.sub_self, Int.zero_emod])
  have := Int.eq_zero_of_dvd_of_natAbs_lt_natAbs hdvd (by omega)
  omega

theorem sInt_uOf_rowS (v : VecArgs) (k : Nat) (r : Row) : sInt 32 (uOf 32 (rowS v.width k r)) = rowS v.width k r := by
  obtain ⟨hlo, hhi⟩ := sInt_range (width_pos v) (rowU v.width k r)
  have hw : p2 (v.width - 1) ≤ p2 31 := p2_mono (Nat.sub_le_sub_right (width_le v) 1)
  exact sInt_uOf (by decide) (Int.le_trans (Int.neg_le_neg hw) hlo) (Int.lt_of_lt_of_le hhi hw)

/-! ### Leading zeros -/

/-- `w` less the length of a number of at most `w` bits is the count of its leading zeros (R132). -/
theorem leadingZeros_bitlen {w a : Nat} (ha : a < 2 ^ w) :
    (a = 0 ∧ w - bitlen a = w) ∨ (w - bitlen a < w ∧ 2 ^ (w - 1 - (w - bitlen a)) ≤ a ∧ a < 2 ^ (w - (w - bitlen a))) := by
  by_cases h0 : a = 0
  · exact .inl ⟨h0, by simp [bitlen, h0]⟩
  · have hlog : a.log2 < w := (Nat.log2_lt h0).2 ha
    have hlen : bitlen a = a.log2 + 1 := if_neg h0
    refine .inr ⟨by omega, ?_, ?_⟩
    · rw [show w - 1 - (w - bitlen a) = a.log2 by omega]; exact Nat.log2_self_le h0
    · rw [show w - (w - bitlen a) = a.log2 + 1 by omega]; exact Nat.lt_log2_self

/-! ### Results -/

/-- A result that writes a whole row. -/
theorem rowResult_wholeRow (s : State) (r : PodRef) (vis : Nat) (d : BitVec 12) (w n : Nat) (val : Nat → Nat → Prop) (row : Row)
    (hv : ∀ i, i < n → val i (rowU w i row)) :
    RowResult s r vis d w n val (fun _ => true) []
      (.next (s.withPod r ((s.podOf r).push vis (.storeRow d row (BitVec.allOnes 4096))))) :=
  ⟨row, BitVec.allOnes 4096, hv, fun b hb => by rw [BitVec.getLsbD_allOnes]; exact decide_eq_true hb, rfl⟩

/-- The count of the model, a filtered list, is that of the statements. -/
theorem length_filter_upto (n : Nat) (f : Nat → Bool) : ((upto n).filter f).length = countOf n f :=
  List.countP_eq_length_filter.symm

/-! ### Scatter -/

/-- The element that a scattered value takes in its row. -/
def Pod.scatterElem (q : Pod) (v : VecArgs) (i : Nat) : Nat := rowU 32 i (q.rowB v) % v.count

/-- The row and the mask of the write that scatters element `i` (R144). -/
def Pod.scatterWrite (q : Pod) (v : VecArgs) (i : Nat) : Row × Row :=
  (rowPut 0 (q.scatterElem v i * v.width) v.width (rowU 32 i (q.rowA v)),
   rowPut 0 (q.scatterElem v i * v.width) v.width (2 ^ v.width - 1))

/-- Is element `i` scattered: its index is in range, and its destination enabled? -/
def Pod.scatters (q : Pod) (v : VecArgs) (i : Nat) : Bool :=
  decide (rowU 32 i (q.rowB v) < 32 * v.count) && q.enabled v.pred (rowU 32 i (q.rowB v) % v.count * v.width / 8)

theorem rowPut_zero (lo n x : Nat) : rowPut 0 lo n x = BitVec.ofNat 4096 (x % 2 ^ n * 2 ^ lo) := by simp [rowPut]

theorem scatterOne_eq (p : Pod) (ctx : ExecCtx) (v : VecArgs) (q : Pod) (i : Nat) :
    p.scatterOne ctx v q i = if p.scatters v i then
      q.push (ctx.beat + 9) (.storeRow (BitVec.ofNat 12 (v.d.toNat + rowU 32 i (p.rowB v) / v.count)) (p.scatterWrite v i).1 (p.scatterWrite v i).2)
    else q := by
  unfold Pod.scatterOne Pod.scatters Pod.scatterWrite Pod.scatterElem
  simp only [rowPut_zero, Nat.mod_eq_of_lt (Nat.sub_lt (Nat.two_pow_pos v.width) Nat.one_pos), Bool.and_eq_true, decide_eq_true_eq]

/-- A scatter pushes the writes of the elements that it moves, in rising order (R144). -/
theorem vScatter_fst (p : Pod) (ctx : ExecCtx) (v : VecArgs) :
    (p.vScatter ctx v).1 =
      let moved := (List.range 128).filter (p.scatters v)
      (moved.zip (moved.map (p.scatterWrite v))).foldl (fun (q : Pod) w =>
        q.push (ctx.beat + 9) (.storeRow (BitVec.ofNat 12 (v.d.toNat + rowU 32 w.1 (p.rowB v) / v.count)) w.2.1 w.2.2)) p := by
  simp only [Pod.vScatter, upto_eq_range, ← List.map_prod_left_eq_zip, List.foldl_map, List.foldl_filter, ← scatterOne_eq]

theorem succ_mul_width_le (v : VecArgs) {e : Nat} (he : e < v.count) : (e + 1) * v.width ≤ 4096 := by
  rw [← count_width v]; exact Nat.mul_le_mul_right _ he

theorem count_pos (v : VecArgs) : 0 < v.count := Nat.pos_of_mul_pos_right (by rw [count_width]; decide)

theorem scatterElem_lt (q : Pod) (v : VecArgs) (i : Nat) : q.scatterElem v i < v.count := Nat.mod_lt _ (count_pos v)

theorem scatterWrite_row (q : Pod) (v : VecArgs) (i : Nat) :
    rowU v.width (q.scatterElem v i) (q.scatterWrite v i).1 = rowU 32 i (q.rowA v) % 2 ^ v.width := by
  rw [Pod.scatterWrite, rowU_rowPut _ _ _ _ _ (succ_mul_width_le v (scatterElem_lt q v i)), if_pos rfl]

theorem scatterWrite_mask (q : Pod) (v : VecArgs) (i b : Nat) (hb : b < 4096) :
    (q.scatterWrite v i).2.getLsbD b = decide (b / v.width = q.scatterElem v i) := by
  have hw := width_pos v
  rw [Pod.scatterWrite, rowPut_getLsbD _ _ _ _ _ hb, Nat.testBit_two_pow_sub_one]
  have hdiv : b / v.width = q.scatterElem v i ↔ q.scatterElem v i * v.width ≤ b ∧ b < q.scatterElem v i * v.width + v.width := by
    rw [Nat.div_eq_iff hw]; omega
  by_cases h : b / v.width = q.scatterElem v i
  · rw [if_pos (hdiv.1 h), decide_eq_true h]; exact decide_eq_true (by have := hdiv.1 h; omega)
  · rw [if_neg (fun hc => h (hdiv.2 hc)), decide_eq_false h]; exact BitVec.getLsbD_zero

/-! ### The commands -/

section Commands
variable (r : PodRef) (v : VecArgs) (s : State)

theorem vecSel_rowResult (h : binForm v = true) :
    RowResult s r (s.beatOf r + 3) v.d v.width v.count
      (fun i y => y = if (s.podOf r).enabled v.pred (i * v.width / 8) then (s.podOf r).aU v i else (s.podOf r).bU v i)
      (fun _ => true) [] (exec (.vecSel r v) s) := by
  rw [exec_vecSel, execVecSel, podOpIf_true s h]
  refine rowResult_wholeRow s r _ _ _ _ _ _ fun i hi => ?_
  rw [rowU_rowOf _ _ (width_pos v) (Nat.le_of_eq (count_width v)) _ _ hi]
  split
  · exact Nat.mod_eq_of_lt (aU_lt _ _ _)
  · exact Nat.mod_eq_of_lt (bU_lt _ _ _)

theorem clz_rowResult (h : noSForm v = true) :
    RowResult s r (s.beatOf r + 3) v.d v.width v.count
      (fun i y => ((s.podOf r).aU v i = 0 ∧ y = v.width) ∨
        (y < v.width ∧ 2 ^ (v.width - 1 - y) ≤ (s.podOf r).aU v i ∧ (s.podOf r).aU v i < 2 ^ (v.width - y)))
      (enabledBits (s.podOf r) v.pred v.width) [] (exec (.clz r v) s) := by
  rw [exec_clz, execClz, podOpIf_true s h]
  refine rowResult_vecWrite s r 2 v _ _ (width_pos v) (count_width v) _ _ (fun i _ => ?_) []
  rw [Nat.mod_eq_of_lt (Nat.lt_of_le_of_lt (Nat.sub_le _ _) Nat.lt_two_pow_self)]
  exact leadingZeros_bitlen (aU_lt _ _ _)

theorem widen_rowResult (h : widenForm v = true) :
    RowResult s r (s.beatOf r + 3) v.d 32 128 (fun i y => sInt 32 y = rowS v.width (128 * v.q + i) ((s.podOf r).rowA v))
      (enabledBits (s.podOf r) v.pred 32) [] (exec (.widen r v) s) := by
  rw [exec_widen, execWiden, podOpIf_true s h]
  refine rowResult_vecWrite s r 2 v 32 128 (by decide) rfl _ _ (fun i _ => ?_) []
  rw [uOf_mod]
  exact sInt_uOf_rowS v _ _

theorem widenu_rowResult (h : widenForm v = true) :
    RowResult s r (s.beatOf r + 3) v.d 32 128 (fun i y => y = rowU v.width (128 * v.q + i) ((s.podOf r).rowA v))
      (enabledBits (s.podOf r) v.pred 32) [] (exec (.widenu r v) s) := by
  rw [exec_widenu, execWidenu, podOpIf_true s h]
  refine rowResult_vecWrite s r 2 v 32 128 (by decide) rfl _ _ (fun i _ => ?_) []
  exact Nat.mod_eq_of_lt (rowU_lt_32 v _ _)

theorem gather_rowResult (h : gatherForm v = true) :
    let x := fun i => rowU 32 i ((s.podOf r).rowA v)
    RowResult s r (s.beatOf r + 9) v.d 32 128
      (fun i y => if x i < 32 * v.count then
        sInt 32 y = rowS v.width (x i % v.count) ((s.podOf r).store.get (v.b.toNat + x i / v.count)) else y = 0)
      (enabledBits (s.podOf r) v.pred 32)
      (let n := countOf 128 (fun i => (s.podOf r).enabled v.pred (4 * i) && decide (32 * v.count ≤ x i))
       if n = 0 then [] else [.vecRange n]) (exec (.gather r v) s) := by
  intro x
  rw [exec_gather, execGather, podOpIf_true s h]
  simp only [Pod.vGather, length_filter_upto, ← decide_not, Nat.not_lt]
  refine rowResult_vecWrite s r 8 v 32 128 (by decide) rfl _ _ (fun i _ => ?_) _
  by_cases hx : x i < 32 * v.count
  · simp only [x, if_pos hx, decide_eq_true hx, uOf_mod, if_true]
    exact sInt_uOf_rowS v _ _
  · simp only [x, if_neg hx, decide_eq_false hx]
    rfl

theorem scatter_next (h : scatterForm v = true) :
    let q := s.podOf r
    let moved := (List.range 128).filter (q.scatters v)
    exec (.scatter r v) s = .next ((s.withPod r ((moved.zip (moved.map (q.scatterWrite v))).foldl (fun (p : Pod) w =>
        p.push (s.beatOf r + 9) (.storeRow (BitVec.ofNat 12 (v.d.toNat + rowU 32 w.1 (q.rowB v) / v.count)) w.2.1 w.2.2)) q)).told r
      (let n := countOf 128 (fun i => decide (32 * v.count ≤ rowU 32 i (q.rowB v)))
       if n = 0 then [] else [.vecRange n])) := by
  intro q moved
  rw [exec_scatter, execScatter, podOpIf_true s h, vScatter_fst]
  simp only [Pod.vScatter, length_filter_upto]
  rfl

theorem rowsel_next (h : ctlForm v = true) :
    exec (.rowsel r v) s = .next ((s.withPod r ((s.podOf r).vRowsel (s.ctx r.sh.val) v).1).told r ((s.podOf r).vRowsel (s.ctx r.sh.val) v).2) :=
  podOpIf_true s h r _

end Commands

/-- ROWSEL writes a whole row at t + 3: the table row that the index selects, zeros with a report where that row is past the store, and
zeros where the index or the part selects none (R145). -/
theorem vRowsel_cases (p : Pod) (ctx : ExecCtx) (v : VecArgs) :
    let idx := ((rowU 32 (v.b.toNat % 128) (p.rowA v) : Nat) : Int)
    let part := v.b.toNat / 128 % 16
    let k15 := (p.k.get 15).toNat
    let R := k15 / 2 ^ 28 + 1
    let inTable := (p.k.get 14).toInt ≤ idx ∧ idx < (p.k.get 14).toInt + ((k15 / 2 ^ 16 % 4096 : Nat) : Int) ∧ part < R
    let row := k15 % 4096 + (idx - (p.k.get 14).toInt).toNat * R + part
    ∃ out reps, p.vRowsel ctx v = (p.push (ctx.beat + 3) (.storeRow v.d out (BitVec.allOnes 4096)), reps) ∧
      (inTable → row ≤ 4095 → out = p.store.get row ∧ reps = []) ∧ (inTable → 4095 < row → out = 0 ∧ reps = [.vecRange 1]) ∧
      (¬ inTable → out = 0 ∧ reps = []) := by
  intro idx part k15 R inTable row
  have hR : k15 / 2 ^ 28 % 2 ^ 4 = k15 / 2 ^ 28 := Nat.mod_eq_of_lt (by have := (p.k.get 15).isLt; omega)
  have hhit : (decide ((p.k.get 14).toInt ≤ idx) && decide (idx < (p.k.get 14).toInt + ((k15 / 2 ^ 16 % 4096 : Nat) : Int)) &&
      decide (part < R)) = decide inTable := by
    simp only [inTable, Bool.decide_and, Bool.and_assoc]
  have hsel : p.vRowsel ctx v =
      (p.push (ctx.beat + 3) (.storeRow v.d (if decide inTable && decide (row ≤ 4095) then p.store.get row else 0) (BitVec.allOnes 4096)),
        if decide inTable && decide (4095 < row) then [.vecRange 1] else []) := by
    rw [← hhit]
    simp only [Pod.vRowsel, bitsOf_eq_div_mod, Pod.kS, Nat.pow_zero, Nat.div_one]
    rw [hR] <;> rfl
  refine ⟨_, _, hsel, fun hin hrow => ?_, fun hin hrow => ?_, fun hin => ?_⟩
  · rw [decide_eq_true hin, decide_eq_true hrow, decide_eq_false (Nat.not_lt.2 hrow)]; exact ⟨rfl, rfl⟩
  · rw [decide_eq_true hin, decide_eq_false (Nat.not_le.2 hrow), decide_eq_true hrow]; exact ⟨rfl, rfl⟩
  · rw [decide_eq_false hin]; exact ⟨rfl, rfl⟩

/-- Settles O2: each move is one masked row (`rowResult_vecWrite`, `rowResult_wholeRow`), SCATTER one write for each element that it
moves (`vScatter_fst`), ROWSEL one of three rows (`vRowsel_cases`). -/
theorem vecMovedValues : Obligations.VecMovedValues := by
  unfold Obligations.VecMovedValues
  intro r v s q W en x E
  refine ⟨vecSel_rowResult r v s, clz_rowResult r v s, widen_rowResult r v s, widenu_rowResult r v s, gather_rowResult r v s,
    fun h => ?_, fun h => ?_⟩
  · intro y moved
    refine ⟨moved.map (q.scatterWrite v), List.length_map _, fun n i row mask hi hw => ?_, scatter_next r v s h⟩
    rw [List.getElem?_map, hi] at hw
    obtain ⟨rfl, rfl⟩ := Prod.mk.inj (Option.some.inj hw)
    exact ⟨scatterWrite_row q v i, scatterWrite_mask q v i⟩
  · intro idx part k15 R inTable row
    obtain ⟨out, reps, hsel, hcases⟩ := vRowsel_cases q (s.ctx r.sh.val) v
    exact ⟨out, reps, by rw [rowsel_next r v s h, hsel]; rfl, hcases⟩

end Sys2Proof.Machine
end

section
/-! PROOF. The running top-k list (R142, R143): its order, the insertion of candidates, and what the first k entries leave out. -/
namespace Sys2Proof.Machine

/-! ### The order of R142 -/

/-- The order of the entries of T: larger value first, then smaller index (R142). -/
def TopEntry.Before (x y : TopEntry) : Prop := y.v.toInt < x.v.toInt ∨ (x.v = y.v ∧ x.i.toNat < y.i.toNat)

/-- T as R142 keeps it: in order, without the index that marks an empty place. -/
def TopOrdered (l : List TopEntry) : Prop := l.Pairwise TopEntry.Before ∧ ∀ x ∈ l, x.i ≠ 0xFFFFFFFF

theorem topBefore_iff (x y : TopEntry) : topBefore x y = true ↔ x.Before y := by
  simp only [topBefore, TopEntry.Before, Bool.or_eq_true, Bool.and_eq_true, decide_eq_true_eq, beq_iff_eq]

theorem TopEntry.Before.trans {x y z : TopEntry} (hxy : x.Before y) (hyz : y.Before z) : x.Before z := by
  rcases hxy with hv | ⟨hv, hi⟩
  · rcases hyz with hv' | ⟨hv', -⟩
    · exact .inl (Int.lt_trans hv' hv)
    · exact .inl (hv' ▸ hv)
  · rcases hyz with hv' | ⟨hv', hi'⟩
    · exact .inl (hv ▸ hv')
    · exact .inr ⟨hv.trans hv', Nat.lt_trans hi hi'⟩

/-- Of two different entries one comes before the other. -/
theorem TopEntry.before_of_not_before {x y : TopEntry} (hne : x ≠ y) (h : ¬ y.Before x) : x.Before y := by
  obtain ⟨xv, xi⟩ := x
  obtain ⟨yv, yi⟩ := y
  simp only [TopEntry.Before, ne_eq, TopEntry.mk.injEq, not_or, not_and, Int.not_lt, Nat.not_lt] at *
  rcases Int.lt_or_eq_of_le h.1 with hlt | heq
  · exact .inl hlt
  · have hv : xv = yv := BitVec.eq_of_toInt_eq heq.symm
    exact .inr ⟨hv, Nat.lt_of_le_of_ne (h.2 hv.symm) (fun hi => hne hv (BitVec.eq_of_toNat_eq hi))⟩

/-! ### Insertion -/

theorem topIns_skip (l : List TopEntry) {c : TopEntry} (hc : c.i = 0xFFFFFFFF) : topIns l c = l := by
  cases l with
  | nil => simp [topIns, hc]
  | cons x xs => simp [topIns, hc]

theorem topIns_nil {c : TopEntry} (hc : c.i ≠ 0xFFFFFFFF) : topIns [] c = [c] := by
  rw [topIns, if_neg hc]

theorem topIns_cons (x : TopEntry) (xs : List TopEntry) {c : TopEntry} (hc : c.i ≠ 0xFFFFFFFF) :
    topIns (x :: xs) c = if x = c then x :: xs else if topBefore c x then c :: x :: xs else x :: topIns xs c := by
  rw [topIns, if_neg hc]

/-- An insertion adds the candidate, unless it marks an empty place, and nothing else. -/
theorem mem_topIns (l : List TopEntry) (c x : TopEntry) : x ∈ topIns l c ↔ x ∈ l ∨ (x = c ∧ c.i ≠ 0xFFFFFFFF) := by
  by_cases hc : c.i = 0xFFFFFFFF
  · simp [topIns_skip l hc, hc]
  · induction l with
    | nil => rw [topIns_nil hc, List.mem_singleton, and_iff_left hc]; simp only [List.not_mem_nil, false_or]
    | cons y ys ih =>
      rw [topIns_cons y ys hc]
      by_cases hy : y = c
      · rw [if_pos hy, List.mem_cons]; grind
      · rw [if_neg hy]
        split
        · simp only [List.mem_cons]; grind
        · simp only [List.mem_cons, ih]; grind

theorem topIns_ordered {l : List TopEntry} (h : TopOrdered l) (c : TopEntry) : TopOrdered (topIns l c) := by
  refine ⟨?_, fun x hx => ?_⟩
  · by_cases hc : c.i = 0xFFFFFFFF
    · rw [topIns_skip l hc]; exact h.1
    · obtain ⟨hord, -⟩ := h
      induction l with
      | nil => rw [topIns_nil hc]; exact List.pairwise_singleton _ _
      | cons y ys ih =>
        obtain ⟨hy, hys⟩ := List.pairwise_cons.1 hord
        rw [topIns_cons y ys hc]
        by_cases hyc : y = c
        · rwa [if_pos hyc]
        · rw [if_neg hyc]
          by_cases hb : topBefore c y = true
          · have hcy := (topBefore_iff c y).1 hb
            rw [if_pos hb]
            exact List.pairwise_cons.2 ⟨List.forall_mem_cons.2 ⟨hcy, fun z hz => hcy.trans (hy z hz)⟩, hord⟩
          · have hyb := TopEntry.before_of_not_before hyc (fun hcy => hb ((topBefore_iff c y).2 hcy))
            rw [if_neg hb]
            refine List.pairwise_cons.2 ⟨fun z hz => ?_, ih hys⟩
            rcases (mem_topIns ys c z).1 hz with hz | ⟨rfl, -⟩
            · exact hy z hz
            · exact hyb
  · rcases (mem_topIns l c x).1 hx with hx | ⟨rfl, hc⟩
    · exact h.2 x hx
    · exact hc

/-! ### The ordered union and its first k entries -/

theorem mem_foldl_topIns (cs t : List TopEntry) (x : TopEntry) :
    x ∈ cs.foldl topIns t ↔ x ∈ t ∨ (x ∈ cs ∧ x.i ≠ 0xFFFFFFFF) := by
  induction cs generalizing t with
  | nil => simp
  | cons c cs ih => rw [List.foldl_cons, ih, mem_topIns, List.mem_cons]; grind

theorem foldl_topIns_ordered (cs : List TopEntry) {t : List TopEntry} (h : TopOrdered t) : TopOrdered (cs.foldl topIns t) := by
  induction cs generalizing t with
  | nil => exact h
  | cons c cs ih => exact ih (topIns_ordered h c)

/-- An entry of an ordered list is among its first `k`, or each of `k` entries comes before it. -/
theorem mem_take_or_before {l : List TopEntry} (h : l.Pairwise TopEntry.Before) (k : Nat) {x : TopEntry} (hx : x ∈ l) :
    x ∈ l.take k ∨ ((l.take k).length = k ∧ ∀ y ∈ l.take k, y.Before x) := by
  rw [← List.take_append_drop k l] at h hx
  rcases List.mem_append.1 hx with hx | hx
  · exact .inl hx
  · have hlen := List.length_pos_of_mem hx
    rw [List.length_drop] at hlen
    exact .inr ⟨List.length_take_of_le (by omega), fun y hy => (List.pairwise_append.1 h).2.2 y hy x hx⟩

/-- What T is after a merge (R142). -/
theorem topMerge_spec {t : List TopEntry} (h : TopOrdered t) (cs : List TopEntry) (k : Nat) :
    TopOrdered (topMerge t cs k) ∧ (topMerge t cs k).length ≤ k ∧ (∀ x ∈ topMerge t cs k, x ∈ t ∨ x ∈ cs) ∧
    ∀ x, (x ∈ t ∨ x ∈ cs) → x.i ≠ 0xFFFFFFFF →
      x ∈ topMerge t cs k ∨ ((topMerge t cs k).length = k ∧ ∀ y ∈ topMerge t cs k, y.Before x) := by
  obtain ⟨hord, hidx⟩ := foldl_topIns_ordered cs h
  refine ⟨⟨hord.sublist (List.take_sublist _ _), fun x hx => hidx x (List.mem_of_mem_take hx)⟩, List.length_take_le _ _,
    fun x hx => ?_, fun x hx hi => mem_take_or_before hord k ?_⟩
  · exact ((mem_foldl_topIns cs t x).1 (List.mem_of_mem_take hx)).imp_right And.left
  · exact (mem_foldl_topIns cs t x).2 (hx.imp_right fun hc => ⟨hc, hi⟩)

/-! ### The commands -/

/-- Word `i` of a row of 64 pairs: values in the even words, indices in the odd ones (R143). -/
theorem rowU_pairs (e : Nat → TopEntry) {i : Nat} (hi : i < 128) :
    rowU 32 i (rowOf 64 64 (fun j => (e j).v.toNat + (e j).i.toNat * 2 ^ 32)) =
      if i % 2 = 0 then (e (i / 2)).v.toNat else (e (i / 2)).i.toNat := by
  have hv := (e (i / 2)).v.isLt
  have hix := (e (i / 2)).i.isLt
  apply Nat.eq_of_testBit_eq
  intro b
  rw [rowU_testBit, rowOf_getLsbD 64 64 (by decide) (by decide)]
  by_cases hb : b < 32
  · have hpair : (i * 32 + b) / 64 = i / 2 := by omega
    have hcomm : (e (i / 2)).v.toNat + (e (i / 2)).i.toNat * 2 ^ 32 = 2 ^ 32 * (e (i / 2)).i.toNat + (e (i / 2)).v.toNat := by omega
    rw [hpair, hcomm, Nat.testBit_two_pow_mul_add _ hv, decide_eq_true hb, decide_eq_true (show i * 32 + b < 64 * 64 by omega)]
    by_cases hpar : i % 2 = 0
    · rw [if_pos hpar, if_pos (by omega), show (i * 32 + b) % 64 = b by omega]; rfl
    · rw [if_neg hpar, if_neg (by omega), show (i * 32 + b) % 64 - 32 = b by omega]; rfl
  · have hlt : (if i % 2 = 0 then (e (i / 2)).v.toNat else (e (i / 2)).i.toNat) < 2 ^ b :=
      Nat.lt_of_lt_of_le (by split <;> assumption) (Nat.pow_le_pow_right (by decide) (Nat.le_of_not_lt hb))
    rw [Nat.testBit_lt_two_pow hlt, decide_eq_false hb, Bool.false_and]

/-- The candidates of TOPK: each enabled word of SRCA, with the index K(j) + i (R142). -/
def Pod.topkCands (q : Pod) (v : VecArgs) : List TopEntry :=
  (upto 128).filterMap (fun i => if q.enabled v.pred (4 * i) then
    some { v := BitVec.ofNat 32 (rowU 32 i (q.rowA v)), i := q.k.get (v.b.toNat % 16) + BitVec.ofNat 32 i } else none)

/-- The candidates of TKMERGE: the pairs of SRCA (R142). -/
def Pod.tkmergeCands (q : Pod) (v : VecArgs) : List TopEntry :=
  (upto 64).map (fun i => { v := BitVec.ofNat 32 (rowU 32 (2 * i) (q.rowA v)), i := BitVec.ofNat 32 (rowU 32 (2 * i + 1) (q.rowA v)) })

theorem mem_topkCands (q : Pod) (v : VecArgs) (x : TopEntry) :
    x ∈ q.topkCands v ↔ ∃ i, i < 128 ∧ q.enabled v.pred (4 * i) = true ∧
      x = { v := BitVec.ofNat 32 (rowU 32 i (q.rowA v)), i := q.k.get (v.b.toNat % 16) + BitVec.ofNat 32 i } := by
  simp only [Pod.topkCands, List.mem_filterMap, upto_mem, Option.ite_none_right_eq_some, Option.some.injEq, eq_comm (b := x)]

theorem mem_tkmergeCands (q : Pod) (v : VecArgs) (x : TopEntry) :
    x ∈ q.tkmergeCands v ↔ ∃ i, i < 64 ∧
      x = { v := BitVec.ofNat 32 (rowU 32 (2 * i) (q.rowA v)), i := BitVec.ofNat 32 (rowU 32 (2 * i + 1) (q.rowA v)) } := by
  simp only [Pod.tkmergeCands, List.mem_map, upto_mem, eq_comm (b := x)]

section Commands
variable (r : PodRef) (v : VecArgs) (s : State)

/-- A command that merges the candidates `cs` into T. -/
theorem topMerge_meets (c : Instr) (cs : List TopEntry) (isCand : TopEntry → Prop) (hcs : ∀ x, x ∈ cs ↔ isCand x) (k : Nat)
    (hc : exec c s = .next (s.withPod r { s.podOf r with t := topMerge (s.podOf r).t cs k })) :
    ∃ t, exec c s = .next (s.withPod r { s.podOf r with t := t }) ∧
      (TopOrdered (s.podOf r).t → TopOrdered t ∧ t.length ≤ k ∧ (∀ x ∈ t, x ∈ (s.podOf r).t ∨ isCand x) ∧
        ∀ x, (x ∈ (s.podOf r).t ∨ isCand x) → x.i ≠ 0xFFFFFFFF → x ∈ t ∨ (t.length = k ∧ ∀ y ∈ t, y.Before x)) := by
  refine ⟨_, hc, fun h => ?_⟩
  simp only [← hcs]
  exact topMerge_spec h cs k

theorem topk_next (h : topkForm v = true) :
    let q := s.podOf r
    exec (.topk r v) s = .next (s.withPod r { q with t := topMerge q.t (q.topkCands v) (v.b.toNat / 16 % 64 + 1) }) := by
  intro q
  rw [exec_topk, execTopk, podOpIf_true s h]
  simp only [Pod.vTopk, bitsOf_eq_div_mod, Nat.pow_zero, Nat.div_one]
  rfl

theorem tkmerge_next (h : ctlForm v = true) :
    let q := s.podOf r
    exec (.tkmerge r v) s = .next (s.withPod r { q with t := topMerge q.t (q.tkmergeCands v) (v.b.toNat / 16 % 64 + 1) }) := by
  intro q
  rw [exec_tkmerge, execTkmerge, podOpIf_true s h]
  simp only [Pod.vTkmerge, bitsOf_eq_div_mod]
  rfl

theorem tkout_rowResult (h : ctlForm v = true) :
    RowResult s r (s.beatOf r + 2) v.d 32 128
      (fun i x => x = match (s.podOf r).t[i / 2]? with
        | some e => if i % 2 = 0 then e.v.toNat else e.i.toNat
        | none => if i % 2 = 0 then 0x80000000 else 0xFFFFFFFF) (fun _ => true) [] (exec (.tkout r v) s) := by
  rw [exec_tkout, execTkout, podOpIf_true s h]
  refine rowResult_wholeRow s r _ _ _ _ _ _ fun i hi => ?_
  rw [rowU_pairs _ hi]
  cases (s.podOf r).t[i / 2]? <;> rfl

end Commands

/-- Settles O5: candidates are inserted in order (`topIns_ordered`, `mem_topIns`), and the first k entries of an ordered list leave out
only what comes after all of them (`mem_take_or_before`). -/
theorem topKKeepsTheLargest : Obligations.TopKKeepsTheLargest := by
  unfold Obligations.TopKKeepsTheLargest
  intro r v s q before ordered k word top
  exact ⟨fun h => topMerge_meets r s _ _ _ (mem_topkCands q v) k (topk_next r v s h),
    fun h => topMerge_meets r s _ _ _ (mem_tkmergeCands q v) k (tkmerge_next r v s h), tkout_rowResult r v s,
    fun h => podOpIf_true s h r _⟩

end Sys2Proof.Machine
end

section
/-! PROOF. Operations on the stacks' memory and frames for the network: what of the package they leave alone. -/
namespace Sys2Proof.Machine

/-- The parts that no memory access and no frame touches: package state, step sequencer, shallots, image, lamps, security and power. -/
structure StepCore where
  top : Top
  seq : StepSeq
  sh : Tbl Shallot
  img : Loader
  lamp : Lamps
  sec : Sec
  pp : PkgPwr

/-- Those parts of a state. -/
def State.core (s : State) : StepCore := ⟨s.top, s.seq, s.sh, s.img, s.lamp, s.sec, s.pp⟩

theorem core_foldl {α : Type} {f : State → α → State} (h : ∀ s a, (f s a).core = s.core) (l : List α) (s : State) :
    (l.foldl f s).core = s.core := proj_foldl State.core f l s h

@[simp] theorem core_ite (p : Prop) [Decidable p] (a b : State) : (if p then a else b).core = if p then a.core else b.core := apply_ite ..

/-! ### Updates, events and frames -/

@[simp] theorem modMem_core (s : State) (h : Nat) (f : Stack → Stack) : (s.modMem h f).core = s.core := rfl
@[simp] theorem modGw_core (s : State) (g : Nat) (f : Gateway → Gateway) : (s.modGw g f).core = s.core := rfl
@[simp] theorem raise_core (s : State) (code plaza unit : Nat) (detail : List Byte) : (s.raise code plaza unit detail).core = s.core := by
  simp [State.core]
@[simp] theorem sendTo_core (s : State) (dest kind : Nat) (bytes : List Byte) : (s.sendTo dest kind bytes).core = s.core := by
  simp [State.core]
@[simp] theorem endCmd_core (s : State) (st : Status) (res : List Word) : (s.endCmd st res).core = s.core := by simp [State.core]

/-! ### Reads of the stacks (R283) -/

@[simp] theorem countUe_core (s : State) (h u kind region src : Nat) : (s.countUe h u kind region src).core = s.core := rfl
@[simp] theorem wantRepair_core (s : State) (h u row : Nat) (noSpare : Bool) : (s.wantRepair h u row noSpare).core = s.core := by
  simp [State.wantRepair]
@[simp] theorem loseUnit_core (s : State) (h u row : Nat) (noSpare : Bool) : (s.loseUnit h u row noSpare).core = s.core := by
  simp [State.loseUnit]
@[simp] theorem correctUnit_core (s : State) (h u row : Nat) (noSpare : Bool) : (s.correctUnit h u row noSpare).core = s.core := by
  simp [State.correctUnit]

@[simp] theorem readUnit_core (s : State) (h u region : Nat) (session : Bool) (src kind : Nat) (f : Option MemFault) (noSpare quiet : Bool) :
    (s.readUnit h u region session src kind f noSpare quiet).1.core = s.core := by
  unfold State.readUnit
  dsimp only
  split
  · simp
  · split
    · simp
    · split
      · rfl
      · split <;> simp

@[simp] theorem readUnits_core (s : State) (r : Region) (region o src kind : Nat) (env : MemEnv) (quiet : Bool) (l : List Nat) :
    (s.readUnits r region o src kind env quiet l).1.core = s.core := by
  induction l generalizing s with
  | nil => rfl
  | cons i is ih => exact (ih _).trans (readUnit_core ..)

@[simp] theorem readRegion_core (s : State) (r : Region) (region o len src : Nat) (env : MemEnv) (quiet : Bool) :
    (s.readRegion r region o len src env quiet).1.core = s.core := by
  unfold State.readRegion
  split
  · rfl
  · exact (readUnits_core ..).trans (by simp [State.countOdecc])

/-! ### Writes to the stacks (R283) -/

@[simp] theorem storeUnit_core (s : State) (h u : Nat) (session : Bool) (bs : List Byte) : (s.storeUnit h u session bs).core = s.core := by
  unfold State.storeUnit
  split <;> rfl

@[simp] theorem writeUnit_core (s : State) (r : Region) (region o at_ : Nat) (bs : List Byte) :
    (s.writeUnit r region o at_ bs).1.core = s.core := by
  unfold State.writeUnit
  dsimp only
  split
  · simp [State.dropCombine]
  · split
    · rfl
    · split
      · rfl
      · simp [State.dropCombine]

@[simp] theorem writeGo_core (s : State) (r : Region) (region fuel o : Nat) (bs : List Byte) :
    (s.writeGo r region fuel o bs).1.core = s.core := by
  induction fuel generalizing s o bs with
  | zero => rfl
  | succ fuel ih =>
    unfold State.writeGo
    split
    · rfl
    · exact (ih ..).trans (writeUnit_core ..)

@[simp] theorem writeRegion_core (s : State) (r : Region) (region o : Nat) (bs : List Byte) :
    (s.writeRegion r region o bs).1.core = s.core := writeGo_core ..

/-! ### Inputs of a replay, and slots without a call (R183, R310) -/

@[simp] theorem replayWrite_core (s : State) (region off : Nat) (bs : List Byte) : (s.replayWrite region off bs).core = s.core := by
  unfold State.replayWrite
  split <;> simp

theorem replayInput_core (s : State) (r : JRecord) : (s.replayInput r).core = s.core := by
  unfold State.replayInput
  dsimp only
  split
  · split <;> simp
  · split <;> simp
  · simp
  · unfold State.replayCall
    split
    · rfl
    · exact replayWrite_core ..
  · rfl

theorem emptySlots_core (s : State) : s.emptySlots.core = s.core := by
  unfold State.emptySlots
  split
  · rfl
  · dsimp only
    split
    · split
      · rfl
      · exact core_foldl (fun _ _ => writeRegion_core ..) _ _
    · rfl

/-! ### Reach operations at their source (R319) -/

@[simp] theorem newReq_core (s : State) (r : ReachReq) : (s.newReq r).core = s.core := by simp [State.newReq, State.firstSend]

theorem issueOp_core (s : State) (o : ReachOp) : (s.issueOp o).core = s.core := by
  have hread : (if o.op = 1 then (s, some []) else match s.region (s.copyOf o.lregion) with
      | none => (s, none)
      | some r => s.readRegion r (s.copyOf o.lregion) o.loffset o.length (24 + o.engine / 16) {} false).1.core = s.core := by
    split
    · rfl
    · split <;> simp
  unfold State.issueOp
  dsimp only
  split
  · exact hread
  · exact (core_foldl (fun _ _ => newReq_core ..) _ _).trans hread

/-- The operations that engines issue at the start of a step. -/
theorem issueReach_core (s : State) : (s.issueReach 0).core = s.core := by
  unfold State.issueReach
  split
  · rfl
  · exact core_foldl issueOp_core _ _

theorem runBegun_core (s : State) : s.runBegun.core = s.core := by
  unfold State.runBegun
  split
  · rfl
  · simp

end Sys2Proof.Machine
end

section
/-! PROOF. Tables changed entry by entry, and what comes before the clearing at the start of a step (R98, R128, R163, R170). -/
namespace Sys2Proof.Machine

/-! ### Entries of a table, and every entry changed -/

section Entries
variable {α : Type}

theorem mem_of_cellsFind {l : List (Nat × α)} {k : Nat} {v : α} (h : cellsFind l k = some v) : (k, v) ∈ l := by
  induction l with
  | nil => cases h
  | cons p l ih =>
    obtain ⟨j, w⟩ := p
    unfold cellsFind at h
    split at h
    · next hj => subst hj; cases h; exact List.mem_cons_self
    · exact List.mem_cons_of_mem _ (ih h)

theorem cellsFind_of_mem {l : List (Nat × α)} (h : cellsRising l = true) {c : Nat × α} (hc : c ∈ l) : cellsFind l c.1 = some c.2 := by
  induction l with
  | nil => cases hc
  | cons p l ih =>
    rcases List.mem_cons.1 hc with rfl | hc
    · exact if_pos rfl
    · have hlt := cellsRising_above h c hc
      rw [cellsFind, if_neg (by omega)]
      exact ih (cellsRising_tail h) hc

variable [Inhabited α]

/-- An entry is the default, or listed. -/
theorem Tbl.get_default_or_mem (t : Tbl α) (k : Nat) : t.get k = default ∨ (k, t.get k) ∈ t.cells := by
  cases h : cellsFind t.cells k with
  | none => exact .inl (by rw [Tbl.get, h, Option.getD_none])
  | some v => exact .inr (by rw [Tbl.get, h, Option.getD_some]; exact mem_of_cellsFind h)

variable [DecidableEq α]

/-- The entry of a listed number of a table in canonical form. -/
theorem Tbl.get_of_mem {t : Tbl α} (h : t.wf = true) {c : Nat × α} (hc : c ∈ t.cells) : t.get c.1 = c.2 := by
  have hrise : cellsRising t.cells = true := (Bool.and_eq_true_iff.1 h).1
  rw [Tbl.get, cellsFind_of_mem hrise hc, Option.getD_some]

/-- An entry after every entry was changed: the default, or the image of a listed one. -/
theorem Tbl.get_mapAll_cases (t : Tbl α) (f : Nat → α → α) (k : Nat) :
    (t.mapAll f).get k = default ∨ ∃ v, (k, v) ∈ t.cells ∧ (t.mapAll f).get k = f k v := by
  refine ((t.mapAll f).get_default_or_mem k).imp_right fun hmem => ?_
  obtain ⟨⟨j, v⟩, hv, heq⟩ := List.mem_map.1 (List.mem_filter.1 hmem).1
  obtain ⟨rfl, hval⟩ := Prod.mk.inj heq
  exact ⟨v, hv, hval.symm⟩

theorem Tbl.mapAll_wf {t : Tbl α} (h : t.wf = true) (f : Nat → α → α) : (t.mapAll f).wf = true := by
  have hrise := cellsRising_iff.1 (Bool.and_eq_true_iff.1 h).1
  have hmap : (t.cells.map (fun p => (p.1, f p.1 p.2))).Pairwise (fun p q => p.1 < q.1) := List.pairwise_map.2 hrise
  exact Bool.and_eq_true_iff.2 ⟨cellsRising_iff.2 (hmap.filter _), List.all_eq_true.2 fun _ hc => (List.mem_filter.1 hc).2⟩

/-- An entry after a change, of every entry, that leaves the default. -/
theorem Tbl.get_mapAll {t : Tbl α} (h : t.wf = true) (f : Nat → α → α) (hf : ∀ k, f k default = default) (k : Nat) :
    (t.mapAll f).get k = f k (t.get k) := by
  by_cases hd : f k (t.get k) = default
  · rcases t.get_mapAll_cases f k with hnew | ⟨v, hv, hnew⟩
    · rw [hnew, hd]
    · rw [hnew, t.get_of_mem h hv]
  · rcases t.get_default_or_mem k with hold | hmem
    · exact absurd (hold ▸ hf k) hd
    · exact Tbl.get_of_mem (t.mapAll_wf h f) (c := (k, f k (t.get k)))
        (List.mem_filter.2 ⟨List.mem_map.2 ⟨_, hmem, rfl⟩, decide_eq_true hd⟩)

/-- The cells of the other numbers are still listed after an entry is set. -/
theorem Tbl.mem_set_ne (t : Tbl α) {k : Nat} (v : α) {c : Nat × α} (hc : c.1 ≠ k) : c ∈ (t.set k v).cells ↔ c ∈ t.cells := by
  obtain ⟨cells⟩ := t
  unfold Tbl.set
  split
  · refine ⟨mem_cellsDel, fun h => ?_⟩
    induction cells with
    | nil => cases h
    | cons p l ih =>
      obtain ⟨j, w⟩ := p
      simp only [cellsDel]
      rcases List.mem_cons.1 h with rfl | h
      · rw [if_neg hc]; exact List.mem_cons_self
      · split
        · exact ih h
        · exact List.mem_cons_of_mem _ (ih h)
  · refine ⟨fun h => (mem_cellsIns h).resolve_left (fun he => hc (he ▸ rfl)), fun h => ?_⟩
    induction cells with
    | nil => cases h
    | cons p l ih =>
      obtain ⟨j, w⟩ := p
      simp only [cellsIns]
      split
      · exact List.mem_cons_of_mem _ h
      · split
        · next hj => exact List.mem_cons_of_mem _ ((List.mem_cons.1 h).resolve_left (fun he => hc (he ▸ hj)))
        · rcases List.mem_cons.1 h with rfl | h
          · exact List.mem_cons_self
          · exact List.mem_cons_of_mem _ (ih h)

end Entries

/-! ### Every shallot that meets a test -/

theorem foldl_modSh_shal (test : Shallot → Bool) (f : Shallot → Shallot) (l : List Nat) (hl : l.Nodup) (s : State) (n : Nat) :
    (l.foldl (fun t n => if test (t.shal n) then t.modSh n f else t) s).shal n =
      if n ∈ l ∧ test (s.shal n) = true then f (s.shal n) else s.shal n := by
  induction l generalizing s with
  | nil => simp
  | cons m l ih =>
    obtain ⟨hm, hl⟩ := List.nodup_cons.1 hl
    rw [List.foldl_cons, ih hl]
    by_cases hnm : n = m
    · subst hnm
      simp only [hm, false_and, if_false, List.mem_cons_self, true_and]
      split
      · exact State.modSh_shal_self s n f
      · rfl
    · have hkeep : (if test (s.shal m) then s.modSh m f else s).shal n = s.shal n := by
        split
        · exact State.modSh_shal_ne s f hnm
        · rfl
      simp only [hkeep, List.mem_cons, hnm, false_or]

theorem modShs_shal (s : State) (test : Shallot → Bool) (f : Shallot → Shallot) {n : Nat} (hn : n < 8) :
    (s.modShs test f).shal n = if test (s.shal n) then f (s.shal n) else s.shal n := by
  have hmem : n ∈ shallotNums := (upto_mem 8 n).2 hn
  unfold State.modShs
  rw [foldl_modSh_shal test f _ (by decide)]
  simp only [hmem, true_and]

/-! ### A pod and a shallot at the start -/

/-- What holds of a pod at the start of a step of kind `kind`, given the pod before it (R98, R101, R128). -/
structure PodStarted (kind : Nat) (q u : Pod) : Prop where
  accs : u.accs = {}
  lanes : u.lanes = {}
  snap : u.snap = {}
  k : u.k = {}
  z : u.z = {}
  pr : u.pr = {}
  t : u.t = []
  lc : u.lc = {}
  loops : u.loops = []
  pend : u.pend = []
  bufs : ∀ b, (u.bufs.get b).written = false
  store : u.store = q.store
  pc : u.pc = (q.entries.get kind).getD 0

theorem Pod.stepStart_started (q : Pod) (kind : Nat) : PodStarted kind q ((q.takeCkpt kind).stepStart kind) := by
  refine ⟨rfl, rfl, rfl, rfl, rfl, rfl, rfl, rfl, rfl, rfl, fun b => ?_, rfl, rfl⟩
  rcases q.bufs.get_mapAll_cases (fun _ b => { b with written := false }) b with h | ⟨v, -, h⟩
  · exact congrArg RowBuf.written h
  · exact congrArg RowBuf.written h

theorem Shallot.stepStart_pod (h : Shallot) (kind : Nat) (wide : Bool) (hwf : h.pods.wf = true) (p : Nat)
    (hp : (h.pods.get p).placed = true) : PodStarted kind (h.pods.get p) ((h.stepStart kind wide).pods.get p) := by
  have hget : (h.stepStart kind wide).pods.get p = ((h.pods.get p).takeCkpt kind).stepStart kind :=
    (Tbl.get_mapAll hwf _ (fun _ => rfl) p).trans (if_pos hp)
  rw [hget]
  exact (h.pods.get p).stepStart_started kind

/-! ### What comes before the clearing: row paths that failed, replayed inputs, empty slots, events of a re-execution -/

/-- What the start of a step reads of a pod is as it was. -/
def PodKept (q u : Pod) : Prop := u.placed = q.placed ∧ u.store = q.store ∧ u.entries = q.entries

/-- What the start of a step reads of a shallot is as it was. -/
structure ShallotKept (h g : Shallot) : Prop where
  placed : g.placed = h.placed
  wf : h.pods.wf = true → g.pods.wf = true
  pods : ∀ p, PodKept (h.pods.get p) (g.pods.get p)

/-- What the start of a step reads of the package in `s` is the same in `t`. -/
structure StartKept (s t : State) : Prop where
  top : t.top = s.top
  sec : t.sec = s.sec
  lamp : t.lamp = s.lamp
  pp : t.pp = s.pp
  img : t.img = s.img
  seq : t.seq.current = s.seq.current ∧ t.seq.skewMax = s.seq.skewMax ∧ t.seq.exe.wide = s.seq.exe.wide
  shal : ∀ n, ShallotKept (s.shal n) (t.shal n)

theorem PodKept.refl (q : Pod) : PodKept q q := ⟨rfl, rfl, rfl⟩

theorem ShallotKept.refl (h : Shallot) : ShallotKept h h := ⟨rfl, id, fun _ => .refl _⟩

theorem ShallotKept.trans {h g k : Shallot} (a : ShallotKept h g) (b : ShallotKept g k) : ShallotKept h k where
  placed := b.placed.trans a.placed
  wf hw := b.wf (a.wf hw)
  pods p :=
    have ⟨hp, hs, he⟩ := a.pods p
    have ⟨hp', hs', he'⟩ := b.pods p
    ⟨hp'.trans hp, hs'.trans hs, he'.trans he⟩

/-- A placed pod of a shallot that starts, against the same pod before what comes first. -/
theorem ShallotKept.stepStart_pod {h g : Shallot} (a : ShallotKept h g) (kind : Nat) (wide : Bool) (hw : h.pods.wf = true) {p : Nat}
    (hp : (h.pods.get p).placed = true) : PodStarted kind (h.pods.get p) ((g.stepStart kind wide).pods.get p) := by
  obtain ⟨hplaced, hstore, hentries⟩ := a.pods p
  have hs := g.stepStart_pod kind wide (a.wf hw) p (hplaced.trans hp)
  exact { hs with store := hs.store.trans hstore, pc := by rw [hs.pc, hentries] }

theorem StartKept.trans {s t u : State} (a : StartKept s t) (b : StartKept t u) : StartKept s u where
  top := b.top.trans a.top
  sec := b.sec.trans a.sec
  lamp := b.lamp.trans a.lamp
  pp := b.pp.trans a.pp
  img := b.img.trans a.img
  seq :=
    have ⟨hc, hs, hw⟩ := a.seq
    have ⟨hc', hs', hw'⟩ := b.seq
    ⟨hc'.trans hc, hs'.trans hs, hw'.trans hw⟩
  shal n := (a.shal n).trans (b.shal n)

theorem startKept_of_core {s t : State} (h : t.core = s.core) : StartKept s t where
  top := congrArg StepCore.top h
  sec := congrArg StepCore.sec h
  lamp := congrArg StepCore.lamp h
  pp := congrArg StepCore.pp h
  img := congrArg StepCore.img h
  seq := by
    have hseq : t.seq = s.seq := congrArg StepCore.seq h
    rw [hseq]; exact ⟨rfl, rfl, rfl⟩
  shal n := by
    have hsh : t.sh = s.sh := congrArg StepCore.sh h
    rw [State.shal, State.shal, hsh]; exact .refl _

theorem startKept_then_core {s t u : State} (h : u.core = t.core) (a : StartKept s t) : StartKept s u := a.trans (startKept_of_core h)

theorem startKept_seq (s : State) (q : StepSeq) (hcur : q.current = s.seq.current) (hskew : q.skewMax = s.seq.skewMax)
    (hwide : q.exe.wide = s.seq.exe.wide) : StartKept s { s with seq := q } :=
  ⟨rfl, rfl, rfl, rfl, rfl, ⟨hcur, hskew, hwide⟩, fun _ => .refl _⟩

theorem startKept_foldl {α : Type} {f : State → α → State} (h : ∀ s a, StartKept s (f s a)) (l : List α) (s : State) :
    StartKept s (l.foldl f s) := by
  induction l generalizing s with
  | nil => exact startKept_of_core rfl
  | cons a l ih => exact (h s a).trans (ih _)

theorem startKept_modPod (s : State) (n p : Nat) (f : Pod → Pod) (hf : ∀ q, PodKept q (f q)) : StartKept s (s.modPod n p f) where
  top := rfl
  sec := rfl
  lamp := rfl
  pp := rfl
  img := rfl
  seq := ⟨rfl, rfl, rfl⟩
  shal m := by
    by_cases hm : m = n
    · subst hm
      rw [State.modPod, State.modSh_shal_self]
      refine ⟨rfl, fun hw => Tbl.mod_wf hw p f, fun k => ?_⟩
      by_cases hk : k = p
      · subst hk; rw [Tbl.get_mod_self]; exact hf _
      · rw [Tbl.get_mod_ne _ _ hk]; exact .refl _
    · rw [State.modPod, State.modSh_shal_ne s _ hm]; exact .refl _

theorem movePrivate_startKept (s : State) : StartKept s s.movePrivate := by
  unfold State.movePrivate
  refine startKept_foldl (fun t n => startKept_foldl (fun u c => ?_) _ t) _ s
  split
  · exact startKept_then_core (raise_core ..) (startKept_modPod u n c.1 _ fun _ => ⟨rfl, rfl, rfl⟩)
  · exact startKept_of_core rfl

theorem replayInputs_startKept (s : State) : StartKept s s.replayInputs := by
  unfold State.replayInputs
  split
  · exact startKept_then_core (core_foldl replayInput_core _ _) (startKept_seq s _ rfl rfl rfl)
  · exact startKept_of_core rfl

theorem rerunEvents_startKept (s : State) : StartKept s s.rerunEvents := by
  unfold State.rerunEvents
  extract_lets e _ _ t
  have ht : StartKept s t := by
    unfold t
    split
    · exact startKept_then_core (raise_core ..) (startKept_seq s _ rfl rfl rfl)
    · exact startKept_of_core rfl
  split
  · exact ht.trans (startKept_then_core (raise_core ..) (startKept_seq t _ rfl rfl rfl))
  · exact ht

end Sys2Proof.Machine
end

section
/-! PROOF. The CTL slot and the two edges of a step: LOOP and STEP_END, and the start (R100, R105, R149, R163, R170). -/
namespace Sys2Proof.Machine

/-! ### A pod and a shallot at their end -/

/-- What every change of a list of changes leaves alone, the whole list leaves alone. -/
theorem foldl_keeps {α β γ : Type} (p : β → γ) {f : β → α → β} (h : ∀ b a, p (f b a) = p b) (l : List α) (b : β) :
    p (l.foldl f b) = p b := by
  induction l generalizing b with
  | nil => rfl
  | cons a l ih => exact (ih _).trans (h b a)

/-- A pod's writes under way, and whether it issues. -/
def Pod.flow (q : Pod) : List Pend × Bool := (q.pend, q.issuing)

theorem Pod.drainAll_flow (q : Pod) : q.drainAll.flow = q.flow := by
  refine foldl_keeps Pod.flow (fun q k => ?_) _ q
  unfold Pod.drainSlot
  dsimp only
  split <;> rfl

theorem Pod.drainAll_issuing (q : Pod) : q.drainAll.issuing = q.issuing := by
  have hflow := q.drainAll_flow
  rw [Pod.flow, Pod.flow, Prod.mk.injEq] at hflow
  exact hflow.2

theorem Pod.landList_flow (q : Pod) (l : List Pend) : (q.landList l).flow = q.flow := by
  induction l generalizing q with
  | nil => rfl
  | cons e es ih =>
    refine (ih _).trans ?_
    cases e.w <;> rfl

theorem Pod.landAll_drainAll_flow (q : Pod) : q.landAll.drainAll.flow = ([], q.issuing) :=
  (Pod.drainAll_flow _).trans (Pod.landList_flow _ _)

theorem Shallot.anyIssuing_iff (h : Shallot) : h.anyIssuing = true ↔ ∃ c ∈ h.pods.cells, c.2.issuing = true := List.any_eq_true

/-- After pod `p` has stopped, the shallot still issues where another of its pods does. -/
theorem Shallot.anyIssuing_of_other (h : Shallot) (p : Nat) (q : Pod)
    (ho : ∃ k, k ≠ p ∧ ∃ c ∈ h.pods.cells, c.1 = k ∧ c.2.issuing = true) :
    ({ h with pods := h.pods.set p q } : Shallot).anyIssuing = true := by
  obtain ⟨k, hk, c, hc, rfl, hi⟩ := ho
  exact (Shallot.anyIssuing_iff _).2 ⟨c, (h.pods.mem_set_ne q hk).2 hc, hi⟩

theorem Shallot.not_anyIssuing_of_last (h : Shallot) (hw : h.pods.wf = true) (p : Nat) (q : Pod) (hq : q.issuing = false)
    (ho : ¬ ∃ k, k ≠ p ∧ ∃ c ∈ h.pods.cells, c.1 = k ∧ c.2.issuing = true) :
    ({ h with pods := h.pods.set p q } : Shallot).anyIssuing = false := by
  refine Bool.eq_false_iff.2 fun hany => ?_
  obtain ⟨c, hc, hi⟩ := (Shallot.anyIssuing_iff _).1 hany
  by_cases hk : c.1 = p
  · have hval : q = c.2 := by rw [← Tbl.get_of_mem (Tbl.set_wf hw p q) hc, hk, Tbl.get_set_self]
    rw [← hval, hq] at hi
    cases hi
  · exact ho ⟨c.1, hk, c, (h.pods.mem_set_ne q hk).1 hc, rfl, hi⟩

/-! ### The shallot that is done (R100, R149) -/

/-- The shallot whose last STEP_END has issued: its writes under way land, and its waiting barrier rows are written. -/
def Shallot.ended (h : Shallot) : Shallot :=
  { h with inStep := false, beatZeroDue := false, pods := h.pods.mapAll (fun _ p => p.landAll.drainAll) }

/-- The sequencer once shallot `n` has reported `b` beats (R149). -/
def StepSeq.reported (q : StepSeq) (n b : Nat) : StepSeq :=
  { q with done := q.done ||| BitVec.ofNat 8 (2 ^ n), exe := { q.exe with beats := q.exe.beats.set n b } }

theorem shallotDone_eq (s : State) (n : Nat) :
    s.shallotDone n = { s with sh := s.sh.mod n Shallot.ended, seq := s.seq.reported n ((s.shal n).beat.toNat + 1) } := by
  unfold State.shallotDone State.modSh State.modExe
  dsimp only
  rfl

theorem shallotDone_shal_ne (s : State) {n m : Nat} (h : m ≠ n) : (s.shallotDone n).shal m = s.shal m := by
  rw [shallotDone_eq]
  exact Tbl.get_mod_ne _ _ h

theorem shallotDone_shal_self (s : State) (n : Nat) : (s.shallotDone n).shal n = (s.shal n).ended := by
  rw [shallotDone_eq]
  exact Tbl.get_mod_self _ _ _

/-- But for its phase, a report changes the done bits and the beat counts only. -/
theorem StepSeq.eq_of_reported {q w : StepSeq} {n b : Nat} (h : { w with phase := q.phase } = q.reported n b) :
    { w with phase := q.phase, done := q.done, exe := { w.exe with beats := q.exe.beats } } = q :=
  congrArg (fun x : StepSeq => { x with done := q.done, exe := { x.exe with beats := q.exe.beats } }) h

/-- Every pod of a shallot that is done has its writes landed; where none issued before, none does. -/
theorem shallotDone_pods (s : State) (n : Nat) (hi : (s.shal n).anyIssuing = false) (p : Nat) :
    (((s.shallotDone n).shal n).pods.get p).flow = ([], false) := by
  rw [shallotDone_shal_self]
  rcases (s.shal n).pods.get_mapAll_cases (fun _ p => p.landAll.drainAll) p with h | ⟨v, hv, h⟩
  · exact congrArg Pod.flow h
  · have hv' : v.issuing = false := Bool.eq_false_iff.2 fun ht =>
      Bool.eq_false_iff.1 hi ((Shallot.anyIssuing_iff _).2 ⟨_, hv, ht⟩)
    rw [← hv', ← v.landAll_drainAll_flow]
    exact congrArg Pod.flow h

/-! ### The drain -/

theorem maybeDrain_eq (s : State) : s.maybeDrain = { s with seq := { s.seq with
    phase := if s.seq.phase = .execute ∧ s.allDone = true then .drain else s.seq.phase } } := by
  unfold State.maybeDrain
  split <;> rfl

theorem allDone_iff (s : State) : s.allDone = true ↔ ∀ m, m < 8 → (s.shal m).placed = true → s.seq.done.getLsbD m = true := by
  simp only [State.allDone, List.all_eq_true, shallotNums, upto_mem, Bool.or_eq_true, Bool.not_eq_true', ← Bool.not_eq_true]
  exact forall₂_congr fun m _ => ⟨fun h hp => h.resolve_left (fun hn => hn hp), fun h => (Decidable.em _).symm.imp_right h⟩

theorem maybeDrain_shal (s : State) (m : Nat) : s.maybeDrain.shal m = s.shal m := by rw [maybeDrain_eq]; rfl

theorem maybeDrain_seq (s : State) : s.maybeDrain.seq =
    { s.seq with phase := if s.seq.phase = .execute ∧ s.allDone = true then .drain else s.seq.phase } := by rw [maybeDrain_eq]

theorem maybeDrain_phase (s : State) :
    let all := ∀ m, m < 8 → (s.shal m).placed = true → s.maybeDrain.seq.done.getLsbD m = true
    (s.seq.phase = .execute → all → s.maybeDrain.seq.phase = .drain) ∧
    (s.seq.phase ≠ .execute ∨ ¬ all → s.maybeDrain.seq.phase = s.seq.phase) := by
  simp only [maybeDrain_seq, ← allDone_iff]
  refine ⟨fun hp ha => if_pos ⟨hp, ha⟩, fun hn => if_neg fun hc => ?_⟩
  exact hn.elim (fun hp => hp hc.1) (fun ha => ha hc.2)

/-! ### LOOP and STEP_END -/

section Ctl
variable (r : PodRef) (s : State)

theorem modPod_const (n p : Nat) (f : Pod → Pod) : s.modPod n p f = s.modPod n p (fun _ => f (s.pod n p)) := rfl

theorem loopCtl_next (a : LoopArgs) (h : (s.podOf r).loops.length < 3) :
    exec (.loopCtl r a) s = .next (s.modPod r.sh.val r.pod.val (fun _ => { s.podOf r with loops :=
      { start := (s.podOf r).lastPc + 1, stop := a.stop, left := a.trips.toNat, lc := a.lc, stride := a.stride } :: (s.podOf r).loops })) := by
  have hopen : (s.pod r.sh.val r.pod.val).loops.length < 3 := h
  rw [exec_loopCtl, execLoopCtl, if_pos hopen, modPod_const]
  rfl

theorem loopCtl_refused (a : LoopArgs) (h : 3 ≤ (s.podOf r).loops.length) : exec (.loopCtl r a) s = .refused .loaderRefuses :=
  if_neg (Nat.not_lt.2 h)

/-- The state once the pod issues no more and its barrier rows are written (R101, R229). -/
def State.podEnded : State := s.modPod r.sh.val r.pod.val (fun q => { q with issuing := false }.drainAll)

theorem podEnded_shal : (s.podEnded r).shal r.sh.val =
    { s.shal r.sh.val with pods := (s.shal r.sh.val).pods.set r.pod.val { s.podOf r with issuing := false }.drainAll } :=
  State.modSh_shal_self s _ _

theorem stepEnd_next (h : (s.podOf r).issuing = true) : exec (.stepEnd r) s =
    .next (if ((s.podEnded r).shal r.sh.val).anyIssuing then s.podEnded r else ((s.podEnded r).shallotDone r.sh.val).maybeDrain) := by
  have hcond : (s.pod r.sh.val r.pod.val).issuing = true := h
  rw [exec_stepEnd, execStepEnd, if_pos hcond, State.podEnded]

/-- A pod that issues no more does nothing at STEP_END. -/
theorem stepEnd_idle (h : (s.podOf r).issuing = false) : exec (.stepEnd r) s = .next s := by
  have hidle : ¬ (s.pod r.sh.val r.pod.val).issuing = true := Bool.eq_false_iff.1 h
  rw [exec_stepEnd, execStepEnd, if_neg hidle]

/-- Does another pod of the shallot still issue? -/
def State.othersIssue : Prop :=
  ∃ p, p ≠ r.pod.val ∧ ∃ c ∈ (s.shal r.sh.val).pods.cells, c.1 = p ∧ c.2.issuing = true

theorem stepEnd_others (h : (s.podOf r).issuing = true) (ho : s.othersIssue r) :
    exec (.stepEnd r) s = .next (s.modPod r.sh.val r.pod.val (fun _ => { s.podOf r with issuing := false }.drainAll)) := by
  have hany : ((s.podEnded r).shal r.sh.val).anyIssuing = true := by
    rw [podEnded_shal]
    exact Shallot.anyIssuing_of_other _ _ _ ho
  rw [stepEnd_next r s h, if_pos hany, State.podEnded, modPod_const]
  rfl

/-- The state after the last STEP_END of a shallot (R100, R149, R163). -/
def State.lastEnded : State := ((s.podEnded r).shallotDone r.sh.val).maybeDrain

theorem podEnded_not_anyIssuing (hw : (s.shal r.sh.val).pods.wf = true) (ho : ¬ s.othersIssue r) :
    ((s.podEnded r).shal r.sh.val).anyIssuing = false := by
  rw [podEnded_shal]
  exact Shallot.not_anyIssuing_of_last _ hw _ _ (Pod.drainAll_issuing _) ho

theorem stepEnd_last (h : (s.podOf r).issuing = true) (hw : (s.shal r.sh.val).pods.wf = true) (ho : ¬ s.othersIssue r) :
    exec (.stepEnd r) s = .next (s.lastEnded r) := by
  rw [stepEnd_next r s h, podEnded_not_anyIssuing r s hw ho]
  rfl

theorem lastEnded_shal_ne {m : Nat} (hm : m ≠ r.sh.val) : (s.lastEnded r).shal m = s.shal m := by
  rw [State.lastEnded, maybeDrain_shal, shallotDone_shal_ne _ hm]
  exact State.modSh_shal_ne s _ hm

theorem lastEnded_shal_self : (s.lastEnded r).shal r.sh.val = ((s.podEnded r).shal r.sh.val).ended := by
  rw [State.lastEnded, maybeDrain_shal, shallotDone_shal_self]

theorem podEnded_placed (m : Nat) : ((s.podEnded r).shal m).placed = (s.shal m).placed := by
  by_cases hm : m = r.sh.val
  · rw [hm, podEnded_shal]
  · rw [State.podEnded, State.modPod, State.modSh_shal_ne s _ hm]

theorem lastEnded_rest : { s.lastEnded r with sh := s.sh, seq := s.seq } = s := by
  obtain ⟨x, hx⟩ : ∃ x, s.podEnded r = { s with sh := x } := ⟨_, rfl⟩
  rw [State.lastEnded, maybeDrain_eq, shallotDone_eq, hx]

/-- The sequencer as the last STEP_END of a shallot reports it: one more than its beat (R149). -/
theorem podEnded_shallotDone_seq :
    ((s.podEnded r).shallotDone r.sh.val).seq = s.seq.reported r.sh.val ((s.shal r.sh.val).beat.toNat + 1) := by
  rw [shallotDone_eq, podEnded_shal]
  rfl

theorem lastEnded_seq :
    { (s.lastEnded r).seq with phase := s.seq.phase } = s.seq.reported r.sh.val ((s.shal r.sh.val).beat.toNat + 1) := by
  rw [State.lastEnded, maybeDrain_seq, podEnded_shallotDone_seq]
  rfl

theorem podEnded_shallotDone_placed (m : Nat) : (((s.podEnded r).shallotDone r.sh.val).shal m).placed = (s.shal m).placed := by
  by_cases hm : m = r.sh.val
  · rw [hm, shallotDone_shal_self, Shallot.ended, podEnded_placed]
  · rw [shallotDone_shal_ne _ hm, podEnded_placed]

/-- The drain begins where every placed shallot has reported (R163). -/
theorem lastEnded_phase :
    let all := ∀ m, m < 8 → (s.shal m).placed = true → (s.lastEnded r).seq.done.getLsbD m = true
    (s.seq.phase = .execute → all → (s.lastEnded r).seq.phase = .drain) ∧
    (s.seq.phase ≠ .execute ∨ ¬ all → (s.lastEnded r).seq.phase = s.seq.phase) := by
  have hdrain := maybeDrain_phase ((s.podEnded r).shallotDone r.sh.val)
  have hphase : ((s.podEnded r).shallotDone r.sh.val).seq.phase = s.seq.phase := by rw [podEnded_shallotDone_seq]; rfl
  simp only [podEnded_shallotDone_placed, hphase] at hdrain
  exact hdrain

theorem lastEnded_pods (hw : (s.shal r.sh.val).pods.wf = true) (ho : ¬ s.othersIssue r) (p : Nat) :
    (((s.lastEnded r).shal r.sh.val).pods.get p).pend = [] ∧ (((s.lastEnded r).shal r.sh.val).pods.get p).issuing = false := by
  have hflow := shallotDone_pods (s.podEnded r) r.sh.val (podEnded_not_anyIssuing r s hw ho) p
  rw [Pod.flow, Prod.mk.injEq] at hflow
  rw [State.lastEnded, maybeDrain_shal]
  exact hflow

end Ctl

/-! ### The start of an execution -/

/-- The step kind that the package is about to run. -/
def State.stepKind (s : State) : Nat := (s.img.image.map (fun i => i.kindOf s.seq.current.toNat)).getD 0

/-- The shallots as their placed ones start. -/
def State.shallotsStarted (s : State) : State := s.modShs (fun h => h.placed) (fun h => h.stepStart s.stepKind s.seq.exe.wide)

theorem startShallots_eq (s : State) : ∃ d,
    s.startShallots = { s.shallotsStarted with seq := { s.shallotsStarted.seq with done := d } } := by
  unfold State.startShallots State.shallotsStarted State.stepKind
  dsimp only
  exact ⟨_, Eq.refl _⟩

theorem shallotsStarted_shal (s : State) {n : Nat} (hn : n < 8) (hp : (s.shal n).placed = true) :
    s.shallotsStarted.shal n = (s.shal n).stepStart s.stepKind s.seq.exe.wide := by
  rw [State.shallotsStarted, modShs_shal s _ _ hn, if_pos hp]

/-- `u` is `s` at the moment its placed shallots start, after `skew` was measured (R163, R170). -/
structure ReadyToStart (s : State) (skew : Word) (u : State) : Prop where
  top : u.top = s.top
  sec : u.sec = s.sec
  lamp : u.lamp = s.lamp
  pp : u.pp = s.pp
  img : u.img = s.img
  shal : ∀ n, ShallotKept (s.shal n) (u.shal n)
  current : u.seq.current = s.seq.current
  wide : u.seq.exe.wide = s.seq.exe.wide
  skewMax : u.seq.skewMax = if s.seq.skewMax.toNat < skew.toNat then skew else s.seq.skewMax
  phase : u.seq.phase = .execute
  startAt : u.seq.startAt = none
  tallySave : u.seq.tallySave = []

theorem ReadyToStart.of_kept {s t : State} (a : StartKept s t) (skew : Word) (q : StepSeq) (hcur : q.current = t.seq.current)
    (hwide : q.exe.wide = t.seq.exe.wide) (hskew : q.skewMax = if t.seq.skewMax.toNat < skew.toNat then skew else t.seq.skewMax)
    (hphase : q.phase = .execute) (hstart : q.startAt = none) (hsave : q.tallySave = []) :
    ReadyToStart s skew { t with seq := q }.runBegun := by
  have hcore := runBegun_core { t with seq := q }
  have hseq : State.seq (State.runBegun { t with seq := q }) = q := congrArg StepCore.seq hcore
  have hkept : StartKept { t with seq := q } (State.runBegun { t with seq := q }) := startKept_of_core hcore
  obtain ⟨hc, hs, hw⟩ := a.seq
  refine ⟨hkept.top.trans a.top, hkept.sec.trans a.sec, hkept.lamp.trans a.lamp, hkept.pp.trans a.pp, hkept.img.trans a.img,
    fun n => (a.shal n).trans (hkept.shal n), ?_, ?_, ?_, ?_, ?_, ?_⟩
  · rw [hseq, hcur, hc]
  · rw [hseq, hwide, hw]
  · rw [hseq, hskew, hs]
  · rw [hseq, hphase]
  · rw [hseq, hstart]
  · rw [hseq, hsave]

theorem Execution.wide_ite_offs (p : Prop) [Decidable p] (e : Execution) (o : Tbl Int) :
    (if p then { e with offs := o } else e).wide = e.wide := by split <;> rfl

theorem beginExec_ready (s : State) (skew : Word) :
    ∃ u, ReadyToStart s skew u ∧ s.beginExec skew = (u.startShallots.arbsStart.issueReach 0).maybeDrain := by
  have hkept : StartKept s (if s.seq.exe.first then (s.movePrivate.replayInputs).emptySlots else s.rerunEvents) := by
    split
    · exact startKept_then_core (emptySlots_core _) ((movePrivate_startKept s).trans (replayInputs_startKept _))
    · exact rerunEvents_startKept s
  unfold State.beginExec
  dsimp only
  refine ⟨_, ?_, rfl⟩
  exact .of_kept hkept skew _ rfl (Execution.wide_ite_offs _ _ _) rfl rfl rfl rfl

theorem arbsStart_core (s : State) : s.arbsStart.core = s.core := rfl

theorem shallotsStarted_seq (s : State) : s.shallotsStarted.seq = s.seq := by rw [State.shallotsStarted, State.modShs_seq]

theorem shallotsStarted_core (s : State) : s.shallotsStarted.core = ⟨s.top, s.seq, s.shallotsStarted.sh, s.img, s.lamp, s.sec, s.pp⟩ := by
  simp only [State.core, State.shallotsStarted, State.modShs_top, State.modShs_seq, State.modShs_img, State.modShs_lamp, State.modShs_sec,
    State.modShs_pp]

theorem core_withSeq (s : State) (q : StepSeq) : State.core { s with seq := q } = { s.core with seq := q } := rfl

/-- What the core of the package is once an execution has begun. -/
theorem beginExec_core (s : State) (skew : Word) : ∃ u d ph, ReadyToStart s skew u ∧ (ph = .execute ∨ ph = .drain) ∧
    (s.beginExec skew).core = ⟨u.top, { u.seq with done := d, phase := ph }, u.shallotsStarted.sh, u.img, u.lamp, u.sec, u.pp⟩ := by
  obtain ⟨u, hready, hbegin⟩ := beginExec_ready s skew
  obtain ⟨d, hstart⟩ := startShallots_eq u
  have hcore : (u.startShallots.arbsStart.issueReach 0).core =
      ⟨u.top, { u.seq with done := d }, u.shallotsStarted.sh, u.img, u.lamp, u.sec, u.pp⟩ := by
    rw [issueReach_core, arbsStart_core, hstart, core_withSeq, shallotsStarted_core, shallotsStarted_seq]
  generalize u.startShallots.arbsStart.issueReach 0 = v at hbegin hcore
  have hseq : v.seq = { u.seq with done := d } := congrArg StepCore.seq hcore
  have hphase : v.seq.phase = .execute := by rw [hseq]; exact hready.phase
  refine ⟨u, d, (if v.seq.phase = .execute ∧ v.allDone = true then .drain else v.seq.phase), hready, ?_, ?_⟩
  · rw [hphase]
    split
    · exact .inr rfl
    · exact .inl rfl
  · rw [hbegin, maybeDrain_eq, core_withSeq, hcore, hseq]

/-- A placed shallot once an execution has begun: what the step reads of it is as before, and it has started. -/
theorem beginExec_shal {s u : State} {skew : Word} (hready : ReadyToStart s skew u) {t : State} (hsh : t.sh = u.shallotsStarted.sh) {n : Nat}
    (hn : n < 8) (hp : (s.shal n).placed = true) :
    ShallotKept (s.shal n) (u.shal n) ∧ t.shal n = (u.shal n).stepStart s.stepKind s.seq.exe.wide := by
  have hkept := hready.shal n
  have hkind : u.stepKind = s.stepKind := by rw [State.stepKind, State.stepKind, hready.img, hready.current]
  have hshal : t.shal n = u.shallotsStarted.shal n := by rw [State.shal, State.shal, hsh]
  refine ⟨hkept, ?_⟩
  rw [hshal, shallotsStarted_shal u hn (hkept.placed.trans hp), hkind, hready.wide]

/-- STEP_START once the start time has come and nothing is awaited (R163, R170, R389, R497). -/
theorem stepStart_next {s : State} {t0 : Nat} (skew : Word) (hat : s.seq.startAt = some t0) (hrun : s.top.state = .running)
    (hphase : s.seq.phase = .start) (hnow : t0 ≤ s.top.now) (hgrant : s.seq.grant = none)
    (hsync : (s.seq.exe.first && s.cond.resyncing) = false) (hswitch : s.cond.switching = none)
    (hreset : ∀ n, n < 8 → (s.shal n).placed = true → (s.shal n).resetting = false) :
    exec (.stepStart skew) s = if s.placedFence then .next (s.endExec .fence) else .next (s.beginExec skew) := by
  have hany : shallotNums.any (fun n => (s.shal n).placed && (s.shal n).resetting) = false := by
    refine List.any_eq_false.2 fun n hn => ?_
    rw [Bool.and_eq_true]
    exact fun ⟨hp, hr⟩ => Bool.eq_false_iff.1 (hreset n ((upto_mem 8 n).1 hn) hp) hr
  rw [exec_stepStart]
  unfold execStepStart
  simp only [hat]
  exact if_pos ⟨hrun, hphase, hnow, by rw [hgrant]; rfl, by rw [hswitch]; rfl, by rw [hsync]; rfl, by rw [hany]; rfl⟩

/-- Settles O14: what LOOP and STEP_END answer (`loopCtl_next`, `stepEnd_others`, `stepEnd_last`), and a step's start as the clearing of
the placed shallots after what comes before it (`beginExec_core`). -/
theorem loopsAndStepEdges : Obligations.LoopsAndStepEdges := by
  unfold Obligations.LoopsAndStepEdges
  refine ⟨fun r a s => ?_, fun skew s t0 hat hrun hphase hnow hgrant hsync hswitch hreset => ?_⟩
  · intro n q ended others
    refine ⟨loopCtl_next r s a, loopCtl_refused r s a, stepEnd_idle r s, stepEnd_others r s, fun hi hw ho => ?_⟩
    have hseq := lastEnded_seq r s
    have hended : (s.lastEnded r).shal n = ((s.podEnded r).shal n).ended := lastEnded_shal_self r s
    refine ⟨s.lastEnded r, stepEnd_last r s hi hw ho, lastEnded_rest r s, fun m hm => lastEnded_shal_ne r s hm, ?_, ?_, fun m hm => ?_, ?_,
      ?_, ?_, lastEnded_pods r s hw ho, lastEnded_phase r s⟩
    · exact StepSeq.eq_of_reported hseq
    · exact (congrArg (fun w : StepSeq => w.exe.beats.get n) hseq).trans (Tbl.get_set_self _ _ _)
    · exact (congrArg (fun w : StepSeq => w.exe.beats.get m) hseq).trans (Tbl.get_set_ne _ _ hm)
    · exact congrArg StepSeq.done hseq
    · rw [hended]; rfl
    · rw [hended]; rfl
  · have hnext := stepStart_next skew hat hrun hphase hnow hgrant hsync hswitch hreset
    refine ⟨fun hf => hnext.trans (if_pos hf), fun hf => ⟨s.beginExec skew, hnext.trans (if_neg (Bool.eq_false_iff.1 hf)), ?_⟩⟩
    obtain ⟨u, d, ph, hready, hph, hcore⟩ := beginExec_core s skew
    generalize s.beginExec skew = t at hcore ⊢
    rw [State.core, StepCore.mk.injEq] at hcore
    obtain ⟨htop, hseq, hsh, -, hlamp, hsec, hpp⟩ := hcore
    refine ⟨?_, ?_, ?_, ?_, htop.trans hready.top, hsec.trans hready.sec, hlamp.trans hready.lamp, hpp.trans hready.pp, ?_,
      fun n hn hp => ?_⟩
    · rw [hseq]; exact hph
    · rw [hseq]; exact hready.startAt
    · rw [hseq]; exact hready.tallySave
    · rw [hseq]; exact hready.current
    · rw [hseq]; exact hready.skewMax
    · obtain ⟨hkept, hshal⟩ := beginExec_shal hready hsh hn hp
      have hpods : ∀ p, t.pod n p = ((u.shal n).stepStart s.stepKind s.seq.exe.wide).pods.get p := fun p => by rw [State.pod, hshal]
      simp only [hpods]
      rw [hshal]
      refine ⟨rfl, rfl, rfl, rfl, rfl, rfl, fun hw p hpod => ?_⟩
      have hs := hkept.stepStart_pod s.stepKind s.seq.exe.wide hw hpod
      refine ⟨hs.accs, hs.lanes, hs.snap, hs.k, hs.z, hs.pr, hs.t, hs.lc, hs.loops, hs.pend, hs.bufs, hs.store, fun im him => ?_⟩
      rw [hs.pc, State.stepKind, him]
      rfl

end Sys2Proof.Machine
end

section
/-! PROOF. One period of an arbiter (R234, R235, R238): the background ranking as an order on ranks, and what a decision makes of the
requests that may be granted. -/
namespace Sys2Proof.Machine

/-! ### The background ranking (R235) -/

/-- The rank of a request in the background, compared in its order: stale requests, then the older, then the lower source, target and
slot. The lower rank comes first. -/
def ArbReq.rank (r : ArbReq) (now : BitVec 16) : List Nat := [b2n (!r.stale), 2 ^ 16 - r.age now, r.source, r.target, r.lslot]

theorem ArbReq.age_lt (r : ArbReq) (now : BitVec 16) : r.age now < 2 ^ 16 := (now - r.stamp).isLt

theorem ArbReq.rank_lt_iff (now : BitVec 16) (x y : ArbReq) : x.rank now < y.rank now ↔
    b2n (!x.stale) < b2n (!y.stale) ∨ b2n (!x.stale) = b2n (!y.stale) ∧ (y.age now < x.age now ∨ x.age now = y.age now ∧
      (x.source < y.source ∨ x.source = y.source ∧ (x.target < y.target ∨ x.target = y.target ∧ x.lslot < y.lslot))) := by
  have hx := x.age_lt now
  have hy := y.age_lt now
  have hage : 2 ^ 16 - x.age now < 2 ^ 16 - y.age now ↔ y.age now < x.age now := by omega
  have hageEq : 2 ^ 16 - x.age now = 2 ^ 16 - y.age now ↔ x.age now = y.age now := by omega
  simp only [ArbReq.rank, List.cons_lt_cons_iff, hage, hageEq, List.not_lt_nil, and_false, or_false]

theorem ArbReq.before_of_stale_ne {x y : ArbReq} (now : BitVec 16) (h : x.stale ≠ y.stale) : x.before now y = x.stale :=
  if_pos (bne_iff_ne.2 h)

theorem ArbReq.before_of_stale_eq {x y : ArbReq} (now : BitVec 16) (h : x.stale = y.stale) : x.before now y = true ↔
    y.age now < x.age now ∨ x.age now = y.age now ∧
      (x.source < y.source ∨ x.source = y.source ∧ (x.target < y.target ∨ x.target = y.target ∧ x.lslot < y.lslot)) := by
  unfold ArbReq.before
  rw [if_neg (fun hne => bne_iff_ne.1 hne h)]
  simp only [bne_iff_ne]
  split
  · rw [decide_eq_true_iff]; omega
  · split
    · rw [decide_eq_true_iff]; omega
    · split
      · rw [decide_eq_true_iff]; omega
      · rw [decide_eq_true_iff]; omega

theorem ArbReq.before_iff (now : BitVec 16) (x y : ArbReq) : x.before now y = true ↔ x.rank now < y.rank now := by
  rw [ArbReq.rank_lt_iff]
  by_cases h : x.stale = y.stale
  · rw [ArbReq.before_of_stale_eq now h, h]
    omega
  · rw [ArbReq.before_of_stale_ne now h]
    cases hx : x.stale with
    | false =>
      have hy : y.stale = true := by rw [← Bool.not_eq_false]; exact fun hy => h (hx.trans hy.symm)
      rw [hy, show b2n (!false) = 1 from rfl, show b2n (!true) = 0 from rfl]
      exact iff_of_false Bool.false_ne_true (by omega)
    | true =>
      have hy : y.stale = false := by rw [← Bool.not_eq_true]; exact fun hy => h (hx.trans hy.symm)
      rw [hy]
      exact iff_of_true rfl (.inl Nat.zero_lt_one)

theorem ArbReq.not_before_iff (now : BitVec 16) (x y : ArbReq) : x.before now y = false ↔ ¬ x.rank now < y.rank now := by
  rw [← ArbReq.before_iff, Bool.not_eq_true]

theorem ArbReq.not_before_self (now : BitVec 16) (x : ArbReq) : x.before now x = false :=
  (ArbReq.not_before_iff ..).2 (List.lt_irrefl _)

theorem ArbReq.not_before_of_before {now : BitVec 16} {x y : ArbReq} (h : x.before now y = true) : y.before now x = false :=
  (ArbReq.not_before_iff ..).2 (List.not_lt.2 (List.le_of_lt ((ArbReq.before_iff ..).1 h)))

theorem ArbReq.not_before_trans {now : BitVec 16} {x y z : ArbReq} (hxy : x.before now y = false) (hyz : y.before now z = false) :
    x.before now z = false := by
  rw [ArbReq.not_before_iff] at *
  exact List.not_lt.2 (List.le_trans (List.not_lt.1 hyz) (List.not_lt.1 hxy))

theorem bestReq_eq_none_iff (now : BitVec 16) (l : List ArbReq) : bestReq now l = none ↔ l = [] := by
  cases l with
  | nil => exact iff_of_true rfl rfl
  | cons r rs =>
    refine iff_of_false (fun h => ?_) (List.cons_ne_nil r rs)
    unfold bestReq at h
    split at h
    · cases h
    · split at h <;> cases h

/-- The best request of a list is one of it, and none of it ranks above. -/
theorem bestReq_spec {now : BitVec 16} {l : List ArbReq} {b : ArbReq} (h : bestReq now l = some b) :
    b ∈ l ∧ ∀ x ∈ l, x.before now b = false := by
  induction l generalizing b with
  | nil => cases h
  | cons r rs ih =>
    unfold bestReq at h
    split at h
    · next hrs =>
      cases h
      rw [(bestReq_eq_none_iff now rs).1 hrs]
      exact ⟨List.mem_cons_self, fun x hx => List.mem_singleton.1 hx ▸ ArbReq.not_before_self now x⟩
    · next c hrs =>
      obtain ⟨hc, hmin⟩ := ih hrs
      split at h
      · next hcr =>
        cases h
        exact ⟨List.mem_cons_of_mem _ hc, List.forall_mem_cons.2 ⟨ArbReq.not_before_of_before hcr, hmin⟩⟩
      · next hcr =>
        cases h
        have hother := fun x hx => ArbReq.not_before_trans (hmin x hx) (Bool.eq_false_iff.2 hcr)
        exact ⟨List.mem_cons_self, List.forall_mem_cons.2 ⟨ArbReq.not_before_self .., hother⟩⟩

/-! ### What an arbiter counts (R238, R248) -/

/-- The second arbiter is the first but for its counters, its congestion map and its lists of slots granted early or missed. -/
def Arbiter.Tallied (a b : Arbiter) : Prop := { b with counts := a.counts, map := a.map, early := a.early, missed := a.missed } = a

/-- The grants that an arbiter has counted for a source. -/
def Arbiter.grantsOf (a : Arbiter) (source : Nat) : Word := (a.counts.get source).grants

theorem Arbiter.Tallied.trans {a b c : Arbiter} (hab : a.Tallied b) (hbc : b.Tallied c) : a.Tallied c := by
  unfold Arbiter.Tallied at *
  rw [← hab, ← hbc]

theorem Arbiter.countWaits_tallied (a : Arbiter) (g : Option ArbReq) : a.Tallied (a.countWaits g) := rfl

theorem Arbiter.countWaits_grantsOf (a : Arbiter) (g : Option ArbReq) (source : Nat) : (a.countWaits g).grantsOf source = a.grantsOf source := by
  refine foldl_keeps (fun c : Tbl ReqCount => (c.get source).grants) (fun c x => ?_) _ a.counts
  by_cases h : source = x
  · subst h
    rw [Tbl.get_mod_self]
  · rw [Tbl.get_mod_ne _ _ h]

theorem Arbiter.countGrant_grantsOf (a : Arbiter) (source age : Nat) :
    (a.countGrant source age).grantsOf source = satAdd (a.grantsOf source) 1 :=
  congrArg ReqCount.grants (Tbl.get_mod_self ..)

theorem Arbiter.ownerIdle_tallied (a : Arbiter) (kind slot : Nat) (e : Half) : a.Tallied (a.ownerIdle kind slot e) := by
  dsimp only [Arbiter.ownerIdle]
  generalize (_, _, _) = key
  split <;> rfl

theorem Arbiter.ownerIdle_counts (a : Arbiter) (kind slot : Nat) (e : Half) : (a.ownerIdle kind slot e).counts = a.counts := by
  dsimp only [Arbiter.ownerIdle]
  generalize (_, _, _) = key
  split <;> rfl

theorem Arbiter.ownedGrant_tallied (a : Arbiter) (slot : Option Nat) (r : ArbReq) (age : Nat) : a.Tallied (a.ownedGrant slot r age) := rfl

theorem Arbiter.ownedGrant_grantsOf (a : Arbiter) (slot : Option Nat) (r : ArbReq) (age : Nat) :
    (a.ownedGrant slot r age).grantsOf r.source = satAdd (a.grantsOf r.source) 1 := a.countGrant_grantsOf r.source age

theorem Arbiter.backgroundGrant_tallied (a : Arbiter) (kind : Nat) (slot : Option Nat) (r : ArbReq) (age : Nat) :
    a.Tallied (a.backgroundGrant kind slot r age) := by
  dsimp only [Arbiter.backgroundGrant]
  split
  · rfl
  · split <;> rfl

theorem Arbiter.backgroundGrant_grantsOf (a : Arbiter) (kind : Nat) (slot : Option Nat) (r : ArbReq) (age : Nat) :
    (a.backgroundGrant kind slot r age).grantsOf r.source = satAdd (a.grantsOf r.source) 1 := by
  refine Eq.trans ?_ (a.countGrant_grantsOf r.source age)
  dsimp only [Arbiter.backgroundGrant]
  split
  · rfl
  · split <;> rfl

/-! ### The decision (R234, R237) -/

/-- The timetable entry of the period's slot; a period without a slot has the entry of no owner. -/
def Arbiter.slotEntry (a : Arbiter) (slot : Option Nat) : Half := match slot with | some m => a.table.get m | none => 0

/-- Does the request own the slot of the period? -/
def Arbiter.ownsSlot (a : Arbiter) (kind : Nat) (slot : Option Nat) (r : ArbReq) : Prop :=
  ∃ m, slot = some m ∧ ownerIs kind (a.table.get m) r = true

theorem Arbiter.ownsSlot_iff (a : Arbiter) (kind : Nat) (slot : Option Nat) (r : ArbReq) :
    a.ownsSlot kind slot r ↔ ownerIs kind (a.slotEntry slot) r = true := by
  cases slot with
  | none =>
    have hunowned : (a.slotEntry none).getLsbD 15 = false := BitVec.getLsbD_zero
    have hnobody : ownerIs kind (a.slotEntry none) r = false := by rw [ownerIs, hunowned, Bool.false_and, Bool.false_and]
    exact iff_of_false (fun ⟨_, hm, _⟩ => Option.some_ne_none _ hm.symm) (Bool.eq_false_iff.1 hnobody)
  | some m => exact ⟨fun ⟨_, hm, hown⟩ => Option.some.inj hm ▸ hown, fun hown => ⟨m, rfl, hown⟩⟩

/-- The arbiter that has noted an owned slot whose owner is idle. -/
def Arbiter.ownerAbsent (a : Arbiter) (kind : Nat) (slot : Option Nat) : Arbiter :=
  match slot with
  | some m => if (a.slotEntry slot).getLsbD 15 then a.ownerIdle kind m (a.slotEntry slot) else a
  | none => a

theorem Arbiter.ownerAbsent_tallied (a : Arbiter) (kind : Nat) (slot : Option Nat) : a.Tallied (a.ownerAbsent kind slot) := by
  unfold Arbiter.ownerAbsent
  split
  · split
    · exact a.ownerIdle_tallied ..
    · rfl
  · rfl

theorem Arbiter.ownerAbsent_grantsOf (a : Arbiter) (kind : Nat) (slot : Option Nat) (source : Nat) :
    (a.ownerAbsent kind slot).grantsOf source = a.grantsOf source := by
  unfold Arbiter.ownerAbsent
  split
  · split
    · exact congrArg (fun c => (Tbl.get c source).grants) (a.ownerIdle_counts ..)
    · rfl
  · rfl

section Decision
variable {a : Arbiter} {kind : Nat} {slot : Option Nat} {may : List ArbReq} {r : ArbReq}

/-- A decision by its cases: frozen, to the owner of the slot, in the background, idle. -/
theorem Arbiter.decide'_eq (a : Arbiter) (kind : Nat) (slot : Option Nat) (may : List ArbReq) :
    a.decide' kind slot may =
      if a.freeze then { a.countWaits none with map := { a.map with frozenPeriods := a.map.frozenPeriods + 1, frozen := true } }
      else match may.find? (ownerIs kind (a.slotEntry slot)) with
        | some r => ((a.countWaits (some r)).ownedGrant slot r (r.age a.counter)).take r
        | none =>
          let b := a.ownerAbsent kind slot
          match bestReq a.counter may with
          | some r => ((b.countWaits (some r)).backgroundGrant kind slot r (r.age a.counter)).take r
          | none => { b.countWaits none with map := { b.map with idle := b.map.idle + 1 } } := rfl

theorem Arbiter.decide'_frozen (h : a.freeze = true) : a.Tallied (a.decide' kind slot may) := by
  rw [Arbiter.decide'_eq, if_pos h]
  rfl

theorem Arbiter.decide'_owned (h : a.freeze = false) (hr : may.find? (ownerIs kind (a.slotEntry slot)) = some r) :
    a.decide' kind slot may = ((a.countWaits (some r)).ownedGrant slot r (r.age a.counter)).take r := by
  simp only [Arbiter.decide'_eq, h, hr, Bool.false_eq_true, if_false]

theorem Arbiter.decide'_background (h : a.freeze = false) (hnone : may.find? (ownerIs kind (a.slotEntry slot)) = none)
    (hr : bestReq a.counter may = some r) :
    a.decide' kind slot may = (((a.ownerAbsent kind slot).countWaits (some r)).backgroundGrant kind slot r (r.age a.counter)).take r := by
  simp only [Arbiter.decide'_eq, h, hnone, hr, Bool.false_eq_true, if_false]

theorem Arbiter.decide'_idle (h : a.freeze = false) : a.Tallied (a.decide' kind slot []) := by
  simp only [Arbiter.decide'_eq, h, List.find?_nil, bestReq, Bool.false_eq_true, if_false]
  exact (a.ownerAbsent_tallied kind slot).trans rfl

/-- A request is granted: it leaves the visible ones for the data path, and its source has one grant more. -/
structure Arbiter.Grants (a c : Arbiter) (r : ArbReq) : Prop where
  tallied : a.Tallied { c with reqs := a.reqs, granted := a.granted }
  granted : c.granted = some r
  reqs : c.reqs = a.reqs.erase r
  grantsOf : c.grantsOf r.source = satAdd (a.grantsOf r.source) 1

theorem Arbiter.Tallied.grants {a b : Arbiter} (h : a.Tallied b) (hg : b.grantsOf r.source = satAdd (a.grantsOf r.source) 1) :
    a.Grants (b.take r) r where
  tallied := by unfold Arbiter.Tallied at *; rw [← h]; rfl
  granted := rfl
  reqs := by unfold Arbiter.Tallied at *; rw [← h]; rfl
  grantsOf := hg

theorem Arbiter.decide'_grants (h : a.freeze = false) (hmay : may ≠ []) :
    ∃ r ∈ may, a.Grants (a.decide' kind slot may) r ∧
      (a.ownsSlot kind slot r ∨ ((∀ x ∈ may, ¬ a.ownsSlot kind slot x) ∧ ∀ x ∈ may, x.before a.counter r = false)) := by
  simp only [Arbiter.ownsSlot_iff]
  cases howner : may.find? (ownerIs kind (a.slotEntry slot)) with
  | some r =>
    rw [Arbiter.decide'_owned h howner]
    refine ⟨r, List.mem_of_find?_eq_some howner, Arbiter.Tallied.grants ?_ ?_, .inl (List.find?_some howner)⟩
    · exact (a.countWaits_tallied _).trans (Arbiter.ownedGrant_tallied ..)
    · rw [Arbiter.ownedGrant_grantsOf, Arbiter.countWaits_grantsOf]
  | none =>
    cases hbest : bestReq a.counter may with
    | none => exact absurd ((bestReq_eq_none_iff _ _).1 hbest) hmay
    | some r =>
      obtain ⟨hmem, hmin⟩ := bestReq_spec hbest
      rw [Arbiter.decide'_background h howner hbest]
      refine ⟨r, hmem, Arbiter.Tallied.grants ?_ ?_, .inr ⟨List.find?_eq_none.1 howner, hmin⟩⟩
      · exact ((a.ownerAbsent_tallied ..).trans (Arbiter.countWaits_tallied ..)).trans (Arbiter.backgroundGrant_tallied ..)
      · rw [Arbiter.backgroundGrant_grantsOf, Arbiter.countWaits_grantsOf, Arbiter.ownerAbsent_grantsOf]

end Decision

end Sys2Proof.Machine
end

section
/-! PROOF. The instructions of the timetable arbiters (R229, R233, R235): what a turn of an arbiter leaves, then the states that
ARBITER_DECISION and STALE_REQUEST answer with. -/
namespace Sys2Proof.Machine

/-! ### A turn of an arbiter -/

theorem Arbiter.Tallied.restored {a b : Arbiter} (h : a.Tallied b) : a.Tallied { b with reqs := a.reqs, granted := a.granted } := by
  unfold Arbiter.Tallied at *
  rw [← h]

theorem Arbiter.Tallied.requests {a b : Arbiter} (h : a.Tallied b) : b.granted = a.granted ∧ b.reqs = a.reqs := by
  unfold Arbiter.Tallied at h
  rw [← h]
  exact ⟨rfl, rfl⟩

theorem Arbiter.Tallied.settings {a b : Arbiter} (h : a.Tallied b) : b.counter = a.counter ∧ b.table = a.table ∧ b.freeze = a.freeze := by
  unfold Arbiter.Tallied at h
  rw [← h]
  exact ⟨rfl, rfl, rfl⟩

/-- Whatever it decides, an arbiter changes only its requests and what it counts. -/
theorem Arbiter.decide'_frame (a : Arbiter) (kind : Nat) (slot : Option Nat) (may : List ArbReq) :
    a.Tallied { a.decide' kind slot may with reqs := a.reqs, granted := a.granted } := by
  cases hf : a.freeze with
  | true => exact (Arbiter.decide'_frozen hf).restored
  | false =>
    by_cases hmay : may = []
    · subst hmay; exact (Arbiter.decide'_idle hf).restored
    · obtain ⟨_, _, hgrants, _⟩ := Arbiter.decide'_grants (kind := kind) (slot := slot) hf hmay
      exact hgrants.tallied

theorem Arbiter.turn_frame (a : Arbiter) (kind : Nat) (slot : Option Nat) (may : List ArbReq) :
    (a.turn kind slot may).counter = a.counter + 1 ∧ (a.turn kind slot may).table = a.table ∧ (a.turn kind slot may).freeze = a.freeze := by
  obtain ⟨hcounter, htable, hfreeze⟩ := (a.decide'_frame kind slot may).settings
  exact ⟨congrArg (· + 1) hcounter, htable, hfreeze⟩

theorem Arbiter.turn_grants_none {a : Arbiter} (kind : Nat) (slot : Option Nat) {may : List ArbReq} (h : a.freeze = true ∨ may = []) :
    (a.turn kind slot may).granted = a.granted ∧ (a.turn kind slot may).reqs = a.reqs := by
  cases hf : a.freeze with
  | true => exact (Arbiter.decide'_frozen hf).requests
  | false =>
    obtain rfl := h.resolve_left (Bool.eq_false_iff.1 hf)
    exact (Arbiter.decide'_idle hf).requests

/-! ### An arbiter of the state -/

@[simp] theorem State.modArb_arb_self (s : State) (k : Nat) (f : Arbiter → Arbiter) : (s.modArb k f).arb k = f (s.arb k) := Tbl.get_mod_self ..

theorem State.modArb_arb_ne (s : State) {k j : Nat} (f : Arbiter → Arbiter) (h : j ≠ k) : (s.modArb k f).arb j = s.arb j := Tbl.get_mod_ne _ _ h

theorem State.mem_grantable (s : State) (kind plaza unit : Nat) (reqs : List ArbReq) (r : ArbReq) :
    r ∈ s.grantable kind plaza unit reqs ↔ r ∈ reqs ∧ (kind = 0 →
      ((s.pod plaza (unit * 32 + r.target)).landing.get r.lslot).complete = false ∧
      ((s.pod plaza (unit * 32 + r.target)).landing.get r.lslot).barrierRow = none) := by
  unfold State.grantable
  split
  · next hkind =>
    rw [List.mem_filter]
    refine and_congr_right fun _ => Iff.trans ?_ (forall_prop_of_true hkind).symm
    simp only [Landing.busy, Bool.not_eq_true', Bool.or_eq_false_iff, Option.isSome_eq_false_iff, Option.isNone_iff_eq_none]
  · next hkind => exact (and_iff_left fun h => absurd h hkind).symm

theorem State.arbSlot_modArb (s : State) (kind plaza unit : Nat) {f : Arbiter → Arbiter} (hf : ∀ b, (f b).slot = b.slot) :
    (s.modArb (arbIx kind plaza unit) f).arbSlot kind plaza unit = s.arbSlot kind plaza unit := by
  unfold State.arbSlot
  rw [State.modArb_arb_self, hf]
  rfl

theorem State.arbComplete_idle (s : State) {kind plaza unit : Nat} (h : (s.arb (arbIx kind plaza unit)).granted = none) :
    s.arbComplete kind plaza unit = s := by
  simp only [State.arbComplete, h]

/-! ### Stale requests (R235) -/

/-- No visible request of the arbiter has reached age 2^15 without being stale. -/
def Arbiter.NoneNewlyStale (b : Arbiter) : Prop := ∀ r ∈ b.reqs, r.age b.counter < 2 ^ 15 ∨ r.stale = true

/-- The arbiter with the requests of age 2^15 and more stale. -/
def Arbiter.marked (b : Arbiter) : Arbiter :=
  { b with reqs := b.reqs.map (fun r => { r with stale := r.stale || decide (2 ^ 15 ≤ r.age b.counter) }) }

theorem Arbiter.anyNewlyStale_iff (b : Arbiter) :
    b.reqs.any (fun r => !r.stale && decide (2 ^ 15 ≤ r.age b.counter)) = true ↔
      ∃ r ∈ b.reqs, 2 ^ 15 ≤ r.age b.counter ∧ r.stale = false := by
  simp only [List.any_eq_true, Bool.and_eq_true, Bool.not_eq_true', decide_eq_true_eq, and_comm]

theorem Arbiter.noneNewlyStale_iff (b : Arbiter) : b.NoneNewlyStale ↔ ¬ ∃ r ∈ b.reqs, 2 ^ 15 ≤ r.age b.counter ∧ r.stale = false := by
  constructor
  · rintro h ⟨r, hr, hage, hfresh⟩
    exact (h r hr).elim (Nat.not_lt.2 hage) (Bool.eq_false_iff.1 hfresh)
  · intro h r hr
    by_cases hage : r.age b.counter < 2 ^ 15
    · exact .inl hage
    · exact .inr (Bool.of_not_eq_false fun hfresh => h ⟨r, hr, Nat.not_lt.1 hage, hfresh⟩)

section Stale
variable {s : State} {kind plaza unit : Nat}

theorem State.markStale_none (h : (s.arb (arbIx kind plaza unit)).NoneNewlyStale) : s.markStale kind plaza unit = s := by
  rw [Arbiter.noneNewlyStale_iff, ← Arbiter.anyNewlyStale_iff] at h
  exact if_neg h

theorem State.markStale_some (h : ∃ r ∈ (s.arb (arbIx kind plaza unit)).reqs,
      2 ^ 15 ≤ r.age (s.arb (arbIx kind plaza unit)).counter ∧ r.stale = false) :
    s.markStale kind plaza unit = (s.modArb (arbIx kind plaza unit) Arbiter.marked).staleEvent kind plaza unit :=
  if_pos ((Arbiter.anyNewlyStale_iff _).2 h)

theorem State.staleEvent_repeated (h : arbIx kind plaza unit ∈ s.seq.once.stale) : s.staleEvent kind plaza unit = s :=
  if_pos (List.contains_iff_mem.2 h)

theorem State.staleEvent_first (h : arbIx kind plaza unit ∉ s.seq.once.stale) : s.staleEvent kind plaza unit =
    { s with seq := { s.seq with once := { s.seq.once with stale := s.seq.once.stale ++ [arbIx kind plaza unit] } } }.raise 0x2007 plaza unit
      (leBytes 2 (kind * 2 ^ 14 + plaza * 2 ^ 9 + unit)) :=
  if_neg (h ∘ List.contains_iff_mem.1)

end Stale

/-! ### ARBITER_DECISION (R233, R234) -/

/-- A new request as it becomes visible at an arbiter, stamped with the present count of periods. -/
def visibleReq (now : BitVec 16) (r : NewReq) : ArbReq :=
  { source := r.source.val, target := r.target.toNat, lslot := r.lslot.val, stamp := now, data := r.data, ext := r.ext, wide := r.wide,
    barrierRow := r.barrierRow }

theorem visibleReq_age (now : BitVec 16) (r : NewReq) : (visibleReq now r).age now = 0 := by
  rw [ArbReq.age, visibleReq, BitVec.sub_self]
  rfl

/-- The arbiter to which new requests have become visible. -/
def Arbiter.withNew (reqs : List NewReq) (b : Arbiter) : Arbiter := { b with reqs := b.reqs ++ reqs.map (visibleReq b.counter) }

theorem Arbiter.NoneNewlyStale.withNew {b : Arbiter} (h : b.NoneNewlyStale) (reqs : List NewReq) : (b.withNew reqs).NoneNewlyStale := by
  intro r hr
  rcases List.mem_append.1 hr with hr | hr
  · exact h r hr
  · obtain ⟨q, _, rfl⟩ := List.mem_map.1 hr
    exact .inl (by rw [Arbiter.withNew, visibleReq_age]; decide)

/-- The index of the arbiter that an instruction names. -/
def arbRefIx (a : ArbRef) : Nat := arbIx a.kind.val a.plaza.val a.unit.val

section Decision
variable (a : ArbRef) (reqs : List NewReq) (s : State)

/-- The arbiter that an instruction names. -/
def State.arbOf : Arbiter := s.arb (arbRefIx a)

/-- The timetable slot of its next period. -/
def State.periodSlot : Option Nat := s.arbSlot a.kind.val a.plaza.val a.unit.val

/-- The requests that its decision may grant. -/
def State.candidates : List ArbReq := s.grantable a.kind.val a.plaza.val a.unit.val ((s.arbOf a).withNew reqs).reqs

/-- The state after a decision with nothing in flight and no request newly stale. -/
def State.arbDecided : State :=
  (s.modArb (arbRefIx a) (Arbiter.withNew reqs)).modArb (arbRefIx a) (fun b => b.turn a.kind.val (s.periodSlot a) (s.candidates a reqs))

theorem arbDecided_arbOf : (s.arbDecided a reqs).arbOf a = ((s.arbOf a).withNew reqs).turn a.kind.val (s.periodSlot a) (s.candidates a reqs) :=
  (State.modArb_arb_self ..).trans (congrArg (Arbiter.turn · ..) (State.modArb_arb_self ..))

theorem arbDecided_arb_ne {j : Nat} (h : j ≠ arbRefIx a) : (s.arbDecided a reqs).arb j = s.arb j :=
  (State.modArb_arb_ne _ _ h).trans (State.modArb_arb_ne _ _ h)

variable {a reqs s}

theorem arbDecided_grants_none (hidle : (s.arbOf a).granted = none) (h : (s.arbOf a).freeze = true ∨ s.candidates a reqs = []) :
    ((s.arbDecided a reqs).arbOf a).granted = none ∧ ((s.arbDecided a reqs).arbOf a).reqs = ((s.arbOf a).withNew reqs).reqs := by
  rw [arbDecided_arbOf]
  obtain ⟨hgranted, hreqs⟩ := Arbiter.turn_grants_none (a := (s.arbOf a).withNew reqs) a.kind.val (s.periodSlot a) h
  exact ⟨hgranted.trans hidle, hreqs⟩

/-- A decision that is not frozen and has candidates grants one: an owner of the slot, or where no candidate owns it one that no other
ranks above. -/
theorem arbDecided_grants (hf : (s.arbOf a).freeze = false) (hmay : s.candidates a reqs ≠ []) :
    ∃ r ∈ s.candidates a reqs,
      ((s.arbDecided a reqs).arbOf a).granted = some r ∧
      ((s.arbDecided a reqs).arbOf a).reqs = ((s.arbOf a).withNew reqs).reqs.erase r ∧
      ((s.arbDecided a reqs).arbOf a).grantsOf r.source = satAdd ((s.arbOf a).grantsOf r.source) 1 ∧
      ((s.arbOf a).ownsSlot a.kind.val (s.periodSlot a) r ∨
        ((∀ x ∈ s.candidates a reqs, ¬ (s.arbOf a).ownsSlot a.kind.val (s.periodSlot a) x) ∧
          ∀ x ∈ s.candidates a reqs, x.before (s.arbOf a).counter r = false)) := by
  rw [arbDecided_arbOf]
  obtain ⟨r, hr, hgrants, hrank⟩ := Arbiter.decide'_grants (a := (s.arbOf a).withNew reqs) (kind := a.kind.val) (slot := s.periodSlot a) hf hmay
  exact ⟨r, hr, hgrants.granted, hgrants.reqs, hgrants.grantsOf, hrank⟩

/-! ### What the instructions answer -/

theorem arbiterDecision_absent (reqs : List NewReq) (s : State) (hex : arbExists a.kind.val a.plaza.val a.unit.val = false) :
    exec (.arbiterDecision a reqs) s = .next s :=
  if_neg (Bool.eq_false_iff.1 hex)

theorem staleRequest_absent (s : State) (hex : arbExists a.kind.val a.plaza.val a.unit.val = false) : exec (.staleRequest a) s = .next s :=
  congrArg _ (if_neg (Bool.eq_false_iff.1 hex))

theorem staleRequest_next (s : State) (hex : arbExists a.kind.val a.plaza.val a.unit.val = true) :
    exec (.staleRequest a) s = .next (s.markStale a.kind.val a.plaza.val a.unit.val) :=
  congrArg _ (if_pos hex)

theorem arbiterDecision_next (reqs : List NewReq) (hex : arbExists a.kind.val a.plaza.val a.unit.val = true)
    (hidle : (s.arbOf a).granted = none) (hfresh : (s.arbOf a).NoneNewlyStale) :
    exec (.arbiterDecision a reqs) s = .next (s.arbDecided a reqs) := by
  have hnew : ((s.modArb (arbRefIx a) (Arbiter.withNew reqs)).arb (arbRefIx a)).NoneNewlyStale := by
    rw [State.modArb_arb_self]
    exact hfresh.withNew reqs
  have hslot : (s.modArb (arbRefIx a) (Arbiter.withNew reqs)).arbSlot a.kind.val a.plaza.val a.unit.val = s.periodSlot a :=
    s.arbSlot_modArb _ _ _ fun _ => rfl
  have hturn : ∀ t, t = ((s.arbComplete a.kind.val a.plaza.val a.unit.val).modArb (arbRefIx a) (Arbiter.withNew reqs)).markStale
      a.kind.val a.plaza.val a.unit.val → exec (.arbiterDecision a reqs) s =
        .next (t.modArb (arbRefIx a) (fun b => b.turn a.kind.val (t.arbSlot a.kind.val a.plaza.val a.unit.val)
          (t.grantable a.kind.val a.plaza.val a.unit.val (t.arb (arbRefIx a)).reqs))) := by
    rintro _ rfl
    exact if_pos hex
  rw [hturn (s.modArb (arbRefIx a) (Arbiter.withNew reqs)) (by rw [s.arbComplete_idle hidle, State.markStale_none hnew]), hslot,
    State.modArb_arb_self]
  rfl

end Decision

/-- Settles O18: a decision is one turn of its arbiter (`arbiterDecision_next`, `arbDecided_grants`), and STALE_REQUEST marks what has
reached age 2^15 (`State.markStale_some`). -/
theorem arbiterDecisions : Obligations.ArbiterDecisions := by
  unfold Obligations.ArbiterDecisions
  intro a reqs s kind k b all slot landing may owner
  have hmem : ∀ r, r ∈ s.candidates a reqs ↔ may r := s.mem_grantable kind a.plaza.val a.unit.val all
  refine ⟨fun hex => ⟨arbiterDecision_absent reqs s hex, staleRequest_absent s hex⟩, fun hex hidle hfresh => ?_, fun hex hfresh => ?_,
    fun hex hstale => ?_⟩
  · obtain ⟨hcounter, htable, hfreeze⟩ := (b.withNew reqs).turn_frame kind slot (s.candidates a reqs)
    have harb := arbDecided_arbOf a reqs s
    refine ⟨s.arbDecided a reqs, arbiterDecision_next reqs hex hidle hfresh, rfl, rfl, fun j hj => arbDecided_arb_ne a reqs s hj,
      (congrArg Arbiter.counter harb).trans hcounter, (congrArg Arbiter.table harb).trans htable,
      (congrArg Arbiter.freeze harb).trans hfreeze, fun hf => arbDecided_grants_none hidle (.inl hf), fun _ hno => ?_, fun hf hsome => ?_⟩
    · exact arbDecided_grants_none hidle (.inr (List.eq_nil_iff_forall_not_mem.2 fun r hr => hno r ((hmem r).1 hr)))
    · obtain ⟨q, hq⟩ := hsome
      obtain ⟨r, hr, hgranted, hreqs, hcount, hrank⟩ := arbDecided_grants hf (List.ne_nil_of_mem ((hmem q).2 hq))
      refine ⟨r, (hmem r).1 hr, hgranted, hreqs, hcount, fun ⟨x, hx, hown⟩ => ?_, fun hno x hx => ?_⟩
      · exact hrank.resolve_right fun ⟨hnone, _⟩ => hnone x ((hmem x).2 hx) hown
      · exact (hrank.resolve_left (hno r ((hmem r).1 hr))).2 x ((hmem x).2 hx)
  · rw [staleRequest_next s hex, State.markStale_none hfresh]
  · intro marked
    rw [staleRequest_next s hex, State.markStale_some hstale]
    exact ⟨fun hk => congrArg _ (State.staleEvent_repeated hk), fun hk => congrArg _ (State.staleEvent_first hk)⟩

end Sys2Proof.Machine
end

section
/-! PROOF. The invariant of the memory: every command keeps the canonical form of the stacks' bytes and tags, and so does a step;
and the few facts about a step and the reset state that need no more. -/
namespace Sys2Proof.Machine

/-- Every command keeps the canonical form: the commands named here may write the stacks and have a `…_wf` law each, every
other one leaves them alone (`…_hm`). -/
theorem exec_keepsWf (c : Instr) {s : State} (hs : HmWf s.hm) : KeepsWf (exec c s) := by
  cases c
  case start | unpark | registerWrite | bar2Write | inputWindowPullDone | stepStart | reqRead | reqWrite | reqAtomic | drainComplete
      | journalStallResume | commitComplete | restoreDone | railCheck | thermalCheck | walkerStep | schedData | serviceCall
      | reachLoad | reachStore | reachAtomic | stageWrite | stageLoad | loadReply | regRead | mapAck | hostCommand | packageReset
      | plazaReset | shallotReset | pkgRstAssert | vddAonLoss | parkComplete | unknownCommand =>
    simp [hs]
  all_goals exact KeepsHm.wf (by simp) hs

/-- The queue is no part of the memory, and a tick leaves the memory alone. -/
theorem step_keepsWf {s : State} (hs : HmWf s.hm) : KeepsWf (step s) := by
  unfold step
  split
  · rwa [keepsWf_next, State.tick_hm]
  · next c cs _ => exact exec_keepsWf c (s := { s with pending := cs }) (by simpa using hs)

/-- Settles O56: a step runs the front command or passes time (`step_keepsWf`), and every command keeps the form (`exec_keepsWf`). -/
theorem everyStepKeepsInvariant : Obligations.EveryStepKeepsInvariant := by
  unfold Obligations.EveryStepKeepsInvariant
  intro s t hs ht
  rw [State.inv_iff] at hs ⊢
  rw [← keepsWf_next, ← ht]
  exact step_keepsWf hs

/-- Settles O55: right after reset the stacks hold no byte and no tag. -/
theorem resetMeetsInvariant : Obligations.ResetMeetsInvariant := by
  unfold Obligations.ResetMeetsInvariant
  rw [State.inv_iff, show State.reset.hm = ([], {}) by unfold State.hm; rfl]
  exact HmWf.empty

/-- Settles O52: `step` matches on the queue. -/
theorem frontCommandRuns : Obligations.FrontCommandRuns := by
  unfold Obligations.FrontCommandRuns
  intro c rest s
  rfl

/-- Settles O54: the reset state holds the defaults of its fields; the lamps' spares and the register read are evaluated. -/
theorem resetState : Obligations.ResetState := by
  unfold Obligations.ResetState
  intro s
  refine ⟨rfl, rfl, rfl, rfl, rfl, rfl, rfl, rfl, rfl, rfl, rfl, rfl, rfl, rfl, rfl, rfl, rfl, rfl, rfl, fun n _ => ⟨rfl, rfl⟩,
    fun h _ => ⟨rfl, rfl, rfl, rfl⟩, fun k => rfl, fun l hl => ?_, ?_, rfl, rfl⟩
  · decide +revert
  · decide

end Sys2Proof.Machine
end

section
/-! PROOF. The forms of slot commands that the loader refuses (R126, R148): each form spelled out, and the refusal of every other
form. -/
namespace Sys2Proof.Machine

/-! ### A slot command refuses exactly the forms that its guard leaves out -/

theorem podOpIf_refused_iff (s : State) (ok : Bool) (r : PodRef) (f : ExecCtx → Pod → Pod × List Report) {P : Prop}
    (h : ok = true ↔ ¬ P) : s.podOpIf ok r f = .refused .loaderRefuses ↔ P := by
  refine (Iff.trans ?_ (not_congr h)).trans Classical.not_not
  cases ok <;> simp [State.podOpIf, State.podOp]

theorem rowOp_refused_iff (s : State) (ok : Bool) (r : PodRef) (a : RowArgs) (env : RowEnv) (w96 : Bool) (f : ExecCtx → Pod → Nat → Pod)
    {P : Prop} (h : ok = true ↔ ¬ P) : s.rowOp ok r a env w96 f = .refused .loaderRefuses ↔ P := by
  refine (Iff.trans ?_ (not_congr h)).trans Classical.not_not
  cases ok <;> simp [State.rowOp]

/-! ### The forms -/

section Forms
variable (v : VecArgs)

theorem sForm_iff : sForm v = true ↔ ¬ (v.s = true ∧ 16 ≤ v.b.toNat) := by
  have hb : bitsOf v.b.toNat 4 8 = v.b.toNat / 16 := by rw [bitsOf_eq_div_mod]; exact Nat.mod_eq_of_lt (by omega)
  simp only [sForm, hb, Bool.or_eq_true, Bool.not_eq_true', beq_iff_eq, not_and, Nat.not_le]
  cases v.s <;> simp [Nat.div_eq_zero_iff]

theorem ctlForm_iff : ctlForm v = true ↔ v.pred = 0 ∧ v.s = false := by simp [ctlForm]

theorem mulrForm_iff : mulrForm v = true ↔ ¬ (v.s = true ∧ 16 ≤ v.b.toNat) ∧ v.w = 2 := by
  rw [mulrForm, Bool.and_eq_true, sForm_iff, beq_iff_eq]

theorem scaleForm_iff : scaleForm v = true ↔ v.s = false ∧ v.b.toNat % 2 = 0 := by simp [scaleForm, bitsOf_eq_div_mod]

theorem cmpForm_iff : cmpForm v = true ↔ ¬ (v.s = true ∧ 16 ≤ v.b.toNat) ∧ v.d.toNat % 8 ≠ 0 := by
  rw [cmpForm, Bool.and_eq_true, sForm_iff]; simp [bitsOf_eq_div_mod]

theorem noSForm_iff : noSForm v = true ↔ ¬ v.s = true := by simp [noSForm]

theorem widenForm_iff : widenForm v = true ↔ v.s = false ∧ (v.w = 0 ∨ (v.w = 1 ∧ v.q < 2)) := by simp [widenForm]

theorem funcForm_iff : funcForm v = true ↔ v.s = false ∧ v.w = 2 := by simp [funcForm]

theorem rssqForm_iff : rssqForm v = true ↔ v.s = false ∧ v.w ≠ 2 := by simp [rssqForm]

theorem gatherForm_iff : gatherForm v = true ↔ v.s = false ∧ v.b.toNat + 31 ≤ 4095 := by simp [gatherForm]

theorem scatterForm_iff : scatterForm v = true ↔ v.s = false ∧ v.d.toNat + 31 ≤ 4095 := by simp [scatterForm]

theorem zclrForm_iff : zclrForm v = true ↔ v.pred = 0 ∧ v.s = false ∧ v.b.toNat % 4 < 3 := by
  rw [zclrForm, Bool.and_eq_true, ctlForm_iff]; simp [bitsOf_eq_div_mod, and_assoc]

theorem zrcpForm_iff : zrcpForm v = true ↔ v.pred = 0 ∧ v.s = false ∧ v.d.toNat % 2 = 0 ∧ v.b.toNat % 32 ≤ 30 := by
  rw [zrcpForm, Bool.and_eq_true, Bool.and_eq_true, ctlForm_iff]; simp [bitsOf_eq_div_mod, and_assoc]

theorem predForm_iff : predForm v = true ↔ v.pred = 0 ∧ v.s = false ∧ v.d.toNat % 8 ≠ 0 := by
  rw [predForm, Bool.and_eq_true, ctlForm_iff]; simp [bitsOf_eq_div_mod, and_assoc]

end Forms

theorem srcForm_pair (a : AccArgs) (x y : AccSrc) : srcForm [x, y] a = true ↔ a.src = x ∨ a.src = y := by simp [srcForm]

theorem loadsForm_iff (w : RowArgs) :
    loadsForm w = true ↔ ∃ x, pairOf w.fpair.toNat = some x ∧ w.part.val * 64 + x.scaleBytes ≤ 512 := by
  unfold loadsForm
  cases pairOf w.fpair.toNat <;> simp

/-- Settles O51: every slot command is guarded by its form (`podOpIf_refused_iff`, `rowOp_refused_iff`), and each form is spelled
out by its `…Form_iff`. -/
theorem loaderRefusesForms : Obligations.LoaderRefusesForms := by
  unfold Obligations.LoaderRefusesForms
  intro r v a w env s refused two d3
  have vec : ∀ (ok : Bool) (f : ExecCtx → Pod → Pod × List Report) {P : Prop}, (ok = true ↔ ¬ P) →
      (s.podOpIf ok r f = .refused .loaderRefuses ↔ P) := fun ok f => podOpIf_refused_iff s ok r f
  have row : ∀ (ok w96 : Bool) (f : ExecCtx → Pod → Nat → Pod) {P : Prop}, (ok = true ↔ ¬ P) →
      (s.rowOp ok r w env w96 f = .refused .loaderRefuses ↔ P) := fun ok => rowOp_refused_iff s ok r w env
  have hbin := (sForm_iff v).trans (Classical.not_not (a := two)).symm
  have hcmp := (cmpForm_iff v).trans Classical.not_not.symm
  have hwiden := (widenForm_iff v).trans Classical.not_not.symm
  have hfunc := (funcForm_iff v).trans Classical.not_not.symm
  have hctl := (ctlForm_iff v).trans Classical.not_not.symm
  simp only [refused, exec_mulr, exec_vecScale, exec_rssq, exec_gather, exec_scatter, exec_zclr, exec_narrow96, exec_wide192, exec_out32,
    exec_accAdd96, exec_accAdd32, exec_loadw, exec_loadc, exec_loads]
  refine ⟨?_, vec _ _ ((mulrForm_iff v).trans Classical.not_not.symm), vec _ _ ((scaleForm_iff v).trans Classical.not_not.symm), ?_, ?_, ?_, ?_,
    vec _ _ ((rssqForm_iff v).trans Classical.not_not.symm), vec _ _ ((gatherForm_iff v).trans Classical.not_not.symm),
    vec _ _ ((scatterForm_iff v).trans Classical.not_not.symm), ?_, vec _ _ ((zclrForm_iff v).trans Classical.not_not.symm), ?_, ?_, ?_,
    vec _ _ (by simp [srcForm_pair, halfForm]), vec _ _ ((srcForm_pair a _ _).trans Classical.not_not.symm), vec _ _ (by simp [srcForm_pair, halfForm]),
    vec _ _ (by simp [srcForm, halfForm]), ?_, vec _ _ (by simp [srcForm, halfForm]), ?_, row _ _ _ ?_, row _ _ _ ?_,
    row _ _ _ ((loadsForm_iff w).trans Classical.not_not.symm)⟩
  · simp only [List.forall_mem_cons, exec_vecAdd, exec_vecSub, exec_adds, exec_subs, exec_mullo, exec_shl, exec_shr, exec_shru, exec_vecMin, exec_vecMax, exec_minu, exec_maxu, exec_vecAnd, exec_vecOr, exec_vecXor, exec_vecSel]
    exact ⟨vec _ _ hbin, vec _ _ hbin, vec _ _ hbin, vec _ _ hbin, vec _ _ hbin, vec _ _ hbin, vec _ _ hbin, vec _ _ hbin, vec _ _ hbin,
      vec _ _ hbin, vec _ _ hbin, vec _ _ hbin, vec _ _ hbin, vec _ _ hbin, vec _ _ hbin, vec _ _ hbin, List.forall_mem_nil _⟩
  · simp only [List.forall_mem_cons, exec_cmpeq, exec_cmplt, exec_cmpltu]
    exact ⟨vec _ _ hcmp, vec _ _ hcmp, vec _ _ hcmp, List.forall_mem_nil _⟩
  · simp only [List.forall_mem_cons, exec_clz, exec_rsum, exec_rmax, exec_rmin, exec_topk]
    exact ⟨vec _ _ (noSForm_iff v), vec _ _ (noSForm_iff v), vec _ _ (noSForm_iff v), vec _ _ (noSForm_iff v), vec _ _ (noSForm_iff v),
      List.forall_mem_nil _⟩
  · simp only [List.forall_mem_cons, exec_widen, exec_widenu, exec_narrow]
    exact ⟨vec _ _ hwiden, vec _ _ hwiden, vec _ _ hwiden, List.forall_mem_nil _⟩
  · simp only [List.forall_mem_cons, exec_fexp2, exec_flog2, exec_frcp, exec_frsq, exec_ftanh, exec_fsigm, exec_fsgate]
    exact ⟨vec _ _ hfunc, vec _ _ hfunc, vec _ _ hfunc, vec _ _ hfunc, vec _ _ hfunc, vec _ _ hfunc, vec _ _ hfunc, List.forall_mem_nil _⟩
  · simp only [List.forall_mem_cons, exec_ldk, exec_zout, exec_zacc, exec_tkmerge, exec_tkout, exec_tkclr, exec_rowsel]
    exact ⟨vec _ _ hctl, vec _ _ hctl, vec _ _ hctl, vec _ _ hctl, vec _ _ hctl, vec _ _ hctl, vec _ _ hctl, List.forall_mem_nil _⟩
  · have hz := (zrcpForm_iff v).trans Classical.not_not.symm
    simp only [List.forall_mem_cons, exec_zrcp, exec_zrsq]
    exact ⟨vec _ _ hz, vec _ _ hz, List.forall_mem_nil _⟩
  · have hp := (predForm_iff v).trans Classical.not_not.symm
    simp only [List.forall_mem_cons, exec_pset, exec_pld]
    exact ⟨vec _ _ hp, vec _ _ hp, List.forall_mem_nil _⟩
  · have hs : srcForm [.accs, .lanes] a = true ↔ ¬ ¬ (a.src = .accs ∨ a.src = .lanes) := (srcForm_pair a _ _).trans Classical.not_not.symm
    simp only [List.forall_mem_cons, exec_accClear, exec_accSnap]
    exact ⟨vec _ _ hs, vec _ _ hs, List.forall_mem_nil _⟩
  · have hs : srcForm [.accs] a = true ↔ ¬ a.src ≠ .accs := by simp [srcForm]
    simp only [List.forall_mem_cons, exec_accAdd192, exec_load192]
    exact ⟨vec _ _ hs, vec _ _ hs, List.forall_mem_nil _⟩
  · have hw : plainRowForm w = true ↔ ¬ w.fpair ≠ 0 := by simp [plainRowForm]
    simp only [List.forall_mem_cons, exec_rowRead, exec_rowWrite, exec_rowZero]
    exact ⟨row _ _ _ hw, row _ _ _ hw, row _ _ _ hw, List.forall_mem_nil _⟩
  · simp [pairForm, Option.isSome_iff_ne_none]
  · simp [loadcForm]

end Sys2Proof.Machine
end

section
/-! PROOF. Lane arithmetic (R132, R135): each element operation as one masked row, its values taken from patterns to integers. -/
namespace Sys2Proof.Machine

/-! ### Element values -/

section Values
variable (p : Pod) (v : VecArgs) (i : Nat)

theorem uOf_add_patterns : uOf v.width (p.aS v i + p.bS v i) = (p.aU v i + p.bU v i) % 2 ^ v.width := by
  rw [← uOf_natCast]
  apply uOf_congr
  rw [Int.add_emod, aS_emod, bS_emod, ← Int.add_emod, Int.natCast_add]

theorem uOf_sub_patterns : uOf v.width (p.aS v i - p.bS v i) = (p.aU v i + 2 ^ v.width - p.bU v i) % 2 ^ v.width := by
  have hb := bU_lt p v i
  rw [← uOf_natCast]
  apply uOf_congr
  rw [Int.sub_emod, aS_emod, bS_emod, ← Int.sub_emod, show ((p.aU v i + 2 ^ v.width - p.bU v i : Nat) : Int) = (p.aU v i : Int) - p.bU v i + p2 v.width by
    rw [p2]; omega, Int.add_emod_right]

theorem uOf_mul_patterns : uOf v.width (p.aS v i * p.bS v i) = p.aU v i * p.bU v i % 2 ^ v.width := by
  rw [← uOf_natCast]
  apply uOf_congr
  rw [Int.mul_emod, aS_emod, bS_emod, ← Int.mul_emod, Int.natCast_mul]

theorem uOf_shl_pattern (n : Nat) : uOf v.width (p.aS v i * p2 n) = p.aU v i * 2 ^ n % 2 ^ v.width := by
  rw [← uOf_natCast]
  apply uOf_congr
  rw [Int.mul_emod, aS_emod, ← Int.mul_emod, Int.natCast_mul]
  rfl

theorem shl_past_width {n : Nat} (a : Nat) (h : v.width ≤ n) : a * 2 ^ n % 2 ^ v.width = 0 :=
  Nat.mod_eq_zero_of_dvd (Nat.dvd_trans (Nat.pow_dvd_pow 2 h) (Nat.dvd_mul_left _ a))

theorem aS_range : - p2 (v.width - 1) ≤ p.aS v i ∧ p.aS v i < p2 (v.width - 1) := sInt_range (width_pos v) _

/-- An arithmetic shift by the width or more leaves copies of the sign. -/
theorem aS_div_past_width {n : Nat} (h : v.width ≤ n) : p.aS v i / p2 n = if p.aS v i < 0 then -1 else 0 := by
  obtain ⟨hlo, hhi⟩ := aS_range p v i
  have hn : p2 (v.width - 1) ≤ p2 n := p2_mono (by omega)
  have hpos := p2_pos n
  split
  · next hneg => rw [Int.ediv_eq_iff_of_pos hpos]; omega
  · next hneg => exact Int.ediv_eq_zero_of_lt (by omega) (by omega)

theorem aS_div_min (n : Nat) : p.aS v i / p2 (min n v.width) = p.aS v i / p2 n := by
  by_cases h : n ≤ v.width
  · rw [Nat.min_eq_left h]
  · rw [Nat.min_eq_right (by omega), aS_div_past_width p v i (Nat.le_refl _), aS_div_past_width p v i (by omega)]

theorem shru_past_width {n : Nat} (h : v.width ≤ n) : p.aU v i / 2 ^ n = 0 :=
  Nat.div_eq_of_lt (Nat.lt_of_lt_of_le (aU_lt p v i) (Nat.pow_le_pow_right (by decide) h))

end Values

/-! ### The commands -/

section Commands
variable (r : PodRef) (v : VecArgs) (s : State)

/-- A plain element operation is one masked row at t + 3. -/
theorem bin_rowResult (h : binForm v = true) (f : Pod → Nat → Nat) (val : Nat → Nat → Prop)
    (hv : ∀ i, val i (f (s.podOf r) i % 2 ^ v.width)) :
    RowResult s r (s.beatOf r + 3) v.d v.width v.count val (enabledBits (s.podOf r) v.pred v.width) []
      (s.podOpIf (binForm v) r (fun ctx q => q.vecBin ctx v (f q))) := by
  rw [podOpIf_true s h]
  exact rowResult_vecWrite s r 2 v _ _ (width_pos v) (count_width v) _ _ (fun i _ => hv i) []

/-- The value that a clamp to `w` bits leaves of an exact one (R132). -/
abbrev clampedTo (w : Nat) (x : Int) : Int := max (- p2 (w - 1)) (min (p2 (w - 1) - 1) x)

/-- A clamping operation on `n` elements of `w` bits is one masked row at t + 3, and its clamps are reported. -/
theorem clamp_rowResult {ok : Bool} (h : ok = true) (w n : Nat) (hw : 0 < w) (hn : n * w = 4096) (f : Pod → Nat → Int) :
    RowResult s r (s.beatOf r + 3) v.d w n (fun i x => x = uOf w (clampedTo v.width (f (s.podOf r) i)))
      (enabledBits (s.podOf r) v.pred w)
      (clampsOf (s.podOf r) v.d (countOf n (fun i => (s.podOf r).enabled v.pred (i * w / 8) &&
        decide (clampedTo v.width (f (s.podOf r) i) ≠ f (s.podOf r) i))))
      (s.podOpIf ok r (fun ctx q => (q.vecWrite ctx 2 v w n (fun i => uOf w (clampW v.width (f q i))),
        q.clampReports v (q.clampCount v.pred w n 0 v.width (f q))))) := by
  rw [podOpIf_true s h]
  simp only [clampReports_eq, clampCount_eq, clampW_eq, Nat.zero_add]
  exact rowResult_vecWrite s r 2 v w n hw hn _ _ (fun i _ => uOf_mod _ _) _

/-- The mask of one element: all its bits, or none. -/
theorem testBit_mask (on : Bool) {w k : Nat} (hk : k < w) : (if on = true then 2 ^ w - 1 else 0).testBit k = on := by
  cases on <;> simp [hk]

/-- The elements that NARROW writes are those of one quarter or half (R132). -/
theorem narrow_rowResult (h : widenForm v = true) :
    let q := s.podOf r
    let row := fun (i : Nat) => rowS 32 i (q.rowA v)
    RowResult s r (s.beatOf r + 3) v.d v.width v.count
      (fun i x => 128 * v.q ≤ i → i < 128 * v.q + 128 → x = uOf v.width (clampedTo v.width (row (i - 128 * v.q))))
      (fun b => decide (128 * v.q ≤ b / v.width) && decide (b / v.width < 128 * v.q + 128) && enabledBits q v.pred v.width b)
      (clampsOf q v.d (countOf 128 (fun i => q.enabled v.pred ((128 * v.q + i) * v.width / 8) &&
        decide (clampedTo v.width (row i) ≠ row i))))
      (exec (.narrow r v) s) := by
  intro q row
  have hw := width_pos v
  have hn := Nat.le_of_eq (count_width v)
  rw [exec_narrow, execNarrow, podOpIf_true s h]
  simp only [Pod.vNarrow, clampReports_eq, clampCount_eq, clampW_eq]
  refine ⟨_, _, fun i hi hlo hhi => ?_, fun b hb => ?_, rfl⟩
  · rw [rowU_rowOf _ _ hw hn _ _ hi, decide_eq_true hlo, decide_eq_true hhi]
    exact uOf_mod _ _
  · rw [rowOf_getLsbD _ _ hw hn, count_width, decide_eq_true hb, Bool.true_and]
    exact testBit_mask _ (Nat.mod_lt _ hw)

end Commands

theorem bitsOf_zero (x n : Nat) : bitsOf x 0 n = x % 2 ^ n := by rw [bitsOf_eq_div_mod, Nat.pow_zero, Nat.div_one]

/-- SCALE's j is even, so that K(j + 1) is a register (R132). -/
theorem scaleVal_eq (p : Pod) (v : VecArgs) (h : v.b.toNat % 2 = 0) (i : Nat) :
    p.scaleVal v i = rne (rowS 32 i (p.rowA v) * p.kS (v.b.toNat % 16)) (((p.k.get (v.b.toNat % 16 + 1)).toNat % 128 : Nat) : Int) := by
  have hj : bitsOf v.b.toNat 0 4 = v.b.toNat % 16 := bitsOf_zero _ 4
  have hn : ∀ k : Word, bitsOf k.toNat 0 7 = k.toNat % 128 := fun k => bitsOf_zero _ 7
  simp only [Pod.scaleVal, hj, hn, Nat.mod_eq_of_lt (show v.b.toNat % 16 + 1 < 16 by omega)]

/-- Settles O1: the plain operations by `bin_rowResult` and the value of each pattern, the clamping ones by `clamp_rowResult`. -/
theorem vecArithmetic : Obligations.VecArithmetic := by
  unfold Obligations.VecArithmetic
  refine ⟨fun r v s h => ?_, fun r v s => ?_⟩
  · intro q W res
    have bin := fun f val hv => bin_rowResult r v s h f val hv
    simp only [res, exec_vecAdd, exec_vecSub, exec_mullo, exec_shl, exec_shr, exec_shru, exec_vecMin, exec_vecMax, exec_minu, exec_maxu,
      exec_vecAnd, exec_vecOr, exec_vecXor]
    have ha : ∀ i, q.aU v i % 2 ^ W = q.aU v i := fun i => Nat.mod_eq_of_lt (aU_lt q v i)
    have hb : ∀ i, q.bU v i % 2 ^ W = q.bU v i := fun i => Nat.mod_eq_of_lt (bU_lt q v i)
    refine ⟨bin _ _ fun i => ?_, bin _ _ fun i => ?_, bin _ _ fun i => ?_, bin _ _ fun i => ?_, bin _ _ fun i => ?_, bin _ _ fun i => ?_,
      bin _ _ fun i => ?_, bin _ _ fun i => ?_, bin _ _ fun i => ?_, bin _ _ fun i => ?_, bin _ _ fun i => ?_, bin _ _ fun i => ?_,
      bin _ _ fun i => ?_⟩
    · rw [Nat.mod_mod, uOf_add_patterns]
    · rw [Nat.mod_mod, uOf_sub_patterns]
    · rw [Nat.mod_mod, uOf_mul_patterns]
    · rw [uOf_shl_pattern]
      split
      · next hn => rw [shl_past_width v _ hn, Nat.zero_mod]
      · exact Nat.mod_mod _ _
    · rw [uOf_mod, aS_div_min]
    · split
      · next hn => rw [shru_past_width q v i hn, Nat.zero_mod]
      · exact Nat.mod_eq_of_lt (Nat.lt_of_le_of_lt (Nat.div_le_self _ _) (aU_lt q v i))
    · rw [apply_ite (· % 2 ^ W), ha, hb, apply_ite (sInt W), Int.min_def]
      change (if q.bS v i < q.aS v i then q.bS v i else q.aS v i) = _
      split <;> split <;> omega
    · rw [apply_ite (· % 2 ^ W), ha, hb, apply_ite (sInt W), Int.max_def]
      change (if q.aS v i < q.bS v i then q.bS v i else q.aS v i) = _
      split <;> split <;> omega
    · exact Nat.mod_eq_of_lt (Nat.lt_of_le_of_lt (Nat.min_le_left _ _) (aU_lt q v i))
    · exact Nat.mod_eq_of_lt (Nat.max_lt.2 ⟨aU_lt q v i, bU_lt q v i⟩)
    · intro b
      rw [Nat.mod_eq_of_lt (Nat.and_lt_two_pow _ (bU_lt q v i)), Nat.testBit_and]
    · intro b
      rw [Nat.mod_eq_of_lt (Nat.or_lt_two_pow (aU_lt q v i) (bU_lt q v i)), Nat.testBit_or]
    · intro b
      rw [Nat.mod_eq_of_lt (Nat.xor_lt_two_pow (aU_lt q v i) (bU_lt q v i)), Nat.testBit_xor]
  · intro q W clamped row j scaled res
    have clamp := fun {ok : Bool} (h : ok = true) f => clamp_rowResult r v s h W v.count (width_pos v) (count_width v) f
    have hc : 4096 / W = v.count := rfl
    simp only [res, exec_adds, exec_subs, exec_mulr, exec_vecScale, hc]
    refine ⟨fun h => clamp h (fun q i => q.aS v i + q.bS v i), fun h => clamp h (fun q i => q.aS v i - q.bS v i),
      fun h => clamp h (fun q i => rne (q.aS v i * q.bS v i) 30), fun h => ?_, narrow_rowResult r v s⟩
    have hj : v.b.toNat % 2 = 0 := ((scaleForm_iff v).1 h).2
    have hscaled : q.scaleVal v = scaled := funext (scaleVal_eq q v hj)
    rw [← hscaled]
    exact clamp_rowResult r v s h 32 128 (by decide) rfl (fun q => q.scaleVal v)

end Sys2Proof.Machine
end

section
/-! PROOF. Predicate writes (R133, R134) and the lane functions (R137, R138): bits of a compare's result, one masked row for each
function, and the corners that the spec states. -/
namespace Sys2Proof.Machine

/-! ### Predicate registers -/

theorem eight_dvd_width (v : VecArgs) : 8 ∣ v.width := by
  unfold VecArgs.width; split
  · decide
  · split <;> decide

theorem mul_width_div (v : VecArgs) (i : Nat) : i * v.width / 8 = i * (v.width / 8) := Nat.mul_div_assoc i (eight_dvd_width v)

/-- A row has 512 bytes, whatever the width of its elements. -/
theorem count_bytes (v : VecArgs) : v.count * (v.width / 8) = 512 := by rw [← mul_width_div, count_width]

/-- The predicate that a compare writes: each bit of an element's bytes takes its result where it is enabled (R134). -/
theorem cmpBits_getLsbD (p : Pod) (v : VecArgs) (f : Nat → Bool) {b : Nat} (hb : b < 512) :
    (BitVec.ofNat 512 (packN (v.width / 8) (fun i =>
      if p.enabled v.pred (i * v.width / 8) && f i then 2 ^ (v.width / 8) - 1 else 0) v.count)).getLsbD b =
      (p.enabled v.pred (b / (v.width / 8) * (v.width / 8)) && f (b / (v.width / 8))) := by
  have hw : 0 < v.width / 8 := Nat.pos_of_mul_pos_left (by rw [count_bytes]; decide : 0 < v.count * (v.width / 8))
  rw [BitVec.getLsbD_ofNat, packN_testBit _ hw, count_bytes, decide_eq_true hb, Bool.true_and, Bool.true_and, mul_width_div]
  exact testBit_mask _ (Nat.mod_lt _ hw)

/-- PSET's combination `f` of two predicates (R133). -/
def psetBits (f : Nat) (a b : BitVec 512) : BitVec 512 :=
  if f = 0 then a &&& b else if f = 1 then a ||| b else if f = 2 then a &&& ~~~ b else a ^^^ b

theorem psetBits_getLsbD (f : Nat) (a b : BitVec 512) {i : Nat} (hi : i < 512) : (psetBits f a b).getLsbD i =
    if f = 0 then a.getLsbD i && b.getLsbD i else if f = 1 then a.getLsbD i || b.getLsbD i
      else if f = 2 then a.getLsbD i && !b.getLsbD i else Bool.xor (a.getLsbD i) (b.getLsbD i) := by
  unfold psetBits
  repeat' split
  · exact BitVec.getLsbD_and
  · exact BitVec.getLsbD_or
  · rw [BitVec.getLsbD_and, BitVec.getLsbD_not, decide_eq_true hi, Bool.true_and]
  · exact BitVec.getLsbD_xor

section Commands
variable (r : PodRef) (v : VecArgs) (s : State)

theorem cmp_next (h : cmpForm v = true) (f : Pod → Nat → Bool) :
    ∃ pr : BitVec 512, s.podOpIf (cmpForm v) r (fun _ q => q.vCmp v (f q)) =
        .next (s.withPod r { s.podOf r with pr := (s.podOf r).pr.set (v.d.toNat % 8) pr }) ∧
      ∀ b, b < 512 → pr.getLsbD b = ((s.podOf r).enabled v.pred (b / (v.width / 8) * (v.width / 8)) && f (s.podOf r) (b / (v.width / 8))) := by
  refine ⟨_, ?_, fun b hb => cmpBits_getLsbD (s.podOf r) v (f (s.podOf r)) hb⟩
  rw [podOpIf_true s h]
  simp only [Pod.vCmp, bitsOf_zero]
  rfl

theorem pset_next (h : predForm v = true) :
    let q := s.podOf r
    let pa := q.predOf (Fin.ofNat 8 (v.a.toNat % 8))
    let pb := q.predOf (Fin.ofNat 8 (v.b.toNat % 8))
    let f := v.b.toNat / 16 % 4
    exec (.pset r v) s = .next (s.withPod r { q with pr := q.pr.set (v.d.toNat % 8) (psetBits f pa pb) }) := by
  rw [exec_pset, execPset, podOpIf_true s h]
  simp only [Pod.vPset, bitsOf_eq_div_mod, Nat.pow_zero, Nat.div_one]
  rfl

theorem pld_next (h : predForm v = true) :
    let q := s.podOf r
    exec (.pld r v) s = .next (s.withPod r { q with pr := q.pr.set (v.d.toNat % 8) ((q.rowA v).setWidth 512) }) := by
  rw [exec_pld, execPld, podOpIf_true s h]
  simp only [Pod.vPld, bitsOf_zero]
  rfl

/-- FUNC is one masked row of words at t + 9, and its enabled inputs outside the domain are counted (R137). -/
theorem func_rowResult (h : funcForm v = true) (f : Nat → Int × Bool) :
    RowResult s r (s.beatOf r + 9) v.d 32 128 (fun i x => x = uOf 32 (f (rowU 32 i ((s.podOf r).rowA v))).1)
      (enabledBits (s.podOf r) v.pred 32)
      (let n := countOf 128 (fun i => (s.podOf r).enabled v.pred (4 * i) && (f (rowU 32 i ((s.podOf r).rowA v))).2)
       if n = 0 then [] else [.vecDomain n]) (s.podOpIf (funcForm v) r (fun ctx q => q.vFunc ctx v f)) := by
  rw [podOpIf_true s h]
  simp only [Pod.vFunc, length_filter_upto]
  exact rowResult_vecWrite s r 8 v 32 128 (by decide) rfl _ _ (fun i _ => uOf_mod _ _) _

end Commands

/-! ### The corners of the functions (R137, R138) -/

/-- At the start of a segment the polynomial is its first coefficient. -/
theorem poly_zero (fn seg : Nat) : poly fn seg 0 = romC fn seg 0 := by
  have hstage : ∀ a c, polyStage a ((0 : Nat) : Int) c = c := fun a c => by
    rw [polyStage, Int.natCast_zero, Int.mul_zero, Int.zero_add, Int.ediv_eq_zero_of_lt (by decide) (by decide), Int.zero_add]
  simp only [poly, hstage]

theorem rne_zero_shift (x : Int) : rne x 0 = x := by
  rw [rne, roundShift, if_pos (Int.le_refl 0)]
  exact Int.mul_one x

theorem fexp2_zero : fexp2 0 = (p2 30, false) := by
  have hpoly : poly 0 0 0 = p2 30 := poly_zero 0 0
  have hneg : ¬ (0 : Int) < -32 * p2 24 := by decide
  simp only [fexp2, Int.lt_irrefl, if_false, if_neg hneg, Int.zero_ediv, Int.zero_emod, Int.toNat_zero, Nat.zero_div, Nat.zero_mod,
    Nat.zero_mul, hpoly, Int.neg_zero, rne_zero_shift, decide_false]

theorem fexp2_pos {x : Int} (h : 0 < x) : fexp2 x = ((fexp2 0).1, true) := by
  simp only [fexp2, if_pos h, Int.lt_irrefl, if_false, decide_eq_true h]
  rfl

theorem fexp2_below {x : Int} (h : x < -32 * p2 24) : fexp2 x = (0, false) := by
  have hpos : ¬ 0 < x := by have := p2_pos 24; omega
  simp only [fexp2, if_neg hpos, if_pos h, decide_eq_false hpos]

theorem frcp_outside {m : Nat} (h0 : 0 < m) (h : m < 2 ^ 30 ∨ 2 ^ 31 ≤ m) : frcp m = (0, true) := by
  rw [frcp, if_neg (by omega), if_neg (by omega)]

theorem frsq_outside {m : Nat} (h0 : 0 < m) (h : m < 2 ^ 29 ∨ 2 ^ 31 ≤ m) : frsq m = (0, true) := by
  rw [frsq, if_neg (by omega), if_neg (by omega)]

theorem ftanh_high {x : Int} (h : 16 * p2 16 ≤ x) : ftanh x = (p2 30, false) := if_pos h

theorem ftanh_low {x : Int} (h : x ≤ -16 * p2 16) : ftanh x = (- p2 30, false) := by
  have := p2_pos 16
  rw [ftanh, if_neg (by omega), if_pos h]

/-- FTANH takes one polynomial on the absolute value within ±16, and its sign from the input. -/
theorem ftanh_neg {x : Int} (h0 : x ≠ 0) : (ftanh (-x)).1 = -(ftanh x).1 := by
  rcases Int.lt_or_le x (16 * p2 16) with hhi | hhi
  · rcases Int.lt_or_le (-16 * p2 16) x with hlo | hlo
    · simp only [ftanh, if_neg (show ¬ 16 * p2 16 ≤ x by omega), if_neg (show ¬ x ≤ -16 * p2 16 by omega),
        if_neg (show ¬ 16 * p2 16 ≤ -x by omega), if_neg (show ¬ -x ≤ -16 * p2 16 by omega), Int.natAbs_neg]
      rcases Int.lt_or_gt_of_ne h0 with hs | hs
      · rw [if_pos (by omega), if_neg (by omega), Int.neg_neg]
      · rw [if_neg (by omega), if_pos (by omega)]
    · rw [ftanh_low hlo, ftanh_high (by omega), Int.neg_neg]
  · rw [ftanh_high hhi, ftanh_low (by omega)]

theorem fsigm_inside {x : Int} (hlo : -32 * p2 16 ≤ x) (hhi : x < 32 * p2 16) :
    (fsigm x).1 = if 0 ≤ x then poly 5 (x.natAbs / 2 ^ 12) (x.natAbs % 2 ^ 12 * 2 ^ 12)
      else p2 30 - poly 5 (x.natAbs / 2 ^ 12) (x.natAbs % 2 ^ 12 * 2 ^ 12) := by
  rw [fsigm, if_neg (by omega), if_neg (by omega)]

theorem fsigm_add_neg {x : Int} (h0 : 0 < x) (h : x < 32 * p2 16) : (fsigm x).1 + (fsigm (-x)).1 = p2 30 := by
  rw [fsigm_inside (by omega) h, fsigm_inside (by omega) (by omega), if_pos (by omega), if_neg (by omega), Int.natAbs_neg]
  omega

theorem fsigm_zero : (fsigm 0).1 = p2 29 := by
  rw [fsigm_inside (by decide) (by decide), if_pos (Int.le_refl 0)]
  exact poly_zero 5 0

theorem fsgate_inside {x : Int} (hlo : -32 * p2 16 ≤ x) (hhi : x < 32 * p2 16) : (fsgate x).1 = rne (x * (fsigm x).1) 30 := by
  rw [fsgate, if_neg (by omega), if_neg (by omega)]

/-- Settles O3: compares, PSET and PLD set one register (`cmp_next`, `pset_next`, `pld_next`), FUNC is one masked row
(`func_rowResult`), and the corners are those of the functions' definitions. -/
theorem vecPredicatesAndFunctions : Obligations.VecPredicatesAndFunctions := by
  unfold Obligations.VecPredicatesAndFunctions
  refine ⟨fun r v s => ?_, fun r v s h => ?_, fun x => fexp2_pos, fun x => fexp2_below, fexp2_zero, rfl, fun m => frcp_outside,
    fun m => frsq_outside, fun x => ftanh_neg, fun x => ftanh_high, fun x => fsigm_add_neg, fsigm_zero, fun x => fsgate_inside⟩
  · intro q W d bit elem en pa pb f
    simp only [bit, exec_cmpeq, exec_cmplt, exec_cmpltu]
    refine ⟨fun h => ⟨?_, ?_, ?_⟩, fun h => ⟨⟨_, pset_next r v s h, fun b hb => ?_⟩, ⟨_, pld_next r v s h, fun b hb => ?_⟩⟩⟩
    · exact cmp_next r v s h (fun q i => q.aU v i == q.bU v i)
    · exact cmp_next r v s h (fun q i => decide (q.aS v i < q.bS v i))
    · exact cmp_next r v s h (fun q i => decide (q.aU v i < q.bU v i))
    · exact psetBits_getLsbD f pa pb hb
    · rw [BitVec.getLsbD_setWidth, decide_eq_true hb, Bool.true_and]
  · intro q res
    simp only [res, exec_fexp2, exec_flog2, exec_frcp, exec_frsq, exec_ftanh, exec_fsigm, exec_fsgate]
    have func := func_rowResult r v s h
    exact ⟨func (funcOf fexp2), func flog2, func frcp, func frsq, func (funcOf ftanh), func (funcOf fsigm), func (funcOf fsgate)⟩

end Sys2Proof.Machine
end

section
/-! PROOF. Reductions into Z registers and the reads of Z registers (R132, R133, R136, R141): sums and extremes of the enabled
elements, runs of registers, and the row of ZOUT. -/
namespace Sys2Proof.Machine

/-! ### Tables whose entries are changed one by one -/

section Tables
variable {α : Type} [Inhabited α] [DecidableEq α]

theorem Tbl.get_mod (t : Tbl α) (k i : Nat) (f : α → α) : (t.mod k f).get i = if i = k then f (t.get i) else t.get i := by
  rw [Tbl.mod, Tbl.get_set]
  split
  · next h => rw [h]
  · rfl

theorem Tbl.get_foldl_mod (t : Tbl α) (f : Nat → α → α) {l : List Nat} (hl : l.Nodup) (i : Nat) :
    (l.foldl (fun a k => a.mod k (f k)) t).get i = if i ∈ l then f i (t.get i) else t.get i := by
  induction l generalizing t with
  | nil => rfl
  | cons k l ih =>
    obtain ⟨hk, hl⟩ := List.nodup_cons.1 hl
    rw [List.foldl_cons, ih _ hl, Tbl.get_mod]
    by_cases hi : i = k
    · subst hi; simp [hk]
    · simp [hi]

theorem Tbl.get_foldl_mod_upto (t : Tbl α) (f : Nat → α → α) (n i : Nat) :
    ((upto n).foldl (fun a k => a.mod k (f k)) t).get i = if i < n then f i (t.get i) else t.get i := by
  rw [Tbl.get_foldl_mod _ _ (show (upto n).Nodup from List.nodup_range)]
  simp only [upto_mem]

end Tables

/-! ### Sums and extremes -/

theorem sumI_eq_sum (l : List Int) : sumI l = l.sum := by
  induction l with
  | nil => rfl
  | cons x l ih => rw [sumI, List.sum_cons, ih]

theorem enElems_eq (p : Pod) (v : VecArgs) :
    p.enElems v = ((List.range v.count).filter (fun i => p.enabled v.pred (i * v.width / 8))).map (p.aS v) := by
  unfold Pod.enElems
  rw [upto_eq_range, ← List.filterMap_eq_map, List.filterMap_filter]
  rfl

theorem mem_enElems {p : Pod} {v : VecArgs} {x : Int} :
    x ∈ p.enElems v ↔ ∃ i, i < v.count ∧ p.enabled v.pred (i * v.width / 8) = true ∧ x = p.aS v i := by
  simp only [enElems_eq, List.mem_map, List.mem_filter, List.mem_range, and_assoc, eq_comm]

/-- Picking one of two values, from a start through a list, ends in the start or an element, and `R`-above them all. -/
theorem foldl_pick {R : Int → Int → Prop} {f : Int → Int → Int} (hpick : ∀ m x, f m x = m ∨ f m x = x) (hl : ∀ m x, R m (f m x))
    (hr : ∀ m x, R x (f m x)) (hrefl : ∀ m, R m m) (htrans : ∀ x y z, R x y → R y z → R x z) (l : List Int) (z : Int) :
    R z (l.foldl f z) ∧ (∀ x ∈ l, R x (l.foldl f z)) ∧ (l.foldl f z = z ∨ l.foldl f z ∈ l) := by
  induction l generalizing z with
  | nil => exact ⟨hrefl z, fun _ h => absurd h List.not_mem_nil, .inl rfl⟩
  | cons y l ih =>
    obtain ⟨hz, hall, hmem⟩ := ih (f z y)
    rw [List.foldl_cons]
    refine ⟨htrans _ _ _ (hl z y) hz, List.forall_mem_cons.2 ⟨htrans _ _ _ (hr z y) hz, hall⟩, ?_⟩
    rcases hmem with h | h
    · rw [h]
      exact (hpick z y).imp_right fun hy => by rw [hy]; exact List.mem_cons_self
    · exact .inr (List.mem_cons_of_mem _ h)

/-- RMAX's value: the largest of the register and the enabled elements (R132). -/
theorem enElems_max (p : Pod) (v : VecArgs) (z : Int) :
    let m := (p.enElems v).foldl (fun m x => if m < x then x else m) z
    z ≤ m ∧ (∀ i, i < v.count → p.enabled v.pred (i * v.width / 8) = true → p.aS v i ≤ m) ∧
      (m = z ∨ ∃ i, i < v.count ∧ p.enabled v.pred (i * v.width / 8) = true ∧ m = p.aS v i) := by
  intro m
  obtain ⟨hz, hall, hmem⟩ := foldl_pick (R := (· ≤ ·)) (f := fun m x => if m < x then x else m) (fun m x => by grind) (fun m x => by grind)
    (fun m x => by grind) Int.le_refl (fun _ _ _ => Int.le_trans) (p.enElems v) z
  exact ⟨hz, fun i hi he => hall _ (mem_enElems.2 ⟨i, hi, he, rfl⟩), hmem.imp_right mem_enElems.1⟩

/-- RMIN's value: the smallest of the register and the enabled elements (R132). -/
theorem enElems_min (p : Pod) (v : VecArgs) (z : Int) :
    let m := (p.enElems v).foldl (fun m x => if x < m then x else m) z
    m ≤ z ∧ (∀ i, i < v.count → p.enabled v.pred (i * v.width / 8) = true → m ≤ p.aS v i) ∧
      (m = z ∨ ∃ i, i < v.count ∧ p.enabled v.pred (i * v.width / 8) = true ∧ m = p.aS v i) := by
  intro m
  obtain ⟨hz, hall, hmem⟩ := foldl_pick (R := (· ≥ ·)) (f := fun m x => if x < m then x else m) (fun m x => by grind) (fun m x => by grind)
    (fun m x => by grind) Int.le_refl (fun _ _ _ hxy hyz => Int.le_trans hyz hxy) (p.enElems v) z
  exact ⟨hz, fun i hi he => hall _ (mem_enElems.2 ⟨i, hi, he, rfl⟩), hmem.imp_right mem_enElems.1⟩

/-- An addition into a Z register sets the flag where the exact sum leaves 64 bits (R136). -/
theorem ZReg.add_eq (z : ZReg) (t : Int) : z.add t =
    { v := BitVec.ofInt 64 (z.v.toInt + t), ovf := z.ovf || !decide (- p2 63 ≤ z.v.toInt + t ∧ z.v.toInt + t < p2 63) } := by
  rw [ZReg.add, Bool.or_assoc, ← Bool.decide_or, ← decide_not]
  congr 3
  rw [eq_iff_iff]
  omega

/-! ### Registers that a row loads -/

/-- ZACC changes each of the eight registers by its own row value (R133). -/
theorem vZacc_get (p : Pod) (v : VecArgs) (i : Nat) :
    (p.vZacc v).1.z.get i = if i < 8 then
      (if v.b.toNat % 2 = 1 then { p.z.get i with v := BitVec.ofInt 64 (max (p.z.get i).v.toInt (rowS 64 i (p.rowA v))) }
        else (p.z.get i).add (rowS 64 i (p.rowA v)))
      else p.z.get i := by
  have hbit : bitAt v.b.toNat 0 = decide (v.b.toNat % 2 = 1) := by rw [bitAt, bitsOf_zero]; rfl
  simp only [Pod.vZacc]
  rw [Tbl.get_foldl_mod_upto, hbit]
  simp only [decide_eq_true_eq, zMax, List.foldl_cons, List.foldl_nil, Int.max_def]
  (repeat' split) <;> grind

/-- LDK loads four K registers from four words of a row (R133). -/
theorem vLdk_get (p : Pod) (v : VecArgs) (i : Nat) :
    (p.vLdk v).1.k.get i = if 4 * (v.d.toNat % 4) ≤ i ∧ i < 4 * (v.d.toNat % 4) + 4 then
      BitVec.ofNat 32 (rowU 32 (4 * (v.b.toNat % 32) + (i - 4 * (v.d.toNat % 4))) (p.rowA v)) else p.k.get i := by
  simp only [Pod.vLdk, bitsOf_zero, Tbl.setRun_eq_updRun, Tbl.get_updRun_upto] <;> rfl

/-! ### ZOUT -/

/-- Past the packed elements a row is zero. -/
theorem rowU_rowOf_beyond {w n k : Nat} (hw : 0 < w) (hn : n * w ≤ 4096) (f : Nat → Nat) (hk : n ≤ k) : rowU w k (rowOf w n f) = 0 := by
  apply Nat.eq_of_testBit_eq
  intro i
  have := Nat.mul_le_mul_right w hk
  rw [rowU_testBit, rowOf_getLsbD w n hw hn, decide_eq_false (by omega : ¬ k * w + i < n * w), Bool.false_and, Bool.and_false,
    Nat.zero_testBit]

theorem zout_rowResult (r : PodRef) (v : VecArgs) (s : State) (h : ctlForm v = true) :
    let q := s.podOf r
    RowResult s r (s.beatOf r + 2) v.d 64 64
      (fun i x => x = if i < 8 then (q.z.get i).v.toNat else 0) (fun _ => (List.range 8).all (fun i => !(q.z.get i).ovf))
      (((List.range 8).filter (fun i => (q.z.get i).ovf)).map (fun i => .a192 (q.vecTid (s.ctx r.sh.val) v.d) i)) (exec (.zout r v) s) := by
  intro q
  rw [exec_zout, execZout, podOpIf_true s h]
  refine ⟨rowOf 64 8 (fun k => (q.z.get k).v.toNat), if q.zClean then BitVec.allOnes 4096 else 0, fun i _ => ?_, fun b hb => ?_, ?_⟩
  · dsimp only
    split
    · next hi => rw [rowU_rowOf 64 8 (by decide) (by decide) _ _ hi]; exact Nat.mod_eq_of_lt (BitVec.isLt _)
    · next hi => exact rowU_rowOf_beyond (by decide) (by decide) _ (by omega)
  · change _ = q.zClean
    cases q.zClean
    · exact BitVec.getLsbD_zero
    · exact (BitVec.getLsbD_allOnes ..).trans (decide_eq_true hb)
  · rw [← List.filterMap_eq_map, List.filterMap_filter]
    rfl

/-! ### ZRCP and ZRSQ -/

theorem bitsOf_low3 (x : Nat) : bitsOf x 0 3 = x % 8 := bitsOf_zero x 3
theorem bitsOf_low4 (x : Nat) : bitsOf x 0 4 = x % 16 := bitsOf_zero x 4
theorem bitsOf_low5 (x : Nat) : bitsOf x 0 5 = x % 32 := bitsOf_zero x 5

section ZInto
variable (p : Pod) (ctx : ExecCtx) (v : VecArgs) (rsq : Bool)

theorem zInto_flagged (h : (p.z.get (v.a.toNat % 8)).ovf = true) :
    p.zInto ctx v rsq = (p, [.a192 (freeTid ctx) (v.a.toNat % 8)]) := by
  simp only [Pod.zInto, bitsOf_low3, bitsOf_low4]
  exact if_pos h

theorem zInto_nonpos (hd : v.d.toNat % 2 = 0) (h : (p.z.get (v.a.toNat % 8)).ovf = false) (hz : (p.z.get (v.a.toNat % 8)).v.toInt ≤ 0) :
    p.zInto ctx v rsq = ({ p with k := (p.k.set (v.d.toNat % 16) 0).set (v.d.toNat % 16 + 1) 0 }, [.vecDomain 1]) := by
  have hj : (v.d.toNat % 16 + 1) % 16 = v.d.toNat % 16 + 1 := Nat.mod_eq_of_lt (by omega)
  simp only [Pod.zInto, bitsOf_low3, bitsOf_low4, bitsOf_low5, hj]
  rw [if_neg (ne_true_of_eq_false h)]
  exact if_pos hz

/-- The shift that brings Zk to 31 bits, and for ZRSQ to an even exponent (R141). -/
theorem zInto_pos (hd : v.d.toNat % 2 = 0) (h : (p.z.get (v.a.toNat % 8)).ovf = false) (hz : 0 < (p.z.get (v.a.toNat % 8)).v.toInt) :
    let z := (p.z.get (v.a.toNat % 8)).v.toInt
    let L := ((bitlen z.toNat : Nat) : Int)
    let F := ((v.b.toNat % 32 : Nat) : Int)
    let even := if (L - 31) % 2 = 0 then L - 31 else L - 30
    let ks := fun (y e : Int) => { p with k := (p.k.set (v.d.toNat % 16) (BitVec.ofInt 32 y)).set (v.d.toNat % 16 + 1) (BitVec.ofInt 32 e) }
    p.zInto ctx v false = (ks (frcp (zM z (L - 31))).1 (60 + (L - 31) - F), []) ∧
      p.zInto ctx v true = (ks (frsq (zM z even)).1 (45 + even / 2 - F), []) := by
  intro z L F even ks
  have hj : (v.d.toNat % 16 + 1) % 16 = v.d.toNat % 16 + 1 := Nat.mod_eq_of_lt (by omega)
  have hsh : (if decide ((L - 31) % 2 = 1) = true then L - 30 else L - 31) = even := by
    simp only [even, decide_eq_true_eq]
    (repeat' split) <;> omega
  constructor
  · simp only [Pod.zInto, bitsOf_low3, bitsOf_low4, bitsOf_low5, hj]
    rw [if_neg (ne_true_of_eq_false h), if_neg (Int.not_le.2 hz)]
    rfl
  · simp only [Pod.zInto, bitsOf_low3, bitsOf_low4, bitsOf_low5, hj]
    rw [if_neg (ne_true_of_eq_false h), if_neg (Int.not_le.2 hz)]
    simp only [Bool.true_and, if_true]
    rw [← hsh]

end ZInto

/-- Settles O4: the sums and extremes are those of the enabled elements (`enElems_eq`, `enElems_max`, `enElems_min`), the loads change
their run of registers (`vZacc_get`, `vLdk_get`), and ZOUT, ZRCP and ZRSQ read Z registers (`zout_rowResult`, `zInto_pos`). -/
theorem vecReductionsAndZReads : Obligations.VecReductionsAndZReads := by
  unfold Obligations.VecReductionsAndZReads
  refine ⟨fun r v s => ?_, fun r v s => ?_⟩
  · intro q k z en sum zs start added
    have hk : bitsOf v.d.toNat 0 3 = k := bitsOf_zero _ 3
    simp only [zs, exec_rsum, exec_rssq, exec_rmax, exec_rmin, exec_zacc, exec_zclr, exec_ldk]
    refine ⟨fun h => ?_, fun h => ?_, fun h => ?_, fun h => ?_, fun h => ?_, fun h => ?_, fun h => ?_⟩
    · rw [execRsum, podOpIf_true s h]
      simp only [Pod.vRsum, hk, Tbl.mod, ZReg.add_eq, sumI_eq_sum, enElems_eq]
      rfl
    · rw [execRssq, podOpIf_true s h]
      simp only [Pod.vRssq, hk, Tbl.mod, ZReg.add_eq, sumI_eq_sum, enElems_eq, List.map_map]
      rfl
    · refine ⟨(q.enElems v).foldl (fun m x => if m < x then x else m) z.v.toInt, ?_, enElems_max q v z.v.toInt⟩
      rw [execRmax, podOpIf_true s h]
      simp only [Pod.vRmax, hk]
      rfl
    · refine ⟨(q.enElems v).foldl (fun m x => if x < m then x else m) z.v.toInt, ?_, enElems_min q v z.v.toInt⟩
      rw [execRmin, podOpIf_true s h]
      simp only [Pod.vRmin, hk]
      rfl
    · refine ⟨(q.vZacc v).1.z, by rw [execZacc, podOpIf_true s h]; rfl, fun i hi => ?_, fun i hi => ?_⟩
      · rw [vZacc_get, if_neg (by omega)]
      · rw [vZacc_get, if_pos hi, ZReg.add_eq]
    · rw [execZclr, podOpIf_true s h]
      simp only [Pod.vZclr, hk, bitsOf_zero, start, apply_ite (BitVec.ofInt 64)]
      rfl
    · exact ⟨(q.vLdk v).1.k, by rw [execLdk, podOpIf_true s h]; rfl, vLdk_get q v⟩
  · intro q z j F L tid m even ks none_ zeros
    refine ⟨zout_rowResult r v s, fun h => ?_⟩
    have hd : v.d.toNat % 2 = 0 := ((zrcpForm_iff v).1 h).2.2.1
    have hrun : ∀ {rsq : Bool} {q' : Pod} {reps : List Report}, q.zInto (s.ctx r.sh.val) v rsq = (q', reps) →
        s.podOpIf (zrcpForm v) r (fun ctx q => q.zInto ctx v rsq) = .next ((s.withPod r q').told r reps) := fun {rsq q' reps} hq => by
      rw [podOpIf_true s h, hq]
    simp only [none_, zeros, ks, exec_zrcp, exec_zrsq, execZrcp, execZrsq]
    refine ⟨fun hf => ⟨hrun (zInto_flagged q _ v _ hf), hrun (zInto_flagged q _ v _ hf)⟩,
      fun hf hz => ⟨hrun (zInto_nonpos q _ v _ hd hf hz), hrun (zInto_nonpos q _ v _ hd hf hz)⟩, fun hf hz => ?_⟩
    obtain ⟨hrcp, hrsq⟩ := zInto_pos q (s.ctx r.sh.val) v hd hf hz
    exact ⟨hrun hrcp, hrun hrsq⟩

end Sys2Proof.Machine
end

section
/-! PROOF. ROW operations (R108, R122, R124, R403, R404): the pod as an operation leaves it, and the cost of its tries on the bond. -/
namespace Sys2Proof.Machine

/-! ### Setting an entry twice -/

section Tables
variable {α : Type}

theorem cellsIns_cellsIns (l : List (Nat × α)) (k : Nat) (v w : α) : cellsIns (cellsIns l k w) k v = cellsIns l k v := by
  induction l with
  | nil => simp [cellsIns]
  | cons c l ih =>
    rcases Nat.lt_trichotomy k c.1 with h | h | h
    · simp [cellsIns, h]
    · simp [cellsIns, h]
    · simp [cellsIns, Nat.not_lt.2 (Nat.le_of_lt h), Nat.ne_of_lt h, ih]

theorem cellsDel_cellsIns (l : List (Nat × α)) (k : Nat) (w : α) : cellsDel (cellsIns l k w) k = cellsDel l k := by
  induction l with
  | nil => simp [cellsIns, cellsDel]
  | cons c l ih =>
    rcases Nat.lt_trichotomy k c.1 with h | h | h
    · simp [cellsIns, cellsDel, h]
    · simp [cellsIns, cellsDel, h]
    · simp [cellsIns, cellsDel, Nat.not_lt.2 (Nat.le_of_lt h), Nat.ne_of_lt h, ih]

/-- Of two values set one after the other, the first no default, the second stays. -/
theorem Tbl.set_set [Inhabited α] [DecidableEq α] (t : Tbl α) (k : Nat) {w : α} (v : α) (hw : w ≠ default) :
    (t.set k w).set k v = t.set k v := by
  unfold Tbl.set
  rw [if_neg hw]
  split
  · rw [cellsDel_cellsIns]
  · rw [cellsIns_cellsIns]

end Tables

/-! ### States that read alike -/

/-- Every field of `t` is the one of `u`, and every shallot reads as in `u`: what `Gives` asks of the state answered. -/
def State.readsAs (t u : State) : Prop := { t with sh := u.sh } = u ∧ ∀ n, t.shal n = u.shal n

theorem State.readsAs.gives {t u : State} (h : t.readsAs u) : Gives (.next t) u := ⟨t, rfl, h⟩

theorem State.readsAs_refl (t : State) : t.readsAs t := ⟨rfl, fun _ => rfl⟩

theorem State.readsAs.trans {t u v : State} (h : t.readsAs u) (h' : u.readsAs v) : t.readsAs v := by
  obtain ⟨hu, hs⟩ := h
  obtain ⟨hv, hs'⟩ := h'
  refine ⟨?_, fun n => (hs n).trans (hs' n)⟩
  rw [← hv, ← hu]

theorem State.readsAs.symm {t u : State} (h : t.readsAs u) : u.readsAs t :=
  ⟨by rw [← h.1], fun n => (h.2 n).symm⟩

theorem State.readsAs.modSh {t u : State} (h : t.readsAs u) (n : Nat) (f : Shallot → Shallot) : (t.modSh n f).readsAs (u.modSh n f) := by
  obtain ⟨hu, hs⟩ := h
  refine ⟨?_, fun m => ?_⟩
  · rw [← hu]; rfl
  · by_cases hm : m = n
    · rw [hm, State.modSh_shal_self, State.modSh_shal_self, hs]
    · rw [State.modSh_shal_ne _ _ hm, State.modSh_shal_ne _ _ hm, hs]

theorem State.modSh_modSh_readsAs (t : State) (n : Nat) (f g : Shallot → Shallot) :
    ((t.modSh n f).modSh n g).readsAs (t.modSh n (fun h => g (f h))) := by
  refine ⟨rfl, fun m => ?_⟩
  by_cases hm : m = n
  · simp [hm]
  · simp [State.modSh_shal_ne _ _ hm]

theorem State.modSh_id_readsAs (t : State) (n : Nat) : (t.modSh n (fun h => h)).readsAs t := by
  refine ⟨rfl, fun m => ?_⟩
  by_cases hm : m = n
  · rw [hm, State.modSh_shal_self]
  · rw [State.modSh_shal_ne _ _ hm]

/-- The state that a slot operation leaves, seen from its shallot. -/
theorem withPod_shal_self (s : State) (r : PodRef) (q : Pod) :
    (s.withPod r q).shal r.sh.val = { s.shal r.sh.val with pods := (s.shal r.sh.val).pods.set r.pod.val q } :=
  State.modSh_shal_self s r.sh.val _

theorem withPod_podOf (s : State) (r : PodRef) (q : Pod) : (s.withPod r q).pod r.sh.val r.pod.val = q :=
  State.modPod_pod_self s r.sh.val r.pod.val _

/-! ### The cost on the bond -/

section Bond
variable (s : State) (r : PodRef) (env : RowEnv) (two : Bool)

theorem rowBond_private (ht : s.rowTraining r.sh.val r.pod.val = false) (hc : env.chanFails = false)
    (hp : (s.pod r.sh.val r.pod.val).rowPath = 1) : s.rowBond r env two = s.modSh r.sh.val (fun h => h.privTransfer two 0) := by
  simp [State.rowBond, ht, hc, hp]

/-- On the row path with a spare left: up to three failed tries hold the shallot. -/
theorem rowBond_retries (ht : s.rowTraining r.sh.val r.pod.val = false) (hp : (s.pod r.sh.val r.pod.val).rowPath = 0)
    (hk : env.fails.val ≤ 3) (hfull : env.fails.val = 0 ∨ ¬ groupSpares env.group.val ≤ (((s.shal r.sh.val).bond r.pod.val env.group.val).marked).length) :
    s.rowBond r env two =
      (s.modSh r.sh.val (fun h => h.rowCheckFail r.pod.val env.group.val env.fails.val)).modSh r.sh.val (fun h => h.retries two env.fails.val) := by
  have hno : ¬ (env.fails.val ≠ 0 ∧ decide (groupSpares env.group.val ≤ (((s.shal r.sh.val).bond r.pod.val env.group.val).marked).length) = true) := by
    rw [decide_eq_true_eq]; exact fun ⟨h0, hle⟩ => hfull.elim h0 fun h => h hle
  simp only [State.rowBond, ht, hp, Bool.false_eq_true, if_false, if_neg hno, if_pos hk]
  rfl

/-- After the fourth failed try the row goes over the pod's own narrow channel. -/
theorem rowBond_fourth (ht : s.rowTraining r.sh.val r.pod.val = false) (hc : env.chanFails = false)
    (hp : (s.pod r.sh.val r.pod.val).rowPath = 0) (hk : env.fails.val = 4)
    (hfull : ¬ groupSpares env.group.val ≤ (((s.shal r.sh.val).bond r.pod.val env.group.val).marked).length) :
    s.rowBond r env two = ((s.modSh r.sh.val (fun h => h.rowCheckFail r.pod.val env.group.val 4)).modSh r.sh.val
      (fun h => { h with retryHold := max h.retryHold 3 })).modSh r.sh.val (fun h => h.privTransfer two 3) := by
  simp [State.rowBond, ht, hc, hp, hk, hfull]

/-- A group without a spare sends the pod to its own narrow channel. -/
theorem rowBond_full (ht : s.rowTraining r.sh.val r.pod.val = false) (hc : env.chanFails = false)
    (hp : (s.pod r.sh.val r.pod.val).rowPath = 0) (hk : env.fails.val ≠ 0)
    (hfull : groupSpares env.group.val ≤ (((s.shal r.sh.val).bond r.pod.val env.group.val).marked).length) :
    s.rowBond r env two = ((s.modSh r.sh.val (fun h => h.rowCheckFail r.pod.val env.group.val env.fails.val)).modPod r.sh.val r.pod.val
      (fun q => { q with privNext := true })).modSh r.sh.val (fun h => h.privTransfer two 0) := by
  simp [State.rowBond, ht, hc, hp, hk, hfull]

end Bond

theorem rowOp_next (s : State) {ok : Bool} (h : ok = true) (r : PodRef) (a : RowArgs) (env : RowEnv) (w96 : Bool) (f : ExecCtx → Pod → Nat → Pod) :
    s.rowOp ok r a env w96 f = .next ((s.withPod r (f (s.ctx r.sh.val) (s.podOf r) ((s.podOf r).rowAddr a.addr a.idx))).rowBond r env
      ((s.podOf r).wideRows (s.ctx r.sh.val) w96 ((s.podOf r).rowAddr a.addr a.idx)).isSome) := by
  subst h; rfl

/-! ### A row operation and its cost -/

theorem withPod_modPod_readsAs (s : State) (r : PodRef) {q : Pod} (hd : q ≠ default) (g : Pod → Pod) :
    ((s.withPod r q).modPod r.sh.val r.pod.val g).readsAs (s.withPod r (g q)) := by
  refine ⟨rfl, fun m => ?_⟩
  by_cases hm : m = r.sh.val
  · rw [hm, State.modPod, State.modSh_shal_self, withPod_shal_self, withPod_shal_self, Tbl.mod, Tbl.get_set_self, Tbl.set_set _ _ _ hd]
  · rw [State.modPod, State.modSh_shal_ne _ _ hm]
    exact (State.modSh_shal_ne s _ hm).trans (State.modSh_shal_ne s _ hm).symm

/-- Two changes of one shallot that commute may be made in either order. -/
theorem State.modSh_comm_readsAs (t : State) (n : Nat) {f g : Shallot → Shallot} (h : ∀ x, g (f x) = f (g x)) :
    ((t.modSh n f).modSh n g).readsAs ((t.modSh n g).modSh n f) := by
  refine (t.modSh_modSh_readsAs n f g).trans ?_
  rw [show (fun x => g (f x)) = fun x => f (g x) from funext h]
  exact (t.modSh_modSh_readsAs n g f).symm

section RowOp
variable (s : State) (r : PodRef) (a : RowArgs) (env : RowEnv) {w96 : Bool} {f : ExecCtx → Pod → Nat → Pod} {ok : Bool} {q' : Pod} {two : Bool}

/-- Tries that hold: one row costs nothing, two rows one held period. -/
theorem rowOp_held (h : ok = true) (hq : f (s.ctx r.sh.val) (s.podOf r) ((s.podOf r).rowAddr a.addr a.idx) = q') (hp : q'.rowPath = 0)
    (htwo : ((s.podOf r).wideRows (s.ctx r.sh.val) w96 ((s.podOf r).rowAddr a.addr a.idx)).isSome = two) (hk : env.fails = 0)
    (ht : s.rowTraining r.sh.val r.pod.val = false) :
    Gives (s.rowOp ok r a env w96 f) (if two then (s.withPod r q').modSh r.sh.val (fun h => { h with wideHold := max h.wideHold 1 }) else s.withPod r q') := by
  rw [rowOp_next s h, hq, htwo, rowBond_retries (s.withPod r q') _ _ _ ht (by rw [withPod_podOf, hp]) (by simp [hk]) (.inl (by simp [hk]))]
  refine ((State.modSh_modSh_readsAs _ _ _ _).trans ?_).gives
  have hcost : (fun h : Shallot => (h.rowCheckFail r.pod.val env.group.val env.fails.val).retries two env.fails.val) =
      fun h => if two then { h with wideHold := max h.wideHold 1 } else h := by
    funext h
    cases two <;> simp [Shallot.rowCheckFail, Shallot.retries, hk]
  rw [hcost]
  cases two
  · exact State.modSh_id_readsAs _ _
  · exact State.readsAs_refl _

/-- What failed tries cost, for an operation that leaves ROW_PATH and the pod's next path alone. -/
theorem rowOp_costs (h : ok = true) (hq : f (s.ctx r.sh.val) (s.podOf r) ((s.podOf r).rowAddr a.addr a.idx) = q') (hd : q' ≠ default)
    (hpath : q'.rowPath = (s.podOf r).rowPath)
    (htwo : ((s.podOf r).wideRows (s.ctx r.sh.val) w96 ((s.podOf r).rowAddr a.addr a.idx)).isSome = two) (hc : env.chanFails = false)
    (ht : s.rowTraining r.sh.val r.pod.val = false) :
    let chan := if two then 31 else 15
    let k := env.fails.val
    let full := groupSpares env.group.val ≤ (((s.shal r.sh.val).bond r.pod.val env.group.val).marked).length
    let failed := fun (h : Shallot) =>
      { h with bonds := h.bonds.mod (r.pod.val * 17 + env.group.val) (fun b => { b with suspect := true }), rowCheckFails := satAdd h.rowCheckFails k }
    let run := s.rowOp ok r a env w96 f
    ((s.podOf r).rowPath = 1 → Gives run ((s.withPod r q').modSh r.sh.val (fun h => { h with privHold := max h.privHold chan }))) ∧
      ((s.podOf r).rowPath = 0 → 1 ≤ k → k ≤ 3 → ¬ full → Gives run ((s.withPod r q').modSh r.sh.val (fun h =>
        { failed h with retryHold := max h.retryHold k, wideHold := if two then max h.wideHold (k + 1) else h.wideHold }))) ∧
      ((s.podOf r).rowPath = 0 → k = 4 → ¬ full → Gives run ((s.withPod r q').modSh r.sh.val (fun h =>
        { failed h with retryHold := max h.retryHold 3, privHold := max h.privHold (3 + chan) }))) ∧
      ((s.podOf r).rowPath = 0 → 1 ≤ k → full → Gives run ((s.withPod r { q' with privNext := true }).modSh r.sh.val (fun h =>
        { failed h with privHold := max h.privHold chan }))) := by
  intro chan k full failed run
  have hrun : run = .next ((s.withPod r q').rowBond r env two) := by rw [show run = _ from rowOp_next s h r a env w96 f, hq, htwo]
  have hbond : ∀ g, (((s.withPod r q').shal r.sh.val).bond r.pod.val g) = (s.shal r.sh.val).bond r.pod.val g := fun g => by
    rw [withPod_shal_self]; rfl
  have hpod : ∀ {x}, (s.podOf r).rowPath = x → ((s.withPod r q').pod r.sh.val r.pod.val).rowPath = x := fun hx => by
    rw [withPod_podOf, hpath, hx]
  have hfail : 1 ≤ k → ∀ h : Shallot, h.rowCheckFail r.pod.val env.group.val env.fails.val = failed h := fun h1 h => by
    rw [Shallot.rowCheckFail, if_neg (by omega)]; rfl
  rw [hrun]
  refine ⟨fun hp => ?_, fun hp h1 h3 hf => ?_, fun hp h4 hf => ?_, fun hp h1 hf => ?_⟩
  · rw [rowBond_private (s.withPod r q') _ _ _ ht hc (hpod hp)]
    simp only [Shallot.privTransfer, Nat.zero_add]
    exact (State.readsAs_refl _).gives
  · rw [rowBond_retries (s.withPod r q') _ _ _ ht (hpod hp) h3 (.inr (by rw [hbond]; exact hf))]
    simp only [hfail h1, Shallot.retries]
    exact (State.modSh_modSh_readsAs _ _ _ _).gives
  · rw [rowBond_fourth (s.withPod r q') _ _ _ ht hc (hpod hp) h4 (by rw [hbond]; exact hf), ← show env.fails.val = 4 from h4]
    simp only [hfail (by omega), Shallot.privTransfer]
    exact (((State.modSh_modSh_readsAs _ _ _ _).modSh _ _).trans (State.modSh_modSh_readsAs _ _ _ _)).gives
  · rw [rowBond_full (s.withPod r q') _ _ _ ht hc (hpod hp) (by omega) (by rw [hbond]; exact hf)]
    simp only [hfail h1, Shallot.privTransfer, Nat.zero_add]
    have hmark := (State.modSh_comm_readsAs (s.withPod r q') r.sh.val (f := failed)
      (g := fun h => { h with pods := h.pods.mod r.pod.val (fun q => { q with privNext := true }) }) fun _ => rfl).trans
      ((withPod_modPod_readsAs s r hd _).modSh _ _)
    exact ((hmark.modSh _ _).trans (State.modSh_modSh_readsAs _ _ _ _)).gives

end RowOp

/-! ### The pod as each operation leaves it -/

section Pods
variable (q : Pod) (ctx : ExecCtx)

theorem wideRows_none {w96 : Bool} {row : Nat} (h : ctx.wide = true ∧ w96 = true → q.a96OfRow row = none) : q.wideRows ctx w96 row = none := by
  unfold Pod.wideRows
  split
  · next hw => rw [h (Bool.and_eq_true_iff.1 hw), Option.map_none]
  · rfl

theorem wideRows_some {w96 : Bool} {row : Nat} {d : Entry128} (hw : ctx.wide = true ∧ w96 = true) (hd : q.a96OfRow row = some d) :
    q.wideRows ctx w96 row = some (descDataRow d + 2 * (row - descDataRow d), descDataRow d + 2 * (row - descDataRow d) + 1) := by
  unfold Pod.wideRows
  rw [if_pos (Bool.and_eq_true_iff.2 hw), hd, Option.map_some]

theorem rowRead_one {w96 : Bool} {row : Nat} (h : q.wideRows ctx w96 row = none) (buf : Fin 8) : q.rowRead ctx buf w96 row =
    q.push (ctx.beat + 2) (.buf buf { q.bufs.get buf.val with data := q.store.get row, written := true, wide := false }) := by
  rw [Pod.rowRead, h]

theorem rowRead_two {w96 : Bool} {row a b : Nat} (h : q.wideRows ctx w96 row = some (a, b)) (buf : Fin 8) : q.rowRead ctx buf w96 row =
    q.push (ctx.beat + 2) (.buf buf { data := q.store.get a, ext := q.store.get b, written := true, wide := true }) := by
  rw [Pod.rowRead, h]

theorem rowWrite_one {w96 : Bool} {row : Nat} (h : q.wideRows ctx w96 row = none) (buf : Fin 8) : q.rowWrite ctx buf w96 row =
    q.push (ctx.beat + 2) (.storeRow (BitVec.ofNat 12 row) (q.readBuf ctx buf).data (BitVec.allOnes 4096)) := by
  rw [Pod.rowWrite, h]

theorem rowWrite_two {w96 : Bool} {row a b : Nat} (h : q.wideRows ctx w96 row = some (a, b)) (buf : Fin 8) : q.rowWrite ctx buf w96 row =
    (q.push (ctx.beat + 2) (.storeRow (BitVec.ofNat 12 a) (q.readBuf ctx buf).data (BitVec.allOnes 4096))).push (ctx.beat + 2)
      (.storeRow (BitVec.ofNat 12 b) (q.readBuf ctx buf).ext (BitVec.allOnes 4096)) := by
  rw [Pod.rowWrite, h]

/-- `q'` is `q` with further writes on their way. -/
def Pod.sends (q q' : Pod) : Prop := ∃ l, l ≠ [] ∧ q' = { q with pend := q.pend ++ l }

theorem Pod.push_sends (vis : Nat) (w : PodWrite) : q.sends (q.push vis w) := ⟨[{ vis := vis, w := w }], List.cons_ne_nil _ _, rfl⟩

theorem Pod.push_push_sends (vis vis' : Nat) (w w' : PodWrite) : q.sends ((q.push vis w).push vis' w') :=
  ⟨[{ vis := vis, w := w }, { vis := vis', w := w' }], List.cons_ne_nil _ _, by simp [Pod.push]⟩

theorem rowRead_sends (buf : Fin 8) (w96 : Bool) (row : Nat) : q.sends (q.rowRead ctx buf w96 row) := by
  cases h : q.wideRows ctx w96 row with
  | none => rw [rowRead_one q ctx h]; exact q.push_sends _ _
  | some p => rw [rowRead_two q ctx h]; exact q.push_sends _ _

theorem rowWrite_sends (buf : Fin 8) (w96 : Bool) (row : Nat) : q.sends (q.rowWrite ctx buf w96 row) := by
  cases h : q.wideRows ctx w96 row with
  | none => rw [rowWrite_one q ctx h]; exact q.push_sends _ _
  | some p => rw [rowWrite_two q ctx h]; exact q.push_push_sends _ _ _ _

variable {q} {q' : Pod}

theorem Pod.sends.ne_default (h : q.sends q') : q' ≠ default := by
  obtain ⟨l, hl, rfl⟩ := h
  intro hd
  exact hl (List.append_eq_nil_iff.1 (congrArg Pod.pend hd)).2

theorem Pod.sends.paths (h : q.sends q') : q'.rowPath = q.rowPath ∧ q'.privNext = q.privNext := by
  obtain ⟨l, -, rfl⟩ := h
  exact ⟨rfl, rfl⟩

end Pods

/-- Settles O6: the pod as each operation leaves it (`rowRead_one` and its kin) with the cost of tries that hold (`rowOp_held`), and the
cost of failed ones (`rowOp_costs`). -/
theorem rowOperations : Obligations.RowOperations := by
  unfold Obligations.RowOperations
  refine ⟨fun r a env s hk hp ht => ?_, fun r a env s c ok w96 hc hok hchan ht => ?_⟩
  · intro q t row buf all one span wide
    have hrow : q.rowAddr a.addr a.idx = row := by
      simp only [Pod.rowAddr, Pod.counter, row, Fin.ext_iff]
      rfl
    simp only [one, exec_rowRead, exec_rowWrite, exec_rowZero, exec_loadw, exec_loads, exec_loadc, execRowRead, execRowWrite, execRowZero,
      execLoadw, execLoads, execLoadc]
    have hone : ∀ {ok w96 : Bool} {f : ExecCtx → Pod → Nat → Pod} {w : PodWrite}, ok = true →
        f (s.ctx r.sh.val) q row = q.push t w → q.wideRows (s.ctx r.sh.val) w96 row = none →
        Gives (s.rowOp ok r a env w96 f) (s.withPod r (q.push t w)) := fun h hq hn =>
      rowOp_held s r a env (two := false) h (hrow ▸ hq) hp (hrow ▸ congrArg Option.isSome hn) hk ht
    have hplain : ∀ {row}, q.wideRows (s.ctx r.sh.val) false row = none := fun {row} => wideRows_none q _ (fun h => absurd h.2 (by decide))
    refine ⟨fun h => ⟨fun hw => ⟨?_, ?_⟩, fun d hw hd => ?_, ?_⟩, fun h => ?_, fun h p hpair => ?_, fun h => ?_⟩
    · exact hone h (rowRead_one q _ (wideRows_none q _ hw) _) (wideRows_none q _ hw)
    · exact hone h (rowWrite_one q _ (wideRows_none q _ hw) _) (wideRows_none q _ hw)
    · have hx := wideRows_some q (s.ctx r.sh.val) hw hd
      have htwo : ∀ {f : ExecCtx → Pod → Nat → Pod} {q' : Pod}, f (s.ctx r.sh.val) q row = q' → q'.rowPath = 0 →
          Gives (s.rowOp (plainRowForm a) r a env a.w96 f)
            ((s.withPod r q').modSh r.sh.val (fun h => { h with wideHold := max h.wideHold 1 })) := fun hq hp' =>
        rowOp_held s r a env (two := true) h (hrow ▸ hq) hp' (hrow ▸ congrArg Option.isSome hx) hk ht
      exact ⟨htwo (rowRead_two q _ hx _) hp, htwo (rowWrite_two q _ hx _) hp⟩
    · exact hone h rfl hplain
    · exact hone h rfl hplain
    · exact hone h (by rw [Pod.loadS, hpair]; rfl) hplain
    · exact hone h rfl hplain
  · intro n q two chan k full failed
    have hop : ∃ f, exec c s = s.rowOp ok r a env w96 f ∧ q.sends (f (s.ctx n) q (q.rowAddr a.addr a.idx)) := by
      simp only [List.mem_cons, List.not_mem_nil, or_false, Prod.mk.injEq] at hc
      rcases hc with ⟨rfl, rfl, rfl⟩ | ⟨rfl, rfl, rfl⟩ | ⟨rfl, rfl, rfl⟩ | ⟨rfl, rfl, rfl⟩ | ⟨rfl, rfl, rfl⟩ | ⟨rfl, rfl, rfl⟩
      · exact ⟨_, exec_rowRead .., rowRead_sends q _ _ _ _⟩
      · exact ⟨_, exec_rowWrite .., rowWrite_sends q _ _ _ _⟩
      · exact ⟨_, exec_rowZero .., q.push_sends _ _⟩
      · exact ⟨_, exec_loadw .., q.push_sends _ _⟩
      · exact ⟨_, exec_loads .., q.push_sends _ _⟩
      · exact ⟨_, exec_loadc .., q.push_sends _ _⟩
    obtain ⟨f, hexec, hsends⟩ := hop
    refine ⟨_, hsends.paths.1, hsends.paths.2, ?_⟩
    rw [hexec]
    exact rowOp_costs s r a env hok rfl hsends.ne_default hsends.paths.1 rfl hchan ht

end Sys2Proof.Machine
end

section
/-! PROOF. Reports that land (R85): a table that is out of its canonical order is rewritten by an empty observation. -/
namespace Sys2Proof.Machine

/-- A TENSOR_ID that an observer names. -/
def observedTid : Half := ({} : ObserverEntry).tid

/-- The observations of an execution, listed out of order: `observedTid` stands behind a higher number. -/
def unorderedObs : Tbl (Option (Option Int)) := ⟨[(observedTid.toNat + 1, some none), (observedTid.toNat, some none)]⟩

/-- A state whose observer 0 names `observedTid`, with those observations. -/
def unorderedState : State := { seq := { observers := ⟨[(0, { entry := some {} })]⟩, exe := { obs := unorderedObs } } }

/-- Writing an entry back into a table that lists it out of order puts it in a second place. -/
theorem told_obs_unordered (r : PodRef) : ((unorderedState.told r [.obs observedTid none]).seq.exe.obs).cells.length = 3 := by
  have hobs : (unorderedState.seq.observerOf observedTid).isSome = true := by decide
  change ((unorderedState.report r.sh.val r.pod.val (.obs observedTid none)).seq.exe.obs).cells.length = 3
  rw [State.report, if_pos hobs]
  decide

/-- Refutes O7: its clause that an empty observation leaves a state with an earlier observation as it is fails for a table of
observations that is not in canonical order: the entry is written a second time in front (`told_obs_unordered`). -/
theorem not_writesAndReportsLand : ¬ Obligations.WritesAndReportsLand := by
  unfold Obligations.WritesAndReportsLand
  intro ⟨_, h⟩
  obtain ⟨-, -, -, -, -, -, -, -, -, hobs, -⟩ := h { sh := 0, pod := 0 } observedTid 0 0 unorderedState
  obtain ⟨-, -, hnone⟩ := hobs (by decide)
  have hsame := hnone none (by decide)
  have hlen := told_obs_unordered { sh := 0, pod := 0 }
  rw [hsame] at hlen
  exact absurd hlen (by decide)

end Sys2Proof.Machine
end

section
/-! PROOF. OUT32 of the lanes and RQ with a plain target (R60, R78, R81, R85, R116): elements put one by one, saturations counted, and
the observation as a maximum. -/
namespace Sys2Proof.Machine

/-! ### OUT32 of the lanes -/

/-- A lane value is a 32-bit number without an overflow flag (R60). -/
def Lane.isA32 (x : Lane) : Bool := decide (- p2 31 ≤ x.v.toInt ∧ x.v.toInt < p2 31) && !x.ovf

theorem srcVal_lanes_toA32 (q : Pod) (i : Nat) :
    (q.srcVal .lanes i).toA32 = if (q.lanes.get i).isA32 then .ok (q.lanes.get i).v.toInt else .error false := by
  simp only [Pod.srcVal, SrcVal.toA32, laneOk, Lane.isA32, Int.le_sub_one_iff, Bool.decide_and]

/-- The first `n` steps of OUT32: each lane that is a 32-bit number is in its word, each other is reported. -/
theorem out32Step_foldl (q : Pod) (part : Nat) (tid : Half) (r0 : SlotAcc) (hp : part < 2) (n : Nat) (hn : n ≤ 64) :
    let r := (List.range n).foldl (out32Step q .lanes part tid) r0
    r.reps = r0.reps ++ ((List.range n).filter (fun i => !(q.lanes.get i).isA32)).map (fun i => Report.a32 tid i) ∧
    ∀ k, rowU 32 k r.data =
      if part * 64 ≤ k ∧ k < part * 64 + n ∧ (q.lanes.get (k - part * 64)).isA32 = true then uOf 32 (q.lanes.get (k - part * 64)).v.toInt
      else rowU 32 k r0.data := by
  induction n with
  | zero => simp +contextual [Nat.not_lt.2]
  | succ n ih =>
    obtain ⟨hreps, hdata⟩ := ih (by omega)
    simp only [List.range_succ, List.foldl_append, List.foldl_cons, List.foldl_nil, List.filter_append, List.map_append]
    by_cases hok : (q.lanes.get n).isA32 = true
    · simp only [out32Step, srcVal_lanes_toA32, if_pos hok]
      refine ⟨by simp [hreps, hok], fun k => ?_⟩
      rw [rowU_rowPut _ _ _ _ _ (by omega), uOf_mod, hdata]
      by_cases hk : k = part * 64 + n
      · subst hk; simp [hok]
      · rw [if_neg hk]
        simp only [show k < part * 64 + (n + 1) ↔ k < part * 64 + n by omega]
    · simp only [out32Step, srcVal_lanes_toA32, if_neg hok]
      refine ⟨by simp [hreps, hok, ovfReport], fun k => ?_⟩
      rw [hdata]
      by_cases hk : k = part * 64 + n
      · subst hk; simp [hok]
      · simp only [show k < part * 64 + (n + 1) ↔ k < part * 64 + n by omega]

theorem Pod.clrIf_lanes (q : Pod) (clr : Bool) (c n : Nat) :
    ∃ lanes, (if clr then clearedAt q.lanes lanes c n else lanes = q.lanes) ∧ q.clrIf clr .lanes c n = { q with lanes := lanes } := by
  cases clr with
  | true =>
    obtain ⟨t, hq, ht⟩ := q.clearSrc_lanes c n
    exact ⟨t, ht, hq⟩
  | false => exact ⟨q.lanes, rfl, rfl⟩

theorem Pod.out32_lanes (q : Pod) (ctx : ExecCtx) (clr : Bool) (buf : Fin 8) (part descI : Nat) (hp : part < 2) :
    let b := q.readBuf ctx buf
    let ok := fun (i : Nat) => (q.lanes.get i).isA32
    ∃ row lanes, (∀ i, i < 128 → rowU 32 i row =
        if part * 64 ≤ i ∧ i < part * 64 + 64 ∧ ok (i - part * 64) = true then uOf 32 (q.lanes.get (i - part * 64)).v.toInt else rowU 32 i b.data) ∧
      (if clr then clearedAt q.lanes lanes 0 64 else lanes = q.lanes) ∧
      q.out32 ctx .lanes clr buf part descI =
        ({ q.push (ctx.beat + 1) (.buf buf { b with data := row, written := true, wide := false }) with lanes := lanes },
          ((List.range 64).filter (fun i => !ok i)).map (fun i => Report.a32 (descTid (q.desc descI)) i)) := by
  intro b ok
  obtain ⟨hreps, hdata⟩ :=
    out32Step_foldl q part (descTid (q.desc descI)) { data := b.data, ext := b.ext, reps := [] } hp 64 (Nat.le_refl _)
  generalize hr : (List.range 64).foldl (out32Step q .lanes part (descTid (q.desc descI))) _ = r at hreps hdata
  obtain ⟨lanes, hlanes, hclr⟩ :=
    (q.push (ctx.beat + 1) (.buf buf { b with data := r.data, written := true, wide := false })).clrIf_lanes clr 0 64
  refine ⟨r.data, lanes, fun i _ => hdata i, hlanes, ?_⟩
  unfold Pod.out32
  simp only [upto_eq_range]
  rw [hr, hreps]
  exact Prod.ext hclr rfl

/-! ### Plain targets of RQ -/

/-- The formats of a plain target fill their rows (R43). -/
theorem plain_perRow_width {f : Fmt} (hb : f.isBlock = false) (ha : f.isAcc = false) : f.perRow * f.width = 4096 := by
  revert hb ha
  cases f <;> decide

theorem plain_encodeElem_lt {f : Fmt} (hb : f.isBlock = false) (ha : f.isAcc = false) (x : Int) : f.encodeElem x < 2 ^ f.width := by
  cases f
  case t2 => simp only [Fmt.encodeElem, Fmt.width]; (repeat' split) <;> decide
  case a96 | a192 => exact absurd ha (by decide)
  all_goals exact uOf_lt _ _

theorem Fmt.minV_le_maxV (f : Fmt) (sym : Bool) : f.minV sym ≤ f.maxV := by
  cases f <;> cases sym <;> decide

theorem Fmt.clamp_eq (f : Fmt) (sym : Bool) (x : Int) :
    f.clamp sym x = (max (f.minV sym) (min f.maxV x), decide (x < f.minV sym ∨ f.maxV < x)) := by
  have := f.minV_le_maxV sym
  unfold Fmt.clamp
  split
  · next h1 => simp only [h1, true_or, decide_true, Prod.mk.injEq, and_true]; omega
  · next h1 =>
    split
    · next h2 => simp only [h2, or_true, decide_true, Prod.mk.injEq, and_true]; omega
    · next h2 => simp only [h1, h2, or_false, decide_false, Prod.mk.injEq, and_true]; omega

/-- The data row of a plain target has no unused bytes (R46). -/
theorem plain_padDataRow {f : Fmt} (hb : f.isBlock = false) (ha : f.isAcc = false) (r : Row) : padDataRow f r = r := by
  rw [padDataRow, plain_perRow_width hb ha]; rfl

section Plain
variable {q : Pod} (hovf : ∀ i, (q.accs.get i).ovf = false) (ctx : ExecCtx) (e : RqEntry)
include hovf

theorem rqX_accs (i : Nat) : rqX e (q.srcVal .accs i) = .ok ((q.accs.get i).v.toInt * (e.mult : Int)) := by
  rw [rqX, q.srcVal_accs_toA192 i (hovf i)]

/-- The first `n` steps of RQ: each element is in its place, and the clamped ones are counted. -/
theorem rqPlainStep_foldl {f : Fmt} (hb : f.isBlock = false) (ha : f.isAcc = false) (sym : Bool) (tid : Half) (s : Int) (k pos : Nat)
    (hpos : pos * 32 + 64 ≤ f.perRow) (r0 : RqAcc) (n : Nat) (hn : n ≤ 64) :
    let y := fun i => roundShift ((q.accs.get i).v.toInt * (e.mult : Int)) s e.rmode (rqDraw ctx e tid k (pos * 32 + i))
    let r := (List.range n).foldl (rqPlainStep q ctx e .accs f sym tid s k pos) r0
    r.faults = r0.faults ∧ r.sats = r0.sats + countOf n (fun i => decide (y i < f.minV sym ∨ f.maxV < y i)) ∧
    ∀ j, rowU f.width j r.data =
      if pos * 32 ≤ j ∧ j < pos * 32 + n then f.encodeElem (max (f.minV sym) (min f.maxV (y (j - pos * 32)))) else rowU f.width j r0.data := by
  intro y
  induction n with
  | zero => simp +contextual [Nat.not_lt.2, countOf]
  | succ n ih =>
    obtain ⟨hfaults, hsats, hdata⟩ := ih (by omega)
    have ha32 : (f == .a32) = false := by revert ha; cases f <;> decide
    have hfit : (pos * 32 + n + 1) * f.width ≤ 4096 := by
      rw [← plain_perRow_width hb ha]; exact Nat.mul_le_mul_right _ (by omega)
    simp only [List.range_succ, List.foldl_append, List.foldl_cons, List.foldl_nil, rqPlainStep, rqX_accs hovf, rqPlain, ha32,
      Fmt.clamp_eq, Bool.false_eq_true, if_false]
    refine ⟨hfaults, ?_, fun j => ?_⟩
    · rw [hsats, countOf, countOf, List.range_succ, List.countP_append, List.countP_singleton, Nat.add_assoc]
      rfl
    · rw [rowU_rowPut _ _ _ _ _ hfit, Nat.mod_eq_of_lt (plain_encodeElem_lt hb ha _), hdata]
      by_cases hj : j = pos * 32 + n
      · subst hj; simp [y]
      · rw [if_neg hj]
        simp only [show j < pos * 32 + (n + 1) ↔ j < pos * 32 + n by omega]

end Plain

/-! ### Observations -/

/-- The largest of some observations: none where all are empty, else one of them that none exceeds (R85). -/
theorem histMax_cases (l : List (Option Int)) :
    (histMax l = none ∧ ∀ o ∈ l, o = none) ∨ ∃ m, histMax l = some m ∧ some m ∈ l ∧ ∀ e, some e ∈ l → e ≤ m := by
  induction l with
  | nil => exact .inl ⟨rfl, fun _ h => absurd h List.not_mem_nil⟩
  | cons o l ih =>
    cases o with
    | none =>
      rcases ih with ⟨hn, hall⟩ | ⟨m, hm, hmem, hmax⟩
      · exact .inl ⟨hn, List.forall_mem_cons.2 ⟨rfl, hall⟩⟩
      · exact .inr ⟨m, hm, List.mem_cons_of_mem _ hmem, fun e he => hmax e (by simpa using he)⟩
    | some x =>
      rcases ih with ⟨hn, hall⟩ | ⟨m, hm, hmem, hmax⟩
      · refine .inr ⟨x, by rw [histMax, hn], List.mem_cons_self, fun e he => ?_⟩
        rcases List.mem_cons.1 he with he | he
        · exact Int.le_of_eq (Option.some.inj he)
        · exact absurd (hall _ he) (by simp)
      · refine .inr ⟨if m < x then x else m, by rw [histMax, hm], ?_, fun e he => ?_⟩
        · split
          · exact List.mem_cons_self
          · exact List.mem_cons_of_mem _ hmem
        · rcases List.mem_cons.1 he with he | he
          · cases he; split <;> omega
          · have := hmax e he; split <;> omega

/-- The observation of an RQ without flagged sources (R85). -/
theorem rqObs_spec {q : Pod} (hovf : ∀ i, (q.accs.get i).ovf = false) (ctx : ExecCtx) (e : RqEntry) :
    let x := fun i => (q.accs.get i).v.toInt * (e.mult : Int)
    match rqObs q ctx e .accs with
    | none => ∀ i, i < 64 → x i = 0
    | some m => (∃ i, i < 64 ∧ x i ≠ 0 ∧ m = obsE e ctx.offs (x i)) ∧ ∀ i, i < 64 → x i ≠ 0 → obsE e ctx.offs (x i) ≤ m := by
  intro x
  have hlist : rqObs q ctx e .accs = histMax ((List.range 64).map (fun i => if x i = 0 then none else some (obsE e ctx.offs (x i)))) := by
    simp only [rqObs, rqX_accs hovf]
    rfl
  rw [hlist]
  rcases histMax_cases ((List.range 64).map (fun i => if x i = 0 then none else some (obsE e ctx.offs (x i)))) with
    ⟨hn, hall⟩ | ⟨m, hm, hmem, hmax⟩
  · rw [hn]
    intro i hi
    have := hall _ (List.mem_map.2 ⟨i, List.mem_range.2 hi, rfl⟩)
    refine Decidable.byContradiction fun h => ?_
    simp [h] at this
  · rw [hm]
    refine ⟨?_, fun i hi h => hmax _ (List.mem_map.2 ⟨i, List.mem_range.2 hi, if_neg h⟩)⟩
    obtain ⟨i, hi, hx⟩ := List.mem_map.1 hmem
    split at hx
    · exact absurd hx (by simp)
    · next h => exact ⟨i, List.mem_range.1 hi, h, (Option.some.inj hx).symm⟩

theorem Pod.rq_plain {q : Pod} (hovf : ∀ i, (q.accs.get i).ovf = false) (ctx : ExecCtx) (clr : Bool) (buf sbuf : Fin 8) (pos spos rqe descI : Nat)
    (hb : (descFmt (q.desc descI)).isBlock = false) (ha : (descFmt (q.desc descI)).isAcc = false)
    (hpos : pos * 32 + 64 ≤ (descFmt (q.desc descI)).perRow) :
    let b := q.readBuf ctx buf
    let d := q.desc descI
    let f := descFmt d
    let e := q.rqs.get rqe
    let y := fun i => roundShift ((q.accs.get i).v.toInt * (e.mult : Int)) (e.effShift ctx.offs) e.rmode
      (rqDraw ctx e (descTid d) (q.rqCount.get rqe) (pos * 32 + i))
    let sats := countOf 64 (fun i => decide (y i < f.minV (descSym d) ∨ f.maxV < y i))
    ∃ row accs, (∀ i, i < 64 → rowU f.width (pos * 32 + i) row = f.encodeElem (max (f.minV (descSym d)) (min f.maxV (y i)))) ∧
      (∀ k, k < pos * 32 ∨ pos * 32 + 64 ≤ k → rowU f.width k row = rowU f.width k b.data) ∧
      (if clr then clearedAt q.accs accs 0 64 else accs = q.accs) ∧
      q.rq ctx .accs clr buf sbuf pos spos rqe descI =
        ({ q.push (ctx.beat + 1) (.buf buf { b with data := row, written := true, wide := false }) with
            accs := accs, rqCount := q.rqCount.set rqe (q.rqCount.get rqe + 1) },
          (if sats = 0 then [] else [Report.sat (descTid d) sats]) ++ [.obs (descTid d) (rqObs q ctx e .accs)]) := by
  intro b d f e y sats
  obtain ⟨hfaults, hsats, hdata⟩ := rqPlainStep_foldl hovf ctx e hb ha (descSym d) (descTid d) (e.effShift ctx.offs) (q.rqCount.get rqe) pos hpos
    { data := b.data, scal := (q.readBuf ctx sbuf).data, sats := 0, faults := [] } 64 (Nat.le_refl _)
  generalize hr : (List.range 64).foldl (rqPlainStep q ctx e .accs f (descSym d) (descTid d) (e.effShift ctx.offs) (q.rqCount.get rqe) pos) _ = r
    at hfaults hsats hdata
  rw [Nat.zero_add] at hsats
  obtain ⟨accs, haccs, hclr⟩ := Pod.clrIf_accs
    { q.push (ctx.beat + 1) (.buf buf { b with data := r.data, written := true, wide := false }) with
        rqCount := q.rqCount.set rqe (q.rqCount.get rqe + 1) } clr 0 64
  refine ⟨r.data, accs, fun i hi => ?_, fun k hk => ?_, haccs, ?_⟩
  · rw [hdata, if_pos (by omega), Nat.add_sub_cancel_left]
  · rw [hdata, if_neg (by omega)]
  · unfold Pod.rq
    simp only [hb, upto_eq_range, Bool.false_eq_true, if_false, plain_padDataRow hb ha]
    rw [hr, hfaults, hsats]
    exact Prod.ext hclr rfl

section Commands
variable (r : PodRef) (a : AccArgs) (s : State) {q : Pod} {reps : List Report}

theorem out32_next (hs : a.src = .lanes) (hp : a.part.val < 2)
    (hq : (s.podOf r).out32 (s.ctx r.sh.val) .lanes a.clr a.buf a.part.val a.desc.val = (q, reps)) :
    exec (.out32 r a) s = .next ((s.withPod r q).told r reps) := by
  rw [exec_out32, execOut32, podOpIf_true s (by simp [srcForm, halfForm, hs, hp]), hs, hq]

/-- An accumulator source, a target that is neither a block nor an accumulator format and a POS that fits are a form the loader admits. -/
theorem Pod.rqDescForm_plain {p : Pod} (hb : (descFmt (p.desc a.desc.val)).isBlock = false) (ha : (descFmt (p.desc a.desc.val)).isAcc = false)
    (hpos : a.pos.toNat * 32 + 64 ≤ (descFmt (p.desc a.desc.val)).perRow) : p.rqDescForm a = true := by
  unfold Pod.rqDescForm
  revert hb ha hpos
  cases descFmt (p.desc a.desc.val) <;> simp [Fmt.isBlock, Fmt.isAcc]

theorem accRq_next (hs : a.src = .accs) (hform : (s.podOf r).rqDescForm a = true)
    (hq : (s.podOf r).rq (s.ctx r.sh.val) .accs a.clr a.buf a.sbuf a.pos.toNat a.spos.toNat a.rqe.val a.desc.val = (q, reps)) :
    exec (.accRq r a) s = .next ((s.withPod r q).told r reps) := by
  rw [exec_accRq, execAccRq, podOpIf_true s (ok := (s.pod r.sh.val r.pod.val).rqDescForm a) hform, hs, hq]

end Commands

/-- Settles O10: OUT32 and RQ put their elements one by one (`out32Step_foldl`, `rqPlainStep_foldl`), and the observation is a maximum
(`rqObs_spec`). -/
theorem accRequantised : Obligations.AccRequantised := by
  unfold Obligations.AccRequantised
  intro r a s q ctx b P t d f e
  refine ⟨fun hs hp => ?_, fun hs hovf hb ha hpos => ?_⟩
  · obtain ⟨row, lanes, hrow, hlanes, hq⟩ := q.out32_lanes ctx a.clr a.buf P a.desc.val hp
    exact ⟨row, lanes, hrow, hlanes, out32_next r a s hs hp hq⟩
  · intro x draw y sats
    obtain ⟨row, accs, hrow, hrest, haccs, hq⟩ :=
      Pod.rq_plain hovf ctx a.clr a.buf a.sbuf a.pos.toNat a.spos.toNat a.rqe.val a.desc.val hb ha hpos
    exact ⟨row, accs, rqObs q ctx e .accs, hrow, fun k _ hk => hrest k hk, haccs, rqObs_spec hovf ctx e,
      accRq_next r a s hs (Pod.rqDescForm_plain a hb ha hpos) hq⟩

end Sys2Proof.Machine
end

section
/-! PROOF. RECV, FETCH and SEND (R119, R159, R219, R228): each destination of a SEND by itself. -/
namespace Sys2Proof.Machine

/-- Two folds whose steps agree on the members of the list. -/
theorem foldl_congr_mem {α β : Type} {f g : β → α → β} {l : List α} (h : ∀ b, ∀ a ∈ l, f b a = g b a) (b : β) : l.foldl f b = l.foldl g b := by
  induction l generalizing b with
  | nil => rfl
  | cons a l ih =>
    rw [List.foldl_cons, List.foldl_cons, h b a List.mem_cons_self]
    exact ih (fun b x hx => h b x (List.mem_cons_of_mem _ hx)) _

/-- A row of eight flits: part `p` travels on the wavelength `p` further. -/
theorem State.sendRow_eight (s : State) (src dst wfirst : Nat) (last : Bool) (route : Nat → Nat) (r : Row) :
    s.sendRow src dst wfirst 8 last route r =
      (List.range 8).foldl (fun t p => t.sendFlit src dst (wfirst + p % 8) (dataHeader p last (route p)) (rowPayload r p)) s := by
  unfold State.sendRow
  rw [upto_eq_range]
  refine foldl_congr_mem (fun t p hp => ?_) s
  rw [Nat.mod_eq_of_lt (List.mem_range.1 hp)]

section Send
variable (r : PodRef) (a : StArgs) (s : State)

/-- The destination of the transfer entry that the operation names. -/
def stDest : Nat := xferDest ((s.podOf r).xfers.get a.xfer.val)

theorem execSend_here (hd : stDest r a s = r.sh.val) :
    execSend r a s = .next ({ s with free := s.free + 1 }.sendHere r.sh.val ((s.podOf r).xfers.get a.xfer.val)
      ((s.podOf r).readBuf (s.ctx r.sh.val) a.buf) (s.seq.exe.wide && ((s.podOf r).readBuf (s.ctx r.sh.val) a.buf).wide)) :=
  congrArg Host.Outcome.next (if_pos hd)

theorem execSend_away (hn : stDest r a s ≠ r.sh.val) (hd : stDest r a s < 8) :
    execSend r a s = .next ({ s with free := s.free + 1 }.sendAway r.sh.val ((s.podOf r).xfers.get a.xfer.val)
      ((s.podOf r).readBuf (s.ctx r.sh.val) a.buf) (s.seq.exe.wide && ((s.podOf r).readBuf (s.ctx r.sh.val) a.buf).wide)) :=
  congrArg Host.Outcome.next ((if_neg hn).trans (if_pos hd))

theorem execSend_stack (hd : 8 ≤ stDest r a s) (hd' : stDest r a s < 24) :
    execSend r a s = .next ({ s with free := s.free + 1 }.sendStack r.sh.val r.pod.val ((s.podOf r).xfers.get a.xfer.val)
      ((s.podOf r).readBuf (s.ctx r.sh.val) a.buf) (s.seq.exe.wide && ((s.podOf r).readBuf (s.ctx r.sh.val) a.buf).wide)) :=
  congrArg Host.Outcome.next ((if_neg (fun h => by have := r.sh.isLt; have h : stDest r a s = r.sh.val := h; omega)).trans
    ((if_neg (Nat.not_lt.2 hd)).trans (if_pos hd')))

end Send

/-- Settles O11: RECV by its slot, FETCH by its entry, SEND by its destination. -/
theorem stTransfers : Obligations.StTransfers := by
  unfold Obligations.StTransfers
  intro r a s n q l x d tag b barrier fly flits
  rw [exec_recv, exec_fetch, exec_send]
  refine ⟨fun hc => ?_, fun hc => ?_, fun hx hd hd' => ?_, fun hx => ?_, fun hd => ?_, fun hn hd hw => ?_, fun hd hd' hw => ?_⟩
  · exact if_pos hc
  · exact if_neg (Bool.eq_false_iff.1 hc)
  · exact (if_neg (Classical.not_not.2 hx)).trans (if_pos ⟨hd, hd'⟩)
  · exact if_pos hx
  · exact execSend_here r a s hd
  · rw [execSend_away r a s hn hd, hw, Bool.false_and, State.sendAway, State.sendRow_eight]
    rfl
  · rw [execSend_stack r a s hd hd', hw, Bool.false_and, State.sendStack]
    simp only [upto_eq_range]
    rfl

end Sys2Proof.Machine
end

section
/-! PROOF. Flits and link replay (R221, R222, R224, R244). -/
namespace Sys2Proof.Machine

/-! ### A wavelength of a street -/

section Waves
variable (s : State) (a b n : Nat) (f g : Wave → Wave)

theorem State.modWave_congr (h : f ((s.street a b).waves.get n) = g ((s.street a b).waves.get n)) :
    s.modWave a b n f = s.modWave a b n g := by
  unfold State.street at h
  simp only [State.modWave, State.modStreet, Tbl.mod, h]

@[simp] theorem State.street_modStreet_self (h : Street → Street) : (s.modStreet a b h).street a b = h (s.street a b) :=
  Tbl.get_mod_self _ _ _

theorem State.street_modWave_self : (s.modWave a b n f).street a b = { s.street a b with waves := (s.street a b).waves.mod n f } :=
  Tbl.get_mod_self _ _ _

@[simp] theorem State.wave_modWave_self : ((s.modWave a b n f).street a b).waves.get n = f ((s.street a b).waves.get n) := by
  rw [State.street_modWave_self]
  exact Tbl.get_mod_self _ _ _

/-- What stays when one wavelength changes: every other part of the state, every other street and wavelength. -/
theorem State.modWave_keeps (s : State) (a b v : Nat) (f : Wave → Wave) :
    { s.modWave a b v f with blv := s.blv } = s ∧
    { (s.modWave a b v f).blv with streets := s.blv.streets } = s.blv ∧
    (∀ i, i ≠ streetIx a b → (s.modWave a b v f).blv.streets.get i = s.blv.streets.get i) ∧
    { (s.modWave a b v f).street a b with waves := (s.street a b).waves } = s.street a b ∧
    (∀ i, i ≠ v → ((s.modWave a b v f).street a b).waves.get i = (s.street a b).waves.get i) := by
  refine ⟨rfl, rfl, fun i hi => Tbl.get_mod_ne _ _ hi, ?_, fun i hi => ?_⟩
  · rw [State.street_modWave_self]
  · rw [State.street_modWave_self]
    exact Tbl.get_mod_ne _ _ hi

end Waves

/-! ### Sending a flit -/

theorem Street.next_eq_none {t : Street} {width w : Nat} (hw : 0 < width) (h : ∀ v, v < width → (t.waves.get v).up = false) :
    t.next width w = none := by
  unfold Street.next
  rw [List.find?_eq_none]
  intro v hv
  obtain ⟨i, -, rfl⟩ := List.mem_map.1 hv
  exact Bool.eq_false_iff.1 (h _ (Nat.mod_lt _ hw))

theorem Street.next_eq_some {t : Street} {width w k : Nat} (hk : k < width) (hdown : ∀ i, i < k → (t.waves.get ((w + i) % width)).up = false)
    (hup : (t.waves.get ((w + k) % width)).up = true) : t.next width w = some ((w + k) % width) := by
  unfold Street.next
  rw [upto_eq_range, List.find?_map, Option.map_eq_some_iff]
  refine ⟨k, List.find?_range_eq_some.2 ⟨hup, List.mem_range.2 hk, fun j hj => ?_⟩, rfl⟩
  simp only [Function.comp_apply, hdown j hj, Bool.not_false]

/-- The flit of a header and a payload with no CRC yet. -/
def bareFlit (header payload : Nat) : Flit := BitVec.ofNat 544 (header % 2 ^ 16 * 2 ^ 528 + payload % 2 ^ 512 * 2 ^ 16)

theorem bareFlit_toNat (header payload : Nat) :
    (bareFlit header payload).toNat = header % 2 ^ 16 * 2 ^ 528 + payload % 2 ^ 512 * 2 ^ 16 := by
  rw [bareFlit, BitVec.toNat_ofNat, Nat.mod_eq_of_lt]
  have := Nat.mod_lt header (Nat.two_pow_pos 16)
  have := Nat.mod_lt payload (Nat.two_pow_pos 512)
  omega

theorem flitHeader_bareFlit {header : Nat} (h : header < 2 ^ 16) (payload : Nat) : flitHeader (bareFlit header payload) = header := by
  rw [flitHeader, bareFlit_toNat, bitsOf_eq_div_mod]
  have := Nat.mod_lt payload (Nat.two_pow_pos 512)
  omega

theorem flitPayload_bareFlit (header : Nat) {payload : Nat} (h : payload < 2 ^ 512) : flitPayload (bareFlit header payload) = payload := by
  rw [flitPayload, bareFlit_toNat, bitsOf_eq_div_mod]
  omega

theorem queueFlit_nil (f : Flit) : queueFlit f [] = [f] := by
  unfold queueFlit
  split <;> rfl

/-- A wavelength that is up, not paused and with room in its replay buffer sends the one flit that waits. -/
theorem State.pump_one (s : State) (a b v : Nat) {f : Flit} (hq : ((s.street a b).waves.get v).queue = [f])
    (hup : ((s.street a b).waves.get v).up = true) (hpause : ((s.street a b).waves.get v).paused = false)
    (hroom : ((s.street a b).waves.get v).replay.length < 32) :
    let x := (s.street a b).waves.get v
    let g := mkFlit x.txSeq.toNat (flitHeader f) (flitPayload f)
    s.pump a b v =
      (s.modWave a b v (fun x => { x with queue := [], txSeq := x.txSeq + 1, replay := x.replay ++ [(x.txSeq, g)] })).emit (.flit a b v g) := by
  intro x g
  simp only [State.pump, hq, List.length_singleton, pumpGo, hup, hpause, Nat.not_le.2 hroom, decide_false, Bool.not_true, Bool.or_self,
    Bool.false_eq_true, if_false, g, x]

/-- The wavelength that a flit of `header` and `payload` has left on. -/
def Wave.sent (x : Wave) (header payload : Nat) : Wave :=
  { x with txSeq := x.txSeq + 1, replay := x.replay ++ [(x.txSeq, mkFlit x.txSeq.toNat header payload)] }

theorem State.sendFlit_none (s : State) {a b w : Nat} (header payload : Nat) (h : (s.street a b).next (streetWidth a b) (w % max 1 (streetWidth a b)) = none) :
    s.sendFlit a b w header payload = s := by
  unfold State.sendFlit
  rw [h]

theorem State.sendFlit_some (s : State) {a b w v : Nat} (header payload : Nat)
    (h : (s.street a b).next (streetWidth a b) (w % max 1 (streetWidth a b)) = some v) :
    s.sendFlit a b w header payload = (s.modWave a b v (fun x => { x with queue := queueFlit (bareFlit header payload) x.queue })).pump a b v := by
  unfold State.sendFlit
  rw [h]
  rfl

/-! ### Resending -/

theorem State.foldl_emit (s : State) (l : List Out) : l.foldl State.emit s = { s with out := s.out ++ l } := by
  induction l generalizing s with
  | nil => simp
  | cons o l ih => rw [List.foldl_cons, ih]; simp [State.emit]

theorem State.resend_eq (s : State) (a b n : Nat) (l : List (BitVec 5 × Flit)) :
    s.resend a b n l = ({ s with out := s.out ++ l.map (fun (e : BitVec 5 × Flit) => Out.flit a b n e.2) }).modStreet a b (fun t =>
      { t with retries := satAdd t.retries l.length, mapRetries := t.mapRetries + l.length }) := by
  rw [← State.foldl_emit, List.foldl_map, State.resend]

section Replay
variable {seq : BitVec 5} {f : Flit} {pre post l : List (BitVec 5 × Flit)}

theorem dropWhile_replay (hpre : ∀ e ∈ pre, e.1 ≠ seq) :
    (pre ++ (seq, f) :: post).dropWhile (fun e => e.1 != seq) = (seq, f) :: post := by
  rw [List.dropWhile_append_of_pos fun e he => bne_iff_ne.2 (hpre e he)]
  simp

theorem dropThrough_found (hpre : ∀ e ∈ pre, e.1 ≠ seq) : dropThrough seq (pre ++ (seq, f) :: post) = post := by
  unfold dropThrough
  rw [if_pos (by simp), dropWhile_replay hpre]
  rfl

theorem dropThrough_absent (h : ∀ e ∈ l, e.1 ≠ seq) : dropThrough seq l = l :=
  if_neg fun hany => by
    obtain ⟨e, he, heq⟩ := List.any_eq_true.1 hany
    exact h e he (beq_iff_eq.1 heq)

theorem dropWhile_absent (h : ∀ e ∈ l, e.1 ≠ seq) : l.dropWhile (fun e => e.1 != seq) = [] := by
  have hall := List.dropWhile_append_of_pos (p := fun e => e.1 != seq) (l₂ := []) fun e he => bne_iff_ne.2 (h e he)
  rwa [List.append_nil, List.dropWhile_nil] at hall

end Replay

/-- A flit on its way to a wavelength that can send it leaves at once. -/
theorem State.sendFlit_sent (s : State) {a b w v header payload : Nat} (hh : header < 2 ^ 16) (hp : payload < 2 ^ 512)
    (hnext : (s.street a b).next (streetWidth a b) (w % max 1 (streetWidth a b)) = some v) (hup : ((s.street a b).waves.get v).up = true)
    (hq : ((s.street a b).waves.get v).queue = []) (hpause : ((s.street a b).waves.get v).paused = false)
    (hroom : ((s.street a b).waves.get v).replay.length < 32) :
    let x := (s.street a b).waves.get v
    let u := s.sendFlit a b w header payload
    u.out = s.out ++ [.flit a b v (mkFlit x.txSeq.toNat header payload)] ∧
    { u with out := s.out, blv := s.blv } = s ∧ { u.blv with streets := s.blv.streets } = s.blv ∧
    (∀ i, i ≠ streetIx a b → u.blv.streets.get i = s.blv.streets.get i) ∧
    { u.street a b with waves := (s.street a b).waves } = s.street a b ∧
    (∀ i, i ≠ v → (u.street a b).waves.get i = (s.street a b).waves.get i) ∧
    (u.street a b).waves.get v = { x with txSeq := x.txSeq + 1, replay := x.replay ++ [(x.txSeq, mkFlit x.txSeq.toNat header payload)] } := by
  intro x u
  obtain ⟨hb, hB, hs₁, ht₁, hw₁⟩ := s.modWave_keeps a b v (fun y => { y with queue := queueFlit (bareFlit header payload) y.queue })
  have hx₁ := s.wave_modWave_self a b v (fun y => { y with queue := queueFlit (bareFlit header payload) y.queue })
  have hu := s.sendFlit_some header payload hnext
  simp only [hq, queueFlit_nil] at hx₁
  generalize s.modWave a b v (fun y => { y with queue := queueFlit (bareFlit header payload) y.queue }) = s₁ at *
  rw [State.pump_one s₁ a b v (f := bareFlit header payload) (by rw [hx₁]) (by rw [hx₁]; exact hup) (by rw [hx₁]; exact hpause)
    (by rw [hx₁]; exact hroom), hx₁, flitHeader_bareFlit hh, flitPayload_bareFlit _ hp] at hu
  obtain ⟨hb', hB', hs₂, ht₂, hw₂⟩ := s₁.modWave_keeps a b v (fun y =>
      { y with queue := [], txSeq := y.txSeq + 1, replay := y.replay ++ [(y.txSeq, mkFlit x.txSeq.toNat header payload)] })
  have hx₂ := s₁.wave_modWave_self a b v (fun y =>
      { y with queue := [], txSeq := y.txSeq + 1, replay := y.replay ++ [(y.txSeq, mkFlit x.txSeq.toNat header payload)] })
  simp only [hx₁] at hx₂
  generalize s₁.modWave a b v (fun y =>
      { y with queue := [], txSeq := y.txSeq + 1, replay := y.replay ++ [(y.txSeq, mkFlit x.txSeq.toNat header payload)] }) = s₂ at *
  have hs : { s₂ with blv := s.blv } = s := (congrArg (fun z : State => { z with blv := s.blv }) hb').trans hb
  have hout : s₂.out = s.out := (congrArg State.out hs :)
  rw [show u = _ from hu]
  refine ⟨?_, ?_, (congrArg (fun z : Boulevard => { z with streets := s.blv.streets }) hB').trans hB, fun i hi => (hs₂ i hi).trans (hs₁ i hi),
    (congrArg (fun z : Street => { z with waves := (s.street a b).waves }) ht₂).trans ht₁, fun i hi => (hw₂ i hi).trans (hw₁ i hi), ?_⟩
  · rw [State.emit, hout]
  · exact congrArg (fun z : State => { z with out := s.out }) hs
  · refine hx₂.trans ?_
    rw [← hq]

/-- A NAK of an outstanding flit: the replay buffer from that flit on, and its failed resends (R221, R224). -/
theorem execLinkNak_found (w : WaveRef) {seq : BitVec 5} (g : LaneRef) (s : State) {f : Flit} {pre post : List (BitVec 5 × Flit)}
    (hr : ((s.street w.src.val w.dst.val).waves.get w.wave.val).replay = pre ++ (seq, f) :: post) (hpre : ∀ e ∈ pre, e.1 ≠ seq)
    (hd : ((s.street w.src.val w.dst.val).waves.get w.wave.val).down = false)
    (hpk : ((s.street w.src.val w.dst.val).waves.get w.wave.val).parked = false) :
    let x := (s.street w.src.val w.dst.val).waves.get w.wave.val
    let m := if pre = [] then x.fails else 0
    let t := s.modWave w.src.val w.dst.val w.wave.val (fun _ => { x with replay := (seq, f) :: post, fails := m + 1 })
    execLinkNak w seq g s = .next (if 8 ≤ m then t.waveDown w.src.val w.dst.val w.wave.val
      else (t.resend w.src.val w.dst.val w.wave.val ((seq, f) :: post)).laneRetries g (post.length + 1)) := by
  intro x m t
  have hm : (if post.length + 1 = (pre ++ (seq, f) :: post).length then
      ((s.street w.src.val w.dst.val).waves.get w.wave.val).fails else 0) = m :=
    ite_congr (propext (by simp)) (fun _ => rfl) (fun _ => rfl)
  have ht : t = s.modWave w.src.val w.dst.val w.wave.val (fun y => { y with replay := (seq, f) :: post, fails := m + 1 }) :=
    State.modWave_congr _ _ _ _ _ _ rfl
  rw [execLinkNak]
  simp only [hd, hpk, hr, dropWhile_replay hpre, hm, ht, List.isEmpty_cons, Bool.or_self, Bool.false_eq_true, if_false, List.length_cons]
  split <;> rfl

/-- A timeout of a wavelength with flits outstanding resends them all, or declares the wavelength down (R221, R224). -/
theorem execReplayTimeout_due (w : WaveRef) (g : LaneRef) (s : State)
    (hd : ((s.street w.src.val w.dst.val).waves.get w.wave.val).down = false)
    (hpk : ((s.street w.src.val w.dst.val).waves.get w.wave.val).parked = false)
    (hr : ((s.street w.src.val w.dst.val).waves.get w.wave.val).replay ≠ [])
    (hps : ((s.street w.src.val w.dst.val).waves.get w.wave.val).paused = false) :
    let x := (s.street w.src.val w.dst.val).waves.get w.wave.val
    let t := s.modWave w.src.val w.dst.val w.wave.val (fun _ => { x with fails := x.fails + 1 })
    execReplayTimeout w g s = .next (if 8 ≤ x.fails then t.waveDown w.src.val w.dst.val w.wave.val
      else (t.resend w.src.val w.dst.val w.wave.val x.replay).laneRetries g x.replay.length) := by
  intro x t
  have ht : t = s.modWave w.src.val w.dst.val w.wave.val (fun y => { y with fails := y.fails + 1 }) :=
    State.modWave_congr _ _ _ _ _ _ rfl
  rw [execReplayTimeout]
  simp only [hd, hpk, hps, List.isEmpty_eq_false_iff.2 hr, ht, Bool.or_self, Bool.false_eq_true, if_false]
  split <;> rfl

/-- Settles O12: a flit by the wavelength it finds (`Street.next`), the entries of a link by what the replay buffer holds. -/
theorem linksAndReplay : Obligations.LinksAndReplay := by
  unfold Obligations.LinksAndReplay
  refine ⟨fun s src dst w header payload hh _ hp hw => ?_, fun w seq g s => ?_⟩
  · intro t W
    have hmod : w % max 1 (streetWidth src dst) = w := Nat.mod_eq_of_lt (by omega)
    refine ⟨fun hdown => s.sendFlit_none _ _ (Street.next_eq_none (by omega) hdown), fun k hk hdown hup => ?_⟩
    intro v x hq hpause hroom f u
    exact s.sendFlit_sent hh hp (by rw [hmod]; exact Street.next_eq_some hk hdown hup) hup hq hpause hroom
  · intro a b n x wave resent
    rw [exec_linkAck, exec_linkNak, exec_linkPause, exec_linkResume, exec_replayTimeout]
    refine ⟨fun pre f post hr hpre => ⟨?_, fun hd hpk hk => ?_, fun hd hpk hk h8 => ?_⟩, fun habs => ⟨?_, ?_⟩, ?_, ?_, fun h => ?_, fun hd hpk hr hps => ⟨fun h8 => ?_, fun h8 => ?_⟩⟩
    · rw [execLinkAck, State.modWave_congr s a b n _ (fun _ => { x with replay := post, fails := 0 })]
      simp only [show (s.street a b).waves.get n = x from rfl, hr, dropThrough_found hpre]
      rw [if_neg (by simp only [List.length_append, List.length_cons]; omega)]
    · have hm : ¬ 8 ≤ if pre = [] then x.fails else 0 := by split <;> simp_all
      rw [execLinkNak_found w g s hr hpre hd hpk, if_neg hm, State.resend_eq,
        show (if pre = [] then x.fails else 0) + 1 = if pre = [] then x.fails + 1 else 1 by split <;> rfl]
    · rw [execLinkNak_found w g s hr hpre hd hpk, if_pos hk, if_pos h8]
      subst hk
      rw [show x = { x with replay := (seq, f) :: post } by rw [← List.nil_append (_ :: _), ← hr]]
    · rw [execLinkAck, State.modWave_congr s a b n _ (fun _ => x)]
      simp only [show (s.street a b).waves.get n = x from rfl, dropThrough_absent habs, if_true]
    · have hnone : x.replay.dropWhile (fun e => e.1 != seq) = [] := dropWhile_absent habs
      rw [execLinkNak]
      simp only [show (s.street w.src.val w.dst.val).waves.get w.wave.val = x from rfl, hnone, List.isEmpty_nil, Bool.or_true, if_true]
    · exact congrArg Host.Outcome.next (State.modWave_congr s a b n _ (fun _ => { x with paused := true }) rfl)
    · rw [execLinkResume]
      simp only [State.wave_modWave_self, State.resend_eq]
      rw [State.modWave_congr s a b n _ (fun _ => { x with paused := false }) rfl]
    · exact if_pos (by simpa [or_assoc] using h)
    · rw [execReplayTimeout_due w g s hd hpk hr hps, if_neg (Nat.not_le.2 h8), State.resend_eq]
    · rw [execReplayTimeout_due w g s hd hpk hr hps, if_pos h8]

end Sys2Proof.Machine
end

section
/-! PROOF. Tallies (R120, R166, R337, R338). -/
namespace Sys2Proof.Machine

/-- The plazas that have tallies: the shallots and the two gateways. -/
def hasTallies (P : Nat) : Prop := P < 8 ∨ P = 24 ∨ P = 25

theorem synForm_iff (a : SynArgs) : synForm a = true ↔ (a.plaza.val < 8 ∧ a.index.toNat < 16384) ∨ a.plaza.val = 24 ∨ a.plaza.val = 25 := by
  simp only [synForm, Bool.or_eq_true, Bool.and_eq_true, decide_eq_true_eq, beq_iff_eq, or_assoc]

section Put
variable (s : State) {P : Nat} (I : Nat) (v : Tally) (hP : hasTallies P)

theorem State.tally_putTally_self : (s.putTally P I v).tally P I = v := by
  unfold State.putTally State.tally
  by_cases h : P < 8
  · simp [h]
  · simp [h]

include hP

theorem State.tally_putTally_ne {P' I' : Nat} (hP' : hasTallies P') (hne : (P', I') ≠ (P, I)) : (s.putTally P I v).tally P' I' = s.tally P' I' := by
  have hI : P' = P → I' ≠ I := fun h h' => hne (by rw [h, h'])
  unfold State.putTally State.tally
  by_cases h : P < 8
  · rw [if_pos h]
    by_cases h' : P' < 8
    · rw [if_pos h', if_pos h']
      by_cases hPP : P' = P
      · subst hPP
        rw [State.modSh_shal_self]
        exact Tbl.get_set_ne _ _ (hI rfl)
      · rw [State.modSh_shal_ne _ _ hPP]
    · rw [if_neg h', if_neg h', State.modSh_net]
  · rw [if_neg h]
    by_cases h' : P' < 8
    · rw [if_pos h', if_pos h', State.modGw_shal]
    · rw [if_neg h', if_neg h', State.modGw_gw]
      by_cases hPP : P' = P
      · subst hPP
        rw [Tbl.get_mod_self]
        exact Tbl.get_set_ne _ _ (hI rfl)
      · rw [Tbl.get_mod_ne _ _ (by unfold hasTallies at hP hP'; omega)]

end Put

/-- What a changed tally leaves: nothing but the tables of tallies changes. -/
theorem State.putTally_keeps (s : State) (P I : Nat) (v : Tally) :
    { s.putTally P I v with sh := s.sh, net := s.net } = s ∧ { (s.putTally P I v).net with gw := s.net.gw } = s.net ∧
    (∀ n, { (s.putTally P I v).shal n with tallies := (s.shal n).tallies } = s.shal n) ∧
    (∀ g, { (s.putTally P I v).net.gw.get g with tallies := (s.net.gw.get g).tallies } = s.net.gw.get g) := by
  unfold State.putTally
  by_cases h : P < 8
  · rw [if_pos h]
    refine ⟨rfl, rfl, fun n => ?_, fun _ => rfl⟩
    by_cases hn : n = P
    · subst hn
      rw [State.modSh_shal_self]
    · rw [State.modSh_shal_ne _ _ hn]
  · rw [if_neg h]
    refine ⟨rfl, rfl, fun n => by rw [State.modGw_shal], fun g => ?_⟩
    rw [State.modGw_gw]
    by_cases hg : g = P - 24
    · subst hg
      rw [Tbl.get_mod_self]
    · rw [Tbl.get_mod_ne _ _ hg]

/-- The checkpoint has the old value of a tally, or needs none (R166). -/
def State.tallySaved (s : State) (P I : Nat) : Prop := s.executing = false ∨ ∃ x ∈ s.seq.tallySave, x.1 = P ∧ x.2.1 = I

theorem State.saveTally_saved {s : State} {P I : Nat} (h : s.tallySaved P I) : s.saveTally P I = s := by
  refine if_neg fun hc => ?_
  simp only [Bool.and_eq_true, Bool.not_eq_true', List.any_eq_false, beq_iff_eq] at hc
  rcases h with h | ⟨x, hx, hP, hI⟩
  · rw [h] at hc
    exact absurd hc.1 Bool.false_ne_true
  · exact hc.2 x hx ⟨hP, hI⟩

theorem State.saveTally_unsaved {s : State} {P I : Nat} (h : ¬ s.tallySaved P I) :
    s.saveTally P I = { s with seq := { s.seq with tallySave := s.seq.tallySave ++ [(P, I, s.tally P I)] } } := by
  refine if_pos ?_
  simp only [State.tallySaved, not_or, Bool.not_eq_false, not_exists, not_and] at h
  simp only [Bool.and_eq_true, Bool.not_eq_true', List.any_eq_false, beq_iff_eq]
  exact ⟨h.1, fun x hx hc => h.2 x hx hc.1 hc.2⟩

/-- A tally that the step changes: its new value, every other tally, the checkpoint's entry and the rest of the state. -/
theorem State.modTally_makes (s : State) {P : Nat} (I : Nat) (hP : hasTallies P) (f : Tally → Tally) :
    let t := s.modTally P I f
    t.tally P I = f (s.tally P I) ∧ (∀ P' I', P' < 8 ∨ P' = 24 ∨ P' = 25 → (P', I') ≠ (P, I) → t.tally P' I' = s.tally P' I') ∧
      { t with sh := s.sh, net := s.net, seq := s.seq } = s ∧ { t.net with gw := s.net.gw } = s.net ∧
      (∀ n, { t.shal n with tallies := (s.shal n).tallies } = s.shal n) ∧
      (∀ g, { t.net.gw.get g with tallies := (s.net.gw.get g).tallies } = s.net.gw.get g) ∧
      { t.seq with tallySave := s.seq.tallySave } = s.seq ∧
      (s.tallySaved P I → t.seq.tallySave = s.seq.tallySave) ∧
      (¬ s.tallySaved P I → t.seq.tallySave = s.seq.tallySave ++ [(P, I, s.tally P I)]) := by
  intro t
  obtain ⟨l, hl, hsave, hunsaved⟩ : ∃ l, s.saveTally P I = { s with seq := { s.seq with tallySave := l } } ∧
      (s.tallySaved P I → l = s.seq.tallySave) ∧ (¬ s.tallySaved P I → l = s.seq.tallySave ++ [(P, I, s.tally P I)]) := by
    by_cases h : s.tallySaved P I
    · exact ⟨_, State.saveTally_saved h, fun _ => rfl, fun h' => absurd h h'⟩
    · exact ⟨_, State.saveTally_unsaved h, fun h' => absurd h' h, fun _ => rfl⟩
  have ht : t = { s with seq := { s.seq with tallySave := l } }.putTally P I (f (s.tally P I)) := by
    simp only [t, State.modTally, hl]
  obtain ⟨hs, hnet, hsh, hgw⟩ := { s with seq := { s.seq with tallySave := l } }.putTally_keeps P I (f (s.tally P I))
  have hself := { s with seq := { s.seq with tallySave := l } }.tally_putTally_self I (f (s.tally P I)) (P := P)
  have hne := fun P' I' => { s with seq := { s.seq with tallySave := l } }.tally_putTally_ne I (f (s.tally P I)) hP (P' := P') (I' := I')
  rw [← ht] at hs hnet hsh hgw hself hne
  have hseq : t.seq = { s.seq with tallySave := l } := (congrArg State.seq hs :)
  refine ⟨hself, fun P' I' hP' => hne P' I' hP', ?_, hnet, hsh, hgw, ?_, ?_, ?_⟩
  · exact congrArg (fun u : State => { u with seq := s.seq }) hs
  · rw [hseq]
  · rw [hseq]; exact hsave
  · rw [hseq]; exact hunsaved

theorem bitsOf_low (x n : Nat) : bitsOf x 0 n = x % 2 ^ n := by
  rw [bitsOf_eq_div_mod, Nat.pow_zero, Nat.div_one]

/-- Settles O13: the three operations that change a tally by `State.modTally_makes`, WAIT and its retest by its condition. -/
theorem tallyOperations : Obligations.TallyOperations := by
  unfold Obligations.TallyOperations
  intro r a s ha P I old saved makes hold
  have hform : synForm a = true := (synForm_iff a).2 ha
  have hP : hasTallies P := ha.imp_left And.left
  have hmakes : ∀ c f, exec c s = s.synOp a f → makes c (f old) := fun c f hc =>
    ⟨s.modTally P I f, hc.trans (if_pos hform), s.modTally_makes I hP f⟩
  refine ⟨hmakes _ _ (exec_synAdd r a s), ?_, hmakes _ _ (exec_synClr r a s), fun h => ?_, fun h => ?_, ?_⟩
  · have hset := hmakes _ _ (exec_setf r a s)
    rwa [bitsOf_low] at hset
  · have hmet : s.tallyMet hold = true := decide_eq_true h
    rw [exec_waitTally, execWaitTally, if_pos hform]
    exact congrArg Host.Outcome.next (if_pos hmet)
  · have hmet : ¬ s.tallyMet hold = true := fun hc => Nat.not_le.2 h (of_decide_eq_true hc)
    rw [exec_waitTally, execWaitTally, if_pos hform]
    exact congrArg Host.Outcome.next (if_neg hmet)
  · refine ⟨_, exec_waitRetest r s, fun w => ?_⟩
    rw [List.mem_filter, State.tallyMet]
    simp only [Bool.or_eq_true, bne_iff_ne, ne_eq, Bool.not_eq_true', decide_eq_false_iff_not, Nat.not_le]
    exact and_congr_right fun _ => Decidable.imp_iff_not_or.symm

end Sys2Proof.Machine
end

section
/-! PROOF. The memory of the stacks: units, whole writes and whole reads (R275, R283, R288, R519). -/
namespace Sys2Proof.Machine

/-! ### Units and their numbers -/

theorem hbmAddr_unit (h u i : Nat) : hbmAddr h (64 * u + i) = 64 * hbmUnit h u + i := by
  unfold hbmAddr hbmUnit; omega

theorem hbmAddr_unit_start (h u : Nat) : hbmAddr h (64 * u) = 64 * hbmUnit h u := by
  unfold hbmAddr hbmUnit; omega

/-- The addresses of different units do not meet. -/
theorem hbmAddr_outside {n k n' k' i : Nat} (hi : i < 64) (hne : hbmUnit n k ≠ hbmUnit n' k') :
    hbmAddr n (64 * k + i) < hbmAddr n' (64 * k') ∨ hbmAddr n' (64 * k') + 64 ≤ hbmAddr n (64 * k + i) := by
  rw [hbmAddr_unit, hbmAddr_unit_start]
  omega

/-- Within their stacks, different units have different numbers. -/
theorem hbmUnit_inj {h u h' u' : Nat} (hu : u < 2 ^ 30) (hu' : u' < 2 ^ 30) (heq : hbmUnit h u = hbmUnit h' u') : (h, u) = (h', u') := by
  unfold hbmUnit at heq
  rw [Prod.mk.injEq]
  omega

theorem SameOutside.refl (us : List (Nat × Nat)) (s : State) : SameOutside us s s := ⟨fun _ _ => rfl, fun _ _ => rfl⟩

theorem SameOutside.of_eq {us : List (Nat × Nat)} {s t : State} (hhbm : t.hbm = s.hbm) (htags : t.tags = s.tags) : SameOutside us s t :=
  ⟨fun _ _ => by rw [hhbm], fun _ _ => by rw [htags]⟩

/-- Changes within `us` and then within `vs` are changes within both. -/
theorem SameOutside.append {us vs : List (Nat × Nat)} {s t u : State} (h : SameOutside us s t) (h' : SameOutside vs t u) :
    SameOutside (us ++ vs) s u :=
  ⟨fun a ha => (h'.1 a fun v hv => ha v (List.mem_append_right _ hv)).trans (h.1 a fun v hv => ha v (List.mem_append_left _ hv)),
    fun k hk => (h'.2 k fun v hv => hk v (List.mem_append_right _ hv)).trans (h.2 k fun v hv => hk v (List.mem_append_left _ hv))⟩

theorem SameOutside.trans {us : List (Nat × Nat)} {s t u : State} (h : SameOutside us s t) (h' : SameOutside us t u) : SameOutside us s u :=
  ⟨fun a ha => (h'.1 a ha).trans (h.1 a ha), fun k hk => (h'.2 k hk).trans (h.2 k hk)⟩

/-- A unit outside reads the same. -/
theorem SameOutside.unitUnder {us : List (Nat × Nat)} {s t : State} (h : SameOutside us s t) {n k : Nat} (hk : k < 2 ^ 30)
    (hus : ∀ v ∈ us, v.2 < 2 ^ 30 ∧ v ≠ (n, k)) (key : Nat) : t.unitUnder n k key = s.unitUnder n k key := by
  have hne : ∀ v ∈ us, hbmUnit n k ≠ hbmUnit v.1 v.2 := fun v hv heq => (hus v hv).2 (hbmUnit_inj hk (hus v hv).1 heq).symm
  simp only [State.unitUnder, h.2 _ hne, upto_eq_range]
  refine List.map_congr_left fun i hi => ?_
  have hget := h.1 (hbmAddr n (64 * k + i)) fun v hv => hbmAddr_outside (List.mem_range.1 hi) (hne v hv)
  simp only [hget]

/-! ### One unit stored -/

section Store
variable (s : State) (h u : Nat) (key : Option Nat) (epoch : Bool) {bs : List Byte} (hlen : bs.length = 64)
include hlen

theorem State.putUnit_sameOutside : SameOutside [(h, u)] s (s.putUnit h u key epoch bs) := by
  refine ⟨fun a ha => ?_, fun k hk => ?_⟩
  · have hout := ha (h, u) (List.mem_singleton_self _)
    exact memGet_put_out s.hbm _ bs a (by rw [hlen]; exact hout)
  · have hne : k ≠ hbmUnit h u := hk (h, u) (List.mem_singleton_self _)
    exact Tbl.get_set_ne s.tags _ hne

theorem State.unitUnder_putUnit (k : Nat) : (s.putUnit h u (some k) epoch bs).unitUnder h u k = bs := by
  simp only [State.unitUnder, State.putUnit, Tbl.get_set_self, beq_self_eq_true, if_true, upto_eq_range]
  refine List.ext_getElem (by rw [List.length_map, List.length_range, hlen]) fun i hi hi' => ?_
  rw [List.getElem_map, List.getElem_range]
  rw [memGet_put_in _ _ _ _ (by unfold hbmAddr; omega) (by unfold hbmAddr; omega),
    show hbmAddr h (64 * u + i) - hbmAddr h (64 * u) = i by unfold hbmAddr; omega, List.getElem?_eq_getElem hi', Option.getD_some]

theorem State.storeUnit_sameOutside (session : Bool) : SameOutside [(h, u)] s (s.storeUnit h u session bs) := by
  unfold State.storeUnit
  cases session
  · exact s.putUnit_sameOutside h u _ _ hlen
  · exact s.putUnit_sameOutside h u _ _ hlen

/-- A stored unit of a RUN region reads back (R519). -/
theorem State.unitBytes_storeUnit_run : (s.storeUnit h u false bs).unitBytes h u false = some bs :=
  congrArg some (s.unitUnder_putUnit h u false hlen ((s.mem.get h).keyRun.getD 0))

/-- A stored unit of a SESSION region reads back where the current epoch has a key (R288). -/
theorem State.unitBytes_storeUnit_session (hkey : ((s.mem.get h).sessionKey (s.mem.get h).epoch).isSome = true) :
    (s.storeUnit h u true bs).unitBytes h u true = some bs := by
  obtain ⟨k, hk⟩ := Option.isSome_iff_exists.1 hkey
  have hread : (s.storeUnit h u true bs).readKey h u true = some k := by
    simp only [State.readKey, State.storeUnit, State.putUnit, if_true, Tbl.get_set_self]
    exact hk
  rw [State.unitBytes, hread, Option.map_some]
  simp only [State.storeUnit, if_true, hk]
  rw [s.unitUnder_putUnit h u _ hlen]

end Store

theorem State.storeUnit_keeps (s : State) (h u : Nat) (session : Bool) (bs : List Byte) :
    { s.storeUnit h u session bs with hbm := s.hbm, tags := s.tags } = s := by
  cases session <;> rfl

/-! ### The units of a region -/

theorem Region.stackList_nodup (r : Region) : r.stackList.Nodup := by
  unfold Region.stackList
  rw [upto_eq_range]
  exact List.nodup_range.filter _

/-- A granule in units. -/
theorem Region.granule_eq (r : Region) : r.granule = 64 * (8 * 2 ^ bitsOf r.interleave.toNat 0 4) := by
  unfold Region.granule
  rw [Nat.pow_add]
  omega

/-- Where a unit of a region lies: its stack by the granule, and its unit number there (R275). -/
theorem Region.unit_eq (r : Region) (hbase : r.base % 64 = 0) (o : Nat) :
    let q := 8 * 2 ^ bitsOf r.interleave.toNat 0 4
    let n := max 1 r.stackList.length
    r.unit o = ((r.stackList[o / q % n]?).getD 0, r.base / 64 + (o / q / n * q + o % q)) := by
  intro q n
  have hdiv : 64 * o / (64 * q) = o / q := Nat.mul_div_mul_left _ _ (by omega)
  have hdiv' : 64 * o / (64 * q * n) = o / q / n := by rw [← Nat.div_div_eq_div_mul, hdiv]
  have hmod : 64 * o % (64 * q) = 64 * (o % q) := Nat.mul_mod_mul_left _ _ _
  simp only [Region.unit, Region.locate, r.granule_eq]
  rw [hdiv, hdiv', hmod, Nat.mul_left_comm (o / q / n) 64 q]
  exact Prod.ext rfl (by dsimp only; omega)

/-- Different units of a region are different units of the stacks. -/
theorem Region.unit_inj (r : Region) (hbase : r.base % 64 = 0) {o o' : Nat} (h : r.unit o = r.unit o') : o = o' := by
  have hq : 0 < 8 * 2 ^ bitsOf r.interleave.toNat 0 4 := Nat.mul_pos (by decide) (Nat.two_pow_pos _)
  rw [r.unit_eq hbase, r.unit_eq hbase, Prod.mk.injEq] at h
  obtain ⟨hst, hun⟩ := h
  generalize 8 * 2 ^ bitsOf r.interleave.toNat 0 4 = q at hq hst hun
  have hmod : o % q = o' % q := by
    have := congrArg (· % q) (Nat.add_left_cancel hun)
    simpa [Nat.mul_add_mod_self_right] using this
  have hblk : o / q / max 1 r.stackList.length = o' / q / max 1 r.stackList.length := by
    rw [hmod] at hun
    exact Nat.eq_of_mul_eq_mul_right hq (Nat.add_right_cancel (Nat.add_left_cancel hun))
  have hpos : o / q % max 1 r.stackList.length = o' / q % max 1 r.stackList.length := by
    rcases Nat.eq_zero_or_pos r.stackList.length with h0 | h0
    · simp [h0, Nat.mod_one]
    · rw [Nat.max_eq_right h0] at hst ⊢
      have hi := Nat.mod_lt (o / q) h0
      have hj := Nat.mod_lt (o' / q) h0
      rw [List.getElem?_eq_getElem hi, List.getElem?_eq_getElem hj] at hst
      exact (List.getElem_inj r.stackList_nodup).1 hst
  have hgr : o / q = o' / q := by
    rw [← Nat.div_add_mod (o / q) (max 1 r.stackList.length), hblk, hpos, Nat.div_add_mod]
  rw [← Nat.div_add_mod o q, hgr, hmod, Nat.div_add_mod]

/-- A unit of a region lies within its stack. -/
theorem Region.unit_lt {r : Region} (hfits : r.fits) {o : Nat} (ho : 64 * o < r.size) : (r.unit o).2 < 2 ^ 30 := by
  obtain ⟨hsize, hbase⟩ := hfits
  rw [r.unit_eq hbase]
  generalize 8 * 2 ^ bitsOf r.interleave.toNat 0 4 = q
  have h1 : o / q / max 1 r.stackList.length * q ≤ o / q * q := Nat.mul_le_mul_right _ (Nat.div_le_self _ _)
  have h2 := Nat.div_add_mod o q
  rw [Nat.mul_comm] at h2
  dsimp only
  omega

/-! ### A whole unit written into a region -/

/-- A stack after a whole-unit write: nothing but its lost-unit list and its combining buffer changed. -/
def Stack.sameKeys (m m' : Stack) : Prop := { m' with lost := m.lost, combine := m.combine } = m

theorem Stack.sameKeys.refl (m : Stack) : m.sameKeys m := rfl

theorem Stack.sameKeys.trans {m m' m'' : Stack} (h : m.sameKeys m') (h' : m'.sameKeys m'') : m.sameKeys m'' := by
  unfold Stack.sameKeys at h h' ⊢
  exact (congrArg (fun x : Stack => { x with lost := m.lost, combine := m.combine }) h').trans h

theorem Stack.sameKeys.epoch {m m' : Stack} (h : m.sameKeys m') : m'.epoch = m.epoch := (congrArg Stack.epoch h :)

theorem Stack.sameKeys.sessionKey {m m' : Stack} (h : m.sameKeys m') (e : Bool) : m'.sessionKey e = m.sessionKey e :=
  (congrArg (fun x => Stack.sessionKey x e) h :)

theorem Stack.sameKeys.keyRun {m m' : Stack} (h : m.sameKeys m') : m'.keyRun = m.keyRun := (congrArg Stack.keyRun h :)

/-- A unit outside reads the same under the key that serves it. -/
theorem SameOutside.unitBytes {us : List (Nat × Nat)} {s t : State} (h : SameOutside us s t) {n k : Nat} (hk : k < 2 ^ 30)
    (hus : ∀ v ∈ us, v.2 < 2 ^ 30 ∧ v ≠ (n, k)) (hkeys : (s.mem.get n).sameKeys (t.mem.get n)) (session : Bool) :
    t.unitBytes n k session = s.unitBytes n k session := by
  have htag : t.tags.get (hbmUnit n k) = s.tags.get (hbmUnit n k) :=
    h.2 _ fun v hv heq => (hus v hv).2 (hbmUnit_inj hk (hus v hv).1 heq).symm
  have hread : t.readKey n k session = s.readKey n k session := by
    simp only [State.readKey, htag, hkeys.sessionKey, hkeys.keyRun]
  rw [State.unitBytes, State.unitBytes, hread]
  exact congrArg (fun f => (s.readKey n k session).map f) (funext (h.unitUnder hk hus))

section Whole
variable (s : State) (r : Region) (region o : Nat) {bs : List Byte} (hlen : bs.length = 64)

/-- The state before the bytes of a whole unit are stored. -/
def State.unitFreed (s : State) (r : Region) (region o : Nat) : State :=
  (s.dropCombine (r.unit o).1 region o 1).modMem (r.unit o).1 (fun m => { m with lost := m.lost.erase (r.unit o).2 })

include hlen in
theorem State.writeUnit_whole (at_ : Nat) :
    s.writeUnit r region o at_ bs = ((s.unitFreed r region o).storeUnit (r.unit o).1 (r.unit o).2 r.session bs, true) := by
  unfold State.writeUnit
  exact if_pos hlen

theorem State.unitFreed_mem (n : Nat) :
    (s.mem.get n).sameKeys ((s.unitFreed r region o).mem.get n) ∧
    ((s.unitFreed r region o).mem.get n).lost = if n = (r.unit o).1 then (s.mem.get n).lost.erase (r.unit o).2 else (s.mem.get n).lost := by
  simp only [State.unitFreed, State.dropCombine, State.modMem_mem]
  by_cases hn : n = (r.unit o).1
  · subst hn
    simp only [Tbl.get_mod_self, if_true]
    exact ⟨rfl, trivial⟩
  · simp only [Tbl.get_mod_ne _ _ hn, if_neg hn]
    exact ⟨rfl, trivial⟩

include hlen

/-- What a whole unit written into a region changes, and what it reads afterwards (R283, R288). -/
theorem State.writeUnit_whole_spec (at_ : Nat) :
    let t := (s.writeUnit r region o at_ bs).1
    { t with hbm := s.hbm, tags := s.tags, mem := s.mem } = s ∧ SameOutside [r.unit o] s t ∧
    (∀ n, (s.mem.get n).sameKeys (t.mem.get n) ∧
      (t.mem.get n).lost = if n = (r.unit o).1 then (s.mem.get n).lost.erase (r.unit o).2 else (s.mem.get n).lost) ∧
    (r.session = false → t.unitBytes (r.unit o).1 (r.unit o).2 false = some bs) ∧
    (r.session = true → ((s.mem.get (r.unit o).1).sessionKey (s.mem.get (r.unit o).1).epoch).isSome = true →
      t.unitBytes (r.unit o).1 (r.unit o).2 true = some bs) := by
  intro t
  have ht : t = (s.unitFreed r region o).storeUnit (r.unit o).1 (r.unit o).2 r.session bs := by
    simp only [t, s.writeUnit_whole r region o hlen at_]
  have hkeeps := (s.unitFreed r region o).storeUnit_keeps (r.unit o).1 (r.unit o).2 r.session bs
  have hmem : t.mem = (s.unitFreed r region o).mem := by rw [ht]; exact (congrArg State.mem hkeeps :)
  refine ⟨?_, ?_, fun n => ?_, fun hs => ?_, fun hs hkey => ?_⟩
  · rw [ht]
    exact (congrArg (fun x : State => { x with hbm := s.hbm, tags := s.tags, mem := s.mem }) hkeeps :)
  · rw [ht]
    exact (s.unitFreed r region o).storeUnit_sameOutside _ _ hlen _
  · rw [hmem]
    exact s.unitFreed_mem r region o n
  · rw [ht, hs]
    exact State.unitBytes_storeUnit_run _ _ _ hlen
  · rw [ht, hs]
    obtain ⟨hkeys, -⟩ := s.unitFreed_mem r region o (r.unit o).1
    exact State.unitBytes_storeUnit_session _ _ _ hlen (by rw [hkeys.epoch, hkeys.sessionKey]; exact hkey)

end Whole

/-! ### Whole units written one after another -/

/-- Whole units written from unit `o` on. -/
def State.writeWhole (s : State) (r : Region) (region o : Nat) : List (List Byte) → State
  | [] => s
  | b :: bs => (s.writeUnit r region o 0 b).1.writeWhole r region (o + 1) bs

theorem State.writeGo_whole (r : Region) (region : Nat) (bs : List (List Byte)) (hlen : ∀ b ∈ bs, b.length = 64) (s : State) (o fuel : Nat)
    (hfuel : bs.length < fuel) : s.writeGo r region fuel (64 * o) bs.flatten = (s.writeWhole r region o bs, true) := by
  induction bs generalizing s o fuel with
  | nil =>
    obtain ⟨fuel, rfl⟩ := Nat.exists_eq_add_of_lt hfuel
    rw [State.writeGo.eq_def]
    rfl
  | cons b bs ih =>
    obtain ⟨hb, hbs⟩ := List.forall_mem_cons.1 hlen
    obtain ⟨fuel, rfl⟩ : ∃ m, fuel = m + 1 := ⟨fuel - 1, by rw [List.length_cons] at hfuel; omega⟩
    rw [List.length_cons] at hfuel
    have hmod : 64 * o % 64 = 0 := Nat.mul_mod_right _ _
    have hne : (b ++ bs.flatten).isEmpty = false := by
      cases b with
      | nil => simp at hb
      | cons _ _ => rfl
    simp only [List.flatten_cons, State.writeGo, hne, hmod, Nat.mul_div_cancel_left o (show 0 < 64 by decide), Nat.sub_zero,
      List.take_left' hb, List.drop_left' hb, Bool.false_eq_true, if_false]
    rw [show 64 * o + 64 = 64 * (o + 1) by omega, ih hbs _ _ _ (by omega), State.writeUnit_whole _ _ _ _ hb]
    simp only [Bool.and_true, State.writeWhole, State.writeUnit_whole _ _ _ _ hb]

/-- Units that are not empty are no more than their bytes. -/
theorem length_le_sum_lengths {bs : List (List Byte)} (hlen : ∀ b ∈ bs, b.length = 64) : bs.length ≤ (bs.map List.length).sum := by
  induction bs with
  | nil => exact Nat.le_refl 0
  | cons b bs ih =>
    obtain ⟨hb, hbs⟩ := List.forall_mem_cons.1 hlen
    have hrest := ih hbs
    rw [List.map_cons, List.sum_cons, List.length_cons, hb]
    omega

/-- Whole units written as bytes. -/
theorem State.writeRegion_whole (s : State) (r : Region) (region o : Nat) {bs : List (List Byte)} (hlen : ∀ b ∈ bs, b.length = 64) :
    s.writeRegion r region (64 * o) bs.flatten = (s.writeWhole r region o bs, true) := by
  refine State.writeGo_whole r region bs hlen s o _ (Nat.lt_succ_of_le ?_)
  rw [List.length_flatten]
  exact length_le_sum_lengths hlen

/-- What whole units written from unit `o` on change, and what they read afterwards. -/
theorem State.writeWhole_spec (r : Region) (hfits : r.fits) (region : Nat) (bs : List (List Byte)) (hlen : ∀ b ∈ bs, b.length = 64) (s : State) (o : Nat)
    (hin : 64 * (o + bs.length) ≤ r.size) :
    let t := s.writeWhole r region o bs
    { t with hbm := s.hbm, tags := s.tags, mem := s.mem } = s ∧
    SameOutside ((List.range bs.length).map (fun i => r.unit (o + i))) s t ∧
    (∀ n, (s.mem.get n).sameKeys (t.mem.get n)) ∧
    (∀ n k, (∀ i, i < bs.length → r.unit (o + i) ≠ (n, k)) → (t.mem.get n).lost.count k = (s.mem.get n).lost.count k) ∧
    ∀ i b, bs[i]? = some b →
      (t.mem.get (r.unit (o + i)).1).lost.count (r.unit (o + i)).2 = (s.mem.get (r.unit (o + i)).1).lost.count (r.unit (o + i)).2 - 1 ∧
      (r.session = false → t.unitBytes (r.unit (o + i)).1 (r.unit (o + i)).2 false = some b) ∧
      (r.session = true → ((s.mem.get (r.unit (o + i)).1).sessionKey (s.mem.get (r.unit (o + i)).1).epoch).isSome = true →
        t.unitBytes (r.unit (o + i)).1 (r.unit (o + i)).2 true = some b) := by
  induction bs generalizing s o with
  | nil => exact ⟨rfl, SameOutside.refl _ _, fun _ => Stack.sameKeys.refl _, fun _ _ _ => rfl, fun i b h => absurd h (by simp)⟩
  | cons b bs ih =>
    obtain ⟨hb, hbs⟩ := List.forall_mem_cons.1 hlen
    rw [List.length_cons] at hin
    obtain ⟨hkeep₁, hout₁, hmem₁, hrun₁, hses₁⟩ := s.writeUnit_whole_spec r region o hb 0
    simp only [State.writeWhole]
    generalize (s.writeUnit r region o 0 b).1 = s₁ at *
    obtain ⟨hkeep, hout, hmem, hlost, hget⟩ := ih hbs s₁ (o + 1) (by omega)
    generalize s₁.writeWhole r region (o + 1) bs = t at *
    have hunits : (List.range (bs.length + 1)).map (fun i => r.unit (o + i)) =
        [r.unit o] ++ (List.range bs.length).map (fun i => r.unit (o + 1 + i)) := by
      rw [List.range_succ_eq_map, List.map_cons, List.map_map, List.singleton_append]
      exact congrArg (r.unit o :: ·) (List.map_congr_left fun i _ => congrArg r.unit (by omega))
    have hne : ∀ i, r.unit (o + 1 + i) ≠ r.unit o := fun i heq => by have := r.unit_inj hfits.2 heq; omega
    have hlost₁ : ∀ n k, (n, k) ≠ r.unit o → (s₁.mem.get n).lost.count k = (s.mem.get n).lost.count k := fun n k hnk => by
      rw [(hmem₁ n).2]
      split
      · next hn => exact List.count_erase_of_ne fun hk => hnk (Prod.ext hn hk)
      · rfl
    refine ⟨?_, ?_, fun n => (hmem₁ n).1.trans (hmem n), fun n k hnk => ?_, fun i c hc => ?_⟩
    · exact (congrArg (fun x : State => { x with hbm := s.hbm, tags := s.tags, mem := s.mem }) hkeep :).trans hkeep₁
    · rw [List.length_cons, hunits]
      exact hout₁.append hout
    · rw [hlost n k fun i hi => by rw [Nat.add_assoc, Nat.add_comm 1]; exact hnk (i + 1) (Nat.succ_lt_succ hi)]
      exact hlost₁ n k (hnk 0 (Nat.succ_pos _)).symm
    · cases i with
      | zero =>
        obtain rfl : b = c := Option.some.inj hc
        have hbytes : ∀ session, t.unitBytes (r.unit o).1 (r.unit o).2 session = s₁.unitBytes (r.unit o).1 (r.unit o).2 session := by
          refine hout.unitBytes (Region.unit_lt hfits (by omega)) (fun v hv => ?_) (hmem _)
          obtain ⟨i, hi, rfl⟩ := List.mem_map.1 hv
          have := List.mem_range.1 hi
          exact ⟨Region.unit_lt hfits (by omega), hne i⟩
        rw [Nat.add_zero, hbytes, hbytes]
        refine ⟨?_, hrun₁, hses₁⟩
        rw [hlost (r.unit o).1 (r.unit o).2 fun i _ => hne i, (hmem₁ _).2, if_pos rfl, List.count_erase_self]
      | succ i =>
        obtain ⟨hl, hrun, hses⟩ := hget i c hc
        rw [show o + (i + 1) = o + 1 + i by omega]
        refine ⟨by rw [hl, hlost₁ (r.unit (o + 1 + i)).1 (r.unit (o + 1 + i)).2 (hne i)], hrun, fun hs hkey => hses hs ?_⟩
        rw [(hmem₁ _).1.epoch, (hmem₁ _).1.sessionKey]
        exact hkey

/-! ### Reads without an error -/

/-- A unit reads the same where bytes, tags and keys are the same. -/
theorem State.unitBytes_congr {s t : State} {n k : Nat} {session : Bool} (hhbm : t.hbm = s.hbm) (htags : t.tags = s.tags)
    (hkey : ∀ e, (t.mem.get n).sessionKey e = (s.mem.get n).sessionKey e) (hrun : (t.mem.get n).keyRun = (s.mem.get n).keyRun) :
    t.unitBytes n k session = s.unitBytes n k session := by
  have hunder : t.unitUnder n k = s.unitUnder n k := funext fun key => by simp only [State.unitUnder, hhbm, htags]
  simp only [State.unitBytes, State.readKey, hunder, htags, hkey, hrun]

theorem State.readUnit_clean {s : State} {n k : Nat} {session : Bool} {bs : List Byte} (region src kind : Nat) (noSpare quiet : Bool)
    (hlost : (s.mem.get n).lost.contains k = false) (hbytes : s.unitBytes n k session = some bs) :
    s.readUnit n k region session src kind none noSpare quiet = (s, some bs) := by
  unfold State.readUnit
  simp only [hlost, hbytes, Bool.false_eq_true, if_false]

theorem State.readUnits_clean {s : State} {r : Region} {o : Nat} {bytes : Nat → List Byte} (region src kind : Nat) (env : MemEnv) (quiet : Bool)
    (henv : env.faults = []) (is : List Nat) (hclean : ∀ i ∈ is, (s.mem.get (r.unit (o + i)).1).lost.contains (r.unit (o + i)).2 = false ∧
      s.unitBytes (r.unit (o + i)).1 (r.unit (o + i)).2 r.session = some (bytes i)) :
    s.readUnits r region o src kind env quiet is = (s, some (is.flatMap bytes)) := by
  induction is with
  | nil => rfl
  | cons i is ih =>
    obtain ⟨⟨hlost, hbytes⟩, his⟩ := List.forall_mem_cons.1 hclean
    have hfault : env.faults.find? (fun f => f.unit == i) = none := by rw [henv]; rfl
    have hread := State.readUnit_clean region src kind env.noSpare quiet hlost hbytes
    simp only [Region.unit] at hread
    rw [State.readUnits]
    simp only [hfault, hread, ih his]
    rfl

/-! ### Requests that a gate die takes -/

theorem State.gateArrival_takes {s t : State} {src h : Nat} {flits : List RxFlit} {mine : Nat → Bool} {q : ReqFields} {data : List Flit}
    (ht : GateTakes s src h flits mine t q data) (env : MemEnv) : s.gateArrival src h flits env mine = t.serveReq src h q data env := by
  obtain ⟨e, hfind, rfl, hdata, rfl⟩ := ht
  unfold State.gateArrival
  simp only [hfind, hdata, Option.getD_some]

/-- What a read leaves of its stack: all but the combining buffer, its counts and the on-die corrections (R284, R289). -/
def Stack.readOf (m m' : Stack) : Prop :=
  { m' with combine := m.combine, combineHits := m.combineHits, combineFull := m.combineFull, odecc := m.odecc } = m ∧
  (m'.combineHits = m.combineHits ∨ m'.combineHits = satAdd m.combineHits 1)

/-- The state in which a READ reads its units: the combining buffer has met it. -/
def State.readMet (s : State) (h : Nat) (q : ReqFields) (env : MemEnv) : State :=
  if (s.mem.get h).combine.any (fun e => e.region == q.region && e.offset == q.offset && e.flits == q.flits && s.combineOpen e) = true then
    s.modMem h (fun m => { m with combineHits := satAdd m.combineHits 1 })
  else (s.combineEnter h q).countOdecc h env.odecc

theorem State.modMem_keeps (s : State) (h : Nat) (f : Stack → Stack) : { s.modMem h f with mem := s.mem } = s := rfl

theorem State.modMem_congr (s : State) (h : Nat) {f g : Stack → Stack} (hfg : f (s.mem.get h) = g (s.mem.get h)) : s.modMem h f = s.modMem h g := by
  simp only [State.modMem, Tbl.mod, hfg]

theorem State.combineEnter_eq (s : State) (h : Nat) (q : ReqFields) :
    ∃ c n, s.combineEnter h q = s.modMem h (fun m => { m with combine := c, combineFull := n }) := by
  let live := (s.mem.get h).combine.filter s.combineOpen
  by_cases hfree : live.length < (s.mem.get h).readEntries
  · exact ⟨live ++ [{ region := q.region, offset := q.offset, flits := q.flits, period := s.schedPeriod }], (s.mem.get h).combineFull,
      s.modMem_congr h (if_pos hfree)⟩
  · exact ⟨live, satAdd (s.mem.get h).combineFull 1, s.modMem_congr h (if_neg hfree)⟩

theorem State.readMet_spec (s : State) (h : Nat) (q : ReqFields) (env : MemEnv) :
    { s.readMet h q env with mem := s.mem } = s ∧ (∀ k, k ≠ h → (s.readMet h q env).mem.get k = s.mem.get k) ∧
    (s.mem.get h).readOf ((s.readMet h q env).mem.get h) := by
  unfold State.readMet
  split
  · refine ⟨s.modMem_keeps _ _, fun k hk => Tbl.get_mod_ne _ _ hk, ?_⟩
    rw [State.modMem_mem, Tbl.get_mod_self]
    exact ⟨rfl, .inr rfl⟩
  · obtain ⟨c, n, hc⟩ := s.combineEnter_eq h q
    rw [hc, State.countOdecc]
    split
    · refine ⟨s.modMem_keeps _ _, fun k hk => Tbl.get_mod_ne _ _ hk, ?_⟩
      rw [State.modMem_mem, Tbl.get_mod_self]
      exact ⟨rfl, .inl rfl⟩
    · refine ⟨rfl, fun k hk => (Tbl.get_mod_ne _ _ hk).trans (Tbl.get_mod_ne _ _ hk), ?_⟩
      rw [State.modMem_mem, Tbl.get_mod_self, State.modMem_mem, Tbl.get_mod_self]
      exact ⟨rfl, .inl rfl⟩

theorem State.serveRead_clean {s : State} {h : Nat} {r : Region} {q : ReqFields} {env : MemEnv} {bytes : Nat → List Byte} (src : Nat)
    (henv : env.faults = []) (hclean : ∀ i, i ≤ q.flits → (s.mem.get (r.unit (q.offset + i)).1).lost.contains (r.unit (q.offset + i)).2 = false ∧
      s.unitBytes (r.unit (q.offset + i)).1 (r.unit (q.offset + i)).2 r.session = some (bytes i)) :
    s.serveRead src h r q env = (s.readMet h q env).replyRow h q ((List.range (q.flits + 1)).flatMap bytes) := by
  obtain ⟨hkeep, hother, hself⟩ := s.readMet_spec h q env
  have hmem : ∀ n, (s.mem.get n).readOf ((s.readMet h q env).mem.get n) := fun n => by
    by_cases hn : n = h
    · rw [hn]; exact hself
    · rw [hother n hn]; exact ⟨rfl, .inl rfl⟩
  have hlost : ∀ n, ((s.readMet h q env).mem.get n).lost = (s.mem.get n).lost := fun n => (congrArg Stack.lost (hmem n).1 :)
  have hbytes : ∀ n k session, (s.readMet h q env).unitBytes n k session = s.unitBytes n k session := fun n k session =>
    State.unitBytes_congr (congrArg State.hbm hkeep :) (congrArg State.tags hkeep :) (fun e => (congrArg (fun m => Stack.sessionKey m e) (hmem n).1 :))
      (congrArg Stack.keyRun (hmem n).1 :)
  have hread : ∀ env' : MemEnv, env'.faults = [] →
      (s.readMet h q env).readUnits r q.region q.offset src 1 env' false (List.range (q.flits + 1)) =
        (s.readMet h q env, some ((List.range (q.flits + 1)).flatMap bytes)) := fun env' henv' => by
    refine State.readUnits_clean _ _ _ _ _ henv' _ fun i hi => ?_
    rw [hlost, hbytes]
    exact hclean i (Nat.lt_succ_iff.1 (List.mem_range.1 hi))
  have hunits := hread
    (if (s.mem.get h).combine.any (fun e => e.region == q.region && e.offset == q.offset && e.flits == q.flits && s.combineOpen e) = true then {} else env)
    (by split; · rfl
        · exact henv)
  unfold State.readMet at hunits ⊢
  simp only [State.serveRead, upto_eq_range, hunits]

/-! ### Writes -/

theorem reqData_length {l : List (Nat × Flit)} {q : ReqFields} {n : Nat} {data : List Flit} (h : reqData l q n = some data) : data.length = n := by
  unfold reqData at h
  dsimp only at h
  split at h
  · next hlen =>
    rw [← Option.some.inj h]
    exact hlen
  · exact nomatch h

theorem GateTakes.data_length {s t : State} {src h : Nat} {flits : List RxFlit} {mine : Nat → Bool} {q : ReqFields} {data : List Flit}
    (ht : GateTakes s src h flits mine t q data) (hop : q.op = 2 ∨ q.op = 3) : data.length = q.flits + 1 := by
  obtain ⟨e, -, rfl, hdata, -⟩ := ht
  rw [reqData_length hdata, ReqFields.needs, if_pos hop]

theorem flitBytes_length (f : Flit) : (flitBytes f).length = 64 := Sys2Proof.Laws.leBytes_length _ _

theorem State.serveWrite_eq (s : State) (src h : Nat) (r : Region) (q : ReqFields) (data : List Flit) :
    s.serveWrite src h r q data = (s.writeWhole r q.region q.offset (data.map flitBytes)).writeDone src h q.rtag := by
  have hlen : ∀ b ∈ data.map flitBytes, b.length = 64 := fun b hb => by
    obtain ⟨f, -, rfl⟩ := List.mem_map.1 hb
    exact flitBytes_length f
  rw [State.serveWrite, List.flatMap_def, s.writeRegion_whole r q.region q.offset hlen]

theorem State.serveReq_read {s : State} {q : ReqFields} {r : Region} (src h : Nat) (data : List Flit) (env : MemEnv) (hop : q.op = 1)
    (hr : s.region q.region = some r) (hin : r.holds (64 * q.offset) (64 * (q.flits + 1)) = true) :
    s.serveReq src h q data env = s.serveRead src h r q env := by
  unfold State.serveReq
  simp only [hr, hop]
  exact if_pos (by rw [ReqFields.inRegion, if_neg (by omega)]; exact hin)

theorem State.serveReq_write {s : State} {q : ReqFields} {r : Region} (src h : Nat) (data : List Flit) (env : MemEnv) (hop : q.op = 2)
    (hr : s.region q.region = some r) (hin : r.holds (64 * q.offset) (64 * (q.flits + 1)) = true) :
    s.serveReq src h q data env = s.serveWrite src h r q data := by
  unfold State.serveReq
  simp only [hr, hop]
  exact if_pos (by rw [ReqFields.inRegion, if_neg (by omega)]; exact hin)

/-! ### Cells of a unit as numbers -/

theorem leVal_lt (bs : List Byte) : leVal bs < 256 ^ bs.length := by
  induction bs with
  | nil => exact Nat.one_pos
  | cons b bs ih =>
    have := b.isLt
    rw [leVal, List.length_cons, Nat.pow_succ]
    omega

theorem leVal_leBytes (n v : Nat) : leVal (leBytes n v) = v % 256 ^ n := by
  induction n generalizing v with
  | zero => rw [leBytes, leVal, Nat.pow_zero, Nat.mod_one]
  | succ n ih =>
    rw [leBytes, leVal, ih, BitVec.toNat_ofNat, show (256 : Nat) ^ (n + 1) = 256 * 256 ^ n from Nat.pow_succ']
    exact Nat.mod_mul.symm

theorem chunksGo_eq {α : Type} {w : Nat} (hw : 0 < w) (n fuel : Nat) (l : List α) (hl : l.length = w * n) (hfuel : n ≤ fuel) :
    chunksGo w fuel l = (List.range n).map (fun i => (l.drop (w * i)).take w) := by
  induction n generalizing fuel l with
  | zero =>
    obtain rfl : l = [] := List.eq_nil_of_length_eq_zero hl
    cases fuel <;> rfl
  | succ n ih =>
    obtain ⟨fuel, rfl⟩ : ∃ m, fuel = m + 1 := ⟨fuel - 1, by omega⟩
    have hpos : 0 < l.length := by rw [hl]; exact Nat.mul_pos hw (Nat.succ_pos n)
    rw [List.range_succ_eq_map, List.map_cons, List.map_map, Nat.mul_zero, List.drop_zero]
    cases l with
    | nil => exact absurd hpos (Nat.lt_irrefl 0)
    | cons x xs =>
      rw [chunksGo, ih fuel _ (by rw [List.length_drop, hl, Nat.mul_succ]; omega) (by omega)]
      · refine congrArg _ (List.map_congr_left fun i _ => ?_)
        rw [List.drop_drop, Function.comp_apply, Nat.mul_succ, Nat.add_comm]
      · exact fun h => absurd h (by simp)

/-- The cells of a whole number of cells. -/
theorem cellsOf_eq {w : Nat} (hw : 0 < w) {n : Nat} {bs : List Byte} (hl : bs.length = w * n) :
    cellsOf w bs = (List.range n).map (fun i => leVal ((bs.drop (w * i)).take w)) := by
  rw [cellsOf, chunks, chunksGo_eq hw n _ _ hl (by rw [hl]; exact Nat.le_mul_of_pos_left n hw), List.map_map]
  rfl

/-- A piece of pieces of one length. -/
theorem drop_take_flatten {α : Type} {w : Nat} (l : List (List α)) (hl : ∀ x ∈ l, x.length = w) (i : Nat) :
    (l.flatten.drop (w * i)).take w = (l[i]?).getD [] := by
  induction l generalizing i with
  | nil => simp
  | cons x xs ih =>
    obtain ⟨hx, hxs⟩ := List.forall_mem_cons.1 hl
    cases i with
    | zero => simp [← hx]
    | succ i =>
      rw [List.flatten_cons, Nat.mul_succ, Nat.add_comm, ← List.drop_drop, List.drop_left' hx, ih hxs, List.getElem?_cons_succ]

/-! ### One unit of an atomic -/

/-- An atomic of one operand leaves a cell within its width. -/
theorem aopCell_lt {aop old opnd : Nat} (hw : cellBytes aop ≠ 0) (hcas : aop % 128 ≠ 11) (hold : old < 256 ^ cellBytes aop)
    (hop : opnd < 256 ^ cellBytes aop) : (aopCell aop old opnd 0).getD old < 256 ^ cellBytes aop := by
  have hite : ∀ (p : Prop) [Decidable p] (m : Nat), old < m → opnd < m → (if p then opnd else old) < m := fun p _ m ho hn => by
    split
    · exact hn
    · exact ho
  have hpow : (256 : Nat) ^ 8 = 2 ^ 64 := by decide
  unfold aopCell
  unfold cellBytes at hw hold hop ⊢
  generalize aop % 128 = c at *
  match c, hw, hcas, hold, hop with
  | 1, _, _, _, _ => exact Nat.mod_lt _ (by decide)
  | 2, _, _, _, _ => exact hpow ▸ Nat.mod_lt _ (by decide)
  | 3, _, _, ho, hn | 4, _, _, ho, hn | 5, _, _, ho, hn | 6, _, _, ho, hn => exact hite _ _ ho hn
  | 7, _, _, ho, hn => exact hpow ▸ Nat.and_lt_two_pow _ (hpow ▸ hn)
  | 8, _, _, ho, hn => exact hpow ▸ Nat.or_lt_two_pow (hpow ▸ ho) (hpow ▸ hn)
  | 9, _, _, ho, hn => exact hpow ▸ Nat.xor_lt_two_pow (hpow ▸ ho) (hpow ▸ hn)
  | 10, _, _, _, hn => exact hn
  | 12, _, _, ho, _ =>
    change (if - p2 95 ≤ sInt 96 old + sInt 96 opnd ∧ sInt 96 old + sInt 96 opnd < p2 95 then some (uOf 96 (sInt 96 old + sInt 96 opnd))
      else none).getD old < 256 ^ 16
    split
    · exact Nat.lt_trans (uOf_lt 96 _) (by decide)
    · exact ho

section Atomic
variable {aop n : Nat} (hw : cellBytes aop ≠ 0) {old opnd : List Byte} (hold : old.length = cellBytes aop * n) (hopnd : opnd.length = cellBytes aop * n)
include hw hold hopnd

/-- The cells of a unit that an atomic of one operand meets. -/
theorem aopUnit_eq :
    aopUnit aop old opnd [] = (List.range n).map (fun i =>
      (leVal ((old.drop (cellBytes aop * i)).take (cellBytes aop)),
        aopCell aop (leVal ((old.drop (cellBytes aop * i)).take (cellBytes aop))) (leVal ((opnd.drop (cellBytes aop * i)).take (cellBytes aop))) 0)) := by
  have hpos := Nat.pos_of_ne_zero hw
  simp only [aopUnit, cellsOf_eq hpos hold, cellsOf_eq hpos hopnd, cellsOf_eq hpos (n := 0) (bs := []) rfl]
  refine List.ext_getElem (by simp) fun i hi hi' => ?_
  have hin : i < n := by simpa using hi'
  simp [hin]

/-- The bytes that the cells become. -/
def aopBytes (aop : Nat) (old opnd : List Byte) : List Byte :=
  (aopUnit aop old opnd []).flatMap (fun c => leBytes (cellBytes aop) (c.2.getD c.1))

theorem aopBytes_length : (aopBytes aop old opnd).length = cellBytes aop * n := by
  rw [aopBytes, aopUnit_eq hw hold hopnd, List.flatMap_map, List.length_flatMap]
  simp only [Sys2Proof.Laws.leBytes_length, List.map_const', List.length_range, List.sum_replicate_nat, Nat.mul_comm]

/-- Each cell of the new bytes is the cell's new value, or the old one where it has none (R285, R286). -/
theorem aopBytes_cell (hcas : aop % 128 ≠ 11) {i : Nat} (hi : i < n) :
    leVal (((aopBytes aop old opnd).drop (cellBytes aop * i)).take (cellBytes aop)) =
      (aopCell aop (leVal ((old.drop (cellBytes aop * i)).take (cellBytes aop))) (leVal ((opnd.drop (cellBytes aop * i)).take (cellBytes aop))) 0).getD
        (leVal ((old.drop (cellBytes aop * i)).take (cellBytes aop))) := by
  have hcell : ∀ bs : List Byte, bs.length = cellBytes aop * n → leVal ((bs.drop (cellBytes aop * i)).take (cellBytes aop)) < 256 ^ cellBytes aop :=
    fun bs _ => Nat.lt_of_lt_of_le (leVal_lt _) (Nat.pow_le_pow_right (by decide) (List.length_take_le _ _))
  rw [aopBytes, aopUnit_eq hw hold hopnd, List.flatMap_map, List.flatMap_def, drop_take_flatten]
  · rw [List.getElem?_map, List.getElem?_range hi, Option.map_some, Option.getD_some, leVal_leBytes]
    exact Nat.mod_eq_of_lt (aopCell_lt hw hcas (hcell old hold) (hcell opnd hopnd))
  · intro x hx
    obtain ⟨j, -, rfl⟩ := List.mem_map.1 hx
    exact Sys2Proof.Laws.leBytes_length _ _

end Atomic

/-! ### What an atomic leaves -/

/-- Bytes and tags are the same, and of the stacks at most undo logs and counts of overflows changed. -/
def State.sameUnits (s t : State) : Prop :=
  t.hbm = s.hbm ∧ t.tags = s.tags ∧ ∀ n, { t.mem.get n with undo := (s.mem.get n).undo, a96Ovf := (s.mem.get n).a96Ovf } = s.mem.get n

theorem State.sameUnits.refl (s : State) : s.sameUnits s := ⟨rfl, rfl, fun _ => rfl⟩

theorem State.sameUnits.trans {s t u : State} (h : s.sameUnits t) (h' : t.sameUnits u) : s.sameUnits u :=
  ⟨h'.1.trans h.1, h'.2.1.trans h.2.1, fun n =>
    (congrArg (fun m : Stack => { m with undo := (s.mem.get n).undo, a96Ovf := (s.mem.get n).a96Ovf }) (h'.2.2 n) :).trans (h.2.2 n)⟩

theorem State.undoCell_sameUnits (s : State) (own : Bool) (h addr region w old : Nat) : s.sameUnits (s.undoCell own h addr region w old) := by
  unfold State.undoCell
  split
  · refine ⟨rfl, rfl, fun n => ?_⟩
    rw [State.modMem_mem]
    by_cases hn : n = h
    · rw [hn, Tbl.get_mod_self]
    · rw [Tbl.get_mod_ne _ _ hn]
  · exact State.sameUnits.refl s

/-- Bytes and tags by the pair of both. -/
theorem State.hbm_tags_of_hm {s t : State} (h : t.hm = s.hm) : t.hbm = s.hbm ∧ t.tags = s.tags :=
  Prod.mk.inj ((hm_fold t).trans (h.trans (hm_fold s).symm))

@[simp] theorem State.raise_hbm (s : State) (code plaza unit : Nat) (detail : List Byte) : (s.raise code plaza unit detail).hbm = s.hbm :=
  (State.hbm_tags_of_hm (s.raise_hm code plaza unit detail)).1

@[simp] theorem State.raise_tags (s : State) (code plaza unit : Nat) (detail : List Byte) : (s.raise code plaza unit detail).tags = s.tags :=
  (State.hbm_tags_of_hm (s.raise_hm code plaza unit detail)).2

theorem State.a96Overflow_sameUnits (s : State) (own : Bool) (h addr : Nat) : s.sameUnits (s.a96Overflow own h addr) := by
  have hraise : s.sameUnits ((s.modMem h (fun m => { m with a96Ovf := satAdd m.a96Ovf 1 })).raise 0x4004 (8 + h) 0 (leBytes 8 addr)) := by
    refine ⟨State.raise_hbm _ _ _ _ _, State.raise_tags _ _ _ _ _, fun n => ?_⟩
    rw [State.raise_mem, State.modMem_mem]
    by_cases hn : n = h
    · rw [hn, Tbl.get_mod_self]
    · rw [Tbl.get_mod_ne _ _ hn]
  unfold State.a96Overflow
  dsimp only
  split
  · exact hraise
  · exact hraise

/-- The state after the undo entries and overflows of one unit. -/
def State.atomicNoted (s : State) (own : Bool) (r : Region) (region o aop : Nat) (old opnd new : List Byte) : State :=
  (aopUnit aop old opnd new).zipIdx.foldl (fun t c =>
    match c.1.2 with
    | none => t.a96Overflow own (r.unit o).1 ((r.locate (64 * o)).2 + cellBytes aop * c.2)
    | some _ => t.undoCell own (r.unit o).1 ((r.locate (64 * o)).2 + cellBytes aop * c.2) region (cellBytes aop) c.1.1) s

theorem State.atomicNoted_sameUnits (s : State) (own : Bool) (r : Region) (region o aop : Nat) (old opnd new : List Byte) :
    s.sameUnits (s.atomicNoted own r region o aop old opnd new) := by
  unfold State.atomicNoted
  generalize (aopUnit aop old opnd new).zipIdx = cells
  induction cells generalizing s with
  | nil => exact State.sameUnits.refl s
  | cons c cells ih =>
    rw [List.foldl_cons]
    refine State.sameUnits.trans ?_ (ih _)
    split
    · exact s.a96Overflow_sameUnits own _ _
    · exact s.undoCell_sameUnits own _ _ _ _ _

theorem State.atomicUnit_eq (s : State) (own : Bool) (r : Region) (region o aop : Nat) (old opnd : List Byte) :
    s.atomicUnit own r region o aop old opnd [] =
      ((s.atomicNoted own r region o aop old opnd []).writeUnit r region o 0 (aopBytes aop old opnd)).1 := rfl

theorem State.sameUnits.keys {s t : State} (h : s.sameUnits t) (n : Nat) :
    (t.mem.get n).epoch = (s.mem.get n).epoch ∧ (∀ e, (t.mem.get n).sessionKey e = (s.mem.get n).sessionKey e) :=
  ⟨(congrArg Stack.epoch (h.2.2 n) :), fun e => (congrArg (fun m => Stack.sessionKey m e) (h.2.2 n) :)⟩

/-- What an atomic of one operand on a unit does: the unit's new bytes, and every other unit stays (R285, R287). -/
theorem State.atomicUnit_spec (s : State) (own : Bool) (r : Region) (region o : Nat) {aop : Nat} {old opnd : List Byte} (hlen : (aopBytes aop old opnd).length = 64) :
    let t := s.atomicUnit own r region o aop old opnd []
    SameOutside [r.unit o] s t ∧ (∀ n, (t.mem.get n).atomics = (s.mem.get n).atomics) ∧
    (r.session = false → t.unitBytes (r.unit o).1 (r.unit o).2 false = some (aopBytes aop old opnd)) ∧
    (r.session = true → ((s.mem.get (r.unit o).1).sessionKey (s.mem.get (r.unit o).1).epoch).isSome = true →
      t.unitBytes (r.unit o).1 (r.unit o).2 true = some (aopBytes aop old opnd)) := by
  intro t
  have hnoted := s.atomicNoted_sameUnits own r region o aop old opnd []
  obtain ⟨-, hout, hmem, hrun, hses⟩ := (s.atomicNoted own r region o aop old opnd []).writeUnit_whole_spec r region o hlen 0
  rw [show t = _ from s.atomicUnit_eq own r region o aop old opnd]
  generalize s.atomicNoted own r region o aop old opnd [] = s₁ at *
  obtain ⟨hepoch, hkey⟩ := hnoted.keys (r.unit o).1
  refine ⟨(SameOutside.of_eq hnoted.1 hnoted.2.1).trans hout, fun n => ?_, hrun, fun hs hk => hses hs (by rw [hepoch, hkey]; exact hk)⟩
  exact (congrArg Stack.atomics (hmem n).1 :).trans (congrArg Stack.atomics (hnoted.2.2 n) :)

/-! ### Atomics of one unit -/

theorem bitAt_seven (x : Nat) : bitAt x 7 = true ↔ x / 128 % 2 = 1 := by
  unfold bitAt
  rw [bitsOf_eq_div_mod]
  exact beq_iff_eq

theorem State.serveReq_atomic {s : State} {q : ReqFields} {r : Region} (src h : Nat) (data : List Flit) (env : MemEnv) (hop : q.op = 3)
    (hr : s.region q.region = some r) (hin : q.inRegion r = true ∨ aopOk q.aop q.flits = false) :
    s.serveReq src h q data env = s.serveAtomic src h r q data env := by
  unfold State.serveReq
  simp only [hr, hop]
  exact if_pos (by simpa using hin)

/-- An atomic of one operand on one unit that is whole and readable. -/
theorem State.applyAtomic_one {s : State} {r : Region} {o aop : Nat} (region src : Nat) (data : Nat → List Byte) {old : List Byte}
    (hcas : aop % 128 ≠ 11) (hnew : data 1 = []) (hlost : (s.mem.get (r.unit o).1).lost.contains (r.unit o).2 = false)
    (hbytes : s.unitBytes (r.unit o).1 (r.unit o).2 r.session = some old) :
    s.applyAtomic r region o aop 0 src {} data =
      ((s.atomicUnit (decide (src < 8)) r region o aop old (data 0) []).countAtomic [(r.unit o).1], some old) := by
  have hread := State.readUnit_clean region src 2 false false hlost hbytes
  simp only [Region.unit] at hread
  have hcas' : (aop % 128 == 11) = false := beq_eq_false_iff_ne.2 hcas
  have hone : upto (0 + 1) = [0] := rfl
  have hdups : ∀ n : Nat, [n].eraseDups = [n] := fun _ => rfl
  simp only [State.applyAtomic, State.countOdecc, aopUnits, hcas', if_neg hcas, hone, List.map_cons, List.map_nil, hdups,
    State.atomicUnits, List.find?_nil, hread, Nat.add_zero, Nat.mul_zero, Nat.zero_add, hnew, List.append_nil, Bool.false_eq_true, if_false, if_true,
    Option.isSome_some]
  rfl

theorem State.unitBytes_length {s : State} {n k : Nat} {session : Bool} {bs : List Byte} (h : s.unitBytes n k session = some bs) : bs.length = 64 := by
  obtain ⟨key, -, rfl⟩ := Option.map_eq_some_iff.1 h
  simp only [State.unitUnder, upto_eq_range, List.length_map, List.length_range]

theorem cellBytes_dvd (aop : Nat) : cellBytes aop ∣ 64 ∨ cellBytes aop = 0 := by
  unfold cellBytes
  split <;> decide

/-- An atomic request of one operand on one unit, served. -/
theorem State.serveAtomic_one {t : State} {q : ReqFields} {r : Region} {h : Nat} {f : Flit} {old : List Byte} (src : Nat) (hok : aopOk q.aop q.flits = true)
    (hcas : q.aop % 128 ≠ 11) (hflits : q.flits = 0) (hstack : (r.unit q.offset).1 = h)
    (hlost : (t.mem.get h).lost.contains (r.unit q.offset).2 = false) (hbytes : t.unitBytes h (r.unit q.offset).2 r.session = some old) :
    let u := ((t.atomicUnit (decide (src < 8)) r q.region q.offset q.aop old (flitBytes f) []).countAtomic [h]).writeDone src h q.rtag
    t.serveAtomic src h r q [f] {} = if q.aop / 128 % 2 = 1 then u.replyRow h q old else u := by
  intro u
  rw [State.serveAtomic, if_pos hok, hflits, State.applyAtomic_one _ _ _ hcas rfl (by rw [hstack]; exact hlost) (by rw [hstack]; exact hbytes), hstack]
  exact ite_congr (propext (bitAt_seven _)) (fun _ => rfl) (fun _ => rfl)

/-- Settles O15: a READ by `State.serveRead_clean`, a WRITE by `State.writeWhole_spec`, an ATOMIC by `State.atomicUnit_spec`. -/
theorem requestsAtGateDies : Obligations.RequestsAtGateDies := by
  unfold Obligations.RequestsAtGateDies
  refine ⟨fun src h flits env s t q data r bytes ht hop henv hr hin hclean => ?_, fun src h flits s t q data r ht hop hr hfits hin => ?_,
    fun src h flits s t q data r old f ht hop hr hfits hin hstack => ⟨fun hbad => ?_, fun hok hcas hflits hdata => ?_⟩⟩
  · obtain ⟨hkeep, hother, hself⟩ := t.readMet_spec h.val q env
    refine ⟨t.readMet h.val q env, ?_, hkeep, hother, hself⟩
    rw [exec_reqRead, execReqRead, State.gateArrival_takes ht, State.serveReq_read _ _ _ _ hop hr hin, State.serveRead_clean _ henv hclean]
  · intro units
    have hlen : data.length = q.flits + 1 := ht.data_length (.inl hop)
    have hunit : ∀ b ∈ data.map flitBytes, b.length = 64 := fun b hb => by
      obtain ⟨f, -, rfl⟩ := List.mem_map.1 hb
      exact flitBytes_length f
    obtain ⟨hkeep, hout, -, -, hget⟩ := State.writeWhole_spec r hfits q.region (data.map flitBytes) hunit t q.offset
      (by rw [List.length_map, hlen]; have := of_decide_eq_true hin; omega)
    have hexec : exec (.reqWrite src h flits) s = .next ((t.writeWhole r q.region q.offset (data.map flitBytes)).writeDone src.val h.val q.rtag) := by
      rw [exec_reqWrite, execReqWrite, State.gateArrival_takes ht, State.serveReq_write _ _ _ _ hop hr hin, State.serveWrite_eq]
    rw [List.length_map, hlen] at hout
    generalize t.writeWhole r q.region q.offset (data.map flitBytes) = w at *
    refine ⟨_, hexec, (congrArg (fun x : State => { x with seq := t.seq }) hkeep :), ?_, hout, fun i _ f hf => ?_⟩
    · rw [← (congrArg State.seq hkeep :)]
      rfl
    · obtain ⟨hlost, hrun, hses⟩ := hget i (flitBytes f) (by rw [List.getElem?_map, hf]; rfl)
      exact ⟨hlost, hses, hrun⟩
  · rw [exec_reqAtomic, execReqAtomic, State.gateArrival_takes ht, State.serveReq_atomic _ _ _ _ hop hr (.inr hbad), State.serveAtomic, hbad]
    rfl
  · intro k hlost hbytes w₀ cell opnd
    subst hdata
    have hw : cellBytes q.aop ≠ 0 := by
      unfold aopOk at hok
      simp only [Bool.and_eq_true, bne_iff_ne] at hok
      exact hok.1.1
    have h64 : 64 = cellBytes q.aop * (64 / cellBytes q.aop) := (Nat.mul_div_cancel' ((cellBytes_dvd q.aop).resolve_right hw)).symm
    have hold : old.length = cellBytes q.aop * (64 / cellBytes q.aop) := (State.unitBytes_length hbytes).trans h64
    have hopnd : (flitBytes f).length = cellBytes q.aop * (64 / cellBytes q.aop) := (flitBytes_length f).trans h64
    have hlen : (aopBytes q.aop old (flitBytes f)).length = 64 := (aopBytes_length hw hold hopnd).trans h64.symm
    have hexec : exec (.reqAtomic src h flits {}) s = .next (t.serveAtomic src.val h.val r q [f] {}) := by
      rw [exec_reqAtomic, execReqAtomic, State.gateArrival_takes ht, State.serveReq_atomic _ _ _ _ hop hr (.inl ?_)]
      rw [ReqFields.inRegion, if_pos hop, aopUnits, if_neg hcas]
      exact hin
    rw [hexec, State.serveAtomic_one src.val hok hcas hflits hstack hlost hbytes]
    obtain ⟨hout, hatomics, hrun, hses⟩ := t.atomicUnit_spec (decide (src.val < 8)) r q.region q.offset hlen
    have hunit : r.unit q.offset = (h.val, k) := Prod.ext hstack rfl
    rw [hunit] at hout hrun hses
    generalize t.atomicUnit (decide (src.val < 8)) r q.region q.offset q.aop old (flitBytes f) [] = w at *
    have hself : ((w.countAtomic [h.val]).mem.get h.val) = { w.mem.get h.val with atomics := satAdd (w.mem.get h.val).atomics 1 } := Tbl.get_mod_self _ _ _
    have hread : ∀ session, ((w.countAtomic [h.val]).writeDone src.val h.val q.rtag).unitBytes h.val k session = w.unitBytes h.val k session :=
      fun session => State.unitBytes_congr rfl rfl (fun e => (congrArg (fun m => Stack.sessionKey m e) hself :)) (congrArg Stack.keyRun hself :)
    have hcells : ∀ i, i < 64 / w₀ → _ := fun i hi => aopBytes_cell hw hold hopnd hcas hi
    refine ⟨(w.countAtomic [h.val]).writeDone src.val h.val q.rtag, rfl, hout, ?_, fun hs hkey => ?_, fun hs => ?_⟩
    · exact (congrArg Stack.atomics hself :).trans (congrArg (fun n => satAdd n 1) (hatomics h.val))
    · exact ⟨_, (hread true).trans (hses hs hkey), hlen, hcells⟩
    · exact ⟨_, (hread false).trans (hrun hs), hlen, hcells⟩

end Sys2Proof.Machine
end

section
/-! PROOF. What a gate die does on its own (R176, R281, R282, R288, R289). -/
namespace Sys2Proof.Machine

theorem errInfo_gate (kind region : Nat) (n : Fin 16) : errInfo kind region (8 + n.val) = BitVec.ofNat 32 (kind * 2 ^ 28 + region % 4096 * 2 ^ 16 + (8 + n.val)) := by
  rw [errInfo, Nat.mod_eq_of_lt (show 8 + n.val < 32 by omega)]

theorem State.otherWork_iff (s : State) :
    s.otherWork = true ↔ s.seq.grant.isSome = true ∧ s.seq.flitWait = false ∧ s.seq.work.lamps = [] ∧ s.seq.work.lanes = [] ∧ s.seq.work.other ≠ [] := by
  simp only [State.otherWork, Bool.and_eq_true, Bool.not_eq_true', List.isEmpty_iff, List.isEmpty_eq_false_iff, ne_eq, and_assoc]

/-! ### A scrubbed unit -/

/-- The scrub of one unit, before the end of its pass. -/
def State.scrubbed (s : State) (n k : Nat) (fault : Option MemFault) (noSpare : Bool) : State :=
  if (s.mem.get n).lost.contains k then
    (s.countUe n k 5 (((s.regionAt n (64 * k)).map Prod.fst).getD 0xFFF) (8 + n)).raise 0x4002 (8 + n) 0 (memDetail k)
  else match fault with
    | none => s
    | some f =>
      if f.fails then ((s.countUe n k 3 (((s.regionAt n (64 * k)).map Prod.fst).getD 0xFFF) (8 + n)).raise 0x4002 (8 + n) 0 (memDetail k)).loseUnit n k f.row noSpare
      else s.correctUnit n k f.row noSpare

section Scrub
variable (h : Fin 16) (u : BitVec 30) (fault : Option MemFault) (noSpare : Bool) (s : State)

theorem execScrubUnit_off (hs : (s.mem.get h.val).serves = false) : execScrubUnit h u fault noSpare s = .next s :=
  if_neg (Bool.eq_false_iff.1 hs)

theorem execScrubUnit_inside (hs : (s.mem.get h.val).serves = true) (hk : u.toNat ≠ 2 ^ 30 - 1) :
    execScrubUnit h u fault noSpare s = .next (s.scrubbed h.val u.toNat fault noSpare) :=
  (if_pos hs).trans (congrArg Host.Outcome.next (if_neg hk))

theorem execScrubUnit_last (hs : (s.mem.get h.val).serves = true) (hk : u.toNat = 2 ^ 30 - 1) :
    execScrubUnit h u fault noSpare s =
      .next ((s.scrubbed h.val u.toNat fault noSpare).modMem h.val (fun m => { m with scrubPasses := satAdd m.scrubPasses 1, corrected := {} })) :=
  (if_pos hs).trans (congrArg Host.Outcome.next (if_pos hk))

end Scrub

/-- A unit that fails enters the list of lost units, and its row waits for its repair (R282). -/
theorem State.loseUnit_spec (s : State) {n k row : Nat} (hlost : (s.mem.get n).lost.contains k = false) (hroom : (s.mem.get n).lost.length < 256) :
    let t := s.loseUnit n k row false
    { t with mem := s.mem } = s ∧ (t.mem.get n).lost = (s.mem.get n).lost ++ [k] ∧ row ∈ (t.mem.get n).repairs := by
  intro t
  have ht : t = (s.modMem n (fun m => { m with lost := m.lost ++ [k] })).wantRepair n k row false :=
    (if_neg (Bool.eq_false_iff.1 hlost)).trans (if_neg (Nat.not_le.2 hroom))
  have hself : (s.modMem n (fun m => { m with lost := m.lost ++ [k] })).mem.get n = { s.mem.get n with lost := (s.mem.get n).lost ++ [k] } :=
    Tbl.get_mod_self _ _ _
  have hkeep := s.modMem_keeps n (fun m => { m with lost := m.lost ++ [k] })
  rw [ht]
  generalize s.modMem n (fun m => { m with lost := m.lost ++ [k] }) = s₁ at *
  unfold State.wantRepair
  rw [if_neg Bool.false_ne_true]
  split
  · next hrow =>
    refine ⟨hkeep, (congrArg Stack.lost hself :), ?_⟩
    exact List.contains_iff_mem.1 hrow
  · refine ⟨hkeep, ?_, ?_⟩
    · rw [State.modMem_mem, Tbl.get_mod_self]
      exact (congrArg Stack.lost hself :)
    · rw [State.modMem_mem, Tbl.get_mod_self]
      exact List.mem_append_right _ (List.mem_singleton_self _)

/-! ### The walker -/

/-- A unit of the old epoch that the walker meets. -/
theorem execWalkerStep_unit {h : Fin 16} {s : State} {v : Nat} {bs : List Byte} (hw : (s.mem.get h.val).walking = true)
    (hnext : s.nextSessionUnit h.val (s.mem.get h.val).walkUnit = some v) (hlost : (s.mem.get h.val).lost.contains v = false)
    (hold : (s.tags.get (hbmUnit h.val v)).epoch ≠ (s.mem.get h.val).epoch) (hbytes : s.unitBytes h.val v true = some bs) :
    execWalkerStep h s = .next ((s.modMem h.val (fun m => { m with walkUnit := v + 1 })).storeUnit h.val v true bs) := by
  have hgo : ¬ ((s.tags.get (hbmUnit h.val v)).epoch = (s.mem.get h.val).epoch ∨ (s.mem.get h.val).lost.contains v = true) := by
    rw [hlost]
    exact not_or.2 ⟨hold, Bool.false_ne_true⟩
  unfold execWalkerStep
  simp only [hw, hnext, hbytes, if_true]
  exact if_neg hgo

/-- Settles O16: the scrub by what it finds (`State.loseUnit_spec`), the walker by the unit it meets (`execWalkerStep_unit`). -/
theorem gateDieWork : Obligations.GateDieWork := by
  unfold Obligations.GateDieWork
  intro h u f noSpare row s n k m region at_ info ue other
  simp only [exec_scrubUnit, exec_rowRepair, exec_walkerStep]
  have hue : ∀ kind, ue kind = s.countUe n k kind region (8 + n) := fun kind => by
    rw [State.countUe, errInfo_gate]
  refine ⟨fun hs => ⟨execScrubUnit_off _ _ _ _ _ hs, execScrubUnit_off _ _ _ _ _ hs⟩, fun hs hk => ?_, fun hs hk hlost => ?_,
    fun hrow hother => if_pos ⟨List.contains_iff_mem.2 hrow, s.otherWork_iff.2 hother⟩, fun hnot => ?_, fun hw => if_neg (Bool.eq_false_iff.1 hw), fun hw hnone => ?_,
    fun v bs hw hnext hv hlost hold hkey hbytes => ?_⟩
  · simp only [execScrubUnit_inside _ _ _ _ _ hs hk]
    refine ⟨fun hlost => ?_, fun hlost => ⟨?_, fun hf hns hroom => ?_, fun hf hsixteen => ?_⟩⟩
    · rw [hue]
      exact congrArg Host.Outcome.next (if_pos hlost)
    · exact congrArg Host.Outcome.next (if_neg (Bool.eq_false_iff.1 hlost))
    · subst hns
      have hscrub : s.scrubbed n k (some f) false = ((ue 3).raise 0x4002 (8 + n) 0 at_).loseUnit n k f.row false := by
        rw [hue]
        exact (if_neg (Bool.eq_false_iff.1 hlost)).trans (if_pos hf)
      have hmem : ((ue 3).raise 0x4002 (8 + n) 0 at_).mem.get n = { m with ue := satAdd m.ue 1, errAddr := BitVec.ofNat 64 (64 * k), errInfo := info 3 } := by
        rw [State.raise_mem]
        exact Tbl.get_mod_self _ _ _
      have hlists : (((ue 3).raise 0x4002 (8 + n) 0 at_).mem.get n).lost = m.lost := (congrArg Stack.lost hmem :)
      obtain ⟨hkeep, hl, hr⟩ := ((ue 3).raise 0x4002 (8 + n) 0 at_).loseUnit_spec (row := f.row) (by rw [hlists]; exact hlost) (by rw [hlists]; exact hroom)
      refine ⟨_, congrArg Host.Outcome.next hscrub, (congrArg (fun x : State => { x with mem := s.mem }) hkeep :), ?_, hr⟩
      rw [hl, hlists]
    · have hscrub : s.scrubbed n k (some f) noSpare = s.correctUnit n k f.row noSpare :=
        (if_neg (Bool.eq_false_iff.1 hlost)).trans (if_neg (Bool.eq_false_iff.1 hf))
      rw [hscrub]
      exact congrArg Host.Outcome.next (if_neg hsixteen)
  · rw [execScrubUnit_last _ _ _ _ _ hs hk]
    exact congrArg (fun x : State => Host.Outcome.next (x.modMem n (fun m => { m with scrubPasses := satAdd m.scrubPasses 1, corrected := {} })))
      (if_neg (Bool.eq_false_iff.1 hlost))
  · refine if_neg fun hc => ?_
    rcases hnot with hrow | hother
    · exact hrow (List.contains_iff_mem.1 hc.1)
    · exact hother (s.otherWork_iff.1 hc.2)
  · unfold execWalkerStep
    simp only [show (s.mem.get h.val).walking = true from hw, show s.nextSessionUnit h.val (s.mem.get h.val).walkUnit = none from hnone, if_true]
    rfl
  · have hlen := State.unitBytes_length hbytes
    have hself : (s.modMem n (fun m => { m with walkUnit := v + 1 })).mem.get n = { m with walkUnit := v + 1 } := Tbl.get_mod_self _ _ _
    have hkeep := (s.modMem n (fun m => { m with walkUnit := v + 1 })).storeUnit_keeps n v true bs
    have hout := (s.modMem n (fun m => { m with walkUnit := v + 1 })).storeUnit_sameOutside n v hlen true
    have hread := (s.modMem n (fun m => { m with walkUnit := v + 1 })).unitBytes_storeUnit_session n v hlen (by rw [hself]; exact hkey)
    have hepoch : (((s.modMem n (fun m => { m with walkUnit := v + 1 })).storeUnit n v true bs).tags.get (hbmUnit n v)).epoch = m.epoch := by
      have htag := (congrArg UnitTag.epoch (Tbl.get_set_self s.tags (hbmUnit n v)
        { key := ((s.modMem n (fun m => { m with walkUnit := v + 1 })).mem.get n).sessionKey ((s.modMem n (fun m => { m with walkUnit := v + 1 })).mem.get n).epoch,
          epoch := ((s.modMem n (fun m => { m with walkUnit := v + 1 })).mem.get n).epoch }) :)
      exact htag.trans (congrArg Stack.epoch hself :)
    refine ⟨_, execWalkerStep_unit hw hnext hlost hold hbytes, (congrArg (fun x : State => { x with mem := s.mem }) hkeep :), (congrArg State.mem hkeep :), hread, hepoch, ?_⟩
    exact hout

end Sys2Proof.Machine
end

section
/-! PROOF. Rows assembled from flits, and rows that land (R160, R161, R218, R228, R229, R233). -/
namespace Sys2Proof.Machine

/-! ### Rows among the flits that wait -/

section Rows
variable {t : Street} {width g : Nat} {l : List (Nat × Flit)}

/-- No flit that waits can be some part of a row whose flit 0 was sent on wavelength `g`. -/
def Street.lacks (t : Street) (width : Nat) (l : List (Nat × Flit)) (g : Nat) : Prop :=
  ∃ p, p < 8 ∧ ∀ e ∈ l, flitPart e.2 = p → t.next width ((g + p) % width) ≠ some e.1

theorem Street.partOf_fits (p : Nat) :
    partOf (l.filter (t.fits width g)) p = l.find? (fun x => flitPart x.2 == p && t.next width ((g + p) % width) == some x.1) := by
  rw [partOf, List.find?_filter]
  congr 1
  funext x
  by_cases hp : flitPart x.2 = p
  · rw [Bool.eq_iff_iff]
    simp [Street.fits, hp]
  · simp [hp]

theorem Street.rowFrom_none (h : t.lacks width l g) : t.rowFrom width l g = none := by
  obtain ⟨p, hp, hlack⟩ := h
  have hnone : partOf (l.filter (t.fits width g)) p = none := by
    rw [Street.partOf_fits, List.find?_eq_none]
    simp only [Bool.and_eq_true, beq_iff_eq, not_and]
    exact hlack
  refine if_neg fun hall => ?_
  have := List.all_eq_true.1 hall p (upto_eq_range 8 ▸ List.mem_range.2 hp)
  rw [hnone] at this
  exact absurd this (by decide)

/-- A function that answers every item of a list keeps them all. -/
theorem filterMap_eq_map_of_some {α β : Type} {f : α → Option β} {g : α → β} {l : List α} (h : ∀ a ∈ l, f a = some (g a)) : l.filterMap f = l.map g := by
  induction l with
  | nil => rfl
  | cons a l ih =>
    rw [List.filterMap_cons_some (h a List.mem_cons_self), List.map_cons, ih fun x hx => h x (List.mem_cons_of_mem _ hx)]

theorem Street.rowFrom_some {e : Nat → Nat × Flit}
    (h : ∀ p, p < 8 → l.find? (fun x => flitPart x.2 == p && t.next width ((g + p) % width) == some x.1) = some (e p)) :
    t.rowFrom width l g = some ((List.range 8).map e) := by
  have hpart : ∀ p ∈ List.range 8, partOf (l.filter (t.fits width g)) p = some (e p) := fun p hp => by
    rw [Street.partOf_fits]
    exact h p (List.mem_range.1 hp)
  have hall : (upto 8).all (fun p => (partOf (l.filter (t.fits width g)) p).isSome) = true :=
    List.all_eq_true.2 fun p hp => by rw [hpart p hp]; rfl
  refine (if_pos hall).trans (congrArg some ?_)
  rw [upto_eq_range]
  exact filterMap_eq_map_of_some hpart

theorem findSome?_range_first {α : Type} {f : Nat → Option α} {g : Nat} {x : α} (hg : f g = some x) (hbefore : ∀ i, i < g → f i = none) (n : Nat) (hn : g < n) :
    (List.range n).findSome? f = some x := by
  obtain ⟨m, rfl⟩ := Nat.exists_eq_add_of_lt hn
  rw [Nat.add_right_comm, List.range_add, List.range_succ, List.findSome?_append, List.findSome?_append,
    List.findSome?_eq_none_iff.2 fun i hi => hbefore i (List.mem_range.1 hi)]
  simp [hg]

theorem Street.wholeRow_none (h : ∀ g, g < width → t.lacks width l g) : t.wholeRow width l = none := by
  unfold Street.wholeRow
  rw [upto_eq_range, List.findSome?_eq_none_iff]
  exact fun g hg => Street.rowFrom_none (h g (List.mem_range.1 hg))

theorem Street.wholeRow_some (hg : g < width) (hbefore : ∀ i, i < g → t.lacks width l i) {e : Nat → Nat × Flit}
    (h : ∀ p, p < 8 → l.find? (fun x => flitPart x.2 == p && t.next width ((g + p) % width) == some x.1) = some (e p)) :
    t.wholeRow width l = some ((List.range 8).map e) := by
  unfold Street.wholeRow
  rw [upto_eq_range]
  exact findSome?_range_first (Street.rowFrom_some h) (fun i hi => Street.rowFrom_none (hbefore i hi)) _ hg

end Rows

/-! ### The parts of one row -/

section Parts
variable {e : Nat → Nat × Flit} (hpart : ∀ p, p < 8 → flitPart (e p).2 = p)
include hpart

theorem partOf_row {p : Nat} (hp : p < 8) : partOf ((List.range 8).map e) p = some (e p) := by
  unfold partOf
  rw [List.find?_map, Option.map_eq_some_iff]
  refine ⟨p, List.find?_range_eq_some.2 ⟨?_, List.mem_range.2 hp, fun j hj => ?_⟩, rfl⟩
  · rw [Function.comp_apply, hpart p hp, beq_self_eq_true]
  · rw [Function.comp_apply, hpart j (by omega), beq_eq_false_iff_ne.2 (by omega)]
    rfl

theorem routesAgree_row (hroute : ∀ p, p < 4 → flitRoute (e p).2 = flitRoute (e (p + 4)).2) : routesAgree ((List.range 8).map e) = true := by
  refine List.all_eq_true.2 fun p hp => ?_
  have hp := List.mem_range.1 hp
  rw [partOf_row hpart (by omega), partOf_row hpart (by omega)]
  exact beq_iff_eq.2 (hroute p hp)

theorem rowU_rowOfFlits {p : Nat} (hp : p < 8) : rowU 512 p (rowOfFlits ((List.range 8).map e)) = flitPayload (e p).2 := by
  have h := rowU_rowOf 512 8 (by decide) (by decide) (fun p => match partOf ((List.range 8).map e) p with | some e => flitPayload e.2 | none => 0) p hp
  refine h.trans ?_
  simp only [partOf_row hpart hp]
  exact Nat.mod_eq_of_lt (bitsOf_lt _ _ _)

omit hpart in
/-- Distinct items of a list are no more than the list. -/
theorem length_le_of_nodup_subset {α : Type} [DecidableEq α] {l₁ l₂ : List α} (hnodup : l₁.Nodup) (hsub : ∀ x ∈ l₁, x ∈ l₂) : l₁.length ≤ l₂.length := by
  induction l₁ generalizing l₂ with
  | nil => exact Nat.zero_le _
  | cons a l ih =>
    obtain ⟨ha, hl⟩ := List.nodup_cons.1 hnodup
    have hmem := hsub a List.mem_cons_self
    have hrest := ih hl (l₂ := l₂.erase a) fun x hx =>
      (List.mem_erase_of_ne fun (heq : x = a) => ha (heq ▸ hx)).2 (hsub x (List.mem_cons_of_mem _ hx))
    rw [List.length_erase_of_mem hmem] at hrest
    have hpos := List.length_pos_of_mem hmem
    rw [List.length_cons]
    omega

/-- The eight flits of a row are eight of those that wait. -/
theorem eight_le_length {l : List (Nat × Flit)} (hmem : ∀ p, p < 8 → e p ∈ l) : 8 ≤ l.length := by
  have hnodup : ((List.range 8).map e).Nodup := List.pairwise_map.2 (List.nodup_range.imp_of_mem fun hi hj hne heq => hne (by
    rw [← hpart _ (List.mem_range.1 hi), heq, hpart _ (List.mem_range.1 hj)]))
  have hrow := length_le_of_nodup_subset hnodup (l₂ := l) fun x hx => by
    obtain ⟨p, hp, rfl⟩ := List.mem_map.1 hx
    exact hmem p (List.mem_range.1 hp)
  rwa [List.length_map, List.length_range] at hrow

end Parts

theorem withoutRow_map (l : List (Nat × Flit)) (e : Nat → Nat × Flit) :
    withoutRow l ((List.range 8).map e) = (List.range 8).foldl (fun l p => l.erase (e p)) l := List.foldl_map

/-! ### Rows taken -/

/-- The flits that wait on a street, replaced. -/
def State.withWaiting (s : State) (k : Nat) (l : List (Nat × Flit)) : State := { s with blv := { s.blv with rxBuf := s.blv.rxBuf.set k l } }

theorem State.withWaiting_again (s : State) (k : Nat) {l : List (Nat × Flit)} (l' : List (Nat × Flit)) (hl : l ≠ []) :
    (s.withWaiting k l).withWaiting k l' = s.withWaiting k l' := by
  simp only [State.withWaiting, Tbl.set_set _ _ _ hl]

theorem State.takeRows_none {s : State} {src dst : Nat} (h : (s.street src dst).wholeRow (streetWidth src dst) (s.blv.rxBuf.get (streetIx src dst)) = none)
    (n : Nat) : s.takeRows src dst n = s := by
  cases n with
  | zero => rfl
  | succ n => simp only [State.takeRows, h]

theorem State.takeRows_some {s : State} {src dst : Nat} {row : List (Nat × Flit)}
    (h : (s.street src dst).wholeRow (streetWidth src dst) (s.blv.rxBuf.get (streetIx src dst)) = some row) (hroutes : routesAgree row = true) (n : Nat) :
    s.takeRows src dst (n + 1) =
      ((s.withWaiting (streetIx src dst) (withoutRow (s.blv.rxBuf.get (streetIx src dst)) row)).rowAtShallot src dst row).takeRows src dst n := by
  simp only [State.takeRows, h, hroutes, if_true]
  rfl

/-- A row taken changes no street and no flit that waits. -/
theorem State.rowAtShallot_keeps (s : State) (src dst : Nat) (l : List (Nat × Flit)) :
    (s.rowAtShallot src dst l).blv.streets = s.blv.streets ∧ (s.rowAtShallot src dst l).blv.rxBuf = s.blv.rxBuf := by
  have hite : ∀ (p : Prop) [Decidable p] (t u : State), t.blv.streets = s.blv.streets ∧ t.blv.rxBuf = s.blv.rxBuf →
      u.blv.streets = s.blv.streets ∧ u.blv.rxBuf = s.blv.rxBuf →
      (if p then t else u).blv.streets = s.blv.streets ∧ (if p then t else u).blv.rxBuf = s.blv.rxBuf := fun p _ t u ht hu => by
    split
    · exact ht
    · exact hu
  exact hite _ _ _ ⟨rfl, rfl⟩ (hite _ _ _ ⟨rfl, rfl⟩ ⟨rfl, rfl⟩)

/-- What is done with the eight flits of a row (R218, R228, R229). -/
theorem State.rowAtShallot_row (s : State) (src dst : Nat) {e : Nat → Nat × Flit} (hpart : ∀ p, p < 8 → flitPart (e p).2 = p) :
    let pod := flitRoute (e 0).2 % 512
    let r1 := flitRoute (e 1).2
    let slot := r1 % 16
    let barrier : Option (BitVec 12) := if r1 / 512 % 2 = 1 then some (BitVec.ofNat 12 (flitRoute (e 2).2 + flitRoute (e 3).2 % 4 * 1024)) else none
    let key := src * 2 ^ 20 + dst * 2 ^ 16 + pod * 16 + slot
    let row := rowOfFlits ((List.range 8).map e)
    s.rowAtShallot src dst ((List.range 8).map e) =
      if r1 / 256 % 2 = 1 then
        { s with blv := { s.blv with firstHalf := s.blv.firstHalf.set key none } }.askIngress src dst pod slot ((s.blv.firstHalf.get key).getD 0) row true barrier
      else if flitLast (e 7).2 = true then s.askIngress src dst pod slot row 0 false barrier
      else { s with blv := { s.blv with firstHalf := s.blv.firstHalf.set key (some row) } } := by
  have hbit : ∀ x i, (bitAt x i = true) = (x / 2 ^ i % 2 = 1) := fun x i => by
    rw [bitAt, beq_iff_eq, bitsOf_eq_div_mod, Nat.pow_one]
  simp only [State.rowAtShallot, partOf_row hpart (show 0 < 8 by decide), partOf_row hpart (show 1 < 8 by decide), partOf_row hpart (show 2 < 8 by decide),
    partOf_row hpart (show 3 < 8 by decide), partOf_row hpart (show 7 < 8 by decide), bitsOf_low, hbit] <;> rfl

/-- The only whole row among the flits that have arrived is taken, and nothing more. -/
theorem execRowArrival_row (src : PlazaNo) (dst : Fin 8) (flits : List RxFlit) (s : State) {g : Nat} {e : Nat → Nat × Flit} :
    let k := streetIx src.val dst.val
    let a := s.rxFlits src.val dst.val flits
    let l := a.1.blv.rxBuf.get k ++ a.2.filter (fun e => flitKind e.2 == 1)
    let t := a.1.street src.val dst.val
    let W := streetWidth src.val dst.val
    let rest := (List.range 8).foldl (fun l p => l.erase (e p)) l
    g < W → (∀ i, i < g → t.lacks W l i) →
    (∀ p, p < 8 → l.find? (fun x => flitPart x.2 == p && t.next W ((g + p) % W) == some x.1) = some (e p)) →
    (∀ p, p < 4 → flitRoute (e p).2 = flitRoute (e (p + 4)).2) → (∀ i, i < W → t.lacks W rest i) →
    execRowArrival src dst flits s = .next ((a.1.withWaiting k rest).rowAtShallot src.val dst.val ((List.range 8).map e)) := by
  intro k a l t W rest hg hbefore hfind hroute hrest
  have hpart : ∀ p, p < 8 → flitPart (e p).2 = p := fun p hp => by
    have := List.find?_some (hfind p hp)
    simp only [Bool.and_eq_true, beq_iff_eq] at this
    exact this.1
  have hlen := eight_le_length hpart fun p hp => List.mem_of_find?_eq_some (hfind p hp)
  have hne : l ≠ [] := fun h => by rw [h] at hlen; exact absurd hlen (by decide)
  obtain ⟨n, hn⟩ : ∃ n, l.length / 8 = n + 1 := ⟨l.length / 8 - 1, by omega⟩
  have hwait : (a.1.withWaiting k l).blv.rxBuf.get k = l := Tbl.get_set_self _ _ _
  have hfirst : ((a.1.withWaiting k l).street src.val dst.val).wholeRow (streetWidth src.val dst.val) ((a.1.withWaiting k l).blv.rxBuf.get k) =
      some ((List.range 8).map e) := by
    rw [hwait]
    exact Street.wholeRow_some hg hbefore hfind
  have hrun : execRowArrival src dst flits s = .next ((a.1.withWaiting k l).takeRows src.val dst.val (l.length / 8)) := rfl
  rw [hrun, hn, State.takeRows_some hfirst (routesAgree_row hpart hroute), hwait, withoutRow_map, State.withWaiting_again _ _ _ hne]
  obtain ⟨hstreets, hbuf⟩ := (a.1.withWaiting k rest).rowAtShallot_keeps src.val dst.val ((List.range 8).map e)
  refine congrArg Host.Outcome.next (State.takeRows_none ?_ n)
  rw [State.street, hstreets, hbuf, show (a.1.withWaiting k rest).blv.rxBuf.get k = rest from Tbl.get_set_self _ _ _]
  exact Street.wholeRow_none hrest

/-! ### Rows that land -/

section Land
variable (s : State) (sh unit : Nat) {g : ArbReq} 

/-- The state once a granted row has landed and its transfer is over. -/
theorem State.arbComplete_granted (hg : (s.arb (arbIx 0 sh unit)).granted = some g) :
    s.arbComplete 0 sh unit = (((s.modArb (arbIx 0 sh unit) (fun a => { a with granted := none })).deliver sh (unit * 32 + g.target) g.lslot g.data g.ext g.wide
      g.barrierRow).landed g.source sh (unit * 32 + g.target) g.lslot) := by
  simp only [State.arbComplete, hg, if_true]

theorem State.arb_modArb_self (k : Nat) (f : Arbiter → Arbiter) : (s.modArb k f).arb k = f (s.arb k) := Tbl.get_mod_self _ _ _

theorem State.arb_modArb_ne {k n : Nat} (f : Arbiter → Arbiter) (h : n ≠ k) : (s.modArb k f).arb n = s.arb n := Tbl.get_mod_ne _ _ h

/-- A pod whose granted row has reached its landing slot. -/
def Pod.landedRow (p : Pod) (g : ArbReq) : Pod :=
  { p with landing := p.landing.set g.lslot { data := g.data, ext := g.ext, wide := g.wide, complete := g.barrierRow.isNone, barrierRow := g.barrierRow } }

/-- A barrier row of a pod that issues nothing more goes to its store row at once (R229). -/
theorem Pod.drainSlot_landedRow (p : Pod) {g : ArbReq} {row : BitVec 12} (hrow : g.barrierRow = some row) (hwide : g.wide = false) :
    ((p.landedRow g).drainSlot g.lslot).store = p.store.set row.toNat g.data := by
  simp only [Pod.drainSlot, Pod.landedRow, Tbl.get_set_self, hrow, hwide, Pod.barrierRows, Bool.false_eq_true, if_false]

theorem State.deliver_pod (s : State) (sh pod : Nat) (g : ArbReq) :
    (s.deliver sh pod g.lslot g.data g.ext g.wide g.barrierRow).pod sh pod =
      if (g.barrierRow.isSome && !(s.pod sh pod).issuing) = true then ((s.pod sh pod).landedRow g).drainSlot g.lslot else (s.pod sh pod).landedRow g :=
  State.modPod_pod_self _ _ _ _

/-- What a landing leaves (R161, R229). -/
theorem State.deliver_keeps (s : State) (sh pod : Nat) (g : ArbReq) :
    let t := s.deliver sh pod g.lslot g.data g.ext g.wide g.barrierRow
    { t with sh := s.sh } = s ∧ (∀ n, n ≠ sh → t.shal n = s.shal n) ∧ (∀ m, m ≠ pod → t.pod sh m = s.pod sh m) :=
  ⟨rfl, fun _ hn => State.modSh_shal_ne _ _ hn, fun _ hm => State.modPod_pod_ne _ _ (.inr hm)⟩

end Land

/-- Settles O17: a row among the waiting flits by `Street.wholeRow_some`, its landing by the arbiter's grant. -/
theorem rowsArriveAndLand : Obligations.RowsArriveAndLand := by
  unfold Obligations.RowsArriveAndLand
  refine ⟨fun src dst flits s => ?_, fun s src sh pod slot data ext wide barrier unit g => ?_⟩
  · intro k a l buf t W lacks
    rw [exec_rowArrival]
    refine ⟨fun hnone => ?_, ?_⟩
    · have hwait : (a.1.withWaiting k l).blv.rxBuf.get k = l := Tbl.get_set_self _ _ _
      refine congrArg Host.Outcome.next (State.takeRows_none (s := a.1.withWaiting k l) ?_ _)
      rw [hwait]
      exact Street.wholeRow_none hnone
    · intro g e hg hbefore hfind hroute rest hrest pod r1 slot barrier key
      have hpart : ∀ p, p < 8 → flitPart (e p).2 = p := fun p hp => by
        have := List.find?_some (hfind p hp)
        simp only [Bool.and_eq_true, beq_iff_eq] at this
        exact this.1
      have hexec := execRowArrival_row src dst flits s hg hbefore hfind hroute hrest
      rw [State.rowAtShallot_row _ _ _ hpart] at hexec
      refine ⟨rowOfFlits ((List.range 8).map e), fun p hp => rowU_rowOfFlits hpart hp, fun h8 hlast => ?_, fun h8 hlast => ?_, fun first h8 hfirst => ?_⟩
      · rw [hexec, if_neg (by omega), if_pos hlast]
        rfl
      · rw [hexec, if_neg (by omega), if_neg (Bool.eq_false_iff.1 hlast)]
        rfl
      · rw [hexec, if_pos h8, show ((a.1.withWaiting k rest).blv.firstHalf.get key) = some first from hfirst]
        rfl
  · intro k q p t land
    refine ⟨⟨_, rfl, ?_, ?_, fun n hn => State.arb_modArb_ne _ _ hn, rfl⟩, fun hnone => s.arbComplete_idle hnone, fun hg hstay => ?_, fun row hg hrow hwide hend => ?_⟩
    · exact (congrArg Arbiter.reqs (s.arb_modArb_self k _) :)
    · exact (congrArg Arbiter.granted (s.arb_modArb_self k _) :)
    · have ht : t = _ := s.arbComplete_granted sh unit hg
      have hflights : t.seq.exe.flights = s.seq.exe.flights.eraseP (fun f => f.src == g.source && f.dst == sh && f.pod == p && f.slot == g.lslot) := by
        rw [ht]
        rfl
      have harb : (t.arb (arbIx 0 sh unit)).granted = none := by
        rw [ht]
        exact (congrArg Arbiter.granted (s.arb_modArb_self (arbIx 0 sh unit) (fun a => { a with granted := none })) :)
      have hpods : (s.modArb (arbIx 0 sh unit) (fun a => { a with granted := none })).pod sh p = s.pod sh p := rfl
      have hwaits : ¬ (g.barrierRow.isSome && !(s.pod sh p).issuing) = true := by
        rcases hstay with h | h
        · rw [h]; exact Bool.false_ne_true
        · rw [h, Bool.not_true, Bool.and_false]; exact Bool.false_ne_true
      obtain ⟨hkeep, hshal, hpod⟩ := (s.modArb (arbIx 0 sh unit) (fun a => { a with granted := none })).deliver_keeps sh p g
      have hself := (s.modArb (arbIx 0 sh unit) (fun a => { a with granted := none })).deliver_pod sh p g
      rw [hpods, if_neg hwaits] at hself
      exact ⟨by rw [ht]; exact hself, by rw [ht]; exact hshal, by rw [ht]; exact hpod,
        by rw [ht]; exact (congrArg (fun x : State => { x with blv := s.blv, seq := s.seq }) hkeep :), harb, hflights⟩
    · rw [show t = _ from s.arbComplete_granted sh unit hg]
      refine (congrArg Pod.store ((s.modArb (arbIx 0 sh unit) (fun a => { a with granted := none })).deliver_pod sh p g) :).trans ?_
      rw [if_pos (by rw [hrow]; exact Bool.and_eq_true_iff.2 ⟨rfl, by rw [show ((s.modArb (arbIx 0 sh unit) _).pod sh p).issuing = false from hend]; rfl⟩)]
      exact Pod.drainSlot_landedRow _ hrow hwide

end Sys2Proof.Machine
end

section
/-! PROOF. The lock loops of a lane group (R240 to R243). -/
namespace Sys2Proof.Machine

/-! ### Readings -/

/-- A lock loop update leaves all of a lane group but its loops and the map's record of them. -/
def LaneGroup.loopsOf (l l' : LaneGroup) : Prop :=
  { l' with outputs := l.outputs, rings := l.rings, errRun := l.errRun, codes := l.codes, mapErr := l.mapErr, mapRings := l.mapRings } = l

theorem LaneGroup.loopsOf.trans {l l' l'' : LaneGroup} (h : l.loopsOf l') (h' : l'.loopsOf l'') : l.loopsOf l'' := by
  unfold LaneGroup.loopsOf at h h' ⊢
  exact (congrArg (fun x : LaneGroup => { x with outputs := l.outputs, rings := l.rings, errRun := l.errRun, codes := l.codes, mapErr := l.mapErr, mapRings := l.mapRings })
    h').trans h

/-- The state that a ring takes from a lock error (R240). -/
def RingState.next (st : RingState) (err : Nat) : RingState :=
  match st with
  | .slipped => .slipped
  | .down => .down
  | _ => if err ≤ 30 then .locked else .tracking

theorem LaneGroup.reading_spec (l : LaneGroup) (i : Nat) (r : RingReading) :
    l.loopsOf (l.reading i r) ∧ (l.reading i r).codes = l.codes ∧
    ((l.reading i r).outputs.get i = r.u.toNat ∧ (l.reading i r).errRun.get i = (if 120 < r.err.natAbs then l.errRun.get i + 1 else 0) ∧
      (l.reading i r).rings.get i = (l.rings.get i).next r.err.natAbs) ∧
    ∀ k, k ≠ i → (l.reading i r).outputs.get k = l.outputs.get k ∧ (l.reading i r).errRun.get k = l.errRun.get k ∧
      (l.reading i r).rings.get k = l.rings.get k := by
  have hout := Tbl.get_set_self l.outputs i r.u.toNat
  have herr := Tbl.get_mod_self l.errRun i (fun n => if 120 < r.err.natAbs then n + 1 else 0)
  have hout' := fun k (hk : k ≠ i) => Tbl.get_set_ne l.outputs r.u.toNat hk
  have herr' := fun k (hk : k ≠ i) => Tbl.get_mod_ne l.errRun (fun n => if 120 < r.err.natAbs then n + 1 else 0) hk
  let l₁ : LaneGroup :=
    { l with outputs := l.outputs.set i r.u.toNat, errRun := l.errRun.mod i (fun n => if 120 < r.err.natAbs then n + 1 else 0),
             mapErr := max l.mapErr r.err.natAbs }
  cases hst : l.rings.get i
  case slipped | down =>
    have heq : l.reading i r = l₁ := by simp only [LaneGroup.reading, hst, l₁]
    rw [heq]
    exact ⟨rfl, rfl, ⟨hout, herr, hst⟩, fun k hk => ⟨hout' k hk, herr' k hk, rfl⟩⟩
  case locked | tracking =>
    have heq : l.reading i r = l₁.setRing i (if r.err.natAbs ≤ 30 then .locked else .tracking) := by simp only [LaneGroup.reading, hst, l₁]
    rw [heq]
    exact ⟨rfl, rfl, ⟨hout, herr, Tbl.get_set_self _ _ _⟩, fun k hk => ⟨hout' k hk, herr' k hk, Tbl.get_set_ne _ _ hk⟩⟩

/-- The readings of the rings from number `c` on. -/
theorem LaneGroup.readings_spec (rs : List RingReading) (l : LaneGroup) (c : Nat) :
    let l' := (rs.zipIdx c).foldl (fun l r => l.reading r.2 r.1) l
    l.loopsOf l' ∧ l'.codes = l.codes ∧
    (∀ j r, rs[j]? = some r → l'.outputs.get (c + j) = r.u.toNat ∧ l'.errRun.get (c + j) = (if 120 < r.err.natAbs then l.errRun.get (c + j) + 1 else 0) ∧
      l'.rings.get (c + j) = (l.rings.get (c + j)).next r.err.natAbs) ∧
    ∀ k, k < c → l'.outputs.get k = l.outputs.get k ∧ l'.errRun.get k = l.errRun.get k ∧ l'.rings.get k = l.rings.get k := by
  induction rs generalizing l c with
  | nil => exact ⟨rfl, rfl, fun j r h => absurd h (by simp), fun _ _ => ⟨rfl, rfl, rfl⟩⟩
  | cons r rs ih =>
    simp only [List.zipIdx_cons, List.foldl_cons]
    obtain ⟨hkeep₁, hcodes₁, hself₁, hother₁⟩ := l.reading_spec c r
    generalize l.reading c r = l₁ at *
    obtain ⟨hkeep, hcodes, hget, hbelow⟩ := ih l₁ (c + 1)
    refine ⟨hkeep₁.trans hkeep, hcodes.trans hcodes₁, fun j x hx => ?_, fun k hk => ?_⟩
    · cases j with
      | zero =>
        obtain rfl : r = x := Option.some.inj hx
        obtain ⟨ho, he, hr⟩ := hbelow c (Nat.lt_succ_self c)
        simp only [Nat.add_zero, ho, he, hr]
        exact hself₁
      | succ j =>
        obtain ⟨ho, he, hr⟩ := hother₁ (c + 1 + j) (by omega)
        have := hget j x hx
        rw [he, hr] at this
        rw [show c + (j + 1) = c + 1 + j by omega]
        exact this
    · obtain ⟨ho, he, hr⟩ := hbelow k (by omega)
      obtain ⟨ho₁, he₁, hr₁⟩ := hother₁ k (by omega)
      exact ⟨ho.trans ho₁, he.trans he₁, hr.trans hr₁⟩

theorem RingState.next_down (st : RingState) (err : Nat) : st.next err = .down ↔ st = .down := by
  cases st <;> simp only [RingState.next]
  case locked | tracking => split <;> simp

/-! ### Heater codes -/

/-- The first `n` rings heated: each that is not down has its code from the loop outputs, unless the group recalibrates. -/
theorem LaneGroup.heat_foldl (l : LaneGroup) (n : Nat) :
    let l' := (List.range n).foldl (fun l i => if l.running || l.rings.get i == .down then l else { l with codes := l.codes.set i (heaterCode l.matrix l.u i) }) l
    { l' with codes := l.codes } = l ∧
    ∀ i, l'.codes.get i = if i < n then (if l.running = true ∨ l.rings.get i = .down then l.codes.get i else heaterCode l.matrix l.u i) else l.codes.get i := by
  induction n with
  | zero => exact ⟨rfl, fun i => by simp⟩
  | succ n ih =>
    rw [List.range_succ, List.foldl_append]
    simp only [List.foldl_cons, List.foldl_nil]
    generalize (List.range n).foldl _ l = l₁ at *
    obtain ⟨hkeep, hcodes⟩ := ih
    have hrun : l₁.running = l.running := (congrArg LaneGroup.running hkeep :)
    have hrings : l₁.rings = l.rings := (congrArg LaneGroup.rings hkeep :)
    have hmat : l₁.matrix = l.matrix := (congrArg LaneGroup.matrix hkeep :)
    have hu : l₁.u = l.u := (congrArg LaneGroup.u hkeep :)
    have hcond : (l₁.running || l₁.rings.get n == .down) = true ↔ l.running = true ∨ l.rings.get n = .down := by
      rw [hrun, hrings, Bool.or_eq_true, beq_iff_eq]
    by_cases hstay : l.running = true ∨ l.rings.get n = .down
    · rw [if_pos (hcond.2 hstay)]
      refine ⟨hkeep, fun i => (hcodes i).trans ?_⟩
      by_cases hi : i = n
      · subst hi; simp [hstay]
      · simp only [show i < n + 1 ↔ i < n by omega]
    · rw [if_neg (mt hcond.1 hstay)]
      refine ⟨hkeep, fun i => ?_⟩
      rw [Tbl.get_set, hmat, hu]
      by_cases hi : i = n
      · subst hi; simp [hstay]
      · rw [if_neg hi, hcodes]
        simp only [show i < n + 1 ↔ i < n by omega]

theorem State.modLane_congr (s : State) (g : LaneRef) {f f' : LaneGroup → LaneGroup} (h : f (s.lane g) = f' (s.lane g)) : s.modLane g f = s.modLane g f' := by
  unfold State.lane at h
  simp only [State.modLane, Tbl.mod, h]

theorem rangeReached_iff (l l' : LaneGroup) :
    rangeReached l l' = true ↔ ∃ i, i < 16 ∧ (l'.codes.get i = 0 ∨ l'.codes.get i = 65535) ∧ l.codes.get i ≠ l'.codes.get i := by
  unfold rangeReached
  simp only [upto_eq_range, List.any_eq_true, List.mem_range, Bool.and_eq_true, Bool.or_eq_true, beq_iff_eq, bne_iff_ne]

/-- Settles O19: the readings one by one (`LaneGroup.readings_spec`), then the codes (`LaneGroup.heat_foldl`). -/
theorem lockLoops : Obligations.LockLoops := by
  unfold Obligations.LockLoops
  intro g rings s l clamp
  rw [exec_lockLoopUpdate, exec_feedforwardUpdate]
  have hclamp : ∀ x, (clampI 0 65535 x).toNat = clamp x := fun x => by rw [clampI_eq _ _ _ (by decide)]
  refine ⟨fun hlen => ?_, fun h8 => if_neg (Nat.not_lt.2 h8), fun h8 => ?_⟩
  · obtain ⟨hkeep₁, hcodes₁, hread, -⟩ := LaneGroup.readings_spec rings l 0
    have htake : rings.take 16 = rings := List.take_of_length_le (by omega)
    rw [execLockLoopUpdate, htake]
    simp only [Nat.zero_add] at hread
    rw [show s.lane g = l from rfl]
    generalize rings.zipIdx.foldl (fun l r => l.reading r.2 r.1) l = l₁ at *
    obtain ⟨hkeep₂, hcodes₂⟩ := l₁.heat_foldl 16
    rw [show (List.range 16).foldl _ l₁ = l₁.heat from rfl] at hkeep₂ hcodes₂
    have hout : l₁.heat.outputs = l₁.outputs := (congrArg LaneGroup.outputs hkeep₂ :)
    have herr : l₁.heat.errRun = l₁.errRun := (congrArg LaneGroup.errRun hkeep₂ :)
    have hrings : l₁.heat.rings = l₁.rings := (congrArg LaneGroup.rings hkeep₂ :)
    have hrun : l₁.running = l.running := (congrArg LaneGroup.running hkeep₁ :)
    have hmat : l₁.matrix = l.matrix := (congrArg LaneGroup.matrix hkeep₁ :)
    have hff : l₁.ffTerm = l.ffTerm := (congrArg LaneGroup.ffTerm hkeep₁ :)
    refine ⟨l₁.heat, fun i r hr => ?_, fun i hi => ?_, ?_, ?_⟩
    · obtain ⟨ho, he, hst⟩ := hread i r hr
      rw [hout, herr, hrings]
      refine ⟨ho, he, fun h => ?_, fun hs hd => ?_⟩
      · rw [hst]
        rcases h with h | h <;> rw [h] <;> rfl
      · rw [hst]
        cases hl : l.rings.get i
        case slipped => exact absurd hl hs
        case down => exact absurd hl hd
        case locked | tracking => rfl
    · have hr : rings[i]? = some rings[i] := List.getElem?_eq_getElem (by omega)
      rw [hcodes₂, if_pos hi, hrun, hcodes₁, (hread i _ hr).2.2]
      simp only [RingState.next_down]
      refine ite_congr rfl (fun _ => rfl) (fun _ => ?_)
      simp only [heaterCode, LaneGroup.u, sumI_eq_sum, upto_eq_range, hclamp, hmat, hff, hout]
    · exact (congrArg (fun x : LaneGroup => { x with outputs := l.outputs, rings := l.rings, errRun := l.errRun, codes := l.codes, mapErr := l.mapErr, mapRings := l.mapRings })
        hkeep₂ :).trans hkeep₁
    · exact congrArg Host.Outcome.next (ite_congr (propext (rangeReached_iff _ _)) (fun _ => rfl) (fun _ => rfl))
  · exact (if_pos h8).trans (congrArg Host.Outcome.next (State.modLane_congr s g rfl))

end Sys2Proof.Machine
end

section
/-! PROOF. The command that runs, through what raises, sends and fences. -/
namespace Sys2Proof.Machine

/-! ### The running command -/

/-- The command that runs, if one does. -/
def State.cmd (s : State) : Option RunningCmd := s.host.running

theorem State.cmd_of_host {s t : State} (h : t.host = s.host) : t.cmd = s.cmd := congrArg HostIf.running h

@[simp] theorem State.msix_cmd (s : State) (v : Nat) : (s.msix v).cmd = s.cmd := by
  unfold State.msix
  split <;> rfl

@[simp] theorem State.raise_cmd (s : State) (code plaza unit : Nat) (detail : List Byte) : (s.raise code plaza unit detail).cmd = s.cmd := by
  unfold State.raise State.eventSignal
  dsimp only
  repeat' split
  · rfl
  · exact State.msix_cmd _ _
  · rfl

theorem State.answerCmd_cmd (s : State) (c : RunningCmd) (st : Status) (aborted other : Bool) (res : List Word) :
    (s.answerCmd c st aborted other res).cmd = s.cmd := by
  unfold State.answerCmd
  cases c.path
  case host => exact State.msix_cmd _ _
  case reach src h => exact State.cmd_of_host (s.sendTo_host _ _ _)
  case mews port => exact State.cmd_of_host (s.mewsReply_host _ _ _ _ _ _ _ _)

/-- No command runs once one has ended. -/
@[simp] theorem State.endCmd_cmd (s : State) (st : Status) (res : List Word) : (s.endCmd st res).cmd = none := by
  unfold State.endCmd
  cases h : s.host.running
  case none => exact h
  case some c => exact State.answerCmd_cmd _ _ _ _ _ _

/-! ### Flits change streets and outputs alone -/

@[simp] theorem State.pumpGo_host (src dst w n : Nat) (s : State) : (pumpGo src dst w n s).host = s.host := by
  induction n generalizing s with
  | zero => rfl
  | succ n ih =>
    simp only [pumpGo]
    split
    · rfl
    · split
      · rfl
      · exact (ih _).trans rfl

@[simp] theorem State.sendFlit_host (s : State) (src dst w header payload : Nat) : (s.sendFlit src dst w header payload).host = s.host := by
  unfold State.sendFlit
  split
  · rfl
  · exact (State.pumpGo_host _ _ _ _ _).trans rfl

@[simp] theorem State.fence_cmd (s : State) (n : Nat) : (s.fence n).cmd = s.cmd := by
  unfold State.fence
  dsimp only
  repeat' split
  · rfl
  · exact (State.cmd_of_host (State.endExec_host _ _)).trans (State.raise_cmd _ _ _ _ _)
  · rfl

@[simp] theorem State.streetDown_cmd (s : State) (src dst : Nat) : (s.streetDown src dst).cmd = s.cmd := by
  have hraise := s.raise_cmd 0x2002 src dst (streetDetail src dst)
  unfold State.streetDown
  dsimp only
  repeat' split
  · rw [State.fence_cmd, State.fence_cmd, hraise]
  · rw [State.fence_cmd, hraise]
  · rw [State.fence_cmd, hraise]
  · exact hraise
  · rw [State.cmd_of_host (State.endExec_host _ _), hraise]
  · exact hraise

theorem State.moveWaiting_cmd (s : State) (src dst w : Nat) : (s.moveWaiting src dst w).cmd = s.cmd := by
  unfold State.moveWaiting
  split <;> rfl

theorem State.modLaneAt_host (s : State) (rx : Bool) (plaza lane : Nat) (f : LaneGroup → LaneGroup) : (s.modLaneAt rx plaza lane f).host = s.host := rfl

theorem State.modWave_host (s : State) (a b n : Nat) (f : Wave → Wave) : (s.modWave a b n f).host = s.host := rfl

theorem State.notPassing_host (s : State) (p q : Nat) : (s.notPassing p q).host = s.host := rfl

theorem State.ringsDown_host (s : State) (src dst w : Nat) : (s.ringsDown src dst w).host = s.host := by
  simp only [State.ringsDown, State.modLaneAt_host]

theorem State.markDown_host (s : State) (src dst w : Nat) (dark : Bool) : (s.markDown src dst w dark).host = s.host := by
  rw [State.markDown, State.notPassing_host, State.ringsDown_host, State.modWave_host]

/-- The flits of a wavelength that goes down leave no command behind them. -/
theorem State.resendDown_cmd (s : State) (src dst w : Nat) (fs : List Flit) (detail : List Byte) :
    (fs.foldl (fun t f => t.sendFlit src dst w (flitHeader f) (flitPayload f)) (((s.markDown src dst w false).moveWaiting src dst w).raise 0x2001 src w detail)).cmd =
      s.cmd := by
  rw [proj_foldl State.cmd _ _ _ fun t f => State.cmd_of_host (t.sendFlit_host _ _ _ _ _), State.raise_cmd, State.moveWaiting_cmd]
  exact State.cmd_of_host (s.markDown_host src dst w false)

@[simp] theorem State.waveDown_cmd (s : State) (src dst w : Nat) : (s.waveDown src dst w).cmd = s.cmd := by
  unfold State.waveDown
  dsimp only
  repeat' split
  · rfl
  · exact (State.streetDown_cmd _ _ _).trans (s.resendDown_cmd src dst w _ _)
  · exact s.resendDown_cmd src dst w _ _

end Sys2Proof.Machine
end
section
/-! PROOF. Calibrations (R241, R265 to R270) and recesses (R22, R154, R175, R176, R189). -/
namespace Sys2Proof.Machine

/-! ### Measurements -/

/-- The limits on a lane group whose crosstalk is not measured afresh (R268). -/
theorem plausible_lane_iff (r : Sys2Proof.CalReading) : plausible r false = true ↔
    (∀ v ∈ r.codes, 2048 ≤ v.toNat ∧ v.toNat ≤ 63487) ∧ r.gainRef * 3 ≤ r.gain * 4 ∧ r.gain * 4 ≤ r.gainRef * 5 ∧
      (∀ v ∈ r.bias, 256 ≤ v.toNat ∧ v.toNat ≤ 3839) ∧ 50 ≤ r.extinction ∧ (∀ v ∈ r.offsets, 112 ≤ v.toNat ∧ v.toNat ≤ 911) ∧
      r.tcalError.natAbs ≤ 640 ∧ 71 ≤ r.q := by
  simp only [plausible, Bool.and_eq_true, List.all_eq_true, decide_eq_true_eq, Bool.not_false, Bool.true_or, and_true, and_assoc]

@[simp] theorem State.lane_modLane_self (s : State) (g : LaneRef) (f : LaneGroup → LaneGroup) : (s.modLane g f).lane g = f (s.lane g) :=
  Tbl.get_mod_self _ _ _

theorem State.lane_modLane_ne (s : State) {g g' : LaneRef} (f : LaneGroup → LaneGroup) (h : laneIx g' ≠ laneIx g) : (s.modLane g f).lane g' = s.lane g' :=
  Tbl.get_mod_ne _ _ h

theorem State.lane_of_blv {s t : State} (h : t.blv = s.blv) (g : LaneRef) : t.lane g = s.lane g := congrArg (fun b : Boulevard => b.lanes.get (laneIx g)) h

/-- A refused calibration (R269). -/
theorem State.failCal_spec (s : State) (g : LaneRef) :
    let t := s.failCal g
    let l := s.lane g
    t.lane g = { l with marked := true, failRun := l.failRun + 1, autoOff := l.autoOff || decide (2 ≤ l.failRun + 1) } ∧
    (∀ g', laneIx g' ≠ laneIx g → t.lane g' = s.lane g') ∧ t.seq = s.seq ∧ t.cmd = s.cmd ∧ t.lamp = { s.lamp with calFails := satAdd s.lamp.calFails 1 } := by
  intro t l
  let t₁ := s.modLane g (fun x => { x with marked := true, failRun := l.failRun + 1, autoOff := x.autoOff || decide (2 ≤ l.failRun + 1) })
  let t₂ : State := { t₁ with lamp := { t₁.lamp with calFails := satAdd t₁.lamp.calFails 1 } }
  have hraised : ∃ u : State, t = u ∧ u.blv = t₂.blv ∧ u.seq = t₂.seq ∧ u.cmd = t₂.cmd ∧ u.lamp = t₂.lamp := by
    by_cases hn : l.failRun + 1 = 2
    · exact ⟨_, if_pos hn, by rw [State.raise_blv, State.raise_blv], by rw [State.raise_seq, State.raise_seq], by rw [State.raise_cmd, State.raise_cmd],
        by rw [State.raise_lamp, State.raise_lamp]⟩
    · exact ⟨_, if_neg hn, by rw [State.raise_blv], by rw [State.raise_seq], by rw [State.raise_cmd], by rw [State.raise_lamp]⟩
  obtain ⟨u, hu, hblv, hseq, hcmd, hlamp⟩ := hraised
  rw [hu]
  exact ⟨(State.lane_of_blv hblv g).trans (s.lane_modLane_self g _), fun g' hg' => (State.lane_of_blv hblv g').trans (s.lane_modLane_ne _ hg'), hseq, hcmd, hlamp⟩

/-- Measurements within their limits are committed (R265, R268). -/
theorem State.judgeCal_commit (s : State) {r : Sys2Proof.CalReading} (h : plausible r false = true) :
    s.judgeCal false r = s.modLane r.group (fun l => l.commitCal r false) := if_pos h

theorem State.judgeCal_refuse (s : State) {r : Sys2Proof.CalReading} (h : ¬ plausible r false = true) : s.judgeCal false r = s.failCal r.group := if_neg h

theorem State.judgeCal_cmd (s : State) (full : Bool) (r : Sys2Proof.CalReading) : (s.judgeCal full r).cmd = s.cmd := by
  unfold State.judgeCal
  split
  · rfl
  · exact (s.failCal_spec r.group).2.2.2.1

/-- Codes set one after another from 0 on. -/
theorem Tbl.get_setRun_zero (t : Tbl Nat) (vs : List Nat) (i v : Nat) (h : vs[i]? = some v) : (Tbl.setRun t 0 vs).get i = v := by
  have hget := Tbl.get_updRun (fun _ v => v) t 0 i vs
  rw [Nat.zero_add, h] at hget
  rw [Tbl.setRun_eq_updRun]
  exact hget

theorem State.calWave_cmd (s : State) (weak : List (Nat × Nat × Nat)) (src dst w : Nat) : (s.calWave weak src dst w).cmd = s.cmd := by
  unfold State.calWave
  dsimp only
  repeat' split
  · exact State.cmd_of_host ((State.ringsDown_host _ _ _ _).trans (State.modWave_host _ _ _ _ _))
  · exact (State.waveDown_cmd _ _ _ _).trans (State.cmd_of_host (State.modWave_host _ _ _ _ _))
  · exact State.cmd_of_host ((State.modWave_host _ _ _ _ _).trans (State.modWave_host _ _ _ _ _))

theorem State.calWaves_cmd (s : State) (weak : List (Nat × Nat × Nat)) : (s.calWaves weak).cmd = s.cmd :=
  proj_foldl State.cmd _ _ _ fun t x => t.calWave_cmd weak x.1 x.2.1 x.2.2

/-- The results and the values of a calibration, before its event and its answer. -/
def State.calEnded (s : State) (readings : List Sys2Proof.CalReading) (weak : List WaveRef) : State :=
  let t := (readings.foldl (fun t r => t.judgeCal true r) (s.calRings.calWaves (weak.map (fun w => (w.src.val, w.dst.val, w.wave.val))))).calResult
  { t with lamp := { t.lamp with calPhase := 0, calDone := true } }

theorem State.calEnded_cmd (s : State) (readings : List Sys2Proof.CalReading) (weak : List WaveRef) : (s.calEnded readings weak).cmd = s.cmd := by
  have hjudge := proj_foldl State.cmd (fun t r => t.judgeCal true r) readings (s.calRings.calWaves (weak.map (fun w => (w.src.val, w.dst.val, w.wave.val))))
    fun t r => t.judgeCal_cmd true r
  exact hjudge.trans (State.calWaves_cmd _ _)

/-- The package passes where every plaza does (R270). -/
theorem State.calResult_pass (s : State) : s.calResult.lamp.packagePass = true ↔ ∀ p, p < 27 → s.calResult.lamp.plazaPass.getLsbD p = true := by
  have hbit : ∀ p, p < 27 → (BitVec.ofNat 27 (packN 1 (fun p => b2n (s.plazaPasses p)) 27)).getLsbD p = s.plazaPasses p := fun p hp => by
    rw [BitVec.getLsbD_ofNat, packN_testBit 1 Nat.one_pos, Nat.div_one, Nat.mod_one, decide_eq_true hp,
      Bool.true_and, Bool.true_and]
    cases s.plazaPasses p <;> rfl
  simp only [State.calResult, upto_eq_range, List.all_map, List.all_eq_true, List.mem_range, Function.comp_apply]
  exact forall₂_congr fun p hp => by rw [hbit p hp]

/-- The end of a calibration: its results, and the answer of a command that waits for it (R265, R270). -/
theorem State.endCal_spec (s : State) (readings : List Sys2Proof.CalReading) (weak : List WaveRef) :
    let t := s.endCal readings weak
    t.lamp = (s.calEnded readings weak).lamp ∧ (s.cmd = none → t.cmd = none) ∧ (∀ c, s.cmd = some c → c.opcode = 8 → t.cmd = none) := by
  intro t
  have ht : t = match ((s.calEnded readings weak).raise 0x3012 mPlaza 0 [BitVec.ofNat 8 (b2n (s.calEnded readings weak).lamp.packagePass)]).cmd with
      | some c => if c.opcode = 8 then
          ((s.calEnded readings weak).raise 0x3012 mPlaza 0 [BitVec.ofNat 8 (b2n (s.calEnded readings weak).lamp.packagePass)]).endCmd .ok []
        else (s.calEnded readings weak).raise 0x3012 mPlaza 0 [BitVec.ofNat 8 (b2n (s.calEnded readings weak).lamp.packagePass)]
      | none => (s.calEnded readings weak).raise 0x3012 mPlaza 0 [BitVec.ofNat 8 (b2n (s.calEnded readings weak).lamp.packagePass)] := rfl
  have hcmd := (State.raise_cmd (s.calEnded readings weak) 0x3012 mPlaza 0 [BitVec.ofNat 8 (b2n (s.calEnded readings weak).lamp.packagePass)]).trans
    (s.calEnded_cmd readings weak)
  have hlamp := State.raise_lamp (s.calEnded readings weak) 0x3012 mPlaza 0 [BitVec.ofNat 8 (b2n (s.calEnded readings weak).lamp.packagePass)]
  rw [ht]
  generalize (s.calEnded readings weak).raise 0x3012 mPlaza 0 [BitVec.ofNat 8 (b2n (s.calEnded readings weak).lamp.packagePass)] = u at *
  rw [← hlamp, ← hcmd]
  cases hu : u.cmd
  case none => exact ⟨rfl, fun _ => hu, fun c h => absurd h (by simp)⟩
  case some c =>
    by_cases hop : c.opcode = 8
    · simp only [if_pos hop]
      exact ⟨State.endCmd_lamp _ _ _, fun h => absurd h (by simp), fun _ _ _ => State.endCmd_cmd _ _ _⟩
    · simp only [if_neg hop]
      exact ⟨trivial, fun h => absurd h (by simp), fun d hd hd8 => absurd hd8 (Option.some.inj hd ▸ hop)⟩

/-- The judged state with the lane group out of the recess's work, and the pass results (R267, R270). -/
def State.laneDone (s : State) (r : Sys2Proof.CalReading) : State :=
  let u := (s.modLane r.group (fun l => { l with running := false })).judgeCal false r
  { u with seq := { u.seq with work := { u.seq.work with lanes := u.seq.work.lanes.erase (laneIx r.group) } } }.calResult

theorem execLaneGroupRecalDone_idle {r : Sys2Proof.CalReading} {s : State} (hl : (s.lane r.group).running = true) (hlock : r.noLock = [])
    (hhost : s.host.running = none) : execLaneGroupRecalDone r s = .next (s.laneDone r) := by
  have hcmd : (s.laneDone r).host.running = none := (State.judgeCal_cmd _ false r).trans hhost
  unfold State.laneDone at hcmd ⊢
  rw [execLaneGroupRecalDone, if_pos hl]
  simp only [hlock, List.foldl_nil, ite_self, hcmd]

theorem State.laneDone_lane (s : State) (r : Sys2Proof.CalReading) (g : LaneRef) :
    (s.laneDone r).lane g = ((s.modLane r.group (fun l => { l with running := false })).judgeCal false r).lane g := rfl

theorem State.laneDone_lanes (s : State) (r : Sys2Proof.CalReading) :
    (s.laneDone r).seq.work.lanes = ((s.modLane r.group (fun l => { l with running := false })).judgeCal false r).seq.work.lanes.erase (laneIx r.group) := rfl

theorem State.laneDone_calFails (s : State) (r : Sys2Proof.CalReading) :
    (s.laneDone r).lamp.calFails = ((s.modLane r.group (fun l => { l with running := false })).judgeCal false r).lamp.calFails := rfl

/-! ### Recesses -/

theorem State.modShs_keeps (s : State) (test : Shallot → Bool) (f : Shallot → Shallot) : { s.modShs test f with sh := s.sh } = s :=
  proj_foldl (fun u => { u with sh := s.sh }) _ _ _ fun u n => by split <;> rfl

theorem State.modShs_shal_of_not (s : State) (test : Shallot → Bool) (f : Shallot → Shallot) {n : Nat} (h : test (s.shal n) = false) :
    (s.modShs test f).shal n = s.shal n := by
  unfold State.modShs
  rw [foldl_modSh_shal test f _ (by decide), h]
  exact if_neg fun hc => absurd hc.2 Bool.false_ne_true

theorem State.shal_of_sh {s t : State} (h : t.sh = s.sh) (n : Nat) : t.shal n = s.shal n := congrArg (fun x : Tbl Shallot => x.get n) h

/-- A recess begins while running: every placed shallot that is in none enters it (R154, R175). -/
theorem State.forceRecess_begins {s : State} (hrun : s.top.state = .running) (hgrant : s.seq.grant = none) (hswitch : s.cond.switching = none) :
    let t := s.forceRecess
    t.seq.grant = some .forced ∧ t.seq.flitWait = true ∧ t.seq.work = s.wholeGrant ∧ t.seq.demands = [] ∧
    ∀ n, n < 8 → (s.shal n).placed = true → (s.shal n).recess = none →
      t.shal n = { s.shal n with recess := some .forced, recessAt := s.top.now, recessCount := satAdd (s.shal n).recessCount 1 } := by
  intro t
  let t₁ := s.beginRecess .forced s.wholeGrant
  have ht : t = { t₁ with seq := { t₁.seq with flitWait := true } }.raise 0x0017 pkgPlaza 0 [] :=
    (if_neg (by rw [hgrant]; decide)).trans (if_neg (by rw [hswitch]; decide))
  have hshs : t₁ = { s.modShs (fun h => h.placed && h.recess.isNone) (fun h =>
        { h with recess := some .forced, recessAt := s.top.now, recessCount := satAdd h.recessCount 1 }) with
      seq := { s.seq with grant := some .forced, work := s.wholeGrant, demands := s.seq.demands.drop s.wholeGrant.other.length } } := by
    simp only [t₁, State.beginRecess, hrun, beq_self_eq_true, if_true, State.modShs_seq]
  have hsh : t.sh = (s.modShs (fun h => h.placed && h.recess.isNone) (fun h =>
      { h with recess := some .forced, recessAt := s.top.now, recessCount := satAdd h.recessCount 1 })).sh := by
    rw [ht, State.raise_sh, hshs]
  have hseq : t.seq = { s.seq with grant := some .forced, work := s.wholeGrant, demands := s.seq.demands.drop s.wholeGrant.other.length, flitWait := true } := by
    rw [ht, State.raise_seq, hshs]
  rw [hseq]
  refine ⟨rfl, rfl, rfl, List.drop_length, fun n hn hp hr => ?_⟩
  rw [State.shal_of_sh hsh, modShs_shal s _ _ hn]
  exact if_pos (by rw [hp, hr]; rfl)

/-- In IDLE and LOADED what waits is granted at once (R258). -/
theorem State.grantIdle_begins {s : State} (hstate : s.top.state = .idle ∨ s.top.state = .loaded) (hgrant : s.seq.grant = none) (hwork : s.seq.demands ≠ []) :
    s.grantIdle = { s with seq := { s.seq with grant := some .scheduled, work := s.wholeGrant, demands := [] } } := by
  have hnone : s.wholeGrant.none = false := by
    rw [RecessWork.none, show s.wholeGrant.other.isEmpty = false from List.isEmpty_eq_false_iff.2 hwork, Bool.and_false]
  have hrun : (s.top.state == .running) = false := by rcases hstate with h | h <;> rw [h] <;> rfl
  have hmay : (s.top.state == .idle || s.top.state == .loaded) = true := by rcases hstate with h | h <;> rw [h] <;> rfl
  rw [State.grantIdle, if_pos hmay, if_neg (by rw [hgrant]; decide), if_neg (by rw [hnone]; decide), State.beginRecess, hrun, if_neg Bool.false_ne_true]
  exact congrArg (fun d => { s with seq := { s.seq with grant := some .scheduled, work := s.wholeGrant, demands := d } }) List.drop_length

theorem State.grantIdle_running {s : State} (hstate : s.top.state = .running) : s.grantIdle = s := if_neg (by rw [hstate]; decide)

/-- The end of a recess: its grant, and every shallot in it with its time counted (R176, R189). -/
theorem State.endRecess_spec (s : State) :
    let t := s.endRecess
    t.seq.grant = none ∧ t.seq.work = {} ∧ t.seq.flitWait = false ∧ t.seq.phase = (if s.seq.phase = .recess then .barrier else s.seq.phase) ∧
    { t with sh := s.sh, seq := s.seq } = s ∧
    (∀ n, n < 8 → (s.shal n).recess.isSome = true →
      t.shal n = { s.shal n with recess := none, recessUs := satAdd (s.shal n).recessUs ((s.top.now - (s.shal n).recessAt) / 1000) }) ∧
    ∀ n, (s.shal n).recess = none → t.shal n = s.shal n := by
  have hseq₁ := State.modShs_seq s (fun h => h.recess.isSome) (fun h => { h with recess := none, recessUs := satAdd h.recessUs ((s.top.now - h.recessAt) / 1000) })
  have hkeep := State.modShs_keeps s (fun h => h.recess.isSome) (fun h => { h with recess := none, recessUs := satAdd h.recessUs ((s.top.now - h.recessAt) / 1000) })
  have hshal := fun n (hn : n < 8) => modShs_shal s (fun h => h.recess.isSome)
    (fun h => { h with recess := none, recessUs := satAdd h.recessUs ((s.top.now - h.recessAt) / 1000) }) hn
  have hout := fun n => State.modShs_shal_of_not s (fun h => h.recess.isSome)
    (fun h => { h with recess := none, recessUs := satAdd h.recessUs ((s.top.now - h.recessAt) / 1000) }) (n := n)
  unfold State.endRecess
  generalize s.modShs (fun h => h.recess.isSome) (fun h => { h with recess := none, recessUs := satAdd h.recessUs ((s.top.now - h.recessAt) / 1000) }) = v at *
  refine ⟨rfl, rfl, rfl, ?_, (congrArg (fun x : State => { x with seq := s.seq }) hkeep :), fun n hn hr => (hshal n hn).trans (if_pos hr),
    fun n hr => hout n (by rw [hr]; rfl)⟩
  rw [← hseq₁]
  simp only [beq_iff_eq]

/-- Settles O22: the calibration's end by `State.endCal_spec`, a lane group by `State.failCal_spec`, the recesses by what grants them. -/
theorem calibrationsAndRecesses : Obligations.CalibrationsAndRecesses := by
  unfold Obligations.CalibrationsAndRecesses
  refine ⟨fun g r readings weak s => ?_, fun us overdue s => ?_⟩
  · intro l limits may
    have hmay : (s.top.state == .bringup || s.top.state == .idle || s.top.state == .loaded) = true ↔ may := by
      simp only [Bool.or_eq_true, beq_iff_eq, or_assoc, may]
    rw [exec_calPhaseEnd, exec_laneGroupRecal, exec_laneGroupRecalDone]
    refine ⟨fun h => if_pos ?_, fun hm h1 h8 => ?_, fun hm h8 => ?_, fun hrun hgrant hlane hlamps hwait hpend hfree => ?_, fun hrun hgrant => ?_,
      fun hl => if_neg (Bool.eq_false_iff.1 hl), fun hl hlock hhost => ?_⟩
    · refine h.imp_right fun h => ?_
      rw [Bool.eq_false_iff.2 (mt hmay.1 h)]
      rfl
    · exact (if_neg (by rw [hmay.2 hm, not_or]; exact ⟨by omega, by decide⟩)).trans (if_pos h8)
    · have hexec : execCalPhaseEnd readings weak s = .next (s.endCal readings weak) :=
        (if_neg (by rw [hmay.2 hm, not_or]; exact ⟨by omega, by decide⟩)).trans (if_neg (Nat.not_lt.2 h8))
      obtain ⟨hlamp, hnone, hsome⟩ := s.endCal_spec readings weak
      refine ⟨_, hexec, by rw [hlamp]; rfl, by rw [hlamp]; rfl, ?_, hnone, hsome⟩
      rw [hlamp]
      exact State.calResult_pass _
    · rw [execLaneGroupRecal, State.grantIdle_running hrun]
      refine congrArg Host.Outcome.next (if_pos ?_)
      refine ⟨hgrant, hlane, List.isEmpty_iff.2 hlamps, by rw [hwait]; rfl, hpend, ?_⟩
      rw [Bool.not_eq_true', List.any_eq_false]
      exact fun x hx => Bool.eq_false_iff.1 (hfree x hx)
    · rw [execLaneGroupRecal, State.grantIdle_running hrun]
      exact congrArg Host.Outcome.next (if_neg fun h => by rw [hgrant] at h; exact absurd h.1 Bool.false_ne_true)
    · have hlimits : plausible r false = true ↔ limits := plausible_lane_iff r
      have hself := s.lane_modLane_self r.group (fun l => { l with running := false })
      have hother := fun g' (hg' : laneIx g' ≠ laneIx r.group) => s.lane_modLane_ne (fun l => { l with running := false }) hg'
      refine ⟨_, execLaneGroupRecalDone_idle hl hlock hhost, ?_⟩
      simp only [State.laneDone_lane, State.laneDone_lanes, State.laneDone_calFails]
      by_cases hok : plausible r false = true
      · rw [State.judgeCal_commit _ hok]
        have hlane := (s.modLane r.group (fun l => { l with running := false })).lane_modLane_self r.group (fun l => l.commitCal r false)
        rw [hself] at hlane
        refine ⟨by rw [hlane]; rfl, rfl, fun _ i v hv => ?_, fun _ => ?_, fun hnot => absurd (hlimits.1 hok) hnot, fun g' hg' => ?_⟩
        · rw [hlane]
          exact Tbl.get_setRun_zero l.codes _ _ _ (by rw [List.getElem?_map, hv]; rfl)
        · rw [hlane]
          exact ⟨rfl, rfl, rfl, rfl, rfl⟩
        · rw [State.lane_modLane_ne _ _ hg', hother g' hg']
      · rw [State.judgeCal_refuse _ hok]
        obtain ⟨hlane, hrest, hseq, -, hlamp⟩ := (s.modLane r.group (fun l => { l with running := false })).failCal_spec r.group
        rw [hself] at hlane
        have hnot : ¬ limits := mt hlimits.2 hok
        rw [hlane, hseq, hlamp]
        refine ⟨rfl, rfl, fun h => absurd h hnot, fun h => absurd h hnot, fun _ => ⟨rfl, rfl, rfl, rfl, rfl, ?_⟩, fun g' hg' => ?_⟩
        · simp only [Bool.or_eq_true, decide_eq_true_eq]
          rfl
        · rw [hrest g' hg', hother g' hg']
  · intro asked whole
    rw [exec_recessDemand, exec_forcedRecessWaitEnd, exec_recessWorkDone]
    refine ⟨fun hrun hover => ?_, fun hrun hover hgrant hswitch => ?_, fun hrun hover hgrant hswitch => ?_, fun hstate hgrant => ?_, rfl, fun hgrant hlamps hlanes => ?_,
      fun h => if_neg ?_⟩
    · rw [execRecessDemand, hover]
      refine congrArg Host.Outcome.next ((if_neg ?_).trans (State.grantIdle_running hrun))
      rw [Bool.and_false]
      exact Bool.false_ne_true
    · have hforce : execRecessDemand us overdue s = .next asked.forceRecess :=
        congrArg Host.Outcome.next (if_pos (by rw [hover, Bool.and_true]; exact beq_iff_eq.2 hrun))
      rw [hforce]
      exact congrArg Host.Outcome.next ((if_neg (by rw [show asked.seq.grant = none from hgrant]; decide)).trans (if_pos hswitch))
    · have hforce : execRecessDemand us overdue s = .next asked.forceRecess :=
        congrArg Host.Outcome.next (if_pos (by rw [hover, Bool.and_true]; exact beq_iff_eq.2 hrun))
      obtain ⟨hg, hw, hwork, hdem, hshal⟩ := State.forceRecess_begins (s := asked) hrun hgrant hswitch
      refine ⟨_, hforce, hg, hw, hwork, hdem, fun n hn hp hr => ?_⟩
      rw [hshal n hn hp hr]
      exact ⟨rfl, rfl, rfl⟩
    · have hrun : (s.top.state == .running) = false := by rcases hstate with h | h <;> rw [h] <;> rfl
      have hidle : execRecessDemand us overdue s = .next asked.grantIdle :=
        congrArg Host.Outcome.next (if_neg (by rw [show asked.top.state = s.top.state from rfl, hrun, Bool.false_and]; exact Bool.false_ne_true))
      rw [hidle, State.grantIdle_begins (s := asked) hstate hgrant (List.append_ne_nil_of_right_ne_nil _ (List.cons_ne_nil _ _))]
      rfl
    · have hend : execRecessWorkDone s = .next s.endRecess := if_pos (by rw [hgrant, hlamps, hlanes]; rfl)
      exact ⟨_, hend, s.endRecess_spec⟩
    · rw [Bool.and_eq_true, Bool.and_eq_true, List.isEmpty_iff, List.isEmpty_iff]
      rintro ⟨⟨hg, hl⟩, hn⟩
      rcases h with h | h | h
      · rw [h] at hg
        exact Bool.false_ne_true hg
      · exact h hl
      · exact h hn

end Sys2Proof.Machine
end

section
/-! PROOF. Host commands: how they are checked, begin and end (R364 to R369). -/
namespace Sys2Proof.Machine

/-! ### Commands of the host -/

/-- Twelve arguments are taken as they are. -/
theorem twelveArgs {a : List Word} (ha : a.length = 12) : (a ++ List.replicate 12 0).take 12 = a := List.take_left' ha

section HostCommand
variable (s : State) (op : Nat) {args : List Word} (hargs : args.length = 12) (f : State → RunningCmd → State)

theorem State.hostCommand_away (h : ¬ (s.host.ready = true ∧ s.host.linkUp = true)) : s.hostCommand op args f = s :=
  if_pos (by rw [State.hostReaches, Bool.not_eq_true', Bool.and_eq_false_iff]; exact (Classical.not_and_iff_not_or_not.1 h).imp Bool.eq_false_iff.2 Bool.eq_false_iff.2)

theorem State.hostCommand_busy (hready : s.host.ready = true) (hlink : s.host.linkUp = true) (hbusy : s.host.busy = true) :
    s.hostCommand op args f = { s with host := { s.host with overrun := satAdd s.host.overrun 1 } } :=
  (if_neg (by rw [State.hostReaches, hready, hlink]; decide)).trans (if_pos hbusy)

include hargs

theorem State.hostCommand_free (hfree : s.hostFree) : s.hostCommand op args f = f (s.cmdWritten op args) { opcode := op, args := args } := by
  obtain ⟨hready, hlink, hbusy⟩ := hfree
  unfold State.hostCommand
  rw [if_neg (by rw [State.hostReaches, hready, hlink]; decide), if_neg (Bool.eq_false_iff.1 hbusy)]
  simp only [twelveArgs hargs]
  rfl

end HostCommand

/-- The answer to a host command is what CMD_STATUS and CMD_RESULT show (R364, R368). -/
theorem State.answerCmd_host (s : State) (c : RunningCmd) (hpath : c.path = .host) (st : Status) (other : Bool) (res : List Word) :
    s.answerCmd c st false other res = s.cmdDone c.accept st.code other (res.take 8) := by
  unfold State.answerCmd
  rw [hpath]
  rfl

theorem CmdPath.isHost_iff (p : CmdPath) : (CmdPath.isHost .host != p.isHost) = decide (p ≠ .host) := by
  cases p <;> rfl

/-! ### The checks of a command -/

section Command
variable (s : State) (op : Nat) (args : List Word) (k : CmdCheck) (run : State → State)

theorem State.command_bad (hbad : k.bad = true) : s.command { opcode := op, args := args } k run = s.cmdDone k.accept 1 false [] :=
  (if_pos hbad).trans (s.answerCmd_host _ rfl _ _ _)

theorem State.command_other {d : RunningCmd} (hbad : k.bad = false) (hrun : s.host.running = some d) :
    s.command { opcode := op, args := args } k run = (s.countRefusal op).cmdDone k.accept 3 (decide (d.path ≠ .host)) [] := by
  unfold State.command
  simp only [hbad, hrun, Bool.false_eq_true, if_false]
  rw [State.answerCmd_host _ _ rfl, CmdPath.isHost_iff]
  rfl

theorem State.command_state (hbad : k.bad = false) (hrun : s.host.running = none) (hstate : bitAt k.accept s.top.state.code = false ∨ k.refused = true) :
    s.command { opcode := op, args := args } k run = (s.countRefusal op).cmdDone k.accept 3 false [] := by
  unfold State.command
  simp only [hbad, hrun, Bool.false_eq_true, if_false]
  rw [if_pos (by rw [Bool.or_eq_true, Bool.not_eq_true']; exact hstate), State.answerCmd_host _ _ rfl]
  rfl

theorem State.command_badNow (hbad : k.bad = false) (hrun : s.host.running = none) (hstate : bitAt k.accept s.top.state.code = true) (href : k.refused = false)
    (hnow : k.badNow = true) : s.command { opcode := op, args := args } k run = s.cmdDone k.accept 1 false [] := by
  unfold State.command
  simp only [hbad, hrun, hstate, href, hnow, Bool.false_eq_true, if_false, Bool.not_true, Bool.or_self, if_true]
  exact s.answerCmd_host _ rfl _ _ _

theorem State.command_runs (hbad : k.bad = false) (hrun : s.host.running = none) (hstate : bitAt k.accept s.top.state.code = true) (href : k.refused = false)
    (hnow : k.badNow = false) (hauth : k.noAuth = false) :
    s.command { opcode := op, args := args } k run = run (s.beginCmd (hostCmd op k.accept args)) := by
  unfold State.command
  simp only [hbad, hrun, hstate, href, hnow, hauth, Bool.false_eq_true, if_false, Bool.not_true, Bool.or_self]
  rfl

end Command

theorem State.cmdBegun_eq (s : State) (op accept : Nat) (a : List Word) : (s.cmdWritten op a).beginCmd (hostCmd op accept a) = s.cmdBegun op accept a := rfl

/-- A host command whose checks are `k` and whose effect is `run`. -/
def CommandIs (c : Instr) (op : Nat) (args : List Word) (k : CmdCheck) (run : State → State) (s : State) : Prop :=
  ∃ f, exec c s = .next (s.hostCommand op args f) ∧ f (s.cmdWritten op args) { opcode := op, args := args } = (s.cmdWritten op args).command { opcode := op, args := args } k run

/-- An accepted host command begins and runs (R364, R367). -/
theorem CommandIs.runs {c : Instr} {op : Nat} {args : List Word} {k : CmdCheck} {run : State → State} {s : State} (h : CommandIs c op args k run s) (hargs : args.length = 12)
    (htakes : s.takesCommand k.accept) (hbad : k.bad = false) (href : k.refused = false) (hnow : k.badNow = false) (hauth : k.noAuth = false) :
    exec c s = .next (run (s.cmdBegun op k.accept args)) := by
  obtain ⟨f, hexec, hf⟩ := h
  obtain ⟨hfree, hrun, hstate⟩ := htakes
  rw [hexec, State.hostCommand_free _ _ hargs _ hfree, hf,
    (s.cmdWritten op args).command_runs op args k run hbad hrun hstate href hnow hauth, State.cmdBegun_eq]

/-- A host command whose arguments the state makes bad (R367). -/
theorem CommandIs.badNow {c : Instr} {op : Nat} {args : List Word} {k : CmdCheck} {run : State → State} {s : State} (h : CommandIs c op args k run s) (hargs : args.length = 12)
    (htakes : s.takesCommand k.accept) (hbad : k.bad = false) (href : k.refused = false) (hnow : k.badNow = true) :
    exec c s = .next (s.cmdOver op k.accept args 1 []) := by
  obtain ⟨f, hexec, hf⟩ := h
  obtain ⟨hfree, hrun, hstate⟩ := htakes
  rw [hexec, State.hostCommand_free _ _ hargs _ hfree, hf,
    (s.cmdWritten op args).command_badNow op args k run hbad hrun hstate href hnow]
  rfl

/-- An accepted host command that its effect ends at once (R364, R368). -/
theorem State.endCmd_cmdBegun (s : State) (op accept : Nat) (a : List Word) (hrun : s.host.running = none) (st : Status) (res : List Word) :
    (s.cmdBegun op accept a).endCmd st res = s.cmdOver op accept a st.code (res.take 8) := by
  have hend : (s.cmdBegun op accept a).endCmd st res =
      { s.cmdBegun op accept a with host := { (s.cmdBegun op accept a).host with running := none } }.answerCmd (hostCmd op accept a) st false false res := rfl
  rw [hend, State.answerCmd_host _ _ rfl, ← hrun]
  rfl

/-! ### The twelve host commands -/

/-- What the checks of R367 find of a host command, all but those that depend on the state. -/
def ChecksAre (c : Instr) (op accept : Nat) (args : List Word) (fine : Bool) (s : State) : Prop :=
  ∃ k run, CommandIs c op args k run s ∧ k.accept = accept ∧ k.bad = !fine

/-- The five ways in which a host command does not begin (R364 to R369). -/
theorem ChecksAre.refusals {c : Instr} {op accept : Nat} {args : List Word} {fine : Bool} {s : State} (h : ChecksAre c op accept args fine s) (hargs : args.length = 12) :
    let counted := fun (t : State) => { t with host := { t.host with refuseCount := satAdd t.host.refuseCount 1, lastRefused := BitVec.ofNat 32 op } }
    (¬ (s.host.ready = true ∧ s.host.linkUp = true) → exec c s = .next s) ∧
    (s.host.ready = true → s.host.linkUp = true → s.host.busy = true →
      exec c s = .next { s with host := { s.host with overrun := satAdd s.host.overrun 1 } }) ∧
    (s.hostFree → fine = false → exec c s = .next ((s.cmdWritten op args).cmdDone accept 1 false [])) ∧
    (∀ d, s.hostFree → fine = true → s.host.running = some d →
      exec c s = .next ((counted (s.cmdWritten op args)).cmdDone accept 3 (decide (d.path ≠ .host)) [])) ∧
    (s.hostFree → fine = true → s.host.running = none → bitAt accept s.top.state.code = false →
      exec c s = .next ((counted (s.cmdWritten op args)).cmdDone accept 3 false [])) := by
  obtain ⟨k, run, ⟨f, hexec, hf⟩, rfl, hbad⟩ := h
  intro counted
  rw [hexec]
  have hstart := fun hfree => (s.hostCommand_free op hargs f hfree).trans hf
  refine ⟨fun h => by rw [s.hostCommand_away op f h], fun hr hl hb => by rw [s.hostCommand_busy op f hr hl hb], fun hfree hfine => ?_, fun d hfree hfine hrun => ?_,
    fun hfree hfine hrun hstate => ?_⟩
  · rw [hstart hfree, State.command_bad _ _ _ _ _ (by rw [hbad, hfine]; rfl)]
  · rw [hstart hfree, (s.cmdWritten op args).command_other op args k run (by rw [hbad, hfine]; rfl) hrun]
    rfl
  · rw [hstart hfree, (s.cmdWritten op args).command_state op args k run (by rw [hbad, hfine]; rfl) hrun (.inl hstate)]
    rfl

section Twelve
variable (a : List Word) (s : State)

theorem loadImage_command (ue : Option StagedUe) : CommandIs (.loadImage a ue) 0x01 a { accept := 0x18, bad := !argsZeroFrom a 0 } (fun s => s.runChecks ue) s :=
  ⟨State.cmdLoadImage ue, exec_loadImage a ue s, rfl⟩

/-- The effect of START (R370). -/
def State.startRun (a : List Word) (s : State) : State :=
  if startFlag a 2 then s.enterRun false none
  else
    let q := s.runSeed a
    let t := q.1.newRun q.2 (BitVec.ofNat 64 (argPair a 1))
    let t := ({ t with host := { t.host with windows := {} } }.imageWindows false).foldl State.zeroWindow { t with host := { t.host with windows := {} } }
    let t := { t with seq := { t.seq with ran := false, replay := false } }.record t.runStart
    let u := if startFlag a 1 then t.startTime (argPair a 7) else (t, t.top.now)
    let v := u.1.enterRun false (some u.2)
    { v with seq := { v.seq with startTimed := startFlag a 1 && decide (t.ptpTime ≤ argPair a 7) } }

theorem start_command : CommandIs (.start a) 0x02 a (s.startCheck a) (State.startRun a) s := ⟨State.cmdStart, exec_start a s, rfl⟩

theorem stopAtStep_command : CommandIs (.stopAtStep a) 0x03 a { accept := 0x30, bad := !argsZeroFrom a 2 }
    (fun s => { s with seq := { s.seq with stopAt := s.stopStep (argPair a 0) } }.endCmd .ok []) s := ⟨State.cmdStop, exec_stopAtStep a s, rfl⟩

theorem sweep_command : CommandIs (.sweep a) 0x04 a { accept := 0x38, bad := !argsZeroFrom a 0 } (fun s => s.beginSweep .idle) s :=
  ⟨State.cmdSweep, exec_sweep a s, rfl⟩

theorem park_command : CommandIs (.park a) 0x05 a { accept := 0x08, bad := !argsZeroFrom a 0 }
    (fun s => { s.endCmd .ok [] with top := { (s.endCmd .ok []).top with parking := true } }) s := ⟨State.cmdPark, exec_park a s, rfl⟩

theorem query_command : CommandIs (.query a) 0x07 a { accept := 0xFE, bad := queryBad a }
    (fun t => t.endCmd .ok (t.queryWords (argAt a 0) (argAt a 1) (argAt a 2))) s := ⟨State.cmdQuery, exec_query a s, rfl⟩

theorem recalibrateFull_command : CommandIs (.recalibrateFull a) 0x08 (scopeArgs 0 a) { accept := 0x18, bad := !argsZeroFrom (scopeArgs 0 a) 1 } State.beginCal s :=
  ⟨State.cmdRecalibrate, exec_recalibrateFull a s, rfl⟩

theorem recalibrateGroup_command {g : LaneRef} (hg : laneArg (argAt (scopeArgs 1 a) 1) = some g) :
    CommandIs (.recalibrateGroup a) 0x08 (scopeArgs 1 a) { accept := 0x38, bad := !argsZeroFrom (scopeArgs 1 a) 2 } (fun t => t.commandLane g) s := by
  refine ⟨State.cmdRecalibrate, exec_recalibrateGroup a s, ?_⟩
  unfold State.cmdRecalibrate
  rw [show argAt (scopeArgs 1 a) 0 = 1 from rfl, hg]
  rfl

theorem recalibrateGroup_command_none (hg : laneArg (argAt (scopeArgs 1 a) 1) = none) :
    CommandIs (.recalibrateGroup a) 0x08 (scopeArgs 1 a) { accept := 0x38, bad := true } id s := by
  refine ⟨State.cmdRecalibrate, exec_recalibrateGroup a s, ?_⟩
  unfold State.cmdRecalibrate
  rw [show argAt (scopeArgs 1 a) 0 = 1 from rfl, hg]
  rfl

/-- The effect of REPLAY (R183). -/
def State.replayRun (count : Nat) (s : State) : State :=
  match s.seq.runStartAt count with
  | none => s
  | some r =>
    let t := s.newRun (BitVec.ofNat 128 (leVal (r.payload.take 16))) (BitVec.ofNat 64 (leVal ((r.payload.drop 48).take 8)))
    let t := (t.imageWindows true).foldl State.zeroWindow t
    { t with seq := { t.seq with replayLeft := s.seq.runRecords count } }.enterRun true (some t.top.now)

theorem replay_command : CommandIs (.replay a) 0x09 a
    { accept := 0x10, bad := !argsZeroFrom a 2, refused := s.placedFence, badNow := (s.seq.runStartAt (argPair a 0)).isNone }
    (State.replayRun (argPair a 0)) s := ⟨State.cmdReplay, exec_replay a s, rfl⟩

theorem rotateKeys_command : CommandIs (.rotateKeys a) 0x0A a { accept := 0x30, bad := !argsZeroFrom a 0, refused := s.sec.oldLive }
    (fun s => if s.sec.tenant.isNone then s.endCmd .ok [] else if s.top.state == .loaded then s.drawEpoch.rotateInForce else s.drawEpoch) s :=
  ⟨State.cmdRotate, exec_rotateKeys a s, rfl⟩

theorem retirePod_command : CommandIs (.retirePod a) 0x0B a { accept := 0x18, bad := decide (0xFFF < argAt a 0) || !argsZeroFrom a 1 }
    (fun s => if (s.pod (bitsOf (argAt a 0) 9 3) (bitsOf (argAt a 0) 0 9)).fused then s.endCmd .ok []
      else if !s.pp.nvOpen then s.nvRefuse.endCmd .temperatureBlocked []
      else s.nvStart (.retire (bitsOf (argAt a 0) 9 3) (bitsOf (argAt a 0) 0 9))) s := ⟨State.cmdRetirePod, exec_retirePod a s, rfl⟩

theorem exportJournal_command : CommandIs (.exportJournal a) 0x0C a
    { accept := 0x30, bad := argAt a 2 % 32 != 0 || argPair a 3 % 4096 != 0 || !argsZeroFrom a 5, badNow := !s.exportHolds a, noAuth := s.journalLeave.isNone } id s :=
  ⟨State.cmdExport, exec_exportJournal a s, rfl⟩

end Twelve

theorem decide_lt_eq_not (m n : Nat) : decide (n < m) = !decide (m ≤ n) := by
  rw [← decide_not, decide_eq_decide, Nat.not_le]

theorem scopeArgs_one (scope : Nat) (a : List Word) : argAt (scopeArgs scope a) 1 = argAt a 1 := by
  simp only [argAt, scopeArgs, List.getElem?_cons_succ, List.getElem?_drop]

theorem scopeArgs_zeroFrom_two (scope : Nat) (a : List Word) : argsZeroFrom (scopeArgs scope a) 2 = argsZeroFrom a 2 := by
  simp only [argsZeroFrom, scopeArgs, List.drop_succ_cons, List.drop_drop]

theorem startCheck_bad (s : State) (a : List Word) :
    (s.startCheck a).bad = !(decide (argAt a 0 < 8) && argsZeroFrom a 9 && (bitAt (argAt a 0) 2 || bitAt (argAt a 0) 1 || (argAt a 7 == 0 && argAt a 8 == 0))) := by
  have hpair : (argPair a 7 != 0) = !(argAt a 7 == 0 && argAt a 8 == 0) := by
    rw [Bool.eq_iff_iff]
    rw [show argPair a 7 = argAt a 7 + 2 ^ 32 * argAt a 8 from rfl]
    simp only [bne_iff_ne, Bool.not_eq_true', Bool.and_eq_false_iff, beq_eq_false_iff_ne]
    omega
  have hlt : decide (8 ≤ argAt a 0) = !decide (argAt a 0 < 8) := by
    rw [← decide_not, decide_eq_decide, Nat.not_lt]
  simp only [State.startCheck, startFlag, hpair, hlt, Bool.not_and, Bool.not_or, Bool.or_assoc, Bool.and_assoc]

theorem queryBad_eq (a : List Word) :
    queryBad a = !(decide (argAt a 0 ≤ 3) && (if argAt a 0 = 2 then decide (argAt a 1 ≤ 7) && decide (argAt a 2 ≤ 1) && argsZeroFrom a 3 else argsZeroFrom a 1)) := by
  simp only [queryBad, decide_lt_eq_not, Bool.not_and]
  split <;> simp only [Bool.not_and]

theorem scopeArgs_length (scope : Nat) {a : List Word} (ha : a.length = 12) : (scopeArgs scope a).length = 12 := by
  rw [scopeArgs, List.length_cons, List.length_drop, ha]

/-- Settles O23: each command by its checks, the refusals once for all (`ChecksAre.refusals`). -/
theorem hostCommandChecks : Obligations.HostCommandChecks := by
  unfold Obligations.HostCommandChecks
  intro a s c op accept args fine ha n zero hmem
  suffices h : ChecksAre c op accept args fine s ∧ args.length = 12 from h.1.refusals h.2
  simp only [List.mem_cons, List.not_mem_nil, or_false, Prod.mk.injEq] at hmem
  rcases hmem with ⟨rfl, rfl, rfl, hargs, rfl⟩ | ⟨rfl, rfl, rfl, hargs, rfl⟩ | ⟨rfl, rfl, rfl, hargs, rfl⟩ | ⟨rfl, rfl, rfl, hargs, rfl⟩ | ⟨rfl, rfl, rfl, hargs, rfl⟩ |
    ⟨rfl, rfl, rfl, hargs, rfl⟩ | ⟨rfl, rfl, rfl, hargs, rfl⟩ | ⟨rfl, rfl, rfl, hargs, rfl⟩ | ⟨rfl, rfl, rfl, hargs, rfl⟩ | ⟨rfl, rfl, rfl, hargs, rfl⟩ |
    ⟨rfl, rfl, rfl, hargs, rfl⟩ | ⟨rfl, rfl, rfl, hargs, rfl⟩
  all_goals rw [hargs]
  · exact ⟨⟨_, _, loadImage_command a s none, rfl, rfl⟩, ha⟩
  · exact ⟨⟨_, _, start_command a s, rfl, startCheck_bad s a⟩, ha⟩
  · exact ⟨⟨_, _, stopAtStep_command a s, rfl, rfl⟩, ha⟩
  · exact ⟨⟨_, _, sweep_command a s, rfl, rfl⟩, ha⟩
  · exact ⟨⟨_, _, park_command a s, rfl, rfl⟩, ha⟩
  · exact ⟨⟨_, _, query_command a s, rfl, queryBad_eq a⟩, ha⟩
  · exact ⟨⟨_, _, recalibrateFull_command a s, rfl, rfl⟩, scopeArgs_length 0 ha⟩
  · refine ⟨?_, scopeArgs_length 1 ha⟩
    have hgroup : argAt (scopeArgs 1 a) 1 = n 1 := scopeArgs_one 1 a
    cases hg : laneArg (argAt (scopeArgs 1 a) 1) with
    | none => exact ⟨_, _, recalibrateGroup_command_none a s hg, rfl, by rw [← hgroup, hg]; rfl⟩
    | some g => exact ⟨_, _, recalibrateGroup_command a s hg, rfl, by rw [scopeArgs_zeroFrom_two, ← hgroup, hg]; rfl⟩
  · exact ⟨⟨_, _, replay_command a s, rfl, rfl⟩, ha⟩
  · exact ⟨⟨_, _, rotateKeys_command a s, rfl, rfl⟩, ha⟩
  · exact ⟨⟨_, _, retirePod_command a s, rfl, by rw [decide_lt_eq_not, Bool.not_and]; rfl⟩, ha⟩
  · exact ⟨⟨_, _, exportJournal_command a s, rfl, by rw [Bool.not_and, Bool.not_and]; rfl⟩, ha⟩

end Sys2Proof.Machine
end

section
/-! PROOF. LOAD_IMAGE: the checks, the writing and its end (R194, R195, R212, R369, R520). -/
namespace Sys2Proof.Machine

/-! ### What signals and events leave of the host interface -/

/-- The host interface beside the pending bits of its vectors, all that a signal changes. -/
def HostIf.sansPba (h : HostIf) : HostIf := { h with pba := 0 }

@[simp] theorem State.msix_sansPba (s : State) (v : Nat) : (s.msix v).host.sansPba = s.host.sansPba := by
  unfold State.msix
  split <;> rfl

@[simp] theorem State.raise_sansPba (s : State) (code plaza unit : Nat) (detail : List Byte) : (s.raise code plaza unit detail).host.sansPba = s.host.sansPba := by
  unfold State.raise State.eventSignal
  dsimp only
  repeat' split
  · rfl
  · exact State.msix_sansPba _ _
  · rfl

/-- A signal changes the host interface and what leaves, nothing else. -/
theorem State.msix_keeps (s : State) (v : Nat) (h : HostIf) (o : List Out) : { s.msix v with host := h, out := o } = { s with host := h, out := o } := by
  unfold State.msix
  split <;> rfl

/-- An event changes the log, the host interface and what leaves, nothing else (R485, R487). -/
theorem State.raise_keeps (s : State) (code plaza unit : Nat) (detail : List Byte) (h : HostIf) (e : EventLog) (o : List Out) :
    { s.raise code plaza unit detail with host := h, ev := e, out := o } = { s with host := h, ev := e, out := o } := by
  unfold State.raise State.eventSignal
  dsimp only
  repeat' split
  · rfl
  · exact (congrArg (fun x : State => { x with ev := e }) (State.msix_keeps _ _ h o) :)
  · rfl

/-- The end of a command at the host changes its windows and the running command not. -/
theorem State.answerCmd_windows (s : State) (c : RunningCmd) (st : Status) (aborted other : Bool) (res : List Word) :
    (s.answerCmd c st aborted other res).host.windows = s.host.windows := by
  unfold State.answerCmd
  cases c.path
  case host =>
    have hkeep := fun t : State => congrArg HostIf.windows (t.msix_sansPba 0)
    exact hkeep _
  case reach src h => exact congrArg HostIf.windows (s.sendTo_host _ _ _)
  case mews port => exact congrArg HostIf.windows (s.mewsReply_host _ _ _ _ _ _ _ _)

theorem State.endCmd_windows (s : State) (st : Status) (res : List Word) : (s.endCmd st res).host.windows = s.host.windows := by
  unfold State.endCmd
  split
  · rfl
  · exact State.answerCmd_windows _ _ _ _ _ _

/-! ### Every shallot -/

theorem State.foldl_modSh_at (f : Nat → Shallot → Shallot) (l : List Nat) (s : State) (sh : Tbl Shallot) :
    { l.foldl (fun t n => t.modSh n (f n)) s with sh := sh } = { s with sh := sh } :=
  proj_foldl (fun u => { u with sh := sh }) (fun t n => t.modSh n (f n)) _ _ fun _ _ => rfl

theorem State.eachShallot_keeps (s : State) (f : Nat → Shallot → Shallot) (sh : Tbl Shallot) : { s.eachShallot f with sh := sh } = { s with sh := sh } :=
  State.foldl_modSh_at f _ s sh

theorem State.foldl_modSh_sh (f : Nat → Shallot → Shallot) (l : List Nat) (s : State) :
    (l.foldl (fun t n => t.modSh n (f n)) s).sh = l.foldl (fun t n => t.mod n (f n)) s.sh := by
  induction l generalizing s with
  | nil => rfl
  | cons n l ih => exact ih _

theorem State.eachShallot_shal (s : State) (f : Nat → Shallot → Shallot) {n : Nat} (hn : n < 8) : (s.eachShallot f).shal n = f n (s.shal n) := by
  rw [State.shal, State.eachShallot, State.foldl_modSh_sh]
  exact (Tbl.get_foldl_mod_upto s.sh f 8 n).trans (if_pos hn)

theorem Shallot.startClock_keeps (h : Shallot) (id : Word) : { h.startClock id with clk := h.clk } = h := by
  unfold Shallot.startClock
  (repeat' split) <;> rfl

/-! ### What a load leaves -/

/-- What a load says of the streets, the sub-ports and the routes does not touch: the step core, the stacks, the conductors and the host interface. -/
def State.loadView (s : State) : StepCore × Tbl Stack × HostIf := (s.core, s.mem, s.host.sansPba)

@[simp] theorem State.raise_loadView (s : State) (code plaza unit : Nat) (detail : List Byte) : (s.raise code plaza unit detail).loadView = s.loadView := by
  simp only [State.loadView, raise_core, State.raise_mem, State.raise_sansPba]

@[simp] theorem State.restartWave_loadView (s : State) (a b w : Nat) : (s.restartWave a b w).loadView = s.loadView := by
  unfold State.restartWave
  generalize upto 32 = l
  refine (proj_foldl State.loadView _ _ _ fun t k => ?_).trans ?_
  · generalize mkFlit k 0 0 = f
    rfl
  · rfl

@[simp] theorem State.parkStreets_loadView (s : State) (i : Option Image) : (s.parkStreets i).loadView = s.loadView := by
  unfold State.parkStreets
  refine proj_foldl State.loadView _ _ _ fun _ _ => proj_foldl State.loadView _ _ _ fun _ _ => proj_foldl State.loadView _ _ _ fun _ _ => ?_
  dsimp only
  repeat' split
  · rfl
  · rfl
  · exact State.restartWave_loadView _ _ _ _

@[simp] theorem State.portsDown_loadView (s : State) (l : List Nat) : (s.portsDown l).loadView = s.loadView := by
  refine proj_foldl State.loadView _ _ _ fun _ _ => ?_
  dsimp only
  split
  · exact (State.raise_loadView _ _ _ _ _).trans rfl
  · rfl

@[simp] theorem State.routesAtLoad_loadView (s : State) : s.routesAtLoad.loadView = s.loadView := by
  refine proj_foldl State.loadView _ _ _ fun _ _ => ?_
  dsimp only
  split
  · rfl
  · split <;> exact (State.raise_loadView _ _ _ _ _).trans rfl

theorem State.startClocks_keeps (s : State) (sh : Tbl Shallot) : { s.startClocks with sh := sh } = { s with sh := sh } :=
  s.eachShallot_keeps (fun _ h => h.startClock s.top.identity) sh

theorem State.startClocks_shal (s : State) {n : Nat} (hn : n < 8) : s.startClocks.shal n = (s.shal n).startClock s.top.identity :=
  s.eachShallot_shal (fun _ h => h.startClock s.top.identity) hn

theorem State.setTimetables_keeps (s : State) (i : Option Image) (k : Nat) (b : Boulevard) : { s.setTimetables i k with blv := b } = { s with blv := b } := rfl

theorem State.setTimetables_shal (s : State) (i : Option Image) (k n : Nat) : (s.setTimetables i k).shal n = s.shal n := rfl

/-- What a placement, its clocks and its timetables leave of the package. -/
theorem State.placement_keeps (s : State) (f : Nat → Shallot → Shallot) (i : Option Image) (k : Nat) (sh : Tbl Shallot) (b : Boulevard) :
    { (s.eachShallot f).startClocks.setTimetables i k with sh := sh, blv := b } = { s with sh := sh, blv := b } := by
  have hplace := s.eachShallot_keeps f sh
  generalize s.eachShallot f = s₁ at *
  have hclock := s₁.startClocks_keeps sh
  generalize s₁.startClocks = s₂ at *
  rw [hplace] at hclock
  have hset := s₂.setTimetables_keeps i k b
  generalize s₂.setTimetables i k = s₃ at *
  exact ((congrArg (fun x : State => { x with sh := sh }) hset).trans (congrArg (fun x : State => { x with blv := b }) hclock) :)

/-- A shallot after a placement is as the placement leaves it, but for its clock. -/
theorem State.placement_shal (s : State) (f : Nat → Shallot → Shallot) (i : Option Image) (k : Nat) {n : Nat} (hn : n < 8)
    (hf : (f n (s.shal n)).clk = (s.shal n).clk) :
    { ((s.eachShallot f).startClocks.setTimetables i k).shal n with clk := (s.shal n).clk } = f n (s.shal n) := by
  rw [← hf, State.setTimetables_shal, State.startClocks_shal _ hn, s.eachShallot_shal f hn]
  exact Shallot.startClock_keeps _ _

theorem State.foldl_modMem_mem (g : Nat → Stack → Stack) (l : List Nat) (t : State) :
    (l.foldl (fun t h => t.modMem h (g h)) t).mem = l.foldl (fun t h => t.mod h (g h)) t.mem := by
  induction l generalizing t with
  | nil => rfl
  | cons a l ih => exact ih _

theorem State.foldl_modMem_keeps (g : Nat → Stack → Stack) (l : List Nat) (t : State) (m : Tbl Stack) :
    { l.foldl (fun t h => t.modMem h (g h)) t with mem := m } = { t with mem := m } :=
  proj_foldl (fun u : State => { u with mem := m }) (fun t h => t.modMem h (g h)) l t fun _ _ => rfl

/-- Every stack draws its key (R195). -/
theorem State.runKeys_eq (s : State) (i : Image) : ∃ t : State, s.runKeys i = { t with sec := { s.sec with draws := s.sec.draws + 16 } } ∧ { t with mem := s.mem } = s ∧
    ∀ h, h < 16 → t.mem.get h = (s.mem.get h).atLoad (i.share h) (s.sec.draws + h) := by
  have hmem := State.foldl_modMem_mem (fun h m => m.atLoad (i.share h) (s.sec.draws + h)) (upto 16) s
  have hkeep := State.foldl_modMem_keeps (fun h m => m.atLoad (i.share h) (s.sec.draws + h)) (upto 16) s s.mem
  have hget := fun h => Tbl.get_foldl_mod_upto s.mem (fun h m => m.atLoad (i.share h) (s.sec.draws + h)) 16 h
  unfold State.runKeys
  generalize (upto 16).foldl (fun t h => State.modMem t h (fun m => m.atLoad (i.share h) (s.sec.draws + h))) s = t at *
  have hsec : t.sec = s.sec := (congrArg State.sec hkeep :)
  refine ⟨t, by dsimp only; rw [hsec], hkeep, fun h hh => ?_⟩
  rw [hmem, hget, if_pos hh]

/-- The pods, stacks and ports of an image that takes force (R195). -/
def State.placedAtLoad (s : State) (i : Image) : State :=
  let k := (s.usablePlacement i).getD 0
  (((((s.eachShallot (fun n h => { h.place i k n with tallies := {} })).startClocks.setTimetables (some i) k).parkStreets (some i)).runKeys i).netAtLoad i)

theorem State.netAtLoad_loadView (s : State) (i : Image) : (s.netAtLoad i).loadView = s.loadView := by
  have h := State.portsDown_loadView s (s.modeChanges s.img.image (some i))
  unfold State.netAtLoad State.portModes
  generalize s.portsDown (s.modeChanges s.img.image (some i)) = t at *
  exact h

/-- Two states that agree in what a load leaves of the package. -/
theorem State.of_loadView {s t : State} (h : t.loadView = s.loadView) :
    t.top = s.top ∧ t.seq = s.seq ∧ t.sh = s.sh ∧ t.img = s.img ∧ t.sec = s.sec ∧ t.mem = s.mem ∧ t.host.sansPba = s.host.sansPba := by
  obtain ⟨hcore, hrest⟩ := Prod.mk.inj h
  obtain ⟨hmem, hhost⟩ := Prod.mk.inj hrest
  exact ⟨congrArg StepCore.top hcore, congrArg StepCore.seq hcore, congrArg StepCore.sh hcore, congrArg StepCore.img hcore, congrArg StepCore.sec hcore, hmem, hhost⟩

/-- A shallot as a load leaves it: placed and powered where the placement names it, with an empty tally table (R128, R195). -/
def Shallot.loadedAs (h g : Shallot) (on : Bool) : Prop := ∃ pods, g = { h with placed := on, powered := on, pods := pods, tallies := {} }

theorem Shallot.place_loadedAs (h : Shallot) (i : Image) (k n : Nat) :
    h.loadedAs { h.place i k n with tallies := {} } (((i.placements[k]?).getD {}).shallots.getLsbD n) := by
  unfold Shallot.loadedAs Shallot.place
  exact ⟨_, rfl⟩

theorem Shallot.loadedAs.clk {h g : Shallot} {on : Bool} (hg : h.loadedAs g on) : g.clk = h.clk := by
  obtain ⟨pods, rfl⟩ := hg
  rfl

/-- What the load of an image's pods, stacks and ports changes of the parts that `loadView` names. -/
theorem State.placedAtLoad_spec (s : State) (i : Image) :
    let t := s.placedAtLoad i
    t.top = s.top ∧ t.seq = s.seq ∧ t.img = s.img ∧ t.host.sansPba = s.host.sansPba ∧ t.sec = { s.sec with draws := s.sec.draws + 16 } ∧
    (∀ h, h < 16 → (t.mem.get h).keyRun = some (s.sec.draws + h)) ∧
    ∀ n, n < 8 → (s.shal n).loadedAs { t.shal n with clk := (s.shal n).clk } (((i.placements[(s.usablePlacement i).getD 0]?).getD {}).shallots.getLsbD n) := by
  unfold State.placedAtLoad
  generalize (s.usablePlacement i).getD 0 = k
  extract_lets k' t
  revert t
  obtain ⟨f, hf, hplace⟩ : ∃ f : Nat → Shallot → Shallot, (fun n h => { Shallot.place h i k' n with tallies := {} }) = f ∧
      ∀ n h, h.loadedAs (f n h) (((i.placements[k']?).getD {}).shallots.getLsbD n) := ⟨_, rfl, fun n h => Shallot.place_loadedAs h i k' n⟩
  rw [hf]
  have hkeep := s.placement_keeps f (some i) k' s.sh s.blv
  have hshal := fun n (hn : n < 8) => s.placement_shal f (some i) k' hn (hplace n (s.shal n)).clk
  generalize (s.eachShallot f).startClocks.setTimetables (some i) k' = s₁ at *
  obtain ⟨htop, hseq, hsh, himg, hsec, hmem, hhost⟩ := State.of_loadView (s₁.parkStreets_loadView (some i))
  generalize s₁.parkStreets (some i) = s₂ at *
  obtain ⟨s₃, hkeys, hkeep₃, hmem₃⟩ := s₂.runKeys_eq i
  rw [hkeys]
  obtain ⟨htop₄, hseq₄, hsh₄, himg₄, hsec₄, hmem₄, hhost₄⟩ := State.of_loadView (State.netAtLoad_loadView { s₃ with sec := { s₂.sec with draws := s₂.sec.draws + 16 } } i)
  generalize State.netAtLoad { s₃ with sec := { s₂.sec with draws := s₂.sec.draws + 16 } } i = s₄ at *
  intro t
  have hsec₁ : s₁.sec = s.sec := (congrArg State.sec hkeep :)
  refine ⟨?_, ?_, ?_, ?_, ?_, fun h hh => ?_, fun n hn => ?_⟩
  · exact htop₄.trans ((congrArg State.top hkeep₃ :).trans (htop.trans (congrArg State.top hkeep :)))
  · exact hseq₄.trans ((congrArg State.seq hkeep₃ :).trans (hseq.trans (congrArg State.seq hkeep :)))
  · exact himg₄.trans ((congrArg State.img hkeep₃ :).trans (himg.trans (congrArg State.img hkeep :)))
  · have h₃ : s₃.host = s₂.host := (congrArg State.host hkeep₃ :)
    have h₁ : s₁.host = s.host := (congrArg State.host hkeep :)
    rw [hhost₄, h₃, hhost, h₁]
  · rw [hsec₄, hsec, hsec₁]
  · rw [hmem₄, ← hsec₁, ← hsec]
    exact congrArg Stack.keyRun (hmem₃ h hh)
  · have h₃ : s₃.sh = s₂.sh := (congrArg State.sh hkeep₃ :)
    rw [State.shal_of_sh (hsh₄.trans (h₃.trans hsh)) n]
    rw [hshal n hn]
    exact hplace n (s.shal n)

/-- An image in force, before the buckets, the routes and LOADED (R195). -/
def State.inForce (s : State) (i : Image) : State :=
  let k := (s.usablePlacement i).getD 0
  let t := s.placedAtLoad i
  { t with
    img := { t.img with image := some i, writing := none, check := 0, status := 0, active := k },
    seq := t.seq.atLoad i, host := { t.host with windows := {} }, sec := { t.sec with clients := [] },
    cond := { t.cond with degradedOdd := 0, degradedEven := 0, twinHigh := 0, twins := i.twinsOf k }, mews := { t.mews with timeSource := false } }

theorem State.takeImage_eq (s : State) (i : Image) : s.takeImage i = (s.inForce i).fillBuckets.routesAtLoad.toLoaded := rfl

theorem State.fillBuckets_keeps (s : State) : { s.fillBuckets with sh := s.sh, pp := s.pp } = s := by
  have h := s.eachShallot_keeps (fun _ h => { h with pwr := { h.pwr with credits := 10 * bitsOf s.pp.slew.toNat 16 12 } }) s.sh
  unfold State.fillBuckets
  generalize s.eachShallot _ = t at *
  exact (congrArg (fun x : State => { x with pp := s.pp }) h :)

theorem State.fillBuckets_shal (s : State) {n : Nat} (hn : n < 8) : { s.fillBuckets.shal n with pwr := (s.shal n).pwr } = s.shal n := by
  have hsh : s.fillBuckets.sh = (s.eachShallot (fun _ h => { h with pwr := { h.pwr with credits := 10 * bitsOf s.pp.slew.toNat 16 12 } })).sh := by
    unfold State.fillBuckets
    with_reducible rfl
  rw [State.shal_of_sh hsh n, State.eachShallot_shal _ _ hn]

/-- LOADED where neither a run's command nor a rotation waits for it. -/
theorem State.toLoaded_plain (s : State) (hdue : s.sec.rotateDue = false) (hcmd : ∀ c, s.host.running = some c → c.opcode ≠ 2 ∧ c.opcode ≠ 9) :
    s.toLoaded = { s with
      top := { s.top with state := .loaded }, blv := { s.blv with mapRunning := false },
      host := { s.host with windows := s.host.windows.mapAll (fun _ w => { w with moving := false }) },
      seq := { s.seq with phase := .idle, stopAt := none, replay := false, startAt := none, ready := [], ownReady := none,
                          recoveries := 0, leave := false } } := by
  have hstart : ∀ t : State, t.host.running = s.host.running → t.endStart = t := by
    intro t ht
    unfold State.endStart
    rw [ht]
    cases hrun : s.host.running with
    | none => rfl
    | some c =>
      have ⟨h2, h9⟩ := hcmd c hrun
      exact if_neg (by simp only [h2, h9, or_self, not_false_eq_true])
  have hrot : ∀ t : State, t.sec.rotateDue = false → t.rotateInForce = t := fun t ht => if_neg (by rw [ht]; exact Bool.false_ne_true)
  unfold State.toLoaded
  refine (congrArg State.rotateInForce (hstart _ ?_)).trans (hrot _ ?_)
  · rfl
  · exact hdue

/-- The image in force (R195, R202). -/
theorem State.takeImage_spec (s : State) (i : Image) (hdue : s.sec.rotateDue = false) (hcmd : ∀ c, s.host.running = some c → c.opcode = 1) :
    let t := s.takeImage i
    let k := (s.usablePlacement i).getD 0
    t.top = { s.top with state := .loaded } ∧
    t.img = { s.img with image := some i, writing := none, check := 0, status := 0, active := k } ∧
    t.seq = { s.seq.atLoad i with phase := .idle, stopAt := none, replay := false, startAt := none, ready := [], ownReady := none, recoveries := 0, leave := false } ∧
    t.host.windows = {} ∧ t.sec = { s.sec with draws := s.sec.draws + 16, clients := [] } ∧
    (∀ h, h < 16 → (t.mem.get h).keyRun = some (s.sec.draws + h)) ∧
    ∀ n, n < 8 → (t.shal n).placed = ((i.placements[k]?).getD {}).shallots.getLsbD n ∧ (t.shal n).powered = (t.shal n).placed ∧ (t.shal n).tallies = {} := by
  obtain ⟨htop, hseq, himg, hhost, hsec, hmem, hshal⟩ := s.placedAtLoad_spec i
  rw [State.takeImage_eq]
  have hdef : ∃ u : State, s.inForce i = u ∧ u.top = s.top ∧ u.seq = s.seq.atLoad i ∧
      u.img = { s.img with image := some i, writing := none, check := 0, status := 0, active := (s.usablePlacement i).getD 0 } ∧
      u.host.sansPba = { s.host.sansPba with windows := {} } ∧ u.sec = { s.sec with draws := s.sec.draws + 16, clients := [] } ∧
      (∀ h, h < 16 → (u.mem.get h).keyRun = some (s.sec.draws + h)) ∧
      ∀ n, n < 8 → (s.shal n).loadedAs { u.shal n with clk := (s.shal n).clk } (((i.placements[(s.usablePlacement i).getD 0]?).getD {}).shallots.getLsbD n) := by
    unfold State.inForce
    generalize s.placedAtLoad i = t at *
    exact ⟨_, rfl, htop, by rw [← hseq], by rw [← himg], (congrArg (fun x : HostIf => { x with windows := {} }) hhost :), by dsimp only; rw [hsec], hmem, hshal⟩
  obtain ⟨u, hu, htop, hseq, himg, hhost, hsec, hmem, hshal⟩ := hdef
  rw [hu]
  have hfill := u.fillBuckets_keeps
  have hfillSh := fun n (hn : n < 8) => u.fillBuckets_shal hn
  generalize u.fillBuckets = v at *
  obtain ⟨htop₂, hseq₂, hsh₂, himg₂, hsec₂, hmem₂, hhost₂⟩ := State.of_loadView v.routesAtLoad_loadView
  generalize v.routesAtLoad = w at *
  have hhost₃ : v.host = u.host := (congrArg State.host hfill :)
  have hsec₃ : v.sec = u.sec := (congrArg State.sec hfill :)
  rw [hhost₃, hhost] at hhost₂
  rw [hsec₃, hsec] at hsec₂
  have hrun : w.host.running = s.host.running := (congrArg HostIf.running hhost₂ :)
  have hwin : w.host.windows = {} := (congrArg HostIf.windows hhost₂ :)
  rw [w.toLoaded_plain (by rw [hsec₂]; exact hdue) (fun c hc => by rw [hcmd c (hrun ▸ hc)]; decide)]
  have htop₃ : w.top = s.top := htop₂.trans ((congrArg State.top hfill :).trans htop)
  have hseq₃ : w.seq = s.seq.atLoad i := hseq₂.trans ((congrArg State.seq hfill :).trans hseq)
  have hmem₃ : w.mem = u.mem := hmem₂.trans (congrArg State.mem hfill :)
  refine ⟨?_, himg₂.trans ((congrArg State.img hfill :).trans himg), ?_, ?_, hsec₂, fun h hh => ?_, fun n hn => ?_⟩
  · rw [← htop₃]
  · rw [← hseq₃]
  · exact congrArg (fun x : Tbl WindowState => x.mapAll (fun _ w => { w with moving := false })) hwin
  · exact (congrArg (fun x : Tbl Stack => (x.get h).keyRun) hmem₃).trans (hmem h hh)
  · have hs : { w.shal n with pwr := (u.shal n).pwr } = u.shal n := by rw [State.shal_of_sh hsh₂ n]; exact hfillSh n hn
    obtain ⟨pods, hpods⟩ := hshal n hn
    have hplaced : (w.shal n).placed = _ := (congrArg Shallot.placed hs :).trans (congrArg Shallot.placed hpods :)
    have hpowered : (w.shal n).powered = _ := (congrArg Shallot.powered hs :).trans (congrArg Shallot.powered hpods :)
    exact ⟨hplaced, hpowered.trans hplaced.symm, (congrArg Shallot.tallies hs :).trans (congrArg Shallot.tallies hpods :)⟩

/-! ### The checks and their end -/

/-- Two changes of every shallot leave the rest. -/
theorem State.startClocks_eachShallot_keeps (s : State) (f : Nat → Shallot → Shallot) : { (s.eachShallot f).startClocks with sh := s.sh } = s :=
  (State.startClocks_keeps _ s.sh).trans (s.eachShallot_keeps f s.sh)

theorem State.beginWriting_keeps (s : State) (i : Image) :
    { s.beginWriting i with sh := s.sh } = { s with img := { s.img with swapped := !s.img.swapped, writing := some i } } := by
  unfold State.beginWriting
  exact State.startClocks_eachShallot_keeps { s with img := { s.img with swapped := !s.img.swapped, writing := some i } } _

/-- A refused load (R212). -/
theorem State.refuseLoad_spec (s : State) (f : LoadFail) :
    let t := s.refuseLoad f
    t.img = { s.img with detailRes := BitVec.ofNat 32 f.res, detailIndex := BitVec.ofNat 32 f.idx, detailFeat := BitVec.ofNat 32 f.feat,
                         detailOffset := BitVec.ofNat 64 f.off, check := f.check, status := f.status.code, refuseCount := satAdd s.img.refuseCount 1 } ∧
    t.top = s.top ∧ t.host.running = none := by
  unfold State.refuseLoad
  refine ⟨?_, ?_, State.endCmd_cmd _ _ _⟩
  · rw [State.endCmd_img, State.imageRefused, State.raise_img]
    rfl
  · rw [State.endCmd_top, State.imageRefused, State.raise_top]
    rfl

/-- The end of a host command leaves all but the host interface and what leaves the package. -/
theorem State.cmdDone_keeps (s : State) (accept st : Nat) (other : Bool) (res : List Word) (h : HostIf) (o : List Out) :
    { s.cmdDone accept st other res with host := h, out := o } = { s with host := h, out := o } := by
  unfold State.cmdDone
  exact (State.msix_keeps _ 0 h o).trans rfl

theorem State.cmdDone_sansPba (s : State) (accept st : Nat) (other : Bool) (res : List Word) :
    (s.cmdDone accept st other res).host.sansPba = { s.host.sansPba with
      busy := false, done := true, aborted := false, otherPath := other, accept := BitVec.ofNat 8 accept,
      stateCode := BitVec.ofNat 3 s.top.state.code, status := BitVec.ofNat 8 st, results := Tbl.setRun {} 0 res } := by
  unfold State.cmdDone
  exact (State.msix_sansPba _ 0).trans rfl

/-- A refused load whose command came from the host (R212, R368). -/
theorem State.refuseLoad_host (s : State) (f : LoadFail) {c : RunningCmd} (hrun : s.host.running = some c) (hpath : c.path = .host) :
    let t := s.refuseLoad f
    t.host.busy = false ∧ t.host.done = true ∧ t.host.running = none ∧ t.host.status = BitVec.ofNat 8 f.status.code ∧
    ∀ h e o i, { t with img := i, host := h, ev := e, out := o } = { s with img := i, host := h, ev := e, out := o } := by
  have hrefused : ∃ u : State, ((s.setDetail f).imageRefused f.check f.status) = u ∧ u.host.running = some c ∧
      ∀ h e o i, { u with img := i, host := h, ev := e, out := o } = { s with img := i, host := h, ev := e, out := o } := by
    unfold State.imageRefused
    refine ⟨_, rfl, (State.raise_cmd _ _ _ _ _).trans hrun, fun h e o i => ?_⟩
    exact (congrArg (fun x : State => { x with img := i }) (State.raise_keeps _ _ _ _ _ h e o) :)
  obtain ⟨u, hu, hcmd, hkeep⟩ := hrefused
  have hend : s.refuseLoad f = ({ u with host := { u.host with running := none } } : State).cmdDone c.accept f.status.code false [] := by
    unfold State.refuseLoad State.endCmd
    simp only [hu, hcmd]
    exact State.answerCmd_host _ _ hpath _ _ _
  have hhost := ({ u with host := { u.host with running := none } } : State).cmdDone_sansPba c.accept f.status.code false []
  have hrest := ({ u with host := { u.host with running := none } } : State).cmdDone_keeps c.accept f.status.code false []
  rw [← hend] at hhost hrest
  generalize s.refuseLoad f = t at *
  refine ⟨congrArg HostIf.busy hhost, congrArg HostIf.done hhost, congrArg HostIf.running hhost, congrArg HostIf.status hhost, fun h e o i => ?_⟩
  exact (congrArg (fun x : State => { x with img := i, ev := e }) (hrest h o)).trans (hkeep h e o i)

/-- An uncorrectable error ends the writing of an image (R289, R520). -/
theorem State.stagedError_img (s : State) (u : StagedUe) : (s.stagedError u).img = s.img := by
  rw [State.stagedError, State.raise_img]
  rfl

theorem State.unloadImage_img (s : State) : s.unloadImage.img = { s.img with image := none, writing := none, active := 0 } := by
  obtain ⟨-, -, -, hports, -, -, -⟩ := State.of_loadView (s.portsDown_loadView (s.modeChanges s.img.image none))
  unfold State.unloadImage State.portModes
  generalize s.portsDown (s.modeChanges s.img.image none) = t at *
  have hkeep := t.placement_keeps (fun _ h => h.unplace) none 0 t.sh t.blv
  unfold State.dropImage
  generalize (t.eachShallot (fun _ h => h.unplace)).startClocks.setTimetables none 0 = u at *
  obtain ⟨-, -, -, hpark, -, -, -⟩ := State.of_loadView (u.parkStreets_loadView none)
  generalize u.parkStreets none = v at *
  have himg : v.img = s.img := hpark.trans ((congrArg State.img hkeep :).trans hports)
  rw [← himg]

/-- Settles O24: the checks begin the writing or refuse the load, and the writing ends with the image in force or without one. -/
theorem imageLoads : Obligations.ImageLoads := by
  unfold Obligations.ImageLoads
  intro a ue s i f b0 b
  refine ⟨fun ha hzero htakes hok => ?_, fun ha hzero htakes herr => ?_, fun hw => ?_, fun hw hdue hcmd => ?_, fun u hw hue hcmd => ?_⟩
  · have hexec := (loadImage_command a s none).runs ha htakes (by rw [show argsZeroFrom a 0 = true from hzero]; rfl) rfl rfl rfl
    have hjudge : State.runChecks b0 none = b.beginWriting i := by
      unfold State.runChecks
      exact (congrArg (State.judgeLoad b none) hok).trans rfl
    have hkeep := b.beginWriting_keeps i
    rw [hexec]
    refine ⟨_, congrArg Host.Outcome.next hjudge, ?_⟩
    generalize b.beginWriting i = t at *
    have himg : t.img = { b.img with swapped := !b.img.swapped, writing := some i } := (congrArg State.img hkeep :)
    rw [himg]
    exact ⟨rfl, rfl, rfl, (congrArg State.top hkeep :), (congrArg State.host hkeep :), (congrArg State.seq hkeep :), (congrArg State.hbm hkeep :),
      (congrArg State.mem hkeep :), (congrArg State.sec hkeep :), (congrArg State.net hkeep :), (congrArg State.blv hkeep :)⟩
  · have hexec := (loadImage_command a s none).runs ha htakes (by rw [show argsZeroFrom a 0 = true from hzero]; rfl) rfl rfl rfl
    have hjudge : State.runChecks b0 none = b.refuseLoad f := by
      unfold State.runChecks
      exact (congrArg (State.judgeLoad b none) herr).trans rfl
    obtain ⟨himg, -, -⟩ := b.refuseLoad_spec f
    obtain ⟨hbusy, hdone, hrun, hstatus, hkeep⟩ := b.refuseLoad_host f (c := hostCmd 0x01 0x18 a) rfl rfl
    rw [hexec]
    refine ⟨_, congrArg Host.Outcome.next hjudge, ?_⟩
    generalize b.refuseLoad f = t at *
    exact ⟨himg, hbusy, hdone, hrun, hstatus, hkeep s.host s.ev s.out s.img⟩
  · rw [exec_imageLoadDone, execImageLoadDone, hw]
  · obtain ⟨htop, himg, hseq, hwin, hsec, hmem, hshal⟩ := s.takeImage_spec i hdue hcmd
    have hhbm : (s.takeImage i).hbm = s.hbm := (State.hbm_tags_of_hm (s.takeImage_hm i)).1
    rw [exec_imageLoadDone, execImageLoadDone, hw]
    refine ⟨_, rfl, ?_⟩
    have hhbm' : ((s.takeImage i).endCmd .ok []).hbm = (s.takeImage i).hbm := (State.hbm_tags_of_hm (State.endCmd_hm _ _ _)).1
    generalize s.takeImage i = t at *
    have hcmd' := State.endCmd_cmd t .ok []
    have hwin' := State.endCmd_windows t .ok []
    rw [State.endCmd_top, State.endCmd_img, State.endCmd_seq, State.endCmd_sec, State.endCmd_mem, htop, himg, hseq, hsec, hhbm', hwin']
    exact ⟨rfl, rfl, rfl, rfl, rfl, rfl, hwin, hcmd', rfl, rfl, rfl, rfl, rfl, rfl, hhbm, hmem, rfl, fun n hn => by
      rw [State.endCmd_shal]; exact hshal n hn⟩
  · rw [exec_imageLoadDone, execImageLoadDone, hw, hue]
    refine ⟨_, rfl, ?_⟩
    have hstaged := s.stagedError_img u
    have hun := (s.stagedError u).unloadImage_img
    rw [hstaged] at hun
    generalize (s.stagedError u).unloadImage = v at *
    obtain ⟨himg, htop, hrun⟩ := ({ v with top := { v.top with state := .idle } } : State).refuseLoad_spec { check := 2, off := u.off }
    exact ⟨congrArg Top.state htop, (congrArg Loader.image himg).trans (congrArg Loader.image hun), (congrArg Loader.writing himg).trans (congrArg Loader.writing hun),
      congrArg Loader.check himg, (congrArg Loader.refuseCount himg).trans (congrArg (fun x : Loader => satAdd x.refuseCount 1) hun :), hrun⟩

end Sys2Proof.Machine
end

section
/-! PROOF. START on an observer table that lists one number twice (R96, R370). -/
namespace Sys2Proof.Machine

/-- LOADED, with no image, a record that waits, and an observer table with two entries of number 0: the first, which `get` reads, has an offset and no
entry; the second has an entry whose D_INIT is 1. -/
def twoObservers : State where
  top := { state := .loaded }
  host := { ready := true, linkUp := true }
  seq := { observers := ⟨[(0, { d := 5 }), (0, { entry := some { raw := BitVec.ofNat 128 (2 ^ 42) } })]⟩, stalled := [{}] }

/-- START drops the first of the two, which is as reset, and the second comes to light. -/
theorem startRun_twoObservers :
    ((State.startRun (List.replicate 12 0) (twoObservers.cmdBegun 0x02 0x10 (List.replicate 12 0))).seq.observers.get 0).d = 1 := by
  rfl

/-- Refutes O25: where a table lists an observer twice, the restarted first entry may equal the reset value and is dropped, and D_INIT of the second stands. -/
theorem not_runsBegin : ¬ Obligations.RunsBegin := by
  unfold Obligations.RunsBegin
  intro h
  have htakes : twoObservers.takesCommand 0x10 := ⟨⟨rfl, rfl, rfl⟩, rfl, rfl⟩
  have hs := (h (List.replicate 12 0) twoObservers {} rfl).1 htakes rfl rfl (by decide) (fun hn => absurd hn (by decide)) rfl
  obtain ⟨t, hexec, -, -, -, -, -, -, -, -, -, -, -, hobs, -⟩ := hs
  have hrun := (start_command (List.replicate 12 0) twoObservers).runs rfl htakes (by decide) (by decide) (by decide) rfl
  obtain rfl := Host.Outcome.next.inj (hexec.symm.trans hrun)
  rcases hobs 0 with hd | hd
  · exact absurd ((startRun_twoObservers.symm.trans hd :)) (by decide)
  · exact absurd hd (by decide)

end Sys2Proof.Machine
end

section
/-! PROOF. The zeroing of a sweep on a pod table that lists one number twice (R462). -/
namespace Sys2Proof.Machine

/-- In the second phase of a sweep, with a pod table of shallot 0 that has two entries of number 0: the first, which `get` reads, is not fused; the second is. -/
def twoPods : State where
  top := { state := .sweeping, sweepPhase := 2 }
  sh := ⟨[(0, { pods := ⟨[(0, { placed := true }), (0, { fused := true })]⟩ })]⟩

/-- The sweep drops the first of the two, which is as reset, and the fused one comes to light. -/
theorem zeroStores_fused {s : State} (hs : s.shal 0 = twoPods.shal 0) : (s.zeroStores.pod 0 0).fused = true := by
  have hsh : s.zeroStores.sh = (s.eachShallot (fun _ h => h.zeroStores)).sh := by
    unfold State.zeroStores
    with_reducible rfl
  have hshal : s.zeroStores.shal 0 = (s.shal 0).zeroStores := (State.shal_of_sh hsh 0).trans (s.eachShallot_shal (fun _ h => h.zeroStores) (by decide))
  rw [State.pod, hshal, hs]
  decide

/-- Refutes O26: where a table lists a pod twice, the first entry may equal the reset value once its stores are zeroed and is dropped, and the second one's fuse is read. -/
theorem not_sweepsAndParking : ¬ Obligations.SweepsAndParking := by
  unfold Obligations.SweepsAndParking
  intro h
  have hs := (h (List.replicate 12 0) default false twoPods twoPods rfl).2.2.1 rfl
  obtain ⟨t, hexec, -, -, -, -, -, -, -, hsh⟩ := hs
  obtain ⟨-, hpods⟩ := hsh 0 (by decide)
  obtain ⟨-, -, -, hfused⟩ := hpods 0
  obtain ⟨u, hzero, hu⟩ : ∃ u : State, exec (.sweepPhaseEnd false) twoPods = .next u.zeroStores ∧ u.shal 0 = twoPods.shal 0 := by
    rw [exec_sweepPhaseEnd]
    exact ⟨_, rfl, rfl⟩
  obtain rfl := Host.Outcome.next.inj (hexec.symm.trans hzero)
  rw [zeroStores_fused hu] at hfused
  exact absurd hfused (by decide)

end Sys2Proof.Machine
end

section
/-! PROOF. Commands that end at once or by themselves: QUERY, RECALIBRATE, ROTATE_KEYS, RETIRE_POD, EXPORT_JOURNAL and unknown opcodes (R373 to R376, R459 to R461). -/
namespace Sys2Proof.Machine

/-! ### Two more ways in which a command does not begin -/

/-- A host command refused in a state that its mask includes (R366). -/
theorem CommandIs.refused {c : Instr} {op : Nat} {args : List Word} {k : CmdCheck} {run : State → State} {s : State} (h : CommandIs c op args k run s) (hargs : args.length = 12)
    (hfree : s.hostFree) (hrun : s.host.running = none) (hbad : k.bad = false) (href : k.refused = true) :
    exec c s = .next (((s.cmdWritten op args).countRefusal op).cmdDone k.accept 3 false []) := by
  obtain ⟨f, hexec, hf⟩ := h
  rw [hexec, State.hostCommand_free _ _ hargs _ hfree, hf, (s.cmdWritten op args).command_state op args k run hbad hrun (.inr href)]

/-- A host command without authority or leave (R367). -/
theorem CommandIs.noAuth {c : Instr} {op : Nat} {args : List Word} {k : CmdCheck} {run : State → State} {s : State} (h : CommandIs c op args k run s) (hargs : args.length = 12)
    (htakes : s.takesCommand k.accept) (hbad : k.bad = false) (href : k.refused = false) (hnow : k.badNow = false) (hauth : k.noAuth = true) :
    exec c s = .next (s.cmdOver op k.accept args 5 []) := by
  obtain ⟨f, hexec, hf⟩ := h
  obtain ⟨hfree, hrun, hstate⟩ := htakes
  rw [hexec, State.hostCommand_free _ _ hargs _ hfree, hf]
  have hstate' : bitAt k.accept (s.cmdWritten op args).top.state.code = true := hstate
  have hrun' : (s.cmdWritten op args).host.running = none := hrun
  unfold State.command
  simp only [hbad, hrun', hstate', href, hnow, hauth, Bool.false_eq_true, if_false, Bool.not_true, Bool.or_self, if_true]
  exact congrArg Host.Outcome.next ((s.cmdWritten op args).answerCmd_host { opcode := op, args := args, accept := k.accept } rfl _ _ _)

/-- An accepted host command that its effect ends at once (R364, R368). -/
theorem CommandIs.ends {c : Instr} {op : Nat} {args : List Word} {k : CmdCheck} {run : State → State} {s : State} (h : CommandIs c op args k run s) (hargs : args.length = 12)
    (htakes : s.takesCommand k.accept) (hbad : k.bad = false) (href : k.refused = false) (hnow : k.badNow = false) (hauth : k.noAuth = false) {st : Status} {res : List Word}
    (hend : run (s.cmdBegun op k.accept args) = (s.cmdBegun op k.accept args).endCmd st res) :
    exec c s = .next (s.cmdOver op k.accept args st.code (res.take 8)) := by
  rw [h.runs hargs htakes hbad href hnow hauth, hend, State.endCmd_cmdBegun _ _ _ _ htakes.2.1]

/-! ### QUERY (R375) -/

theorem lo32_eq (x : Word64) : lo32 x = BitVec.ofNat 32 (x.toNat % 2 ^ 32) :=
  BitVec.eq_of_toNat_eq (by rw [lo32, BitVec.toNat_setWidth, BitVec.toNat_ofNat, Nat.mod_mod])

theorem hi32_eq (x : Word64) : hi32 x = BitVec.ofNat 32 (x.toNat / 2 ^ 32) :=
  BitVec.eq_of_toNat_eq (by rw [hi32, BitVec.toNat_setWidth, BitVec.toNat_ushiftRight, BitVec.toNat_ofNat, Nat.shiftRight_eq_div_pow])

theorem query_ends {a : List Word} {s : State} (ha : a.length = 12) (htakes : s.takesCommand 0xFE) (hbad : queryBad a = false) :
    exec (.query a) s = .next (s.cmdOver 0x07 0xFE a 0 ((s.queryWords (argAt a 0) (argAt a 1) (argAt a 2)).take 8)) :=
  (query_command a s).ends ha htakes hbad rfl rfl rfl rfl

theorem packBits_getLsbD (f : Nat → Bool) {n k : Nat} (hk : k < n) (hn : n ≤ 32) :
    (BitVec.ofNat 32 (packN 1 (fun i => b2n (f i)) n)).getLsbD k = f k := by
  rw [BitVec.getLsbD_ofNat, packN_testBit 1 Nat.one_pos, Nat.div_one, Nat.mod_one, decide_eq_true (by omega : k < 32), decide_eq_true (by omega : k < n * 1),
    Bool.true_and, Bool.true_and]
  cases f k <;> rfl

theorem State.retiredCount_eq (s : State) (n : Nat) : s.retiredCount n = countOf 512 (s.retired n) := by
  rw [State.retiredCount, countOf, upto_eq_range, List.countP_eq_length_filter]

theorem countOf_le (n : Nat) (f : Nat → Bool) : countOf n f ≤ n := by
  have h := List.countP_le_length (p := f) (l := List.range n)
  rwa [List.length_range] at h

theorem query_fences {a : List Word} {s : State} (ha : a.length = 12) (htakes : s.takesCommand 0xFE) (hitem : argAt a 0 = 1) (hzero : argsZeroFrom a 1 = true) :
    ∃ w : List Word, exec (.query a) s = .next (s.cmdOver 0x07 0xFE a 0 w) ∧ w.length = 5 ∧
      (∀ k, k < 8 → ((w[0]?).getD 0).getLsbD k = (s.shal k).fenced) ∧
      ∀ k, k < 8 → ((w[1 + k / 2]?).getD 0).toNat / 2 ^ (16 * (k % 2)) % 2 ^ 16 = countOf 512 (s.retired k) := by
  have hbad : queryBad a = false := by
    unfold queryBad
    rw [hitem, hzero]
    rfl
  have hwords : s.queryWords (argAt a 0) (argAt a 1) (argAt a 2) = BitVec.ofNat 32 (packN 1 (fun n => b2n (s.shal n).fenced) 8) ::
      (upto 4).map (fun i => BitVec.ofNat 32 (s.retiredCount (2 * i) + 2 ^ 16 * s.retiredCount (2 * i + 1))) := by
    rw [hitem]
    rfl
  refine ⟨_, query_ends ha htakes hbad, ?_⟩
  rw [hwords, List.take_of_length_le (by simp)]
  refine ⟨by simp, fun k hk => packBits_getLsbD (fun n => (s.shal n).fenced) hk (by decide), fun k hk => ?_⟩
  have hle := fun j => countOf_le 512 (s.retired j)
  rw [Nat.add_comm 1, List.getElem?_cons_succ, List.getElem?_map, upto_eq_range, List.getElem?_range (by omega), Option.map_some, Option.getD_some, BitVec.toNat_ofNat,
    State.retiredCount_eq, State.retiredCount_eq]
  have h0 := hle (2 * (k / 2))
  have h1 := hle (2 * (k / 2) + 1)
  rcases Nat.mod_two_eq_zero_or_one k with h | h
  · rw [h, show k = 2 * (k / 2) by omega, show 2 * (2 * (k / 2) / 2) = 2 * (k / 2) by omega]
    omega
  · rw [h, show countOf 512 (s.retired k) = countOf 512 (s.retired (2 * (k / 2) + 1)) by rw [show 2 * (k / 2) + 1 = k by omega]]
    omega

theorem query_retired {a : List Word} {s : State} (ha : a.length = 12) (htakes : s.takesCommand 0xFE) (hitem : argAt a 0 = 2) (hsh : argAt a 1 < 8) (hhalf : argAt a 2 < 2)
    (hzero : argsZeroFrom a 3 = true) :
    ∃ w : List Word, exec (.query a) s = .next (s.cmdOver 0x07 0xFE a 0 w) ∧ w.length = 8 ∧
      ∀ k, k < 256 → ((w[k / 32]?).getD 0).getLsbD (k % 32) = s.retired (argAt a 1) (256 * argAt a 2 + k) := by
  have hbad : queryBad a = false := by
    unfold queryBad
    rw [hitem, hzero, decide_eq_false (by omega : ¬ 7 < argAt a 1), decide_eq_false (by omega : ¬ 1 < argAt a 2)]
    rfl
  have hwords : s.queryWords (argAt a 0) (argAt a 1) (argAt a 2) =
      (upto 8).map (fun m => BitVec.ofNat 32 (packN 1 (fun b => b2n (s.retired (argAt a 1) (256 * argAt a 2 + 32 * m + b))) 32)) := by
    rw [hitem]
    rfl
  refine ⟨_, query_ends ha htakes hbad, ?_⟩
  rw [hwords, List.take_of_length_le (by simp)]
  refine ⟨by simp, fun k hk => ?_⟩
  rw [List.getElem?_map, upto_eq_range, List.getElem?_range (by omega), Option.map_some, Option.getD_some,
    packBits_getLsbD (fun b => s.retired (argAt a 1) (256 * argAt a 2 + 32 * (k / 32) + b)) (by omega) (by decide)]
  exact congrArg (s.retired (argAt a 1)) (by omega)

theorem query_zero {a : List Word} {s : State} (ha : a.length = 12) (htakes : s.takesCommand 0xFE) (hitem : argAt a 0 = 0) (hzero : argsZeroFrom a 1 = true) :
    exec (.query a) s = .next (s.cmdOver 0x07 0xFE a 0
      [BitVec.ofNat 32 s.top.state.code,
       BitVec.ofNat 32 ((if s.img.image.isSome then 2 ^ 31 else 0) + s.img.check % 16 * 2 ^ 16 + s.img.status % 256),
       lo32 s.seq.committed, hi32 s.seq.committed, lo32 s.seq.current, hi32 s.seq.current]) := by
  have hbad : queryBad a = false := by
    unfold queryBad
    rw [hitem, hzero]
    rfl
  rw [query_ends ha htakes hbad, hitem]
  have hstatus : s.img.statusWord = BitVec.ofNat 32 ((if s.img.image.isSome then 2 ^ 31 else 0) + s.img.check % 16 * 2 ^ 16 + s.img.status % 256) := by
    unfold Loader.statusWord
    cases s.img.image.isSome <;> rfl
  rw [← hstatus]
  rfl

theorem query_session {a : List Word} {s : State} (ha : a.length = 12) (htakes : s.takesCommand 0xFE) (hitem : argAt a 0 = 3) (hzero : argsZeroFrom a 1 = true) :
    exec (.query a) s = .next (s.cmdOver 0x07 0xFE a 0 [if s.sec.tenant.isSome then 1 else 0, lo32 s.sec.epoch, hi32 s.sec.epoch]) := by
  have hbad : queryBad a = false := by
    unfold queryBad
    rw [hitem, hzero]
    rfl
  rw [query_ends ha htakes hbad, hitem]
  have hbit : (BitVec.ofNat 32 (b2n s.sec.tenant.isSome) : Word) = if s.sec.tenant.isSome then 1 else 0 := by
    cases s.sec.tenant.isSome <;> rfl
  rw [← hbit]
  rfl

/-! ### RECALIBRATE of a lane group (R269, R373) -/

theorem recalibrateGroup_runs {a : List Word} {s : State} {g : LaneRef} (ha : a.length = 12) (htakes : s.takesCommand 0x38) (hzero : argsZeroFrom a 2 = true)
    (hg : laneArg (argAt a 1) = some g) :
    exec (.recalibrateGroup a) s = .next ((s.cmdBegun 0x08 0x38 (scopeArgs 1 a)).commandLane g) :=
  (recalibrateGroup_command a s (by rw [scopeArgs_one]; exact hg)).runs (scopeArgs_length 1 ha) htakes (by rw [scopeArgs_zeroFrom_two, hzero]; rfl) rfl rfl rfl

/-- In RUNNING the lane group is demanded, and the command ends. -/
theorem commandLane_running {a : List Word} {s : State} (g : LaneRef) (hrun : s.host.running = none) (hstate : s.top.state = .running) :
    (s.cmdBegun 0x08 0x38 a).commandLane g =
      (s.modLane g (fun l => { l with pending := true, demandAt := if l.pending then l.demandAt else s.top.now })).cmdOver 0x08 0x38 a 0 [] := by
  rw [show (0 : Nat) = Status.ok.code from rfl, show ([] : List Word) = ([] : List Word).take 8 from rfl, ← State.endCmd_cmdBegun _ _ _ _ (by exact hrun)]
  unfold State.commandLane
  exact if_pos hstate

/-- A demanded lane group waits (R211). -/
theorem mem_laneInsert (c d : Nat × LaneGroup) (l : List (Nat × LaneGroup)) : d ∈ laneInsert c l ↔ d = c ∨ d ∈ l := by
  induction l with
  | nil => simp [laneInsert]
  | cons e l ih =>
    unfold laneInsert
    split
    · exact List.mem_cons
    · rw [List.mem_cons, ih, List.mem_cons]
      exact ⟨fun h => h.elim (fun h => .inr (.inl h)) (fun h => h.imp_right .inr), fun h => h.elim (fun h => .inr (.inl h)) (fun h => h.imp_right .inr)⟩

theorem mem_foldl_laneInsert (l m : List (Nat × LaneGroup)) (d : Nat × LaneGroup) : d ∈ l.foldl (fun m c => laneInsert c m) m ↔ d ∈ l ∨ d ∈ m := by
  induction l generalizing m with
  | nil => simp
  | cons c l ih =>
    rw [List.foldl_cons, ih, mem_laneInsert, List.mem_cons]
    exact ⟨fun h => h.elim (fun h => .inl (.inr h)) (fun h => h.elim (fun h => .inl (.inl h)) .inr), fun h => h.elim (fun h => h.elim (fun h => .inr (.inl h)) .inl) (fun h => .inr (.inr h))⟩

theorem State.mem_waitingLanes {s : State} {g : LaneRef} (hp : (s.lane g).pending = true) (hr : (s.lane g).running = false) : laneIx g ∈ s.waitingLanes := by
  have hmem : (laneIx g, s.lane g) ∈ s.blv.lanes.cells := by
    refine (s.blv.lanes.get_default_or_mem (laneIx g)).resolve_left fun h => ?_
    rw [State.lane, h] at hp
    exact absurd hp (by decide)
  refine List.mem_map.2 ⟨(laneIx g, s.lane g), (mem_foldl_laneInsert _ _ _).2 (.inl (List.mem_filter.2 ⟨hmem, ?_⟩)), rfl⟩
  simp only [hp, hr]
  rfl

theorem laneIx_plaza (g : LaneRef) : bitsOf (laneIx g) 16 8 = g.plaza.val := by
  have hp := g.plaza.isLt
  have hl := g.lane.isLt
  rw [bitsOf_eq_div_mod, laneIx]
  cases g.rx <;> simp only [b2n] <;> omega

theorem Tbl.mem_set_cases {α : Type} [Inhabited α] [DecidableEq α] {t : Tbl α} {k : Nat} {v : α} {c : Nat × α} (h : c ∈ (t.set k v).cells) : c = (k, v) ∨ c ∈ t.cells := by
  unfold Tbl.set at h
  split at h
  · exact .inr (mem_cellsDel h)
  · exact mem_cellsIns h

/-- Of a plaza where no group recalibrates, none does after a group is demanded. -/
theorem State.plazaLanes_modLane {s : State} {g : LaneRef} {f : LaneGroup → LaneGroup} (hidle : ∀ l ∈ s.plazaLanes g.plaza.val, l.running = false)
    (hf : ∀ l, (f l).running = l.running) : (s.lane g).running = false ∧ ∀ l ∈ (s.modLane g f).plazaLanes g.plaza.val, l.running = false := by
  have hself : (s.lane g).running = false := by
    rcases s.blv.lanes.get_default_or_mem (laneIx g) with h | h
    · exact congrArg LaneGroup.running h
    · exact hidle _ (List.mem_map.2 ⟨_, List.mem_filter.2 ⟨h, decide_eq_true (laneIx_plaza g)⟩, rfl⟩)
  refine ⟨hself, fun l hl => ?_⟩
  obtain ⟨c, hc, rfl⟩ := List.mem_map.1 hl
  obtain ⟨hcell, hplaza⟩ := List.mem_filter.1 hc
  rcases Tbl.mem_set_cases hcell with rfl | hold
  · exact (hf _).trans hself
  · exact hidle _ (List.mem_map.2 ⟨c, List.mem_filter.2 ⟨hold, hplaza⟩, rfl⟩)

/-- In IDLE and LOADED what waits is granted at once (R258). -/
theorem State.grantIdle_some {s : State} (hstate : s.top.state = .idle ∨ s.top.state = .loaded) (hgrant : s.seq.grant = none) (hwork : s.wholeGrant.none = false) :
    s.grantIdle = { s with seq := { s.seq with grant := some .scheduled, work := s.wholeGrant, demands := s.seq.demands.drop s.wholeGrant.other.length } } := by
  have hrun : (s.top.state == .running) = false := by rcases hstate with h | h <;> rw [h] <;> rfl
  have hmay : (s.top.state == .idle || s.top.state == .loaded) = true := by rcases hstate with h | h <;> rw [h] <;> rfl
  unfold State.grantIdle State.beginRecess
  simp only [hmay, hgrant, hwork, hrun, Option.isSome_none, Bool.false_eq_true, if_true, if_false]

/-- Outside RUNNING the lane group is granted and starts (R258, R269). -/
theorem commandLane_starts {s : State} {g : LaneRef} (hstate : s.top.state = .idle ∨ s.top.state = .loaded) (hgrant : s.seq.grant = none) (hlamps : s.waitingLamps = [])
    (hflit : s.seq.flitWait = false) (hidle : ∀ l ∈ s.plazaLanes g.plaza.val, l.running = false) :
    let t := s.commandLane g
    (t.lane g).running = true ∧ (t.lane g).pending = false ∧ (t.lane g).codes = (s.lane g).codes ∧ t.host = s.host ∧ t.sh = s.sh := by
  have hnotrun : s.top.state ≠ .running := by rcases hstate with h | h <;> rw [h] <;> decide
  obtain ⟨hself, hplaza⟩ := State.plazaLanes_modLane (f := fun l => { l with pending := true, demandAt := if l.pending then l.demandAt else s.top.now }) hidle
    (fun _ => rfl)
  have hlane := s.lane_modLane_self g (fun l => { l with pending := true, demandAt := if l.pending then l.demandAt else s.top.now })
  unfold State.commandLane
  simp only [hnotrun, if_false]
  have hsame : ∀ f, (s.modLane g f).top = s.top ∧ (s.modLane g f).seq = s.seq ∧ (s.modLane g f).host = s.host ∧ (s.modLane g f).sh = s.sh ∧
    (s.modLane g f).waitingLamps = s.waitingLamps := fun f => ⟨rfl, rfl, rfl, rfl, rfl⟩
  obtain ⟨htop, hseq, hhost, hsh, hwait⟩ := hsame (fun l => { l with pending := true, demandAt := if l.pending then l.demandAt else s.top.now })
  generalize s.modLane g (fun l => { l with pending := true, demandAt := if l.pending then l.demandAt else s.top.now }) = u at *
  have hpend : (u.lane g).pending = true := congrArg LaneGroup.pending hlane
  have hrun : (u.lane g).running = false := (congrArg LaneGroup.running hlane).trans hself
  have hwaits := State.mem_waitingLanes hpend hrun
  have hnone : u.wholeGrant.none = false := by
    rw [RecessWork.none, show u.wholeGrant.lanes.isEmpty = false from List.isEmpty_eq_false_iff.2 (List.ne_nil_of_mem hwaits), Bool.and_false, Bool.false_and]
  rw [State.grantIdle_some (htop ▸ hstate) (hseq ▸ hgrant) hnone]
  generalize hv : ({ u with seq := { u.seq with grant := some .scheduled, work := u.wholeGrant, demands := u.seq.demands.drop u.wholeGrant.other.length } } : State) = v
  have hblv : v.blv = u.blv := by rw [← hv]
  have hvseq : v.seq.grant = some .scheduled ∧ v.seq.work = u.wholeGrant ∧ v.seq.flitWait = u.seq.flitWait := by rw [← hv]; exact ⟨rfl, rfl, rfl⟩
  obtain ⟨hvgrant, hvwork, hvflit⟩ := hvseq
  have hcontains : v.seq.work.lanes.contains (laneIx g) = true := by
    rw [hvwork]
    exact List.contains_iff_mem.2 hwaits
  have hstart : v.startLane g = v.modLane g (fun l => { l with pending := false, running := true }) := by
    refine if_pos ⟨by rw [hvgrant]; rfl, hcontains, ?_, ?_, ?_, ?_⟩
    · rw [hvwork]
      exact List.isEmpty_iff.2 (hwait.trans hlamps)
    · rw [hvflit, hseq, hflit]
      rfl
    · rw [State.lane_of_blv hblv]
      exact hpend
    · rw [Bool.not_eq_true', List.any_eq_false]
      have hp : v.plazaLanes g.plaza.val = u.plazaLanes g.plaza.val := by rw [State.plazaLanes, hblv]; rfl
      rw [hp]
      exact fun l hl => Bool.eq_false_iff.1 (hplaza l hl)
  rw [if_pos hcontains, hstart]
  have hend := v.lane_modLane_self g (fun l => { l with pending := false, running := true })
  have hkeep : (v.modLane g (fun l => { l with pending := false, running := true })).host = v.host ∧
    (v.modLane g (fun l => { l with pending := false, running := true })).sh = v.sh := ⟨rfl, rfl⟩
  generalize v.modLane g (fun l => { l with pending := false, running := true }) = w at *
  refine ⟨congrArg LaneGroup.running hend, congrArg LaneGroup.pending hend, (congrArg LaneGroup.codes hend).trans ?_, ?_, ?_⟩
  · exact (congrArg LaneGroup.codes (State.lane_of_blv hblv g)).trans (congrArg LaneGroup.codes hlane :)
  · rw [hkeep.1, ← hhost, ← hv]
  · rw [hkeep.2, ← hsh, ← hv]

/-! ### ROTATE_KEYS (R288, R460, R461) -/

/-- The free slot of a stack takes a key. -/
def Stack.draw (m : Stack) (key : Nat) : Stack := if m.epoch then { m with keyEven := some key } else { m with keyOdd := some key }

theorem Stack.draw_epoch (m : Stack) (key : Nat) : (m.draw key).epoch = m.epoch := by
  unfold Stack.draw
  split <;> rfl

theorem Stack.draw_keys (m : Stack) (key : Nat) :
    if m.epoch then (m.draw key).keyEven = some key ∧ (m.draw key).keyOdd = m.keyOdd else (m.draw key).keyOdd = some key ∧ (m.draw key).keyEven = m.keyEven := by
  unfold Stack.draw
  cases m.epoch
  · exact ⟨rfl, rfl⟩
  · exact ⟨rfl, rfl⟩

/-- The sixteen free slots take fresh keys (R444). -/
theorem State.drawEpoch_spec (s : State) : ∃ t : State, s.drawEpoch = t ∧ t.sec = { s.sec with draws := s.sec.draws + 16, rotateDue := true } ∧ { t with mem := s.mem, sec := s.sec } = s ∧
    ∀ h, h < 16 → t.mem.get h = (s.mem.get h).draw (s.sec.draws + h) := by
  have hmem := State.foldl_modMem_mem (fun h m => m.draw (s.sec.draws + h)) (upto 16) s
  have hkeep := State.foldl_modMem_keeps (fun h m => m.draw (s.sec.draws + h)) (upto 16) s s.mem
  have hget := fun h => Tbl.get_foldl_mod_upto s.mem (fun h m => m.draw (s.sec.draws + h)) 16 h
  have hdef : s.drawEpoch = { (upto 16).foldl (fun t h => State.modMem t h (fun m => m.draw (s.sec.draws + h))) s with
      sec := { ((upto 16).foldl (fun t h => State.modMem t h (fun m => m.draw (s.sec.draws + h))) s).sec with
        draws := ((upto 16).foldl (fun t h => State.modMem t h (fun m => m.draw (s.sec.draws + h))) s).sec.draws + 16, rotateDue := true } } := by
    unfold State.drawEpoch Stack.draw
    with_reducible rfl
  generalize (upto 16).foldl (fun t h => State.modMem t h (fun m => m.draw (s.sec.draws + h))) s = t at *
  have hsec : t.sec = s.sec := (congrArg State.sec hkeep :)
  refine ⟨_, hdef, by rw [← hsec], (congrArg (fun x : State => { x with sec := s.sec }) hkeep :), fun h hh => ?_⟩
  exact (congrArg (fun x : Tbl Stack => x.get h) hmem).trans ((hget h).trans (if_pos hh))

/-- A rotation in force whose command came from the host (R460). -/
theorem State.rotateInForce_spec {s : State} (hdue : s.sec.rotateDue = true) {c : RunningCmd} (hrun : s.host.running = some c) (hpath : c.path = .host) :
    let t := s.rotateInForce
    let e := s.sec.epoch + 1
    t.sec = { s.sec with rotateDue := false, oldLive := true, epoch := e } ∧ t.host.busy = false ∧ t.host.results.get 0 = lo32 e ∧ t.host.results.get 1 = hi32 e ∧
    ∀ h, h < 16 → t.mem.get h = { s.mem.get h with epoch := !(s.mem.get h).epoch, walking := true, walkUnit := 0 } := by
  have hget := fun h => Tbl.get_foldl_mod_upto s.mem (fun _ m => { m with epoch := !m.epoch, walking := true, walkUnit := 0 }) 16 h
  unfold State.rotateInForce
  rw [if_pos hdue]
  dsimp only
  generalize (upto 16).foldl (fun (t : Tbl Stack) h => t.mod h (fun m => { m with epoch := !m.epoch, walking := true, walkUnit := 0 })) s.mem = mem at *
  generalize hu : ({ s with sec := { s.sec with rotateDue := false, oldLive := true, epoch := s.sec.epoch + 1 }, mem := mem } : State) = u
  have hsec : u.sec = { s.sec with rotateDue := false, oldLive := true, epoch := s.sec.epoch + 1 } := by rw [← hu]
  have humem : u.mem = mem := by rw [← hu]
  have hurun : u.host.running = some c := by rw [← hu]; exact hrun
  have hend : u.endCmd .ok [lo32 (s.sec.epoch + 1), hi32 (s.sec.epoch + 1)] =
      ({ u with host := { u.host with running := none } } : State).cmdDone c.accept 0 false [lo32 (s.sec.epoch + 1), hi32 (s.sec.epoch + 1)] := by
    unfold State.endCmd
    simp only [hurun]
    exact State.answerCmd_host _ _ hpath _ _ _
  have hhost := ({ u with host := { u.host with running := none } } : State).cmdDone_sansPba c.accept 0 false [lo32 (s.sec.epoch + 1), hi32 (s.sec.epoch + 1)]
  rw [← hend] at hhost
  have hresults := congrArg HostIf.results hhost
  refine ⟨(State.endCmd_sec _ _ _).trans hsec, congrArg HostIf.busy hhost, ?_, ?_, fun h hh => ?_⟩
  · exact (congrArg (fun x : Tbl Word => x.get 0) hresults).trans ((Tbl.get_set_ne _ _ (by decide)).trans (Tbl.get_set_self _ _ _))
  · exact (congrArg (fun x : Tbl Word => x.get 1) hresults).trans (Tbl.get_set_self _ _ _)
  · rw [State.endCmd_mem, humem]
    exact (hget h).trans (if_pos hh)

/-- ROTATE_KEYS draws a key for the free slot of every stack; in LOADED the epoch is in force at once, and else the command waits (R460). -/
theorem rotate_draws (s : State) (a : List Word) :
    let u := s.cmdBegun 0x0A 0x30 a
    let t := if u.top.state == .loaded then u.drawEpoch.rotateInForce else u.drawEpoch
    (∀ h, h < 16 → if (s.mem.get h).epoch then (t.mem.get h).keyEven = some (s.sec.draws + h) ∧ (t.mem.get h).keyOdd = (s.mem.get h).keyOdd
      else (t.mem.get h).keyOdd = some (s.sec.draws + h) ∧ (t.mem.get h).keyEven = (s.mem.get h).keyEven) ∧
    (s.top.state = .running → t.sec.rotateDue = true ∧ t.sec.epoch = s.sec.epoch ∧ t.host.busy = true) ∧
    (s.top.state = .loaded → t.sec.rotateDue = false ∧ t.sec.epoch = s.sec.epoch + 1 ∧ t.sec.oldLive = true ∧ t.host.busy = false ∧
      t.host.results.get 0 = lo32 (s.sec.epoch + 1) ∧ t.host.results.get 1 = hi32 (s.sec.epoch + 1) ∧
      ∀ h, h < 16 → (t.mem.get h).epoch = !(s.mem.get h).epoch ∧ (t.mem.get h).walking = true ∧ (t.mem.get h).walkUnit = 0) := by
  intro u
  obtain ⟨v, hv, hsec, hkeep, hmem⟩ := u.drawEpoch_spec
  rw [hv]
  have hrun : v.host.running = some (hostCmd 0x0A 0x30 a) := (congrArg (fun x : State => x.host.running) hkeep :)
  have hkeys := fun h => (s.mem.get h).draw_keys (s.sec.draws + h)
  have hmem' : ∀ h, h < 16 → v.mem.get h = (s.mem.get h).draw (s.sec.draws + h) := hmem
  have hsec' : v.sec = { s.sec with draws := s.sec.draws + 16, rotateDue := true } := hsec
  have hbusy : v.host.busy = true := (congrArg (fun x : State => x.host.busy) hkeep :)
  obtain ⟨hsecR, hbusyR, hlo, hhi, hmemR⟩ := State.rotateInForce_spec (by rw [hsec']) hrun rfl
  generalize v.rotateInForce = w at *
  by_cases hstate : s.top.state = .loaded
  · have hloaded : (u.top.state == .loaded) = true := beq_iff_eq.2 hstate
    intro t
    have ht : t = w := if_pos hloaded
    rw [ht]
    refine ⟨fun h hh => ?_, fun hr => absurd (hstate.symm.trans hr) (by decide), fun _ => ?_⟩
    · rw [hmemR h hh, hmem' h hh]
      exact hkeys h
    · rw [hsecR, hlo, hhi, hsec']
      refine ⟨rfl, rfl, rfl, hbusyR, rfl, rfl, fun h hh => ?_⟩
      rw [hmemR h hh, hmem' h hh, Stack.draw_epoch]
      exact ⟨rfl, rfl, rfl⟩
  · have hother : (u.top.state == .loaded) = false := beq_eq_false_iff_ne.2 hstate
    intro t
    have ht : t = v := if_neg (by rw [hother]; exact Bool.false_ne_true)
    rw [ht]
    refine ⟨fun h hh => ?_, fun _ => ⟨by rw [hsec'], by rw [hsec'], hbusy⟩, fun hl => absurd hl hstate⟩
    rw [hmem' h hh]
    exact hkeys h

theorem rotateDone_ends {s : State} (hlive : s.sec.oldLive = true) (hwalk : ∀ h, h < 16 → (s.mem.get h).walking = false) :
    ∃ t, exec .rotateDone s = .next t ∧ t.sec = { s.sec with oldLive := false } ∧
      (∀ h, h < 16 → t.mem.get h = if (s.mem.get h).epoch then { s.mem.get h with keyEven := none } else { s.mem.get h with keyOdd := none }) ∧ t.hbm = s.hbm := by
  have hget := fun h => Tbl.get_foldl_mod_upto s.mem (fun _ m => m.dropOld) 16 h
  have hall : (upto 16).all (fun h => !(s.mem.get h).walking) = true :=
    List.all_eq_true.2 fun h hh => by rw [hwalk h ((upto_mem 16 h).1 hh)]; rfl
  rw [exec_rotateDone, execRotateDone, if_pos ⟨hlive, hall⟩]
  refine ⟨_, rfl, ?_⟩
  generalize (upto 16).foldl (fun (t : Tbl Stack) h => t.mod h Stack.dropOld) s.mem = mem at *
  rw [State.raise_sec, State.raise_mem, State.raise_hbm]
  refine ⟨rfl, fun h hh => ?_, rfl⟩
  exact (hget h).trans (if_pos hh)

/-! ### RETIRE_POD (R374, R440) -/

/-- A refused non-volatile write (R440). -/
theorem State.nvRefuse_spec (s : State) : s.nvRefuse.cmd = s.cmd ∧ s.nvRefuse.pp.nvBlocked = satAdd s.pp.nvBlocked 1 ∧
    ∀ h e o p, { s.nvRefuse with host := h, ev := e, out := o, pp := p } = { s with host := h, ev := e, out := o, pp := p } := by
  unfold State.nvRefuse
  dsimp only
  split
  · exact ⟨rfl, rfl, fun _ _ _ _ => rfl⟩
  · refine ⟨State.raise_cmd _ _ _ _ _, by rw [State.raise_pp], fun h e o p => ?_⟩
    exact (congrArg (fun x : State => { x with pp := p }) (State.raise_keeps _ _ _ _ _ h e o) :)

/-- A command of the host ends after an effect that keeps it running. -/
theorem State.endCmd_host {s : State} {c : RunningCmd} (hrun : s.host.running = some c) (hpath : c.path = .host) (st : Status) (res : List Word) :
    s.endCmd st res = ({ s with host := { s.host with running := none } } : State).cmdDone c.accept st.code false (res.take 8) := by
  unfold State.endCmd
  simp only [hrun]
  exact State.answerCmd_host _ _ hpath _ _ _

theorem nvRefuse_ends (s : State) (a : List Word) :
    let t := (s.cmdBegun 0x0B 0x18 a).nvRefuse.endCmd .temperatureBlocked []
    t.host.status = 7 ∧ t.host.busy = false ∧ t.host.running = none ∧ t.pp.nvBlocked = satAdd s.pp.nvBlocked 1 ∧
    { t with host := s.host, ev := s.ev, out := s.out, pp := s.pp } = s := by
  obtain ⟨hcmd, hblocked, hkeep⟩ := (s.cmdBegun 0x0B 0x18 a).nvRefuse_spec
  generalize (s.cmdBegun 0x0B 0x18 a).nvRefuse = u at *
  have hend := State.endCmd_host (show u.host.running = some (hostCmd 0x0B 0x18 a) from hcmd) rfl .temperatureBlocked []
  have hhost := ({ u with host := { u.host with running := none } } : State).cmdDone_sansPba 0x18 7 false []
  have hrest := ({ u with host := { u.host with running := none } } : State).cmdDone_keeps 0x18 7 false []
  have hpp := State.endCmd_pp u .temperatureBlocked []
  have hrun := State.endCmd_cmd u .temperatureBlocked []
  rw [show ({ u with host := { u.host with running := none } } : State).cmdDone 0x18 7 false [] = u.endCmd .temperatureBlocked [] from hend.symm] at hhost hrest
  generalize u.endCmd .temperatureBlocked [] = t at *
  refine ⟨congrArg HostIf.status hhost, congrArg HostIf.busy hhost, hrun, ?_, ?_⟩
  · rw [hpp]
    exact hblocked
  · exact (congrArg (fun x : State => { x with ev := s.ev, pp := s.pp }) (hrest s.host s.out)).trans (hkeep s.host s.ev s.out s.pp)

theorem retirePod_runs {a : List Word} {s : State} (ha : a.length = 12) (htakes : s.takesCommand 0x18) (hlt : argAt a 0 ≤ 0xFFF) (hzero : argsZeroFrom a 1 = true) :
    let sh := argAt a 0 / 512 % 8
    let pod := argAt a 0 % 512
    ((s.pod sh pod).fused = true → exec (.retirePod a) s = .next (s.cmdOver 0x0B 0x18 a 0 [])) ∧
    ((s.pod sh pod).fused = false → s.pp.nvOpen = true → exec (.retirePod a) s =
      .next { s.cmdBegun 0x0B 0x18 a with top := { s.top with nv := s.top.nv ++ [.retire sh pod] } }) ∧
    ((s.pod sh pod).fused = false → s.pp.nvOpen = false → ∃ t, exec (.retirePod a) s = .next t ∧ t.host.status = 7 ∧ t.host.busy = false ∧ t.host.running = none ∧
      t.pp.nvBlocked = satAdd s.pp.nvBlocked 1 ∧ { t with host := s.host, ev := s.ev, out := s.out, pp := s.pp } = s) := by
  have hbad : (decide (0xFFF < argAt a 0) || !argsZeroFrom a 1) = false := by rw [decide_eq_false (by omega), hzero]; rfl
  have hsh : bitsOf (argAt a 0) 9 3 = argAt a 0 / 512 % 8 := bitsOf_eq_div_mod _ _ _
  have hpod : bitsOf (argAt a 0) 0 9 = argAt a 0 % 512 := (bitsOf_eq_div_mod _ _ _).trans (congrArg (· % 512) (Nat.div_one _))
  have hruns := (retirePod_command a s).runs ha htakes hbad rfl rfl rfl
  simp only [hsh, hpod] at hruns
  generalize argAt a 0 / 512 % 8 = sh at *
  generalize argAt a 0 % 512 = pod at *
  intro sh' pod'
  have hfuse : ((s.cmdBegun 0x0B 0x18 a).pod sh pod).fused = (s.pod sh pod).fused := rfl
  have hopen : (s.cmdBegun 0x0B 0x18 a).pp.nvOpen = s.pp.nvOpen := rfl
  refine ⟨fun hfused => ?_, fun hfused hnv => ?_, fun hfused hnv => ?_⟩
  · rw [hruns, if_pos (hfuse.trans hfused), State.endCmd_cmdBegun _ _ _ _ htakes.2.1]
    rfl
  · rw [hruns, if_neg (by rw [hfuse, show (s.pod sh pod).fused = false from hfused]; exact Bool.false_ne_true), hopen, hnv]
    rfl
  · rw [hruns, if_neg (by rw [hfuse, show (s.pod sh pod).fused = false from hfused]; exact Bool.false_ne_true), hopen, hnv]
    refine ⟨_, rfl, ?_⟩
    exact nvRefuse_ends s a

/-! ### What an access to the stacks leaves (R283) -/

/-- What an access to the stacks does not touch: all but the stacks, the event log, what leaves, and pending vectors. -/
def State.memView (s : State) : State := { s with mem := {}, hbm := [], tags := {}, ev := {}, out := [], host := s.host.sansPba }

@[simp] theorem State.raise_memView (s : State) (code plaza unit : Nat) (detail : List Byte) : (s.raise code plaza unit detail).memView = s.memView := by
  have hkeep := s.raise_keeps code plaza unit detail s.host.sansPba {} []
  have hsans := s.raise_sansPba code plaza unit detail
  unfold State.memView
  generalize s.raise code plaza unit detail = t at *
  rw [hsans]
  exact (congrArg (fun x : State => { x with mem := {}, hbm := [], tags := {} }) hkeep :)

@[simp] theorem State.modMem_memView (s : State) (h : Nat) (f : Stack → Stack) : (s.modMem h f).memView = s.memView := rfl

theorem State.wantRepair_memView (s : State) (h u row : Nat) (noSpare : Bool) : (s.wantRepair h u row noSpare).memView = s.memView := by
  unfold State.wantRepair
  repeat' split
  · exact State.raise_memView _ _ _ _ _
  · rfl
  · rfl

theorem State.loseUnit_memView (s : State) (h u row : Nat) (noSpare : Bool) : (s.loseUnit h u row noSpare).memView = s.memView := by
  unfold State.loseUnit
  repeat' split
  · rfl
  · exact State.raise_memView _ _ _ _ _
  · exact State.wantRepair_memView _ _ _ _ _

theorem State.correctUnit_memView (s : State) (h u row : Nat) (noSpare : Bool) : (s.correctUnit h u row noSpare).memView = s.memView := by
  unfold State.correctUnit
  dsimp only
  split
  · exact State.wantRepair_memView _ _ _ _ _
  · rfl

theorem State.readUnit_memView (s : State) (h u region : Nat) (session : Bool) (src kind : Nat) (f : Option MemFault) (noSpare quiet : Bool) :
    (s.readUnit h u region session src kind f noSpare quiet).1.memView = s.memView := by
  have hbad : ∀ t : State, (if quiet then t else t.raise 0x4001 (8 + h) 0 (memDetail u)).memView = t.memView := by
    intro t
    split
    · rfl
    · exact State.raise_memView _ _ _ _ _
  unfold State.readUnit
  dsimp only
  split
  · exact hbad _
  · split
    · exact (hbad _).trans (State.raise_memView _ _ _ _ _)
    · split
      · rfl
      · split
        · exact (hbad _).trans (State.loseUnit_memView _ _ _ _ _)
        · exact State.correctUnit_memView _ _ _ _ _

theorem State.readUnits_memView (s : State) (r : Region) (region o src kind : Nat) (env : MemEnv) (quiet : Bool) (l : List Nat) :
    (s.readUnits r region o src kind env quiet l).1.memView = s.memView := by
  induction l generalizing s with
  | nil => rfl
  | cons i is ih => exact (ih _).trans (State.readUnit_memView _ _ _ _ _ _ _ _ _ _)

theorem State.countOdecc_memView (s : State) (h n : Nat) : (s.countOdecc h n).memView = s.memView := by
  unfold State.countOdecc
  split <;> rfl

theorem State.readRegion_memView (s : State) (r : Region) (region o len src : Nat) (env : MemEnv) (quiet : Bool) :
    (s.readRegion r region o len src env quiet).1.memView = s.memView := by
  unfold State.readRegion
  split
  · rfl
  · exact (State.readUnits_memView _ _ _ _ _ _ _ _ _).trans (State.countOdecc_memView _ _ _)

theorem State.readRing_memView (s : State) (count len : Nat) (env : MemEnv) : (s.readRing count len env).1.memView = s.memView := by
  unfold State.readRing
  split
  · rfl
  · exact (State.readRegion_memView _ _ _ _ _ _ _ _).trans (State.readRegion_memView _ _ _ _ _ _ _ _)

theorem State.cmd_of_memView {s t : State} (h : t.memView = s.memView) : t.cmd = s.cmd := (congrArg State.cmd h :)

/-! ### EXPORT_JOURNAL (R376, R459) -/

theorem exportJournal_bad {a : List Word} (hlen : argAt a 2 % 32 = 0) (haddr : argPair a 3 % 4096 = 0) (hzero : argsZeroFrom a 5 = true) :
    (argAt a 2 % 32 != 0 || argPair a 3 % 4096 != 0 || !argsZeroFrom a 5) = false := by
  rw [hlen, haddr, hzero]
  rfl

theorem exportJournal_begins {a : List Word} {s : State} (ha : a.length = 12) (htakes : s.takesCommand 0x30)
    (hbad : (argAt a 2 % 32 != 0 || argPair a 3 % 4096 != 0 || !argsZeroFrom a 5) = false) :
    (s.exportHolds a = false → exec (.exportJournal a) s = .next (s.cmdOver 0x0C 0x30 a 1 [])) ∧
    (s.exportHolds a = true → s.journalLeave = none → exec (.exportJournal a) s = .next (s.cmdOver 0x0C 0x30 a 5 [])) ∧
    (s.exportHolds a = true → s.journalLeave.isSome = true → exec (.exportJournal a) s = .next (s.cmdBegun 0x0C 0x30 a)) := by
  have hcmd := exportJournal_command a s
  refine ⟨fun hholds => hcmd.badNow ha htakes hbad rfl (by rw [hholds]; rfl), fun hholds hleave => hcmd.noAuth ha htakes hbad rfl (by rw [hholds]; rfl) (by rw [hleave]; rfl),
    fun hholds hleave => hcmd.runs ha htakes hbad rfl (by rw [hholds]; rfl) (Option.isNone_eq_false_iff.2 hleave)⟩

theorem journalExportDone_ends {a : List Word} {s u : State} {env : MemEnv} {key : Option (List Byte)} {bs : List Byte} (hrun : s.host.running = some (hostCmd 0x0C 0x30 a))
    (hsend : s.host.canSend = true) (hkey : s.journalLeave = some key) (hread : s.readRing (argPair a 0) (exportLen a) env = (u, some bs)) :
    exec (.journalExportDone env) s = .next ((({ u with host := { u.host with running := none } } : State).emit
      (.hostWrite (argPair a 3) (sealJournal key (argPair a 0) bs))).cmdDone 0x30 0 false []) := by
  have hview := s.readRing_memView (argPair a 0) (exportLen a) env
  rw [hread] at hview
  have hurun : u.host.running = some (hostCmd 0x0C 0x30 a) := (State.cmd_of_memView hview).trans hrun
  rw [exec_journalExportDone, execJournalExportDone, hrun]
  simp only [hostCmd, hsend, hread, hkey, and_self, if_true]
  refine congrArg Host.Outcome.next ?_
  rw [State.endCmd_host (show (u.emit (.hostWrite (argPair a 3) (sealJournal key (argPair a 0) bs))).host.running = some (hostCmd 0x0C 0x30 a) from hurun) rfl]
  rfl

/-! ### Unknown opcodes (R367, R369) -/

theorem State.runOpcode_unknown (s : State) (c : RunningCmd) (h : c.opcode = 0 ∨ 12 < c.opcode) :
    s.runOpcode c = s.answerCmd { c with accept := 0 } .unknownCommand false false [] := by
  unfold State.runOpcode
  split
  case h_13 => rfl
  all_goals omega

theorem unknownCommand_ends {a : List Word} {op : Byte} {s : State} (ha : a.length = 12) (hfree : s.hostFree) (hop : op.toNat = 0 ∨ 12 < op.toNat) :
    exec (.unknownCommand (.host op a)) s = .next ((s.cmdWritten op.toNat a).cmdDone 0 2 false []) := by
  rw [exec_unknownCommand, execUnknownCommand, State.hostCommand_free _ _ ha _ hfree, State.runOpcode_unknown _ _ hop, State.answerCmd_host _ _ rfl]
  rfl

/-- Settles O27: each of the commands that end at once or by themselves. -/
theorem commandsThatEnd : Obligations.CommandsThatEnd := by
  unfold Obligations.CommandsThatEnd
  intro a env op s ha n zero lo hi sh pod full group
  have hlo : ∀ x, lo32 x = lo x := lo32_eq
  have hhi : ∀ x, hi32 x = hi x := hi32_eq
  refine ⟨fun ht hitem hz => ?_, fun ht hitem hz => query_fences ha ht hitem hz, fun ht hitem hsh hhalf hz => query_retired ha ht hitem hsh hhalf hz, fun ht hitem hz => ?_,
    fun ht hz => ?_, fun g ht hz hg hstate => ?_, fun g ht hz hg hstate hgrant hlamps hflit hidle => ?_, fun ht hz hlive hten => ?_, fun ht hz hlive => ?_,
    fun ht hz hlive hten => ?_, fun hlive hwalk => rotateDone_ends hlive hwalk, fun hlive => ?_, fun ht hlt hz => retirePod_runs ha ht hlt hz,
    fun ht hlen haddr hz => exportJournal_begins ha ht (exportJournal_bad hlen haddr hz),
    fun key bs u hrun hsend hkey hread => journalExportDone_ends hrun hsend hkey hread, fun hfree hop => unknownCommand_ends ha hfree hop⟩
  · rw [query_zero ha ht hitem hz, hlo, hhi, hlo, hhi]
  · rw [query_session ha ht hitem hz, hlo, hhi]
  · exact (recalibrateFull_command a s).runs (scopeArgs_length 0 ha) ht (by rw [show argsZeroFrom (scopeArgs 0 a) 1 = true from hz]; rfl) rfl rfl rfl
  · rw [recalibrateGroup_runs ha ht hz hg, commandLane_running g ht.2.1 hstate]
    rfl
  · have hcode : s.top.state = .idle ∨ s.top.state = .loaded := by
      have h := ht.2.2
      cases hs : s.top.state <;> rw [hs] at h hstate
      case idle => exact .inl rfl
      case loaded => exact .inr rfl
      case running => exact absurd rfl hstate
      all_goals exact absurd h (by decide)
    obtain ⟨hrun, hpend, hcodes, hhost, hsh⟩ := commandLane_starts (s := s.cmdBegun 0x08 0x38 (scopeArgs 1 a)) (g := g) hcode hgrant hlamps hflit hidle
    refine ⟨_, recalibrateGroup_runs ha ht hz hg, hrun, hpend, hcodes, congrArg HostIf.busy hhost, hsh⟩
  · exact (rotateKeys_command a s).ends ha ht (by rw [show argsZeroFrom a 0 = true from hz]; rfl) hlive rfl rfl (if_pos (by rw [show (s.cmdBegun 0x0A 0x30 a).sec.tenant = none from hten]; rfl))
  · rw [(rotateKeys_command a s).refused ha ht.1 ht.2.1 (by rw [show argsZeroFrom a 0 = true from hz]; rfl) hlive]
    rfl
  · have hruns := (rotateKeys_command a s).runs ha ht (by rw [show argsZeroFrom a 0 = true from hz]; rfl) hlive rfl rfl
    rw [if_neg (by rw [Option.isNone_eq_false_iff.2 (show (s.cmdBegun 0x0A 0x30 a).sec.tenant.isSome = true from hten)]; exact Bool.false_ne_true)] at hruns
    obtain ⟨hkeys, hrunning, hloaded⟩ := rotate_draws s a
    refine ⟨_, hruns, hkeys, hrunning, fun hstate => ?_⟩
    rw [← hlo, ← hhi]
    exact hloaded hstate
  · rw [exec_rotateDone, execRotateDone, if_neg (fun h => Bool.false_ne_true (hlive.symm.trans h.1))]

end Sys2Proof.Machine
end

section
/-! PROOF. FREEZE falls in IDLE, where no traffic leaves (R237, R313). -/
namespace Sys2Proof.Machine

/-- A frame of the scheduled network, at sub-port 0. -/
def frozenFrame : Frame := { sub := 0, kind := 1, dst := 0, bytes := [] }

/-- IDLE, the host link up, ARB_SEL at the egress arbiter of port 0 of the first gateway, and a frame that waits there. -/
def frozenIdle : State where
  top := { state := .idle }
  host := { ready := true, linkUp := true }
  blv := { arbSel := BitVec.ofNat 32 (2 * 2 ^ 30 + 24 * 2 ^ 8) }
  net := { egress := [frozenFrame], ports := ⟨[(0, { up := true })]⟩ }

/-- In IDLE the frame that waited is discarded (R313): it is not sent. -/
theorem freezeWrite_frozenIdle : ∃ t, exec (.freezeWrite 0) frozenIdle = .next t ∧ t.out = [] := by
  rw [exec_freezeWrite, execFreezeWrite]
  exact ⟨_, rfl, rfl⟩

/-- Refutes O28: a frame that waits at a frozen port of a package in IDLE does not leave when FREEZE falls, as no traffic but neighbour advertisements leaves in IDLE. -/
theorem not_registerWrites : ¬ Obligations.RegisterWrites := by
  unfold Obligations.RegisterWrites
  intro h
  have hs := h 0 0 none false frozenIdle rfl rfl
  obtain ⟨-, -, -, -, -, -, -, -, -, hfreeze, -⟩ := hs
  obtain ⟨t, hexec, -, hout, -⟩ := (hfreeze (by decide) (by decide)).1 frozenFrame (by decide) (by decide) rfl (by decide) (by decide)
  obtain ⟨u, hu, hnone⟩ := freezeWrite_frozenIdle
  obtain rfl := Host.Outcome.next.inj (hexec.symm.trans hu)
  exact absurd (hout.symm.trans hnone) (by decide)

end Sys2Proof.Machine
end

section
/-! PROOF. The BAR2 window: what it reaches, reads and writes (R192, R283, R358, R359). -/
namespace Sys2Proof.Machine

/-! ### What BAR2 reaches (R359) -/

theorem State.bar2View_staging {s : State} (henabled : s.host.bar2Target.getLsbD 31 = true) (ht : s.host.bar2Target.toNat % 2 ^ 16 = 0xFFFE)
    (hstate : s.top.state = .idle ∨ s.top.state = .loaded ∨ s.top.state = .running) : s.bar2View = .staging := by
  unfold State.bar2View
  simp only [bitsOf_low, henabled, ht, Bool.not_true, Bool.false_eq_true, if_false, if_true]
  rcases hstate with h | h | h <;> rw [h]

/-- A region in a state that reads it, with its write flag. -/
theorem State.bar2View_region {s : State} {r : Region} (henabled : s.host.bar2Target.getLsbD 31 = true) (ht : s.host.bar2Target.toNat % 2 ^ 16 ≠ 0xFFFE)
    (hr : s.region (s.host.bar2Target.toNat % 2 ^ 16) = some r) (hrun : r.session = false)
    (hstate : s.top.state = .loaded ∨ s.top.state = .running ∨ s.top.state = .faulted) :
    s.bar2View = .region (s.host.bar2Target.toNat % 2 ^ 16) r (s.top.state == .loaded) := by
  unfold State.bar2View
  simp only [bitsOf_low, henabled, ht, hr, hrun, Bool.not_true, Bool.false_eq_true, if_false]
  rcases hstate with h | h | h <;> rw [h] <;> rfl

/-- The window is closed: not enabled, no RUN region of that number, or a state that closes the target. -/
theorem State.bar2View_closed {s : State} (h : s.host.bar2Target.getLsbD 31 = false ∨
    (s.host.bar2Target.toNat % 2 ^ 16 ≠ 0xFFFE ∧ (s.region (s.host.bar2Target.toNat % 2 ^ 16) = none ∨
      (∃ r, s.region (s.host.bar2Target.toNat % 2 ^ 16) = some r ∧ r.session = true) ∨
      (s.top.state ≠ .loaded ∧ s.top.state ≠ .running ∧ s.top.state ≠ .faulted))) ∨
    (s.host.bar2Target.toNat % 2 ^ 16 = 0xFFFE ∧ s.top.state ≠ .idle ∧ s.top.state ≠ .loaded ∧ s.top.state ≠ .running)) : s.bar2View = .closed := by
  unfold State.bar2View
  simp only [bitsOf_low]
  cases henabled : s.host.bar2Target.getLsbD 31
  case false => rfl
  simp only [henabled, Bool.true_eq_false, false_or] at h
  simp only [Bool.not_true, Bool.false_eq_true, if_false]
  rcases h with ⟨ht, hregion⟩ | ⟨ht, hidle, hloaded, hrunning⟩
  · rw [if_neg ht]
    rcases hregion with hnone | ⟨r, hr, hses⟩ | ⟨hloaded, hrunning, hfaulted⟩
    · rw [hnone]
    · rw [hr]
      exact if_pos hses
    · split
      · rfl
      · split
        · rfl
        · split
          next h => exact absurd h hloaded
          next h => exact absurd h hrunning
          next h => exact absurd h hfaulted
          next => rfl
  · rw [if_pos ht]
    split
    next h => exact absurd h hidle
    next h => exact absurd h hloaded
    next h => exact absurd h hrunning
    next => rfl

/-! ### Reads and writes -/

section Access
variable {s : State} (hready : s.host.ready = true) (hlink : s.host.linkUp = true) (hopen : s.blockOpen .hostif = true) (off : BitVec 36)
include hready hlink hopen

/-- A read of BAR2 that no error meets. -/
theorem bar2Read_some (len : Nat) (env : MemEnv) {v : Bar2View} (hv : s.bar2View = v) {u : State} {bs : List Byte}
    (hbytes : s.bar2Bytes v (s.bar2Byte off.toNat) (min len (s.bar2Size v - s.bar2Byte off.toNat)) env = (u, some bs)) :
    exec (.bar2Read off len env) s = .next ((if min len (s.bar2Size v - s.bar2Byte off.toNat) < len then u.bar2Drop else u).emit
      (.readData (bs ++ List.replicate (len - min len (s.bar2Size v - s.bar2Byte off.toNat)) 0))) := by
  rw [exec_bar2Read, execBar2Read, if_pos (by rw [State.hostReaches, hready, hlink, hopen]; rfl), hv]
  simp only [hbytes]

/-- A read of BAR2 that memory fails. -/
theorem bar2Read_none (len : Nat) (env : MemEnv) {v : Bar2View} (hv : s.bar2View = v) {u : State}
    (hbytes : s.bar2Bytes v (s.bar2Byte off.toNat) (min len (s.bar2Size v - s.bar2Byte off.toNat)) env = (u, none)) :
    exec (.bar2Read off len env) s = .next (u.emit .completerAbort) := by
  rw [exec_bar2Read, execBar2Read, if_pos (by rw [State.hostReaches, hready, hlink, hopen]; rfl), hv]
  simp only [hbytes]

/-- The part of a write that the target takes is applied; the rest is dropped, and counts. -/
theorem bar2Write_takes (data : List Byte) {v : Bar2View} (hv : s.bar2View = v) (hwrites : v.writes = true) {n : Nat}
    (hn : min data.length (s.bar2Size v - s.bar2Byte off.toNat) = n) :
    exec (.bar2Write off data) s = .next (if n < data.length then (s.bar2Apply v (s.bar2Byte off.toNat) (data.take n)).bar2Drop
      else s.bar2Apply v (s.bar2Byte off.toNat) (data.take n)) := by
  rw [exec_bar2Write, execBar2Write, if_pos (by rw [State.hostReaches, hready, hlink, hopen]; rfl), hv]
  simp only [hwrites, if_true, hn]

/-- A write that the target does not take is dropped, and counts. -/
theorem bar2Write_drops {data : List Byte} (hdata : data ≠ []) {v : Bar2View} (hv : s.bar2View = v) (hwrites : v.writes = false) :
    exec (.bar2Write off data) s = .next s.bar2Drop := by
  have happly : s.bar2Apply v (s.bar2Byte off.toNat) (data.take 0) = s := by
    cases v with
    | closed => rfl
    | region k r w => rw [show w = false from hwrites]; rfl
    | staging => cases hwrites
  rw [exec_bar2Write, execBar2Write, if_pos (by rw [State.hostReaches, hready, hlink, hopen]; rfl), hv]
  simp only [hwrites, Bool.false_eq_true, if_false, happly, List.length_pos_iff.2 hdata, if_true]

end Access

/-- A dropped access is counted (R359). -/
theorem State.bar2Drop_drops (s : State) : s.bar2Drop.host.bar2Drops = satAdd s.host.bar2Drops 1 := by
  unfold State.bar2Drop
  dsimp only
  split
  · rfl
  · exact congrArg HostIf.bar2Drops (State.raise_sansPba _ _ _ _ _)

theorem State.bar2Drop_img (s : State) : s.bar2Drop.img = s.img := by
  unfold State.bar2Drop
  dsimp only
  split
  · rfl
  · exact (State.raise_img _ _ _ _ _).trans rfl

theorem Loader.incoming_setIncoming (l : Loader) (t : Tbl Byte) : (l.setIncoming t).incoming = t := by
  unfold Loader.setIncoming Loader.incoming
  cases h : l.swapped
  · simp only [Bool.false_eq_true, if_false]
  · simp only [if_true]

/-- One whole unit of a region written through BAR2. -/
theorem State.bar2Region_unit (s : State) (r : Region) (k : Nat) {o : Nat} {data : List Byte} (hlen : data.length = 64) (ho : o % 64 = 0) :
    s.bar2Region r k (data.length + 1) o data = (s.writeUnit r k (o / 64) 0 data).1 := by
  have hdone : ∀ (fuel o : Nat) (t : State), State.bar2Region r k fuel o [] t = t := by
    intro fuel o t
    cases fuel <;> rfl
  have hne : data.isEmpty = false := List.isEmpty_eq_false_iff.2 (List.ne_nil_of_length_pos (by omega))
  rw [State.bar2Region, hne, ho]
  simp only [Bool.false_eq_true, if_false, Nat.sub_zero]
  rw [List.take_of_length_le (Nat.le_of_eq hlen), List.drop_of_length_le (Nat.le_of_eq hlen), hdone, State.writeUnit_whole _ _ _ _ hlen]
  rfl

/-- A whole unit stored stands at its place (R275, R283). -/
theorem State.writeUnit_bytes (s : State) (r : Region) (k o : Nat) {data : List Byte} (hlen : data.length = 64) {i : Nat} (hi : i < 64) :
    memGet (s.writeUnit r k o 0 data).1.hbm (hbmAddr (r.unit o).1 (64 * (r.unit o).2) + i) = data[i]? := by
  have hput : ∃ l, (s.writeUnit r k o 0 data).1.hbm = memPut l (hbmAddr (r.unit o).1 (64 * (r.unit o).2)) data := by
    rw [State.writeUnit_whole _ _ _ _ hlen]
    unfold State.storeUnit
    cases r.session <;> exact ⟨_, rfl⟩
  obtain ⟨l, hl⟩ := hput
  rw [hl, memGet_put_in _ _ _ _ (Nat.le_add_right _ _) (by omega), Nat.add_sub_cancel_left]

/-- Settles O29: what BAR2 reaches (`State.bar2View_…`), then the read or write of it. -/
theorem bar2Window : Obligations.Bar2Window := by
  unfold Obligations.Bar2Window
  intro off len data env s hready hlink hopen target enabled o drop zeros closed staging half
  have hbyte : s.bar2Byte off.toNat = o := rfl
  have hsize : s.bar2Size .staging = half := rfl
  have hwhole : ∀ n size, o + n ≤ size → min n (size - o) = n := fun n size h => by omega
  have hnone : ∀ n size, size ≤ o → min n (size - o) = 0 := fun n size h => by omega
  have hstaging : staging → s.bar2View = .staging := fun h => State.bar2View_staging h.1 h.2.1 h.2.2
  clear_value o half
  refine ⟨s.bar2Drop_drops, fun hclosed => ?_, fun hst hin hfaults => ?_, fun hst hin hpos hfault => ?_, fun hst hin => ?_,
    fun hst hout hpos hdata => ⟨?_, ?_⟩, fun r henabled ht hr hrun hstate => ?_⟩
  · have hv : s.bar2View = .closed := State.bar2View_closed hclosed
    have hn : ∀ n, min n (s.bar2Size .closed - s.bar2Byte off.toNat) = 0 := fun n => by rw [State.bar2Size, Nat.zero_sub, Nat.min_zero]
    refine ⟨fun hpos => ?_, fun hdata => ?_⟩
    · rw [bar2Read_some hready hlink hopen off len env hv rfl, hn, if_pos hpos]
      rfl
    · exact bar2Write_drops hready hlink hopen off hdata hv rfl
  · have hn : min len (s.bar2Size .staging - s.bar2Byte off.toNat) = len := by rw [hsize, hbyte, hwhole _ _ hin]
    have hbytes : s.bar2Bytes .staging (s.bar2Byte off.toNat) (min len (s.bar2Size .staging - s.bar2Byte off.toNat)) env =
        (s, some (s.img.incoming.getRun o len)) := by
      have hany : env.faults.any (fun f => f.fails) = false := List.any_eq_false.2 fun f hf => Bool.eq_false_iff.1 (hfaults f hf)
      rw [hn, hbyte, State.bar2Bytes, hany, Bool.and_false]
      rfl
    rw [bar2Read_some hready hlink hopen off len env (hstaging hst) hbytes, hn, if_neg (Nat.lt_irrefl _), Nat.sub_self, List.replicate_zero, List.append_nil]
  · have hn : min len (s.bar2Size .staging - s.bar2Byte off.toNat) ≠ 0 := by rw [hsize, hbyte]; omega
    obtain ⟨f, hf, hfails⟩ := hfault
    refine bar2Read_none hready hlink hopen off len env (hstaging hst) ?_
    rw [State.bar2Bytes, if_pos (Bool.and_eq_true_iff.2 ⟨bne_iff_ne.2 hn, List.any_eq_true.2 ⟨f, hf, hfails⟩⟩)]
  · have hn : min data.length (s.bar2Size .staging - s.bar2Byte off.toNat) = data.length := by rw [hsize, hbyte, hwhole _ _ hin]
    rw [bar2Write_takes hready hlink hopen off data (hstaging hst) rfl hn, if_neg (Nat.lt_irrefl _), List.take_length, hbyte]
    rfl
  · have hn : min len (s.bar2Size .staging - s.bar2Byte off.toNat) = 0 := by rw [hsize, hbyte, hnone _ _ hout]
    have hbytes : s.bar2Bytes .staging (s.bar2Byte off.toNat) (min len (s.bar2Size .staging - s.bar2Byte off.toNat)) env = (s, some []) := by
      rw [hn]
      rfl
    rw [bar2Read_some hready hlink hopen off len env (hstaging hst) hbytes, hn, if_pos hpos]
    rfl
  · have hn : min data.length (s.bar2Size .staging - s.bar2Byte off.toNat) = 0 := by rw [hsize, hbyte, hnone _ _ hout]
    refine ⟨_, bar2Write_takes hready hlink hopen off data (hstaging hst) rfl hn, ?_⟩
    rw [if_pos (List.length_pos_iff.2 hdata), State.bar2Drop_img, State.bar2Drop_drops]
    exact ⟨Loader.incoming_setIncoming _ _, rfl⟩
  · have hv := State.bar2View_region henabled ht hr hrun hstate
    have hregion : ∀ n, o + n ≤ r.size → min n (s.bar2Size (.region target r (s.top.state == .loaded)) - s.bar2Byte off.toNat) = n := fun n h => by
      rw [hbyte, State.bar2Size, hwhole _ _ h]
    refine ⟨fun u bs hin hread => ?_, fun u hin hread => ?_, fun hnot hdata => ?_, fun hloaded hlen hal hin hfits => ?_⟩
    · rw [bar2Read_some hready hlink hopen off len env hv (u := u) (bs := bs) (by rw [hregion _ hin, hbyte]; exact hread), hregion _ hin, if_neg (Nat.lt_irrefl _), Nat.sub_self,
        List.replicate_zero, List.append_nil]
    · exact bar2Read_none hready hlink hopen off len env hv (by rw [hregion _ hin, hbyte]; exact hread)
    · rw [beq_eq_false_iff_ne.2 hnot] at hv
      exact bar2Write_drops hready hlink hopen off hdata hv rfl
    · have hn := hregion data.length (by rw [hlen]; exact hin)
      rw [beq_iff_eq.2 hloaded] at hv hn
      have hwrite : exec (.bar2Write off data) s = .next (s.writeUnit r target (o / 64) 0 data).1 := by
        rw [bar2Write_takes hready hlink hopen off data hv rfl hn, if_neg (Nat.lt_irrefl _), List.take_length, hbyte, ← s.bar2Region_unit r target hlen hal]
        rfl
      obtain ⟨hkeep, hout, -, -, -⟩ := s.writeUnit_whole_spec r target (o / 64) hlen 0
      exact ⟨_, hwrite, fun i hi => s.writeUnit_bytes r target (o / 64) hlen hi, hout, (congrArg State.host hkeep :)⟩

end Sys2Proof.Machine
end

section
/-! PROOF. The PCI Express function and its link (R352 to R354, R377, R378, R491). -/
namespace Sys2Proof.Machine

/-! ### What held back requests change (R353, R357) -/

/-- The host interface beside what held back requests are. -/
def HostIf.sansWaiting (h : HostIf) : HostIf := { h with pba := 0, lateWords := [] }

theorem State.flushWords_keeps (s : State) (h : HostIf) (o : List Out) : { s.flushWords with host := h, out := o } = { s with host := h, out := o } := by
  unfold State.flushWords
  split
  · exact proj_foldl (fun t : State => { t with host := h, out := o }) (fun (t : State) (x : Nat × Nat) => t.emit (.hostWrite x.1 (leBytes 8 x.2))) _ _ fun _ _ => rfl
  · rfl

theorem State.flushWords_sansWaiting (s : State) : s.flushWords.host.sansWaiting = s.host.sansWaiting := by
  unfold State.flushWords
  split
  · exact (proj_foldl (fun t : State => t.host.sansWaiting) (fun (t : State) (x : Nat × Nat) => t.emit (.hostWrite x.1 (leBytes 8 x.2))) _ _ fun _ _ => rfl).trans rfl
  · rfl

theorem State.flushWords_none {s : State} (h : s.host.lateWords = []) : s.flushWords = s := by
  unfold State.flushWords
  split
  · rw [h, List.foldl_nil, ← h]
  · rfl

theorem State.flushMsix_keeps (s : State) (h : HostIf) (o : List Out) : { s.flushMsix with host := h, out := o } = { s with host := h, out := o } := by
  unfold State.flushMsix
  refine proj_foldl (fun t : State => { t with host := h, out := o }) _ _ _ fun t v => ?_
  split <;> rfl

theorem State.flushMsix_sansWaiting (s : State) : s.flushMsix.host.sansWaiting = s.host.sansWaiting := by
  unfold State.flushMsix
  refine proj_foldl (fun t : State => t.host.sansWaiting) _ _ _ fun t v => ?_
  split <;> rfl

theorem State.flushMsix_none {s : State} (h : ∀ v, v < 64 → s.host.pba.getLsbD v = true → s.host.masked v = true ∨ s.host.canSend = false) : s.flushMsix = s := by
  have hstep : ∀ l : List Nat, (∀ v ∈ l, v < 64) → l.foldl (fun t v =>
      if t.host.pba.getLsbD v && !t.host.masked v && t.host.canSend then
        { t with host := { t.host with pba := t.host.pba &&& ~~~ (BitVec.ofNat 64 (2 ^ v)) } }.emit (.msix v)
      else t) s = s := by
    intro l
    induction l with
    | nil => exact fun _ => rfl
    | cons v l ih =>
      intro hl
      have hno : (s.host.pba.getLsbD v && !s.host.masked v && s.host.canSend) = false := by
        cases hp : s.host.pba.getLsbD v
        · rfl
        · rcases h v (hl v List.mem_cons_self) hp with hm | hc
          · rw [hm]; rfl
          · rw [hc, Bool.and_false]
      rw [List.foldl_cons, hno, if_neg Bool.false_ne_true]
      exact ih fun w hw => hl w (List.mem_cons_of_mem _ hw)
  exact hstep (upto 64) fun v hv => (upto_mem 64 v).1 hv

/-! ### The link (R353, R377, R378) -/

/-- The host interface of a link that has gone down (R353). -/
def HostIf.linkDown (h : HostIf) : HostIf :=
  { h.functionReset.haltWindows with linkUp := false, linkFlit := false, linkWidth := 0, linkRate := 0, linkLost := h.linkLost || h.linkUp }

theorem State.linkDown_silent {s : State} (h : s.host.linkUp = false ∨ s.top.parking = true) : s.linkDown = { s with host := s.host.linkDown } := by
  unfold State.linkDown
  refine if_neg ?_
  rcases h with h | h <;> rw [h] <;> simp

theorem State.linkDown_raised {s : State} (hlink : s.host.linkUp = true) (hpark : s.top.parking = false) :
    s.linkDown = ({ s with host := s.host.linkDown } : State).raise 0x6001 24 0 [] := by
  unfold State.linkDown
  exact if_pos (by rw [hlink, hpark]; rfl)

theorem perstAssert_linkUp {s : State} (hlink : s.host.linkUp = true) (hpark : s.top.parking = false) : ∃ t, exec .perstAssert s = .next t ∧
    t.host.sansPba = { s.host.linkDown with perstHigh := false, ready := false } ∧ { t with host := s.host, ev := s.ev, out := s.out } = s := by
  rw [exec_perstAssert, execPerstAssert, State.linkDown_raised hlink hpark]
  have hkeep := State.raise_keeps { s with host := s.host.linkDown } 0x6001 24 0 [] s.host s.ev s.out
  have hsans := State.raise_sansPba { s with host := s.host.linkDown } 0x6001 24 0 []
  generalize State.raise { s with host := s.host.linkDown } 0x6001 24 0 [] = u at *
  exact ⟨_, rfl, (congrArg (fun h : HostIf => { h with perstHigh := false, ready := false }) hsans :), hkeep⟩

theorem State.raise_head (s : State) (code plaza unit : Nat) (detail : List Byte) : (s.raise code plaza unit detail).ev.head = s.ev.head + 1 := by
  unfold State.raise State.eventSignal
  dsimp only
  repeat' split
  · rfl
  · exact (congrArg (fun x : State => x.ev.head) (State.msix_keeps _ _ s.host s.out) :)
  · rfl

theorem pcieLinkUp_trains {s : State} (hperst : s.host.perstHigh = true) (hport : s.hostPort = true) (hlink : s.host.linkUp = false) (flit : Bool) (width rate : BitVec 4) :
    ∃ t, exec (.pcieLinkUp flit width rate) s = .next t ∧
      t.host.sansWaiting = { s.host.sansWaiting with linkUp := true, linkFlit := flit, linkWidth := width, linkRate := rate, linkLost := false } ∧
      (t.ev.head = if s.host.linkLost then s.ev.head + 1 else s.ev.head) ∧ { t with host := s.host, ev := s.ev, out := s.out } = s := by
  obtain ⟨u, hu⟩ : ∃ u : State, u = { s with host := { s.host with linkUp := true, linkFlit := flit, linkWidth := width, linkRate := rate, linkLost := false } } := ⟨_, rfl⟩
  have hhost : u.host.sansWaiting = { s.host.sansWaiting with linkUp := true, linkFlit := flit, linkWidth := width, linkRate := rate, linkLost := false } := by rw [hu]; rfl
  have hkeep : ∀ h e o, { u with host := h, ev := e, out := o } = { s with host := h, ev := e, out := o } := by rw [hu]; exact fun _ _ _ => rfl
  obtain ⟨v, hv⟩ : ∃ v, v = if s.host.linkLost then u.raise 0x6002 24 0 [] else u := ⟨_, rfl⟩
  have hhead : v.ev.head = if s.host.linkLost then s.ev.head + 1 else s.ev.head := by
    rw [hv]
    split
    · rw [State.raise_head, hu]
    · rw [hu]
  have hvhost : v.host.sansWaiting = u.host.sansWaiting := by
    rw [hv]
    split
    · exact (congrArg (fun h : HostIf => { h with lateWords := [] }) (State.raise_sansPba u 0x6002 24 0 []) :)
    · rfl
  have hvkeep : ∀ h e o, { v with host := h, ev := e, out := o } = { u with host := h, ev := e, out := o } := by
    rw [hv]
    split
    · exact State.raise_keeps u 0x6002 24 0 []
    · exact fun _ _ _ => rfl
  have hexec : exec (.pcieLinkUp flit width rate) s = .next v.flushWords.flushMsix := by
    rw [exec_pcieLinkUp, execPcieLinkUp, hv, hu]
    exact if_pos (by rw [hperst, hport, hlink]; rfl)
  have hflush := v.flushWords.flushMsix_keeps s.host s.out
  rw [v.flushWords_keeps] at hflush
  have hwait := v.flushWords.flushMsix_sansWaiting.trans v.flushWords_sansWaiting
  refine ⟨_, hexec, ?_⟩
  generalize v.flushWords.flushMsix = t at *
  refine ⟨hwait.trans (hvhost.trans hhost), ?_, ?_⟩
  · exact (congrArg (fun x : State => x.ev.head) hflush).trans hhead
  · exact (congrArg (fun x : State => { x with ev := s.ev }) hflush).trans ((hvkeep s.host s.ev s.out).trans (hkeep s.host s.ev s.out))

theorem d3hotExit_goes (s : State) : ∃ t, exec .d3hotExit s = .next t ∧ t.host.d3hot = false ∧ { t with host := s.host, out := s.out } = s ∧
    (s.host.lateWords = [] → (∀ v, v < 64 → s.host.pba.getLsbD v = true → s.host.masked v = true ∨ s.host.ready = false ∨ s.host.linkUp = false) →
      t = { s with host := { s.host with d3hot := false } }) := by
  obtain ⟨u, hu⟩ : ∃ u : State, u = { s with host := { s.host with d3hot := false } } := ⟨_, rfl⟩
  have hexec : exec .d3hotExit s = .next u.flushWords.flushMsix := by
    rw [exec_d3hotExit, execD3hotExit, hu]
  have hflush := u.flushWords.flushMsix_keeps s.host s.out
  rw [u.flushWords_keeps] at hflush
  have hwait := u.flushWords.flushMsix_sansWaiting.trans u.flushWords_sansWaiting
  refine ⟨_, hexec, ?_, ?_, fun hlate hpba => ?_⟩
  · exact (congrArg HostIf.d3hot hwait).trans (by rw [hu]; rfl)
  · rw [hflush, hu]
  · have hlate' : u.host.lateWords = [] := by rw [hu]; exact hlate
    rw [State.flushWords_none hlate', State.flushMsix_none, hu]
    rw [hu]
    intro v hv hp
    refine (hpba v hv hp).imp_right fun h => ?_
    rcases h with h | h <;> simp only [HostIf.canSend, h, Bool.false_and, Bool.and_false]

/-- Settles O30: the function and its link, one step after another. -/
theorem hostLink : Obligations.HostLink := by
  unfold Obligations.HostLink
  intro flit width rate stream s host still cleared down
  refine ⟨fun hnot => ?_, fun hstate hperst hrun => ?_, fun hperst hport hlate => ?_, fun hno => ?_, fun hlink => ?_, fun hlink hpark => ?_, fun hlink hpark => ?_,
    fun hperst hport hlink => ?_, fun hlink => ?_, rfl, fun hready => ?_, d3hotExit_goes s, fun hlink hsound => ?_, fun hno => ?_⟩
  · rw [exec_perstDeassert, execPerstDeassert, if_neg (by rw [Option.isNone_iff_eq_none]; exact hnot)]
  · rw [exec_perstDeassert, execPerstDeassert, if_pos ⟨hstate, hperst, Option.isNone_iff_eq_none.2 hrun⟩]
    rfl
  · rw [exec_functionReady, execFunctionReady, if_pos (by rw [hperst, hport]; rfl)]
    exact congrArg Host.Outcome.next (State.flushWords_none hlate)
  · rw [exec_functionReady, execFunctionReady, if_neg (by rcases hno with h | h <;> rw [h] <;> simp)]
  · rw [exec_pcieLinkDown, execPcieLinkDown, exec_perstAssert, execPerstAssert, State.linkDown_silent (.inl hlink)]
    exact ⟨rfl, rfl⟩
  · rw [exec_pcieLinkDown, execPcieLinkDown, State.linkDown_silent (.inr hpark)]
    rfl
  · refine ⟨?_, ?_⟩
    · rw [exec_pcieLinkDown, execPcieLinkDown, State.linkDown_raised hlink hpark]
      rfl
    · obtain ⟨t, hexec, hhost, hkeep⟩ := perstAssert_linkUp hlink hpark
      refine ⟨t, hexec, congrArg HostIf.perstHigh hhost, congrArg HostIf.ready hhost, congrArg HostIf.linkUp hhost, (congrArg HostIf.linkLost hhost).trans ?_,
        congrArg HostIf.opcode hhost, congrArg HostIf.bar2Target hhost, congrArg HostIf.msix hhost, (congrArg HostIf.overrun hhost :), (congrArg HostIf.running hhost :),
        congrArg HostIf.windows hhost, hkeep⟩
      rw [HostIf.linkDown, hlink]
      exact Bool.or_true _
  · obtain ⟨t, hexec, hhost, hhead, hkeep⟩ := pcieLinkUp_trains hperst hport hlink flit width rate
    exact ⟨t, hexec, congrArg HostIf.linkUp hhost, congrArg HostIf.linkFlit hhost, congrArg HostIf.linkWidth hhost, congrArg HostIf.linkRate hhost,
      congrArg HostIf.linkLost hhost, hhead, hkeep⟩
  · rw [exec_pcieLinkUp, execPcieLinkUp, if_neg (by rw [hlink]; simp)]
  · rw [exec_d3hotEntry, execD3hotEntry, if_pos hready]
    rfl
  · rw [exec_ideKm, execIdeKm, if_pos (by rw [hlink, hsound]; rfl)]
  · rw [exec_ideKm, execIdeKm, if_neg (by rcases hno with h | h <;> rw [h] <;> simp)]

end Sys2Proof.Machine
end

section
/-! PROOF. A sealed window that fails its checks, on a window table that lists one number twice (R457). -/
namespace Sys2Proof.Machine

/-- A sealed input window 0 of no bytes. -/
def sealedWindow : Window := { flags := 2, num := 0 }

/-- RUNNING at the barrier, with a window table of two entries of number 0: the first, which `get` reads, has count 0 and its pull runs; the second has count 7. -/
def twoWindows : State where
  top := { state := .running }
  host := { ready := true, linkUp := true, windows := ⟨[(0, { moving := true }), (0, { n := 7 })]⟩ }
  seq := { phase := .barrier }
  img := { image := some { windows := [sealedWindow] } }

theorem activeWindow_twoWindows : twoWindows.activeWindow (0 : Fin 64).val false = some sealedWindow := by decide

/-- The run moves to LOADED, no window moves any more, and the entry as reset is dropped: the second one's count comes to light. -/
theorem pullDone_twoWindows : ∃ t, exec (.inputWindowPullDone 0 [] [] []) twoWindows = .next t ∧ (t.host.windows.get 0).n = 7 := by
  have hexec : exec (.inputWindowPullDone 0 [] [] []) twoWindows = .next (twoWindows.windowFails 0) := by
    rw [exec_inputWindowPullDone, execInputWindowPullDone, activeWindow_twoWindows]
    rfl
  refine ⟨_, hexec, ?_⟩
  unfold State.windowFails
  generalize hu : State.raise { twoWindows with sec := { twoWindows.sec with integrityFails := satAdd twoWindows.sec.integrityFails 1 } } 0xB006 pkgPlaza 0 [BitVec.ofNat 8 0] = u
  have hhost : u.host.sansPba = twoWindows.host.sansPba := by
    rw [← hu, State.raise_sansPba]
  have hdue : u.sec.rotateDue = false := by
    rw [← hu, State.raise_sec]
    rfl
  have hrun : u.host.running = none := (congrArg HostIf.running hhost :)
  have hwindows : u.host.windows = twoWindows.host.windows := (congrArg HostIf.windows hhost :)
  rw [u.toLoaded_plain hdue (by rw [hrun]; exact fun _ h => nomatch h)]
  simp only [hwindows]
  decide

/-- Refutes O31: where a table lists a window twice, the halted first entry may equal the reset value and is dropped, and the second one's count is read. -/
theorem not_hostWindows : ¬ Obligations.HostWindows := by
  unfold Obligations.HostWindows
  intro h
  have hs := h 0 0 [] [] [] sealedWindow default twoWindows
  obtain ⟨-, -, -, hfails, -⟩ := hs
  obtain ⟨t, hexec, -, -, -, hn, -⟩ := hfails activeWindow_twoWindows rfl rfl rfl rfl rfl (by decide) rfl
  obtain ⟨u, hu, hseven⟩ := pullDone_twoWindows
  obtain rfl := Host.Outcome.next.inj (hexec.symm.trans hu)
  exact absurd (hn.symm.trans hseven) (by decide)

end Sys2Proof.Machine
end

section
/-! PROOF. The conductors' inputs and output stages (R379 to R385, R389). -/
namespace Sys2Proof.Machine

theorem stageExists_iff (k : Fin 40) : stageExists k.val = true ↔ k.val < 3 ∨ 8 ≤ k.val := by
  have hlt := k.isLt
  simp only [stageExists, Bool.or_eq_true, Bool.and_eq_true, decide_eq_true_eq]
  omega

theorem oseqAbove_iff (a b : Word) : oseqAbove a b = true ↔ 1 ≤ (a - b).toNat ∧ (a - b).toNat < 2 ^ 31 := by
  simp only [oseqAbove, Bool.and_eq_true, decide_eq_true_eq]
  omega

theorem OutStage.fresh_iff (x : OutStage) (a : Word) : x.fresh a = true ↔ ∀ l, x.last = some l → 1 ≤ (a - l).toNat ∧ (a - l).toNat < 2 ^ 31 := by
  unfold OutStage.fresh
  cases x.last with
  | none => exact iff_of_true rfl (fun l h => nomatch h)
  | some l => exact (oseqAbove_iff a l).trans ⟨fun h m hm => Option.some.inj hm ▸ h, fun h => h l rfl⟩

theorem OutStage.leads_iff (x : OutStage) (one : Bool) :
    x.leads one = true ↔ if one then x.claim0.toNat < x.claim1.toNat else x.claim1.toNat < x.claim0.toNat := by
  unfold OutStage.leads
  cases one <;> exact decide_eq_true_iff

theorem State.stage_modStage_self (s : State) (k : Nat) (f : OutStage → OutStage) : (s.modStage k f).cond.stages.get k = f (s.cond.stages.get k) :=
  Tbl.get_mod_self _ _ _

theorem State.stage_modStage_ne (s : State) {k j : Nat} (f : OutStage → OutStage) (h : j ≠ k) : (s.modStage k f).cond.stages.get j = s.cond.stages.get j :=
  Tbl.get_mod_ne _ _ h

/-! ### Inputs (R379, R380) -/

section Inputs
variable {s : State} {iseq : Word64} {i : CondInput} (hfind : s.cond.inputs.find? (fun j => j.iseq == iseq) = some i)
include hfind

theorem inputDelivery_early (late0 late1 : Bool) (hdue : ¬ i.due ≤ s.cycle) : exec (.inputDelivery iseq late0 late1) s = .next s := by
  rw [exec_inputDelivery, execInputDelivery, hfind]
  exact if_neg hdue

/-- Both conductors run and take their copies at the delivery cycle. -/
theorem inputDelivery_both (hdue : i.due ≤ s.cycle) (h0 : i.got0 = false) (h1 : i.got1 = false) (hr0 : s.cond.c0.state.runs = true) (hr1 : s.cond.c1.state.runs = true) :
    exec (.inputDelivery iseq false false) s = .next { s with cond := { ((s.cond.consume false iseq).consume true iseq).took iseq true true with
      counts := { s.cond.counts with delivered := s.cond.counts.delivered + 1 } } } := by
  rw [exec_inputDelivery, execInputDelivery, hfind]
  simp only [hdue, h0, h1, hr0, hr1, if_true, Bool.not_false, Bool.true_or, Bool.and_self]
  rfl

/-- At the delivery cycle a conductor that does not run is not touched. -/
theorem inputDelivery_stopped (late0 late1 c : Bool) (hdue : i.due ≤ s.cycle) (hstop : (s.cond.of c).state.runs = false) :
    ∃ t, exec (.inputDelivery iseq late0 late1) s = .next t ∧ t.cond.of c = s.cond.of c := by
  rw [exec_inputDelivery, execInputDelivery, hfind]
  refine ⟨_, if_pos hdue, ?_⟩
  cases c
  · have h0 : s.cond.c0.state.runs = false := hstop
    rw [h0, Bool.and_false, if_neg Bool.false_ne_true]
    split <;> rfl
  · have h1 : s.cond.c1.state.runs = false := hstop
    rw [h1, Bool.and_false, if_neg Bool.false_ne_true]
    split <;> rfl

theorem lateInputCopy_runs {c : Bool} (hdue : i.due ≤ s.cycle) (hgot : (if c then i.got1 else i.got0) = false) (hruns : (s.cond.of c).state.runs = true) :
    exec (.lateInputCopy iseq c) s = .next { s with cond :=
      { ((s.cond.consume c iseq).modOf c (fun k => { k with inputLate := true })).took iseq (!c) c with lateCount := satAdd s.cond.lateCount 1 } } := by
  have hcopy : (if c then !i.got1 else !i.got0) = true := by
    cases c
    · exact congrArg Bool.not hgot
    · exact congrArg Bool.not hgot
  rw [exec_lateInputCopy, execLateInputCopy, hfind]
  simp only [hdue, hcopy, hruns, and_self, if_true, Bool.not_true, Bool.false_eq_true, if_false]
  cases c <;> rfl

theorem lateInputCopy_stopped {c : Bool} (hstop : (s.cond.of c).state.runs = false) :
    ∃ t, exec (.lateInputCopy iseq c) s = .next t ∧ t.cond.of c = s.cond.of c ∧ t.cond.lateCount = s.cond.lateCount := by
  rw [exec_lateInputCopy, execLateInputCopy, hfind]
  simp only [hstop, Bool.not_false, if_true]
  by_cases hdue : i.due ≤ s.cycle ∧ (if c then !i.got1 else !i.got0) = true
  · exact ⟨_, if_pos hdue, by cases c <;> rfl, rfl⟩
  · exact ⟨_, if_neg hdue, rfl, rfl⟩

end Inputs

/-- Once both copies of an input are taken it waits no more. -/
theorem Cond.took_done (c : Cond) (iseq : Word64) : ∀ j ∈ (c.took iseq true true).inputs, j.iseq ≠ iseq := by
  intro j hj heq
  obtain ⟨hmem, hleft⟩ := List.mem_filter.1 hj
  obtain ⟨k, -, rfl⟩ := List.mem_map.1 hmem
  by_cases hk : k.iseq = iseq
  · rw [if_pos hk] at hleft
    simp only [Bool.or_true, Bool.and_self, Bool.not_true, Bool.false_eq_true] at hleft
  · rw [if_neg hk] at heq
    exact hk heq

/-! ### Outputs (R381 to R383) -/

/-- Conductor `c` of the pair has issued one more output; the other one is as before. -/
def Cond.sentBy (q r : Cond) (c : Bool) (o : CondOut) : Prop :=
  if c then r.c0 = q.c0 ∧ r.c1 = { q.c1 with issued := q.c1.issued ++ [o] } else r.c0 = { q.c0 with issued := q.c0.issued ++ [o] } ∧ r.c1 = q.c1

/-- The state once a conductor has issued an output. -/
def State.issue (s : State) (c : Bool) (o : CondOut) : State := s.modConductor c (fun k => { k with issued := k.issued ++ [o] })

theorem State.issue_spec (s : State) (c : Bool) (o : CondOut) :
    s.cond.sentBy (s.issue c o).cond c o ∧ (s.issue c o).cond.stages = s.cond.stages ∧ (s.issue c o).cond.comparing = s.cond.comparing ∧
    (s.issue c o).cond.stale = s.cond.stale ∧ { s.issue c o with cond := s.cond } = s := by
  cases c
  · exact ⟨⟨rfl, rfl⟩, rfl, rfl, rfl, rfl⟩
  · exact ⟨⟨rfl, rfl⟩, rfl, rfl, rfl, rfl⟩

theorem Cond.sentBy.of_eq {q r r' : Cond} {c : Bool} {o : CondOut} (h : q.sentBy r c o) (h0 : r'.c0 = r.c0) (h1 : r'.c1 = r.c1) : q.sentBy r' c o := by
  unfold Cond.sentBy at *
  rw [h0, h1]
  exact h

theorem outputArrival_runs {s : State} {stage : Fin 40} {c : Bool} {oseq : Word} {payload : List Byte} (hexist : stageExists stage.val = true)
    (hruns : (s.cond.of c).state.runs = true) (hcmp : s.cond.comparing = false) :
    let o : CondOut := { stage := stage.val, oseq := oseq, payload := payload }
    exec (.outputArrival stage c oseq payload) s = .next ((s.issue c o).nativeOutput c o) := by
  intro o
  have hkeep : (s.issue c o).cond.comparing = false := (s.issue_spec c o).2.2.1.trans hcmp
  rw [exec_outputArrival, execOutputArrival, if_pos ⟨hexist, hruns⟩]
  exact congrArg Host.Outcome.next (if_neg (by rw [show (s.modConductor c _).cond.comparing = false from hkeep]; exact Bool.false_ne_true))

/-- An output that enters a hold buffer with room. -/
theorem State.holdOutput_room {s : State} {c : Bool} {o : CondOut} (hroom : (s.cond.stages.get o.stage).held.length < 64) :
    let t := s.holdOutput c o
    let x := s.cond.stages.get o.stage
    t.cond.c0 = s.cond.c0 ∧ t.cond.c1 = s.cond.c1 ∧ { t with cond := s.cond } = s ∧ (∀ k, k ≠ o.stage → t.cond.stages.get k = s.cond.stages.get k) ∧
    t.cond.stages.get o.stage = { x with held := x.held ++ [(c, o)], lagged := x.lagged || decide (16 ≤ x.held.length + 1) } := by
  unfold State.holdOutput
  simp only [Nat.not_le.2 hroom, if_false]
  exact ⟨rfl, rfl, rfl, fun k hk => State.stage_modStage_ne s _ hk, State.stage_modStage_self s _ _⟩

@[simp] theorem State.toFaulted_state (s : State) (doubt : Bool) : (s.toFaulted doubt).top.state = .faulted := by
  unfold State.toFaulted
  rw [State.abortCmd_top]

theorem State.toFaulted_cond (s : State) : (s.toFaulted false).cond = s.cond := by
  have hkeys : (if s.top.sweepPhase = 1 then s.destroyKeys else s).cond = s.cond := by
    split
    · exact State.destroyKeys_cond s
    · rfl
  exact (State.abortCmd_cond _).trans hkeys

/-- Both conductors lost: FAULTED, with the conductors and their stages as they are. -/
theorem State.bothLost_spec (s : State) : s.bothLost.top.state = .faulted ∧ s.bothLost.cond = s.cond :=
  ⟨State.toFaulted_state _ _, (State.toFaulted_cond _).trans (State.raise_cond _ _ _ _ _)⟩

/-- The 65th entry of a hold buffer ends in FAULTED. -/
theorem State.holdOutput_full {s : State} {c : Bool} {o : CondOut} (hfull : 64 ≤ (s.cond.stages.get o.stage).held.length) :
    (s.holdOutput c o).top.state = .faulted ∧ (s.holdOutput c o).cond = s.cond := by
  unfold State.holdOutput
  rw [if_pos hfull]
  obtain ⟨hstate, hcond⟩ := State.bothLost_spec (s.raise 0x7007 26 (condNo c) (leBytes 4 s.cond.interval ++ [BitVec.ofNat 8 o.stage]))
  exact ⟨hstate, hcond.trans (State.raise_cond _ _ _ _ _)⟩

theorem OutStage.accept_spec (x : OutStage) (a : Word) :
    (x.accept a).last = some a ∧ (x.accept a).held = x.held.filter (fun h => oseqAbove h.2.oseq a) := ⟨rfl, rfl⟩

section Native
variable {s : State} {c : Bool} {o : CondOut}

theorem State.nativeOutput_turn (hleads : (s.cond.stages.get o.stage).leads c = true) (hturn : o.oseq = (s.cond.stages.get o.stage).next) :
    s.nativeOutput c o = s.modStage o.stage (fun x => x.accept o.oseq) := by
  unfold State.nativeOutput
  rw [if_pos hleads, if_pos hturn]

theorem State.nativeOutput_fresh (hwait : ¬ ((s.cond.stages.get o.stage).leads c = true ∧ o.oseq = (s.cond.stages.get o.stage).next))
    (hfresh : (s.cond.stages.get o.stage).fresh o.oseq = true) : s.nativeOutput c o = s.holdOutput c o := by
  unfold State.nativeOutput
  by_cases hleads : (s.cond.stages.get o.stage).leads c = true
  · rw [if_pos hleads, if_neg (fun h => hwait ⟨hleads, h⟩), if_pos hfresh]
  · rw [if_neg hleads, if_pos hfresh]

theorem State.nativeOutput_seen (hleads : (s.cond.stages.get o.stage).leads c = true) (hturn : o.oseq ≠ (s.cond.stages.get o.stage).next)
    (hseen : ¬ (s.cond.stages.get o.stage).fresh o.oseq = true) : s.nativeOutput c o = s := by
  unfold State.nativeOutput
  rw [if_pos hleads, if_neg hturn, if_neg hseen]

/-- An output of the lower claim that is not fresh is discarded, and counted where it is of the old active. -/
theorem State.nativeOutput_stale (hleads : ¬ (s.cond.stages.get o.stage).leads c = true) (hseen : ¬ (s.cond.stages.get o.stage).fresh o.oseq = true) :
    s.nativeOutput c o = { s with cond := { s.cond with stale := if (s.cond.stages.get o.stage).oldActive = some c then satAdd s.cond.stale 1 else s.cond.stale } } := by
  unfold State.nativeOutput
  rw [if_neg hleads, if_neg hseen]
  by_cases hold : (s.cond.stages.get o.stage).oldActive = some c
  · rw [if_pos hold, if_pos hold]
  · rw [if_neg hold, if_neg hold]

end Native

/-- A held output that is released next is of the leading conductor, in its turn. -/
theorem OutStage.nextHeld_spec {x : OutStage} {h : CondOut} (hnext : x.nextHeld = some h) : ∃ e ∈ x.held, e.2 = h ∧ x.leads e.1 = true ∧ h.oseq = x.next := by
  obtain ⟨e, hfind, rfl⟩ := Option.map_eq_some_iff.1 hnext
  have hsat := List.find?_some hfind
  simp only [Bool.and_eq_true, beq_iff_eq] at hsat
  exact ⟨e, List.mem_of_find?_eq_some hfind, rfl, hsat⟩

theorem heldRelease_some {s : State} {stage : Fin 40} {h : CondOut} (hnext : (s.cond.stages.get stage.val).nextHeld = some h) (hcmp : s.cond.comparing = false) :
    exec (.heldRelease stage) s = .next (s.modStage stage.val (fun x => x.accept h.oseq)) := by
  rw [exec_heldRelease, execHeldRelease]
  simp only [hnext, hcmp, Bool.false_eq_true, if_false]

theorem heldRelease_none {s : State} {stage : Fin 40} (hnext : (s.cond.stages.get stage.val).nextHeld = none) : exec (.heldRelease stage) s = .next s := by
  rw [exec_heldRelease, execHeldRelease]
  simp only [hnext]

theorem outputArrival_ignored {s : State} {stage : Fin 40} {c : Bool} {oseq : Word} {payload : List Byte}
    (h : ¬ stageExists stage.val = true ∨ ((s.cond.of c).state.runs = false ∧ (s.cond.stages.get stage.val).oldActive ≠ some c)) :
    exec (.outputArrival stage c oseq payload) s = .next s := by
  rw [exec_outputArrival, execOutputArrival]
  obtain hexist | ⟨hstop, hold⟩ := h
  · rw [if_neg (fun h => hexist h.1), if_neg (fun h => hexist h.1)]
  · rw [if_neg (fun h => Bool.false_ne_true (hstop.symm.trans h.2)), if_neg (fun h => hold h.2)]

theorem outputArrival_old {s : State} {stage : Fin 40} {c : Bool} {oseq : Word} {payload : List Byte}
    (hexist : stageExists stage.val = true) (hstop : (s.cond.of c).state.runs = false) (hold : (s.cond.stages.get stage.val).oldActive = some c) :
    exec (.outputArrival stage c oseq payload) s = .next (s.nativeOutput c { stage := stage.val, oseq := oseq, payload := payload }) := by
  rw [exec_outputArrival, execOutputArrival, if_neg (fun h => Bool.false_ne_true (hstop.symm.trans h.2)), if_pos ⟨hexist, hold⟩]

/-- Settles O33: the laws of the inputs, of a native output's five ways and of the release of a held one, put together. -/
theorem conductorTraffic : Obligations.ConductorTraffic := by
  unfold Obligations.ConductorTraffic
  intro plaza iseq late0 late1 c stage oseq payload s i q o x above fresh turn leads exist me sent elsewhere quiet ready
  have hme : ∀ b u, me b u = Cond.of u b := fun b u => by cases b <;> rfl
  have hexist : stageExists stage.val = true ↔ exist := stageExists_iff stage
  have hleads : x.leads c = true ↔ leads := x.leads_iff c
  have hfresh : x.fresh oseq = true ↔ fresh := x.fresh_iff oseq
  obtain ⟨hsent, hstages, -, hstale, hquiet⟩ := s.issue_spec c o
  have hx : (s.issue c o).cond.stages.get o.stage = x := congrArg (Tbl.get · stage.val) hstages
  have hrun : ready → exec (.outputArrival stage c oseq payload) s = .next ((s.issue c o).nativeOutput c o) := fun ⟨he, hr, hc⟩ =>
    outputArrival_runs (hexist.2 he) ((hme c q).symm ▸ hr) hc
  have hwait : (¬ leads ∨ oseq ≠ turn) → ¬ (x.leads c = true ∧ o.oseq = x.next) := fun hw h => hw.elim (fun hl => hl (hleads.1 h.1)) (fun ht => ht h.2)
  refine ⟨exec_inputStageArrival .., fun hf hd => inputDelivery_early hf late0 late1 (Nat.not_le.2 hd), ?both, ?late, ?stopped, ?gone, ?ignored, ?turn, ?seen, ?room, ?full, ?stale,
    ?release, ?old, fun h hn => OutStage.nextHeld_spec hn, fun hn => heldRelease_none hn⟩
  case both =>
    rintro hf hd h0 h1 rfl rfl hr0 hr1
    exact ⟨_, inputDelivery_both hf hd h0 h1 hr0 hr1, rfl, rfl, Cond.took_done _ iseq, rfl⟩
  case late =>
    intro hf hd hg hr
    refine ⟨_, lateInputCopy_runs hf hd hg (hme c q ▸ hr), ?_⟩
    cases c <;> exact ⟨rfl, rfl, rfl, rfl⟩
  case stopped =>
    intro hf hd hr
    have hstop : (s.cond.of c).state.runs = false := hme c q ▸ hr
    obtain ⟨t, ht, htc⟩ := inputDelivery_stopped hf late0 late1 c hd hstop
    obtain ⟨u, hu, huc, hlate⟩ := lateInputCopy_stopped hf hstop
    exact ⟨t, u, ht, hu, (hme c _).trans (htc.trans (hme c q).symm), (hme c _).trans (huc.trans (hme c q).symm), hlate⟩
  case gone =>
    intro hf
    exact ⟨by rw [exec_inputDelivery, execInputDelivery, hf], by rw [exec_lateInputCopy, execLateInputCopy, hf]⟩
  case ignored =>
    rintro (he | ⟨hr, ho⟩)
    · exact outputArrival_ignored (.inl (mt hexist.1 he))
    · exact outputArrival_ignored (.inr ⟨hme c q ▸ hr, ho⟩)
  case turn =>
    intro hready hl ht
    rw [hrun hready, State.nativeOutput_turn (hx ▸ hleads.2 hl) (hx ▸ ht)]
    refine ⟨_, rfl, hsent, fun k hk => ?_, hquiet, ?_⟩
    · exact ((s.issue c o).stage_modStage_ne _ hk).trans (congrArg (Tbl.get · k) hstages)
    · rw [(s.issue c o).stage_modStage_self stage.val, show (s.issue c o).cond.stages.get stage.val = x from hx]
      exact x.accept_spec oseq
  case seen =>
    intro hready hl ht hf
    rw [hrun hready, State.nativeOutput_seen (hx ▸ hleads.2 hl) (hx ▸ ht) (hx ▸ mt hfresh.1 hf)]
    exact ⟨_, rfl, hsent, hstages, hquiet⟩
  case room =>
    intro hready hw hf hroom
    obtain ⟨h0, h1, hrest, hne, hself⟩ := State.holdOutput_room (s := s.issue c o) (c := c) (o := o) (by rw [hx]; exact hroom)
    rw [hrun hready, State.nativeOutput_fresh (hx.symm ▸ hwait hw) (hx.symm ▸ hfresh.2 hf)]
    refine ⟨_, rfl, hsent.of_eq h0 h1, fun k hk => (hne k hk).trans (congrArg (Tbl.get · k) hstages), ?_, ?_⟩
    · exact (congrArg (fun u : State => { u with cond := s.cond }) hrest).trans hquiet
    · rw [hx] at hself
      exact hself
  case full =>
    intro hready hw hf hfull
    obtain ⟨hstate, hcond⟩ := State.holdOutput_full (s := s.issue c o) (c := c) (o := o) (by rw [hx]; exact hfull)
    rw [hrun hready, State.nativeOutput_fresh (hx.symm ▸ hwait hw) (hx.symm ▸ hfresh.2 hf)]
    exact ⟨_, rfl, hstate, (congrArg Cond.stages hcond).trans hstages⟩
  case stale =>
    intro hready hl hf
    rw [hrun hready, State.nativeOutput_stale (hx.symm ▸ mt hleads.1 hl) (hx.symm ▸ mt hfresh.1 hf), hx, hstale]
    exact ⟨_, rfl, hsent, hstages, hquiet, rfl⟩
  case release =>
    intro h hn hc
    refine ⟨_, heldRelease_some hn hc, ?_⟩
    rw [s.stage_modStage_self stage.val]
    exact ⟨(x.accept_spec _).1, (x.accept_spec _).2, fun k hk => s.stage_modStage_ne _ hk, rfl⟩
  case old =>
    intro he hr ho hl hf
    rw [outputArrival_old (hexist.2 he) (hme c q ▸ hr) ho, State.nativeOutput_stale (mt hleads.1 hl) (mt hfresh.1 hf)]
    rw [if_pos ho]

end Sys2Proof.Machine
end

section
/-! PROOF. Heartbeats, the umpire, switch-over and the return of a conductor (R384 to R394, R398). -/
namespace Sys2Proof.Machine

/-! ### One conductor of the pair -/

@[simp] theorem Cond.of_modOf_self (q : Cond) (b : Bool) (f : Conductor → Conductor) : (q.modOf b f).of b = f (q.of b) := by cases b <;> rfl
@[simp] theorem Cond.of_modOf_not (q : Cond) (b : Bool) (f : Conductor → Conductor) : (q.modOf b f).of (!b) = q.of (!b) := by cases b <;> rfl

theorem Cond.modOf_active (q : Cond) (b : Bool) (f : Conductor → Conductor) : (q.modOf b f).active = q.active := by cases b <;> rfl

theorem Cond.of_congr {q r : Cond} (b : Bool) (h0 : r.c0 = q.c0) (h1 : r.c1 = q.c1) : r.of b = q.of b := by
  cases b
  · exact h0
  · exact h1

/-- What the pair has beside its two conductors and its comparison. -/
def Cond.rest (q : Cond) : Cond := { q with c0 := {}, c1 := {}, comparing := false }

@[simp] theorem Cond.rest_modOf (q : Cond) (b : Bool) (f : Conductor → Conductor) : (q.modOf b f).rest = q.rest := by cases b <;> rfl

/-- The state in which a failure leaves a conductor: a second one within 24 h locks it out (R392). -/
def Conductor.afterFailure (k : Conductor) (now : Nat) : CondState :=
  match k.failedAt with
  | some t0 => if now < t0 + 86400000000000 then .lockedOut else .failed
  | none => .failed

/-- Has the conductor failed within the last 24 h? -/
def Conductor.again (k : Conductor) (now : Nat) : Bool := match k.failedAt with | some t => decide (now < t + 86400000000000) | none => false

theorem Conductor.afterFailure_eq (k : Conductor) (now : Nat) : k.afterFailure now = if k.again now then .lockedOut else .failed := by
  unfold Conductor.afterFailure Conductor.again
  cases k.failedAt with
  | none => rfl
  | some t0 => by_cases h : now < t0 + 86400000000000 <;> simp [h]

/-- A failed conductor as the umpire resets it. -/
def Conductor.failed (k : Conductor) (again : Bool) (now : Nat) : Conductor :=
  { k with state := if again then .lockedOut else .failed, failedAt := some now, selfFault := false, bistFail := false, inputLate := false,
           resyncReady := false, consumed := [], issued := [], heartbeat := none }

theorem State.markFailed_spec (s : State) (b : Bool) :
    let t := s.markFailed b
    (t.cond.of b).state = (s.cond.of b).afterFailure s.top.now ∧ t.cond.of (!b) = s.cond.of (!b) ∧ t.cond.rest = s.cond.rest ∧ t.top = s.top ∧ t.seq = s.seq := by
  intro t
  let u := s.modConductor b (fun k => k.failed ((s.cond.of b).again s.top.now) s.top.now)
  have hmark : ∃ detail, t = if (s.cond.of b).again s.top.now then { u with cond := { u.cond with comparing := false } }
      else ({ u with cond := { u.cond with comparing := false } } : State).raise 0x0031 pkgPlaza 0 detail := ⟨_, rfl⟩
  obtain ⟨detail, ht⟩ := hmark
  have hkept : t.cond = { u.cond with comparing := false } ∧ t.top = s.top ∧ t.seq = s.seq := by
    rw [ht]
    split
    · exact ⟨rfl, rfl, rfl⟩
    · exact ⟨State.raise_cond _ _ _ _ _, State.raise_top _ _ _ _ _, State.raise_seq _ _ _ _ _⟩
  obtain ⟨hcond, htop, hseq⟩ := hkept
  rw [Conductor.afterFailure_eq, hcond]
  cases b <;> exact ⟨rfl, rfl, rfl, htop, hseq⟩

/-! ### Failures (R388, R390, R391) -/

theorem mem_stageList {k : Nat} : k ∈ stageList ↔ k < 40 ∧ stageExists k = true := by
  rw [stageList, List.mem_filter, upto_mem]

theorem stageList_nodup : stageList.Nodup := (show (upto 40).Nodup from List.nodup_range).filter _

/-- A change of every stage. -/
theorem stageList_foldl_mod (t : Tbl OutStage) (f : OutStage → OutStage) {k : Nat} (hk : k < 40) (hex : stageExists k = true) :
    (stageList.foldl (fun t k => t.mod k f) t).get k = f (t.get k) :=
  (Tbl.get_foldl_mod t (fun _ => f) stageList_nodup k).trans (if_pos (mem_stageList.2 ⟨hk, hex⟩))

/-- The failing active hands over to a standby: its claim rises at once, and every stage is to take it. -/
theorem State.activeFails_standby {s : State} (cause : Nat) (hstand : (s.cond.of (!s.cond.active)).state = .standby) :
    let t := s.activeFails cause
    t.cond.switching = some { decided := s.cycle, cause := cause, newActive := !s.cond.active, held := s.cond.maxHeld } ∧
    (t.cond.of (!s.cond.active)).claim = (s.cond.of s.cond.active).claim + 1 ∧ (∀ k, k < 40 → stageExists k = true → (t.cond.stages.get k).claimDue = true) ∧
    t.cond.of s.cond.active = s.cond.of s.cond.active ∧ t.cond.active = s.cond.active ∧ t.cond.interval = s.cond.interval ∧ { t with cond := s.cond } = s := by
  unfold State.activeFails
  rw [if_pos hstand]
  refine ⟨?_, ?_, fun k hk hex => ?_, ?_, ?_, ?_, rfl⟩
  case refine_3 =>
    dsimp only
    rw [stageList_foldl_mod _ _ hk hex]
  case refine_5 => exact Cond.modOf_active ..
  all_goals cases s.cond.active <;> rfl

/-- A failing standby changes no claim. -/
theorem State.standbyFails_spec (s : State) (b : Bool) :
    let t := s.standbyFails b
    (t.cond.of b).state = (s.cond.of b).afterFailure s.top.now ∧ t.cond.of (!b) = s.cond.of (!b) ∧ t.cond.rest = s.cond.rest ∧ t.top = s.top := by
  obtain ⟨hstate, hother, hrest, htop, -⟩ := s.markFailed_spec b
  have hkept : (s.standbyFails b).cond = (s.markFailed b).cond ∧ (s.standbyFails b).top = (s.markFailed b).top := by
    unfold State.standbyFails
    dsimp only
    split
    · exact ⟨(State.raise_cond _ _ _ _ _).trans (State.raise_cond _ _ _ _ _), (State.raise_top _ _ _ _ _).trans (State.raise_top _ _ _ _ _)⟩
    · exact ⟨State.raise_cond _ _ _ _ _, State.raise_top _ _ _ _ _⟩
  intro t
  rw [show t.cond = _ from hkept.1, show t.top = _ from hkept.2]
  exact ⟨hstate, hother, hrest, htop⟩

/-- Both conductors fail: each as its last failure says, and the package is FAULTED. -/
theorem State.bothFail_spec (s : State) :
    s.bothFail.top.state = .faulted ∧ (∀ b, (s.bothFail.cond.of b).state = (s.cond.of b).afterFailure s.top.now) ∧ s.bothFail.cond.rest = s.cond.rest := by
  obtain ⟨h0, h01, hrest0, htop0, -⟩ := s.markFailed_spec false
  obtain ⟨h1, h10, hrest1, -, -⟩ := (s.markFailed false).markFailed_spec true
  obtain ⟨hstate, hcond⟩ := State.bothLost_spec ((s.markFailed false).markFailed true)
  unfold State.bothFail
  rw [hcond]
  refine ⟨hstate, fun b => ?_, hrest1.trans hrest0⟩
  cases b
  · exact (congrArg Conductor.state h10).trans h0
  · rw [h1, htop0]
    exact congrArg (Conductor.afterFailure · s.top.now) h01

/-! ### The check of the heartbeats (R387) -/

/-- A heartbeat without a flag. -/
def cleanBeat (h : BitVec 192) : Prop := h.getLsbD 8 = false ∧ h.getLsbD 9 = false ∧ h.getLsbD 10 = false

theorem State.evidence_missing {s : State} {b : Bool} (hruns : (s.cond.of b).state.runs = true) (hcalm : s.cond.switching = none) (hbeat : (s.cond.of b).heartbeat = none) :
    s.evidence b = some { missing := true } := by
  unfold State.evidence
  simp only [hcalm, hruns, hbeat, Bool.not_false, Bool.and_self, if_true]

theorem State.evidence_clean {s : State} {b : Bool} {h : BitVec 192} (hruns : (s.cond.of b).state.runs = true) (hcalm : s.cond.switching = none)
    (hbeat : (s.cond.of b).heartbeat = some h) (hclean : cleanBeat h) : s.evidence b = some { digest := h.toNat / 2 ^ 128 } := by
  obtain ⟨h8, h9, h10⟩ := hclean
  unfold State.evidence
  simp only [hcalm, hruns, hbeat, h8, h9, h10, Bool.not_false, Bool.and_self, if_true]

/-! Without a mismatch the umpire acts by the table of R387. -/

section Acts
variable {s : State} {e0 e1 : Option Evidence} (hmis : s.cond.mismatch = none)
include hmis

theorem State.judgeMismatch_none : s.judgeMismatch e0 e1 = none := by
  unfold State.judgeMismatch
  rw [hmis]

theorem State.umpireActs_none (hd : umpireDecision s.cond.active e0 e1 = none) : s.umpireActs e0 e1 = s := by
  simp only [State.umpireActs, State.judgeMismatch_none hmis, hd]

theorem State.umpireActs_both (hd : umpireDecision s.cond.active e0 e1 = some none) : s.umpireActs e0 e1 = s.bothFail := by
  simp only [State.umpireActs, State.judgeMismatch_none hmis, hd]

theorem State.umpireActs_unequal {b : Bool} (hd : umpireDecision s.cond.active e0 e1 = some (some (b, 0))) :
    s.umpireActs e0 e1 = (s.raise 0x7003 26 (condNo b) (leBytes 4 s.cond.interval)).declareFailed b 0 := by
  simp only [State.umpireActs, State.judgeMismatch_none hmis, hd]

theorem State.umpireActs_missing {b : Bool} (hd : umpireDecision s.cond.active e0 e1 = some (some (b, 1))) : s.umpireActs e0 e1 = s.declareFailed b 1 := by
  simp only [State.umpireActs, State.judgeMismatch_none hmis, hd]

end Acts

/-- The check's end: the next interval begins, and `n` more heartbeats have been compared. -/
def State.checked (t : State) (n : Nat) : State :=
  { t with cond := { t.cond.nextInterval with counts := { t.cond.counts with compared := t.cond.counts.compared + n } } }

theorem State.checked_of (t : State) (n : Nat) (b : Bool) : (t.checked n).cond.of b = { t.cond.of b with heartbeat := none } := by cases b <;> rfl

/-- The heartbeats that the umpire has of both conductors. -/
def Cond.beats (q : Cond) : Bool := q.c0.state.runs && q.c0.heartbeat.isSome && q.c1.state.runs && q.c1.heartbeat.isSome

theorem heartbeatCheck_due {s : State} (hdue : 1000 * (s.cond.interval + 1) + 100 ≤ s.cycle) :
    exec .heartbeatCheck s = .next ((if s.cond.umpireLost then s else s.umpireActs (s.evidence false) (s.evidence true)).checked (b2n s.cond.beats)) := by
  rw [exec_heartbeatCheck, execHeartbeatCheck, if_pos hdue]
  rfl

theorem heartbeatCheck_early {s : State} (hdue : ¬ 1000 * (s.cond.interval + 1) + 100 ≤ s.cycle) : exec .heartbeatCheck s = .next s := by
  rw [exec_heartbeatCheck, execHeartbeatCheck, if_neg hdue]

/-! The table's rows for a calm pair. -/

theorem umpireDecision_equal (a : Bool) (d : Nat) : umpireDecision a (some { digest := d }) (some { digest := d }) = none := by
  simp [umpireDecision, Evidence.own]

theorem umpireDecision_unequal (a : Bool) {d e : Nat} (h : d ≠ e) : umpireDecision a (some { digest := d }) (some { digest := e }) = some (some (!a, 0)) := by
  simp [umpireDecision, Evidence.own, h]

theorem umpireDecision_missing (a b : Bool) (d : Nat) :
    umpireDecision a (some (if b then { digest := d } else { missing := true })) (some (if b then { missing := true } else { digest := d })) = some (some (b, 1)) := by
  cases b <;> rfl

theorem umpireDecision_both (a : Bool) : umpireDecision a (some { missing := true }) (some { missing := true }) = some none := rfl

/-- A calm pair: an active and a standby, with no switch-over, no mismatch and the umpire's ticks. -/
structure Cond.Calm (q : Cond) : Prop where
  switching : q.switching = none
  mismatch : q.mismatch = none
  ticks : q.umpireLost = false
  active : (q.of q.active).state = .active
  standby : (q.of (!q.active)).state = .standby

theorem Cond.Calm.runs {q : Cond} (h : q.Calm) (b : Bool) : (q.of b).state.runs = true := by
  by_cases hb : b = q.active
  · rw [hb, h.active]; rfl
  · rw [Bool.eq_not.2 hb, h.standby]; rfl

section Check
variable {s : State} (hdue : 1000 * (s.cond.interval + 1) + 100 ≤ s.cycle) (hcalm : s.cond.Calm)
include hdue hcalm

theorem heartbeatCheck_calm : exec .heartbeatCheck s = .next ((s.umpireActs (s.evidence false) (s.evidence true)).checked (b2n s.cond.beats)) := by
  rw [heartbeatCheck_due hdue, hcalm.ticks, if_neg Bool.false_ne_true]

/-- Equal heartbeats change nothing. -/
theorem heartbeatCheck_equal {h0 h1 : BitVec 192} (hb0 : s.cond.c0.heartbeat = some h0) (hb1 : s.cond.c1.heartbeat = some h1) (hc0 : cleanBeat h0) (hc1 : cleanBeat h1)
    (heq : h0.toNat / 2 ^ 128 = h1.toNat / 2 ^ 128) : exec .heartbeatCheck s = .next (s.checked 1) := by
  have hbeats : s.cond.beats = true := by
    simp only [Cond.beats, hb0, hb1, show s.cond.c0.state.runs = true from hcalm.runs false, show s.cond.c1.state.runs = true from hcalm.runs true, Option.isSome_some, Bool.and_self]
  rw [heartbeatCheck_calm hdue hcalm, State.evidence_clean (hcalm.runs false) hcalm.switching hb0 hc0, State.evidence_clean (hcalm.runs true) hcalm.switching hb1 hc1, heq,
    State.umpireActs_none hcalm.mismatch (umpireDecision_equal _ _), hbeats]
  rfl

/-- Unequal heartbeats without a flag fail the standby. -/
theorem heartbeatCheck_unequal {h0 h1 : BitVec 192} (hb0 : s.cond.c0.heartbeat = some h0) (hb1 : s.cond.c1.heartbeat = some h1) (hc0 : cleanBeat h0) (hc1 : cleanBeat h1)
    (hne : h0.toNat / 2 ^ 128 ≠ h1.toNat / 2 ^ 128) :
    exec .heartbeatCheck s = .next (((s.raise 0x7003 26 (condNo !s.cond.active) (leBytes 4 s.cond.interval)).standbyFails (!s.cond.active)).checked (b2n s.cond.beats)) := by
  rw [heartbeatCheck_calm hdue hcalm, State.evidence_clean (hcalm.runs false) hcalm.switching hb0 hc0, State.evidence_clean (hcalm.runs true) hcalm.switching hb1 hc1,
    State.umpireActs_unequal hcalm.mismatch (umpireDecision_unequal _ hne)]
  unfold State.declareFailed
  rw [State.raise_cond, if_neg (Bool.not_eq_self _).1]

/-- A missing heartbeat fails its conductor. -/
theorem heartbeatCheck_missing {b : Bool} {h : BitVec 192} (hb : (s.cond.of b).heartbeat = none) (ho : (s.cond.of (!b)).heartbeat = some h) (hc : cleanBeat h) :
    exec .heartbeatCheck s = .next ((s.declareFailed b 1).checked (b2n s.cond.beats)) := by
  have hgone := State.evidence_missing (hcalm.runs b) hcalm.switching hb
  have hthere := State.evidence_clean (hcalm.runs !b) hcalm.switching ho hc
  rw [heartbeatCheck_calm hdue hcalm, State.umpireActs_missing (b := b) hcalm.mismatch]
  cases b
  · rw [hgone, show s.evidence true = _ from hthere]
    exact umpireDecision_missing _ false _
  · rw [hgone, show s.evidence false = _ from hthere]
    exact umpireDecision_missing _ true _

theorem heartbeatCheck_lost (h0 : s.cond.c0.heartbeat = none) (h1 : s.cond.c1.heartbeat = none) :
    exec .heartbeatCheck s = .next (s.bothFail.checked (b2n s.cond.beats)) := by
  rw [heartbeatCheck_calm hdue hcalm, State.evidence_missing (hcalm.runs false) hcalm.switching h0, State.evidence_missing (hcalm.runs true) hcalm.switching h1,
    State.umpireActs_both hcalm.mismatch (umpireDecision_both _)]

end Check

/-! ### Switch-over (R388, R389) -/

theorem lastSwitchWord_fields (w : SwitchOver) (gap : Nat) :
    (lastSwitchWord w gap).toNat / 2 ^ 28 = w.cause % 16 ∧ (lastSwitchWord w gap).getLsbD 27 = w.newActive ∧
    (lastSwitchWord w gap).toNat / 2 ^ 16 % 2 ^ 11 = gap % 2 ^ 11 ∧ (lastSwitchWord w gap).toNat % 2 ^ 16 = w.held % 2 ^ 7 := by
  have hbit : b2n w.newActive < 2 := by cases w.newActive <;> decide
  have hgap : gap % 2 ^ 11 < 2 ^ 11 := Nat.mod_lt _ (by decide)
  have hheld : w.held % 2 ^ 7 < 2 ^ 7 := Nat.mod_lt _ (by decide)
  have hnat : (lastSwitchWord w gap).toNat = w.cause % 16 * 2 ^ 28 + b2n w.newActive * 2 ^ 27 + gap % 2 ^ 11 * 2 ^ 16 + w.held % 2 ^ 7 := by
    rw [lastSwitchWord, BitVec.toNat_ofNat]
    omega
  refine ⟨?_, ?_, ?_, ?_⟩
  · omega
  · rw [BitVec.getLsbD, Nat.testBit_eq_decide_div_mod_eq, hnat, show (w.cause % 16 * 2 ^ 28 + b2n w.newActive * 2 ^ 27 + gap % 2 ^ 11 * 2 ^ 16 + w.held % 2 ^ 7) / 2 ^ 27 % 2 = b2n w.newActive by omega]
    cases w.newActive <;> rfl
  · omega
  · omega

/-- Where no boundary and no forced recess waits, nothing follows a switch-over. -/
theorem State.afterSwitch {t : State} (hbound : t.seq.boundaryDue = false) (hforce : t.seq.forceDue = false) : t.renumberDue.testsOver.forceWaiting = t := by
  have hrenumber : t.renumberDue = t := by
    unfold State.renumberDue
    rw [hbound, if_neg Bool.false_ne_true]
  have htests : t.testsOver = t := by
    unfold State.testsOver
    rw [hbound, Bool.false_and, Bool.false_and, if_neg Bool.false_ne_true]
  rw [hrenumber, htests]
  unfold State.forceWaiting
  rw [hforce, if_neg Bool.false_ne_true]

/-- The end of a switch-over that nothing else waits for. -/
theorem switchoverComplete_spec {s : State} {w : SwitchOver} (hw : s.cond.switching = some w) (hdone : ∀ k, k < 40 → stageExists k = true → (s.cond.stages.get k).claimDue = false)
    (hbound : s.seq.boundaryDue = false) (hforce : s.seq.forceDue = false) :
    ∃ t, exec .switchoverComplete s = .next t ∧ t.cond = { ((s.markFailed (!w.newActive)).cond.modOf w.newActive (fun k => { k with state := .active })) with
      active := w.newActive, switching := none, switches := satAdd s.cond.switches 1, lastSwitch := lastSwitchWord w (s.cycle - w.decided) } := by
  obtain ⟨-, -, hrest, -, hseq⟩ := s.markFailed_spec (!w.newActive)
  have hall : stageList.all (fun k => !(s.cond.stages.get k).claimDue) = true :=
    List.all_eq_true.2 (fun k hk => congrArg Bool.not (hdone k (mem_stageList.1 hk).1 (mem_stageList.1 hk).2))
  have hcount : (s.markFailed (!w.newActive)).cond.switches = s.cond.switches := (congrArg Cond.switches hrest :)
  rw [exec_switchoverComplete, execSwitchoverComplete, hw]
  refine ⟨_, if_pos hall, ?_⟩
  rw [State.afterSwitch, State.raise_cond, ← hcount]
  · cases w.newActive <;> rfl
  · exact (congrArg StepSeq.boundaryDue (State.raise_seq _ _ _ _ _)).trans ((congrArg StepSeq.boundaryDue hseq).trans hbound)
  · exact (congrArg StepSeq.forceDue (State.raise_seq _ _ _ _ _)).trans ((congrArg StepSeq.forceDue hseq).trans hforce)

/-! ### Heartbeats sent (R386) -/

theorem Conductor.beatWord_toNat (k : Conductor) (b : Bool) (m : Nat) (fault : Bool) (upset : Word64) :
    (k.beatWord b m fault upset).toNat = (k.digest ^^^ upset).toNat * 2 ^ 128 + m % 2 ^ 32 * 2 ^ 96 + k.issued.length % 2 ^ 32 * 2 ^ 64 +
      b2n k.resyncReady * 2 ^ 11 + b2n k.inputLate * 2 ^ 10 + b2n k.bistFail * 2 ^ 9 + b2n fault * 2 ^ 8 + b2n b := by
  have hdigest := (k.digest ^^^ upset).isLt
  have hbit : ∀ x, b2n x < 2 := fun x => by cases x <;> decide
  have hr := hbit k.resyncReady
  have hi := hbit k.inputLate
  have hf := hbit k.bistFail
  have hs := hbit fault
  have hb := hbit b
  rw [Conductor.beatWord, BitVec.toNat_ofNat]
  omega

theorem b2n_eq_one (x : Bool) : decide (b2n x = 1) = x := by cases x <;> rfl

theorem Conductor.beatWord_fields (k : Conductor) (b : Bool) (m : Nat) (fault : Bool) (upset : Word64) :
    let h := k.beatWord b m fault upset
    h.getLsbD 0 = b ∧ h.getLsbD 8 = fault ∧ h.getLsbD 9 = k.bistFail ∧ h.getLsbD 10 = k.inputLate ∧ h.getLsbD 11 = k.resyncReady ∧
    h.toNat / 2 ^ 96 % 2 ^ 32 = m % 2 ^ 32 ∧ h.toNat / 2 ^ 64 % 2 ^ 32 = k.issued.length % 2 ^ 32 ∧ h.toNat / 2 ^ 128 = (k.digest ^^^ upset).toNat := by
  intro h
  have hnat : h.toNat = _ := k.beatWord_toNat b m fault upset
  have hbit : ∀ x, b2n x < 2 := fun x => by cases x <;> decide
  have hr := hbit k.resyncReady
  have hi := hbit k.inputLate
  have hf := hbit k.bistFail
  have hs := hbit fault
  have hb := hbit b
  have hget : ∀ i x, h.toNat / 2 ^ i % 2 = b2n x → h.getLsbD i = x := fun i x hx => by
    rw [BitVec.getLsbD, Nat.testBit_eq_decide_div_mod_eq, hx, b2n_eq_one]
  exact ⟨hget 0 b (by omega), hget 8 _ (by omega), hget 9 _ (by omega), hget 10 _ (by omega), hget 11 _ (by omega), by omega, by omega, by omega⟩

theorem heartbeat_sent {s : State} {c : Bool} {fault : Bool} {upset : Word64} (hrun : (s.cond.of c).state.runs = true ∨ (s.cond.of c).state = .resync)
    (hdue : 1000 * (s.cond.interval + 1) ≤ s.cycle) (hnone : (s.cond.of c).heartbeat = none) :
    ∃ t, exec (.heartbeat c fault upset) s = .next t ∧ (t.cond.of c).heartbeat = some ((s.cond.of c).beatWord c s.cond.interval fault upset) ∧
      (t.cond.of c).consumed = [] ∧ (t.cond.of c).issued = [] ∧ t.cond.of (!c) = s.cond.of (!c) ∧ { t with cond := s.cond } = s := by
  rw [exec_heartbeat, execHeartbeat]
  refine ⟨_, if_pos ⟨hrun, hdue, by rw [hnone]; rfl⟩, ?_⟩
  cases c <;> exact ⟨rfl, rfl, rfl, rfl, rfl⟩

theorem heartbeat_none {s : State} {c : Bool} {fault : Bool} {upset : Word64}
    (h : ((s.cond.of c).state.runs = false ∧ (s.cond.of c).state ≠ .resync) ∨ (s.cond.of c).heartbeat.isSome = true) : exec (.heartbeat c fault upset) s = .next s := by
  rw [exec_heartbeat, execHeartbeat]
  refine if_neg (fun hsend => ?_)
  obtain ⟨hrun, -, hnone⟩ := hsend
  obtain ⟨hstop, hnot⟩ | hsome := h
  · rw [hstop] at hrun
    exact hrun.elim Bool.false_ne_true hnot
  · rw [Option.isNone_eq_false_iff.2 hsome] at hnone
    exact Bool.false_ne_true hnone

/-! ### The return of a conductor, its tests, the report (R392 to R394) -/

theorem resyncReady_failed {s : State} {c : Bool} (hfail : (s.cond.of c).state = .failed) :
    exec (.resyncReady c) s = .next (s.modConductor c (fun k => { k with state := .resync, resyncReady := true })) := by
  rw [exec_resyncReady, execResyncReady, if_pos hfail]

theorem resyncReady_other {s : State} {c : Bool} (hfail : (s.cond.of c).state ≠ .failed) : exec (.resyncReady c) s = .next s := by
  rw [exec_resyncReady, execResyncReady, if_neg hfail]

theorem Cond.returning_eq {q : Cond} {c : Bool} (hstate : (q.of c).state = .resync) (hready : (q.of c).resyncReady = true) (hfirst : c = true → q.c0.state ≠ .resync) :
    q.returning = some c := by
  unfold Cond.returning
  cases c
  · exact if_pos ⟨hstate, hready⟩
  · rw [if_neg (fun h => hfirst rfl h.1)]
    exact if_pos ⟨hstate, hready⟩

theorem resyncSnapshotDone_returns {s : State} {c : Bool} {us : Nat} (hret : s.cond.returning = some c) (hmay : s.mayResync = true) :
    ∃ t, exec (.resyncSnapshotDone us) s = .next t ∧ t.cond.of c = (s.cond.of c).snapshot (s.cond.of (!c)) c ∧ t.cond.of (!c) = s.cond.of (!c) ∧
      t.cond.resyncUs = satAdd s.cond.resyncUs (if s.top.state = .running then us else 0) ∧ t.seq = s.seq := by
  rw [exec_resyncSnapshotDone, execResyncSnapshotDone, hret]
  refine ⟨_, if_pos hmay, ?_⟩
  rw [State.raise_cond, State.raise_seq]
  have hbeq : (if s.top.state == PkgState.running then us else 0) = (if s.top.state = .running then us else 0) := by simp only [beq_iff_eq]
  rw [← hbeq]
  cases c <;> exact ⟨rfl, rfl, rfl, rfl⟩

theorem resyncSnapshotDone_waits {s : State} {us : Nat} (hmay : s.mayResync = false) : exec (.resyncSnapshotDone us) s = .next s := by
  rw [exec_resyncSnapshotDone, execResyncSnapshotDone]
  cases s.cond.returning with
  | none => rfl
  | some c => exact if_neg (by rw [hmay]; exact Bool.false_ne_true)

theorem bistFails_bit (f : BitVec 8) (k : Nat) (passed : Bool) {b : Nat} (hb : b < 8) :
    (if passed then f &&& ~~~BitVec.ofNat 8 (2 ^ k) else f ||| BitVec.ofNat 8 (2 ^ k)).getLsbD b = if b = k then !passed else f.getLsbD b := by
  have hbit : (BitVec.ofNat 8 (2 ^ k)).getLsbD b = decide (b = k) := by
    rw [BitVec.getLsbD_ofNat, Nat.testBit_two_pow, decide_eq_true hb, Bool.true_and]
    exact decide_eq_decide.2 eq_comm
  cases passed
  · rw [if_neg Bool.false_ne_true, BitVec.getLsbD_or, hbit]
    by_cases h : b = k <;> simp [h]
  · rw [if_pos rfl, BitVec.getLsbD_and, BitVec.getLsbD_not, hbit]
    by_cases h : b = k <;> simp [h, hb]

theorem standbyBist_spec {s : State} {passed : Bool} (hstand : s.cond.c0.state = .standby ∨ s.cond.c1.state = .standby) :
    ∃ t, exec (.standbyBist passed) s = .next t ∧ t.cond.bistIndex = s.cond.bistNext ∧ t.cond.bistNext = (s.cond.bistNext + 1) % 8 ∧
      t.cond.bistFails = (if passed then s.cond.bistFails &&& ~~~BitVec.ofNat 8 (2 ^ s.cond.bistNext) else s.cond.bistFails ||| BitVec.ofNat 8 (2 ^ s.cond.bistNext)) ∧
      { t with cond := s.cond } = s := by
  obtain ⟨c, hc⟩ : ∃ c, s.cond.standby = some c := by
    unfold Cond.standby
    by_cases h0 : s.cond.c0.state = .standby
    · exact ⟨false, if_pos h0⟩
    · exact ⟨true, (if_neg h0).trans (if_pos (hstand.resolve_left h0))⟩
  rw [exec_standbyBist, execStandbyBist, hc]
  refine ⟨_, rfl, rfl, rfl, ?_⟩
  cases passed <;> cases c <;> exact ⟨rfl, rfl⟩

theorem standbyBist_none {s : State} {passed : Bool} (h0 : s.cond.c0.state ≠ .standby) (h1 : s.cond.c1.state ≠ .standby) : exec (.standbyBist passed) s = .next s := by
  have hc : s.cond.standby = none := by
    unfold Cond.standby
    rw [if_neg h0, if_neg h1]
  rw [exec_standbyBist, execStandbyBist, hc]

theorem healthReport_spec (s : State) (k0 k1 : Half) :
    ∃ t, exec (.healthReport k0 k1) s = .next t ∧ t.cond.health.get 0 = BitVec.ofNat 32 s.cond.counts.compared ∧
      t.cond.health.get 1 = BitVec.ofNat 32 (k0.toNat * 2 ^ 16 + k1.toNat) ∧
      t.cond.health.get 2 = BitVec.ofNat 32 (min s.cond.counts.late0 0xFFFF * 2 ^ 16 + min s.cond.counts.late1 0xFFFF) ∧ t.cond.health.get 6 = s.cond.health.get 6 + 1 ∧
      t.cond.counts = {} ∧ { t.cond with health := s.cond.health, counts := s.cond.counts } = s.cond ∧ { t with cond := s.cond } = s := by
  have hword : ∀ (ws : List Word) i v, ws[i]? = some v → (Tbl.setRun s.cond.health 0 ws).get i = v := fun ws i v h => by
    have hget := Tbl.get_updRun (fun _ v => v) s.cond.health 0 i ws
    rw [Nat.zero_add, h] at hget
    rw [Tbl.setRun_eq_updRun]
    exact hget
  have hcor : healthPair k0.toNat k1.toNat = BitVec.ofNat 32 (k0.toNat * 2 ^ 16 + k1.toNat) := by
    rw [healthPair, Nat.min_eq_left (by omega), Nat.min_eq_left (by omega)]
  exact ⟨_, exec_healthReport .., hword _ 0 _ rfl, (hword _ 1 _ rfl).trans hcor, hword _ 2 _ rfl, hword _ 6 _ rfl, rfl, rfl, rfl⟩

theorem lagAlarm_hands {s : State} {stage : Fin 40} (hlag : (s.cond.stages.get stage.val).lagged = true) (hcalm : s.cond.Calm) : exec (.lagAlarm stage) s = .next (s.activeFails 4) := by
  rw [exec_lagAlarm, execLagAlarm]
  exact if_pos ⟨hlag, by rw [hcalm.switching]; rfl, by rw [hcalm.ticks]; rfl, hcalm.active⟩

theorem lagAlarm_none {s : State} {stage : Fin 40} (hlag : (s.cond.stages.get stage.val).lagged = false) : exec (.lagAlarm stage) s = .next s := by
  rw [exec_lagAlarm, execLagAlarm]
  exact if_neg (fun h => Bool.false_ne_true (hlag.symm.trans h.1))

theorem claimWrite_takes {s : State} {w : SwitchOver} {stage : Fin 40} (hsw : s.cond.switching = some w) (hdue : (s.cond.stages.get stage.val).claimDue = true) :
    exec (.claimWrite stage) s = .next (s.modStage stage.val (fun x => { x with claim0 := s.cond.c0.claim, claim1 := s.cond.c1.claim, claimDue := false, oldActive := some (!w.newActive) })) := by
  rw [exec_claimWrite, execClaimWrite, hsw]
  exact if_pos hdue

theorem State.checked_state (t : State) (n : Nat) (b : Bool) : ((t.checked n).cond.of b).state = (t.cond.of b).state := (congrArg Conductor.state (t.checked_of n b) :)

/-- Settles O34: the umpire's rows, the switch-over, the return and the reports, put together. -/
theorem umpireDecides : Obligations.UmpireDecides := by
  unfold Obligations.UmpireDecides
  intro c selfFault passed upset stage us k0 k1 s w q now me a quiet due clean calm both next lost hands
  have hme : ∀ b u, me b u = Cond.of u b := fun b u => by cases b <;> rfl
  have hcalm : calm → both → q.Calm := fun ⟨hs, hm, hu⟩ ⟨ha, hb⟩ => ⟨hs, hm, hu, (hme a q) ▸ ha, (hme (!a) q) ▸ hb⟩
  simp only [hme, lost, hands]
  refine ⟨?beat, fun h => heartbeat_none h, fun h => heartbeatCheck_early h, ?compare, ?active, ?standby, ?both, ?ticks, ?lag, ?nolag, ?claim, ?noswitch, ?switch,
    ?tick, ?ticked, exec_tickTimeout s, ?ready, fun h => resyncReady_other h, ?snapshot, fun h => resyncSnapshotDone_waits h, ?bist, fun h0 h1 => standbyBist_none h0 h1, ?report⟩
  case beat =>
    intro hrun hsent hnone
    obtain ⟨t, ht, hbeat, hcons, hiss, hother, hquiet⟩ := heartbeat_sent (fault := selfFault) (upset := upset) hrun hsent hnone
    obtain ⟨f0, f8, f9, f10, f11, fm, fn, fd⟩ := (s.cond.of c).beatWord_fields c s.cond.interval selfFault upset
    exact ⟨t, _, ht, hbeat, f0, f8, f9, f10, f11, fm, fn, fd, hcons, hiss, hother, hquiet⟩
  case compare =>
    intro h0 h1 hdue hboth hc hb0 hb1 hc0 hc1
    have hpair := hcalm hc hboth
    refine ⟨fun heq => ⟨_, heartbeatCheck_equal hdue hpair hb0 hb1 hc0 hc1 heq, ⟨rfl, rfl, rfl⟩, rfl, rfl, rfl, rfl, rfl⟩, fun hne => ?_⟩
    obtain ⟨hstate, hother, hrest, htop⟩ := (s.raise 0x7003 26 (condNo !s.cond.active) (leBytes 4 s.cond.interval)).standbyFails_spec (!s.cond.active)
    rw [State.raise_cond] at hstate hother hrest
    rw [State.raise_top] at hstate htop
    rw [Bool.not_not] at hother
    refine ⟨_, heartbeatCheck_unequal hdue hpair hb0 hb1 hc0 hc1 hne, ⟨congrArg (·.interval + 1) hrest, rfl, rfl⟩, (State.checked_state _ _ _).trans hstate, ?_,
      (congrArg Cond.active hrest :), (congrArg Cond.switching hrest :).trans hpair.switching, htop, (congrArg Cond.stages hrest :)⟩
    exact (State.checked_state _ _ _).trans ((congrArg Conductor.state hother).trans hpair.active)
  case active =>
    intro h hdue hboth hc ha hb hclean
    have hpair := hcalm hc hboth
    obtain ⟨hsw, hclaim, hdues, hold, hact, hinter, hquiet⟩ := State.activeFails_standby (s := s) 1 hpair.standby
    have hfails : s.declareFailed s.cond.active 1 = s.activeFails 1 := if_pos rfl
    refine ⟨_, heartbeatCheck_missing hdue hpair ha hb hclean, ?_⟩
    rw [hfails]
    refine ⟨⟨congrArg (· + 1) hinter, rfl, rfl⟩, hsw, ?_, hdues, ?_, hact, hquiet⟩
    · exact (congrArg Conductor.claim (State.checked_of _ _ _)).trans hclaim
    · exact (State.checked_state _ _ _).trans ((congrArg Conductor.state hold).trans hpair.active)
  case standby =>
    intro h hdue hboth hc ha hclean hb
    have hpair := hcalm hc hboth
    obtain ⟨hstate, -, hrest, htop⟩ := s.standbyFails_spec (!s.cond.active)
    have hfails : s.declareFailed (!s.cond.active) 1 = s.standbyFails (!s.cond.active) := if_neg (Bool.not_eq_self _).1
    refine ⟨_, heartbeatCheck_missing hdue hpair hb (by rw [Bool.not_not]; exact ha) hclean, ?_⟩
    rw [hfails]
    exact ⟨⟨congrArg (·.interval + 1) hrest, rfl, rfl⟩, (State.checked_state _ _ _).trans hstate, (congrArg Cond.active hrest :), htop⟩
  case both =>
    intro hdue hboth hc h0 h1
    have hpair := hcalm hc hboth
    obtain ⟨hfaulted, hstate, hrest⟩ := s.bothFail_spec
    exact ⟨_, heartbeatCheck_lost hdue hpair h0 h1, ⟨congrArg (·.interval + 1) hrest, rfl, rfl⟩, hfaulted,
      (State.checked_state _ _ _).trans (hstate false), (State.checked_state _ _ _).trans (hstate true)⟩
  case ticks =>
    intro hdue hups
    refine ⟨_, heartbeatCheck_due hdue, ?_⟩
    rw [if_pos hups]
    exact ⟨⟨rfl, rfl, rfl⟩, rfl, rfl, rfl, rfl⟩
  case lag =>
    intro hlag hc hboth
    have hpair := hcalm hc hboth
    obtain ⟨hsw, hclaim, hdues, hold, hact, -, hquiet⟩ := State.activeFails_standby (s := s) 4 hpair.standby
    exact ⟨_, lagAlarm_hands hlag hpair, hsw, hclaim, hdues, (congrArg Conductor.state hold).trans hpair.active, hact, hquiet⟩
  case nolag => exact fun h => lagAlarm_none h
  case claim =>
    intro hsw hdue
    exact claimWrite_takes hsw hdue
  case noswitch =>
    intro hsw
    exact ⟨by rw [exec_claimWrite, execClaimWrite, hsw], by rw [exec_switchoverComplete, execSwitchoverComplete, hsw]⟩
  case switch =>
    intro hsw hdone hbound hforce
    obtain ⟨t, ht, hcond⟩ := switchoverComplete_spec hsw hdone hbound hforce
    obtain ⟨hcause, hnew, hgap, hheld⟩ := lastSwitchWord_fields w (s.cycle - w.decided)
    obtain ⟨hstate, hother, hrest, -, -⟩ := s.markFailed_spec (!w.newActive)
    have hstages := (congrArg Cond.stages hrest :)
    rw [Bool.not_not] at hother
    refine ⟨t, ht, ?_⟩
    rw [hcond]
    refine ⟨rfl, rfl, ?_, ?_, rfl, hcause, hnew, hgap, hheld, ?_⟩
    · exact congrArg Conductor.state ((Cond.of_congr _ rfl rfl).trans (Cond.of_modOf_self _ w.newActive _))
    · exact (congrArg Conductor.state ((Cond.of_congr _ rfl rfl).trans (Cond.of_modOf_not _ w.newActive _))).trans hstate
    · exact (congrArg Cond.stages (Cond.rest_modOf _ w.newActive _) :).trans hstages
  case tick =>
    intro hups
    rw [exec_umpireTick, execUmpireTick, hups]
    exact congrArg Host.Outcome.next (if_neg Bool.false_ne_true)
  case ticked =>
    intro hups
    rw [exec_umpireTick, execUmpireTick, hups]
    exact congrArg Host.Outcome.next (if_pos rfl)
  case ready =>
    intro hfail
    refine ⟨_, resyncReady_failed hfail, ?_⟩
    cases c <;> exact ⟨rfl, rfl, rfl, rfl⟩
  case snapshot =>
    intro hstate hready hfirst hmay
    obtain ⟨t, ht, hself, hother, hus, hseq⟩ := resyncSnapshotDone_returns (us := us) (Cond.returning_eq hstate hready hfirst) hmay
    exact ⟨t, ht, congrArg Conductor.state hself, congrArg Conductor.resyncReady hself, hother, hus, hseq⟩
  case bist =>
    intro hstand
    obtain ⟨t, ht, hindex, hnext, hfails, hquiet⟩ := standbyBist_spec (passed := passed) hstand
    exact ⟨t, ht, hindex, hnext, fun b hb => hfails ▸ bistFails_bit _ _ _ hb, hquiet⟩
  case report => exact healthReport_spec s k0 k1

end Sys2Proof.Machine
end

section
/-! PROOF. Wire tests, training frames and sidebands (R402 to R415). -/
namespace Sys2Proof.Machine

/-! ### What leaves the ends of the training units as they are -/

/-- The ends of the training units. -/
def State.ends (s : State) : Tbl TrainEnd := s.blv.ends

theorem State.ends_of_blv {s t : State} (h : t.blv = s.blv) : t.ends = s.ends := congrArg Boulevard.ends h

@[simp] theorem State.raise_ends (s : State) (code plaza unit : Nat) (detail : List Byte) : (s.raise code plaza unit detail).ends = s.ends := State.ends_of_blv (State.raise_blv ..)

@[simp] theorem State.pumpGo_ends (src dst w n : Nat) (s : State) : (pumpGo src dst w n s).ends = s.ends := by
  induction n generalizing s with
  | zero => rfl
  | succ n ih =>
    simp only [pumpGo]
    split
    · rfl
    · split
      · rfl
      · exact (ih _).trans rfl

@[simp] theorem State.sendFlit_ends (s : State) (src dst w header payload : Nat) : (s.sendFlit src dst w header payload).ends = s.ends := by
  unfold State.sendFlit
  split
  · rfl
  · exact (State.pumpGo_ends ..).trans rfl

theorem State.modLaneAt_ends (s : State) (rx : Bool) (plaza lane : Nat) (f : LaneGroup → LaneGroup) : (s.modLaneAt rx plaza lane f).ends = s.ends := rfl

theorem State.markDown_ends (s : State) (src dst w : Nat) (dark : Bool) : (s.markDown src dst w dark).ends = s.ends := by
  have hring : ∀ t : State, (t.ringsDown src dst w).ends = t.ends := fun t => by
    simp only [State.ringsDown, State.modLaneAt_ends]
  have hpass : ∀ t : State, (t.notPassing src dst).ends = t.ends := fun _ => rfl
  rw [State.markDown, hpass, hring]
  rfl

theorem State.moveWaiting_ends (s : State) (src dst w : Nat) : (s.moveWaiting src dst w).ends = s.ends := by
  unfold State.moveWaiting
  split <;> rfl

theorem State.streetDown_ends (s : State) (src dst : Nat) : (s.streetDown src dst).ends = s.ends := by
  refine State.ends_of_blv ?_
  unfold State.streetDown
  dsimp only
  (repeat' split) <;> simp only [State.fence_blv, State.endExec_blv, State.raise_blv]

theorem State.waveDown_ends (s : State) (src dst w : Nat) : (s.waveDown src dst w).ends = s.ends := by
  have hsent : ∀ (fs : List Flit) detail,
      (fs.foldl (fun t f => t.sendFlit src dst w (flitHeader f) (flitPayload f)) (((s.markDown src dst w false).moveWaiting src dst w).raise 0x2001 src w detail)).ends = s.ends :=
    fun fs detail => (proj_foldl State.ends _ _ _ (fun t f => t.sendFlit_ends ..)).trans
      ((State.raise_ends ..).trans ((State.moveWaiting_ends ..).trans (State.markDown_ends ..)))
  unfold State.waveDown
  dsimp only
  repeat' split
  · rfl
  · exact (State.streetDown_ends ..).trans (hsent _ _)
  · exact hsent _ _

theorem State.groupDown_ends (s : State) (p : Nat) (inbound : Bool) (g : Nat) : (s.groupDown p inbound g).ends = s.ends := by
  unfold State.groupDown
  dsimp only
  split
  · rfl
  · exact (proj_foldl State.ends _ _ _ (fun t w => t.waveDown_ends ..)).trans (State.raise_ends ..)

theorem State.rowFallback_ends (s : State) (r : PodRef) : (s.rowFallback r).ends = s.ends := by
  unfold State.rowFallback
  dsimp only
  split
  · exact State.raise_ends ..
  · rfl

theorem State.retirePod_ends (s : State) (n p : Nat) : (s.retirePod n p).ends = s.ends := by
  unfold State.retirePod
  dsimp only
  split
  · split
    · exact State.raise_ends ..
    · split
      · exact (State.ends_of_blv (State.hwFault_blv ..)).trans (State.raise_ends ..)
      · exact (State.ends_of_blv (State.fence_blv ..)).trans (State.raise_ends ..)
  · exact State.raise_ends ..

theorem State.positionLost_ends (s : State) (u : BondUnit) (pos : Nat) : (s.positionLost u pos).ends = s.ends := by
  cases u with
  | interface p i k => exact State.groupDown_ends ..
  | row r => exact State.rowFallback_ends ..
  | priv r =>
    rw [State.positionLost]
    by_cases hret : s.retired r.sh.val r.pod.val = true
    · rw [if_pos hret]
    · rw [if_neg hret]
      exact State.retirePod_ends ..

theorem State.resend_ends (s : State) (src dst w : Nat) (l : List (BitVec 5 × Flit)) : (s.resend src dst w l).ends = s.ends := by
  unfold State.resend
  exact (proj_foldl State.ends (fun t (e : BitVec 5 × Flit) => t.emit (.flit src dst w e.2)) l s (fun _ _ => rfl) :)

theorem State.resumeWaves_ends (s : State) (l : List (Nat × Nat × Nat)) : (s.resumeWaves l).ends = s.ends := by
  unfold State.resumeWaves
  exact proj_foldl State.ends _ _ _ (fun t w => (State.pumpGo_ends ..).trans (State.resend_ends ..))

/-- The group at a position of a trained unit carries data again: an interface group is no more disabled. -/
def State.groupUp (s : State) (u : BondUnit) (p : Nat) : State :=
  match u with
  | .interface q i k => { s with blv := { s.blv with groupsDown := s.blv.groupsDown.filter (fun x => x != groupIx q.val i (16 * k.val + p)) } }
  | _ => s

/-- One position of a trained unit as its map says. -/
def State.usePosition (u : BondUnit) (map : BitVec 16) (t : State) (p : Nat) : State :=
  if map.getLsbD p then (t.groupUp u p).resumeWaves (positionWaves u p) else t.positionLost u p

theorem State.usePosition_ends (u : BondUnit) (map : BitVec 16) (t : State) (p : Nat) : (t.usePosition u map p).ends = t.ends := by
  unfold State.usePosition
  split
  · refine (State.resumeWaves_ends ..).trans ?_
    cases u <;> rfl
  · exact State.positionLost_ends ..

/-- A bond group of a pod as the map of its unit says. -/
def State.useGroup (u : BondUnit) (r : PodRef) (map : BitVec 16) (t : State) (p : Nat) : State :=
  t.modSh r.sh.val (fun h => h.modBond r.pod.val (unitGroup u p) (fun b => { b with untrained := !map.getLsbD p, beyond := b.beyond && !map.getLsbD p }))

/-- ROW operations of a pod that waited for its row path go on. -/
def State.rowGoes (s : State) (r : PodRef) : State := s.modSh r.sh.val (fun h => { h with rowWaits := h.rowWaits.erase r.pod.val })

theorem State.useMap_interface (s : State) (q : PlazaNo) (i : Bool) (k : Fin 64) (map : BitVec 16) :
    s.useMap (.interface q i k) map = (upto (unitWidth (.interface q i k))).foldl (fun t p => t.usePosition (.interface q i k) map p) s := rfl

theorem State.useMap_priv (s : State) (r : PodRef) (map : BitVec 16) :
    s.useMap (.priv r) map = (upto (unitWidth (.priv r))).foldl (fun t p => t.usePosition (.priv r) map p)
      ((upto (unitWidth (.priv r))).foldl (fun t p => t.useGroup (.priv r) r map p) (s.rowGoes r)) := rfl

theorem State.useMap_row (s : State) (r : PodRef) (map : BitVec 16) :
    ∃ f, s.useMap (.row r) map =
      let t := (upto (unitWidth (.row r))).foldl (fun t p => t.usePosition (.row r) map p)
        ((upto (unitWidth (.row r))).foldl (fun t p => t.useGroup (.row r) r map p) (s.rowGoes r))
      if map = 0xFFFF then t.modPod r.sh.val r.pod.val f else t := ⟨_, rfl⟩

theorem State.usePositions_ends (s : State) (u : BondUnit) (map : BitVec 16) (l : List Nat) : (l.foldl (fun t p => t.usePosition u map p) s).ends = s.ends :=
  proj_foldl State.ends _ _ _ (fun t p => State.usePosition_ends u map t p)

theorem State.useGroups_ends (s : State) (u : BondUnit) (r : PodRef) (map : BitVec 16) (l : List Nat) :
    (l.foldl (fun t p => t.useGroup u r map p) (s.rowGoes r)).ends = s.ends :=
  (proj_foldl State.ends (fun t p => t.useGroup u r map p) _ _ (fun _ _ => rfl)).trans rfl

/-- Bringing a map into use changes no end. -/
theorem State.useMap_ends (s : State) (u : BondUnit) (map : BitVec 16) : (s.useMap u map).ends = s.ends := by
  cases u with
  | interface q i k =>
    rw [State.useMap_interface]
    exact State.usePositions_ends ..
  | priv r =>
    rw [State.useMap_priv]
    exact (State.usePositions_ends ..).trans (State.useGroups_ends ..)
  | row r =>
    obtain ⟨f, hf⟩ := s.useMap_row r map
    have hends := (State.usePositions_ends _ (.row r) map (upto (unitWidth (.row r)))).trans (s.useGroups_ends (.row r) r map (upto (unitWidth (.row r))))
    rw [hf]
    dsimp only
    split
    · exact hends
    · exact hends

/-! ### One end and both ends of a unit -/

theorem State.bondEnd_of_ends {s t : State} (h : t.ends = s.ends) (u : BondUnit) (e : Bool) : t.bondEnd u e = s.bondEnd u e := congrArg (Tbl.get · (b2n e * 2 ^ 24 + unitIx u)) h

theorem State.bondEnd_modEnd_self (s : State) (u : BondUnit) (e : Bool) (f : TrainEnd → TrainEnd) : (s.modEnd u e f).bondEnd u e = f (s.bondEnd u e) := Tbl.get_mod_self _ _ _

theorem unitIx_lt (u : BondUnit) : unitIx u < 2 ^ 24 := by
  cases u with
  | interface p i k =>
    have hbit : b2n i < 2 := by cases i <;> decide
    simp only [unitIx]
    omega
  | row r =>
    simp only [unitIx, podIx]
    omega
  | priv r =>
    simp only [unitIx, podIx]
    omega

theorem State.bondEnd_modEnd_ne (s : State) {u v : BondUnit} {e d : Bool} (f : TrainEnd → TrainEnd) (h : b2n d * 2 ^ 24 + unitIx v ≠ b2n e * 2 ^ 24 + unitIx u) :
    (s.modEnd u e f).bondEnd v d = s.bondEnd v d := Tbl.get_mod_ne _ _ h

/-- The two ends of a unit have keys of their own. -/
theorem endKey_ne (u v : BondUnit) {d e : Bool} (h : d ≠ e) : b2n d * 2 ^ 24 + unitIx v ≠ b2n e * 2 ^ 24 + unitIx u := by
  have hu := unitIx_lt u
  have hv := unitIx_lt v
  cases d <;> cases e <;> simp only [b2n] <;> simp at h ⊢ <;> omega

theorem State.bondEnd_modEnds (s : State) (u : BondUnit) (f : TrainEnd → TrainEnd) (e : Bool) : (s.modEnds u f).bondEnd u e = f (s.bondEnd u e) := by
  unfold State.modEnds
  cases e
  · rw [State.bondEnd_modEnd_ne _ _ (endKey_ne u u Bool.false_ne_true), State.bondEnd_modEnd_self]
  · rw [State.bondEnd_modEnd_self, State.bondEnd_modEnd_ne _ _ (endKey_ne u u Bool.false_ne_true.symm)]

/-- Where both ends of a unit change, another unit's ends change likewise (the same entry) or not at all. -/
theorem State.bondEnd_modEnds_cases (s : State) (u v : BondUnit) (f : TrainEnd → TrainEnd) (e : Bool) :
    (s.modEnds u f).bondEnd v e = f (s.bondEnd v e) ∨ (s.modEnds u f).bondEnd v e = s.bondEnd v e := by
  by_cases h : unitIx v = unitIx u
  · left
    have hsame : ∀ t : State, t.bondEnd v e = t.bondEnd u e := fun t => by unfold State.bondEnd; rw [h]
    rw [hsame, hsame]
    exact s.bondEnd_modEnds u f e
  · right
    have hne : ∀ d, b2n e * 2 ^ 24 + unitIx v ≠ b2n d * 2 ^ 24 + unitIx u := fun d => by
      by_cases hd : e = d
      · rw [hd]
        omega
      · exact endKey_ne u v hd
    exact (State.bondEnd_modEnd_ne _ _ (hne true)).trans (State.bondEnd_modEnd_ne _ _ (hne false))

/-! ### Attempts (R411 to R415) -/

/-- The end of a unit as an attempt begins. -/
def TrainEnd.begun (e : TrainEnd) (a : Nat) : TrainEnd :=
  { e with training := true, attempt := a, map := some 0, good := 0xFFFF, peer := none, sentDone := false, peerDone := false }

theorem State.bondEnd_beginAttempt (s : State) (u : BondUnit) (a : Nat) (e : Bool) : (s.beginAttempt u a).bondEnd u e = (s.bondEnd u e).begun a :=
  s.bondEnd_modEnds u (fun x => x.begun a) e

/-- A unit that carries its lane-zero group or nothing. -/
def TrainEnd.fallen (e : TrainEnd) (zero : Bool) : TrainEnd :=
  { e with map := some (if zero then 1 else 0), training := false, fallback := zero, down := !zero }

theorem State.bondEnd_unitDown (s : State) (u v : BondUnit) (e : Bool) :
    (s.unitDown u).bondEnd v e = (s.modEnds u (fun x => x.fallen false)).bondEnd v e :=
  State.bondEnd_of_ends ((State.useMap_ends ..).trans (State.raise_ends ..)) v e

theorem State.bondEnd_unitFallback (s : State) (u : BondUnit) (e : Bool) : (s.unitFallback u).bondEnd u e = (s.bondEnd u e).fallen true :=
  (State.bondEnd_of_ends ((State.useMap_ends ..).trans (State.raise_ends ..)) u e).trans (s.bondEnd_modEnds u (fun x => x.fallen true) e)

/-- A failed attempt: the next one begins, or after the third the unit falls to lane zero or is down. -/
theorem State.attemptFails_spec (s : State) (u : BondUnit) (e : Bool) :
    let a := max (s.bondEnd u false).attempt (s.bondEnd u true).attempt
    (a < 3 → (s.attemptFails u).bondEnd u e = (s.bondEnd u e).begun (a + 1)) ∧
    (3 ≤ a → (s.attemptFails u).bondEnd u e = (s.bondEnd u e).fallen ((s.bondEnd u false).good.getLsbD 0 && (s.bondEnd u true).good.getLsbD 0)) := by
  intro a
  have hraise : ∀ detail, (s.raise 0x8004 (unitPlaza u) (unitNo u) detail).bondEnd u e = s.bondEnd u e := fun detail => State.bondEnd_of_ends (State.raise_ends ..) u e
  unfold State.attemptFails
  refine ⟨fun h => ?_, fun h => ?_⟩
  · rw [if_pos h, State.bondEnd_beginAttempt, hraise]
  · rw [if_neg (Nat.not_lt.2 h)]
    by_cases hzero : ((s.bondEnd u false).good.getLsbD 0 && (s.bondEnd u true).good.getLsbD 0) = true
    · rw [if_pos hzero, hzero, State.bondEnd_unitFallback, hraise]
    · rw [if_neg hzero, Bool.eq_false_iff.2 hzero, State.bondEnd_unitDown, State.bondEnd_modEnds, hraise]

/-- A unit that is down stays down as another one goes down; the one that goes down is. -/
theorem State.unitsDown_fallen (l : List BondUnit) (s : State) (v : BondUnit) (e : Bool) :
    (v ∈ l ∨ (s.bondEnd v e).down = true ∧ (s.bondEnd v e).map = some 0 ∧ (s.bondEnd v e).training = false) →
    let x := (l.foldl State.unitDown s).bondEnd v e
    x.down = true ∧ x.map = some 0 ∧ x.training = false := by
  induction l generalizing s with
  | nil => exact fun h => h.resolve_left (List.not_mem_nil)
  | cons u l ih =>
    intro h
    refine ih (s.unitDown u) ?_
    by_cases hmem : v ∈ l
    · exact .inl hmem
    right
    rw [State.bondEnd_unitDown]
    obtain hin | hdown := h
    · obtain rfl := (List.mem_cons.1 hin).resolve_right hmem
      rw [State.bondEnd_modEnds]
      exact ⟨rfl, rfl, rfl⟩
    · obtain hx | hx := s.bondEnd_modEnds_cases u v (fun x => x.fallen false) e
      · rw [hx]
        exact ⟨rfl, rfl, rfl⟩
      · rw [hx]
        exact hdown

/-- A unit whose ends have exchanged DONE is trained by the AND of its two maps. -/
theorem State.bondEnd_trainedUnit (s : State) (u : BondUnit) (e : Bool) :
    (s.trainedUnit u).bondEnd u e = { s.bondEnd u e with map := some (((s.bondEnd u false).both).getD 0), training := false, fallback := false, down := false } :=
  (State.bondEnd_of_ends (State.useMap_ends ..) u e).trans
    (s.bondEnd_modEnds u (fun x => { x with map := some (((s.bondEnd u false).both).getD 0), training := false, fallback := false, down := false }) e)

/-! ### Frames (R409, R410) -/

theorem frameOk_iff (f : SideFrame) (k : Nat) :
    frameOk f k = true ↔ f.crc = crc16 (natBitsMsb 64 f.word.toNat) ∧ f.word.toNat / 2 ^ 60 = k ∧ f.word.toNat / 2 ^ 54 % 64 = unitField f.unit ∧ unitExists f.unit = true := by
  have htop : bitsOf f.word.toNat 60 4 = f.word.toNat / 2 ^ 60 := by
    rw [bitsOf_eq_div_mod]
    have := f.word.isLt
    omega
  simp only [frameOk, Bool.and_eq_true, beq_iff_eq, htop, bitsOf_eq_div_mod, and_assoc] <;> rfl

theorem sideWord_eq {k unit a m c : Nat} (arg : Nat) (hunit : unit < 64) (ha : a < 4) (hm : m < 2 ^ 16) (hc : c < 2 ^ 16) (harg : arg = 0) :
    sideWord k unit a m c arg = BitVec.ofNat 64 (k * 2 ^ 60 + unit * 2 ^ 54 + a * 2 ^ 52 + m * 2 ^ 36 + c * 2 ^ 20) := by
  subst harg
  rw [sideWord, Nat.mod_eq_of_lt hunit, Nat.mod_eq_of_lt ha, Nat.mod_eq_of_lt hm, Nat.mod_eq_of_lt hc, Nat.zero_mod, Nat.add_zero]

theorem sideWord_map {k unit a m : Nat} (hunit : unit < 64) (hm : m < 2 ^ 16) :
    sideWord k unit a m 0 0 = BitVec.ofNat 64 (k * 2 ^ 60 + unit * 2 ^ 54 + a % 4 * 2 ^ 52 + m * 2 ^ 36) := by
  have hzero : ∀ x n k l : Nat, x + 0 % n * k + 0 % l = x := fun x n k l => by simp
  exact congrArg (BitVec.ofNat 64) ((hzero _ _ _ _).trans (by rw [Nat.mod_eq_of_lt hunit, Nat.mod_eq_of_lt hm]))

theorem unitField_lt (u : BondUnit) : unitField u < 64 := by
  cases u with
  | interface p i k => exact k.isLt
  | row r => exact Nat.succ_pos 63
  | priv r => exact Nat.succ_pos 63

theorem frameAttempt_eq (f : SideFrame) : frameAttempt f = f.word.toNat / 2 ^ 52 % 4 := bitsOf_eq_div_mod _ _ _
theorem frameMap_eq (f : SideFrame) : frameMap f = BitVec.ofNat 16 (f.word.toNat / 2 ^ 36) := by
  rw [frameMap, bitsOf_eq_div_mod]
  exact BitVec.eq_of_toNat_eq (by simp only [BitVec.toNat_ofNat, Nat.mod_mod])
theorem frameCheck_eq (f : SideFrame) : frameCheck f = f.word.toNat / 2 ^ 20 % 2 ^ 16 := bitsOf_eq_div_mod _ _ _

theorem bondCheck_lt (u a m : Nat) : bondCheck u a m < 2 ^ 16 := by
  unfold bondCheck
  omega

/-- A frame of an attempt counts where its end trains and it names that attempt. -/
theorem frameTaken_iff (f : SideFrame) (k : Nat) (e : TrainEnd) :
    (frameOk f k && e.training && frameAttempt f == e.attempt) = true ↔ frameOk f k = true ∧ e.training = true ∧ f.word.toNat / 2 ^ 52 % 4 = e.attempt := by
  rw [frameAttempt_eq]
  simp only [Bool.and_eq_true, beq_iff_eq, and_assoc]

section Frames
variable {f : SideFrame} {s : State}

theorem mapFrame_none (h : ¬ (frameOk f 3 && (s.bondEnd f.unit f.far).training && frameAttempt f == (s.bondEnd f.unit f.far).attempt) = true) :
    exec (.mapFrame f) s = .next s := by
  rw [exec_mapFrame, execMapFrame]
  exact if_neg h

/-- MAP is answered by ECHO with the AND of both maps. -/
theorem mapFrame_taken (h : (frameOk f 3 && (s.bondEnd f.unit f.far).training && frameAttempt f == (s.bondEnd f.unit f.far).attempt) = true) :
    let e := s.bondEnd f.unit f.far
    let m := (e.good &&& frameMap f).toNat
    exec (.mapFrame f) s = .next ((s.modEnd f.unit f.far (fun x => { x with peer := some (frameMap f) })).emit
      (.sideband (sideWord 4 (unitField f.unit) e.attempt m (bondCheck (unitField f.unit) e.attempt m) 0))) := by
  rw [exec_mapFrame, execMapFrame]
  exact if_pos h

theorem echoFrame_noPeer (h : (s.bondEnd f.unit f.far).peer = none) : exec (.echoFrame f) s = .next s := by
  rw [exec_echoFrame, execEchoFrame]
  simp only [TrainEnd.both, h, Option.map_none]

theorem echoFrame_none (h : ¬ (frameOk f 4 && (s.bondEnd f.unit f.far).training && frameAttempt f == (s.bondEnd f.unit f.far).attempt) = true) :
    exec (.echoFrame f) s = .next s := by
  rw [exec_echoFrame, execEchoFrame]
  dsimp only
  split
  · rfl
  · exact if_neg h

theorem echoFrame_taken {p : BitVec 16} (hp : (s.bondEnd f.unit f.far).peer = some p)
    (h : (frameOk f 4 && (s.bondEnd f.unit f.far).training && frameAttempt f == (s.bondEnd f.unit f.far).attempt) = true) :
    let e := s.bondEnd f.unit f.far
    exec (.echoFrame f) s = if frameCheck f = bondCheck (unitField f.unit) e.attempt (e.good &&& p).toNat then
        .next ((s.modEnd f.unit f.far (fun x => { x with sentDone := true })).emit (.sideband (sideWord 5 (unitField f.unit) e.attempt 0 0 0)))
      else .next (s.attemptFails f.unit) := by
  rw [exec_echoFrame, execEchoFrame]
  simp only [TrainEnd.both, hp, Option.map_some]
  exact if_pos h

theorem doneFrame_none (h : ¬ (frameOk f 5 && (s.bondEnd f.unit f.far).training && frameAttempt f == (s.bondEnd f.unit f.far).attempt) = true) :
    exec (.doneFrame f) s = .next s := by
  rw [exec_doneFrame, execDoneFrame]
  exact if_neg h

theorem doneFrame_taken (h : (frameOk f 5 && (s.bondEnd f.unit f.far).training && frameAttempt f == (s.bondEnd f.unit f.far).attempt) = true) :
    let t := s.modEnd f.unit f.far (fun x => { x with peerDone := true })
    exec (.doneFrame f) s = .next (if (s.bondEnd f.unit f.far).sentDone && (s.bondEnd f.unit (!f.far)).sentDone then t.trainedUnit f.unit else t) := by
  rw [exec_doneFrame, execDoneFrame]
  exact if_pos h

/-- What the other end has received is not changed by DONE. -/
theorem State.both_peerDone (u : BondUnit) (far : Bool) : ((s.modEnd u far (fun x => { x with peerDone := true })).bondEnd u false).both = (s.bondEnd u false).both := by
  cases far
  · rw [State.bondEnd_modEnd_self]
    rfl
  · rw [State.bondEnd_modEnd_ne _ _ (endKey_ne u u Bool.false_ne_true)]

/-! TREQ (R411, R414) -/

/-- TREQ of one unit, at its end. -/
def State.treq (far : Bool) (t : State) (u : BondUnit) : State :=
  if (t.bondEnd u far).training && (t.bondEnd u (!far)).training && (t.bondEnd u far).attempt == 1 then t else t.retrain u

theorem treqFrame_none (h : ¬ frameOk f 1 = true) : exec (.treqFrame f) s = .next s := by
  rw [exec_treqFrame, execTreqFrame]
  exact if_neg h

/-- A TREQ whose ARG[0] is 0 is for its unit alone. -/
theorem treqFrame_unit (h : frameOk f 1 = true) (harg : f.word.toNat % 2 = 0) : exec (.treqFrame f) s = .next (s.treq f.far f.unit) := by
  have hbit : bitAt (frameArg f) 0 = false := by
    rw [bitAt, frameArg, bitsOf_eq_div_mod, bitsOf_eq_div_mod, show f.word.toNat / 2 ^ 0 % 2 ^ 20 / 2 ^ 0 % 2 ^ 1 = 0 by omega]
    rfl
  rw [exec_treqFrame, execTreqFrame, if_pos h]
  cases hu : f.unit with
  | interface p i k =>
    simp only [hbit, Bool.false_eq_true, if_false, List.foldl_cons, List.foldl_nil]
    rfl
  | row r => rfl
  | priv r => rfl

theorem State.forget_trainCount (s : State) (u : BondUnit) (far : Bool) : (s.forget u far).blv.trainCount = s.blv.trainCount := by
  unfold State.forget
  split
  · exact proj_foldl (fun t : State => t.blv.trainCount) _ _ _ (fun _ _ => rfl)
  · rfl

theorem State.retrain_spec {s : State} {u : BondUnit} (hex : unitExists u = true) :
    (s.retrain u).blv.trainCount = satAdd s.blv.trainCount 1 ∧ ∀ e, ∃ x : TrainEnd, (s.retrain u).bondEnd u e = ({ x with fallback := false, down := false } : TrainEnd).begun 1 := by
  let t := ((s.forget u false).forget u true).modEnds u (fun e => { e with fallback := false, down := false })
  have hre : s.retrain u = (t.beginAttempt u 1).pauseUnit u := if_pos hex
  have hpause : ∀ v : State, (v.pauseUnit u).ends = v.ends ∧ (v.pauseUnit u).blv.trainCount = v.blv.trainCount := fun v =>
    ⟨proj_foldl State.ends _ _ _ (fun _ _ => rfl), proj_foldl (fun t : State => t.blv.trainCount) _ _ _ (fun _ _ => rfl)⟩
  rw [hre]
  refine ⟨(hpause _).2.trans ?_, fun e => ⟨((s.forget u false).forget u true).bondEnd u e, ?_⟩⟩
  · refine congrArg (satAdd · 1) (?_ : t.blv.trainCount = s.blv.trainCount)
    exact (State.forget_trainCount ..).trans (State.forget_trainCount ..)
  · rw [State.bondEnd_of_ends (hpause _).1, State.bondEnd_beginAttempt]
    exact congrArg (TrainEnd.begun · 1) (State.bondEnd_modEnds _ u _ e)

/-! REPAIR (R409, R411) -/

theorem repairFrame_none (h : ¬ frameOk f 2 = true ∨ (s.bondEnd f.unit f.far).training = false) (words : List Word64) : exec (.repairFrame f words) s = .next s := by
  rw [exec_repairFrame, execRepairFrame]
  refine if_neg (fun hall => ?_)
  obtain ⟨hok, htrain⟩ := (Bool.and_eq_true ..).mp hall
  exact h.elim (fun h => h hok) (fun h => Bool.false_ne_true (h.symm.trans htrain))

theorem repairFrame_taken (hok : frameOk f 2 = true) (htrain : (s.bondEnd f.unit f.far).training = true) (words : List Word64) :
    exec (.repairFrame f words) s = .next (s.markAt f.unit f.far (f.word.toNat / 2 ^ 16 % 16) (wiresOf (f.word.toNat % 32) words)) := by
  have hpos : bitsOf (frameArg f) 16 4 = f.word.toNat / 2 ^ 16 % 16 := by
    rw [frameArg, bitsOf_eq_div_mod, bitsOf_eq_div_mod]
    omega
  have hcount : bitsOf (frameArg f) 0 5 = f.word.toNat % 32 := by
    rw [frameArg, bitsOf_eq_div_mod, bitsOf_eq_div_mod]
    omega
  rw [exec_repairFrame, execRepairFrame, hpos, hcount]
  exact if_pos ((Bool.and_eq_true ..).mpr ⟨hok, htrain⟩)

end Frames

/-! ### Repair maps (R401, R402) -/

/-- The wires of a list that a repair map does not mark yet. -/
def newWires (marked bad : List Nat) : List Nat := (bad.filter (fun w => !marked.contains w)).eraseDups

theorem State.markAt_pod {u : BondUnit} {r : PodRef} (hu : unitPod u = some r) (s : State) (far : Bool) (p : Nat) (bad : List Nat) :
    s.markAt u far p bad = s.modSh r.sh.val (fun h => h.modBond r.pod.val (unitGroup u p) (fun b => { b with fresh := b.fresh ++ newWires (s.markedAt u far p) bad })) := by
  unfold State.markAt
  rw [hu]
  rfl

theorem State.markAt_end {u : BondUnit} (hu : unitPod u = none) (s : State) (far : Bool) (p : Nat) (bad : List Nat) :
    s.markAt u far p bad = s.modEnd u far (fun e => { e with wires := e.wires.mod p (fun l => l ++ newWires (s.markedAt u far p) bad) }) := by
  unfold State.markAt
  rw [hu]
  rfl

theorem State.markedAt_pod {u : BondUnit} {r : PodRef} (hu : unitPod u = some r) (s : State) (far : Bool) (p : Nat) :
    s.markedAt u far p = ((s.shal r.sh.val).bond r.pod.val (unitGroup u p)).marked := by
  unfold State.markedAt
  rw [hu]

theorem State.markedAt_end {u : BondUnit} (hu : unitPod u = none) (s : State) (far : Bool) (p : Nat) :
    s.markedAt u far p = ((s.bondEnd u far).fused.get p ++ (s.bondEnd u far).wires.get p).eraseDups := by
  unfold State.markedAt
  rw [hu]

theorem Shallot.bond_modBond (h : Shallot) (p g : Nat) (f : BondGroup → BondGroup) : (h.modBond p g f).bond p g = f (h.bond p g) := Tbl.get_mod_self _ _ _

/-- Marking adds the new wires behind those that the map held. -/
theorem State.markedAt_markAt (s : State) (u : BondUnit) (far : Bool) (p : Nat) (bad : List Nat) :
    ∃ old : List Nat, s.markedAt u far p = old.eraseDups ∧ (s.markAt u far p bad).markedAt u far p = (old ++ newWires (s.markedAt u far p) bad).eraseDups := by
  cases hu : unitPod u with
  | none =>
    refine ⟨_, s.markedAt_end hu far p, ?_⟩
    rw [State.markedAt_end hu, State.markAt_end hu, State.bondEnd_modEnd_self, List.append_assoc]
    dsimp only
    rw [Tbl.get_mod_self]
  | some r =>
    refine ⟨_, s.markedAt_pod hu far p, ?_⟩
    rw [State.markedAt_pod hu, State.markAt_pod hu, State.modSh_shal_self, Shallot.bond_modBond, List.append_assoc]
    rfl

/-- A wire that is marked anew stands in the repair map, as does one that stood there. -/
theorem State.mem_markedAt_markAt (s : State) (u : BondUnit) (far : Bool) (p : Nat) {bad : List Nat} {w : Nat} (hw : w ∈ bad) : w ∈ (s.markAt u far p bad).markedAt u far p := by
  obtain ⟨old, hold, hnow⟩ := s.markedAt_markAt u far p bad
  rw [hnow, List.mem_eraseDups, List.mem_append]
  by_cases hmem : w ∈ s.markedAt u far p
  · rw [hold, List.mem_eraseDups] at hmem
    exact .inl hmem
  · refine .inr (List.mem_eraseDups.2 (List.mem_filter.2 ⟨hw, ?_⟩))
    rw [List.contains_eq_mem, decide_eq_false hmem]
    rfl

/-- Element `k` of lists of `m` elements put end to end. -/
theorem getElem?_flatMap_const {α β : Type} (f : α → List β) {m : Nat} (hpos : 0 < m) (hm : ∀ a, (f a).length = m) (l : List α) (k : Nat) :
    (l.flatMap f)[k]? = (l[k / m]?).bind (fun a => (f a)[k % m]?) := by
  induction l generalizing k with
  | nil => simp
  | cons a l ih =>
    rw [List.flatMap_cons]
    by_cases hk : k < m
    · rw [List.getElem?_append_left (by rw [hm]; exact hk), Nat.div_eq_of_lt hk, Nat.mod_eq_of_lt hk]
      rfl
    · obtain ⟨j, rfl⟩ := Nat.exists_eq_add_of_le (Nat.not_lt.1 hk)
      rw [List.getElem?_append_right (by rw [hm]; omega), hm, Nat.add_sub_cancel_left, ih, Nat.add_comm m j, Nat.add_div_right j hpos, Nat.add_mod_right]
      rfl

/-- Wire `k` of a REPAIR frame stands at 9 bits of word `k / 7`. -/
theorem mem_wiresOf {n k : Nat} {words : List Word64} (hk : k < n) (hword : k / 7 < words.length) :
    ((words[k / 7]?).getD 0).toNat / 2 ^ (9 * (k % 7)) % 512 ∈ wiresOf n words := by
  have hmod : k % 7 < 7 := Nat.mod_lt _ (by decide)
  refine List.mem_of_getElem? (i := k) ?_
  rw [wiresOf, List.getElem?_take_of_lt hk, getElem?_flatMap_const _ (m := 7) (by decide) (fun w => by simp [upto]), List.getElem?_eq_getElem hword]
  rw [Option.bind_some, Option.getD_some, List.getElem?_map, upto_eq_range, List.getElem?_range hmod, Option.map_some, bitsOf_eq_div_mod] <;> rfl

/-! ### The test of a suspect group (R405, R406) -/

/-- The unit of a pod's bond group, and its position there. -/
def groupUnit (r : PodRef) (g : Nat) : BondUnit := if g = 16 then .priv r else .row r
def groupPos (g : Nat) : Nat := if g = 16 then 0 else g

theorem groupUnit_pod (r : PodRef) (g : Nat) : unitPod (groupUnit r g) = some r := by
  unfold groupUnit
  split <;> rfl

theorem groupUnit_group (r : PodRef) (g : Nat) : unitGroup (groupUnit r g) (groupPos g) = g := by
  unfold groupUnit groupPos
  split
  · rename_i h
    exact h.symm
  · rfl

/-- The group is suspect no more, and `k` wires more are counted. -/
def State.tested (s : State) (r : PodRef) (g k : Nat) : State :=
  s.modSh r.sh.val (fun h => { h.modBond r.pod.val g (fun b => { b with suspect := false }) with rowRepairs := satAdd h.rowRepairs k })

theorem State.tested_spec (s : State) (r : PodRef) (g k : Nat) :
    ((s.tested r g k).shal r.sh.val).bond r.pod.val g = { (s.shal r.sh.val).bond r.pod.val g with suspect := false } ∧
    ((s.tested r g k).shal r.sh.val).rowRepairs = satAdd (s.shal r.sh.val).rowRepairs k := by
  unfold State.tested
  rw [State.modSh_shal_self]
  exact ⟨Shallot.bond_modBond _ _ _ _, rfl⟩

theorem podTest_eq (s : State) (r : PodRef) (g : Nat) (bad : List Nat) :
    s.podTest r g bad = (let new := newWires ((s.shal r.sh.val).bond r.pod.val g).marked bad
      let t := s.tested r g new.length
      if new.isEmpty then t else
        let v := ((t.markAt (groupUnit r g) false (groupPos g) new).raise 0x8001 r.sh.val r.pod.val [BitVec.ofNat 8 g]).logWires r.sh.val r.pod.val (podGroupIx r g) new
        if groupSpares g < (v.markedAt (groupUnit r g) false (groupPos g)).length then
          (v.modSh r.sh.val (fun h => h.modBond r.pod.val g (fun b => { b with beyond := true }))).positionLost (groupUnit r g) (groupPos g)
        else v) := by
  have hmark : s.markedAt (groupUnit r g) false (groupPos g) = ((s.shal r.sh.val).bond r.pod.val g).marked := by
    rw [State.markedAt_pod (groupUnit_pod r g), groupUnit_group]
  rw [← hmark]
  rfl

theorem eraseDups_sublist {α : Type} [BEq α] (l : List α) : l.eraseDups.Sublist l := by
  induction hn : l.length using Nat.strongRecOn generalizing l with
  | _ n ih =>
    cases l with
    | nil => exact .slnil
    | cons a as =>
      rw [List.eraseDups_cons]
      refine (List.Sublist.trans (ih _ ?_ _ rfl) List.filter_sublist).cons_cons a
      exact hn ▸ Nat.lt_succ_of_le (List.length_filter_le _ _)

theorem nodup_eraseDups (l : List Nat) : l.eraseDups.Nodup := by
  induction hn : l.length using Nat.strongRecOn generalizing l with
  | _ n ih =>
    cases l with
    | nil => exact List.nodup_nil
    | cons a as =>
      rw [List.eraseDups_cons]
      refine List.nodup_cons.2 ⟨fun hmem => ?_, ih _ (hn ▸ Nat.lt_succ_of_le (List.length_filter_le _ _)) _ rfl⟩
      have hne := (List.mem_filter.1 (List.mem_eraseDups.1 hmem)).2
      simp at hne

theorem eraseDups_of_nodup {l : List Nat} (h : l.Nodup) : l.eraseDups = l := by
  induction l with
  | nil => rfl
  | cons a as ih =>
    obtain ⟨ha, has⟩ := List.nodup_cons.1 h
    have hfilter : as.filter (fun b => !b == a) = as := List.filter_eq_self.2 (fun b hb => by
      rw [beq_eq_false_iff_ne.2 (show b ≠ a from fun h => ha (h ▸ hb))]
      rfl)
    rw [List.eraseDups_cons, hfilter, ih has]

/-- What is new stays new: it is asked for once. -/
theorem newWires_newWires (marked bad : List Nat) : newWires marked (newWires marked bad) = newWires marked bad := by
  have hkeep : (newWires marked bad).filter (fun w => !marked.contains w) = newWires marked bad :=
    List.filter_eq_self.2 (fun w hw => (List.mem_filter.1 (List.mem_eraseDups.1 hw)).2)
  conv =>
    lhs
    rw [newWires, hkeep]
  exact eraseDups_of_nodup (nodup_eraseDups _)

/-- A repair map grows by no more than the new wires. -/
theorem State.markedAt_markAt_length (s : State) (u : BondUnit) (far : Bool) (p : Nat) (bad : List Nat) :
    ((s.markAt u far p bad).markedAt u far p).length ≤ (s.markedAt u far p).length + (newWires (s.markedAt u far p) bad).length := by
  obtain ⟨old, hold, hnow⟩ := s.markedAt_markAt u far p bad
  rw [hnow, List.eraseDups_append, List.length_append, ← hold]
  exact Nat.add_le_add_left ((eraseDups_sublist _).trans List.filter_sublist).length_le _

/-- Nothing waits for the wire tests where no boundary is due. -/
theorem State.testsOver_none {s : State} (h : s.seq.boundaryDue = false) : s.testsOver = s := by
  unfold State.testsOver
  rw [h, Bool.false_and, Bool.false_and, if_neg Bool.false_ne_true]

/-- Non-volatile writes that start behind those that run. -/
def State.withNv (s : State) (l : List NvWrite) : State := { s with top := { s.top with nv := s.top.nv ++ l } }

theorem State.withNv_nil (s : State) : s.withNv [] = s := by
  rw [State.withNv, List.append_nil]

theorem State.nvStart_withNv (s : State) (w : NvWrite) (l : List NvWrite) : (s.nvStart w).withNv l = s.withNv (w :: l) :=
  congrArg (fun x => { s with top := { s.top with nv := x } } : List NvWrite → State) (List.append_cons s.top.nv w l).symm

/-- Writes of the repair log that start at once. -/
theorem State.logWires_open {s : State} (hopen : s.pp.nvOpen = true) (plaza unit group : Nat) (wires : List Nat) :
    s.logWires plaza unit group wires = s.withNv (wires.map (NvWrite.bondLog group)) := by
  have hfold : wires.foldl (fun (t : State) w => t.logWire group w) s = s.withNv (wires.map (NvWrite.bondLog group)) := by
    induction wires generalizing s with
    | nil => exact s.withNv_nil.symm
    | cons w l ih =>
      have hone : s.logWire group w = s.nvStart (.bondLog group w) := if_pos hopen
      rw [List.foldl_cons, hone, ih (s := s.nvStart (.bondLog group w)) hopen, State.nvStart_withNv]
      rfl
  unfold State.logWires
  rw [hfold, hopen, Bool.true_or, if_pos rfl]

theorem State.nvStarts_eq (l : List (Nat × Nat)) (s : State) :
    l.foldl (fun (t : State) (c : Nat × Nat) => t.nvStart (.bondLog c.1 c.2)) s = s.withNv (l.map (fun x => .bondLog x.1 x.2)) := by
  induction l generalizing s with
  | nil => exact s.withNv_nil.symm
  | cons c l ih =>
    rw [List.foldl_cons, ih, State.nvStart_withNv]
    rfl

/-- A test that finds nothing new clears SUSPECT. -/
theorem podTest_clean {s : State} {r : PodRef} {g : Nat} {bad : List Nat} (hnew : newWires ((s.shal r.sh.val).bond r.pod.val g).marked bad = []) :
    s.podTest r g bad = s.tested r g 0 := by
  rw [podTest_eq, hnew]
  rfl

/-- The tested group with its new wires marked. -/
def State.repaired (s : State) (r : PodRef) (g : Nat) (new : List Nat) : State :=
  (s.tested r g new.length).modSh r.sh.val (fun h => h.modBond r.pod.val g (fun b => { b with fresh := b.fresh ++ new }))

theorem State.repaired_spec (s : State) (r : PodRef) (g : Nat) (new : List Nat) :
    let b := (s.shal r.sh.val).bond r.pod.val g
    ((s.repaired r g new).shal r.sh.val).bond r.pod.val g = { b with suspect := false, fresh := b.fresh ++ new } ∧
    ((s.repaired r g new).shal r.sh.val).rowRepairs = satAdd (s.shal r.sh.val).rowRepairs new.length ∧
    (s.repaired r g new).top = s.top ∧ (s.repaired r g new).ev = s.ev ∧ (s.repaired r g new).seq = s.seq := by
  obtain ⟨hbond, hcount⟩ := s.tested_spec r g new.length
  refine ⟨?_, ?_, rfl, rfl, rfl⟩
  · rw [State.repaired, State.modSh_shal_self, Shallot.bond_modBond, hbond]
  · rw [State.repaired, State.modSh_shal_self, ← hcount]
    rfl

/-- A test that finds new wires within the spares, while the log can be written: they are marked, and their writes start. -/
theorem podTest_repairs {s : State} {r : PodRef} {g : Nat} {bad new : List Nat} (hnew : newWires ((s.shal r.sh.val).bond r.pod.val g).marked bad = new) (hne : new ≠ [])
    (hspare : (((s.shal r.sh.val).bond r.pod.val g).marked ++ new).length ≤ groupSpares g) (hopen : s.pp.nvOpen = true) :
    s.podTest r g bad = ((s.repaired r g new).raise
      0x8001 r.sh.val r.pod.val [BitVec.ofNat 8 g]).withNv (new.map (NvWrite.bondLog (podGroupIx r g))) := by
  let t := s.tested r g new.length
  have hold : t.markedAt (groupUnit r g) false (groupPos g) = ((s.shal r.sh.val).bond r.pod.val g).marked := by
    rw [State.markedAt_pod (groupUnit_pod r g), groupUnit_group, (s.tested_spec r g new.length).1]
    rfl
  have hagain : newWires (t.markedAt (groupUnit r g) false (groupPos g)) new = new := by
    rw [hold, ← hnew]
    exact newWires_newWires _ _
  have hmark : t.markAt (groupUnit r g) false (groupPos g) new =
      s.repaired r g new := by
    rw [State.markAt_pod (groupUnit_pod r g), groupUnit_group, hagain, State.repaired]
  have hlen := t.markedAt_markAt_length (groupUnit r g) false (groupPos g) new
  rw [hagain, hold, ← List.length_append] at hlen
  rw [podTest_eq, hnew]
  dsimp only
  rw [if_neg (by rw [List.isEmpty_iff]; exact hne), hmark, State.logWires_open (by rw [State.raise_pp]; exact hopen), if_neg]
  rw [hmark] at hlen
  refine Nat.not_lt.2 (Nat.le_trans (Nat.le_of_eq ?_) (Nat.le_trans hlen hspare))
  rw [State.markedAt_pod (groupUnit_pod r g), State.markedAt_pod (groupUnit_pod r g)]
  exact congrArg (fun x => ((Tbl.get x r.sh.val).bond r.pod.val (unitGroup (groupUnit r g) (groupPos g))).marked.length) (State.raise_sh ..)

/-! ### The test of a unit in training (R411) -/

theorem State.goodMap_bit (s : State) (u : BondUnit) (far : Bool) {p : Nat} (hp : p < 16) :
    (s.goodMap u far).getLsbD p = (decide (p < unitWidth u) && decide ((s.markedAt u far p).length ≤ unitSpares u)) := by
  have hbit : ∀ b : Bool, (b2n b).testBit 0 = b := fun b => by cases b <;> rfl
  rw [State.goodMap, BitVec.getLsbD_ofNat, packN_testBit 1 Nat.one_pos, Nat.div_one, Nat.mod_one, hbit, decide_eq_true hp,
    Bool.true_and, Bool.true_and]

/-- The maps of a unit's ends rest on the ends and the shallots alone. -/
theorem State.markedAt_congr {s t : State} (hends : t.ends = s.ends) (hsh : t.sh = s.sh) (u : BondUnit) (far : Bool) (p : Nat) : t.markedAt u far p = s.markedAt u far p := by
  have hend := State.bondEnd_of_ends hends u far
  have hshal : ∀ n, t.shal n = s.shal n := fun n => State.shal_of_sh hsh n
  unfold State.markedAt
  simp only [hend, hshal]

theorem State.markAt_training (s : State) (u : BondUnit) (far : Bool) (p : Nat) (bad : List Nat) :
    ((s.markAt u far p bad).bondEnd u far).training = (s.bondEnd u far).training := by
  cases hu : unitPod u with
  | none => rw [State.markAt_end hu, State.bondEnd_modEnd_self]
  | some r => rw [State.markAt_pod hu]; rfl

/-- The lane-good map of an end is stored there, and its repair map stays. -/
theorem State.markedAt_good (s : State) (u : BondUnit) (far : Bool) (m : BitVec 16) (p : Nat) :
    (s.modEnd u far (fun e => { e with good := m })).markedAt u far p = s.markedAt u far p := by
  cases hu : unitPod u with
  | none => rw [State.markedAt_end hu, State.markedAt_end hu, State.bondEnd_modEnd_self]
  | some r => rw [State.markedAt_pod hu, State.markedAt_pod hu]; rfl

/-- A REPAIR frame and its words for one position. -/
def State.sendRepair (u : BondUnit) (far : Bool) (t : State) (p : Nat) : State :=
  (repairWords (t.markedAt u far p)).foldl (fun (t : State) x => t.emit (.sideband x))
    (t.emit (.sideband (sideWord 2 (unitField u) 0 0 0 (p * 2 ^ 16 + (t.markedAt u far p).length))))

theorem State.sendRepair_keeps (u : BondUnit) (far : Bool) (t : State) (p : Nat) : (t.sendRepair u far p).ends = t.ends ∧ (t.sendRepair u far p).sh = t.sh :=
  ⟨proj_foldl State.ends (fun (t : State) x => t.emit (.sideband x)) _ _ (fun _ _ => rfl), proj_foldl State.sh (fun (t : State) x => t.emit (.sideband x)) _ _ (fun _ _ => rfl)⟩

theorem trainTest_eq {s : State} {u : BondUnit} {far : Bool} (bad : List (List Nat)) (htrain : (s.bondEnd u far).training = true) :
    ∃ changed : List Nat, s.trainTest u far bad =
      let t := (upto (unitWidth u)).foldl (fun (t : State) p => t.markAt u far p ((bad[p]?).getD [])) s
      let v := changed.foldl (fun t p => t.sendRepair u far p) (t.modEnd u far (fun e => { e with good := t.goodMap u far }))
      v.emit (.sideband (sideWord 3 (unitField u) (s.bondEnd u far).attempt (t.goodMap u far).toNat 0 0)) := ⟨_, if_pos htrain⟩

theorem trainTest_spec {s : State} {u : BondUnit} {far : Bool} (bad : List (List Nat)) (htrain : (s.bondEnd u far).training = true) :
    let t := s.trainTest u far bad
    ∃ m, (t.bondEnd u far).good = m ∧ (t.bondEnd u far).training = true ∧
      (∀ p, p < 16 → m.getLsbD p = (decide (p < unitWidth u) && decide ((t.markedAt u far p).length ≤ unitSpares u))) ∧
      t.out.getLast? = some (.sideband (sideWord 3 (unitField u) (s.bondEnd u far).attempt m.toNat 0 0)) := by
  obtain ⟨changed, heq⟩ := trainTest_eq bad htrain
  rw [heq]
  generalize ht : (upto (unitWidth u)).foldl (fun (t : State) p => t.markAt u far p ((bad[p]?).getD [])) s = t
  have htt : (t.bondEnd u far).training = true := by
    rw [← ht, proj_foldl (fun v : State => (v.bondEnd u far).training) _ _ _ (fun v p => v.markAt_training u far p _)]
    exact htrain
  dsimp only
  generalize hv : changed.foldl (fun t p => t.sendRepair u far p) (t.modEnd u far (fun e => { e with good := t.goodMap u far })) = v
  have hends : v.ends = (t.modEnd u far (fun e => { e with good := t.goodMap u far })).ends := by
    rw [← hv]
    exact proj_foldl State.ends _ _ _ (fun v p => (State.sendRepair_keeps u far v p).1)
  have hsh : v.sh = (t.modEnd u far (fun e => { e with good := t.goodMap u far })).sh := by
    rw [← hv]
    exact proj_foldl State.sh _ _ _ (fun v p => (State.sendRepair_keeps u far v p).2)
  have hend : (v.emit (.sideband (sideWord 3 (unitField u) (s.bondEnd u far).attempt (t.goodMap u far).toNat 0 0))).bondEnd u far =
      { t.bondEnd u far with good := t.goodMap u far } := (State.bondEnd_of_ends hends u far).trans (t.bondEnd_modEnd_self u far _)
  refine ⟨_, rfl, ?_, fun p hp => ?_, ?_⟩
  · rw [hend]
    exact htt
  · rw [hend, t.goodMap_bit u far hp]
    have hmarked := (State.markedAt_congr (t := v.emit (.sideband (sideWord 3 (unitField u) (s.bondEnd u far).attempt (t.goodMap u far).toNat 0 0))) hends hsh u far p).trans
      (t.markedAt_good u far _ p)
    rw [hmarked]
  · rw [hend]
    exact List.getLast?_concat

/-- Settles O35: the tests, the frames of an attempt and its ends, put together. -/
theorem bondTraining : Obligations.BondTraining := by
  unfold Obligations.BondTraining
  intro r g bad tests u far f words b s n bond wires new me type counts attempt map check word mod fails
  have hcounts : ∀ k, frameOk f k = true ↔ counts k := frameOk_iff f
  have htaken : ∀ k, (frameOk f k && me.training && frameAttempt f == me.attempt) = true ↔ counts k ∧ me.training = true ∧ attempt = me.attempt := fun k => by
    rw [frameTaken_iff, hcounts]
  have hnot : ∀ k, (¬ counts k ∨ me.training = false ∨ attempt ≠ me.attempt) → ¬ (frameOk f k && me.training && frameAttempt f == me.attempt) = true := fun k h hall => by
    obtain ⟨hc, ht, ha⟩ := (htaken k).1 hall
    exact h.elim (fun h => h hc) (fun h => h.elim (fun h => Bool.false_ne_true (h.symm.trans ht)) (fun h => h ha))
  have hlt : attempt < 4 := Nat.mod_lt _ (by decide)
  have hfails : ∀ {c : Instr} {u : BondUnit}, exec c s = .next (s.attemptFails u) → fails c u := fun {c u} hexec => by
    refine ⟨fun ha => ⟨_, hexec, fun e => ?_⟩, fun ha => ⟨_, hexec, fun e => ?_⟩⟩
    · rw [(s.attemptFails_spec u e).1 ha]
      exact ⟨rfl, rfl, rfl, rfl⟩
    · rw [(s.attemptFails_spec u e).2 ha]
      exact ⟨rfl, rfl, rfl, rfl⟩
  refine ⟨?unsuspected, ?clean, ?repairs, ?untrained, ?training, ?noRetry, ?retry, ?refused, fun h => treqFrame_none (mt (hcounts 1).1 h), ?treq, ?noRepair, ?repair,
    fun h => mapFrame_none (hnot 3 h), ?map, ?noEcho, ?echo, fun h => doneFrame_none (hnot 5 h), ?done, ?idle, ?timeout, ?follows, ?moves, ?down⟩
  case unsuspected =>
    intro hs
    rw [exec_wireTestDone, execWireTestDone]
    exact if_neg (fun h => Bool.false_ne_true (hs.symm.trans h))
  case clean =>
    intro hs hbound hnew
    obtain ⟨hbond, hcount⟩ := s.tested_spec r g.val 0
    rw [exec_wireTestDone, execWireTestDone, if_pos hs, podTest_clean hnew, State.testsOver_none (s := s.tested r g.val 0) hbound]
    exact ⟨_, rfl, hbond, hcount, rfl, rfl⟩
  case repairs =>
    intro hs hbound hne hspare hopen
    have hnew : newWires ((s.shal r.sh.val).bond r.pod.val g.val).marked (bad.map Fin.val) = new := rfl
    obtain ⟨hbond, hcount, htop, hev, hseq⟩ := s.repaired_spec r g.val new
    generalize hv : s.repaired r g.val new = v at *
    rw [exec_wireTestDone, execWireTestDone, if_pos hs, podTest_repairs hnew hne hspare hopen, hv, State.testsOver_none]
    · have hshal : ∀ code plaza unit detail nv, (((v.raise code plaza unit detail).withNv nv).shal n) = v.shal n := fun code plaza unit detail nv =>
        State.shal_of_sh (State.raise_sh v code plaza unit detail) n
      refine ⟨_, rfl, ?_, ?_, ?_, ?_, ?_⟩
      · rw [hshal, hbond]
      · rw [hshal, hcount]
      · refine (List.length_append ..).trans ?_
        rw [List.length_map, State.raise_top, htop]
      · exact (State.raise_head ..).trans (by rw [hev])
      · exact (State.raise_seq ..).trans hseq
    · exact (congrArg StepSeq.boundaryDue ((State.raise_seq ..).trans hseq)).trans hbound
  case untrained =>
    intro ht
    rw [exec_wireTestDone, execWireTestDone]
    exact congrArg Host.Outcome.next (if_neg (fun h => Bool.false_ne_true (ht.symm.trans h)))
  case training =>
    intro ht
    obtain ⟨m, hgood, htrain, hbits, hlast⟩ := trainTest_spec (tests.map (fun l => l.map Fin.val)) ht
    refine ⟨_, m, exec_wireTestDone .., hgood, htrain, hbits, hlast.trans ?_⟩
    rw [sideWord_map (unitField_lt u) m.isLt]
  case noRetry =>
    intro h
    rw [exec_bondLogRetry, execBondLogRetry, h]
    rfl
  case retry =>
    intro hne hopen
    rw [exec_bondLogRetry, execBondLogRetry, if_neg (by rw [List.isEmpty_iff]; exact hne), if_pos hopen, State.nvStarts_eq]
    rfl
  case refused =>
    intro hne hopen
    rw [exec_bondLogRetry, execBondLogRetry, if_neg (by rw [List.isEmpty_iff]; exact hne), hopen, if_neg Bool.false_ne_true]
    obtain ⟨-, hblocked, hkeep⟩ := s.nvRefuse_spec
    have hsame := hkeep s.host s.ev s.out s.pp
    exact ⟨_, rfl, hblocked, (congrArg State.blv hsame :), (congrArg State.top hsame :)⟩
  case treq =>
    intro hc harg
    have hunit := treqFrame_unit (s := s) ((hcounts 1).2 hc) harg
    refine ⟨fun hrun => ?_, fun hidle => ?_⟩
    · obtain ⟨hme, hother, hatt⟩ := hrun
      rw [hunit, State.treq, if_pos (by rw [show (s.bondEnd f.unit f.far).training = true from hme, hother, show (s.bondEnd f.unit f.far).attempt = 1 from hatt]; rfl)]
    · have hre : s.treq f.far f.unit = s.retrain f.unit := if_neg (by rw [show (s.bondEnd f.unit f.far).training = false from hidle]; exact Bool.false_ne_true)
      obtain ⟨hcount, hends⟩ := State.retrain_spec (s := s) hc.2.2.2
      rw [hre] at hunit
      refine ⟨_, hunit, hcount, fun e => ?_⟩
      obtain ⟨x, hx⟩ := hends e
      rw [hx]
      exact ⟨rfl, rfl, rfl, rfl, rfl, rfl⟩
  case noRepair => exact fun h => repairFrame_none (h.imp_left (mt (hcounts 2).1)) words
  case repair =>
    intro hc ht
    refine ⟨_, repairFrame_taken ((hcounts 2).2 hc) ht words, ?_⟩
    rintro k w hk hword rfl
    exact State.mem_markedAt_markAt _ _ _ _ (mem_wiresOf hk hword)
  case map =>
    intro hc ht ha
    rw [mapFrame_taken ((htaken 3).2 ⟨hc, ht, ha⟩), frameMap_eq, sideWord_eq 0 (unitField_lt _) (ha ▸ hlt) (BitVec.isLt _) (bondCheck_lt _ _ _) rfl]
    rfl
  case noEcho =>
    rintro (hp | h)
    · exact echoFrame_noPeer hp
    · exact echoFrame_none (hnot 4 h)
  case echo =>
    intro p hp hc ht ha
    have hecho := echoFrame_taken hp ((htaken 4).2 ⟨hc, ht, ha⟩)
    rw [frameCheck_eq] at hecho
    refine ⟨fun heq => ?_, fun hne => hfails (hecho.trans (if_neg hne))⟩
    refine (hecho.trans (if_pos heq)).trans ?_
    rw [sideWord_eq 0 (unitField_lt _) (ha ▸ hlt) (Nat.two_pow_pos 16) (Nat.two_pow_pos 16) rfl]
  case done =>
    intro hc ht ha
    have hdone := doneFrame_taken ((htaken 5).2 ⟨hc, ht, ha⟩)
    refine ⟨fun hsent => ?_, fun hsent hother p hp => ?_⟩
    · rw [hdone, if_neg]
      intro hboth
      obtain ⟨hs, ho⟩ := (Bool.and_eq_true ..).mp hboth
      exact hsent.elim (fun h => Bool.false_ne_true (h.symm.trans hs)) (fun h => Bool.false_ne_true (h.symm.trans ho))
    · rw [hdone, if_pos ((Bool.and_eq_true ..).mpr ⟨hsent, hother⟩)]
      refine ⟨_, rfl, fun e => ?_⟩
      rw [State.bondEnd_trainedUnit, State.both_peerDone, TrainEnd.both, hp]
      exact ⟨rfl, rfl, rfl⟩
  case idle =>
    intro h0 h1
    rw [exec_trainTimeout, execTrainTimeout, h0, h1]
    exact congrArg Host.Outcome.next (if_neg Bool.false_ne_true)
  case timeout =>
    intro htrain
    refine hfails (c := .trainTimeout u) (u := u) ?_
    rw [exec_trainTimeout, execTrainTimeout, if_pos ((Bool.or_eq_true ..).mpr htrain)]
  case follows => exact exec_sidebandClockStop ..
  case moves =>
    intro p
    rw [exec_sidebandClockStop, execSidebandClockStop, if_neg Bool.false_ne_true]
    refine ⟨_, rfl, ?_⟩
    dsimp only
    by_cases hsame : p.val = s.blv.sideband.get (sideIx b)
    · rw [if_pos hsame, if_pos hsame]
      exact ⟨rfl, (BitVec.add_zero _).symm⟩
    · rw [if_neg hsame, if_neg hsame]
      exact ⟨State.raise_blv .., State.raise_head ..⟩
  case down =>
    intro v hv
    refine ⟨_, exec_sidebandClockStop .., fun e => ?_⟩
    exact State.unitsDown_fallen (sideUnits b) s v e (.inl hv)

end Sys2Proof.Machine
end

section
/-! PROOF. Sub-ports, routes, frames, neighbour solicitation and time (R291 to R297, R307, R313, R315). -/
namespace Sys2Proof.Machine

/-! ### What a frame that leaves does not change -/

theorem State.sendNet_routes (s : State) (sub kind dst : Nat) (bytes : List Byte) : (s.sendNet sub kind dst bytes).net.routes = s.net.routes := by
  unfold State.sendNet State.sendFrame
  split
  · rfl
  · unfold State.leave
    split <;> rfl

theorem State.sendTo_routes (s : State) (dest kind : Nat) (bytes : List Byte) : (s.sendTo dest kind bytes).net.routes = s.net.routes := by
  unfold State.sendTo
  split
  · rfl
  · exact State.sendNet_routes ..

/-- The routes, with the state and the secrets of the package. -/
def State.routing (s : State) : Tbl RouteState × Top × Sec := (s.net.routes, s.top, s.sec)

theorem State.sendTo_routing (s : State) (dest kind : Nat) (bytes : List Byte) : (s.sendTo dest kind bytes).routing = s.routing := by
  unfold State.routing
  rw [State.sendTo_routes, State.sendTo_top, State.sendTo_sec]

theorem State.resendSched_routing (s : State) (dest : Nat) (x : SchedOut) : (s.resendSched dest x).routing = s.routing := by
  unfold State.resendSched
  split
  · rfl
  · exact (s.sendTo_routing ..)

theorem State.resendReach_routing (s : State) (r : ReachReq) : (s.resendReach r).routing = s.routing := by
  unfold State.resendReach
  split
  · rfl
  · exact State.sendTo_routing ..

/-- A destination that moves to a route has it active, and no other destination's route changes. -/
theorem State.moveRoute_routing (s : State) (dest r : Nat) :
    (s.moveRoute dest r).routing = (s.net.routes.set dest { active := r, moves := min ((s.net.routes.get dest).moves + 1) 0xFFFF }, s.top, s.sec) := by
  unfold State.moveRoute State.resendAll
  refine (proj_foldl State.routing _ _ _ (fun t x => State.resendReach_routing t x)).trans ?_
  refine (proj_foldl State.routing _ _ _ (fun t x => State.resendSched_routing t dest x)).trans ?_
  unfold State.routing
  rw [State.raise_net, State.raise_top, State.raise_sec]

/-! ### A table's only entry under a key -/

theorem Tbl.find?_of_wf {α : Type} [DecidableEq α] [Inhabited α] {t : Tbl α} {k : Nat} {v : α} (hwf : t.wf = true) (hmem : (k, v) ∈ t.cells) :
    t.cells.find? (fun c => c.1 == k) = some (k, v) := by
  obtain ⟨c, hc⟩ := Option.isSome_iff_exists.1 ((List.find?_isSome (p := fun c : Nat × α => c.1 == k)).2 ⟨(k, v), hmem, beq_self_eq_true k⟩)
  have hkey : c.1 = k := beq_iff_eq.1 (List.find?_some hc :)
  have hval : c.2 = v := by
    rw [← t.get_of_mem hwf (List.mem_of_find?_eq_some hc), hkey]
    exact t.get_of_mem hwf hmem
  rw [hc, ← hkey, ← hval]

/-! ### Links (R291 to R293) -/

theorem netLinkDown_already {s : State} {sub : SubPortNo} {fec : Nat} {lanes : BitVec 8} (hup : (s.net.ports.get sub.val).up = false) :
    exec (.netLinkDown sub fec lanes) s = .next ((s.modPort sub.val (fun p => { p with fec := satAdd p.fec fec, up := false, macsec := false })).portLanes sub.val lanes) := by
  rw [exec_netLinkDown, execNetLinkDown, hup]
  exact if_neg Bool.false_ne_true

/-- Without an image no destination has a route. -/
theorem State.routeDests_none {s : State} (h : s.img.image = none) : s.routeDests = [] := by
  unfold State.routeDests
  rw [h]

theorem netLinkDown_up {s : State} {sub : SubPortNo} {fec : Nat} {lanes : BitVec 8} (hup : (s.net.ports.get sub.val).up = true) (himg : s.img.image = none) :
    exec (.netLinkDown sub fec lanes) s =
      .next (((s.modPort sub.val (fun p => { p with fec := satAdd p.fec fec, up := false, macsec := false })).portLanes sub.val lanes).portEvent 0x5001 sub.val) := by
  rw [exec_netLinkDown, execNetLinkDown, if_pos hup]
  dsimp only
  rw [State.routeDests_none]
  · rfl
  · exact (congrArg Loader.image (State.raise_img ..)).trans himg

theorem netLinkUp_none {s : State} {sub : SubPortNo} {lanes : BitVec 8} {macsec : Bool}
    (h : (s.net.ports.get sub.val).up = true ∨ s.linksMay = false ∨ s.subExists sub.val = false ∨ (macsec = false ∧ s.macsecOn sub.val = true)) :
    exec (.netLinkUp sub lanes macsec) s = .next s := by
  rw [exec_netLinkUp, execNetLinkUp]
  refine if_neg (fun hall => ?_)
  simp only [Bool.and_eq_true, Bool.or_eq_true, Bool.not_eq_true'] at hall
  obtain ⟨⟨⟨hmay, hex⟩, hdown⟩, hmac⟩ := hall
  simp_all

theorem netLinkUp_taken {s : State} {sub : SubPortNo} {lanes : BitVec 8} {macsec : Bool} (hup : (s.net.ports.get sub.val).up = false) (hmay : s.linksMay = true)
    (hex : s.subExists sub.val = true) (hmac : macsec = true ∨ s.macsecOn sub.val = false) (himg : s.img.image = none) :
    exec (.netLinkUp sub lanes macsec) s =
      .next (((s.modPort sub.val (fun p => { p with macsec := macsec, up := true, upAt := s.top.now, lastPn := {}, txPn := 0 })).portLanes sub.val lanes).portEvent 0x5002 sub.val) := by
  have hall : (s.linksMay && s.subExists sub.val && !(s.net.ports.get sub.val).up && (macsec || !s.macsecOn sub.val)) = true := by
    simp only [hmay, hex, hup, Bool.and_eq_true, Bool.or_eq_true, Bool.not_eq_true', and_self, true_and]
    exact hmac
  rw [exec_netLinkUp, execNetLinkUp, if_pos hall]
  dsimp only
  rw [State.routeDests_none]
  · rfl
  · exact (congrArg Loader.image (State.raise_img ..)).trans himg

/-! ### Routes (R307) -/

/-- Is route `r` of a destination better than the active one, with a sub-port that has been up for 1 s? -/
def State.routeFit (s : State) (dest r : Nat) : Prop :=
  r < 5 ∧ r < (s.net.routes.get dest).active ∧ ∃ i e, s.img.image = some i ∧ (i.routes.get dest)[r]? = some e ∧ (s.net.ports.get e.subport).up = true ∧
    (s.net.ports.get e.subport).upAt + 1000000000 ≤ s.top.now

/-- The model's test of a route. -/
def State.routeOk (s : State) (dest r : Nat) : Bool :=
  s.routeUp dest r && (match (s.img.image.bind (fun i => (i.routes.get dest)[r]?)) with
    | some e => decide ((s.net.ports.get e.subport).upAt + 1000000000 ≤ s.top.now)
    | none => false)

theorem State.routeOk_iff (s : State) (dest r : Nat) : s.routeOk dest r = true ↔
    ∃ i e, s.img.image = some i ∧ (i.routes.get dest)[r]? = some e ∧ (s.net.ports.get e.subport).up = true ∧ (s.net.ports.get e.subport).upAt + 1000000000 ≤ s.top.now := by
  unfold State.routeOk State.routeUp
  cases himg : s.img.image with
  | none => simp
  | some i =>
    cases hroute : (i.routes.get dest)[r]? with
    | none => simp [hroute]
    | some e => simp [hroute]

/-- The first route that fits. -/
def State.bestRoute (s : State) (dest : Nat) : Option Nat := (upto (min 5 (s.net.routes.get dest).active)).find? (s.routeOk dest)

theorem State.bestRoute_none {s : State} {dest : Nat} (h : ∀ r, ¬ s.routeFit dest r) : s.bestRoute dest = none := by
  refine List.find?_eq_none.2 (fun r hr hok => h r ?_)
  obtain ⟨h5, hact⟩ := Nat.lt_min.1 ((upto_mem ..).1 hr)
  exact ⟨h5, hact, (s.routeOk_iff dest r).1 hok⟩

theorem State.bestRoute_some {s : State} {dest r : Nat} (hfit : s.routeFit dest r) (hfirst : ∀ q, q < r → ¬ s.routeFit dest q) : s.bestRoute dest = some r := by
  obtain ⟨h5, hact, hok⟩ := hfit
  rw [State.bestRoute, upto_eq_range, List.find?_range_eq_some]
  refine ⟨(s.routeOk_iff dest r).2 hok, List.mem_range.2 (Nat.lt_min.2 ⟨h5, hact⟩), fun q hq => ?_⟩
  rw [Bool.not_eq_true', Bool.eq_false_iff]
  exact fun hqok => hfirst q hq ⟨Nat.lt_trans hq h5, Nat.lt_trans hq hact, (s.routeOk_iff dest q).1 hqok⟩

theorem routeRestore_eq (s : State) (dest : Fin 2048) :
    exec (.routeRestore dest) s = if s.atBoundary then (match s.bestRoute dest.val with | some r => .next (s.moveRoute dest.val r) | none => .next s) else .next s := by
  rw [exec_routeRestore, execRouteRestore]
  rfl

theorem routeRestore_none {s : State} {dest : Fin 2048} (h : s.atBoundary = false ∨ ∀ r, ¬ s.routeFit dest.val r) : exec (.routeRestore dest) s = .next s := by
  rw [routeRestore_eq]
  obtain hbound | hfit := h
  · rw [hbound, if_neg Bool.false_ne_true]
  · rw [State.bestRoute_none hfit]
    exact ite_self _

theorem routeRestore_moves {s : State} {dest : Fin 2048} {r : Nat} (hbound : s.atBoundary = true) (hfit : s.routeFit dest.val r) (hfirst : ∀ q, q < r → ¬ s.routeFit dest.val q) :
    exec (.routeRestore dest) s = .next (s.moveRoute dest.val r) := by
  rw [routeRestore_eq, State.bestRoute_some hfit hfirst, if_pos hbound]

/-! ### Frames received (R294, R295, R313) -/

/-- The state once a frame is counted at its sub-port. -/
def State.rxSeen (s : State) (n : Nat) : State := s.modPort n (fun p => { p with rx := satAdd p.rx 1 })

/-- Does the package take a frame of this kind in its state? -/
def State.takesFrame (s : State) (f : RxEth) : Bool := s.netOpen || (s.top.state == .idle && f.ptp)

/-- Does a frame fail its secure channel: by its check, or by a packet number that was seen under this key? -/
def SubPort.replays (p : SubPort) (f : RxEth) : Bool :=
  !f.macOk || (!f.newKey && match p.lastPn.cells.find? (fun c => c.1 == 2 * f.sc.val + f.an.val) with | some c => decide (f.pn ≤ c.2) | none => false)

theorem State.netOpen_iff (s : State) : s.netOpen = true ↔ s.top.state = .loaded ∨ s.top.state = .running := by
  simp only [State.netOpen, Bool.or_eq_true, beq_iff_eq]

theorem State.takesFrame_iff (s : State) (f : RxEth) :
    s.takesFrame f = true ↔ s.top.state = .loaded ∨ s.top.state = .running ∨ (s.top.state = .idle ∧ f.ptp = true) := by
  simp only [State.takesFrame, Bool.or_eq_true, s.netOpen_iff, Bool.and_eq_true, beq_iff_eq, or_assoc]

theorem State.port_modPort_self (s : State) (n : Nat) (g : SubPort → SubPort) : (s.modPort n g).net.ports.get n = g (s.net.ports.get n) := Tbl.get_mod_self _ _ _

theorem State.port_modPort_ne (s : State) {n k : Nat} (g : SubPort → SubPort) (h : k ≠ n) : (s.modPort n g).net.ports.get k = s.net.ports.get k := Tbl.get_mod_ne _ _ h

/-- The state once a frame is discarded at its sub-port. -/
theorem State.rxDrop_eq (s : State) (n : Nat) : s.rxDrop n = s.modPort n (fun p => { p with drops := satAdd p.drops 1 }) := rfl

theorem State.modPort_rest (s : State) (n : Nat) (g : SubPort → SubPort) (x : Net) : { s.modPort n g with net := x } = { s with net := x } := rfl

section Rx
variable {s : State} {sub : SubPortNo} {f : RxEth}

theorem rxFrame_down (hup : (s.net.ports.get sub.val).up = false) : exec (.rxFrame sub f) s = .next s := by
  rw [exec_rxFrame, execRxFrame, hup]
  rfl

/-- A frame that is taken passes the first checks. -/
theorem State.frameGood (hgood : s.takesFrame f = true ∧ f.len ≤ 9216 ∧ f.fcsOk = true) : (!s.takesFrame f || decide (9216 < f.len) || !f.fcsOk) = false := by
  obtain ⟨htakes, hlen, hfcs⟩ := hgood
  rw [htakes, hfcs, decide_eq_false (Nat.not_lt.2 hlen)]
  rfl

variable (hup : (s.net.ports.get sub.val).up = true)
include hup

theorem rxFrame_refused (h : ¬ (s.takesFrame f = true ∧ f.len ≤ 9216 ∧ f.fcsOk = true)) : exec (.rxFrame sub f) s = .next ((s.rxSeen sub.val).rxDrop sub.val) := by
  have hbad : (!s.takesFrame f || decide (9216 < f.len) || !f.fcsOk) = true := by
    refine Decidable.byContradiction fun hno => ?_
    simp only [Bool.or_eq_true, Bool.not_eq_true', decide_eq_true_eq, not_or, Nat.not_lt, Bool.not_eq_false] at hno
    exact h ⟨hno.1.1, hno.1.2, hno.2⟩
  rw [exec_rxFrame, execRxFrame, hup]
  exact if_pos hbad

variable (hgood : s.takesFrame f = true ∧ f.len ≤ 9216 ∧ f.fcsOk = true)
include hgood

/-- A frame that is taken meets its secure channel, and goes by its kind after it. -/
theorem rxFrame_good :
    exec (.rxFrame sub f) s = (let t := s.rxSeen sub.val
      if t.macsecOn sub.val && (t.net.ports.get sub.val).replays f then .next (t.macsecFail sub.val)
      else
        let t := if t.macsecOn sub.val then t.modPort sub.val (fun p => { p with lastPn := p.lastPn.set (2 * f.sc.val + f.an.val) f.pn }) else t
        if f.ptp then .next t else if !f.ipv6 then .next (t.rxDrop sub.val)
        else if t.ownAddress f.dst then .next (if f.badOp && t.claimed 2 0x11 sub.val then t.badPacket (sub.val / 64) else t)
        else match t.destOf f.dst with
          | some d => .next (t.sendTo d 7 f.payload)
          | none => .next (t.rxDrop sub.val)) := by
  rw [exec_rxFrame, execRxFrame, hup]
  exact if_neg (Bool.eq_false_iff.1 (State.frameGood hgood))

theorem rxFrame_macsec (hmac : s.macsecOn sub.val = true) (hfail : (s.net.ports.get sub.val).replays f = true) :
    exec (.rxFrame sub f) s = .next ((s.rxSeen sub.val).macsecFail sub.val) := by
  have hseen : ((s.rxSeen sub.val).net.ports.get sub.val).replays f = true := by
    rw [State.rxSeen, State.port_modPort_self]
    exact hfail
  rw [rxFrame_good hup hgood]
  exact if_pos ((Bool.and_eq_true ..).mpr ⟨hmac, hseen⟩)

variable (hmac : s.macsecOn sub.val = false)
include hmac

/-- A frame that is taken where MACSEC is off goes by its kind. -/
theorem rxFrame_clear :
    exec (.rxFrame sub f) s = (let t := s.rxSeen sub.val
      if f.ptp then .next t else if !f.ipv6 then .next (t.rxDrop sub.val)
      else if s.ownAddress f.dst then .next (if f.badOp && s.claimed 2 0x11 sub.val then t.badPacket (sub.val / 64) else t)
      else match s.destOf f.dst with
        | some d => .next (t.sendTo d 7 f.payload)
        | none => .next (t.rxDrop sub.val)) := by
  have hseen : (s.rxSeen sub.val).macsecOn sub.val = false := hmac
  rw [rxFrame_good hup hgood]
  dsimp only
  rw [hseen, Bool.false_and, if_neg Bool.false_ne_true, if_neg Bool.false_ne_true]
  rfl

theorem rxFrame_ptp (hptp : f.ptp = true) : exec (.rxFrame sub f) s = .next (s.rxSeen sub.val) := by
  rw [rxFrame_clear hup hgood hmac]
  exact if_pos hptp

theorem rxFrame_own (hptp : f.ptp = false) (hv6 : f.ipv6 = true) (hown : s.ownAddress f.dst = true) : exec (.rxFrame sub f) s =
    .next (if f.badOp = true ∧ s.claimed 2 0x11 sub.val = true then (s.rxSeen sub.val).modGw (sub.val / 64) (fun w => { w with badPackets := satAdd w.badPackets 1 })
      else s.rxSeen sub.val) := by
  rw [rxFrame_clear hup hgood hmac]
  dsimp only
  rw [hptp, hv6, hown]
  simp only [Bool.false_eq_true, if_false, Bool.not_true, if_true, Bool.and_eq_true]
  rfl

theorem rxFrame_lost (hptp : f.ptp = false) (h : f.ipv6 = false ∨ (s.ownAddress f.dst = false ∧ s.destOf f.dst = none)) :
    exec (.rxFrame sub f) s = .next ((s.rxSeen sub.val).rxDrop sub.val) := by
  rw [rxFrame_clear hup hgood hmac]
  dsimp only
  rw [hptp, if_neg Bool.false_ne_true]
  obtain hv4 | ⟨hown, hdest⟩ := h
  · rw [hv4]
    rfl
  · rw [hown, hdest, if_neg Bool.false_ne_true]
    exact ite_self _

theorem rxFrame_forwards {d : Nat} (hptp : f.ptp = false) (hv6 : f.ipv6 = true) (hown : s.ownAddress f.dst = false) (hdest : s.destOf f.dst = some d) :
    exec (.rxFrame sub f) s = .next ((s.rxSeen sub.val).sendTo d 7 f.payload) := by
  rw [rxFrame_clear hup hgood hmac]
  dsimp only
  rw [hptp, hv6, hown, hdest]
  rfl

end Rx

/-- A frame that is counted and discarded. -/
theorem State.rxDrop_spec (s : State) (n : Nat) :
    let t := (s.rxSeen n).rxDrop n
    let p := s.net.ports.get n
    t.net.ports.get n = { p with rx := satAdd p.rx 1, drops := satAdd p.drops 1 } ∧ t.out = s.out ∧ { t with net := s.net } = s ∧ ∀ k, k ≠ n → t.net.ports.get k = s.net.ports.get k := by
  rw [State.rxDrop_eq, State.rxSeen]
  refine ⟨?_, rfl, ?_, fun k hk => ?_⟩
  · rw [State.port_modPort_self, State.port_modPort_self]
  · rw [State.modPort_rest, State.modPort_rest]
  · rw [State.port_modPort_ne _ _ hk, State.port_modPort_ne _ _ hk]

/-- A failure of a secure channel: discarded, and raised at most once in a second. -/
theorem State.macsecFail_spec (s : State) (n : Nat) :
    let t := s.macsecFail n
    let p := s.net.ports.get n
    (t.net.ports.get n).drops = satAdd p.drops 1 ∧ (t.net.ports.get n).lastPn = p.lastPn ∧ (p.macsecSec = some s.second → t.ev = s.ev) ∧
      (p.macsecSec ≠ some s.second → t.ev.head = s.ev.head + 1) := by
  unfold State.macsecFail
  rw [State.rxDrop_eq]
  by_cases hsec : (s.net.ports.get n).macsecSec = some s.second
  · rw [if_pos hsec]
    dsimp only
    rw [State.port_modPort_self]
    exact ⟨rfl, rfl, fun _ => rfl, fun h => absurd hsec h⟩
  · rw [if_neg hsec, State.portEvent]
    dsimp only
    rw [State.raise_net, State.port_modPort_self, State.port_modPort_self, State.raise_head]
    exact ⟨rfl, rfl, fun h => absurd h hsec, fun _ => rfl⟩

/-! ### Neighbour solicitation (R294, R313) -/

/-- In IDLE, LOADED and RUNNING the ports carry solicitations and time. -/
theorem State.ptpOpen_iff (s : State) : s.ptpOpen = true ↔ s.top.state = .loaded ∨ s.top.state = .running ∨ s.top.state = .idle := by
  simp only [State.ptpOpen, Bool.or_eq_true, s.netOpen_iff, beq_iff_eq, or_assoc]

section Solicitation
variable {s : State} {sub : SubPortNo} {target : BitVec 128}

theorem neighborSolicitation_none (h : ¬ s.ptpOpen = true ∨ s.ownAddress target = false) : exec (.neighborSolicitation sub target) s = .next s := by
  rw [exec_neighborSolicitation, execNeighborSolicitation]
  refine if_neg (fun hall => ?_)
  obtain ⟨hopen, hown⟩ := (Bool.and_eq_true ..).mp hall
  exact h.elim (fun h => h hopen) (fun h => Bool.false_ne_true (h.symm.trans hown))

variable (hopen : s.ptpOpen = true) (hown : s.ownAddress target = true) (hup : (s.net.ports.get sub.val).up = true)
include hopen hown

theorem neighborSolicitation_answered : exec (.neighborSolicitation sub target) s = .next (s.sendNet sub.val 6 0 (leBytes 16 target.toNat)) := by
  rw [exec_neighborSolicitation, execNeighborSolicitation]
  exact if_pos ((Bool.and_eq_true ..).mpr ⟨hopen, hown⟩)

include hup

theorem neighborSolicitation_frozen (hfreeze : s.egressFrozen sub.val = true) : exec (.neighborSolicitation sub target) s =
    .next { s with net := { s.net with egress := s.net.egress ++ [{ sub := sub.val, kind := 6, bytes := leBytes 16 target.toNat }] } } := by
  rw [neighborSolicitation_answered hopen hown, State.sendNet, State.sendFrame]
  exact congrArg Host.Outcome.next (if_pos ((Bool.and_eq_true ..).mpr ⟨hup, hfreeze⟩))

theorem neighborSolicitation_leaves (hfreeze : s.egressFrozen sub.val = false) : exec (.neighborSolicitation sub target) s =
    .next ((s.modPort sub.val (fun p => { p with tx := satAdd p.tx 1, txPn := p.txPn + (if p.macsec then 1 else 0) })).emit
      (.net (sub.val / 64) (sub.val % 64) 6 0 (leBytes 16 target.toNat))) := by
  have hmay : s.mayLeave { sub := sub.val, kind := 6, bytes := leBytes 16 target.toNat } = true := by
    rw [State.ptpOpen, Bool.or_eq_true] at hopen
    rw [State.mayLeave, Bool.or_eq_true]
    exact hopen
  rw [neighborSolicitation_answered hopen hown, State.sendNet, State.sendFrame]
  refine congrArg Host.Outcome.next ((if_neg ?_).trans ?_)
  · rw [hfreeze, Bool.and_false]
    exact Bool.false_ne_true
  · exact if_pos ((Bool.and_eq_true ..).mpr ⟨hup, hmay⟩)

end Solicitation

/-! ### Time (R297, R315) -/

theorem State.gw_modGw_self (s : State) (g : Nat) (f : Gateway → Gateway) : (s.modGw g f).net.gw.get g = f (s.net.gw.get g) := Tbl.get_mod_self _ _ _

theorem State.gw_modGw_ne (s : State) {g k : Nat} (f : Gateway → Gateway) (h : k ≠ g) : (s.modGw g f).net.gw.get k = s.net.gw.get k := Tbl.get_mod_ne _ _ h

theorem State.modGw_rest (s : State) (g : Nat) (f : Gateway → Gateway) (x : Net) : { s.modGw g f with net := x } = { s with net := x } := rfl

theorem ptpMessage_taken {s : State} {sub : SubPortNo} (offset : Word) (hopen : s.ptpOpen = true) (hclaim : s.claimed 2 0x10 sub.val = true)
    (hup : (s.net.ports.get sub.val).up = true) (hrole : (s.net.gw.get (sub.val / 64)).ptpMaster = false) :
    exec (.ptpMessage sub true offset) s = .next ((({ s with net := { s.net with timeOffset := s.net.timeOffset - offset.toInt / 1000 } } : State).modGw (1 - sub.val / 64)
      (fun w => { w with ptpPort := 0xF, ptpLocked := false })).modGw (sub.val / 64)
      (fun w => { w with ptpOffset := offset, ptpPort := BitVec.ofNat 4 (sub.val % 64 / 8), ptpSub := sub.val, ptpLocked := true })) := by
  rw [exec_ptpMessage, execPtpMessage]
  exact if_pos (by rw [hopen, hclaim, hup, hrole]; rfl)

theorem ptpMessage_other (s : State) (sub : SubPortNo) (offset : Word) : exec (.ptpMessage sub false offset) s = .next s := by
  rw [exec_ptpMessage, execPtpMessage]
  exact if_neg Bool.false_ne_true

theorem ptpLost_none {s : State} (h0 : (s.net.gw.get 0).ptpLocked = false) (h1 : (s.net.gw.get 1).ptpLocked = false) : exec .ptpLost s = .next s := by
  have hfind : (upto 2).find? (fun g => (s.net.gw.get g).ptpLocked) = none := by
    simp [upto_eq_range, List.range_succ, h0, h1]
  rw [exec_ptpLost, execPtpLost, hfind]

theorem ptpLost_first {s : State} (h0 : (s.net.gw.get 0).ptpLocked = true) :
    exec .ptpLost s = .next ((s.modGw 0 (fun w => { w with ptpLocked := false })).portEvent 0x5005 (s.net.gw.get 0).ptpSub) := by
  have hfind : (upto 2).find? (fun g => (s.net.gw.get g).ptpLocked) = some 0 := by
    simp [upto_eq_range, List.range_succ, h0]
  rw [exec_ptpLost, execPtpLost, hfind]

theorem ppsEdge_none {s : State} (h : s.ppsIn = false ∨ ¬ s.ptpOpen = true) : exec .ppsEdge s = .next s := by
  rw [exec_ppsEdge, execPpsEdge]
  refine if_neg (fun hall => ?_)
  obtain ⟨hpps, hopen⟩ := (Bool.and_eq_true ..).mp hall
  exact h.elim (fun h => Bool.false_ne_true (h.symm.trans hpps)) (fun h => h hopen)

/-- The nearest second is a whole one, half a second away at the most. -/
theorem nearestSecond_spec (t : Nat) : nearestSecond t % 1000000000 = 0 ∧ ((nearestSecond t : Int) - t).natAbs ≤ 500000000 := by
  unfold nearestSecond
  omega

theorem ppsEdge_aligns {s : State} (hpps : s.ppsIn = true) (hopen : s.ptpOpen = true) :
    ∃ t, exec .ppsEdge s = .next t ∧ (t.net.timeOffset + s.top.now) % 1000000000 = 0 ∧ (t.net.timeOffset + s.top.now - (s.ptpTime : Int)).natAbs ≤ 500000000 ∧
      (t.net.gw.get 0).ptpMaster = true ∧ (t.net.gw.get 1).ptpMaster = true ∧ { t with net := s.net } = s := by
  obtain ⟨hwhole, hnear⟩ := nearestSecond_spec s.ptpTime
  let u : State := { s with net := { s.net with timeOffset := (nearestSecond s.ptpTime : Int) - (s.top.now : Int) } }
  let master := fun (w : Gateway) => { w with ptpMaster := true, ptpPort := 0xF, ptpLocked := false }
  have hexec : exec .ppsEdge s = .next ((u.modGw 0 master).modGw 1 master) := by
    rw [exec_ppsEdge, execPpsEdge]
    exact if_pos ((Bool.and_eq_true ..).mpr ⟨hpps, hopen⟩)
  have hoff : ((u.modGw 0 master).modGw 1 master).net.timeOffset + s.top.now = nearestSecond s.ptpTime := by
    change (nearestSecond s.ptpTime : Int) - (s.top.now : Int) + s.top.now = _
    omega
  refine ⟨_, hexec, ?_, ?_, ?_, ?_, ?_⟩
  · rw [hoff]
    omega
  · rw [hoff]
    exact hnear
  · rw [State.gw_modGw_ne _ _ (by decide), State.gw_modGw_self]
  · rw [State.gw_modGw_self]
  · rw [State.modGw_rest, State.modGw_rest]

/-- Settles O38: the laws of links, routes, frames and time, put together. -/
theorem network : Obligations.Network := by
  unfold Obligations.Network
  intro sub fec lanes macsec dest f target offset s n p port seen taken good drops clear aligned open_ g
  have hgood : good ↔ s.takesFrame f = true ∧ f.len ≤ 9216 ∧ f.fcsOk = true := by rw [s.takesFrame_iff]
  have hopen : open_ ↔ s.ptpOpen = true := s.ptpOpen_iff.symm
  have hdrops : drops ((s.rxSeen n).rxDrop n) := by
    obtain ⟨hport, hout, hrest, hne⟩ := s.rxDrop_spec n
    exact ⟨(congrArg SubPort.rx hport :), (congrArg SubPort.drops hport :), (congrArg SubPort.up hport :), hout, hrest, hne⟩
  refine ⟨fun hup => netLinkDown_already hup, fun hup himg => netLinkDown_up hup himg, fun h => netLinkUp_none h,
    fun hup hmay hex hmac himg => netLinkUp_taken hup hmay hex hmac himg, ⟨fun h => routeRestore_none h, ?restore⟩, fun hup => rxFrame_down hup,
    fun hup hbad => ⟨_, rxFrame_refused hup (mt hgood.2 hbad), hdrops⟩, fun hup hg hm hptp => rxFrame_ptp hup (hgood.1 hg) hm hptp,
    fun hup hg hm hptp hv6 hown => rxFrame_own hup (hgood.1 hg) hm hptp hv6 hown, fun hup hg hm hptp h => ⟨_, rxFrame_lost hup (hgood.1 hg) hm hptp h, hdrops⟩,
    fun d hup hg hm hptp hv6 hown hdest => rxFrame_forwards hup (hgood.1 hg) hm hptp hv6 hown hdest, ?macsec,
    fun ho hown hup hf => neighborSolicitation_frozen (hopen.1 ho) hown hup hf, fun ho hown hup hf => neighborSolicitation_leaves (hopen.1 ho) hown hup hf,
    fun h => neighborSolicitation_none (h.imp_left (mt hopen.2)), ?ptp, ptpMessage_other s sub offset, fun h0 h1 => ptpLost_none h0 h1, ?lost,
    fun hpps ho => ppsEdge_aligns hpps (hopen.1 ho), fun h => ppsEdge_none (h.imp_right (mt hopen.2))⟩
  case restore =>
    intro r hbound hfit hfirst
    have hmoved := s.moveRoute_routing dest.val r
    have hroutes := congrArg Prod.fst hmoved
    refine ⟨_, routeRestore_moves hbound hfit hfirst, ?_, fun d hd => ?_, congrArg (fun x => x.2.1) hmoved, congrArg (fun x => x.2.2) hmoved⟩
    · exact (congrArg (fun t : Tbl RouteState => (t.get dest.val).active) hroutes).trans (by rw [Tbl.get_set_self])
    · exact (congrArg (fun t : Tbl RouteState => t.get d) hroutes).trans (Tbl.get_set_ne _ _ hd)
  case macsec =>
    intro hup hg hmac hfail
    have hreplays : p.replays f = true := by
      rw [SubPort.replays, Bool.or_eq_true, Bool.not_eq_true', Bool.and_eq_true, Bool.not_eq_true']
      refine hfail.imp_right (fun hseen => ?_)
      obtain ⟨pn, hmem, hwf, hnew, hle⟩ := hseen
      rw [Tbl.find?_of_wf hwf hmem]
      exact ⟨hnew, decide_eq_true hle⟩
    obtain ⟨hdrop, hpn, hquiet, hloud⟩ := (s.rxSeen n).macsecFail_spec n
    have hport : (s.rxSeen n).net.ports.get n = { p with rx := satAdd p.rx 1 } := s.port_modPort_self n _
    rw [hport] at hdrop hpn hquiet hloud
    exact ⟨_, rxFrame_macsec hup (hgood.1 hg) hmac hreplays, hdrop, hpn, hquiet, hloud⟩
  case ptp =>
    intro ho hclaim hup hrole hlt
    refine ⟨_, ptpMessage_taken offset (hopen.1 ho) hclaim hup hrole, rfl, ?_⟩
    rw [State.gw_modGw_self, State.gw_modGw_ne _ _ (show 1 - g ≠ g by omega), State.gw_modGw_self, State.modGw_rest, State.modGw_rest]
    exact ⟨rfl, rfl, rfl, rfl, rfl, rfl⟩
  case lost =>
    intro h0 hlt
    rw [ptpLost_first h0, State.portEvent, Nat.div_eq_of_lt hlt]

end Sys2Proof.Machine
end

section
/-! PROOF. The scheduled network and the service endpoint (R299 to R304, R309 to R312). -/
namespace Sys2Proof.Machine

/-! ### Windows (R300, R301) -/

theorem State.sendTo_sched (s : State) (dest kind : Nat) (bytes : List Byte) :
    (s.sendTo dest kind bytes).net.schedOut = s.net.schedOut ∧ (s.sendTo dest kind bytes).net.schedBusy = s.net.schedBusy := by
  unfold State.sendTo State.sendNet State.sendFrame State.leave
  split
  · exact ⟨rfl, rfl⟩
  · split
    · exact ⟨rfl, rfl⟩
    · split <;> exact ⟨rfl, rfl⟩

/-- Is the window of a stream open, on a route that is up and not frozen? -/
def State.windowOpen (s : State) (st : Stream) (e : RouteEntry) : Prop :=
  s.netOpen = true ∧ st.start ≤ s.gatePeriod st ∧ s.gatePeriod st < st.start + st.length ∧ (s.net.ports.get e.subport).up = true ∧ (!s.egressFrozen e.subport) = true

/-- The packets that go out in the rest of a window. -/
def State.windowGo (s : State) (st : Stream) (e : RouteEntry) : List SchedOut :=
  fitWindow (s.net.ports.get e.subport).macsec (512 * s.windowLeft st) (s.net.schedOut.filter (fun x => x.stream == st.num && x.unsent))

/-- The state once the packets of a window have left. -/
def State.windowSent (s : State) (st : Stream) (e : RouteEntry) : State :=
  let t := (s.windowGo st e).foldl (fun t x => t.sendSched st.peer x) s
  { t with net := { t.net with
    schedOut := t.net.schedOut.map (fun x => if (s.windowGo st e).contains x then { x with unsent := false } else x),
    schedBusy := t.net.schedBusy.set st.num (max s.netPeriod (s.net.schedBusy.get st.num) + cdiv (wireTotal (s.net.ports.get e.subport).macsec (s.windowGo st e)) 512) } }

section Window
variable {s : State} {num : Half}

theorem schedWindow_noStream (h : s.stream num.toNat 0 = none) : exec (.schedWindow num) s = .next s := by
  rw [exec_schedWindow, execSchedWindow, h]

variable {st : Stream}

theorem schedWindow_noRoute (hst : s.stream num.toNat 0 = some st) (h : s.routeOf st.peer = none) : exec (.schedWindow num) s = .next s := by
  rw [exec_schedWindow, execSchedWindow, hst]
  dsimp only
  rw [h]

variable {e : RouteEntry}

theorem schedWindow_closed (hst : s.stream num.toNat 0 = some st) (he : s.routeOf st.peer = some e) (h : ¬ s.windowOpen st e) : exec (.schedWindow num) s = .next s := by
  rw [exec_schedWindow, execSchedWindow, hst]
  dsimp only
  rw [he]
  exact if_neg h

theorem schedWindow_open (hst : s.stream num.toNat 0 = some st) (he : s.routeOf st.peer = some e) (h : s.windowOpen st e) :
    exec (.schedWindow num) s = .next (s.windowSent st e) := by
  rw [exec_schedWindow, execSchedWindow, hst]
  dsimp only
  rw [he]
  exact if_pos h

/-- No packet goes where its window gives no way. -/
theorem schedWindow_none (h : s.stream num.toNat 0 = none ∨ ¬ s.netOpen = true) : exec (.schedWindow num) s = .next s := by
  cases hst : s.stream num.toNat 0 with
  | none => exact schedWindow_noStream hst
  | some st =>
    cases he : s.routeOf st.peer with
    | none => exact schedWindow_noRoute hst he
    | some e => exact schedWindow_closed hst he (fun ho => h.elim (fun h => nomatch hst.symm.trans h) (fun h => h ho.1))

theorem schedWindow_blocked (hst : s.stream num.toNat 0 = some st)
    (h : s.gatePeriod st < st.start ∨ st.start + st.length ≤ s.gatePeriod st ∨ s.routeOf st.peer = none ∨
      (∃ e, s.routeOf st.peer = some e ∧ ((s.net.ports.get e.subport).up = false ∨ s.egressFrozen e.subport = true))) : exec (.schedWindow num) s = .next s := by
  cases he : s.routeOf st.peer with
  | none => exact schedWindow_noRoute hst he
  | some e =>
    refine schedWindow_closed hst he (fun hopen => ?_)
    obtain ⟨-, hstart, hend, hup, hfree⟩ := hopen
    obtain h | h | h | ⟨e', he', h⟩ := h
    · omega
    · omega
    · exact nomatch he.symm.trans h
    · obtain rfl := Option.some.inj (he.symm.trans he')
      obtain h | h := h
      · exact Bool.false_ne_true (h.symm.trans hup)
      · rw [h] at hfree
        exact Bool.false_ne_true hfree

end Window

theorem fitWindow_one (macsec : Bool) (room : Nat) (x : SchedOut) : fitWindow macsec room [x] = if wireBytes macsec x.data.length ≤ room then [x] else [] := rfl

/-- Nothing fits in no room. -/
theorem fitWindow_zero (macsec : Bool) (l : List SchedOut) : fitWindow macsec 0 l = [] := by
  cases l with
  | nil => rfl
  | cons x l =>
    unfold fitWindow
    exact if_neg (by unfold wireBytes; omega)

/-- A window without room changes no packet. -/
theorem State.windowSent_none {s : State} {st : Stream} {e : RouteEntry} (h : s.windowGo st e = []) :
    s.windowSent st e = { s with net := { s.net with schedBusy := s.net.schedBusy.set st.num (max s.netPeriod (s.net.schedBusy.get st.num)) } } := by
  have hmap : s.net.schedOut.map (fun x => if ([] : List SchedOut).contains x then { x with unsent := false } else x) = s.net.schedOut :=
    (List.map_congr_left (fun x _ => if_neg (by simp))).trans (List.map_id _)
  have hzero : cdiv (wireTotal (s.net.ports.get e.subport).macsec []) 512 = 0 := by simp [wireTotal, cdiv]
  unfold State.windowSent
  rw [h, hzero]
  dsimp only [List.foldl_nil]
  rw [hmap]
  rfl

theorem State.windowSent_one {s : State} {st : Stream} {e : RouteEntry} {y : SchedOut} (h : s.windowGo st e = [y]) (hout : s.net.schedOut = [y]) :
    let t := s.sendTo st.peer 1 (s.schedBytes y)
    s.windowSent st e = { t with net := { t.net with
      schedOut := [{ y with unsent := false }],
      schedBusy := t.net.schedBusy.set st.num (max s.netPeriod (s.net.schedBusy.get st.num) + cdiv (wireBytes (s.net.ports.get e.subport).macsec y.data.length) 512) } } := by
  obtain ⟨hkeep, -⟩ := s.sendTo_sched st.peer 1 (s.schedBytes y)
  have htotal : wireTotal (s.net.ports.get e.subport).macsec [y] = wireBytes (s.net.ports.get e.subport).macsec y.data.length := Nat.zero_add _
  unfold State.windowSent
  rw [h, htotal]
  dsimp only [List.foldl_cons, List.foldl_nil, State.sendSched]
  rw [hkeep, hout]
  simp

theorem State.gatePeriod_le (s : State) (st : Stream) : s.gatePeriod st ≤ s.netPeriod := Nat.mod_le _ _

/-- One packet that waits in an open window whose periods are free leaves where it fits. -/
theorem State.windowSent_free {s : State} {st : Stream} {e : RouteEntry} {y : SchedOut} (hout : s.net.schedOut = [y]) (hnum : y.stream = st.num) (hunsent : y.unsent = true)
    (hmac : (s.net.ports.get e.subport).macsec = false) (hbusy : s.net.schedBusy.get st.num ≤ s.netPeriod) :
    s.windowSent st e = if y.data.length + 118 ≤ 512 * (st.start + st.length - s.gatePeriod st) then
      (let t := s.sendTo st.peer 1 (s.schedBytes y)
       { t with net := { t.net with schedOut := [{ y with unsent := false }], schedBusy := t.net.schedBusy.set st.num (s.netPeriod + (y.data.length + 118 + 511) / 512) } })
    else { s with net := { s.net with schedBusy := s.net.schedBusy.set st.num s.netPeriod } } := by
  have hle := s.gatePeriod_le st
  have hleft : s.windowLeft st = st.start + st.length - s.gatePeriod st := by
    unfold State.windowLeft
    rw [Nat.max_eq_left hbusy]
    omega
  have hfilter : s.net.schedOut.filter (fun x => x.stream == st.num && x.unsent) = [y] := by
    rw [hout]
    exact List.filter_eq_self.2 (fun x hx => by
      obtain rfl := List.mem_singleton.1 hx
      rw [hunsent, beq_iff_eq.2 hnum]
      rfl)
  have hgo : s.windowGo st e = if y.data.length + 118 ≤ 512 * (st.start + st.length - s.gatePeriod st) then [y] else [] := by
    rw [State.windowGo, hfilter, hleft, hmac, fitWindow_one]
    rfl
  by_cases hfit : y.data.length + 118 ≤ 512 * (st.start + st.length - s.gatePeriod st)
  · rw [if_pos hfit] at hgo ⊢
    rw [State.windowSent_one hgo hout, Nat.max_eq_left hbusy, hmac]
    rfl
  · rw [if_neg hfit] at hgo ⊢
    rw [State.windowSent_none hgo, Nat.max_eq_left hbusy]

/-- A window whose rest is taken sends nothing. -/
theorem State.windowSent_full {s : State} {st : Stream} {e : RouteEntry} (hbusy : s.netPeriod + st.start + st.length - s.gatePeriod st ≤ s.net.schedBusy.get st.num) :
    (s.windowSent st e).out = s.out ∧ (s.windowSent st e).net.schedOut = s.net.schedOut := by
  have hle := s.gatePeriod_le st
  have hleft : s.windowLeft st = 0 := by
    unfold State.windowLeft
    have := Nat.le_max_right s.netPeriod (s.net.schedBusy.get st.num)
    omega
  have hgo : s.windowGo st e = [] := by
    rw [State.windowGo, hleft]
    exact fitWindow_zero _ _
  rw [State.windowSent_none hgo]
  exact ⟨rfl, rfl⟩

/-! ### Data packets (R302, R303) -/

/-- Does a data packet lie in its stream and in the stream's region? -/
def schedFits (p : SchedPkt) (st : Stream) (r : Region) : Prop :=
  p.seq < p.count ∧ p.data.length ≤ 8192 ∧ 64 * p.offset + p.data.length ≤ st.bytes ∧ st.roffset + 64 * p.offset + p.data.length ≤ r.size

theorem schedFits_iff (p : SchedPkt) (st : Stream) (r : Region) :
    schedFits p st r ↔ ¬ (p.count ≤ p.seq ∨ 8192 < p.data.length ∨ st.bytes < 64 * p.offset + p.data.length ∨ (!r.holds (st.roffset + 64 * p.offset) p.data.length) = true) := by
  unfold schedFits Region.holds
  rw [Bool.not_eq_true', decide_eq_false_iff_not]
  omega

theorem SchedIn.complete_iff (x : SchedIn) : x.complete = true ↔ ∀ i, i < x.count → i ∈ x.got := by
  unfold SchedIn.complete
  rw [List.all_eq_true]
  simp only [upto_mem, List.contains_eq_mem, decide_eq_true_eq]

section Data
variable {s : State} {p : SchedPkt} {st : Stream} {r : Region}

theorem schedData_noStream (h : s.stream p.stream.toNat 1 = none) : exec (.schedData p) s = .next s := by
  rw [exec_schedData, execSchedData, h]

variable (hst : s.stream p.stream.toNat 1 = some st) (hr : s.region st.region = some r) (hopen : s.netOpen = true)
include hst hr hopen

theorem schedData_replay (hreplay : s.seq.replay = true) : exec (.schedData p) s = .next (s.replayDrop 1) := by
  rw [exec_schedData, execSchedData, hst]
  dsimp only
  rw [hr]
  dsimp only
  rw [hopen, hreplay]
  rfl

variable (hlive : s.seq.replay = false)
include hlive

theorem schedData_bad (hfits : ¬ schedFits p st r) : exec (.schedData p) s = .next s := by
  rw [exec_schedData, execSchedData, hst]
  dsimp only
  rw [hr]
  dsimp only
  rw [hopen, hlive]
  exact (if_neg Bool.false_ne_true).trans ((if_neg Bool.false_ne_true).trans (if_pos (Classical.not_not.1 (mt (schedFits_iff p st r).2 hfits))))

variable (hfits : schedFits p st r)
include hfits

theorem schedData_new (hnone : s.schedGot st.num p.step = none) (hstep : s.seq.committed.toNat < p.step.toNat ∨ s.seq.ran = false) :
    exec (.schedData p) s = .next (s.acceptSched st r p) := by
  rw [exec_schedData, execSchedData, hst]
  dsimp only
  rw [hr]
  dsimp only
  rw [hopen, hlive]
  refine (if_neg Bool.false_ne_true).trans ((if_neg Bool.false_ne_true).trans ((if_neg ((schedFits_iff p st r).1 hfits)).trans ?_))
  rw [hnone]
  refine if_neg (fun hold => ?_)
  obtain ⟨hle, hran⟩ := hold
  exact hstep.elim (fun h => absurd hle (Nat.not_le.2 h)) (fun h => Bool.false_ne_true (h.symm.trans hran))

theorem schedData_again {y : SchedIn} (hgot : s.schedGot st.num p.step = some y) (hmem : p.seq ∈ y.got) : exec (.schedData p) s = .next (s.sendSchedAck st y) := by
  rw [exec_schedData, execSchedData, hst]
  dsimp only
  rw [hr]
  dsimp only
  rw [hopen, hlive]
  refine (if_neg Bool.false_ne_true).trans ((if_neg Bool.false_ne_true).trans ((if_neg ((schedFits_iff p st r).1 hfits)).trans ?_))
  rw [hgot]
  exact congrArg Host.Outcome.next (if_pos (by rw [List.contains_eq_mem]; exact decide_eq_true hmem))

end Data

/-! ### Acknowledgements and timers (R304) -/

section Acks
variable {s : State} {num : Half} {step : Word64} {bits : List Bool}

theorem State.resendSched_open (hopen : s.netOpen = true) (peer : Nat) (x : SchedOut) :
    s.resendSched peer x = if s.canSendTo peer = false then s else (s.sendTo peer 1 (s.schedBytes x)).modGw (((s.routeOf peer).map (fun r => r.subport / 64)).getD 0)
      (fun w => { w with resends := satAdd w.resends 1 }) := by
  unfold State.resendSched State.sendSched
  rw [hopen]
  cases s.canSendTo peer <;> rfl

theorem State.resendSched_closed (hopen : s.netOpen = false) (peer : Nat) (x : SchedOut) : s.resendSched peer x = s := by
  unfold State.resendSched
  rw [hopen]
  rfl

theorem schedAck_none (h : s.stream num.toNat 0 = none ∨ s.netOpen = false) : exec (.schedAck num step bits) s = .next s := by
  rw [exec_schedAck, execSchedAck]
  cases hst : s.stream num.toNat 0 with
  | none => rfl
  | some st =>
    dsimp only
    rw [h.resolve_left (fun h => nomatch hst.symm.trans h), if_neg Bool.false_ne_true]

variable {st : Stream} {x : SchedOut}

/-- What an ACK leaves of one packet that waits. -/
theorem schedAck_one (hopen : s.netOpen = true) (hst : s.stream num.toNat 0 = some st) (hout : s.net.schedOut = [x]) (hnum : x.stream = st.num) (hstep : x.step = step) :
    exec (.schedAck num step bits) s = .next (if (bits[x.seq]?).getD false then { s with net := { s.net with schedOut := [] } }
      else if x.unsent then s else s.resendSched st.peer x) := by
  have hmine : (x.stream == st.num && x.step == step) = true := by rw [beq_iff_eq.2 hnum, beq_iff_eq.2 hstep]; rfl
  rw [exec_schedAck, execSchedAck, hst]
  dsimp only
  rw [if_pos hopen, hout]
  cases hbit : (bits[x.seq]?).getD false with
  | true =>
    rw [List.filter_cons_of_neg (by rw [hmine, hbit]; exact Bool.false_ne_true)]
    rfl
  | false =>
    have hsame : ({ s with net := { s.net with schedOut := [x] } } : State) = s := by rw [← hout]
    rw [List.filter_cons_of_pos (by rw [hmine, hbit]; rfl), List.filter_nil, hsame]
    cases hunsent : x.unsent with
    | true =>
      rw [List.filter_cons_of_neg (by rw [hmine, hunsent]; exact Bool.false_ne_true)]
      rfl
    | false =>
      rw [List.filter_cons_of_pos (by rw [hmine, hunsent]; rfl)]
      rfl

theorem schedAckTimer_due {y : SchedIn} (hopen : s.netOpen = true) (hst : s.stream num.toNat 1 = some st) (hgot : s.schedGot num.toNat step = some y) :
    exec (.schedAckTimer num step) s = .next (if y.complete then s else s.sendSchedAck st y) := by
  rw [exec_schedAckTimer, execSchedAckTimer, hst, hgot]
  dsimp only
  rw [hopen, Bool.not_true, Bool.or_false]

theorem schedAckTimer_none (h : s.schedGot num.toNat step = none ∨ s.netOpen = false) : exec (.schedAckTimer num step) s = .next s := by
  rw [exec_schedAckTimer, execSchedAckTimer]
  cases hst : s.stream num.toNat 1 with
  | none => rfl
  | some st =>
    cases hgot : s.schedGot num.toNat step with
    | none => rfl
    | some y =>
      dsimp only
      rw [h.resolve_left (fun h => nomatch hgot.symm.trans h), Bool.not_false, Bool.or_true, if_pos rfl]

theorem schedResendTimer_due {q : Nat} (hst : s.stream num.toNat 0 = some st) (hout : s.net.schedOut = [x]) (hnum : x.stream = num.toNat) (hstep : x.step = step) (hseq : x.seq = q)
    (hunsent : x.unsent = false) : exec (.schedResendTimer num step q) s = .next (s.resendSched st.peer x) := by
  have hfind : s.net.schedOut.find? (fun x => x.stream == num.toNat && x.step == step && x.seq == q && !x.unsent) = some x := by
    rw [hout]
    exact List.find?_cons_of_pos (by rw [beq_iff_eq.2 hnum, beq_iff_eq.2 hstep, beq_iff_eq.2 hseq, hunsent]; rfl)
  rw [exec_schedResendTimer, execSchedResendTimer, hst, hfind]

theorem schedResendTimer_none {q : Nat} (h : s.net.schedOut = [] ∨ s.netOpen = false) : exec (.schedResendTimer num step q) s = .next s := by
  rw [exec_schedResendTimer, execSchedResendTimer]
  obtain hout | hclosed := h
  · rw [hout, List.find?_nil]
    cases s.stream num.toNat 0 <;> rfl
  · split
    · rw [State.resendSched_closed hclosed]
    · rfl

end Acks

/-! ### Calls (R309 to R312) -/

/-- The calls, the last call of each session and the calls that each gateway has admitted. -/
def State.calling (s : State) : List Call × Tbl (Option Word64) × (Nat → Word) := (s.net.calls, s.net.lastCall, fun g => (s.net.gw.get g).svcAdmitted)

theorem State.calling_of_net {s t : State} (h : t.net = s.net) : t.calling = s.calling := by
  unfold State.calling
  rw [h]

theorem State.modGw_calling (s : State) (g : Nat) (f : Gateway → Gateway) (hf : ∀ w, (f w).svcAdmitted = w.svcAdmitted) : (s.modGw g f).calling = s.calling := by
  refine congrArg (fun x => (s.net.calls, s.net.lastCall, x)) (funext (fun k => ?_))
  by_cases hk : k = g
  · rw [hk, State.gw_modGw_self, hf]
  · rw [State.gw_modGw_ne _ _ hk]

theorem State.sendFrame_calling (s : State) (f : Frame) : (s.sendFrame f).calling = s.calling := by
  unfold State.sendFrame State.leave
  split
  · rfl
  · split <;> rfl

theorem State.storeUnit_net (s : State) (h u : Nat) (session : Bool) (bs : List Byte) : (s.storeUnit h u session bs).net = s.net := by
  unfold State.storeUnit
  split <;> rfl

theorem State.writeUnit_net (s : State) (r : Region) (region o at_ : Nat) (bs : List Byte) : (s.writeUnit r region o at_ bs).1.net = s.net := by
  unfold State.writeUnit
  dsimp only
  split
  · exact State.storeUnit_net ..
  · split
    · rfl
    · split
      · rfl
      · exact State.storeUnit_net ..

theorem State.writeGo_net (s : State) (r : Region) (region fuel o : Nat) (bs : List Byte) : (s.writeGo r region fuel o bs).1.net = s.net := by
  induction fuel generalizing s o bs with
  | zero => rfl
  | succ fuel ih =>
    unfold State.writeGo
    split
    · rfl
    · exact (ih ..).trans (State.writeUnit_net ..)

theorem State.writeRegion_net (s : State) (r : Region) (region o : Nat) (bs : List Byte) : (s.writeRegion r region o bs).1.net = s.net := State.writeGo_net ..

theorem State.ringWrite_net (s : State) (count : Nat) (bs : List Byte) : (s.ringWrite count bs).net = s.net := by
  unfold State.ringWrite
  split
  · rfl
  · exact (State.writeRegion_net ..).trans (State.writeRegion_net ..)

theorem State.datagramSent_calling (t : State) (g : Nat) :
    (({ t with seq := { t.seq with dseq := t.seq.dseq + 1 } } : State).modGw g (fun g => { g with dgrams := satAdd g.dgrams 1 })).calling = t.calling :=
  (State.modGw_calling _ g (fun g => { g with dgrams := satAdd g.dgrams 1 }) (fun _ => rfl)).trans rfl

theorem State.journalDatagram_calling (s : State) (sub : Nat) (udp : Nat × Nat) (dst : BitVec 128) (r : JRecord) (frag : Nat) (piece : List Byte) :
    (s.journalDatagram sub udp dst r frag piece).calling = s.calling := by
  unfold State.journalDatagram
  split
  · exact (State.datagramSent_calling _ _).trans (State.sendFrame_calling ..)
  · rfl

theorem State.journalOut_calling (s : State) (count : Nat) (r : JRecord) : (s.journalOut count r).calling = s.calling := by
  unfold State.journalOut
  split
  · rfl
  · split
    · exact State.modGw_calling _ _ _ (fun _ => rfl)
    · exact proj_foldl State.calling _ _ _ (fun t c => State.journalDatagram_calling ..)

theorem State.putRecord_calling (s : State) (r : JRecord) : (s.putRecord r).calling = s.calling := by
  unfold State.putRecord
  exact (State.journalOut_calling ..).trans (State.calling_of_net (State.ringWrite_net ..))

theorem State.record_calling (s : State) (r : JRecord) : (s.record r).calling = s.calling := by
  unfold State.record
  split
  · rfl
  · split
    · unfold State.wrapRecord
      dsimp only
      split
      · exact State.putRecord_calling ..
      · refine (State.calling_of_net (State.raise_net ..)).trans ((State.calling_of_net rfl).trans ?_)
        exact (State.putRecord_calling ..).trans (State.putRecord_calling ..)
    · split
      · exact State.putRecord_calling ..
      · rfl

theorem State.recordInput_calling (s : State) (step : Word64) (type source index : Nat) (bs : List Byte) : (s.recordInput step type source index bs).calling = s.calling :=
  proj_foldl State.calling _ _ _ (fun _ _ => State.record_calling ..)

/-- A record that waits under STALL behind others. -/
theorem State.record_stalled {s : State} (hwrap : s.journalWraps = false) (hstall : s.seq.stalled ≠ []) (r : JRecord) :
    (s.record r).journalWraps = false ∧ (s.record r).seq.stalled ≠ [] ∧ (s.record r).hbm = s.hbm := by
  have hempty : (s.seq.stalled.isEmpty && s.journalRoom r) = false := by
    rw [List.isEmpty_eq_false_iff.2 hstall, Bool.false_and]
  unfold State.record
  rw [hwrap, hempty]
  split
  · exact ⟨hwrap, hstall, rfl⟩
  · exact ⟨hwrap, List.append_ne_nil_of_left_ne_nil hstall _, rfl⟩

/-- While records wait under STALL further ones wait too, and the stacks stay. -/
theorem State.recordInput_stalled {s : State} (hwrap : s.journalWraps = false) (hstall : s.seq.stalled ≠ []) (step : Word64) (type source index : Nat) (bs : List Byte) :
    (s.recordInput step type source index bs).hbm = s.hbm := by
  unfold State.recordInput
  dsimp only
  generalize (if bs.isEmpty then [[]] else chunks 65536 bs).zipIdx = l
  induction l generalizing s with
  | nil => rfl
  | cons c l ih =>
    obtain ⟨hwrap', hstall', hhbm⟩ := State.record_stalled hwrap hstall
      { step := step, type := BitVec.ofNat 16 type, source := BitVec.ofNat 16 source, index := BitVec.ofNat 32 (index + 2048 * c.2), payload := c.1 }
    rw [List.foldl_cons]
    exact (ih hwrap' hstall').trans hhbm

section Calls
variable {s : State} {c : SvcCall} {e : Endpoint}

theorem serviceCall_noEndpoint (h : s.img.image.bind (fun i => i.endpoint) = none) : exec (.serviceCall c) s = .next s := by
  rw [exec_serviceCall, execServiceCall, h]

variable (he : s.img.image.bind (fun i => i.endpoint) = some e) (hopen : s.netOpen = true)
include he hopen

theorem serviceCall_replay (hreplay : s.seq.replay = true) : exec (.serviceCall c) s = .next (s.replayDrop 1) := by
  rw [exec_serviceCall, execServiceCall, he]
  dsimp only
  rw [hopen, hreplay]
  rfl

variable (hlive : s.seq.replay = false)
include hlive

theorem serviceCall_noSession (h : s.sec.session c.session.toNat = none) : exec (.serviceCall c) s = .next (s.rejectCall e c 2 false) := by
  rw [exec_serviceCall, execServiceCall, he]
  dsimp only
  rw [hopen, hlive, h]
  rfl

/-- The slots of a serving step that calls hold. -/
def State.slotsUsed (s : State) (step : Nat) : List Nat := (s.net.calls.filter (fun x => x.step.toNat == step)).map (fun x => x.slot)

omit he hopen hlive in
theorem State.mem_slotsUsed (s : State) (step i : Nat) : i ∈ s.slotsUsed step ↔ ∃ y ∈ s.net.calls, y.step.toNat = step ∧ y.slot = i := by
  unfold State.slotsUsed
  simp only [List.mem_map, List.mem_filter, beq_iff_eq, and_assoc]

/-- The lowest free slot of a serving step. -/
def State.freeSlot (s : State) (e : Endpoint) (step : Nat) : Option Nat := (upto e.calls).find? (fun i => !(s.slotsUsed step).contains i)

omit he hopen hlive in
theorem State.freeSlot_none {step : Nat} (h : ∀ i, i < e.calls → ∃ y ∈ s.net.calls, y.step.toNat = step ∧ y.slot = i) : s.freeSlot e step = none := by
  refine List.find?_eq_none.2 (fun i hi => ?_)
  rw [List.contains_eq_mem, decide_eq_true ((s.mem_slotsUsed step i).2 (h i ((upto_mem ..).1 hi)))]
  exact Bool.false_ne_true

omit he hopen hlive in
theorem State.freeSlot_some {step i : Nat} (hi : i < e.calls) (hfree : ¬ ∃ y ∈ s.net.calls, y.step.toNat = step ∧ y.slot = i)
    (hfirst : ∀ j, j < i → ∃ y ∈ s.net.calls, y.step.toNat = step ∧ y.slot = j) : s.freeSlot e step = some i := by
  rw [State.freeSlot, upto_eq_range, List.find?_range_eq_some]
  refine ⟨?_, List.mem_range.2 hi, fun j hj => ?_⟩
  · rw [List.contains_eq_mem, decide_eq_false (mt (s.mem_slotsUsed step i).1 hfree)]
    rfl
  · rw [List.contains_eq_mem, decide_eq_true ((s.mem_slotsUsed step j).2 (hfirst j hj))]
    rfl

variable {k : Session} {plain : List Byte} (hk : s.sec.session c.session.toNat = some k)
  (hseal : Sys2Proof.Config.gcmOpen k.svcKey (svcNonce false c.call.toNat) (svcHeader c.session.toNat c.call.toNat c.len.toNat 0) c.sealed = some plain)
  (hlast : ∀ m, s.net.lastCall.get c.session.toNat = some m → m.toNat < c.call.toNat) (hlen : c.len.toNat ≤ e.payload) (hplain : plain.length = c.len.toNat)
include hk hseal hlast hlen hplain

/-- A call that is well sealed and above the last one of its session takes a free slot, if there is one. -/
theorem serviceCall_judged {o : Option Nat} (ho : s.freeSlot e (s.servingStep e) = o) :
    exec (.serviceCall c) s = .next (o.elim (s.rejectCall e c 1 true) (fun i => s.admitCall e c (s.servingStep e) i plain)) := by
  rw [exec_serviceCall, execServiceCall, he]
  dsimp only
  rw [hopen, hlive, hk]
  dsimp only
  rw [hseal]
  dsimp only
  refine (if_neg Bool.false_ne_true).trans ((if_neg Bool.false_ne_true).trans ((if_neg ?_).trans ?_))
  · rw [decide_eq_false (Nat.not_lt.2 hlen), decide_eq_false (Classical.not_not.2 hplain), Bool.or_false, Bool.or_false]
    cases h : s.net.lastCall.get c.session.toNat with
    | none => exact Bool.false_ne_true
    | some m =>
      dsimp only
      rw [decide_eq_true (hlast m h)]
      exact Bool.false_ne_true
  · have hfind : (upto e.calls).find? (fun i => !((s.net.calls.filter (fun x => x.step.toNat == s.servingStep e)).map (fun x => x.slot)).contains i) = o := ho
    rw [hfind]
    cases o <;> rfl

omit he hopen hlive hk hseal hlast hlen hplain in
theorem State.writeRegion_journalWraps (s : State) (r : Region) (region o : Nat) (bs : List Byte) :
    (s.writeRegion r region o bs).1.journalWraps = s.journalWraps ∧ (s.writeRegion r region o bs).1.seq = s.seq :=
  have h := writeRegion_core s r region o bs
  ⟨by
    have hseq : (s.writeRegion r region o bs).1.img = s.img := congrArg StepCore.img h
    unfold State.journalWraps State.journalRegion
    rw [hseq], congrArg StepCore.seq h⟩

/-- What an admitted call writes in the service region, be the region there. -/
def State.callWritten (s : State) (e : Endpoint) (c : SvcCall) (k i : Nat) (plain : List Byte) : State :=
  match s.region e.reqRegion with
  | none => s
  | some r => (s.writeRegion r e.reqRegion (e.slotOffset k i)
      (leBytes 4 c.session.toNat ++ leBytes 8 c.call.toNat ++ leBytes 4 plain.length ++ List.replicate 48 0 ++ (plain ++ List.replicate e.payload 0).take e.payload)).1

omit he hopen hlive hk hseal hlast hlen hplain in
theorem State.callWritten_keeps (s : State) (e : Endpoint) (c : SvcCall) (k i : Nat) (plain : List Byte) :
    (s.callWritten e c k i plain).calling = s.calling ∧ (s.callWritten e c k i plain).journalWraps = s.journalWraps ∧ (s.callWritten e c k i plain).seq = s.seq := by
  unfold State.callWritten
  split
  · exact ⟨rfl, rfl, rfl⟩
  · exact ⟨State.calling_of_net (State.writeRegion_net ..), State.writeRegion_journalWraps ..⟩

omit he hopen hlive hk hseal hlast hlen hplain in
/-- What a call that is admitted into slot i of serving step k changes. -/
theorem State.admitCall_spec (s : State) (e : Endpoint) (c : SvcCall) (k i : Nat) (plain : List Byte) :
    let t := s.admitCall e c k i plain
    t.net.calls = s.net.calls ++ [{ session := c.session.toNat, call := c.call, step := BitVec.ofNat 64 k, slot := i, src := c.src }] ∧
    t.net.lastCall = s.net.lastCall.set c.session.toNat (some c.call) ∧
    (t.net.gw.get e.gw).svcAdmitted = satAdd (s.net.gw.get e.gw).svcAdmitted 1 ∧
    (s.journalWraps = false → s.seq.stalled ≠ [] → t.hbm = (s.callWritten e c k i plain).hbm) := by
  obtain ⟨hcalling, hwraps, hseq⟩ := s.callWritten_keeps e c k i plain
  have hrecord := ((s.callWritten e c k i plain).recordInput_calling (BitVec.ofNat 64 k) 5 c.session.toNat c.call.toNat plain).trans hcalling
  have hcalls := congrArg (fun v => v.1) hrecord
  have hlast := congrArg (fun v => v.2.1) hrecord
  refine ⟨congrArg (fun l => l ++ [_]) hcalls, congrArg (fun m : Tbl (Option Word64) => m.set c.session.toNat (some c.call)) hlast, ?_, fun hwrap hstall => ?_⟩
  · have hgw := congrFun (congrArg (fun v => v.2.2) hrecord) e.gw
    refine (congrArg Gateway.svcAdmitted (State.gw_modGw_self _ e.gw _)).trans ?_
    exact congrArg (fun w => satAdd w 1) hgw
  · exact State.recordInput_stalled (hwraps.trans hwrap) (hseq ▸ hstall) ..

end Calls

/-! ### Data packets that are taken -/

section Accept
variable (s : State) (st : Stream) (r : Region) (p : SchedPkt)

/-- What has arrived of a stream once a packet has. -/
def State.schedNow : SchedIn :=
  let old := (s.schedGot st.num p.step).getD { stream := st.num, step := p.step, count := p.count }
  { old with got := old.got ++ [p.seq] }

/-- The state once the data of a packet have landed and are journaled. -/
def State.schedKept : State :=
  let t := ((s.writeRegion r st.region (st.roffset + 64 * p.offset) p.data).1).recordInput p.step 3 (st.subport / 8) ((st.roffset + 64 * p.offset) / 32) p.data
  { t with net := { t.net with schedIn := (t.net.schedIn.filter (fun y => !(y.stream == st.num && y.step == p.step))) ++ [s.schedNow st p] } }

theorem State.acceptSched_eq : s.acceptSched st r p = if (s.schedNow st p).complete then (s.schedKept st r p).sendSchedAck st (s.schedNow st p) else s.schedKept st r p := rfl

end Accept

theorem State.sched_resent {s : State} (hopen : s.netOpen = true) (peer : Nat) (x : SchedOut) :
    Host.Outcome.next (s.resendSched peer x) = (Host.Outcome.next (if s.canSendTo peer = false then s else
      (s.sendTo peer 1 (s.schedBytes x)).modGw (((s.routeOf peer).map (fun r => r.subport / 64)).getD 0) (fun w => { w with resends := satAdd w.resends 1 })) : Res) :=
  congrArg Host.Outcome.next (State.resendSched_open hopen peer x)

/-- Settles O39: each clause is a branch of its command. -/
theorem scheduledNetwork : Obligations.ScheduledNetwork := by
  intro num p step bits q c s st r x e k plain
  dsimp only
  rw [← s.netOpen_iff]
  refine ⟨schedWindow_none, schedWindow_blocked, ?_, ?_, schedData_noStream, ?_, ?_, ?_, ?_, ?_, ?_, ?_, ?_, ?_, ?_, ?_, serviceCall_noEndpoint, ?_, ?_, ?_⟩
  case refine_1 =>
    intro y e hst hopen hout hnum hunsent hstart hend he hup hmac hfree hbusy
    rw [schedWindow_open hst he ⟨hopen, hstart, hend, hup, by rw [hfree]; rfl⟩]
    exact congrArg Host.Outcome.next (State.windowSent_free hout hnum hunsent hmac hbusy)
  case refine_2 =>
    intro y e hst hopen hout hstart hend he hbusy
    by_cases hw : s.windowOpen st e
    · exact ⟨_, schedWindow_open hst he hw, State.windowSent_full hbusy⟩
    · exact ⟨_, schedWindow_closed hst he hw, rfl, rfl⟩
  case refine_3 => exact fun hown hopen => schedData_replay hown.1 hown.2 hopen
  case refine_4 => exact fun hown hopen hlive => schedData_bad hown.1 hown.2 hopen hlive
  case refine_5 =>
    intro hown hopen hlive hfits hnone hstep
    rw [schedData_new hown.1 hown.2 hopen hlive hfits hnone hstep, State.acceptSched_eq]
    exact ⟨fun h => congrArg Host.Outcome.next (if_neg (mt (SchedIn.complete_iff _).1 h)), fun h => congrArg Host.Outcome.next (if_pos ((SchedIn.complete_iff _).2 h))⟩
  case refine_6 => exact fun y hown hopen hlive hfits hgot hmem => schedData_again hown.1 hown.2 hopen hlive hfits hgot hmem
  case refine_7 => exact fun h => schedAck_none (h.imp_right Bool.of_not_eq_true)
  case refine_8 =>
    intro hopen hst hout hmine hbit
    rw [schedAck_one hopen hst hout hmine.1 hmine.2, if_pos hbit]
  case refine_9 =>
    intro hopen hst hout hmine hbit hunsent
    rw [schedAck_one hopen hst hout hmine.1 hmine.2, hbit, if_neg Bool.false_ne_true, hunsent, if_neg Bool.false_ne_true]
    exact State.sched_resent hopen ..
  case refine_10 => exact fun y => schedAckTimer_due
  case refine_11 => exact fun h => schedAckTimer_none (h.imp_right Bool.of_not_eq_true)
  case refine_12 =>
    intro hopen hst hout hnum hstep hseq hunsent
    exact (schedResendTimer_due hst hout hnum hstep hseq hunsent).trans (State.sched_resent hopen ..)
  case refine_13 => exact fun h => schedResendTimer_none (h.imp_right Bool.of_not_eq_true)
  case refine_14 => exact serviceCall_replay
  case refine_15 => exact serviceCall_noSession
  case refine_16 =>
    intro he hopen hlive hk hseal hlast hlen hplain
    refine ⟨fun hused => serviceCall_judged he hopen hlive hk hseal hlast hlen hplain (State.freeSlot_none hused), fun i hi hfree hfirst => ?_⟩
    obtain ⟨hcalls, hlastCall, hadmitted, hhbm⟩ := s.admitCall_spec e c (s.servingStep e) i plain
    refine ⟨_, serviceCall_judged he hopen hlive hk hseal hlast hlen hplain (State.freeSlot_some hi hfree hfirst), hcalls, hlastCall, hadmitted, fun hr a hwrap hstall => ?_⟩
    have hwritten := hhbm hwrap hstall
    unfold State.callWritten at hwritten
    rw [hr] at hwritten
    exact congrArg (fun m => memGet m a) hwritten

end Sys2Proof.Machine
end

section
/-! PROOF. Sessions: reports, offers, OPEN, the generator and two-party changes (R445 to R454, R467 to R471). -/
namespace Sys2Proof.Machine

/-! ### Requests of Mews that pass the gate -/

section Gate
variable {s t : State} {o : MewsOp} {m : MewsReq}

/-- A request that passes the gate runs. -/
theorem State.mewsReceive_gate (h : s.mewsGate o m t) (run : State → State) : s.mewsReceive o m run = run t := by
  obtain ⟨hup, hopen, hauth, ht, hmay⟩ := h
  unfold State.mewsReceive
  dsimp only at hauth ht hmay ⊢
  rw [hup, Bool.not_true, if_neg Bool.false_ne_true, if_neg (Nat.not_le.2 hopen)]
  split
  · exact absurd ‹_› hauth
  · rw [← ht, if_pos hmay]

/-- A Public or Read request that is well formed and accepted in the state is served. -/
theorem State.mewsServe_gate (h : s.mewsGate o m t) (hstate : t.mewsState o = true) (run : State → State) : s.mewsServe o m false run = run t := by
  unfold State.mewsServe
  rw [State.mewsReceive_gate h, if_neg Bool.false_ne_true, hstate]
  rfl

/-- The gate changes nothing but the open requests and the numbers of Mews. -/
theorem State.mewsGate_rest (h : s.mewsGate o m t) : ∃ w, t = { s with mews := w } := by
  obtain ⟨-, -, -, rfl, -⟩ := h
  unfold State.takeSeq
  split <;> exact ⟨_, rfl⟩

end Gate

/-! ### What session messages keep -/

/-- What the refusals and messages of sessions do not change. -/
def State.vault (s : State) : Sec × Tbl Stack × Top × List Host.Cell := (s.sec, s.mem, s.top, s.hbm)

theorem State.raise_vault (s : State) (code plaza unit : Nat) (detail : List Byte) : (s.raise code plaza unit detail).vault = s.vault := by
  simp [State.vault]

theorem State.sendNet_hbm (s : State) (sub kind dst : Nat) (bytes : List Byte) : (s.sendNet sub kind dst bytes).hbm = s.hbm := by
  have h := congrArg Prod.fst (State.sendNet_hm s sub kind dst bytes)
  unfold State.hm at h
  exact h

theorem State.sendSession_vault (s : State) (p : HelloPath) (st : Status) (bytes : List Byte) : (s.sendSession p st bytes).vault = s.vault := by
  unfold State.sendSession
  split
  · rfl
  · split
    · simp [State.vault, State.sendNet_hbm]
    · rfl
  · rfl

theorem State.sendSession_pp (s : State) (p : HelloPath) (st : Status) (bytes : List Byte) : (s.sendSession p st bytes).pp = s.pp := by
  unfold State.sendSession
  split
  · rfl
  · split
    · exact State.sendNet_pp ..
    · rfl
  · rfl

/-! ### Reports (R449, R450) -/

theorem fit_length (n : Nat) (l : List Byte) : (fit n l).length = n := by
  unfold fit
  rw [List.length_take, List.length_append, List.length_replicate]
  omega

theorem fit_of_length {n : Nat} {l : List Byte} (h : l.length = n) : fit n l = l := by
  unfold fit
  rw [← h]
  exact List.take_left

/-- The first sixteen bytes of a report. -/
def State.reportHead (s : State) : List Byte :=
  leBytes 2 1 ++ leBytes 2 s.reportState ++ leBytes 4 s.top.identity.toNat ++ leBytes 8 s.sec.policy.toNat

theorem State.reportHead_length (s : State) : s.reportHead.length = 16 := by
  unfold State.reportHead
  simp only [List.length_append, Sys2Proof.Laws.leBytes_length]

/-- A report begins with its head and the nonce. -/
theorem State.reportBody_eq (s : State) (nonce : List Byte) : ∃ rest, s.reportBody nonce = s.reportHead ++ (fit 32 nonce ++ rest) := by
  unfold State.reportBody State.reportHead
  simp only [List.append_assoc]
  exact ⟨_, rfl⟩

theorem State.reportBody_head (s : State) (nonce : List Byte) : (s.reportBody nonce).take 16 = s.reportHead := by
  obtain ⟨rest, h⟩ := s.reportBody_eq nonce
  rw [h]
  exact List.take_left' s.reportHead_length

theorem State.reportBody_nonce (s : State) {nonce : List Byte} (hlen : nonce.length = 32) : ((s.reportBody nonce).drop 16).take 32 = nonce := by
  obtain ⟨rest, h⟩ := s.reportBody_eq nonce
  rw [h, List.drop_left' s.reportHead_length, fit_of_length hlen]
  exact List.take_left' hlen

/-- The offer of a report, which the report's key pair is. -/
def State.newOffer (s : State) (w : ReportWait) : Offer := { num := s.sec.nextOffer, draw := s.sec.draws, report := s.reportBody w.nonce, made := s.top.now }

theorem drop_last_kept {α : Type} (l : List α) (x : α) : ∃ pre, (l ++ [x]).drop ((l ++ [x]).length - 64) = pre ++ [x] ∧ (pre ++ [x]).length ≤ 64 := by
  refine ⟨l.drop ((l ++ [x]).length - 64), List.drop_append_of_le_length ?_, ?_⟩
  · rw [List.length_append, List.length_singleton]
    omega
  · simp only [List.length_append, List.length_drop, List.length_singleton]
    omega

/-- What a report changes: one signature, one draw and one offer more. -/
theorem State.sendReport_spec (s : State) (w : ReportWait) :
    let t := s.sendReport w
    (∃ low, t.sec = { s.sec with
      offers := (s.sec.offers ++ [s.newOffer w]).drop ((s.sec.offers ++ [s.newOffer w]).length - 64), nextOffer := s.sec.nextOffer + 1, draws := s.sec.draws + 1,
      xmssNext := s.sec.xmssNext + 1, xmssLow := low }) ∧ t.top = s.top ∧ t.mem = s.mem ∧
    (w.path = .doe → ∃ out sig, t.out = out ++ [.doe (s.reportBody w.nonce ++ sig)] ∧ sig.length = 9893) := by
  unfold State.sendReport
  dsimp only
  generalize hsig : fit 9893 (Sys2Proof.Config.xmssSign s.sec.identityGen s.sec.xmssNext (s.reportBody w.nonce)) = sig
  have hlen : sig.length = 9893 := hsig ▸ fit_length _ _
  generalize hu : (if xmssTotal - (s.sec.xmssNext + 1) < 2 ^ 20 ∧ s.sec.xmssLow = false then _ else _ : State) = u
  have hvault : ∃ low, u.vault = ({ s.sec with
      offers := (s.sec.offers ++ [s.newOffer w]).drop ((s.sec.offers ++ [s.newOffer w]).length - 64), nextOffer := s.sec.nextOffer + 1, draws := s.sec.draws + 1,
      xmssNext := s.sec.xmssNext + 1, xmssLow := low }, s.mem, s.top, s.hbm) := by
    rw [← hu]
    split
    · exact ⟨true, State.raise_vault ..⟩
    · exact ⟨s.sec.xmssLow, rfl⟩
  obtain ⟨low, hvault⟩ := hvault
  have hsent := (u.sendSession_vault w.path .ok (s.reportBody w.nonce ++ sig)).trans hvault
  refine ⟨⟨low, congrArg (fun v => v.1) hsent⟩, congrArg (fun v => v.2.2.1) hsent, congrArg (fun v => v.2.1) hsent, fun hpath => ?_⟩
  rw [hpath]
  exact ⟨u.out, sig, rfl, hlen⟩

section Hello
variable {s : State} {w : ReportWait}

theorem State.hello_noIdentity (h : s.sec.identity = false ∨ 2 ^ 40 ≤ s.sec.xmssNext) : s.hello w = s.refuseSession w.path .authFailed := by
  unfold State.hello
  refine if_pos ?_
  rw [Bool.or_eq_true, Bool.not_eq_true', decide_eq_true_eq]
  exact h

variable (hcan : s.sec.identity = true ∧ s.sec.trngFailed = false ∧ s.sec.xmssNext < 2 ^ 40)
include hcan

theorem State.hello_can : s.hello w = if s.sec.xmssBlock ≤ s.sec.xmssNext then
    if s.sec.waiting.isEmpty && !s.pp.nvOpen then s.nvRefuse.refuseSession w.path .temperatureBlocked
    else if s.sec.waiting.isEmpty then ({ s with sec := { s.sec with waiting := s.sec.waiting ++ [w] } } : State).nvStart (.xmss (s.sec.xmssBlock + 256))
    else { s with sec := { s.sec with waiting := s.sec.waiting ++ [w] } }
    else s.sendReport w := by
  obtain ⟨hid, htrng, hleft⟩ := hcan
  have hnext : decide (xmssTotal ≤ s.sec.xmssNext) = false := decide_eq_false (Nat.not_le.2 hleft)
  unfold State.hello
  rw [hid, hnext, htrng]
  rfl

theorem State.hello_signed (h : ¬ s.sec.xmssBlock ≤ s.sec.xmssNext) : s.hello w = s.sendReport w := (State.hello_can hcan).trans (if_neg h)

variable (hspent : s.sec.xmssBlock ≤ s.sec.xmssNext) (hwait : s.sec.waiting = [])
include hspent hwait

theorem State.hello_waits (hopen : s.pp.nvOpen = true) : s.hello w =
    { s with sec := { s.sec with waiting := [w] }, top := { s.top with nv := s.top.nv ++ [.xmss (s.sec.xmssBlock + 256)] } } := by
  rw [State.hello_can hcan, if_pos hspent, hwait, hopen]
  rfl

theorem State.hello_blocked (hopen : s.pp.nvOpen = false) : s.hello w = s.nvRefuse.refuseSession w.path .temperatureBlocked := by
  rw [State.hello_can hcan, if_pos hspent, hwait, hopen]
  rfl

end Hello

/-- A refusal of R440 changes nothing of sessions. -/
theorem State.nvRefuse_vault (s : State) : s.nvRefuse.vault = s.vault := by
  unfold State.nvRefuse
  dsimp only
  split
  · rfl
  · exact State.raise_vault ..

/-! ### OPEN (R452 to R454) -/

theorem State.offerOf_some {s : State} {m : OpenMsg} {o : Offer} (h : s.offerOf m = some o) :
    o ∈ s.sec.offers ∧ o.num = m.offer.toNat ∧ s.top.now < o.made + 60000000000 := by
  have hp := List.find?_some h
  rw [Bool.and_eq_true, beq_iff_eq, decide_eq_true_eq] at hp
  exact ⟨List.mem_of_find?_eq_some h, hp⟩

/-- Is an OPEN well formed? -/
def openFormed (m : OpenMsg) : Prop := m.reserved = 0 ∧ m.role.toNat ≤ 1 ∧ m.flags.toNat ≤ 1

theorem openFormed_iff (m : OpenMsg) : (m.reserved != 0 || decide (1 < m.role.toNat) || decide (1 < m.flags.toNat)) = false ↔ openFormed m := by
  unfold openFormed
  rw [Bool.or_eq_false_iff, Bool.or_eq_false_iff, bne_eq_false_iff_eq, decide_eq_false_iff_not, decide_eq_false_iff_not, Nat.not_lt, Nat.not_lt, and_assoc]

/-- Does an OPEN show that it knows the secret of its offer? -/
def openConfirms (o : Offer) (m : OpenMsg) : Prop := fit 32 m.confirm = shake256 32 (openSecret o m ++ ascii "CNF" ++ leBytes 8 m.offer.toNat)

/-- The checks of an OPEN whose offer is its own: those of a tenant, and those of a client. -/
def State.openRole (s : State) (m : OpenMsg) : Option Status :=
  if m.role = 0 then
    if s.sec.tenant.isSome || !(s.top.state == .idle || s.top.state == .loaded) then some .stateRefused
    else if !(fit 32 m.image).all (fun b => b == 0) && s.img.image.isSome && fit 32 m.image != s.imageDigest then some .identityMismatch
    else none
  else match s.img.image.bind (fun i => i.endpoint) with
    | some e => if s.sec.tenant.isSome ∧ s.sec.clients.length < e.sessions then none else some .stateRefused
    | none => some .stateRefused

section OpenCheck
variable {s : State} {m : OpenMsg}

theorem State.openCheck_unformed (h : ¬ openFormed m) : s.openCheck m = some .badArgument := by
  unfold State.openCheck
  exact if_pos (Bool.of_not_eq_false (mt (openFormed_iff m).1 h))

variable (hformed : openFormed m)
include hformed

theorem State.openCheck_early (hl : s.sec.lifecycle ≠ 2) : s.openCheck m = some .stateRefused := by
  unfold State.openCheck
  rw [(openFormed_iff m).2 hformed, if_neg Bool.false_ne_true, if_pos hl]

variable (hl : s.sec.lifecycle = 2)
include hl

theorem State.openCheck_noOffer (ho : s.offerOf m = none) : s.openCheck m = some .authFailed := by
  unfold State.openCheck
  rw [(openFormed_iff m).2 hformed, if_neg Bool.false_ne_true, if_neg (Classical.not_not.2 hl), ho]

variable {o : Offer} (ho : s.offerOf m = some o)
include ho

theorem State.openCheck_unconfirmed (hc : ¬ openConfirms o m) : s.openCheck m = some .authFailed := by
  unfold State.openCheck
  rw [(openFormed_iff m).2 hformed, if_neg Bool.false_ne_true, if_neg (Classical.not_not.2 hl), ho]
  exact if_pos hc

theorem State.openCheck_owned (hc : openConfirms o m) : s.openCheck m = s.openRole m := by
  unfold State.openCheck
  rw [(openFormed_iff m).2 hformed, if_neg Bool.false_ne_true, if_neg (Classical.not_not.2 hl), ho]
  exact if_neg (Classical.not_not.2 hc)

end OpenCheck

section OpenRole
variable {s : State} {m : OpenMsg}

/-- May a tenant session open here? -/
def State.openIdle (s : State) : Prop := s.sec.tenant = none ∧ (s.top.state = .idle ∨ s.top.state = .loaded)

theorem State.openIdle_iff (s : State) : (s.sec.tenant.isSome || !(s.top.state == .idle || s.top.state == .loaded)) = false ↔ s.openIdle := by
  unfold State.openIdle
  rw [Bool.or_eq_false_iff, Option.isSome_eq_false_iff, Option.isNone_iff_eq_none, Bool.not_eq_false', Bool.or_eq_true, beq_iff_eq, beq_iff_eq]

/-- Does the image that an OPEN names agree with the loaded one? -/
def State.openImageOk (s : State) (m : OpenMsg) : Prop := (∀ b ∈ fit 32 m.image, b = 0) ∨ s.img.image = none ∨ fit 32 m.image = s.imageDigest

theorem State.openImageOk_iff (s : State) (m : OpenMsg) :
    (!(fit 32 m.image).all (fun b => b == 0) && s.img.image.isSome && fit 32 m.image != s.imageDigest) = false ↔ s.openImageOk m := by
  unfold State.openImageOk
  rw [Bool.and_eq_false_iff, Bool.and_eq_false_iff, Bool.not_eq_false', List.all_eq_true, Option.isSome_eq_false_iff, Option.isNone_iff_eq_none, bne_eq_false_iff_eq, or_assoc]
  simp only [beq_iff_eq]

theorem State.openRole_busy (hr : m.role = 0) (h : ¬ s.openIdle) : s.openRole m = some .stateRefused := by
  unfold State.openRole
  rw [if_pos hr]
  exact if_pos (Bool.of_not_eq_false (mt s.openIdle_iff.1 h))

theorem State.openRole_other (hr : m.role = 0) (h : s.openIdle) (hi : ¬ s.openImageOk m) : s.openRole m = some .identityMismatch := by
  unfold State.openRole
  rw [if_pos hr, s.openIdle_iff.2 h, if_neg Bool.false_ne_true]
  exact if_pos (Bool.of_not_eq_false (mt (s.openImageOk_iff m).1 hi))

theorem State.openRole_tenant (hr : m.role = 0) (h : s.openIdle) (hi : s.openImageOk m) : s.openRole m = none := by
  unfold State.openRole
  rw [if_pos hr, s.openIdle_iff.2 h, if_neg Bool.false_ne_true, (s.openImageOk_iff m).2 hi, if_neg Bool.false_ne_true]

variable (hr : m.role = 1)
include hr

theorem State.openRole_noClient
    (h : s.sec.tenant = none ∨ s.img.image = none ∨ ∃ e, s.img.image.bind (fun i => i.endpoint) = some e ∧ e.sessions ≤ s.sec.clients.length) : s.openRole m = some .stateRefused := by
  unfold State.openRole
  rw [if_neg (by rw [hr]; decide)]
  cases he : s.img.image.bind (fun i => i.endpoint) with
  | none => rfl
  | some e =>
    refine if_neg (fun ⟨hsome, hroom⟩ => ?_)
    obtain h | h | ⟨e', he', hfull⟩ := h
    · rw [h] at hsome
      exact Bool.false_ne_true hsome
    · rw [h] at he
      exact nomatch he
    · obtain rfl := Option.some.inj (he.symm.trans he')
      omega

theorem State.openRole_client {e : Endpoint} (ht : s.sec.tenant.isSome = true) (he : s.img.image.bind (fun i => i.endpoint) = some e) (hroom : s.sec.clients.length < e.sessions) :
    s.openRole m = none := by
  unfold State.openRole
  rw [if_neg (by rw [hr]; decide), he]
  exact if_pos ⟨ht, hroom⟩

end OpenRole

/-- What a refused OPEN changes. -/
theorem State.openRefused_spec (s : State) (p : HelloPath) (st : Status) :
    let t := s.openRefused p st
    t.sec.refusals = satAdd s.sec.refusals 1 ∧ t.sec.tenant = s.sec.tenant ∧ t.sec.clients = s.sec.clients ∧ t.sec.offers = s.sec.offers ∧ t.mem = s.mem ∧ t.top = s.top ∧
    (p = .doe → ∃ pre, t.out = pre ++ [.doe [BitVec.ofNat 8 st.code]]) := by
  unfold State.openRefused
  dsimp only
  generalize hu : (if s.sec.refusedSec = some s.second then _ else _ : State) = u
  have hvault : ∃ sec, u.vault = ({ s.sec with refusals := satAdd s.sec.refusals 1, refusedSec := sec }, s.mem, s.top, s.hbm) := by
    rw [← hu]
    split
    · exact ⟨s.sec.refusedSec, rfl⟩
    · exact ⟨some s.second, State.raise_vault ..⟩
  obtain ⟨sec, hvault⟩ := hvault
  have hsent := (u.sendSession_vault p st [BitVec.ofNat 8 st.code]).trans hvault
  unfold State.refuseSession
  have hsec := congrArg (fun v => v.1) hsent
  refine ⟨(congrArg Sec.refusals hsec :), (congrArg Sec.tenant hsec :), (congrArg Sec.clients hsec :), (congrArg Sec.offers hsec :), congrArg (fun v => v.2.1) hsent, congrArg (fun v => v.2.2.1) hsent,
    fun hp => ?_⟩
  rw [hp]
  exact ⟨u.out, rfl⟩

/-- The session that an OPEN makes. -/
def State.newSession (s : State) (m : OpenMsg) (o : Offer) : Session :=
  { id := s.sec.nextSession, secret := shakeDigest (openSecret o m ++ o.report ++ openBytes m), image := fit 32 m.image, exportOk := m.flags == 1 }

/-- The keys of a tenant session: the even slot of each gate die, at epoch 0 (R454). -/
theorem State.tenantKeys_spec (s : State) : ∃ t : State, s.tenantKeys = t ∧ t.sec = { s.sec with draws := s.sec.draws + 16, epoch := 0 } ∧ { t with mem := s.mem, sec := s.sec } = s ∧
    ∀ h, h < 16 → t.mem.get h = { s.mem.get h with keyEven := some (s.sec.draws + h), keyOdd := none, epoch := false } := by
  have hmem := State.foldl_modMem_mem (fun h m => { m with keyEven := some (s.sec.draws + h), keyOdd := none, epoch := false }) (upto 16) s
  have hkeep := State.foldl_modMem_keeps (fun h m => { m with keyEven := some (s.sec.draws + h), keyOdd := none, epoch := false }) (upto 16) s s.mem
  have hget := fun h => Tbl.get_foldl_mod_upto s.mem (fun h m => { m with keyEven := some (s.sec.draws + h), keyOdd := none, epoch := false }) 16 h
  unfold State.tenantKeys
  dsimp only
  generalize (upto 16).foldl (fun t h => State.modMem t h (fun m => { m with keyEven := some (s.sec.draws + h), keyOdd := none, epoch := false })) s = t at *
  have hsec : t.sec = s.sec := (congrArg State.sec hkeep :)
  refine ⟨_, rfl, by rw [← hsec], (congrArg (fun x : State => { x with sec := s.sec }) hkeep :), fun h hh => ?_⟩
  exact (congrArg (fun x : Tbl Stack => x.get h) hmem).trans ((hget h).trans (if_pos hh))

/-- What an OPEN of a tenant changes. -/
theorem State.openSession_tenant (s : State) (p : HelloPath) {m : OpenMsg} (hr : m.role = 0) (o : Offer) :
    let t := s.openSession p m o
    t.sec = { s.sec with
      offers := s.sec.offers.filter (fun y => y.num != o.num), nextSession := s.sec.nextSession + 1, tenant := some (s.newSession m o), draws := s.sec.draws + 16, epoch := 0 } ∧
    t.top = s.top ∧ t.hbm = s.hbm ∧ (∀ h, h < 16 → t.mem.get h = { s.mem.get h with keyEven := some (s.sec.draws + h), keyOdd := none, epoch := false }) ∧
    (p = .doe → ∃ pre, t.out = pre ++ [.doe (leBytes 4 s.sec.nextSession ++ leBytes 8 0 ++ shake256 32 (openSecret o m ++ ascii "ACK" ++ leBytes 4 s.sec.nextSession))]) := by
  obtain ⟨u, hu, hsec, hkeep, hkeys⟩ := State.tenantKeys_spec
    { s with sec := { s.sec with offers := s.sec.offers.filter (fun y => y.num != o.num), nextSession := s.sec.nextSession + 1, tenant := some (s.newSession m o) } }
  have hraise := u.raise_vault 0xB003 pkgPlaza 0 (leBytes 4 s.sec.nextSession ++ [m.role])
  have heq : s.openSession p m o = (u.raise 0xB003 pkgPlaza 0 (leBytes 4 s.sec.nextSession ++ [m.role])).sendSession p .ok
      (leBytes 4 s.sec.nextSession ++ leBytes 8 (u.raise 0xB003 pkgPlaza 0 (leBytes 4 s.sec.nextSession ++ [m.role])).sec.epoch.toNat ++
        shake256 32 (openSecret o m ++ ascii "ACK" ++ leBytes 4 s.sec.nextSession)) := by
    rw [← hu]
    unfold State.openSession
    dsimp only
    rw [if_pos hr]
    rfl
  have hepoch : (u.raise 0xB003 pkgPlaza 0 (leBytes 4 s.sec.nextSession ++ [m.role])).sec.epoch = 0 := by rw [State.raise_sec, hsec]
  have hvault := (State.sendSession_vault (u.raise 0xB003 pkgPlaza 0 (leBytes 4 s.sec.nextSession ++ [m.role])) p .ok
    (leBytes 4 s.sec.nextSession ++ leBytes 8 (u.raise 0xB003 pkgPlaza 0 (leBytes 4 s.sec.nextSession ++ [m.role])).sec.epoch.toNat ++
        shake256 32 (openSecret o m ++ ascii "ACK" ++ leBytes 4 s.sec.nextSession))).trans hraise
  rw [← heq] at hvault
  refine ⟨(congrArg (fun v => v.1) hvault).trans hsec, (congrArg (fun v => v.2.2.1) hvault).trans (congrArg State.top hkeep :),
    (congrArg (fun v => v.2.2.2) hvault).trans (congrArg State.hbm hkeep :), fun h hh => ?_, fun hp => ?_⟩
  · exact (congrArg (fun v => v.2.1.get h) hvault).trans (hkeys h hh)
  · rw [heq, hp, hepoch]
    exact ⟨_, rfl⟩

/-- What an OPEN of a client changes. -/
theorem State.openSession_client (s : State) (p : HelloPath) {m : OpenMsg} (hr : m.role = 1) (o : Offer) :
    (s.openSession p m o).vault = ({ s.sec with
      offers := s.sec.offers.filter (fun y => y.num != o.num), nextSession := s.sec.nextSession + 1, clients := s.sec.clients ++ [s.newSession m o] }, s.mem, s.top, s.hbm) := by
  unfold State.openSession
  dsimp only
  rw [if_neg (by rw [hr]; decide)]
  exact (State.sendSession_vault ..).trans (State.raise_vault ..)

section OpenSession
variable {s : State} {m : OpenMsg} {via : HelloVia}

theorem openSession_refused (hup : s.viaUp via = true) {st : Status} (hc : s.openCheck m = some st) :
    ∃ t, exec (.openSession via m) s = .next t ∧ t.sec.refusals = satAdd s.sec.refusals 1 ∧ t.sec.tenant = s.sec.tenant ∧
      t.sec.clients = s.sec.clients ∧ t.sec.offers = s.sec.offers ∧ t.mem = s.mem ∧ t.top = s.top ∧ (via = .doe → ∃ pre, t.out = pre ++ [.doe [BitVec.ofNat 8 st.code]]) := by
  obtain ⟨hrefusals, htenant, hclients, hoffers, hmem, htop, hout⟩ := s.openRefused_spec (helloPath via) st
  refine ⟨_, ?_, hrefusals, htenant, hclients, hoffers, hmem, htop, fun hvia => hout (by rw [hvia]; rfl)⟩
  rw [exec_openSession, execOpenSession, if_pos hup, hc]
  rfl

theorem openSession_accepted (hup : s.viaUp via = true) (hc : s.openCheck m = none) {o : Offer} (ho : s.offerOf m = some o) :
    exec (.openSession via m) s = .next (s.openSession (helloPath via) m o) := by
  rw [exec_openSession, execOpenSession, if_pos hup, hc, ho]

end OpenSession

/-! ### The generator, key transport and two-party changes (R445, R446, R471) -/

theorem State.toFaulted_hbm (s : State) (doubt : Bool) : (s.toFaulted doubt).hbm = s.hbm := by
  have h := congrArg Prod.fst (State.toFaulted_hm s doubt)
  unfold State.hm at h
  exact h

theorem State.destroyKeys_trngFailed (s : State) : s.destroyKeys.sec.trngFailed = s.sec.trngFailed := rfl

theorem State.toFaulted_trngFailed (s : State) (doubt : Bool) : (s.toFaulted doubt).sec.trngFailed = s.sec.trngFailed := by
  have hstop : (if doubt then s.stopShallots else s).sec = s.sec := by cases doubt <;> simp
  unfold State.toFaulted
  rw [State.abortCmd_sec]
  dsimp only
  generalize (if doubt then s.stopShallots else s) = u at *
  rw [← hstop]
  split
  · exact u.destroyKeys_trngFailed
  · rfl

theorem State.lapse_spec {s : State} {x : PendingChange} (h : s.sec.pending = some x) :
    s.lapse.sec = { s.sec with pending := none } ∧ s.lapse.ev.head = s.ev.head + 1 ∧ s.lapse.top = s.top := by
  unfold State.lapse
  rw [h]
  exact ⟨State.raise_sec .., State.raise_head .., State.raise_top ..⟩

section Ends
variable {s : State}

theorem trngHealthFail_spec : ∃ t, exec .trngHealthFail s = .next t ∧ t.sec.trngFailed = true ∧ (s.top.state ≠ .off → t.top.state = .faulted) ∧
    (s.top.state = .off → t.top = s.top) ∧ t.hbm = s.hbm := by
  have hvault := State.raise_vault { s with sec := { s.sec with trngFailed := true } } 0xB00B pkgPlaza 0 []
  rw [exec_trngHealthFail, execTrngHealthFail]
  dsimp only
  generalize State.raise _ _ _ _ _ = u at *
  have hsec : u.sec.trngFailed = true := congrArg (fun v => v.1.trngFailed) hvault
  have htop : u.top = s.top := congrArg (fun v => v.2.2.1) hvault
  have hhbm : u.hbm = s.hbm := congrArg (fun v => v.2.2.2) hvault
  by_cases h : s.top.state = .faulted ∨ s.top.state = .off
  · rw [if_pos h]
    exact ⟨u, rfl, hsec, fun hoff => by rw [htop]; exact h.resolve_right hoff, fun _ => htop, hhbm⟩
  · rw [if_neg h]
    exact ⟨_, rfl, (State.toFaulted_trngFailed u true).trans hsec, fun _ => State.toFaulted_state u true, fun hoff => absurd (Or.inr hoff) h, (State.toFaulted_hbm u true).trans hhbm⟩

variable {p : PlazaNo}

theorem keyUnwrap_firstFail (h : s.sec.unwrapFails.get p.val = 0) : ∃ t, exec (.keyUnwrap p false) s = .next t ∧
    t.sec = { s.sec with unwrapFails := s.sec.unwrapFails.set p.val 1 } ∧ t.top = s.top ∧ t.ev.head = s.ev.head + 1 := by
  rw [exec_keyUnwrap, execKeyUnwrap]
  dsimp only
  rw [h]
  exact ⟨_, rfl, State.raise_sec .., State.raise_top .., State.raise_head ..⟩

theorem keyUnwrap_secondFail (h : s.sec.unwrapFails.get p.val = 1) : ∃ t, exec (.keyUnwrap p false) s = .next t ∧ t.top.state = .faulted := by
  rw [exec_keyUnwrap, execKeyUnwrap]
  dsimp only
  rw [h]
  refine ⟨_, rfl, ?_⟩
  by_cases hstate : s.top.state = .faulted
  · rw [if_neg (fun hn => hn.2 hstate)]
    exact (congrArg Top.state (State.raise_top ..)).trans hstate
  · rw [if_pos ⟨Nat.le_refl 2, hstate⟩]
    exact State.toFaulted_state _ _

theorem quorumLapse_none (h : s.sec.pending = none) : exec .quorumLapse s = .next s := by
  rw [exec_quorumLapse, execQuorumLapse, h]

variable {x : PendingChange} (hx : s.sec.pending = some x)
include hx

theorem quorumLapse_early (h : s.top.now < x.since + 600000000000) : exec .quorumLapse s = .next s := by
  rw [exec_quorumLapse, execQuorumLapse, hx]
  exact congrArg Host.Outcome.next (if_neg (Nat.not_le.2 h))

theorem quorumLapse_due (h : x.since + 600000000000 ≤ s.top.now) : ∃ t, exec .quorumLapse s = .next t ∧ t.sec = { s.sec with pending := none } ∧ t.ev.head = s.ev.head + 1 ∧ t.top = s.top := by
  rw [exec_quorumLapse, execQuorumLapse, hx]
  exact ⟨_, congrArg Host.Outcome.next (if_pos h), State.lapse_spec hx⟩

end Ends

/-! ### Reports over Mews -/

section Mews
variable {s t : State} {r : MewsReq}

theorem attest_served (h : s.mewsGate opAttest r t) (hstate : t.mewsState opAttest = true) (hlen : r.body.length = 32) :
    exec (.attest r) s = .next (t.hello { path := .mews r.port.val r.tag r.cred r.seq, nonce := r.body }) := by
  rw [exec_attest, execAttest, bne_eq_false_iff_eq.2 hlen]
  exact congrArg Host.Outcome.next (State.mewsServe_gate h hstate _)

theorem certChain_served (h : s.mewsGate opCertChain r t) (hstate : t.mewsState opCertChain = true) (hlen : r.body.length = 4) (hid : t.sec.identity = true)
    (hpart : ((Sys2Proof.Config.certChain t.sec.identityGen).drop (16384 * leVal r.body)).take 16384 ≠ []) :
    exec (.certChain r) s = .next (t.mewsAnswer opCertChain r .ok (((Sys2Proof.Config.certChain t.sec.identityGen).drop (16384 * leVal r.body)).take 16384)) := by
  have hsec : t.sec = s.sec := by
    obtain ⟨w, rfl⟩ := State.mewsGate_rest h
    rfl
  have hnum : bodyNum r.body 0 4 = leVal r.body := by
    unfold bodyNum
    rw [List.drop_zero, List.take_of_length_le (Nat.le_of_eq hlen)]
  rw [exec_certChain, execCertChain, bne_eq_false_iff_eq.2 hlen, hnum, ← hsec]
  refine congrArg Host.Outcome.next ((State.mewsServe_gate h hstate _).trans ?_)
  dsimp only
  rw [if_pos hid]
  exact if_neg (fun he => hpart (List.isEmpty_iff.1 he))

end Mews

theorem State.reportHead_spelled (s : State) : s.reportHead = leBytes 2 1 ++
    leBytes 2 (s.sec.lifecycle + 8 * (if s.sec.rot then 1 else 0) + 16 * (if s.sec.tenant.isSome then 1 else 0) + 32 * (if s.sec.debug then 1 else 0)) ++
    leBytes 4 s.top.identity.toNat ++ leBytes 8 s.sec.policy.toNat := rfl

/-- Settles O40: the branches of HELLO and OPEN, and what their effects keep. -/
theorem sessions : Obligations.Sessions := by
  intro via nonce m p r w o x s t0
  dsimp only
  refine ⟨?_, ?_, attest_served, certChain_served, ?_, State.hello_noIdentity, ?_, ?_, fun f => State.offerOf_some, fun hup => ?_, rfl, trngHealthFail_spec, rfl,
    keyUnwrap_firstFail, keyUnwrap_secondFail, quorumLapse_none, quorumLapse_early, quorumLapse_due⟩
  case refine_1 =>
    intro h
    refine ⟨?_, ?_⟩
    · rw [exec_hello, execHello, h, if_neg Bool.false_ne_true]
    · rw [exec_openSession, execOpenSession, h, if_neg Bool.false_ne_true]
  case refine_2 =>
    intro h
    rw [exec_hello, execHello, if_pos h]
  case refine_3 =>
    intro hcan hspent
    obtain ⟨⟨low, hsec⟩, htop, hmem, hout⟩ := s.sendReport_spec w
    obtain ⟨pre, hoffers, hlen⟩ := drop_last_kept s.sec.offers (s.newOffer w)
    rw [State.hello_signed hcan hspent, hsec]
    dsimp only
    rw [hoffers]
    refine ⟨rfl, rfl, rfl, hlen, ⟨pre, s.reportBody w.nonce, rfl, (s.reportBody_head _).trans s.reportHead_spelled, s.reportBody_nonce, hout⟩, htop, hmem⟩
  case refine_4 => exact State.hello_waits
  case refine_5 =>
    intro hcan hspent hwait hopen
    have hvault := (State.sendSession_vault s.nvRefuse w.path .temperatureBlocked [BitVec.ofNat 8 Status.temperatureBlocked.code]).trans s.nvRefuse_vault
    rw [State.hello_blocked hcan hspent hwait hopen]
    exact ⟨congrArg (fun v => v.1) hvault, congrArg (fun v => v.2.2.1) hvault, (congrArg PkgPwr.nvBlocked (State.sendSession_pp ..)).trans s.nvRefuse_spec.2.1⟩
  case refine_6 =>
    refine ⟨fun h => openSession_refused hup (State.openCheck_unformed h), fun hf hl => openSession_refused hup (State.openCheck_early hf hl),
      fun hf hl ho => openSession_refused hup (State.openCheck_noOffer hf hl ho), fun hf hl ho hc => openSession_refused hup (State.openCheck_unconfirmed hf hl ho hc), ?_, ?_, ?_, ?_, ?_⟩
    case refine_1 =>
      intro ⟨hf, hl, ho, hc⟩ hr hi
      exact openSession_refused hup ((State.openCheck_owned hf hl ho hc).trans (State.openRole_busy hr hi))
    case refine_2 =>
      intro ⟨hf, hl, ho, hc⟩ hr hi him
      exact openSession_refused hup ((State.openCheck_owned hf hl ho hc).trans (State.openRole_other hr hi him))
    case refine_3 =>
      intro ⟨hf, hl, ho, hc⟩ hr hno
      exact openSession_refused hup ((State.openCheck_owned hf hl ho hc).trans (State.openRole_noClient hr hno))
    case refine_4 =>
      intro ⟨hf, hl, ho, hc⟩ hr hi him
      have hexec := openSession_accepted hup ((State.openCheck_owned hf hl ho hc).trans (State.openRole_tenant hr hi him)) ho
      obtain ⟨hsec, htop, hhbm, hkeys, hout⟩ := s.openSession_tenant (helloPath via) hr o
      refine ⟨_, s.newSession m o, hexec, ?_⟩
      rw [hsec]
      exact ⟨rfl, rfl, Bool.beq_eq_decide_eq _ _, rfl, rfl, rfl, rfl, rfl, rfl, rfl, rfl, htop, hhbm, hkeys, fun hvia => hout (by rw [hvia]; rfl)⟩
    case refine_5 =>
      intro e ⟨hf, hl, ho, hc⟩ hr ht he hroom
      have hexec := openSession_accepted hup ((State.openCheck_owned hf hl ho hc).trans (State.openRole_client hr ht he hroom)) ho
      have hvault := s.openSession_client (helloPath via) hr o
      have hsec := congrArg (fun v => v.1) hvault
      exact ⟨_, s.newSession m o, hexec, (congrArg Sec.clients hsec :), rfl, (congrArg Sec.nextSession hsec :), (congrArg Sec.tenant hsec :), (congrArg Sec.epoch hsec :),
        congrArg (fun v => v.2.1) hvault, congrArg (fun v => v.2.2.1) hvault, (congrArg Sec.refusals hsec :)⟩

end Sys2Proof.Machine
end

section
/-! PROOF. A store of Reach at a package whose gateway table lists gateway 0 twice (R329, R333). -/
namespace Sys2Proof.Machine

/-- Region 3: exported, and written by Reach under key 5. -/
def reachRegion3 : Region where
  flags := 0x12
  stackMask := 1
  size := 2 ^ 20
  key := 5

/-- A gateway in whose stamp buffer a DEP store of SEQ 1 waits for SEQ 0. -/
def depWaits : Gateway where
  stamped := [{ hdr := { op := 2, flags := 2, seq := 1, region := 3, key := 5 }, dep := true }]

/-- A loaded package that claims sub-port 0 and region 3 for Reach, whose gateway table has two entries of number 0: the first, which `get` reads, is as at reset; in the second one a DEP store
waits. -/
def twoGateways : State where
  top := { state := .loaded }
  img :=
    { image := some
        { regions := Tbl.set {} 3 (some reachRegion3)
          claims := [{ resource := 2, feature := 0x11, index := 0, count := 1 }, { resource := 9, feature := 0x11, index := 3, count := 1 }]
          reach := some (0, 10, 7) }
      stagingMiB := 1 }
  net := { gw := ⟨[(0, {}), (0, depWaits)]⟩ }

/-- A request without data of SEQ 0. -/
def reachFirst : ReachIn where
  region := 3
  key := 5

/-- The request is accepted, new, and no DEP store is seen to wait. -/
theorem reachFirst_accepted :
    (twoGateways.claimed 2 0x11 reachFirst.sub.val = true ∧ twoGateways.netOpen = true ∧ reachFirst.version = 1) ∧
    (twoGateways.seq.replay = false ∧ reachFirst.dst.val = twoGateways.ownIndex ∧ reachFirst.data.length = reachFirst.length.toNat) ∧
    ((twoGateways.net.wins.get 0).has 0 = false ∧ (twoGateways.net.wins.get 0).beyond 0 = false ∧ (∀ k, k < 2 → (twoGateways.net.gw.get k).stamped = [])) ∧
    twoGateways.reachRegion (reachFirst.hdr 2) = some reachRegion3 ∧ reachRegion3.scheduled = false := by decide +kernel

/-- The window's base passes SEQ 0 alone. -/
theorem take_first_base : ((twoGateways.net.wins.get 0).take 0).base = 1 := by decide +kernel

/-- Once the request has been dealt with, the first entry of gateway 0 is dropped, the DEP store comes to light and takes SEQ 1. -/
theorem reachStore_twice : ∃ t, exec (.reachStore reachFirst) twoGateways = .next t ∧ (t.net.wins.get 0).base = 2 := by
  rw [exec_reachStore, execReachStore]
  exact ⟨_, rfl, by decide +kernel⟩

/-- Refutes O41: where the gateway table lists a gateway twice, a DEP store of the hidden entry comes to light once a request has been dealt with, and its SEQ enters the window as well. -/
theorem not_reachRequests : ¬ Obligations.ReachRequests := by
  unfold Obligations.ReachRequests
  intro h
  obtain ⟨-, -, -, -, -, -, -, -, -, -, -, hstore, -⟩ := h reachFirst {} twoGateways twoGateways reachRegion3 []
  obtain ⟨hopen, ⟨hlive, hown, hlen⟩, ⟨hhas, hbeyond, hnone⟩, hregion, hunsched⟩ := reachFirst_accepted
  have hseen : ∀ k, k < 2 → ∀ x ∈ (twoGateways.net.gw.get k).stamped, False := fun k hk x hx => by
    rw [hnone k hk] at hx
    exact List.not_mem_nil hx
  obtain ⟨happlied, -⟩ := hstore ⟨⟨hopen, hlive, hown⟩, hlen, ⟨hhas, hbeyond, fun k hk x hx _ => hseen k hk x hx⟩, hregion⟩ (by decide) (fun k hk x hx => (hseen k hk x hx).elim) (Or.inl (by decide))
  obtain ⟨t, hexec, -, -, -, -, htaken, -⟩ := happlied hunsched
  obtain ⟨u, htwice, hbase⟩ := reachStore_twice
  obtain rfl := Host.Outcome.next.inj (hexec.symm.trans htwice)
  have htwo := (congrArg ReachWin.base htaken).symm.trans hbase
  exact absurd (take_first_base.symm.trans htwo) (by decide)

end Sys2Proof.Machine
end

section
/-! PROOF. A staging request at a package whose gateway table lists gateway 0 twice (R329, R333, R347). -/
namespace Sys2Proof.Machine

/-- A STAGE_WRITE without data of SEQ 0. -/
def stageFirst : ReachIn where
  key := 7

/-- The request is accepted and new, and no DEP store is seen to wait. -/
theorem stageFirst_accepted :
    (twoGateways.claimed 2 0x11 stageFirst.sub.val = true ∧ twoGateways.netOpen = true ∧ stageFirst.version = 1) ∧
    (stageFirst.dst.val = twoGateways.ownIndex ∧ twoGateways.stageKeyOk stageFirst.key = true ∧ stageFirst.data.length = stageFirst.length.toNat) ∧
    ((twoGateways.net.wins.get 0).has 0 = false ∧ (twoGateways.net.wins.get 0).beyond 0 = false ∧ (∀ k, k < 2 → (twoGateways.net.gw.get k).stamped = [])) := by decide +kernel

/-- Once the request has been dealt with, the DEP store of the second entry comes to light and takes SEQ 1. -/
theorem stageWrite_twice : ∃ t, exec (.stageWrite stageFirst) twoGateways = .next t ∧ (t.net.wins.get 0).base = 2 := by
  rw [exec_stageWrite, execStageWrite]
  exact ⟨_, rfl, by decide +kernel⟩

/-- Refutes O42: where the gateway table lists a gateway twice, a DEP store of the hidden entry comes to light once a staging request has been dealt with, and its SEQ enters the window as well. -/
theorem not_reachService : ¬ Obligations.ReachService := by
  unfold Obligations.ReachService
  intro h
  obtain ⟨-, -, -, -, -, -, -, -, -, -, -, -, -, -, -, -, -, -, -, -, hstage, -⟩ :=
    h stageFirst {} none 0 0 0 0 0 0 0 0 twoGateways default default default 0 []
  obtain ⟨hopen, ⟨hown, hkey, hlen⟩, ⟨hhas, hbeyond, hnone⟩⟩ := stageFirst_accepted
  have hcalm : ∀ k, k < 2 → ∀ x ∈ (twoGateways.net.gw.get k).stamped, x.dep = false := fun k hk x hx => by
    rw [hnone k hk] at hx
    exact nomatch hx
  obtain ⟨t, hexec, htaken, -⟩ := hstage ⟨hcalm, hopen, hown, hkey, hhas, hbeyond⟩ hlen
  obtain ⟨u, htwice, hbase⟩ := stageWrite_twice
  obtain rfl := Host.Outcome.next.inj (hexec.symm.trans htwice)
  have htwo := (congrArg ReachWin.base htaken).symm.trans hbase
  exact absurd (take_first_base.symm.trans htwo) (by decide)

end Sys2Proof.Machine
end

section
/-! PROOF. The completion of a Reach store at a package whose gateway table lists gateway 0 twice (R329, R333). -/
namespace Sys2Proof.Machine

/-- Refutes O59: the store of O41 completes with the SEQ of a hidden DEP store in the window as well. -/
theorem not_networkAndReachCommandsComplete : ¬ Obligations.NetworkAndReachCommandsComplete := by
  unfold Obligations.NetworkAndReachCommandsComplete
  intro h
  obtain ⟨-, -, -, -, -, -, -, -, -, -, -, -, -, -, -, -, -, -, hstore, -⟩ :=
    h 0 0 0 false 0 default 0 0 0 default 0 [] 0 default .doe [] {} reachFirst {} none 0 0 0 0 0 0 0 twoGateways twoGateways default reachRegion3 default default default default [] [] default
      default default default default default []
  obtain ⟨⟨hclaimed, hnet, hversion⟩, ⟨hlive, hown, hlen⟩, ⟨hhas, hbeyond, hnone⟩, hregion, hunsched⟩ := reachFirst_accepted
  have hseen : ∀ k, k < 2 → ∀ x ∈ (twoGateways.net.gw.get k).stamped, False := fun k hk x hx => by
    rw [hnone k hk] at hx
    exact List.not_mem_nil hx
  obtain ⟨t, hexec, -, htaken⟩ := hstore ⟨⟨hclaimed, hnet, hversion, hown⟩, hlive, by decide, hhas, hbeyond, fun k hk x hx _ => hseen k hk x hx⟩ hlen hregion
    (fun k hk x hx => (hseen k hk x hx).elim) (by decide) hunsched
  obtain ⟨u, htwice, hbase⟩ := reachStore_twice
  obtain rfl := Host.Outcome.next.inj (hexec.symm.trans htwice)
  have htwo := (congrArg ReachWin.base htaken).symm.trans hbase
  exact absurd (take_first_base.symm.trans htwo) (by decide)

end Sys2Proof.Machine
end

section
/-! PROOF. The Operate requests of Mews, and the firmware store (R192, R208, R392, R421, R476, R481, R488, R498, R499, R502). -/
namespace Sys2Proof.Machine

/-! ### A request that runs and ends at once -/

/-- The state in which a request of Mews is the command that runs. -/
def State.runsAs (t : State) (o : MewsOp) (m : MewsReq) : State := { t with host := { t.host with running := some (mewsCmd o m) } }

/-- The state once no command runs. -/
def State.noneRuns (t : State) : State := { t with host := { t.host with running := none } }

/-- An Operate, Signed or Quorum request that is well formed and accepted, while no command runs, becomes the command that runs. -/
theorem State.mewsRun_gate {s t : State} {o : MewsOp} {m : MewsReq} (h : s.mewsGate o m t) (hstate : t.mewsState o = true) (hnone : t.host.running = none) (run : State → State) :
    s.mewsRun o m false run = run (t.runsAs o m) := by
  unfold State.mewsRun
  rw [State.mewsReceive_gate h, if_neg Bool.false_ne_true, hstate, hnone]
  rfl

/-- The end of a request of Mews other than HOST_COMMAND is its answer with the words of its result. -/
theorem State.endCmd_mews {u : State} {o : MewsOp} {m : MewsReq} (hrun : u.cmd = some (mewsCmd o m)) (hcode : o.code ≠ 0x20) (st : Status) (res : List Word) :
    u.endCmd st res = u.noneRuns.mewsAnswer o m st (res.flatMap (fun w => leBytes 4 w.toNat)) := by
  unfold State.endCmd
  unfold State.cmd at hrun
  rw [hrun]
  unfold State.answerCmd
  exact congrArg (fun b => u.noneRuns.mewsReply m.port.val o.code m.tag m.cred m.seq st true b) (if_neg hcode)

/-- A host interface on which nothing ran is as before once nothing runs on it. -/
theorem HostIf.running_none {x : HostIf} (h : x.running = none) : ({ x with running := none } : HostIf) = x := by rw [← h]

/-- A request that ran and has ended leaves the host interface as it was. -/
theorem State.runsAs_noneRuns {t : State} (h : t.host.running = none) (o : MewsOp) (m : MewsReq) : (t.runsAs o m).noneRuns = t := by
  unfold State.runsAs State.noneRuns
  dsimp only
  rw [HostIf.running_none h]

/-- A request of Mews whose effect ends at once. -/
theorem State.mewsRun_ends {s t : State} {o : MewsOp} {m : MewsReq} (h : s.mewsGate o m t) (hfree : t.mewsFree o) (hcode : o.code ≠ 0x20) {run : State → State} {u : State} {st : Status}
    {res : List Word} (hrun : run (t.runsAs o m) = u.endCmd st res) (hcmd : u.cmd = some (mewsCmd o m)) {bad : Bool} (hbad : bad = false) :
    s.mewsRun o m bad run = u.noneRuns.mewsAnswer o m st (res.flatMap (fun w => leBytes 4 w.toNat)) := by
  obtain ⟨hstate, hnone, -⟩ := hfree
  rw [hbad, State.mewsRun_gate h hstate hnone, hrun, State.endCmd_mews hcmd hcode]

section Requests
variable {s t : State} {m : MewsReq}

/-! ### STAGE_WRITE, TIME_SOURCE, MGMT_NET_SET -/

theorem mewsStageWrite_ends (h : s.mewsGate opStageWrite m t) (hfree : t.mewsFree opStageWrite) (hlen : 8 ≤ m.body.length) :
    exec (.mewsStageWrite m) s = .next (if leVal ((m.body.drop 0).take 8) + (m.body.drop 8).length ≤ t.img.stagingMiB * 2 ^ 20 then
      ({ t with img := t.img.setIncoming (t.img.incoming.setRun (leVal ((m.body.drop 0).take 8)) (m.body.drop 8)) } : State).mewsAnswer opStageWrite m .ok []
      else t.mewsAnswer opStageWrite m .badArgument []) := by
  rw [exec_mewsStageWrite, execMewsStageWrite]
  refine congrArg Host.Outcome.next ?_
  by_cases hfits : leVal ((m.body.drop 0).take 8) + (m.body.drop 8).length ≤ t.img.stagingMiB * 2 ^ 20
  · have hbytes : (t.runsAs opStageWrite m).stageBytes (bodyNum m.body 0 8) (m.body.drop 8) =
        some { t.runsAs opStageWrite m with img := t.img.setIncoming (t.img.incoming.setRun (leVal ((m.body.drop 0).take 8)) (m.body.drop 8)) } := if_pos hfits
    rw [if_pos hfits]
    refine (State.mewsRun_ends h hfree (by decide) (by rw [hbytes]) rfl (decide_eq_false (Nat.not_lt.2 hlen))).trans ?_
    exact congrArg (fun x => ({ t with img := t.img.setIncoming (t.img.incoming.setRun (leVal ((m.body.drop 0).take 8)) (m.body.drop 8)), host := x } : State).mewsAnswer opStageWrite m .ok [])
      (HostIf.running_none hfree.2.1)
  · have hbytes : (t.runsAs opStageWrite m).stageBytes (bodyNum m.body 0 8) (m.body.drop 8) = none := if_neg hfits
    rw [if_neg hfits]
    refine (State.mewsRun_ends h hfree (by decide) (by rw [hbytes]) rfl (decide_eq_false (Nat.not_lt.2 hlen))).trans ?_
    rw [State.runsAs_noneRuns hfree.2.1]
    rfl

/-- Where the effect of a request changes Mews alone. -/
theorem State.noneRuns_mews (hnone : t.host.running = none) (o : MewsOp) (x : Mews) : ({ t.runsAs o m with mews := x } : State).noneRuns = { t with mews := x } :=
  congrArg (fun x' => ({ t with mews := x, host := x' } : State)) (HostIf.running_none hnone)

theorem timeSource_claimed (h : s.mewsGate opTimeSource m t) (hfree : t.mewsFree opTimeSource) (hbody : m.body = [])
    (hclaim : (t.img.image.bind (fun i => i.claimOf 1 0)).isSome = true) : exec (.timeSource m) s = .next (t.mewsAnswer opTimeSource m .claimed []) := by
  have hbad : (m.body.length != 0) = false := by rw [hbody]; rfl
  rw [exec_timeSource, execTimeSource]
  refine congrArg Host.Outcome.next ((State.mewsRun_ends h hfree (u := t.runsAs opTimeSource m) (by decide) (by exact if_pos hclaim) rfl hbad).trans ?_)
  rw [State.runsAs_noneRuns hfree.2.1]
  rfl

theorem timeSource_set (h : s.mewsGate opTimeSource m t) (hfree : t.mewsFree opTimeSource) (hbody : m.body = [])
    (hclaim : (t.img.image.bind (fun i => i.claimOf 1 0)).isSome = false) : exec (.timeSource m) s =
      .next (({ t with mews := { t.mews with timeSource := true } } : State).mewsAnswer opTimeSource m .ok []) := by
  have hbad : (m.body.length != 0) = false := by rw [hbody]; rfl
  rw [exec_timeSource, execTimeSource]
  refine congrArg Host.Outcome.next ((State.mewsRun_ends h hfree (u := { t.runsAs opTimeSource m with mews := { t.mews with timeSource := true } }) (by decide)
    (by exact if_neg (fun hc => Bool.false_ne_true (hclaim.symm.trans hc))) rfl hbad).trans ?_)
  rw [State.noneRuns_mews hfree.2.1]
  rfl

/-- MGMT_NET_SET once it runs: the address is added or removed. -/
def netChange (b : List Byte) (r : State) : State :=
  let a : BitVec 128 := BitVec.ofNat 128 (bodyNum b 1 16)
  let l := r.mews.ipv6
  if bodyAt b 0 = 1 then (if l.contains a then State.endCmd { r with mews := { r.mews with ipv6 := l.erase a } } .ok [] else r.endCmd .badArgument [])
  else if l.contains a then r.endCmd .ok []
  else if 2 ≤ l.length then r.endCmd .badArgument []
  else State.endCmd { r with mews := { r.mews with ipv6 := l ++ [a] } } .ok []

theorem mgmtNetSet_ends (h : s.mewsGate opMgmtNetSet m t) (hfree : t.mewsFree opMgmtNetSet) (hlen : m.body.length = 17) (hop : bodyAt m.body 0 ≤ 1) {st : Status} {l : List (BitVec 128)}
    (hdo : netChange m.body (t.runsAs opMgmtNetSet m) = State.endCmd { t.runsAs opMgmtNetSet m with mews := { t.mews with ipv6 := l } } st []) :
    exec (.mgmtNetSet m) s = .next (({ t with mews := { t.mews with ipv6 := l } } : State).mewsAnswer opMgmtNetSet m st []) := by
  have hbad : (m.body.length != 17 || decide (1 < bodyAt m.body 0)) = false := by rw [hlen, decide_eq_false (Nat.not_lt.2 hop)]; rfl
  rw [exec_mgmtNetSet, execMgmtNetSet]
  refine congrArg Host.Outcome.next ((State.mewsRun_ends h hfree (by decide) hdo rfl hbad).trans ?_)
  exact congrArg (fun x => State.mewsAnswer x opMgmtNetSet m st []) (State.noneRuns_mews hfree.2.1 opMgmtNetSet { t.mews with ipv6 := l })

/-! ### CONDUCTOR_RESET (R392) -/

theorem conductorReset_released (h : s.mewsGate opConductorReset m t) (hfree : t.mewsFree opConductorReset) (hlen : m.body.length = 1) (hone : bodyAt m.body 0 ≤ 1)
    (hlock : (t.cond.of (bodyAt m.body 0 == 1)).state = .lockedOut) :
    exec (.conductorReset m) s = .next ((t.modConductor (bodyAt m.body 0 == 1) (fun k => { k with state := .failed })).mewsAnswer opConductorReset m .ok []) := by
  have hbad : (m.body.length != 1 || decide (1 < bodyAt m.body 0)) = false := by rw [hlen, decide_eq_false (Nat.not_lt.2 hone)]; rfl
  rw [exec_conductorReset, execConductorReset]
  refine congrArg Host.Outcome.next ((State.mewsRun_ends h hfree (u := (t.runsAs opConductorReset m).modConductor (bodyAt m.body 0 == 1) (fun k => { k with state := .failed })) (by decide)
    (by exact if_pos hlock) rfl hbad).trans ?_)
  exact congrArg (fun x => ({ t with cond := t.cond.modOf (bodyAt m.body 0 == 1) (fun k => { k with state := .failed }), host := x } : State).mewsAnswer opConductorReset m .ok [])
    (HostIf.running_none hfree.2.1)

theorem conductorReset_refused (h : s.mewsGate opConductorReset m t) (hfree : t.mewsFree opConductorReset) (hlen : m.body.length = 1) (hone : bodyAt m.body 0 ≤ 1)
    (hlock : (t.cond.of (bodyAt m.body 0 == 1)).state ≠ .lockedOut) : exec (.conductorReset m) s = .next (t.mewsAnswer opConductorReset m .stateRefused []) := by
  have hbad : (m.body.length != 1 || decide (1 < bodyAt m.body 0)) = false := by rw [hlen, decide_eq_false (Nat.not_lt.2 hone)]; rfl
  rw [exec_conductorReset, execConductorReset]
  refine congrArg Host.Outcome.next ((State.mewsRun_ends h hfree (u := t.runsAs opConductorReset m) (by decide) (by exact if_neg hlock) rfl hbad).trans ?_)
  rw [State.runsAs_noneRuns hfree.2.1]
  rfl

end Requests

/-! ### FREQ_SET (R421, R423) -/

/-- The clock of shallot n may have been lowered, its target as it was; nothing else is different but the event log. -/
structure ClockOnly (n : Nat) (s t : State) : Prop where
  target : (t.shal n).clk.target = (s.shal n).clk.target
  others : ∀ k, k ≠ n → t.shal k = s.shal k
  top : t.top = s.top
  hm : t.hm = s.hm
  seq : t.seq = s.seq
  cmd : t.cmd = s.cmd

theorem ClockOnly.refl (n : Nat) (s : State) : ClockOnly n s s := ⟨rfl, fun _ _ => rfl, rfl, rfl, rfl, rfl⟩

theorem ClockOnly.trans {n : Nat} {s t u : State} (h : ClockOnly n s t) (g : ClockOnly n t u) : ClockOnly n s u :=
  ⟨g.target.trans h.target, fun k hk => (g.others k hk).trans (h.others k hk), g.top.trans h.top, g.hm.trans h.hm, g.seq.trans h.seq, g.cmd.trans h.cmd⟩

theorem ClockOnly.modSh (n : Nat) (s : State) (f : Shallot → Shallot) (hf : ∀ h, (f h).clk.target = h.clk.target) : ClockOnly n s (s.modSh n f) :=
  ⟨by rw [State.modSh_shal_self, hf], fun _ hk => State.modSh_shal_ne _ _ hk, rfl, State.modSh_hm _ _ _, rfl, rfl⟩

theorem ClockOnly.raise (n : Nat) (s : State) (code plaza unit : Nat) (detail : List Byte) : ClockOnly n s (s.raise code plaza unit detail) :=
  ⟨by rw [State.raise_shal], fun _ _ => State.raise_shal .., State.raise_top .., State.raise_hm .., State.raise_seq .., State.raise_cmd ..⟩

theorem ClockOnly.modClk (n : Nat) (s : State) (f : ShClock → ShClock) (hf : ∀ c, (f c).target = c.target) : ClockOnly n s (s.modClk n f) :=
  ClockOnly.modSh n s (fun h => { h with clk := f h.clk }) (fun h => hf h.clk)

/-- A stop begins. -/
def Shallot.stopBegun (h : Shallot) (down : Bool) : Shallot :=
  { h with
    stopCount := satAdd h.stopCount 1, stopInside := h.standsElse false != .none,
    clk := { h.clk with stopNs := 2000, downCount := satAdd h.clk.downCount (b2n down), upCount := satAdd h.clk.upCount (b2n (!down)) } }

theorem Shallot.stopBegun_target (h : Shallot) (down : Bool) : (h.stopBegun down).clk.target = h.clk.target := rfl

theorem State.beginStop_cases (s : State) (n : Nat) : s.beginStop n = s ∨ ∃ down detail, s.beginStop n = s.modSh n (fun h => h.stopBegun down) ∨
    s.beginStop n = (s.modSh n (fun h => h.stopBegun down)).raise 0x9001 n 0 detail := by
  unfold State.beginStop Shallot.stopBegun
  dsimp only
  split
  · exact Or.inl rfl
  · rename_i f _ _
    refine Or.inr ⟨decide (f < (s.shal n).clk.code), [BitVec.ofNat 8 f], ?_⟩
    split
    · exact Or.inr rfl
    · exact Or.inl rfl

theorem ClockOnly.beginStop (n : Nat) (s : State) : ClockOnly n s (s.beginStop n) := by
  obtain h | ⟨down, detail, h | h⟩ := s.beginStop_cases n
  · rw [h]
    exact ClockOnly.refl n s
  · rw [h]
    exact ClockOnly.modSh n s _ (fun x => x.stopBegun_target down)
  · rw [h]
    exact (ClockOnly.modSh n s _ (fun x => x.stopBegun_target down)).trans (ClockOnly.raise ..)

theorem ClockOnly.demandCode (n : Nat) (s : State) (f : Nat) : ClockOnly n s (s.demandCode n f) := by
  have h := ClockOnly.modClk n s (fun c => { c with demands := c.demands ++ [f] }) (fun _ => rfl)
  unfold State.demandCode
  dsimp only
  split
  · exact h.trans (ClockOnly.beginStop ..)
  · exact h

theorem ClockOnly.lowerTo (n : Nat) (s : State) (f k : Nat) : ClockOnly n s (s.lowerTo n f k) := by
  induction k generalizing s with
  | zero => exact ClockOnly.refl n s
  | succ k ih =>
    unfold State.lowerTo
    split
    · exact (ClockOnly.demandCode n s _).trans (ih _)
    · exact ClockOnly.refl n s

/-- What FREQ_SET and a write of FREQ_TARGET change. -/
theorem State.setTarget_spec (s : State) (n : Nat) (v : Word) :
    ((s.setTarget n v).shal n).clk.target = v &&& 0x7F ∧ (∀ k, k ≠ n → (s.setTarget n v).shal k = s.shal k) ∧ (s.setTarget n v).top = s.top ∧ (s.setTarget n v).hm = s.hm ∧
    (s.setTarget n v).seq = s.seq ∧ (s.setTarget n v).cmd = s.cmd := by
  have hset : ((s.modClk n (fun c => { c with target := v &&& 0x7F })).shal n).clk.target = v &&& 0x7F := by
    unfold State.modClk
    rw [State.modSh_shal_self]
  have hkeep : ∀ k, k ≠ n → (s.modClk n (fun c => { c with target := v &&& 0x7F })).shal k = s.shal k := fun k hk => State.modSh_shal_ne _ _ hk
  have hhm : (s.modClk n (fun c => { c with target := v &&& 0x7F })).hm = s.hm := State.modSh_hm _ _ _
  unfold State.setTarget
  dsimp only
  split
  · have h := ClockOnly.lowerTo n (s.modClk n (fun c => { c with target := v &&& 0x7F })) (appliedCode s.top.identity v) 128
    exact ⟨h.target.trans hset, fun k hk => (h.others k hk).trans (hkeep k hk), h.top, h.hm.trans hhm, h.seq, h.cmd⟩
  · exact ⟨hset, hkeep, rfl, hhm, rfl, rfl⟩

theorem and_7F_of_le {n : Nat} (h : n ≤ 127) : (BitVec.ofNat 32 n) &&& 0x7F = BitVec.ofNat 32 n := by
  refine BitVec.eq_of_toNat_eq ?_
  have hmask : (0x7F : Word).toNat = 2 ^ 7 - 1 := rfl
  rw [BitVec.toNat_and, BitVec.toNat_ofNat, hmask, Nat.and_two_pow_sub_one_eq_mod]
  omega

theorem freqSet_ends {s t : State} {m : MewsReq} (h : s.mewsGate opFreqSet m t) (hfree : t.mewsFree opFreqSet) (hlen : m.body.length = 2) (hsh : bodyAt m.body 0 ≤ 7) (hcode : bodyAt m.body 1 ≤ 127) :
    ∃ u : State, exec (.freqSet m) s = .next (u.mewsAnswer opFreqSet m .ok []) ∧ (u.shal (bodyAt m.body 0)).clk.target = BitVec.ofNat 32 (bodyAt m.body 1) ∧
      (∀ n, n ≠ bodyAt m.body 0 → u.shal n = t.shal n) ∧ u.top = t.top ∧ u.hbm = t.hbm ∧ u.seq = t.seq := by
  have hbad : (m.body.length != 2 || decide (7 < bodyAt m.body 0) || decide (127 < bodyAt m.body 1)) = false := by
    rw [hlen, decide_eq_false (Nat.not_lt.2 hsh), decide_eq_false (Nat.not_lt.2 hcode)]
    rfl
  obtain ⟨htarget, hothers, htop, hhm, hseq, hcmd⟩ := (t.runsAs opFreqSet m).setTarget_spec (bodyAt m.body 0) (BitVec.ofNat 32 (bodyAt m.body 1))
  unfold State.hm at hhm
  refine ⟨((t.runsAs opFreqSet m).setTarget (bodyAt m.body 0) (BitVec.ofNat 32 (bodyAt m.body 1))).noneRuns, ?_, htarget.trans (and_7F_of_le hcode), hothers, htop, congrArg Prod.fst hhm, hseq⟩
  rw [exec_freqSet, execFreqSet]
  exact congrArg Host.Outcome.next (State.mewsRun_ends h hfree (u := (t.runsAs opFreqSet m).setTarget (bodyAt m.body 0) (BitVec.ofNat 32 (bodyAt m.body 1))) (res := []) (by decide) rfl hcmd hbad)

/-! ### FIELD_TEST (R502) -/

/-- The state with another host interface. -/
def State.withHost (s : State) (x : HostIf) : State := { s with host := x }

theorem State.markAt_withHost (s : State) (x : HostIf) (u : BondUnit) (far : Bool) (p : Nat) (bad : List Nat) : (s.withHost x).markAt u far p bad = (s.markAt u far p bad).withHost x := by
  cases u <;> rfl

theorem State.markFound_interface (s : State) (p : PlazaNo) (i : Bool) (g : Fin 640) (bad : List (Fin 34)) :
    s.markFound (.interfaceGroup p i g bad) = (s.markAt (.interface p i (finOf 64 (by decide) (g.val / 16))) false (g.val % 16) (bad.map (fun w => w.val))).markAt
      (.interface p i (finOf 64 (by decide) (g.val / 16))) true (g.val % 16) (bad.map (fun w => w.val)) := rfl

theorem State.markFound_withHost (s : State) (x : HostIf) (w : WireTest) : (s.withHost x).markFound w = (s.markFound w).withHost x := by
  cases w with
  | podGroup r g bad => exact State.markAt_withHost ..
  | interfaceGroup p i g bad => rw [State.markFound_interface, State.markFound_interface, State.markAt_withHost, State.markAt_withHost]
  | training u e a => rfl

/-- The verdicts of a test do not depend on what runs. -/
theorem State.fieldVerdict_withHost (s : State) (x : HostIf) (wires : List WireTest) (waves : List WaveRef) : (s.withHost x).fieldVerdict wires waves = s.fieldVerdict wires waves := by
  have hfound : wires.foldl (fun (t : State) w => t.markFound w) (s.withHost x) = (wires.foldl (fun (t : State) w => t.markFound w) s).withHost x := by
    induction wires generalizing s with
    | nil => rfl
    | cons w wires ih =>
      rw [List.foldl_cons, List.foldl_cons, State.markFound_withHost]
      exact ih _
  unfold State.fieldVerdict
  rw [hfound]
  rfl

/-- The bits of a verdict word: a bit for each plaza, and whether all pass. -/
theorem verdict_plaza (all : Bool) (ok : Nat → Bool) {p : Nat} (hp : p < 27) : (BitVec.ofNat 32 (b2n all * 2 ^ 31 + maskOf 27 ok)).getLsbD p = ok p := by
  have hlt := packN_lt 1 (fun i => b2n (ok i)) 27
  unfold maskOf
  rw [BitVec.getLsbD_ofNat, Nat.mul_comm, Nat.testBit_two_pow_mul_add _ (by omega), if_pos (by omega), packN_testBit 1 Nat.one_pos, Nat.div_one, Nat.mod_one, decide_eq_true (by omega : p < 32),
    decide_eq_true (by omega : p < 27 * 1), Bool.true_and, Bool.true_and]
  cases ok p <;> rfl

theorem verdict_package (all : Bool) (ok : Nat → Bool) : (BitVec.ofNat 32 (b2n all * 2 ^ 31 + maskOf 27 ok)).getLsbD 31 = all := by
  have hlt := packN_lt 1 (fun i => b2n (ok i)) 27
  unfold maskOf
  rw [BitVec.getLsbD_ofNat, Nat.mul_comm, Nat.testBit_two_pow_mul_add _ (by omega), if_neg (by decide)]
  cases all <;> rfl

section Verdict
variable (s : State) (wires : List WireTest) (waves : List WaveRef)

/-- Does a plaza pass the test? -/
def State.fieldOk (p : Nat) : Bool := (wires.foldl (fun (t : State) w => t.markFound w) s).groupsWithin p && !(waves.any (fun w => w.src.val == p || w.dst.val == p))

theorem State.fieldVerdict_eq : s.fieldVerdict wires waves = BitVec.ofNat 32 (b2n ((upto 27).all (s.fieldOk wires waves)) * 2 ^ 31 + maskOf 27 (s.fieldOk wires waves)) := rfl

theorem State.fieldVerdict_plaza {p : Nat} (hp : p < 27) : (s.fieldVerdict wires waves).getLsbD p = s.fieldOk wires waves p := by
  rw [State.fieldVerdict_eq]
  exact verdict_plaza _ _ hp

theorem State.fieldVerdict_package {p : Nat} (hp : p < 27) (hfail : (s.fieldVerdict wires waves).getLsbD p = false) : (s.fieldVerdict wires waves).getLsbD 31 = false := by
  rw [State.fieldVerdict_plaza _ _ _ hp] at hfail
  rw [State.fieldVerdict_eq, verdict_package]
  exact List.all_eq_false.2 ⟨p, (upto_mem ..).2 hp, by rw [hfail]; exact Bool.false_ne_true⟩

/-- The failing wires are logged and the failing wavelengths taken out of service. -/
def State.fieldTested : State :=
  waves.foldl (fun (t : State) w => t.waveDown w.src.val w.dst.val w.wave.val) (wires.foldl (fun (t : State) w => t.logFound w) s)

theorem State.logWire_cmd (s : State) (group wire : Nat) : (s.logWire group wire).cmd = s.cmd := by
  unfold State.logWire
  split
  · rfl
  · exact (State.nvRefuse_spec _).1

theorem State.logWires_cmd (s : State) (plaza unit group : Nat) (l : List Nat) : (s.logWires plaza unit group l).cmd = s.cmd := by
  have hl := proj_foldl State.cmd (fun (t : State) w => t.logWire group w) l s (fun t w => State.logWire_cmd t group w)
  unfold State.logWires
  dsimp only
  split
  · exact hl
  · exact (State.raise_cmd ..).trans hl

theorem State.logFound_cmd (s : State) (w : WireTest) : (s.logFound w).cmd = s.cmd := by
  cases w with
  | podGroup r g bad => exact State.logWires_cmd ..
  | interfaceGroup p i g bad => exact State.logWires_cmd ..
  | training u e a => rfl

theorem State.fieldTested_cmd : (s.fieldTested wires waves).cmd = s.cmd :=
  (proj_foldl State.cmd _ waves _ (fun _ _ => State.waveDown_cmd ..)).trans (proj_foldl State.cmd _ wires s (fun t w => State.logFound_cmd t w))

end Verdict

theorem fieldTest_ends {s t : State} {m : MewsReq} (h : s.mewsGate opFieldTest m t) (hfree : t.mewsFree opFieldTest) (hbody : m.body = []) (wires : List WireTest) (waves : List WaveRef) :
    exec (.fieldTest m wires waves) s = .next ((((t.runsAs opFieldTest m).fieldTested wires waves).raise 0x0033 pkgPlaza 0
      (leBytes 4 (t.fieldVerdict wires waves).toNat)).noneRuns.mewsAnswer opFieldTest m .ok (leBytes 4 (t.fieldVerdict wires waves).toNat)) := by
  have hbad : (m.body.length != 0) = false := by rw [hbody]; rfl
  have hverdict : (t.runsAs opFieldTest m).fieldVerdict wires waves = t.fieldVerdict wires waves := State.fieldVerdict_withHost ..
  have hcmd := (State.raise_cmd ((t.runsAs opFieldTest m).fieldTested wires waves) 0x0033 pkgPlaza 0 (leBytes 4 (t.fieldVerdict wires waves).toNat)).trans (State.fieldTested_cmd _ wires waves)
  rw [exec_fieldTest, execFieldTest]
  refine congrArg Host.Outcome.next ((State.mewsRun_ends h hfree (st := .ok) (res := [t.fieldVerdict wires waves]) (by decide) ?_ hcmd hbad).trans ?_)
  · rw [← hverdict]
    rfl
  · rw [List.flatMap_singleton]

/-! ### The firmware buffer and store (R440, R488, R498, R499) -/

section Firmware
variable {s t : State} {m : MewsReq}

theorem fwWrite_ends (h : s.mewsGate opFwWrite m t) (hfree : t.mewsFree opFwWrite) (hlen : 8 ≤ m.body.length)
    (hfits : leVal ((m.body.drop 0).take 8) + (m.body.drop 8).length ≤ 2 ^ 26) :
    exec (.fwWrite m) s = .next (({ t with mews := { t.mews with fwBuf := t.mews.fwBuf.setRun (leVal ((m.body.drop 0).take 8)) (m.body.drop 8) } } : State).mewsAnswer opFwWrite m .ok []) := by
  have hbad : (decide (m.body.length < 8) || decide (2 ^ 26 < bodyNum m.body 0 8 + (m.body.length - 8))) = false := by
    rw [List.length_drop] at hfits
    have hnot : ¬ 2 ^ 26 < bodyNum m.body 0 8 + (m.body.length - 8) := Nat.not_lt.2 hfits
    rw [decide_eq_false (Nat.not_lt.2 hlen), decide_eq_false hnot]
    rfl
  rw [exec_fwWrite, execFwWrite]
  refine congrArg Host.Outcome.next ((State.mewsRun_ends h hfree
    (u := { t.runsAs opFwWrite m with mews := { t.mews with fwBuf := t.mews.fwBuf.setRun (leVal ((m.body.drop 0).take 8)) (m.body.drop 8) } }) (st := .ok) (res := []) (by decide) rfl rfl hbad).trans ?_)
  exact congrArg (fun x => State.mewsAnswer x opFwWrite m .ok []) (State.noneRuns_mews hfree.2.1 opFwWrite _)

/-- A request that is malformed is answered so. -/
theorem State.mewsRun_bad {o : MewsOp} (h : s.mewsGate o m t) {bad : Bool} (hbad : bad = true) (run : State → State) : s.mewsRun o m bad run = t.mewsAnswer o m .badArgument [] := by
  unfold State.mewsRun
  rw [State.mewsReceive_gate h, if_pos hbad]

theorem fwWrite_past (h : s.mewsGate opFwWrite m t) (hpast : 2 ^ 26 < leVal ((m.body.drop 0).take 8) + (m.body.drop 8).length) :
    exec (.fwWrite m) s = .next (t.mewsAnswer opFwWrite m .badArgument []) := by
  have hbad : (decide (m.body.length < 8) || decide (2 ^ 26 < bodyNum m.body 0 8 + (m.body.length - 8))) = true := by
    rw [List.length_drop] at hpast
    rw [decide_eq_true (show 2 ^ 26 < bodyNum m.body 0 8 + (m.body.length - 8) from hpast), Bool.or_true]
  rw [exec_fwWrite, execFwWrite]
  exact congrArg Host.Outcome.next (State.mewsRun_bad h hbad _)

/-- FW_COMMIT once it runs. -/
def State.fwCommits (r : State) : State :=
  if !r.fwValid r.mews.fwBuf then r.endCmd .authFailed []
  else if !r.pp.nvOpen then r.nvRefuse.endCmd .temperatureBlocked []
  else { r with mews := { r.mews with fwLeft := 64, fwWhole := false } }

theorem fwCommit_runs (h : s.mewsGate opFwCommit m t) (hfree : t.mewsFree opFwCommit) (hbody : m.body = []) : exec (.fwCommit m) s = .next (t.runsAs opFwCommit m).fwCommits := by
  obtain ⟨hstate, hnone, -⟩ := hfree
  have hbad : (m.body.length != 0) = false := by rw [hbody]; rfl
  rw [exec_fwCommit, execFwCommit, hbad]
  exact congrArg Host.Outcome.next (State.mewsRun_gate h hstate hnone _)

theorem fwCommits_invalid (hnone : t.host.running = none) (hvalid : t.fwValid t.mews.fwBuf = false) : (t.runsAs opFwCommit m).fwCommits = t.mewsAnswer opFwCommit m .authFailed [] := by
  have hrun : (t.runsAs opFwCommit m).fwValid (t.runsAs opFwCommit m).mews.fwBuf = false := hvalid
  unfold State.fwCommits
  rw [hrun, Bool.not_false, if_pos rfl, State.endCmd_mews rfl (by decide), State.runsAs_noneRuns hnone]
  rfl

variable (hvalid : t.fwValid t.mews.fwBuf = true)
include hvalid

theorem fwCommits_blocked (hclosed : t.pp.nvOpen = false) : ∃ u : State, (t.runsAs opFwCommit m).fwCommits = u.mewsAnswer opFwCommit m .temperatureBlocked [] ∧ u.mews = t.mews ∧ u.top = t.top ∧
    u.pp.nvBlocked = satAdd t.pp.nvBlocked 1 := by
  have hrun : (t.runsAs opFwCommit m).fwValid (t.runsAs opFwCommit m).mews.fwBuf = true := hvalid
  have hopen : (t.runsAs opFwCommit m).pp.nvOpen = false := hclosed
  obtain ⟨hcmd, hblocked, hkeep⟩ := (t.runsAs opFwCommit m).nvRefuse_spec
  have hrest := hkeep t.host t.ev t.out t.pp
  refine ⟨(t.runsAs opFwCommit m).nvRefuse.noneRuns, ?_, (congrArg State.mews hrest :), (congrArg State.top hrest :), hblocked⟩
  unfold State.fwCommits
  rw [hrun, Bool.not_true, if_neg Bool.false_ne_true, hopen, Bool.not_false, if_pos rfl, State.endCmd_mews hcmd (by decide)]
  rfl

theorem fwCommits_begun (hopen : t.pp.nvOpen = true) : (t.runsAs opFwCommit m).fwCommits =
    { t with mews := { t.mews with fwLeft := 64, fwWhole := false }, host := { t.host with running := some (mewsCmd opFwCommit m) } } := by
  have hrun : (t.runsAs opFwCommit m).fwValid (t.runsAs opFwCommit m).mews.fwBuf = true := hvalid
  have hnv : (t.runsAs opFwCommit m).pp.nvOpen = true := hopen
  unfold State.fwCommits
  rw [hrun, Bool.not_true, if_neg Bool.false_ne_true, hnv, Bool.not_true, if_neg Bool.false_ne_true]
  rfl

end Firmware

section Blocks
variable {s : State}

theorem fwBlockWrite_none (h : s.mews.fwLeft = 0) : exec .fwBlockWrite s = .next s := by
  rw [exec_fwBlockWrite, execFwBlockWrite, if_pos h]

theorem fwBlockWrite_blocked (h : 0 < s.mews.fwLeft) (hclosed : s.pp.nvOpen = false) :
    ∃ t, exec .fwBlockWrite s = .next t ∧ t.mews = s.mews ∧ t.pp.nvBlocked = satAdd s.pp.nvBlocked 1 ∧ t.host.running = s.host.running := by
  obtain ⟨hcmd, hblocked, hkeep⟩ := s.nvRefuse_spec
  refine ⟨s.nvRefuse, ?_, (congrArg State.mews (hkeep s.host s.ev s.out s.pp) :), hblocked, hcmd⟩
  rw [exec_fwBlockWrite, execFwBlockWrite, if_neg (Nat.pos_iff_ne_zero.1 h), hclosed]
  rfl

variable (hopen : s.pp.nvOpen = true)
include hopen

theorem fwBlockWrite_next (h : 1 < s.mews.fwLeft) : exec .fwBlockWrite s = .next { s with mews := { s.mews with
    fwStore := copyBlock s.mews.fwStore s.mews.fwBuf (64 - s.mews.fwLeft), fwLeft := s.mews.fwLeft - 1 } } := by
  rw [exec_fwBlockWrite, execFwBlockWrite, if_neg (by omega), hopen]
  exact congrArg Host.Outcome.next (if_neg (by omega))

/-- The state with the last block in the store. -/
def State.lastBlock (s : State) : State := { s with mews := { s.mews with fwStore := copyBlock s.mews.fwStore s.mews.fwBuf 63, fwLeft := 0 } }

theorem fwBlockWrite_last (h : s.mews.fwLeft = 1) : exec .fwBlockWrite s = .next s.lastBlock.fwDone := by
  rw [exec_fwBlockWrite, execFwBlockWrite, if_neg (by omega), hopen]
  dsimp only
  rw [h]
  rfl

end Blocks

/-- The state in which the whole store is recorded, and the answer of the running FW_COMMIT has left. -/
def State.fwAnswered (s : State) (m : MewsReq) : State :=
  ({ s with mews := { s.mews with fwWhole := true } }.raise 0xC004 26 0 []).noneRuns.mewsAnswer opFwCommit m .ok []

theorem State.fwDone_eq {s : State} {m : MewsReq} (hrun : s.host.running = some (mewsCmd opFwCommit m)) :
    s.fwDone = if (s.fwAnswered m).mews.recovery then
      { s.fwAnswered m with mews := { (s.fwAnswered m).mews with recovery := false }, top := { (s.fwAnswered m).top with phase := 1 } } else s.fwAnswered m := by
  have hcmd := State.raise_cmd { s with mews := { s.mews with fwWhole := true } } 0xC004 26 0 []
  have hend : ({ s with mews := { s.mews with fwWhole := true } }.raise 0xC004 26 0 []).endCmd .ok [] = s.fwAnswered m := State.endCmd_mews (hcmd.trans hrun) (by decide) .ok []
  unfold State.fwDone
  rw [hend]

/-- What the answer of FW_COMMIT leaves. -/
theorem State.fwAnswered_spec (s : State) (m : MewsReq) :
    let t := s.fwAnswered m
    t.mews.fwLeft = s.mews.fwLeft ∧ t.mews.fwWhole = true ∧ t.mews.fwStore = s.mews.fwStore ∧ t.mews.recovery = s.mews.recovery ∧ t.host.running = none ∧ t.ev.head = s.ev.head + 1 ∧ t.top = s.top ∧
    ∃ pre auth, t.out = pre ++ [.mews m.port.val (([1, 0x31] : List Byte) ++ leBytes 2 m.tag.toNat ++ [m.cred, 0] ++ leBytes 2 0 ++ leBytes 8 m.seq.toNat ++ auth)] := by
  have hmews := State.raise_mews { s with mews := { s.mews with fwWhole := true } } 0xC004 26 0 []
  have htop := State.raise_top { s with mews := { s.mews with fwWhole := true } } 0xC004 26 0 []
  have hhead := State.raise_head { s with mews := { s.mews with fwWhole := true } } 0xC004 26 0 []
  unfold State.fwAnswered
  generalize State.raise _ _ _ _ _ = u at *
  refine ⟨(congrArg Mews.fwLeft hmews :), (congrArg Mews.fwWhole hmews :), (congrArg Mews.fwStore hmews :), (congrArg Mews.recovery hmews :), rfl, hhead, htop, u.out,
    if (true && decide (m.cred.toNat < 16)) then u.mews.tag m.cred.toNat (mewsHeader opFwCommit.code m.tag m.cred Status.ok.code ([] : List Byte).length m.seq) [] else [], ?_⟩
  have hhead0 : mewsHeader opFwCommit.code m.tag m.cred Status.ok.code ([] : List Byte).length m.seq ++ [] =
      ([1, 0x31] : List Byte) ++ leBytes 2 m.tag.toNat ++ [m.cred, 0] ++ leBytes 2 0 ++ leBytes 8 m.seq.toNat := List.append_nil _
  rw [← hhead0]
  rfl

/-- The last block of the store: FW_COMMIT is answered, and the firmware boots out of recovery. -/
theorem State.fwDone_spec {s : State} {m : MewsReq} (hrun : s.host.running = some (mewsCmd opFwCommit m)) :
    let t := s.fwDone
    t.mews.fwLeft = s.mews.fwLeft ∧ t.mews.fwWhole = true ∧ t.mews.fwStore = s.mews.fwStore ∧ t.host.running = none ∧ t.ev.head = s.ev.head + 1 ∧ t.mews.recovery = false ∧
    (s.mews.recovery = true → t.top.phase = 1) ∧ (s.mews.recovery = false → t.top = s.top) ∧
    ∃ pre auth, t.out = pre ++ [.mews m.port.val (([1, 0x31] : List Byte) ++ leBytes 2 m.tag.toNat ++ [m.cred, 0] ++ leBytes 2 0 ++ leBytes 8 m.seq.toNat ++ auth)] := by
  obtain ⟨hleft, hwhole, hstore, hrecovery, hnone, hhead, htop, hout⟩ := s.fwAnswered_spec m
  intro t
  have ht : t = _ := State.fwDone_eq hrun
  clear_value t
  subst ht
  cases hr : s.mews.recovery with
  | true =>
    rw [hrecovery, hr, if_pos rfl]
    exact ⟨hleft, hwhole, hstore, hnone, hhead, rfl, fun _ => rfl, (fun h => nomatch h), hout⟩
  | false =>
    rw [hrecovery, hr, if_neg Bool.false_ne_true]
    exact ⟨hleft, hwhole, hstore, hnone, hhead, hrecovery.trans hr, (fun h => nomatch h), fun _ => htop, hout⟩

/-! ### The blocks of the store -/

/-- A filter by number hides a cell or leaves it. -/
theorem cellsFind_filter {α : Type} (p : Nat → Bool) (l : List (Nat × α)) (k : Nat) : cellsFind (l.filter (fun c => p c.1)) k = if p k then cellsFind l k else none := by
  induction l with
  | nil => rw [List.filter_nil, cellsFind, ite_self]
  | cons c l ih =>
    obtain ⟨j, v⟩ := c
    by_cases hj : j = k
    · subst hj
      cases hp : p j
      · rw [List.filter_cons_of_neg (by rw [hp]; exact Bool.false_ne_true), ih, hp]
        rfl
      · rw [List.filter_cons_of_pos (p := fun c : Nat × α => p c.1) hp, cellsFind, if_pos rfl, if_pos rfl]
        exact (if_pos rfl).symm
    · have hskip : cellsFind ((j, v) :: l) k = cellsFind l k := if_neg hj
      rw [hskip, ← ih]
      cases hp : p j
      · rw [List.filter_cons_of_neg (by rw [hp]; exact Bool.false_ne_true)]
      · rw [List.filter_cons_of_pos (p := fun c : Nat × α => p c.1) hp]
        exact if_neg hj

/-- A block is copied, and the rest of the store stays. -/
theorem copyBlock_get (store buf : Tbl Byte) (k x : Nat) : (copyBlock store buf k).get x = if x / 2 ^ 20 = k then buf.get x else store.get x := by
  have hlow := cellsFind_filter (fun i => decide (i < k * 2 ^ 20)) store.cells x
  have hmid := cellsFind_filter (fun i => decide (k * 2 ^ 20 ≤ i) && decide (i < k * 2 ^ 20 + 2 ^ 20)) buf.cells x
  have hhigh := cellsFind_filter (fun i => decide (k * 2 ^ 20 + 2 ^ 20 ≤ i)) store.cells x
  unfold copyBlock Tbl.get
  dsimp only at hlow hmid hhigh ⊢
  rw [cellsFind_append, cellsFind_append, hlow, hmid, hhigh]
  simp only [Bool.and_eq_true, decide_eq_true_eq]
  obtain hx | hx | hx : x < k * 2 ^ 20 ∨ (k * 2 ^ 20 ≤ x ∧ x < k * 2 ^ 20 + 2 ^ 20) ∨ k * 2 ^ 20 + 2 ^ 20 ≤ x := by omega
  · rw [if_pos hx, if_neg (by omega), if_neg (by omega), if_neg (by omega), Option.or_none, Option.or_none]
  · rw [if_neg (by omega), if_pos hx, if_neg (by omega), if_pos (by omega), Option.none_or, Option.or_none]
  · rw [if_neg (by omega), if_neg (by omega), if_pos hx, if_neg (by omega), Option.none_or, Option.none_or]

/-- Settles O46: each Operate request runs and ends in its effect. -/
theorem mewsOperates : Obligations.MewsOperates := by
  intro m wires waves s t0 a
  dsimp only
  refine ⟨?_, ?_, ?_, ?_, ?_, ?_, ?_, ?_, ?_, fwBlockWrite_none, fwBlockWrite_blocked, fun h hopen => fwBlockWrite_next hopen h, ?_, fun k x _ _ _ _ => copyBlock_get ..⟩
  case refine_1 =>
    intro ⟨h, hfree⟩ hlen
    rw [mewsStageWrite_ends h hfree hlen]
    exact ⟨fun hfits => congrArg Host.Outcome.next (if_pos hfits), fun hpast => congrArg Host.Outcome.next (if_neg (Nat.not_le.2 hpast))⟩
  case refine_2 =>
    intro ⟨h, hfree⟩ hbody
    refine ⟨fun himg => timeSource_set h hfree hbody (by rw [himg]; rfl), fun i himg hclaim => timeSource_claimed h hfree hbody (by rw [himg]; exact hclaim),
      fun i himg hclaim => timeSource_set h hfree hbody (by rw [himg]; exact hclaim)⟩
  case refine_3 => exact fun ⟨h, hfree⟩ => freqSet_ends h hfree
  case refine_4 =>
    intro ⟨h, hfree⟩ hlen hone
    have hof : (if decide (((m.body[0]?).getD 0).toNat = 1) = true then t0.cond.c1 else t0.cond.c0) = t0.cond.of (bodyAt m.body 0 == 1) := by
      rw [Bool.beq_eq_decide_eq]
      rfl
    rw [hof]
    refine ⟨fun hlock => ⟨_, conductorReset_released h hfree hlen hone hlock, rfl, ?_⟩, conductorReset_refused h hfree hlen hone⟩
    have hdec : decide (((m.body[0]?).getD 0).toNat = 1) = (bodyAt m.body 0 == 1) := (Bool.beq_eq_decide_eq _ _).symm
    rw [hdec]
    unfold State.modConductor
    cases bodyAt m.body 0 == 1 <;> exact ⟨rfl, rfl, rfl, rfl⟩
  case refine_5 =>
    intro ⟨h, hfree⟩ hbody
    refine ⟨_, _, fieldTest_ends h hfree hbody wires waves, rfl, fun p hp hw => ?_, fun p hp hfail => State.fieldVerdict_package t0 wires waves hp hfail, ?_⟩
    · obtain ⟨w, hmem, hat⟩ := hw
      have hany : waves.any (fun w => w.src.val == p || w.dst.val == p) = true :=
        List.any_eq_true.2 ⟨w, hmem, by rw [Bool.or_eq_true, beq_iff_eq, beq_iff_eq]; exact hat⟩
      rw [State.fieldVerdict_plaza _ _ _ hp, State.fieldOk, hany, Bool.not_true, Bool.and_false]
    · rintro rfl rfl
      refine ⟨fun p hp => ?_, State.raise_head .., ?_⟩
      · rw [State.fieldVerdict_plaza _ _ _ hp]
        exact Bool.and_true _
      · exact State.raise_keeps (t0.runsAs opFieldTest m) 0x0033 pkgPlaza 0 (leBytes 4 (t0.fieldVerdict [] []).toNat) t0.host t0.ev t0.out
  case refine_6 =>
    rintro ⟨h, hfree⟩ hlen rfl
    have hadd : ∀ {n : Nat}, n = 0 → ¬ n = 1 := fun h => by rw [h]; decide
    refine ⟨fun hop hnew hroom => ?_, fun hop hold => ?_, fun hop hnew hfull => ?_, fun hop hold => ?_, fun hop hnew => ?_⟩
    · exact mgmtNetSet_ends h hfree hlen (Nat.le_trans (Nat.le_of_eq hop) (Nat.zero_le 1)) ((if_neg (hadd hop)).trans ((if_neg (by rw [List.contains_eq_mem]; exact fun hc => hnew (of_decide_eq_true hc))).trans
        (if_neg (Nat.not_le.2 hroom))))
    · exact mgmtNetSet_ends (l := t0.mews.ipv6) h hfree hlen (Nat.le_trans (Nat.le_of_eq hop) (Nat.zero_le 1)) ((if_neg (hadd hop)).trans (if_pos (by rw [List.contains_eq_mem]; exact decide_eq_true hold)))
    · exact mgmtNetSet_ends (l := t0.mews.ipv6) h hfree hlen (Nat.le_trans (Nat.le_of_eq hop) (Nat.zero_le 1)) ((if_neg (hadd hop)).trans
        ((if_neg (by rw [List.contains_eq_mem]; exact fun hc => hnew (of_decide_eq_true hc))).trans (if_pos hfull)))
    · exact mgmtNetSet_ends h hfree hlen (Nat.le_of_eq hop) ((if_pos hop).trans (if_pos (by rw [List.contains_eq_mem]; exact decide_eq_true hold)))
    · exact mgmtNetSet_ends (l := t0.mews.ipv6) h hfree hlen (Nat.le_of_eq hop) ((if_pos hop).trans (if_neg (by rw [List.contains_eq_mem]; exact fun hc => hnew (of_decide_eq_true hc))))
  case refine_7 => exact fun ⟨h, hfree⟩ => fwWrite_ends h hfree
  case refine_8 => exact fun ⟨h, _⟩ _ => fwWrite_past h
  case refine_9 =>
    intro ⟨h, hfree⟩ hbody
    have hnone := hfree.2.1
    rw [fwCommit_runs h hfree hbody]
    refine ⟨fun hvalid => congrArg Host.Outcome.next (fwCommits_invalid hnone hvalid), fun hvalid hclosed => ?_, fun hvalid hopen => congrArg Host.Outcome.next (fwCommits_begun hvalid hopen)⟩
    obtain ⟨u, hu, hkeep⟩ := fwCommits_blocked (m := m) hvalid hclosed
    exact ⟨u, congrArg Host.Outcome.next hu, hkeep⟩
  case refine_10 =>
    intro hleft hopen hrun
    obtain ⟨hleft', hwhole, hstore, hnone, hhead, hrecovery, hphase, htop, hout⟩ := State.fwDone_spec (s := s.lastBlock) hrun
    exact ⟨_, fwBlockWrite_last hopen hleft, hleft', hwhole, hstore, hnone, hhead, hrecovery, hphase, htop, hout⟩

end Sys2Proof.Machine
end

section
/-! PROOF. A package reset of a shallot whose pod table lists one number twice (R495). -/
namespace Sys2Proof.Machine

/-- The package of `twoPods`, powered: the first entry of pod 0, which `get` reads, is not fused; the second is. -/
def twoPodsPowered : State := { twoPods with top := { aon := true } }

/-- A reset by the pin drops the first of the two, which is as reset, and the fused one comes to light. -/
theorem pkgRstAssert_twoPods : ∃ t, exec .pkgRstAssert twoPodsPowered = .next t ∧ (t.pod 0 0).fused = true := by
  rw [exec_pkgRstAssert, execPkgRstAssert]
  exact ⟨_, rfl, by decide +kernel⟩

/-- Refutes O48: where a table lists a pod twice, the entry that reads as reset is dropped with the package reset, and the second one's fuse is read. -/
theorem not_resets : ¬ Obligations.Resets := by
  unfold Obligations.Resets
  intro h
  obtain ⟨-, hassert, -⟩ := h default 0 0 false twoPodsPowered twoPodsPowered default
  obtain ⟨t, hexec, hfresh, -⟩ := hassert rfl rfl rfl rfl
  obtain ⟨-, -, -, -, -, -, -, -, -, -, -, -, -, -, -, -, -, -, -, -, hpods, -⟩ := hfresh
  obtain ⟨hfused, -⟩ := hpods 0 0 (by decide)
  obtain ⟨u, hexec', hfused'⟩ := pkgRstAssert_twoPods
  obtain rfl := Host.Outcome.next.inj (hexec.symm.trans hexec')
  exact absurd (hfused.symm.trans hfused') (by decide)

end Sys2Proof.Machine
end

section
/-! PROOF. The event ring, its tails and its interrupt (R485 to R487). -/
namespace Sys2Proof.Machine

/-! ### The bytes of a record (R485) -/

section Bytes
variable (r : EventRec)

/-- The source of a record: plaza and unit. -/
def EventRec.source : List Byte := leBytes 2 (r.plaza.toNat * 2048 + r.unit.toNat)
/-- The flags of a record. -/
def EventRec.flagBytes : List Byte := leBytes 2 (b2n r.stepValid + 2 * b2n r.hostLoss + 4 * b2n r.mewsLoss)
/-- The 28 bytes of detail. -/
def EventRec.detailBytes : List Byte := (r.detail ++ List.replicate 28 0).take 28

theorem EventRec.detailBytes_length : r.detailBytes.length = 28 := by
  unfold EventRec.detailBytes
  rw [List.length_take, List.length_append, List.length_replicate]
  omega

theorem EventRec.body_eq : r.body = leBytes 8 r.seq.toNat ++ (leBytes 8 r.time.toNat ++ (leBytes 8 r.step.toNat ++ (leBytes 2 r.code.toNat ++ (r.source ++ (r.flagBytes ++
    ([0, 0] ++ r.detailBytes)))))) := by
  unfold EventRec.body EventRec.source EventRec.flagBytes EventRec.detailBytes
  simp only [List.append_assoc]

theorem EventRec.body_length : r.body.length = 60 := by
  rw [EventRec.body_eq]
  simp only [List.length_append, Sys2Proof.Laws.leBytes_length, EventRec.source, EventRec.flagBytes, EventRec.detailBytes_length]
  rfl

theorem EventRec.bytes_length : r.bytes.length = 64 := by
  unfold EventRec.bytes
  rw [List.length_append, EventRec.body_length, Sys2Proof.Laws.leBytes_length]

theorem EventRec.bytes_crc : r.bytes.drop 60 = leBytes 4 (crc32c (r.bytes.take 60)).toNat := by
  unfold EventRec.bytes
  rw [List.drop_left' r.body_length, List.take_left' r.body_length]

end Bytes

/-- The part that stands at a place, and what follows it. -/
theorem drop_take_next {α : Type} {l x post : List α} {n m : Nat} (h : l.drop n = x ++ post) (hm : x.length = m) : (l.drop n).take m = x ∧ l.drop (n + m) = post := by
  rw [← List.drop_drop, h]
  exact ⟨List.take_left' hm, List.drop_left' hm⟩

section Fields
variable (r : EventRec)

theorem EventRec.bytes_eq : r.bytes = leBytes 8 r.seq.toNat ++ (leBytes 8 r.time.toNat ++ (leBytes 8 r.step.toNat ++ (leBytes 2 r.code.toNat ++ (r.source ++ (r.flagBytes ++
    ([0, 0] ++ (r.detailBytes ++ leBytes 4 (crc32c r.body).toNat))))))) := by
  unfold EventRec.bytes
  rw [EventRec.body_eq]
  simp only [List.append_assoc]

/-- The parts of a record's bytes, in order. -/
theorem EventRec.bytes_fields : r.bytes.take 8 = leBytes 8 r.seq.toNat ∧ (r.bytes.drop 8).take 8 = leBytes 8 r.time.toNat ∧ (r.bytes.drop 16).take 8 = leBytes 8 r.step.toNat ∧
    (r.bytes.drop 24).take 2 = leBytes 2 r.code.toNat ∧ (r.bytes.drop 26).take 2 = r.source ∧ (r.bytes.drop 28).take 2 = r.flagBytes ∧ (r.bytes.drop 32).take 28 = r.detailBytes := by
  have hlen := @Sys2Proof.Laws.leBytes_length
  obtain ⟨hseq, h8⟩ := drop_take_next (n := 0) r.bytes_eq (hlen ..)
  obtain ⟨htime, h16⟩ := drop_take_next h8 (hlen ..)
  obtain ⟨hstep, h24⟩ := drop_take_next h16 (hlen ..)
  obtain ⟨hcode, h26⟩ := drop_take_next h24 (hlen ..)
  obtain ⟨hsource, h28⟩ := drop_take_next h26 (hlen ..)
  obtain ⟨hflags, h30⟩ := drop_take_next h28 (hlen ..)
  obtain ⟨-, h32⟩ := drop_take_next h30 rfl
  obtain ⟨hdetail, -⟩ := drop_take_next h32 r.detailBytes_length
  exact ⟨hseq, htime, hstep, hcode, hsource, hflags, hdetail⟩

theorem EventRec.bytes_detail (h : r.detail.length ≤ 28) : (r.bytes.drop 32).take r.detail.length = r.detail := by
  obtain ⟨-, -, -, -, -, -, hdetail⟩ := r.bytes_fields
  have htake : (r.bytes.drop 32).take r.detail.length = ((r.bytes.drop 32).take 28).take r.detail.length := by rw [List.take_take, Nat.min_eq_left h]
  rw [htake, hdetail]
  unfold EventRec.detailBytes
  rw [List.take_take, Nat.min_eq_left h, List.take_left]

end Fields

/-! ### What the package records (R485, R486) -/

section Record
variable (s : State) (code plaza unit : Nat) (detail : List Byte)

theorem State.stepValid_iff : s.stepValid = true ↔ s.top.state = .loaded ∨ s.top.state = .running := by
  unfold State.stepValid
  rw [Bool.or_eq_true, beq_iff_eq, beq_iff_eq]

theorem EventLog.loses_iff (e : EventLog) (tail : Word64) : e.loses tail = true ↔ 8192 ≤ e.head.toNat ∧ tail.toNat < e.head.toNat + 1 - 8192 := by
  unfold EventLog.loses
  rw [Bool.and_eq_true, decide_eq_true_eq, decide_eq_true_eq]

theorem b2n_of_iff {b : Bool} {p : Prop} [Decidable p] (h : b = true ↔ p) (n : Nat) : n * b2n b = if p then n else 0 := by
  cases b
  · rw [if_neg (fun hp => Bool.false_ne_true (h.2 hp))]
    exact Nat.mul_zero n
  · rw [if_pos (h.1 rfl)]
    exact Nat.mul_one n

/-- The event log once a record has entered the ring, before it asks for a signal. -/
def State.recorded : State :=
  let r := s.eventRec code plaza unit detail
  { s with ev := { s.ev with
      ring := s.ev.ring.set (r.seq.toNat % 8192) (some r), head := r.seq,
      hostLost := satAdd s.ev.hostLost (b2n r.hostLoss), mewsLost := satAdd s.ev.mewsLost (b2n r.mewsLoss) } }

theorem State.raise_eq : s.raise code plaza unit detail = (s.recorded code plaza unit detail).eventSignal := rfl

end Record

/-- What asking for a signal keeps of the log. -/
theorem State.eventSignal_log (s : State) :
    let t := s.eventSignal
    t.ev.ring = s.ev.ring ∧ t.ev.head = s.ev.head ∧ t.ev.hostTail = s.ev.hostTail ∧ t.ev.mewsTail = s.ev.mewsTail ∧ t.ev.irqEn = s.ev.irqEn ∧ t.ev.hostLost = s.ev.hostLost ∧
    t.ev.mewsLost = s.ev.mewsLost := by
  unfold State.eventSignal State.msix
  dsimp only
  (repeat' split) <;> exact ⟨rfl, rfl, rfl, rfl, rfl, rfl, rfl⟩

section Signal
variable {s : State}

/-- Does the log ask for a signal? -/
def State.asksSignal (s : State) : Prop := s.ev.irqEn = true ∧ s.ev.hostTail.toNat < s.ev.head.toNat

theorem State.asksSignal_iff (s : State) : (s.ev.irqEn && decide (s.ev.hostTail.toNat < s.ev.head.toNat)) = true ↔ s.asksSignal := by
  rw [Bool.and_eq_true, decide_eq_true_eq]
  rfl

theorem State.eventSignal_quiet (h : ¬ s.asksSignal) : s.eventSignal = s := by
  unfold State.eventSignal
  exact if_neg (mt s.asksSignal_iff.1 h)

theorem State.eventSignal_held (h : s.asksSignal) (hoff : s.ev.holdOff = true) : s.eventSignal = { s with ev := { s.ev with irqPending := true } } := by
  unfold State.eventSignal
  rw [if_pos (s.asksSignal_iff.2 h), if_pos hoff]

theorem State.eventSignal_sent (h : s.asksSignal) (hoff : s.ev.holdOff = false) : s.eventSignal = ({ s with ev := { s.ev with holdOff := true } } : State).msix s.eventVector := by
  unfold State.eventSignal
  rw [if_pos (s.asksSignal_iff.2 h), hoff, if_neg Bool.false_ne_true]

/-- Is a vector masked, or can the function not send? -/
def State.vectorHeld (s : State) (v : Nat) : Prop := s.host.masked v = true ∨ s.host.canSend = false

theorem State.vectorHeld_iff (s : State) (v : Nat) : (s.host.masked v || !s.host.canSend) = true ↔ s.vectorHeld v := by
  rw [Bool.or_eq_true, Bool.not_eq_true']
  rfl

theorem State.msix_held {v : Nat} (h : s.vectorHeld v) : s.msix v = { s with host := { s.host with pba := s.host.pba ||| BitVec.ofNat 64 (2 ^ v) } } := by
  unfold State.msix
  exact if_pos ((s.vectorHeld_iff v).2 h)

theorem State.msix_sent {v : Nat} (h : ¬ s.vectorHeld v) : s.msix v = s.emit (.msix v) := by
  unfold State.msix
  exact if_neg (mt (s.vectorHeld_iff v).1 h)

end Signal

/-- The vector of events where the image claims none for them. -/
theorem State.eventVector_zero {s : State}
    (h : (∃ i, s.img.image = some i ∧ i.claims.all (fun x => !(x.resource == 4 && x.feature == 0x31)) = true) ∨ s.img.image = none) : s.eventVector = 0 := by
  unfold State.eventVector
  obtain ⟨i, himg, hall⟩ | himg := h
  · have hnone : i.claims.filter (fun c => c.resource == 4 && c.feature == 0x31) = [] :=
      List.filter_eq_nil_iff.2 (fun c hc hcl => by
        have hno := List.all_eq_true.1 hall c hc
        rw [hcl] at hno
        exact Bool.false_ne_true hno)
    rw [himg]
    dsimp only
    rw [hnone]
    rfl
  · rw [himg]

section Timer
variable {s : State}

theorem State.pends_iff (s : State) : (s.ev.irqPending && s.ev.irqEn && decide (s.ev.hostTail.toNat < s.ev.head.toNat)) = true ↔
    s.ev.irqPending = true ∧ s.ev.irqEn = true ∧ s.ev.hostTail.toNat < s.ev.head.toNat := by
  rw [Bool.and_eq_true, Bool.and_eq_true, decide_eq_true_eq, and_assoc]

theorem eventIrqTimer_signals (h : s.ev.irqPending = true ∧ s.ev.irqEn = true ∧ s.ev.hostTail.toNat < s.ev.head.toNat) :
    exec .eventIrqTimer s = .next (({ s with ev := { s.ev with irqPending := false, holdOff := true } } : State).msix s.eventVector) := by
  rw [exec_eventIrqTimer, execEventIrqTimer]
  exact if_pos (s.pends_iff.2 h)

theorem eventIrqTimer_over (h : ¬ (s.ev.irqPending = true ∧ s.ev.irqEn = true ∧ s.ev.hostTail.toNat < s.ev.head.toNat)) :
    exec .eventIrqTimer s = .next { s with ev := { s.ev with irqPending := false, holdOff := false } } := by
  rw [exec_eventIrqTimer, execEventIrqTimer]
  exact if_neg (mt s.pends_iff.1 h)

end Timer

theorem satAdd_lost {b : Bool} {p : Prop} [Decidable p] (h : b = true ↔ p) (x : Word) : satAdd x (b2n b) = if p then satAdd x 1 else x := by
  cases b
  · rw [if_neg (fun hp => Bool.false_ne_true (h.2 hp))]
    exact BitVec.eq_of_toNat_eq (by unfold satAdd; rw [BitVec.toNat_ofNat]; have := x.isLt; simp only [b2n, Bool.false_eq_true, if_false]; omega)
  · rw [if_pos (h.1 rfl)]
    rfl

section Raise
variable {s : State} {code plaza unit : Nat} {detail : List Byte}

/-- The number of the next record. -/
theorem State.nextSeq_toNat (hroom : s.ev.head.toNat + 1 < 2 ^ 64) : (s.ev.head + 1).toNat = s.ev.head.toNat + 1 := by
  rw [BitVec.toNat_add]
  exact Nat.mod_eq_of_lt hroom

/-- The bytes of the record that an event writes. -/
theorem State.eventRec_bytes (hroom : s.ev.head.toNat + 1 < 2 ^ 64) (hdetail : detail.length ≤ 28) :
    let r := s.eventRec code plaza unit detail
    let loses := fun (tail : Word64) => 8192 ≤ s.ev.head.toNat ∧ tail.toNat < s.ev.head.toNat + 1 - 8192
    let valid := s.top.state = .loaded ∨ s.top.state = .running
    r.bytes.length = 64 ∧ r.bytes.take 8 = leBytes 8 (s.ev.head.toNat + 1) ∧ (r.bytes.drop 8).take 8 = leBytes 8 (s.top.now % 2 ^ 64) ∧
      (valid → (r.bytes.drop 16).take 8 = leBytes 8 s.seq.current.toNat) ∧ (¬ valid → (r.bytes.drop 16).take 8 = leBytes 8 0) ∧
      (r.bytes.drop 24).take 2 = leBytes 2 (code % 2 ^ 16) ∧ (r.bytes.drop 26).take 2 = leBytes 2 (plaza % 32 * 2048 + unit % 2048) ∧
      ((r.bytes.drop 28).take 2 = leBytes 2 ((if valid then 1 else 0) + (if loses s.ev.hostTail then 2 else 0) + (if loses s.ev.mewsTail then 4 else 0))) ∧
      (r.bytes.drop 32).take detail.length = detail ∧ r.bytes.drop 60 = leBytes 4 (crc32c (r.bytes.take 60)).toNat := by
  intro r loses valid
  obtain ⟨hseq, htime, hstep, hcode, hsource, hflags, -⟩ := r.bytes_fields
  refine ⟨r.bytes_length, ?_, ?_, fun hv => ?_, fun hv => ?_, ?_, ?_, ?_, r.bytes_detail hdetail, r.bytes_crc⟩
  · rw [hseq, ← State.nextSeq_toNat hroom]
    rfl
  · rw [htime, ← BitVec.toNat_ofNat]
    rfl
  · have hstepped : r.step = s.seq.current := if_pos (s.stepValid_iff.2 hv)
    rw [hstep, hstepped]
  · have hstepped : r.step = 0 := if_neg (mt s.stepValid_iff.1 hv)
    rw [hstep, hstepped]
    rfl
  · rw [hcode, ← BitVec.toNat_ofNat]
    rfl
  · rw [hsource, EventRec.source]
    exact congrArg (leBytes 2) (congr (congrArg (fun (a b : Nat) => a * 2048 + b) (BitVec.toNat_ofNat plaza 5)) (BitVec.toNat_ofNat unit 11))
  · have hvalid := b2n_of_iff s.stepValid_iff 1
    have hhost := b2n_of_iff (EventLog.loses_iff s.ev s.ev.hostTail) 2
    have hmews := b2n_of_iff (EventLog.loses_iff s.ev s.ev.mewsTail) 4
    rw [Nat.one_mul] at hvalid
    rw [hflags, EventRec.flagBytes]
    exact congrArg (leBytes 2) (congr (congrArg HAdd.hAdd (congr (congrArg HAdd.hAdd hvalid) hhost)) hmews)

/-- What an event does to the ring and the tails. -/
theorem State.raise_ring (hroom : s.ev.head.toNat + 1 < 2 ^ 64) :
    let t := s.raise code plaza unit detail
    let n := s.ev.head.toNat + 1
    t.ev.head = s.ev.head + 1 ∧ t.ev.ring.get (n % 8192) = some (s.eventRec code plaza unit detail) ∧ (∀ k, k ≠ n % 8192 → t.ev.ring.get k = s.ev.ring.get k) ∧
    t.ev.hostTail = s.ev.hostTail ∧ t.ev.mewsTail = s.ev.mewsTail ∧ t.ev.irqEn = s.ev.irqEn := by
  obtain ⟨hring, hhead, hhostTail, hmewsTail, hirqEn, -, -⟩ := (s.recorded code plaza unit detail).eventSignal_log
  have hset : (s.recorded code plaza unit detail).ev.ring = s.ev.ring.set ((s.ev.head.toNat + 1) % 8192) (some (s.eventRec code plaza unit detail)) := by
    rw [← State.nextSeq_toNat hroom]
    rfl
  dsimp only
  rw [State.raise_eq, hring, hset]
  exact ⟨hhead, Tbl.get_set_self .., fun k hk => Tbl.get_set_ne _ _ hk, hhostTail, hmewsTail, hirqEn⟩

end Raise

/-- Settles O50: the record of an event, its place, and when the vector of events is signalled. -/
theorem eventLog : Obligations.EventLog := by
  intro code plaza unit detail s hroom hdetail
  dsimp only
  obtain ⟨hhead, hring, hothers, hhostTail, hmewsTail, hirqEn⟩ := State.raise_ring (code := code) (plaza := plaza) (unit := unit) (detail := detail) hroom
  obtain ⟨-, -, -, -, -, hhostLost, hmewsLost⟩ := (s.recorded code plaza unit detail).eventSignal_log
  have hasks : (s.recorded code plaza unit detail).asksSignal ↔ s.ev.irqEn = true ∧ s.ev.hostTail.toNat < s.ev.head.toNat + 1 := by
    rw [← State.nextSeq_toNat hroom]
    rfl
  refine ⟨⟨hhead, hothers, State.raise_keeps .., hhostTail, hmewsTail, hirqEn⟩, ⟨_, hring, State.eventRec_bytes hroom hdetail⟩, ⟨?_, ?_⟩, fun h => ?_, fun h hoff => ?_, fun h hoff => ?_, eventIrqTimer_signals,
    eventIrqTimer_over, State.eventVector_zero⟩
  · exact hhostLost.trans (satAdd_lost (EventLog.loses_iff s.ev s.ev.hostTail) _)
  · exact hmewsLost.trans (satAdd_lost (EventLog.loses_iff s.ev s.ev.mewsTail) _)
  · rw [State.raise_eq, State.eventSignal_quiet (mt hasks.1 h)]
    exact ⟨rfl, rfl, rfl, rfl⟩
  · rw [State.raise_eq, State.eventSignal_held (hasks.2 h) hoff]
    exact ⟨rfl, rfl, hoff, rfl⟩
  · rw [State.raise_eq, State.eventSignal_sent (hasks.2 h) hoff]
    by_cases hheld : s.host.masked s.eventVector = true ∨ s.host.canSend = false
    · rw [State.msix_held (s := { s.recorded code plaza unit detail with ev := { (s.recorded code plaza unit detail).ev with holdOff := true } }) (v := (s.recorded code plaza unit detail).eventVector) hheld]
      exact ⟨rfl, fun hn => absurd hheld hn, fun _ => ⟨rfl, rfl⟩⟩
    · rw [State.msix_sent (s := { s.recorded code plaza unit detail with ev := { (s.recorded code plaza unit detail).ev with holdOff := true } }) (v := (s.recorded code plaza unit detail).eventVector) hheld]
      exact ⟨rfl, fun _ => ⟨rfl, rfl⟩, fun hm => absurd hm hheld⟩

end Sys2Proof.Machine
end

section
/-! PROOF. Power-up and the phases of bring-up (R489 to R492). -/
namespace Sys2Proof.Machine

/-! ### Power-up (R479, R489) -/

section Power
variable {s : State}

theorem vddAonUp_there (h : s.top.aon = true) : exec .vddAonUp s = .next s := by
  rw [exec_vddAonUp, execVddAonUp, if_pos h]

/-- The start of phase 1 records the reset and changes nothing else. -/
theorem State.boot_spec (s : State) (source : Nat) :
    let t := s.boot source
    t.top = { s.top with phase := 1 } ∧ t.ev.head = s.ev.head + 1 ∧ t.mews = s.mews ∧ t.sec = s.sec ∧ t.cmd = s.cmd ∧ t.hbm = s.hbm :=
  ⟨State.raise_top .., State.raise_head .., State.raise_mews .., State.raise_sec .., State.raise_cmd .., raise_hbm ..⟩

theorem vddAonUp_first (h : s.top.aon = false) (hio : s.top.ioOnly = false) : ∃ t, exec .vddAonUp s = .next t ∧
    t.top = { s.top with aon := true, ioOnly := false, now := 0, phase := 1 } ∧ t.mews.boot = s.sec.draws ∧ t.sec.draws = s.sec.draws + 1 ∧ t.ev.head = s.ev.head + 1 ∧
    t.host.running = s.host.running ∧ t.hbm = s.hbm := by
  obtain ⟨htop, hhead, hmews, hsec, hcmd, hhbm⟩ := State.boot_spec
    { s with top := { s.top with aon := true, ioOnly := false, now := 0 }, mews := { s.mews with boot := s.sec.draws }, sec := { s.sec with draws := s.sec.draws + 1 } } 3
  refine ⟨_, ?_, htop, congrArg Mews.boot hmews, congrArg Sec.draws hsec, hhead, hcmd, hhbm⟩
  rw [exec_vddAonUp, execVddAonUp, h, hio]
  rfl

theorem vddAonUp_again (h : s.top.aon = false) (hio : s.top.ioOnly = true) : ∃ t, exec .vddAonUp s = .next t ∧ t.top = { s.top with aon := true, ioOnly := false, phase := 1 } ∧
    t.mews = s.mews ∧ t.sec = s.sec := by
  obtain ⟨htop, -, hmews, hsec, -, -⟩ := State.boot_spec { s with top := { s.top with aon := true, ioOnly := false } } 3
  refine ⟨_, ?_, htop, hmews, hsec⟩
  rw [exec_vddAonUp, execVddAonUp, h, hio]
  rfl

end Power

/-! ### The phases in their order (R489) -/

/-- The phase that an end belongs to. -/
def phaseOf : PhaseEnd → Nat
  | .firmware => 1 | .rails => 2 | .joins _ _ _ _ => 3 | .lamps => 3 | .calibration => 5 | .trainStacks _ => 6 | .ports => 7 | .selfTest _ => 8

section Phases
variable {s : State}

/-- The end of a phase that does not run changes nothing. -/
theorem bringupPhaseEnd_other {e : PhaseEnd} (h : s.top.phase ≠ phaseOf e) : exec (.bringupPhaseEnd e) s = .next s := by
  rw [exec_bringupPhaseEnd]
  unfold execBringupPhaseEnd
  split
  · exact absurd ‹_› h
  · exact absurd ‹_› h
  · exact absurd ‹_› h
  · exact absurd ‹_› h
  · exact absurd ‹_› h
  · exact absurd ‹_› h
  · exact absurd ‹_› h
  · exact absurd ‹_› h
  · rfl

theorem phaseEnd_firmware (h : s.top.phase = 1) : exec (.bringupPhaseEnd .firmware) s = .next s.firmwareEnd := by
  rw [exec_bringupPhaseEnd, execBringupPhaseEnd]
  exact h

theorem phaseEnd_rails (h : s.top.phase = 2) : exec (.bringupPhaseEnd .rails) s = .next { s with top := { s.top with phase := 3 } } := by
  rw [exec_bringupPhaseEnd, execBringupPhaseEnd]
  exact h

theorem phaseEnd_joins (h : s.top.phase = 3) (c0 c1 : Bool) (a b : List BondUnit) :
    exec (.bringupPhaseEnd (.joins c0 c1 a b)) s = .next (if s.top.phase3 then s else s.joinsEnd c0 c1 a b) := by
  rw [exec_bringupPhaseEnd, execBringupPhaseEnd]
  exact h

theorem phaseEnd_lamps (h : s.top.phase = 3) :
    exec (.bringupPhaseEnd .lamps) s = .next (if s.crossfadesDue then s else State.startCalibration { s with top := { s.top with phase4 := true } }) := by
  rw [exec_bringupPhaseEnd, execBringupPhaseEnd]
  exact h

theorem phaseEnd_calibration (h : s.top.phase = 5) :
    exec (.bringupPhaseEnd .calibration) s = .next (if s.lamp.calPhase = 0 then { s with top := { s.top with phase := 6 } } else s) := by
  rw [exec_bringupPhaseEnd, execBringupPhaseEnd]
  exact h

theorem phaseEnd_stacks (h : s.top.phase = 6) (down : List StackDown) : exec (.bringupPhaseEnd (.trainStacks down)) s = .next (s.stacksEnd down) := by
  rw [exec_bringupPhaseEnd, execBringupPhaseEnd]
  exact h

theorem phaseEnd_ports (h : s.top.phase = 7) : exec (.bringupPhaseEnd .ports) s = .next { s with top := { s.top with phase := 8 } } := by
  rw [exec_bringupPhaseEnd, execBringupPhaseEnd]
  exact h

theorem phaseEnd_selfTest (h : s.top.phase = 8) (fails : List BistFail) : exec (.bringupPhaseEnd (.selfTest fails)) s = .next (s.bistEnd (upto 8) fails).reachIdle := by
  rw [exec_bringupPhaseEnd, execBringupPhaseEnd]
  exact h

end Phases

/-! ### Phase 1: the firmware (R488, R498) -/

theorem State.endCmd_recovery (s : State) (st : Status) (res : List Word) : (s.endCmd st res).mews.recovery = s.mews.recovery := by
  unfold State.endCmd
  split
  · rfl
  · unfold State.answerCmd
    split
    · exact congrArg Mews.recovery (State.msix_mews ..)
    · exact congrArg Mews.recovery (State.sendTo_mews ..)
    · rfl

section Firmware
variable {s : State}

theorem firmware_runs (h : s.top.phase = 1) (hvalid : s.storeValid = true) : ∃ t, exec (.bringupPhaseEnd .firmware) s = .next t ∧
    t.top = { s.top with state := .bringup, phase := 2, phase3 := false, phase4 := false } ∧ t.mews.recovery = false ∧ { t with top := s.top, mews := s.mews } = s := by
  refine ⟨s.firmwareEnd, phaseEnd_firmware h, ?_⟩
  unfold State.firmwareEnd
  rw [if_pos hvalid]
  exact ⟨rfl, rfl, rfl⟩

theorem firmware_recovers (h : s.top.phase = 1) (hvalid : s.storeValid = false) : ∃ t, exec (.bringupPhaseEnd .firmware) s = .next t ∧ t.top = { s.top with state := .off, phase := 0 } ∧
    t.mews.recovery = true ∧ t.ev.head = s.ev.head + 1 ∧ t.host.running = none := by
  refine ⟨s.firmwareEnd, phaseEnd_firmware h, ?_⟩
  have htop := State.raise_top { s with top := { s.top with state := .off, phase := 0 }, mews := { s.mews with recovery := true } } 0xC003 26 0 []
  have hmews := State.raise_mews { s with top := { s.top with state := .off, phase := 0 }, mews := { s.mews with recovery := true } } 0xC003 26 0 []
  have hhead := State.raise_head { s with top := { s.top with state := .off, phase := 0 }, mews := { s.mews with recovery := true } } 0xC003 26 0 []
  unfold State.firmwareEnd
  rw [hvalid, if_neg Bool.false_ne_true]
  generalize State.raise _ _ _ _ _ = u at *
  refine ⟨(State.endCmd_top ..).trans htop, ?_, ?_, State.endCmd_cmd ..⟩
  · exact (State.endCmd_recovery u .ok []).trans (congrArg Mews.recovery hmews :)
  · rw [State.endCmd_ev]
    exact hhead

end Firmware

/-! ### Phases 3 to 5: joins, lamps, calibration (R265, R384, R444) -/

section Joins
variable {s : State}

theorem State.startCalibration_both (h3 : s.top.phase3 = true) (h4 : s.top.phase4 = true) :
    s.startCalibration = { s with top := { s.top with phase := 5 }, lamp := { s.lamp with calPhase := 1 } } := by
  unfold State.startCalibration
  rw [h3, h4]
  rfl

theorem State.startCalibration_not (h : s.top.phase3 = false ∨ s.top.phase4 = false) : s.startCalibration = s := by
  unfold State.startCalibration
  refine if_neg (fun hb => ?_)
  obtain ⟨h3, h4⟩ := Bool.and_eq_true_iff.1 hb
  exact h.elim (fun h => Bool.false_ne_true (h.symm.trans h3)) (fun h => Bool.false_ne_true (h.symm.trans h4))

theorem lamps_due (h : s.top.phase = 3) (hdue : s.crossfadesDue = true) : exec (.bringupPhaseEnd .lamps) s = .next s :=
  (phaseEnd_lamps h).trans (congrArg Host.Outcome.next (if_pos hdue))

theorem lamps_warm (h : s.top.phase = 3) (hdue : s.crossfadesDue = false) : exec (.bringupPhaseEnd .lamps) s = .next (if s.top.phase3 then
    { s with top := { s.top with phase4 := true, phase := 5 }, lamp := { s.lamp with calPhase := 1 } } else { s with top := { s.top with phase4 := true } }) := by
  rw [phaseEnd_lamps h, hdue, if_neg Bool.false_ne_true]
  refine congrArg Host.Outcome.next ?_
  cases h3 : s.top.phase3 with
  | true =>
    rw [if_pos rfl]
    exact State.startCalibration_both (s := { s with top := { s.top with phase4 := true } }) h3 rfl
  | false =>
    rw [if_neg Bool.false_ne_true]
    exact State.startCalibration_not (s := { s with top := { s.top with phase4 := true } }) (Or.inl h3)

/-- Every die but the management die has a transport key of its own draw (R444). -/
theorem State.transportKeys_get (s : State) {p : Nat} (hp : p < 26) : s.transportKeys.sec.transport.get p = some (s.sec.draws + p) :=
  (Tbl.get_foldl_mod_upto s.sec.transport (fun p _ => some (s.sec.draws + p)) 26 p).trans (if_pos hp)

/-- The claims of the conductors stand in every stage (R384). -/
theorem Cond.claims_stages (c : Cond) (ok0 ok1 : Bool) {k : Nat} (hk : k < 40) (hex : stageExists k = true) :
    ((c.claims ok0 ok1).stages.get k).claim0 = (c.claims ok0 ok1).c0.claim ∧ ((c.claims ok0 ok1).stages.get k).claim1 = (c.claims ok0 ok1).c1.claim := by
  have hget := stageList_foldl_mod c.stages (fun x => { x with claim0 := if ok0 then 2 else 1, claim1 := if ok0 then 1 else 2 }) hk hex
  exact ⟨congrArg OutStage.claim0 hget, congrArg OutStage.claim1 hget⟩

/-- The standby's state and claim (R384). -/
theorem Cond.claims_standby (c : Cond) (ok0 ok1 : Bool) : (c.claims ok0 ok1).c1.state = if ok1 = false then .failed else if ok0 then .standby else .active := by
  cases ok1 <;> rfl

/-- The state in which the joins have ended and every unit has trained. -/
def State.joined (s : State) (c0 c1 : Bool) : State :=
  let t := s.transportKeys
  let t := { t with
    blv := { t.blv with trained := true, trainCount := satAdd t.blv.trainCount allUnits }, cond := t.cond.claims c0 c1,
    top := { t.top with timeBase := s.top.now, phase3 := true } }
  t.eachShallot (fun _ h => { h with bondsUp := true })

theorem State.joinsEnd_eq (s : State) (c0 c1 : Bool) :
    s.joinsEnd c0 c1 [] [] = if !c0 && !c1 then State.bothLost { s.joined c0 c1 with top := { (s.joined c0 c1).top with phase := 0 } } else (s.joined c0 c1).startCalibration := by
  unfold State.joinsEnd State.joined
  dsimp only [List.foldl_nil]

/-- What the joins leave, the shallots apart. -/
theorem State.joined_rest (s : State) (c0 c1 : Bool) : { s.joined c0 c1 with sh := s.sh } = { s.transportKeys with
    blv := { s.blv with trained := true, trainCount := satAdd s.blv.trainCount allUnits }, cond := s.cond.claims c0 c1, top := { s.top with timeBase := s.top.now, phase3 := true } } :=
  State.eachShallot_keeps { s.transportKeys with
    blv := { s.blv with trained := true, trainCount := satAdd s.blv.trainCount allUnits }, cond := s.cond.claims c0 c1, top := { s.top with timeBase := s.top.now, phase3 := true } } _ s.sh

/-- What the joins leave and the start of the calibration keeps. -/
theorem State.joinsEnd_spec {c0 c1 : Bool} (h : s.top.phase = 3) (hone : c0 = true ∨ c1 = true) :
    let t := s.joinsEnd c0 c1 [] []
    t.top = { s.top with timeBase := s.top.now, phase3 := true, phase := if s.top.phase4 then 5 else 3 } ∧ t.cond = s.cond.claims c0 c1 ∧ t.sec = s.transportKeys.sec ∧ t.blv.trained = true ∧
    t.hbm = s.hbm := by
  have hrest := s.joined_rest c0 c1
  have hnot : (!c0 && !c1) = false := by
    cases c0
    · rw [hone.resolve_left Bool.false_ne_true]
      rfl
    · rfl
  rw [State.joinsEnd_eq, hnot, if_neg Bool.false_ne_true]
  generalize s.joined c0 c1 = u at *
  have htop : u.top = { s.top with timeBase := s.top.now, phase3 := true } := (congrArg State.top hrest :)
  have hcond : u.cond = s.cond.claims c0 c1 := (congrArg State.cond hrest :)
  have hsec : u.sec = s.transportKeys.sec := (congrArg State.sec hrest :)
  have htrained : u.blv.trained = true := (congrArg (fun x : State => x.blv.trained) hrest :)
  have hhbm : u.hbm = s.hbm := (congrArg State.hbm hrest :)
  dsimp only
  by_cases h4 : s.top.phase4 = true
  · rw [State.startCalibration_both (by rw [htop]) (by rw [htop]; exact h4), if_pos h4, htop]
    exact ⟨rfl, hcond, hsec, htrained, hhbm⟩
  · rw [State.startCalibration_not (Or.inr (by rw [htop]; exact Bool.of_not_eq_true h4)), if_neg h4, ← h, htop]
    exact ⟨rfl, hcond, hsec, htrained, hhbm⟩

end Joins

/-! ### Phase 6: the stacks (R191, R274, R444) -/

section Stacks
variable (s : State) (down : List StackDown)

/-- A stack once it has trained, or not. -/
def stackTrained (down : List StackDown) (h : Nat) (m : Stack) : Stack :=
  match down.find? (fun d => d.stack.val == h) with
  | some d => { m with valid := false, down := true, pcUp := d.pcUp.toNat }
  | none => { m with valid := true, down := false, pcUp := 64 }

theorem stackTrained_up {down : List StackDown} {h : Nat} (hup : ∀ d ∈ down, d.stack.val ≠ h) (m : Stack) : stackTrained down h m = { m with valid := true, down := false, pcUp := 64 } := by
  have hnone : down.find? (fun d => d.stack.val == h) = none := List.find?_eq_none.2 (fun d hd => by rw [beq_iff_eq]; exact hup d hd)
  unfold stackTrained
  rw [hnone]

theorem stackTrained_down {down : List StackDown} {h : Nat} (hdown : ¬ ∀ d ∈ down, d.stack.val ≠ h) (m : Stack) : (stackTrained down h m).down = true ∧ (stackTrained down h m).valid = false := by
  unfold stackTrained
  cases hfind : down.find? (fun d => d.stack.val == h) with
  | some d => exact ⟨rfl, rfl⟩
  | none => exact absurd (fun d hd => by have hd' := List.find?_eq_none.1 hfind d hd; rw [beq_iff_eq] at hd'; exact hd') hdown

/-- The state in which the stacks have trained and the failed ones are raised. -/
def State.stacksTrained : State :=
  down.foldl (fun (t : State) d => t.raise 0x4007 (8 + d.stack.val) 0 [BitVec.ofNat 8 d.pcUp.toNat]) ((upto 16).foldl (fun (t : State) h => t.modMem h (stackTrained down h)) s)

theorem State.stacksEnd_eq : s.stacksEnd down = State.stagingKey { (s.stacksTrained down).sizeStaging with top := { (s.stacksTrained down).sizeStaging.top with phase := 7 } } := rfl

/-- What the training of the stacks keeps, and the stacks that it leaves. -/
theorem State.stacksTrained_spec : (s.stacksTrained down).top = s.top ∧ (s.stacksTrained down).sec = s.sec ∧ (s.stacksTrained down).hbm = s.hbm ∧
    ∀ h, h < 16 → (s.stacksTrained down).mem.get h = stackTrained down h (s.mem.get h) := by
  have hraise := proj_foldl State.vault (fun (t : State) (d : StackDown) => t.raise 0x4007 (8 + d.stack.val) 0 [BitVec.ofNat 8 d.pcUp.toNat]) down
    ((upto 16).foldl (fun (t : State) h => t.modMem h (stackTrained down h)) s) (fun t _ => t.raise_vault ..)
  have hmem := State.foldl_modMem_mem (stackTrained down) (upto 16) s
  have hkeep := State.foldl_modMem_keeps (stackTrained down) (upto 16) s s.mem
  have hget := fun h => Tbl.get_foldl_mod_upto s.mem (stackTrained down) 16 h
  unfold State.stacksTrained
  generalize (upto 16).foldl (fun (t : State) h => t.modMem h (stackTrained down h)) s = u at *
  refine ⟨(congrArg (fun v => v.2.2.1) hraise).trans (congrArg State.top hkeep :), (congrArg (fun v => v.1) hraise).trans (congrArg State.sec hkeep :),
    (congrArg (fun v => v.2.2.2) hraise).trans (congrArg State.hbm hkeep :), fun h hh => ?_⟩
  rw [show (List.foldl _ u down : State).mem = u.mem from congrArg (fun v => v.2.1) hraise, hmem]
  exact (hget h).trans (if_pos hh)

end Stacks

/-- What phase 6 leaves: the stacks, the size of the staging halves and a fresh staging key. -/
theorem State.stacksEnd_spec {s : State} (htrng : s.sec.trngFailed = false) (down : List StackDown) :
    let t := s.stacksEnd down
    t.top = { s.top with phase := 7 } ∧ t.sec.staging = some s.sec.draws ∧ t.sec.draws = s.sec.draws + 1 ∧ t.hbm = s.hbm ∧ t.mem = (s.stacksTrained down).mem ∧
    t.img.stagingMiB = 512 * ((upto 16).filter (fun h => !((s.stacksTrained down).mem.get h).down)).length := by
  obtain ⟨htop, hsec, hhbm, -⟩ := s.stacksTrained_spec down
  rw [State.stacksEnd_eq]
  generalize s.stacksTrained down = u at *
  have hfails : (({ u.sizeStaging with top := { u.sizeStaging.top with phase := 7 } } : State).sec.trngFailed) = false := (congrArg Sec.trngFailed hsec).trans htrng
  unfold State.stagingKey
  rw [hfails, if_neg Bool.false_ne_true]
  have hdraws : u.sec.draws = s.sec.draws := congrArg Sec.draws hsec
  exact ⟨congrArg (fun x : Top => { x with phase := 7 }) htop, congrArg some hdraws, congrArg (· + 1) hdraws, hhbm, rfl, rfl⟩

theorem trainStacks_ends {s : State} (h : s.top.phase = 6) (htrng : s.sec.trngFailed = false) (down : List StackDown) :
    ∃ t, exec (.bringupPhaseEnd (.trainStacks down)) s = .next t ∧ t.top = { s.top with phase := 7 } ∧
      (∀ h, h < 16 → (t.mem.get h).down = !decide (∀ d ∈ down, d.stack.val ≠ h) ∧ (t.mem.get h).valid = decide (∀ d ∈ down, d.stack.val ≠ h) ∧
        ((∀ d ∈ down, d.stack.val ≠ h) → (t.mem.get h).pcUp = 64)) ∧
      t.img.stagingMiB = 512 * countOf 16 (fun h => decide (∀ d ∈ down, d.stack.val ≠ h)) ∧ t.sec.staging = some s.sec.draws ∧ t.sec.draws = s.sec.draws + 1 ∧ t.hbm = s.hbm := by
  obtain ⟨-, -, -, hstacks⟩ := s.stacksTrained_spec down
  obtain ⟨htop, hstaging, hdraws, hhbm, hmem, hsize⟩ := State.stacksEnd_spec htrng down
  have hdown : ∀ h, h < 16 → ((s.stacksTrained down).mem.get h).down = !decide (∀ d ∈ down, d.stack.val ≠ h) := fun h hh => by
    rw [hstacks h hh]
    by_cases hup : ∀ d ∈ down, d.stack.val ≠ h
    · rw [stackTrained_up hup, decide_eq_true hup]
      rfl
    · rw [(stackTrained_down hup _).1, decide_eq_false hup]
      rfl
  refine ⟨_, phaseEnd_stacks h down, htop, fun h hh => ?_, ?_, hstaging, hdraws, hhbm⟩
  · rw [hmem]
    refine ⟨hdown h hh, ?_, fun hup => ?_⟩
    · rw [hstacks h hh]
      by_cases hup : ∀ d ∈ down, d.stack.val ≠ h
      · rw [stackTrained_up hup, decide_eq_true hup]
      · rw [(stackTrained_down hup _).2, decide_eq_false hup]
    · rw [hstacks h hh, stackTrained_up hup]
  · rw [hsize, countOf, ← upto_eq_range, List.countP_eq_length_filter]
    refine congrArg (fun l : List Nat => 512 * l.length) (List.filter_congr (fun h hh => ?_))
    rw [hdown h ((upto_mem ..).1 hh), Bool.not_not]

/-! ### Phase 8: the self-test, and IDLE (R489, R492) -/

/-- The security state, the loader, the bytes of the stacks and the running command. -/
def State.secured (s : State) : Sec × Loader × List Host.Cell × Option RunningCmd := (s.sec, s.img, s.hbm, s.cmd)

theorem State.raise_secured (s : State) (code plaza unit : Nat) (detail : List Byte) : (s.raise code plaza unit detail).secured = s.secured := by
  simp [State.secured]

theorem State.fence_hbm (s : State) (n : Nat) : (s.fence n).hbm = s.hbm := by
  have h := congrArg Prod.fst (State.fence_hm s n)
  unfold State.hm at h
  exact h

theorem State.fence_secured (s : State) (n : Nat) : (s.fence n).secured = s.secured := by
  simp [State.secured, State.fence_hbm]

/-- A shallot that a test fails is fenced, or the pod is retired. -/
theorem State.bistFail_secured (s : State) (f : BistFail) : (s.bistFail f).secured = s.secured := by
  unfold State.bistFail
  dsimp only
  have hraise : ((if f.test.val ≤ 1 then s.raise 0x1030 f.sh.val 0 [] else s).raise 0x0032 f.sh.val f.pod.val [BitVec.ofNat 8 f.test.val]).secured = s.secured := by
    rw [State.raise_secured]
    split
    · exact State.raise_secured ..
    · rfl
  generalize (if f.test.val ≤ 1 then s.raise 0x1030 f.sh.val 0 [] else s).raise 0x0032 f.sh.val f.pod.val [BitVec.ofNat 8 f.test.val] = u at hraise ⊢
  split
  · exact (State.fence_secured ..).trans hraise
  · exact hraise

/-- Is a shallot fenced, and which pods did its self-test retire? -/
def State.shTested (s : State) (n : Nat) : Bool × List Nat := ((s.shal n).fenced, (s.shal n).bistRetired)

theorem State.shTested_of_sh {s t : State} (h : t.sh = s.sh) (n : Nat) : t.shTested n = s.shTested n := by
  unfold State.shTested
  rw [State.shal_of_sh h]

theorem State.raise_shTested (s : State) (code plaza unit : Nat) (detail : List Byte) (n : Nat) : (s.raise code plaza unit detail).shTested n = s.shTested n := State.shTested_of_sh (State.raise_sh ..) n

theorem State.modShs_shTested (s : State) (test : Shallot → Bool) {g : Shallot → Shallot} (hg : ∀ h, (g h).fenced = h.fenced ∧ (g h).bistRetired = h.bistRetired) (n : Nat) :
    (s.modShs test g).shTested n = s.shTested n := by
  unfold State.shTested State.modShs
  rw [foldl_modSh_shal test g _ (by decide)]
  split
  · exact Prod.ext (hg _).1 (hg _).2
  · rfl

theorem State.stopShallots_shTested (s : State) (n : Nat) : s.stopShallots.shTested n = s.shTested n := by
  unfold State.stopShallots
  exact s.modShs_shTested _ (by exact fun _ => ⟨rfl, rfl⟩) n

theorem State.endExec_shTested (s : State) (c : EndCause) (n : Nat) : (s.endExec c).shTested n = s.shTested n := by
  have hstop := s.stopShallots_shTested n
  unfold State.endExec
  generalize s.stopShallots = u at hstop ⊢
  split
  · split
    · split
      · rfl
      · exact hstop
    · exact hstop
  · rfl

/-- A fence fences its shallot and no other, and retires no pod. -/
theorem State.fence_shTested (s : State) (n k : Nat) : (s.fence n).shTested k = (if k = n then true else (s.shal k).fenced, (s.shal k).bistRetired) := by
  have hmod : (s.modSh n (fun h => { h with fenced := true })).shTested k = (if k = n then true else (s.shal k).fenced, (s.shal k).bistRetired) := by
    unfold State.shTested
    by_cases hk : k = n
    · rw [hk, State.modSh_shal_self, if_pos rfl]
    · rw [State.modSh_shal_ne _ _ hk, if_neg hk]
  unfold State.fence
  by_cases hf : (s.shal n).fenced = true
  · rw [if_pos hf]
    by_cases hk : k = n
    · rw [hk, if_pos rfl, ← hf]
      rfl
    · rw [if_neg hk]
      rfl
  · rw [if_neg hf]
    dsimp only
    split
    · exact (State.endExec_shTested ..).trans ((State.raise_shTested ..).trans hmod)
    · exact hmod

/-- What the limit of retired pods may change of the tests: a shallot is fenced. -/
def testsHeld (old new : Bool × List Nat) : Prop := (old.1 = true → new.1 = true) ∧ new.2 = old.2

theorem State.fence_held (s : State) (n k : Nat) : testsHeld (s.shTested k) ((s.fence n).shTested k) := by
  rw [State.fence_shTested]
  refine ⟨fun h => ?_, rfl⟩
  dsimp only
  split
  · rfl
  · exact h

section Bist
variable (s : State) (fails : List BistFail)

/-- The limit of 128 retired pods of a shallot (R492), as the state before the failures tells the fuses. -/
def State.bistLimit (t : State) (n : Nat) : State :=
  if 128 < ((upto 512).filter (fun p => (s.pod n p).fused || (t.shal n).bistRetired.contains p)).length then t.fence n else t

theorem State.bistEnd_eq (shallots : List Nat) : s.bistEnd shallots fails =
    shallots.foldl s.bistLimit ((fails.filter (fun f => shallots.contains f.sh.val && !(s.shal f.sh.val).fenced)).foldl State.bistFail s) := rfl

theorem State.bistLimit_secured (t : State) (n : Nat) : (s.bistLimit t n).secured = t.secured := by
  unfold State.bistLimit
  split
  · exact State.fence_secured ..
  · rfl

theorem State.bistEnd_secured (shallots : List Nat) : (s.bistEnd shallots fails).secured = s.secured := by
  rw [State.bistEnd_eq]
  exact (proj_foldl State.secured s.bistLimit shallots _ (fun t n => s.bistLimit_secured t n)).trans (proj_foldl State.secured State.bistFail _ s (fun t f => t.bistFail_secured f))

theorem State.bistLimit_held (k : Nat) (l : List Nat) (t : State) : testsHeld (t.shTested k) ((l.foldl s.bistLimit t).shTested k) := by
  induction l generalizing t with
  | nil => exact ⟨id, rfl⟩
  | cons n l ih =>
    have hone : testsHeld (t.shTested k) ((s.bistLimit t n).shTested k) := by
      unfold State.bistLimit
      split
      · exact t.fence_held n k
      · exact ⟨id, rfl⟩
    obtain ⟨hfenced, hretired⟩ := ih (s.bistLimit t n)
    rw [List.foldl_cons]
    exact ⟨fun h => hfenced (hone.1 h), hretired.trans hone.2⟩

/-- A failure fences its shallot, or retires its pod. -/
theorem State.bistFail_shTested (f : BistFail) :
    (f.test.val ≤ 1 → ((s.bistFail f).shTested f.sh.val).1 = true) ∧ (2 ≤ f.test.val → f.pod.val ∈ ((s.bistFail f).shTested f.sh.val).2) := by
  unfold State.bistFail
  dsimp only
  refine ⟨fun h => ?_, fun h => ?_⟩
  · rw [if_pos h, State.fence_shTested, if_pos rfl]
  · rw [if_neg (by omega), if_neg (by omega), State.shTested, State.modSh_shal_self]
    dsimp only
    split
    · rwa [← List.contains_iff_mem]
    · exact List.mem_append_right _ (List.mem_singleton_self _)

theorem State.bistEnd_one {f : BistFail} (hfree : (s.shal f.sh.val).fenced = false) :
    (f.test.val ≤ 1 → ((s.bistEnd (upto 8) [f]).shTested f.sh.val).1 = true) ∧ (2 ≤ f.test.val → f.pod.val ∈ ((s.bistEnd (upto 8) [f]).shTested f.sh.val).2) := by
  have hlisted : (upto 8).contains f.sh.val = true := List.contains_iff_mem.2 ((upto_mem ..).2 f.sh.isLt)
  obtain ⟨hfence, hretire⟩ := s.bistFail_shTested f
  obtain ⟨hfenced, hretired⟩ := s.bistLimit_held f.sh.val (upto 8) (s.bistFail f)
  rw [State.bistEnd_eq, List.filter_cons_of_pos (by rw [hlisted, hfree]; rfl), List.filter_nil,
    List.foldl_cons, List.foldl_nil, hretired]
  exact ⟨fun h => hfenced (hfence h), hretire⟩

end Bist

/-- In IDLE a grant changes the sequencer alone. -/
theorem State.grantIdle_idle {s : State} (h : s.top.state = .idle) : ∃ q, s.grantIdle = { s with seq := q } := by
  have hrun : (s.top.state == .running) = false := by rw [h]; rfl
  unfold State.grantIdle State.beginRecess
  dsimp only
  rw [hrun, if_neg Bool.false_ne_true]
  split
  · split
    · exact ⟨_, rfl⟩
    · split
      · exact ⟨s.seq, rfl⟩
      · exact ⟨_, rfl⟩
  · exact ⟨s.seq, rfl⟩

/-- At IDLE a running UNPARK or RESET ends. -/
def State.lifeCmdEnded (s : State) : State :=
  match s.host.running with
  | some c => if c.opcode = 6 ∨ c.mewsOp = 0x32 then s.endCmd .ok [] else s
  | none => s

theorem State.lifeCmdEnded_spec (s : State) :
    let t := s.lifeCmdEnded
    t.top = s.top ∧ t.sec = s.sec ∧ t.img = s.img ∧ t.hbm = s.hbm ∧ t.sh = s.sh ∧ (∀ c, s.cmd = some c → c.opcode = 6 ∨ c.mewsOp = 0x32 → t.cmd = none) := by
  have hends : ∀ c, s.host.running = some c → c.opcode = 6 ∨ c.mewsOp = 0x32 → s.lifeCmdEnded = s.endCmd .ok [] := fun c hrun hlife => by
    unfold State.lifeCmdEnded
    rw [hrun]
    exact if_pos hlife
  have hkept : (∀ c, s.host.running = some c → ¬ (c.opcode = 6 ∨ c.mewsOp = 0x32)) → s.lifeCmdEnded = s := fun hnone => by
    unfold State.lifeCmdEnded
    cases hrun : s.host.running with
    | none => rfl
    | some c => exact if_neg (hnone c hrun)
  by_cases hlife : ∃ c, s.host.running = some c ∧ (c.opcode = 6 ∨ c.mewsOp = 0x32)
  · obtain ⟨c, hrun, hc⟩ := hlife
    rw [hends c hrun hc]
    exact ⟨s.endCmd_top .., s.endCmd_sec .., s.endCmd_img .., (State.hbm_tags_of_hm (s.endCmd_hm ..)).1, s.endCmd_sh .., fun _ _ _ => s.endCmd_cmd ..⟩
  · rw [hkept (fun c hrun hc => hlife ⟨c, hrun, hc⟩)]
    exact ⟨rfl, rfl, rfl, rfl, rfl, fun c hrun hc => absurd ⟨c, hrun, hc⟩ hlife⟩

/-- The state that reports its IDLE. -/
def State.idleTold (s : State) (detail : List Byte) : State :=
  ({ s with top := { s.top with state := .idle, phase := 0, unparking := false } } : State).raise 0x0030 pkgPlaza 0 detail

theorem State.reachIdle_eq (s : State) : ∃ detail, s.reachIdle = (s.idleTold detail).lifeCmdEnded.grantIdle := ⟨_, rfl⟩

theorem State.idleTold_spec (s : State) (detail : List Byte) :
    let t := s.idleTold detail
    t.top = { s.top with state := .idle, phase := 0, unparking := false } ∧ t.sec = s.sec ∧ t.img = s.img ∧ t.hbm = s.hbm ∧ t.sh = s.sh ∧ t.cmd = s.cmd :=
  ⟨State.raise_top .., State.raise_sec .., State.raise_img .., State.raise_hbm .., State.raise_sh .., State.raise_cmd ..⟩

/-- What reaching IDLE changes. -/
theorem State.reachIdle_spec (s : State) :
    let t := s.reachIdle
    t.top = { s.top with state := .idle, phase := 0, unparking := false } ∧ (∀ c, s.cmd = some c → c.opcode = 6 ∨ c.mewsOp = 0x32 → t.cmd = none) ∧
    t.sec = s.sec ∧ t.img = s.img ∧ t.hbm = s.hbm ∧ t.sh = s.sh := by
  obtain ⟨detail, heq⟩ := s.reachIdle_eq
  obtain ⟨htop, hsec, himg, hhbm, hsh, hcmd⟩ := s.idleTold_spec detail
  rw [heq]
  generalize s.idleTold detail = u at htop hsec himg hhbm hsh hcmd ⊢
  obtain ⟨htop', hsec', himg', hhbm', hsh', hends⟩ := u.lifeCmdEnded_spec
  generalize u.lifeCmdEnded = v at htop' hsec' himg' hhbm' hsh' hends ⊢
  obtain ⟨q, hq⟩ := State.grantIdle_idle (s := v) (by rw [htop', htop])
  rw [hq]
  exact ⟨htop'.trans htop, fun c hc => hends c (hcmd.trans hc), hsec'.trans hsec, himg'.trans himg, hhbm'.trans hhbm, hsh'.trans hsh⟩

theorem selfTest_ends {s : State} (h : s.top.phase = 8) (fails : List BistFail) :
    ∃ t, exec (.bringupPhaseEnd (.selfTest fails)) s = .next t ∧ t.top.state = .idle ∧ t.top.phase = 0 ∧ t.top.unparking = false ∧
      (∀ c, s.cmd = some c → c.opcode = 6 ∨ c.mewsOp = 0x32 → t.cmd = none) ∧ t.hbm = s.hbm ∧ t.sec = s.sec ∧ t.img = s.img ∧
      ∀ n, t.shTested n = (s.bistEnd (upto 8) fails).shTested n := by
  have hsecured := s.bistEnd_secured fails (upto 8)
  refine ⟨_, phaseEnd_selfTest h fails, ?_⟩
  generalize s.bistEnd (upto 8) fails = u at hsecured ⊢
  obtain ⟨hsec, himg, hhbm, hcmd⟩ : u.sec = s.sec ∧ u.img = s.img ∧ u.hbm = s.hbm ∧ u.cmd = s.cmd :=
    ⟨congrArg Prod.fst hsecured, congrArg (·.2.1) hsecured, congrArg (·.2.2.1) hsecured, congrArg (·.2.2.2) hsecured⟩
  obtain ⟨htop, hends, hsec', himg', hhbm', hsh⟩ := u.reachIdle_spec
  generalize u.reachIdle = v at htop hends hsec' himg' hhbm' hsh ⊢
  exact ⟨congrArg Top.state htop, congrArg Top.phase htop, congrArg Top.unparking htop, fun c hc => hends c (hcmd.trans hc), hhbm'.trans hhbm, hsec'.trans hsec, himg'.trans himg,
    fun n => State.shTested_of_sh hsh n⟩

/-- Settles O49: phase by phase; a phase that does not run changes nothing. -/
theorem bringUp : Obligations.BringUp := by
  unfold Obligations.BringUp
  intro down c0 c1 fails f s
  refine ⟨vddAonUp_there, vddAonUp_first, vddAonUp_again, fun e he => bringupPhaseEnd_other ?_, firmware_runs, firmware_recovers, phaseEnd_rails, fun h h3 a b => ?_, fun h h3 hone => ?_,
    fun h h3 => ?_, lamps_due, lamps_warm, phaseEnd_calibration, fun h htrng => trainStacks_ends h htrng down, phaseEnd_ports, fun h => ?_, fun h hfree => ?_⟩
  · cases e <;> exact he
  · rw [phaseEnd_joins h, h3, if_pos rfl]
  · obtain ⟨htop, hcond, hsec, htrained, hhbm⟩ := State.joinsEnd_spec h hone
    refine ⟨s.joinsEnd c0 c1 [] [], by rw [phaseEnd_joins h, h3, if_neg Bool.false_ne_true], ?_⟩
    generalize s.joinsEnd c0 c1 [] [] = t at htop hcond hsec htrained hhbm ⊢
    rw [htop, hcond, hsec]
    refine ⟨rfl, rfl, rfl, rfl, rfl, rfl, s.cond.claims_standby c0 c1, rfl, rfl, fun k hk hex => s.cond.claims_stages c0 c1 hk hex, fun p hp => s.transportKeys_get hp, rfl, htrained, hhbm⟩
  · refine ⟨s.joinsEnd false false [] [], by rw [phaseEnd_joins h, h3, if_neg Bool.false_ne_true], ?_⟩
    rw [State.joinsEnd_eq, if_pos (show (!false && !false) = true from rfl)]
    exact (State.bothLost_spec _).1
  · obtain ⟨t, hexec, hstate, hphase, hunpark, hends, hhbm, hsec, himg, -⟩ := selfTest_ends h fails
    exact ⟨t, hexec, hstate, hphase, hunpark, hends, hhbm, hsec, himg⟩
  · obtain ⟨t, hexec, -, -, -, -, -, -, -, htests⟩ := selfTest_ends h [f]
    obtain ⟨hfence, hretire⟩ := s.bistEnd_one hfree
    rw [← htests] at hfence hretire
    exact ⟨t, hexec, hfence, hretire⟩

end Sys2Proof.Machine
end

section
/-! PROOF. The clocks, power and heat of the shallots, and where the commands of the pair, the bonds, the clocks and the gate dies' own work complete (R422 to R440). -/
namespace Sys2Proof.Machine

theorem State.modSh_congr (s : State) {n : Nat} {f g : Shallot → Shallot} (h : f (s.shal n) = g (s.shal n)) : s.modSh n f = s.modSh n g :=
  congrArg (fun v => ({ s with sh := s.sh.set n v } : State)) h

/-! ### Clocks (R422 to R424) -/

section Clocks
variable {s : State} {sh : Fin 8}

/-- Margins between 30 and 50 ps leave code and set point (R422). -/
theorem governorTick_holds {ad sd : BitVec 8} (hpow : (s.shal sh.val).powered = true) (hlow : 30 < min ad.toNat sd.toNat) (hhigh : min ad.toNat sd.toNat ≤ 50) :
    exec (.governorTick sh ad sd) s = .next (s.modSh sh.val (fun h => { h with clk := { h.clk with
      marginAd := ad.toNat, marginSd := sd.toNat, highRun := 0, sinceRise := min 1000 (h.clk.sinceRise + 1), sinceAvs := min 10 (h.clk.sinceAvs + 1) } })) := by
  have hgovern : ∀ t : State, t.govern sh.val (min ad.toNat sd.toNat) = t := fun t => by
    unfold State.govern
    rw [if_neg (by omega), if_neg (by omega), if_pos hhigh]
  rw [exec_governorTick, execGovernorTick]
  dsimp only
  rw [if_pos hpow, hgovern]
  simp only [if_neg (show ¬ 60 < min ad.toNat sd.toNat by omega)]
  rfl

theorem State.beginStop_none {s : State} {n : Nat} (h : (s.shal n).clk.demands = []) : s.beginStop n = s := by
  unfold State.beginStop
  dsimp only
  rw [h]

/-- The last demanded change is in force, and no stop follows (R423). -/
theorem freqStopEnd_last {o : Nat} (h : (s.shal sh.val).clk.demands = [o]) :
    exec (.freqStopEnd sh) s = .next (s.modSh sh.val (fun h => { h with clk := { h.clk with code := o, demands := [], stopNs := 0 } })) := by
  rw [exec_freqStopEnd, execFreqStopEnd]
  dsimp only
  rw [h]
  dsimp only
  rw [State.beginStop_none (by rw [State.modClk, State.modSh_shal_self])]
  rfl

theorem droopDetect_stretches {depth : BitVec 10} (hpow : (s.shal sh.val).powered = true) (hdeep : 30 ≤ depth.toNat) :
    ∃ t, exec (.droopDetect sh depth) s = .next t ∧ (t.shal sh.val).clk.droopCount = satAdd (s.shal sh.val).clk.droopCount 1 ∧
      (t.shal sh.val).clk.stretch = max (s.shal sh.val).clk.stretch (if depth.toNat ≤ 45 then 1 else 2) := by
  rw [exec_droopDetect, execDroopDetect, if_neg (show ¬ depth.toNat < 30 by omega), hpow]
  refine ⟨_, if_neg ?_, ?_⟩
  · split <;> decide
  · rw [State.modSh_shal_self]
    exact ⟨rfl, rfl⟩

end Clocks

/-! ### Rails and sensors (R420, R426) -/

theorem railOut_within {rail nominal mv : Nat} (hlow : nominal * 95 ≤ mv * 100) (hhigh : mv * 100 ≤ nominal * (if rail < 8 then 103 else 105)) : railOut rail nominal mv = false := by
  unfold railOut
  rw [decide_eq_false (Nat.not_lt.2 hlow), decide_eq_false (Nat.not_lt.2 hhigh)]
  rfl

/-- A reading within its tolerance ends the run of readings out of it. -/
theorem railCheck_within {s : State} {rail : Fin 19} {mv : BitVec 16} (amps : BitVec 16) (hnom : s.railNominal rail.val ≠ 0)
    (hon : (if rail.val < 16 then s.mainRails else s.top.aon) = true) (hin : railOut rail.val (s.railNominal rail.val) mv.toNat = false) :
    ∃ t, exec (.railCheck rail mv amps) s = .next t ∧ t.pp.railRuns.get rail.val = 0 := by
  rw [exec_railCheck, execRailCheck]
  dsimp only
  rw [hon, hin, if_pos (by rw [Bool.and_true, bne_iff_ne]; exact hnom), if_neg Bool.false_ne_true, if_neg (fun h => absurd h.1 (by decide))]
  exact ⟨_, rfl, Tbl.get_set_self _ _ _⟩

theorem railCheck_next (s : State) (rail : Fin 19) (mv amps : BitVec 16) : ∃ t, exec (.railCheck rail mv amps) s = .next t := by
  rw [exec_railCheck, execRailCheck]
  dsimp only
  by_cases hon : (s.railNominal rail.val != 0 && (if rail.val < 16 then s.mainRails else s.top.aon)) = true
  · exact ⟨_, if_pos hon⟩
  · exact ⟨_, if_neg hon⟩

theorem sensorRead_shallot {s : State} {plaza : PlazaNo} {sensor : Fin 64} (v : Option Half) (hplaza : plaza.val < 8) (hsensor : sensor.val < 32) :
    ∃ t, exec (.sensorRead plaza false sensor v) s = .next t ∧
      t.pp.sensors = s.pp.sensors.set (plaza.val * 512 + sensor.val) (v.filter (fun y => decide (-40 * 128 ≤ y.toInt ∧ y.toInt ≤ 150 * 128))) := by
  have hkind : plazaKind plaza.val = 0 := if_pos hplaza
  have hcount : sensorCount plaza.val false = 32 := by
    unfold sensorCount
    rw [if_neg Bool.false_ne_true, hkind]
    rfl
  have hvalid : validTemp v = v.filter (fun y => decide (-40 * 128 ≤ y.toInt ∧ y.toInt ≤ 150 * 128)) := by
    unfold validTemp
    refine congrArg v.filter (funext fun y => ?_)
    rw [← Bool.decide_and]
    exact decide_eq_decide.2 (by omega)
  have hix : sensorIx plaza.val false sensor.val = plaza.val * 512 + sensor.val := by
    rw [sensorIx, show b2n false = 0 from rfl]
    omega
  rw [exec_sensorRead, execSensorRead, hcount, if_pos hsensor]
  dsimp only
  rw [hkind, if_neg (show ¬ plaza.val = 26 by omega), if_neg (by decide), hvalid, hix]
  exact ⟨_, rfl, rfl⟩

theorem thermistorRead_reads (s : State) (th : Fin 4) (v : Option Half) : ∃ t, exec (.thermistorRead th v) s = .next t ∧ t.pp.th.get th.val = v := by
  rw [exec_thermistorRead]
  unfold execThermistorRead
  cases v with
  | none => exact ⟨_, rfl, Tbl.get_set_self _ _ _⟩
  | some x =>
    dsimp only
    split
    · refine ⟨_, rfl, ?_⟩
      rw [State.raise_pp]
      exact Tbl.get_set_self _ _ _
    · exact ⟨_, rfl, Tbl.get_set_self _ _ _⟩

/-! ### Power and wakes (R427, R429, R432, R434) -/

theorem State.pp_ite {s a b : State} (p : Prop) [Decidable p] (ha : a.pp = s.pp) (hb : b.pp = s.pp) : (if p then a else b).pp = s.pp := by
  split
  · exact ha
  · exact hb

theorem State.forecastCheck_power (s : State) (n : Nat) : (s.forecastCheck n).pp = s.pp :=
  State.pp_ite _ (State.pp_ite _ (State.raise_pp ..) rfl) rfl

theorem foldl_modPwr_pp {α : Type} (n : α → Nat) (f : α → ShPower → ShPower) (l : List α) (s : State) : (l.foldl (fun t a => t.modPwr (n a) (f a)) s).pp = s.pp :=
  proj_foldl State.pp _ _ _ (fun _ _ => rfl)

theorem powerMeasure_power (s : State) (pkg : BitVec 16) (pr : List PowerReading) : ∃ t, exec (.powerMeasure pkg pr) s = .next t ∧ t.pp.power = pkg.toNat := by
  rw [exec_powerMeasure, execPowerMeasure]
  refine ⟨_, rfl, ?_⟩
  rw [proj_foldl State.pp State.forecastCheck shallotNums _ (fun t n => t.forecastCheck_power n), foldl_modPwr_pp, foldl_modPwr_pp]

theorem State.refill_credits (s : State) : s.refill.pp.credits = min (10 * (s.pp.pkgSlew.toNat / 2 ^ 16 % 4096)) (s.pp.credits + s.pp.pkgSlew.toNat % 4096) := by
  have hpp : ∀ f, (s.eachShallot f).pp = s.pp := fun f => (congrArg State.pp (s.eachShallot_keeps f s.sh) :)
  have hhigh : bitsOf s.pp.pkgSlew.toNat 16 12 = s.pp.pkgSlew.toNat / 2 ^ 16 % 4096 := bitsOf_eq_div_mod ..
  have hlow : bitsOf s.pp.pkgSlew.toNat 0 12 = s.pp.pkgSlew.toNat % 4096 := by
    rw [bitsOf_eq_div_mod]
    omega
  rw [← hhigh, ← hlow]
  unfold State.refill
  dsimp only
  rw [hpp]

/-- A shallot's bucket refilled. -/
def State.refillShallot (s : State) (_ : Nat) (h : Shallot) : Shallot :=
  { h with pwr := { h.pwr with credits := min (10 * bitsOf s.pp.slew.toNat 16 12) (h.pwr.credits + bitsOf s.pp.slew.toNat 0 9) } }

theorem State.refill_sh (s : State) : s.refill.sh = (s.eachShallot s.refillShallot).sh := by
  unfold State.refill
  dsimp only
  rfl

theorem State.refill_dueWakes (s : State) {n : Nat} (hn : n < 8) : (s.refill.shal n).pwr.dueWakes = (s.shal n).pwr.dueWakes := by
  rw [State.shal_of_sh s.refill_sh, s.eachShallot_shal s.refillShallot hn]
  rfl

theorem foldl_eq_self {α β : Type} {f : β → α → β} {l : List α} {b : β} (h : ∀ a ∈ l, f b a = b) : l.foldl f b = b := by
  induction l with
  | nil => rfl
  | cons a l ih =>
    rw [List.foldl_cons, h a List.mem_cons_self]
    exact ih (fun x hx => h x (List.mem_cons_of_mem _ hx))

/-- Where no wake is due, WAKE_TICK refills the buckets alone. -/
theorem wakeTick_refills {s : State} (h : ∀ m, m < 8 → (s.shal m).pwr.dueWakes = []) : exec .wakeTick s = .next s.refill := by
  rw [exec_wakeTick, execWakeTick]
  refine congrArg Host.Outcome.next (foldl_eq_self (fun n hn => ?_))
  rw [(s.refill_dueWakes ((upto_mem ..).1 hn)).trans (h n ((upto_mem ..).1 hn))]
  rw [show (upto 512).filter (fun p => ([] : List Nat).contains p) = [] from List.filter_eq_nil_iff.2 (fun p _ => by simp), List.foldl_nil]

theorem forecastFrame_none {s : State} {sh : Fin 8} {next : Bool} (h : s.img.image = none) :
    ∃ t, exec (.forecastFrame sh next 0) s = .next t ∧ (t.shal sh.val).pwr.forecast = 2880 ∧ (t.shal sh.val).pwr.profile = false := by
  have hprof : ∀ k, s.profileAt sh.val k = none := fun k => by
    unfold State.profileAt
    rw [h]
  rw [exec_forecastFrame, execForecastFrame]
  rw [hprof]
  dsimp only
  rw [if_pos rfl]
  refine ⟨_, rfl, ?_⟩
  rw [State.emit_shal, State.modPwr, State.modSh_shal_self]
  exact ⟨rfl, rfl⟩

theorem forecastFrame_next (s : State) (sh : Fin 8) (next : Bool) (segment : Nat) : ∃ t, exec (.forecastFrame sh next segment) s = .next t := by
  rw [exec_forecastFrame, execForecastFrame]
  split
  · exact ⟨_, rfl⟩
  · exact ⟨_, rfl⟩

section Limits
variable {s : State} {sh : Fin 8}

theorem forecastHoldEnd_ends {o : Nat} (h : (s.shal sh.val).forecastHold = some o) (hnow : o ≤ s.top.now) :
    exec (.forecastHoldEnd sh) s = .next (s.modSh sh.val (fun h => { h with forecastHold := none })) := by
  rw [exec_forecastHoldEnd, execForecastHoldEnd, h]
  exact congrArg Host.Outcome.next (if_pos hnow)

theorem vrLimitAssert_pauses (h : (s.shal sh.val).pwr.vrLimit = false) :
    exec (.vrLimitAssert sh) s = .next (s.modSh sh.val (fun h => { h with pwr := { h.pwr with vrLimit := true, vrSince := s.top.now } })) := by
  rw [exec_vrLimitAssert, execVrLimitAssert]
  refine congrArg Host.Outcome.next (s.modSh_congr ?_)
  dsimp only
  rw [h, if_neg Bool.false_ne_true]

theorem vrLimitDeassert_resumes (h : (s.shal sh.val).pwr.vrLimit = true) :
    exec (.vrLimitDeassert sh) s = .next (s.modSh sh.val (fun h =>
      { h with pwr := { h.pwr with vrLimitUs := satAdd h.pwr.vrLimitUs ((s.top.now - h.pwr.vrSince) / 1000), vrLimit := false } })) := by
  rw [exec_vrLimitDeassert, execVrLimitDeassert]
  refine congrArg Host.Outcome.next (s.modSh_congr ?_)
  dsimp only
  rw [ShPower.vrTime, h, if_pos rfl]

theorem vrLimitTimer_raises (h : (s.shal sh.val).pwr.vrLimit = true) : exec (.vrLimitTimer sh) s = .next (s.raise 0x9006 sh.val 0 []) := by
  rw [exec_vrLimitTimer, execVrLimitTimer, if_pos h]

end Limits

/-! ### Heat (R435, R436) -/

theorem thermalCheck_off {s : State} {activity : List Activity} {blvd : Option Half} (hoff : s.mainRails = false) (hcool : s.hottest 26 false 0 4 = none) :
    exec (.thermalCheck activity blvd) s = .next s := by
  rw [exec_thermalCheck, execThermalCheck]
  dsimp only
  rw [hoff, if_neg Bool.false_ne_true]
  unfold State.managementHot
  rw [hcool]
  exact congrArg Host.Outcome.next (if_neg Bool.false_ne_true)

theorem State.modEnds_sh (s : State) (u : BondUnit) (f : TrainEnd → TrainEnd) : (s.modEnds u f).sh = s.sh := rfl

theorem State.beginAttempt_sh (s : State) (u : BondUnit) (a : Nat) : (s.beginAttempt u a).sh = s.sh :=
  s.modEnds_sh u (fun x => x.begun a)

/-- The interface units of a die train anew without its shallots. -/
theorem State.retrain_sh (s : State) {u : BondUnit} (hu : unitPod u = none) : (s.retrain u).sh = s.sh := by
  have hforget : ∀ (t : State) far, (t.forget u far).sh = t.sh := fun t far => by
    unfold State.forget
    rw [hu]
    rfl
  have hpause : ∀ t : State, (t.pauseUnit u).sh = t.sh := fun t => proj_foldl State.sh _ _ _ (fun _ _ => rfl)
  unfold State.retrain
  split
  · dsimp only
    rw [hpause, State.beginAttempt_sh, State.modEnds_sh, hforget, hforget]
  · rfl

theorem dieUnits_interface {p : PlazaNo} {u : BondUnit} (h : u ∈ dieUnits p) : unitPod u = none := by
  unfold dieUnits at h
  rcases List.mem_append.1 h with h | h
  · obtain ⟨k, -, rfl⟩ := List.mem_map.1 h
    rfl
  · obtain ⟨k, -, rfl⟩ := List.mem_map.1 h
    rfl

theorem foldl_retrain_sh (l : List BondUnit) (s : State) (h : ∀ u ∈ l, unitPod u = none) : (l.foldl State.retrain s).sh = s.sh := by
  induction l generalizing s with
  | nil => rfl
  | cons u l ih =>
    rw [List.foldl_cons, ih _ (fun v hv => h v (List.mem_cons_of_mem _ hv)), s.retrain_sh (h u List.mem_cons_self)]

theorem State.retrainDie_sh (s : State) (p : Nat) : (s.retrainDie p).sh = s.sh := foldl_retrain_sh _ s (fun _ hu => dieUnits_interface hu)

theorem State.shallotGo_sh (s : State) (n : Nat) :
    (s.shallotGo n).sh = ((if (s.shal n).placed then s.endExec .other else s).modSh n (fun h => { h.kept s.top.now true with placed := h.placed, resetting := true, recess := none })).sh :=
  State.retrainDie_sh ..

/-- A shallot's reset leaves what it keeps, and no tally. -/
theorem State.shallotGo_shal (s : State) (n : Nat) : ((s.shallotGo n).shal n).resetting = true ∧ ((s.shallotGo n).shal n).tallies = {} := by
  rw [State.shal_of_sh (s.shallotGo_sh n), State.modSh_shal_self]
  exact ⟨rfl, rfl⟩

theorem shallotCooldownEnd_resets {s : State} {sh : Fin 8} (hwaits : (s.shal sh.val).pwr.resetWaits = true) (hcool : (s.shal sh.val).pwr.cooled s.top.now = true) :
    ∃ t, exec (.shallotCooldownEnd sh) s = .next t ∧ (t.shal sh.val).resetting = true := by
  rw [exec_shallotCooldownEnd, execShallotCooldownEnd]
  rw [hwaits, hcool, if_pos (show (true && true) = true from rfl)]
  exact ⟨_, rfl, (s.shallotGo_shal sh.val).1⟩

/-! ### The gate dies' own work (R281, R288) -/

theorem scrubUnit_sound {s : State} {st : Fin 16} {unit : BitVec 30} (noSpare : Bool) (hserves : (s.mem.get st.val).serves = true) (hlost : (s.mem.get st.val).lost.contains unit.toNat = false) :
    exec (.scrubUnit st unit none noSpare) s = .next (if unit.toNat = 2 ^ 30 - 1 then s.modMem st.val (fun m => { m with scrubPasses := satAdd m.scrubPasses 1, corrected := {} }) else s) := by
  have hsame : s.scrubbed st.val unit.toNat none noSpare = s := if_neg (Bool.eq_false_iff.1 hlost)
  rw [exec_scrubUnit]
  by_cases hlast : unit.toNat = 2 ^ 30 - 1
  · rw [execScrubUnit_last _ _ _ _ _ hserves hlast, hsame, if_pos hlast]
  · rw [execScrubUnit_inside _ _ _ _ _ hserves hlast, hsame, if_neg hlast]

theorem State.storeUnit_mem (s : State) (h u : Nat) (session : Bool) (bs : List Byte) : (s.storeUnit h u session bs).mem = s.mem := by
  unfold State.storeUnit
  dsimp only
  split <;> rfl

/-- The walker goes on behind the unit that it meets. -/
theorem walkerStep_moves {s : State} {st : Fin 16} {o : Nat} (hw : (s.mem.get st.val).walking = true) (hnext : s.nextSessionUnit st.val (s.mem.get st.val).walkUnit = some o) :
    ∃ t, exec (.walkerStep st) s = .next t ∧ (t.mem.get st.val).walkUnit = o + 1 := by
  have hself : ((s.modMem st.val (fun m => { m with walkUnit := o + 1 })).mem.get st.val).walkUnit = o + 1 := (congrArg Stack.walkUnit (Tbl.get_mod_self ..) :)
  rw [exec_walkerStep, execWalkerStep]
  dsimp only
  rw [if_pos hw, hnext]
  dsimp only
  split
  · exact ⟨_, rfl, hself⟩
  · split
    · refine ⟨_, rfl, ?_⟩
      rw [State.storeUnit_mem]
      exact hself
    · exact ⟨_, rfl, hself⟩

theorem walkerStep_ends {s : State} {st : Fin 16} (hw : (s.mem.get st.val).walking = true) (hnext : s.nextSessionUnit st.val (s.mem.get st.val).walkUnit = none) :
    ∃ t, exec (.walkerStep st) s = .next t ∧ (t.mem.get st.val).walking = false := by
  rw [exec_walkerStep, execWalkerStep]
  dsimp only
  rw [if_pos hw, hnext]
  exact ⟨_, rfl, (congrArg Stack.walking (Tbl.get_mod_self ..) :)⟩

/-! ### The conductors and the bonds (R379 to R415), as `umpireDecides` and `bondTraining` have them -/

theorem umpireTick_keeps (s : State) : ∃ t, exec .umpireTick s = .next t ∧ t.cond = { s.cond with lastTick := s.top.now, umpireLost := false } := by
  rw [exec_umpireTick, execUmpireTick]
  refine ⟨_, rfl, ?_⟩
  split
  · exact State.raise_cond ..
  · rfl

/-- The first output of the leading conductor is accepted. -/
theorem outputArrival_first {s : State} {stage : Fin 40} {c : Bool} (payload : List Byte) (hexist : stageExists stage.val = true) (hruns : (s.cond.of c).state.runs = true)
    (hcmp : s.cond.comparing = false) (hleads : (s.cond.stages.get stage.val).leads c = true) (hlast : (s.cond.stages.get stage.val).last = none) :
    ∃ t, exec (.outputArrival stage c 0 payload) s = .next t ∧ (t.cond.stages.get stage.val).last = some 0 := by
  obtain ⟨-, hstages, -⟩ := s.issue_spec c { stage := stage.val, oseq := 0, payload := payload }
  refine ⟨_, outputArrival_runs hexist hruns hcmp, ?_⟩
  rw [State.nativeOutput_turn]
  · rw [State.stage_modStage_self _ stage.val]
    rfl
  · rw [hstages]
    exact hleads
  · rw [hstages, OutStage.next, hlast]

theorem wireTestDone_clean {s : State} {r : PodRef} {g : Fin 17} (hsuspect : ((s.shal r.sh.val).bond r.pod.val g.val).suspect = true) (hbound : s.seq.boundaryDue = false) :
    ∃ t, exec (.wireTestDone (.podGroup r g [])) s = .next t ∧ (t.shal r.sh.val).bond r.pod.val g.val = { (s.shal r.sh.val).bond r.pod.val g.val with suspect := false } := by
  rw [exec_wireTestDone, execWireTestDone, if_pos hsuspect, podTest_clean rfl, State.testsOver_none (s := s.tested r g.val 0) hbound]
  exact ⟨_, rfl, (s.tested_spec r g.val 0).1⟩

/-- TREQ of one unit whose end is not in training starts attempt 1 at both ends (R411). -/
theorem treqFrame_starts {s : State} {f : SideFrame} (hok : frameOk f 1 = true) (harg : f.word.toNat % 2 = 0) (hidle : (s.bondEnd f.unit f.far).training = false) :
    ∃ t, exec (.treqFrame f) s = .next t ∧ ∀ e, (t.bondEnd f.unit e).training = true ∧ (t.bondEnd f.unit e).attempt = 1 := by
  obtain ⟨-, -, -, hexists⟩ := (frameOk_iff f 1).1 hok
  have hre : s.treq f.far f.unit = s.retrain f.unit := if_neg (by rw [hidle]; exact Bool.false_ne_true)
  refine ⟨_, treqFrame_unit hok harg, fun e => ?_⟩
  obtain ⟨x, hx⟩ := (State.retrain_spec (s := s) hexists).2 e
  rw [hre, hx]
  exact ⟨rfl, rfl⟩

theorem doneFrame_waits {s : State} {f : SideFrame} (htaken : (frameOk f 5 && (s.bondEnd f.unit f.far).training && frameAttempt f == (s.bondEnd f.unit f.far).attempt) = true)
    (hsent : (s.bondEnd f.unit f.far).sentDone = false) : exec (.doneFrame f) s = .next (s.modEnd f.unit f.far (fun x => { x with peerDone := true })) := by
  rw [doneFrame_taken htaken, hsent, Bool.false_and, if_neg Bool.false_ne_true]

theorem bondLogRetry_starts {s : State} (hne : s.blv.logPending ≠ []) (hopen : s.pp.nvOpen = true) : exec .bondLogRetry s = .next { s with
    blv := { s.blv with logPending := [] }, top := { s.top with nv := s.top.nv ++ s.blv.logPending.map (fun (x : Nat × Nat) => .bondLog x.1 x.2) } } := by
  rw [exec_bondLogRetry, execBondLogRetry, if_neg (by rw [List.isEmpty_iff]; exact hne), if_pos hopen, State.nvStarts_eq]
  rfl

theorem sidebandClockStop_moves (s : State) (side : SideRef) (mid : Fin 640) :
    ∃ t, exec (.sidebandClockStop side false (some mid)) s = .next t ∧ t.blv = { s.blv with sideband := s.blv.sideband.set (sideIx side) mid.val } := by
  rw [exec_sidebandClockStop, execSidebandClockStop, if_neg Bool.false_ne_true]
  refine ⟨_, rfl, ?_⟩
  dsimp only
  split
  · rfl
  · exact State.raise_blv ..

/-- Settles O58: one lemma a command, in the order of the statement. -/
theorem packageCommandsComplete : Obligations.PackageCommandsComplete := by
  unfold Obligations.PackageCommandsComplete
  intro plaza iseq upset c selfFault passed stage oseq payload us k0 k1 r grp bad tests b far f words side mid sh ad sd depth rail mv amps pkg sdie next sensor v th pr segment activity blvd st
    unit noSpare row o s i out sw y q now me x arrives n h mod bond end_ counts live m
  have hme : ∀ b u, me b u = Cond.of u b := fun b u => by cases b <;> rfl
  have hcounts : ∀ k, frameOk f k = true ↔ counts k := frameOk_iff f
  have htaken : ∀ k, counts k → live → (frameOk f k && end_.training && frameAttempt f == end_.attempt) = true := fun k hc hlive =>
    (frameTaken_iff f k end_).2 ⟨(hcounts k).2 hc, hlive.1, hlive.2⟩
  simp only [hme]
  refine ⟨exec_inputStageArrival .., ?delivery, ?late, ?output, ?lag, ?beat, fun hdue => ⟨_, heartbeatCheck_due hdue, rfl, rfl⟩, fun hsw hdue => claimWrite_takes hsw hdue, ?release, ?switched,
    umpireTick_keeps s, fun hdue => (exec_tickTimeout s).trans (congrArg Host.Outcome.next (if_pos hdue)), ?ready, ?snapshot, ?bist, ?report, ?tested, ?trains, bondLogRetry_starts,
    fun hc harg hidle => treqFrame_starts ((hcounts 1).2 hc) harg hidle, ?repair, ?map, ?echo, fun hc hlive hsent => doneFrame_waits (htaken 5 hc hlive) hsent, ?timeout,
    sidebandClockStop_moves s side mid, governorTick_holds, freqStopEnd_last, droopDetect_stretches, ?rail, ?sensor, powerMeasure_power s pkg pr, ?wake, ?forecast, forecastHoldEnd_ends,
    vrLimitAssert_pauses, vrLimitDeassert_resumes, vrLimitTimer_raises, ?thermal, shallotCooldownEnd_resets, thermistorRead_reads s th v, scrubUnit_sound noSpare, ?repairRow, ?walk, ?rotated⟩
  case delivery =>
    intro hf hd h0 h1 hr0 hr1
    exact ⟨_, inputDelivery_both hf hd h0 h1 hr0 hr1, rfl, rfl⟩
  case late =>
    intro hf hd hg hr
    exact ⟨_, lateInputCopy_runs hf hd hg hr, rfl⟩
  case output =>
    rintro ⟨hexist, hruns, hcmp⟩ hleads hlast rfl
    exact outputArrival_first payload ((stageExists_iff stage).2 hexist) ((hme c q) ▸ hruns) hcmp ((x.leads_iff c).2 hleads) hlast
  case lag =>
    intro hlag hs hm hu ha hb
    refine ⟨_, lagAlarm_hands hlag ⟨hs, hm, hu, ha, hb⟩, ?_⟩
    rw [(State.activeFails_standby (s := s) 4 hb).1]
    rfl
  case beat =>
    intro hruns hdue hnone
    obtain ⟨t, ht, hbeat, -⟩ := heartbeat_sent (fault := selfFault) (upset := upset) (.inl hruns) hdue hnone
    exact ⟨t, ht, by rw [hbeat]; rfl⟩
  case release =>
    intro hn hc
    refine ⟨_, heldRelease_some hn hc, ?_⟩
    rw [s.stage_modStage_self stage.val]
    rfl
  case switched =>
    intro hsw hdone hbound hforce
    obtain ⟨t, ht, hcond⟩ := switchoverComplete_spec hsw hdone hbound hforce
    exact ⟨t, ht, by rw [hcond], by rw [hcond]⟩
  case ready =>
    intro hfail
    refine ⟨_, resyncReady_failed hfail, ?_⟩
    cases c <;> rfl
  case snapshot =>
    intro hstate hready hfirst hmay
    obtain ⟨t, ht, hof, -⟩ := resyncSnapshotDone_returns (us := us) (Cond.returning_eq hstate hready hfirst) hmay
    exact ⟨t, ht, by rw [hof]; rfl⟩
  case bist =>
    intro hstand
    obtain ⟨t, ht, hindex, -⟩ := standbyBist_spec (passed := passed) hstand
    exact ⟨t, ht, hindex⟩
  case report =>
    obtain ⟨t, ht, -, -, -, hsent, hzero, -⟩ := healthReport_spec s k0 k1
    exact ⟨t, ht, hzero, hsent⟩
  case tested =>
    rintro hs hbound rfl
    exact wireTestDone_clean hs hbound
  case trains =>
    intro ht
    obtain ⟨-, -, htrain, -⟩ := trainTest_spec (tests.map (fun l => l.map Fin.val)) ht
    exact ⟨_, exec_wireTestDone .., htrain⟩
  case repair =>
    intro hc ht
    refine ⟨_, repairFrame_taken ((hcounts 2).2 hc) ht words, ?_⟩
    rintro k w hk hword rfl
    exact State.mem_markedAt_markAt _ _ _ _ (mem_wiresOf hk hword)
  case map =>
    intro hc hlive
    refine ⟨_, mapFrame_taken (htaken 3 hc hlive), ?_⟩
    rw [← frameMap_eq]
    exact congrArg TrainEnd.peer (s.bondEnd_modEnd_self f.unit f.far _)
  case echo =>
    intro hc hlive hp hcheck
    refine ⟨_, (echoFrame_taken hp (htaken 4 hc hlive)).trans (if_pos ?_), congrArg TrainEnd.sentDone (s.bondEnd_modEnd_self f.unit f.far _)⟩
    rw [frameCheck_eq]
    exact hcheck
  case timeout =>
    intro htrain hlt
    rw [exec_trainTimeout, execTrainTimeout, if_pos ((Bool.or_eq_true ..).mpr htrain)]
    refine ⟨_, rfl, fun e => ?_⟩
    rw [(s.attemptFails_spec b e).1 hlt]
    rfl
  case rail =>
    by_cases hin : s.railNominal rail.val ≠ 0 ∧ (if rail.val < 16 then s.mainRails else s.top.aon) = true ∧ s.railNominal rail.val * 95 ≤ mv.toNat * 100 ∧
        mv.toNat * 100 ≤ s.railNominal rail.val * (if rail.val < 8 then 103 else 105)
    · obtain ⟨hnom, hon, hlow, hhigh⟩ := hin
      obtain ⟨t, ht, hzero⟩ := railCheck_within amps hnom hon (railOut_within hlow hhigh)
      exact ⟨t, ht, fun _ _ _ _ => hzero⟩
    · obtain ⟨t, ht⟩ := railCheck_next s rail mv amps
      exact ⟨t, ht, fun hnom hon hlow hhigh => absurd ⟨hnom, hon, hlow, hhigh⟩ hin⟩
  case sensor =>
    rintro hplaza rfl hsensor
    exact sensorRead_shallot v hplaza hsensor
  case wake =>
    by_cases hdue : ∀ m, m < 8 → (s.shal m).pwr.dueWakes = []
    · exact ⟨_, wakeTick_refills hdue, fun _ => s.refill_credits⟩
    · exact ⟨_, exec_wakeTick s, fun h => absurd h hdue⟩
  case forecast =>
    by_cases hfirst : s.img.image = none ∧ segment = 0
    · obtain ⟨himg, rfl⟩ := hfirst
      obtain ⟨t, ht, hpower⟩ := forecastFrame_none (sh := sh) (next := next) himg
      exact ⟨t, ht, fun _ _ => hpower⟩
    · obtain ⟨t, ht⟩ := forecastFrame_next s sh next segment
      exact ⟨t, ht, fun himg hseg => absurd ⟨himg, hseg⟩ hfirst⟩
  case thermal =>
    by_cases hoff : s.mainRails = false ∧ s.hottest 26 false 0 4 = none
    · exact ⟨s, thermalCheck_off hoff.1 hoff.2, fun _ _ => rfl⟩
    · exact ⟨_, exec_thermalCheck .., fun hm hc => absurd ⟨hm, hc⟩ hoff⟩
  case repairRow =>
    intro hrow hg hw hl hn ho
    rw [exec_rowRepair]
    exact if_pos ⟨List.contains_iff_mem.2 hrow, s.otherWork_iff.2 ⟨hg, hw, hl, hn, ho⟩⟩
  case walk =>
    intro hw
    cases hnext : s.nextSessionUnit st.val m.walkUnit with
    | none =>
      obtain ⟨t, ht, hstop⟩ := walkerStep_ends hw hnext
      exact ⟨t, ht, fun _ => hstop, fun _ h => nomatch h⟩
    | some v =>
      obtain ⟨t, ht, hunit⟩ := walkerStep_moves hw hnext
      refine ⟨t, ht, (fun h => nomatch h), ?_⟩
      rintro o ⟨⟩
      exact hunit
  case rotated =>
    intro hlive hwalk
    obtain ⟨t, ht, hsec, -⟩ := rotateDone_ends hlive hwalk
    exact ⟨t, ht, hsec⟩

end Sys2Proof.Machine
end

section
/-! PROOF. A host command with more than its twelve argument words (R364, R367). -/
namespace Sys2Proof.Machine

/-- A package whose host link is up and whose command registers are free. -/
def hostReady : State := { host := { ready := true, linkUp := true } }

/-- Thirteen argument words for the twelve registers CMD_ARG0 to CMD_ARG11. -/
def thirteenArgs : List Word := List.replicate 13 1

theorem hostReady_free : hostReady.hostFree := ⟨rfl, rfl, rfl⟩

/-- The thirteenth word is written nowhere. -/
theorem unknownCommand_thirteen : ∃ t, exec (.unknownCommand (.host 0 thirteenArgs)) hostReady = .next t ∧ t.host.args.get 12 = 0 := by
  rw [exec_unknownCommand, execUnknownCommand]
  exact ⟨_, rfl, by decide +kernel⟩

/-- The statement has all the words of the list written. -/
theorem cmdWritten_thirteen : (((hostReady.cmdWritten 0 thirteenArgs).cmdDone 0 2 false []).host.args.get 12) = 1 := by decide +kernel

/-- Refutes O60: the clause for an unknown opcode does not bound the arguments at twelve words; of thirteen the last one reaches no register. -/
theorem not_mewsAndPinCommandsComplete : ¬ Obligations.MewsAndPinCommandsComplete := by
  unfold Obligations.MewsAndPinCommandsComplete
  intro h
  obtain ⟨-, -, -, -, -, -, -, -, -, -, -, -, -, -, -, -, -, -, -, -, -, -, -, -, -, -, -, -, -, -, -, -, -, -, -, -, -, -, -, -, -, -, -, -, -, -, -, -, -, -, hclause, -⟩ :=
    h {} [] [] 0 0 0 0 0 0 0 0 0 [] false false false [] {} 0 thirteenArgs { kind := 0, counter := 0, key := 0, params := [], maker := none, sig := [] } {} (.xmss 0) [] {} none hostReady hostReady hostReady []
  obtain ⟨t, hexec, hunwritten⟩ := unknownCommand_thirteen
  obtain rfl := Host.Outcome.next.inj (hexec.symm.trans (hclause hostReady_free (.inl rfl)))
  exact absurd (hunwritten.symm.trans cmdWritten_thirteen) (by decide)

end Sys2Proof.Machine
end

section
/-! PROOF. Where STREAM and the lamp, calibration and map commands complete (R113, R246, R253 to R268). -/
namespace Sys2Proof.Machine

variable {s : State}

/-! ### STREAM -/

/-- A STREAM that the loader admits sends one term for each column of its pair (R113). -/
theorem stream_completes (p : PodRef) (a : ArrArgs) {w : PairInfo} (hpair : pairOf (((s.podOf p).banks.get a.bank.val).fpair.toNat) = some w)
    (ha32 : a.a32 = true → w.a32 = true) (hfit : a.ofs.toNat + w.k / 32 ≤ w.a.blocks) : ∃ ts reps, ts.length = w.n ∧
      exec (.stream p a) s = .next ((s.withPod p ((s.podOf p).push (s.beatOf p + 4 + w.v) (if a.a32 then .laneTerms ts else .accTerms ts))).told p reps) := by
  have hform : (s.podOf p).streamForm a = true := by
    unfold Pod.streamForm
    rw [hpair]
    simp only [Bool.and_eq_true, Bool.or_eq_true, Bool.not_eq_true', decide_eq_true_eq]
    exact ⟨by cases h : a.a32 <;> simp_all, hfit⟩
  have hstream : ∃ ts reps, ts.length = w.n ∧
      (s.podOf p).stream (s.ctx p.sh.val) a.bank a.dbuf a.sbuf a.ofs.toNat a.sofs.toNat a.a32 a.idx =
        ((s.podOf p).push ((s.ctx p.sh.val).beat + 4 + w.v) (if a.a32 then .laneTerms ts else .accTerms ts), reps) := by
    unfold Pod.stream
    dsimp only
    rw [hpair]
    exact ⟨_, _, by rw [List.length_map, upto_eq_range, List.length_range], rfl⟩
  obtain ⟨ts, reps, hlen, hpod⟩ := hstream
  refine ⟨ts, reps, hlen, ?_⟩
  rw [exec_stream, execStream]
  refine (podOpIf_true s hform p _).trans ?_
  rw [hpod]
  rfl

/-! ### Lamps -/

theorem fadeValue_completes (l : Fin 32) (f : Int) (hlit : (s.lamp.lamps.get l.val).state.lit = true) : ∃ t, exec (.fadeValue l f) s = .next t ∧
    ((s.lamp.lamps.get l.val).state ≠ .active → t = s.modLamp l.val (fun _ => (s.lamp.lamps.get l.val).fadeIn f) ∧ (t.lamp.lamps.get l.val).fade = f) := by
  rw [exec_fadeValue, execFadeValue]
  dsimp only
  rw [if_pos hlit]
  by_cases hactive : (s.lamp.lamps.get l.val).state = .active
  · exact ⟨_, if_pos hactive, fun h => absurd hactive h⟩
  · refine ⟨_, if_neg hactive, fun _ => ⟨rfl, ?_⟩⟩
    rw [State.modLamp_lamps, Tbl.get_mod_self]
    rfl

/-- Below 120 % of I0 the drive of a raising lamp rises by 1 % of it; above I0 that of another one falls (R255). -/
theorem driveAdjust_completes (l : Fin 32) (hactive : (s.lamp.lamps.get l.val).state = .active) : ∃ t, exec (.driveAdjust l) s = .next t ∧
    ((s.lamp.lamps.get l.val).raising = true → (s.lamp.lamps.get l.val).drive + 10 < 1200 → t = s.modLamp l.val (fun y => { y with drive := min 1200 (y.drive + 10) })) ∧
    ((s.lamp.lamps.get l.val).raising = false → -20 < (s.lamp.lamps.get l.val).fade → 1000 < (s.lamp.lamps.get l.val).drive →
      t = s.modLamp l.val (fun y => { y with drive := max 1000 (y.drive - 10) })) := by
  rw [exec_driveAdjust, execDriveAdjust]
  dsimp only
  rw [if_pos hactive]
  by_cases hup : (s.lamp.lamps.get l.val).raising = true ∧ (s.lamp.lamps.get l.val).drive < 1200
  · rw [if_pos hup]
    by_cases htop : 1200 ≤ (s.lamp.lamps.get l.val).drive + 10 ∧ (s.lamp.lamps.get l.val).level < 2
    · exact ⟨_, if_pos htop, fun _ h => absurd htop.1 (Nat.not_le.2 h), fun h => absurd hup.1 (by rw [h]; decide)⟩
    · exact ⟨_, if_neg htop, fun _ _ => rfl, fun h => absurd hup.1 (by rw [h]; decide)⟩
  · rw [if_neg hup]
    by_cases hdown : -20 < (s.lamp.lamps.get l.val).fade ∧ 1000 < (s.lamp.lamps.get l.val).drive
    · exact ⟨_, if_pos hdown, fun h hd => absurd ⟨h, by omega⟩ hup, fun _ _ _ => rfl⟩
    · exact ⟨_, if_neg hdown, fun h hd => absurd ⟨h, by omega⟩ hup, fun _ hf hd => absurd ⟨hf, hd⟩ hdown⟩

theorem spareReady_locked (l : Fin 32) (hwarm : (s.lamp.lamps.get l.val).state = .spareWarming) :
    exec (.spareReady l true) s = .next (s.modLamp l.val (fun y => { y with state := .spareReady, tries := 0 })) := by
  rw [exec_spareReady, execSpareReady]
  exact (if_pos hwarm).trans (if_pos rfl)

theorem spareReady_again (l : Fin 32) (hwarm : (s.lamp.lamps.get l.val).state = .spareWarming) (htries : (s.lamp.lamps.get l.val).tries = 0) :
    exec (.spareReady l false) s = .next (s.modLamp l.val (fun y => { y with tries := 1 })) := by
  rw [exec_spareReady, execSpareReady]
  exact (if_pos hwarm).trans ((if_neg Bool.false_ne_true).trans (if_pos htries))

/-- The recess in progress goes on as a forced one, with all the lamps and lane groups that wait (R258). -/
def State.recessForced (s : State) : State :=
  let t := s.modShs (fun h => h.recess.isSome) (fun h => { h with recess := some .forced })
  { t with seq := { t.seq with grant := some .forced, work := t.seq.work.join { lamps := s.waitingLamps, lanes := s.waitingLanes } } }

theorem crossfadeDeadline_forces (l : Fin 32) {o : Nat} (hdemand : (s.lamp.lamps.get l.val).demandAt = some o) (hrun : s.top.state = .running)
    (hactive : (s.lamp.lamps.get l.val).state = .active) (hdue : o + 1000000000 ≤ s.top.now) (hout : s.seq.work.lamps.contains l.val = false)
    (hswitch : s.cond.switching = none) : ∃ t, exec (.crossfadeDeadline l) s = .next t ∧ t.seq.grant = some .forced := by
  rw [exec_crossfadeDeadline, execCrossfadeDeadline]
  dsimp only
  rw [hdemand]
  dsimp only
  rw [if_pos ⟨hrun, hactive, hdue, by rw [hout]; rfl⟩]
  cases hgrant : s.seq.grant
  case none => exact ⟨_, if_pos rfl, (State.forceRecess_begins hrun hgrant hswitch).1⟩
  case some k =>
    have hraise := congrArg StepSeq.grant (State.raise_seq s.recessForced 0x0017 pkgPlaza 0 [])
    exact ⟨s.recessForced.raise 0x0017 pkgPlaza 0 [], if_neg Bool.false_ne_true, hraise⟩

/-- A granted crossfade with a ready spare begins (R259). -/
theorem crossfade_begins (l : Fin 32) (ps : Nat) {k : Nat} (hgrant : s.grantIdle.crossfadeGranted l.val = true)
    (hspare : (s.grantIdle.lamp.lamps.get l.val).bySpare = some k) (hactive : (s.grantIdle.lamp.lamps.get l.val).state = .active)
    (hready : (s.grantIdle.lamp.lamps.get k).state = .spareReady) :
    exec (.crossfade l ps) s = .next ((s.grantIdle.modLamp l.val (fun y => { y with state := .crossfading, step := 0, ps := ps, raising := false })).modLamp k
      (fun y => { y with state := .crossfading, feed := (s.grantIdle.lamp.lamps.get l.val).feed })) := by
  rw [exec_crossfade, execCrossfade]
  dsimp only
  generalize s.grantIdle = u at *
  rw [hspare]
  exact if_pos ⟨hgrant, hactive, hready⟩

@[simp] theorem State.demandLane_lamp (s : State) (g : LaneRef) : (s.demandLane g).lamp = s.lamp := by
  unfold State.demandLane
  split <;> rfl

@[simp] theorem State.demandFeed_lamp (s : State) (feed : Nat) : (s.demandFeed feed).lamp = s.lamp :=
  proj_foldl State.lamp _ _ _ fun _ _ => State.demandLane_lamp _ _

@[simp] theorem State.grantLanes_lamp (s : State) : s.grantLanes.lamp = s.lamp := by
  unfold State.grantLanes
  split <;> rfl

/-- The lamp has left its feed to the spare (R259). -/
def State.lampsSwapped (s : State) (l k : Nat) : State :=
  (s.modLamp l (fun y => { y with state := .retired, feed := none, fade := 0, raising := false, demandAt := none, bySpare := none, step := 40 })).modLamp k
    (fun y => { y with state := .active, feed := (s.lamp.lamps.get l).feed, level := 0, runs := {}, raising := false, p0Due := true })

/-- The crossfade is counted, and its recess has one lamp less (R259). -/
def State.crossfadeCounted (s : State) (l k : Nat) : State :=
  let t := s.lampsSwapped l k
  { t with
    lamp := { t.lamp with crossfades := satAdd t.lamp.crossfades 1, forced := satAdd t.lamp.forced (b2n (t.seq.grant == some RecessKind.forced)) },
    seq := { t.seq with work := { t.seq.work with lamps := t.seq.work.lamps.erase l } } }

/-- The recalibrations of the feed that the spare took over (R267). -/
def State.feedDemanded (s : State) (l : Nat) : Option Nat → State
  | some f => s.demandFeed (feedIx l f)
  | none => s

@[simp] theorem State.feedDemanded_lamp (s : State) (l : Nat) (feed : Option Nat) : (s.feedDemanded l feed).lamp = s.lamp := by
  cases feed
  case none => rfl
  case some f => exact State.demandFeed_lamp _ _

theorem State.crossfadeDone_eq (s : State) (l k : Nat) : s.crossfadeDone l k =
    (((s.crossfadeCounted l k).raise 0x3004 mPlaza l [BitVec.ofNat 8 k, BitVec.ofNat 8 ((s.lamp.lamps.get l).feed.getD 3)]).feedDemanded l
      (s.lamp.lamps.get l).feed).grantLanes := by
  unfold State.crossfadeDone State.feedDemanded
  rfl

theorem State.crossfadeDone_lamps (s : State) (l k : Nat) : (s.crossfadeDone l k).lamp.lamps = (s.lampsSwapped l k).lamp.lamps := by
  rw [State.crossfadeDone_eq, State.grantLanes_lamp, State.feedDemanded_lamp, State.raise_lamp]
  rfl

theorem crossfadeStep_completes (l : Fin 32) {k : Nat} (hfading : (s.lamp.lamps.get l.val).state = .crossfading)
    (hspare : (s.lamp.lamps.get l.val).bySpare = some k) (hk : k ≠ l.val) : ∃ t, exec (.crossfadeStep l) s = .next t ∧
      ((s.lamp.lamps.get l.val).step + 1 < 40 → t = s.modLamp l.val (fun y => { y with step := y.step + 1 })) ∧
      (40 ≤ (s.lamp.lamps.get l.val).step + 1 → (t.lamp.lamps.get l.val).state = .retired ∧ (t.lamp.lamps.get k).state = .active) := by
  rw [exec_crossfadeStep, execCrossfadeStep]
  rw [hfading, hspare]
  refine ⟨_, rfl, fun h => if_pos h, fun h => ?_⟩
  rw [if_neg (Nat.not_lt.2 h), State.crossfadeDone_lamps, State.lampsSwapped, State.modLamp_lamps, State.modLamp_lamps, Tbl.get_mod_self,
    Tbl.get_mod_ne _ _ (Ne.symm hk), Tbl.get_mod_self]
  exact ⟨rfl, rfl⟩

theorem p0Update_writes (l : Fin 32) (p0 : BitVec 16) (hdue : (s.lamp.lamps.get l.val).p0Due = true) (hopen : s.pp.nvOpen = true) :
    exec (.p0Update l p0) s = .next (((s.modLamp l.val (fun y => { y with p0 := p0.toNat, i0 := y.i0 * y.drive / 1000, drive := 1000, p0Due := false })).modLamp l.val
      (fun y => { y with p0Pending := false })).nvStart (.lampP0 l.val)) := by
  rw [exec_p0Update, execP0Update]
  refine (if_pos hdue).trans (congrArg Host.Outcome.next ((if_pos hopen).trans ?_))
  rw [State.writeP0]
  exact if_pos hopen

theorem p0WriteRetry_writes (l : Fin 32) (hpending : (s.lamp.lamps.get l.val).p0Pending = true) (hopen : s.pp.nvOpen = true) :
    exec (.p0WriteRetry l) s = .next ((s.modLamp l.val (fun y => { y with p0Pending := false })).nvStart (.lampP0 l.val)) := by
  rw [exec_p0WriteRetry, execP0WriteRetry]
  refine congrArg Host.Outcome.next ((if_pos hpending).trans ?_)
  rw [State.writeP0]
  exact if_pos hopen

/-! ### Calibrations and the congestion map -/

theorem laneGroupRecal_starts (g : LaneRef) (hgrant : s.grantIdle.seq.grant.isSome = true) (hlane : s.grantIdle.seq.work.lanes.contains (laneIx g) = true)
    (hlamps : s.grantIdle.seq.work.lamps = []) (hwait : s.grantIdle.seq.flitWait = false) (hpending : (s.grantIdle.lane g).pending = true)
    (hfree : ∀ y ∈ s.grantIdle.plazaLanes g.plaza.val, y.running = false) :
    exec (.laneGroupRecal g) s = .next (s.grantIdle.modLane g (fun l => { l with pending := false, running := true })) := by
  rw [exec_laneGroupRecal, execLaneGroupRecal]
  generalize s.grantIdle = u at *
  refine congrArg Host.Outcome.next (if_pos ⟨hgrant, hlane, List.isEmpty_iff.2 hlamps, by rw [hwait]; rfl, hpending, ?_⟩)
  rw [Bool.not_eq_true', List.any_eq_false]
  exact fun y hy => Bool.eq_false_iff.1 (hfree y hy)

/-- A lane group that is judged goes on or stands as it did. -/
theorem State.judgeCal_running (s : State) (full : Bool) (r : Sys2Proof.CalReading) : ((s.judgeCal full r).lane r.group).running = (s.lane r.group).running := by
  unfold State.judgeCal
  split
  · rw [State.lane_modLane_self]
    rfl
  · rw [(s.failCal_spec r.group).1]

theorem State.laneDone_running (s : State) (r : Sys2Proof.CalReading) : ((s.laneDone r).lane r.group).running = false := by
  rw [State.laneDone_lane, State.judgeCal_running, State.lane_modLane_self]

theorem laneGroupRecalDone_ends (cal : CalReading) (hrun : (s.lane cal.group).running = true) : ∃ t, exec (.laneGroupRecalDone cal) s = .next t ∧
    (cal.noLock = [] → (t.lane cal.group).running = false) := by
  rw [exec_laneGroupRecalDone, execLaneGroupRecalDone]
  dsimp only
  rw [if_pos hrun]
  by_cases hlock : cal.noLock = []
  · have hdone := s.laneDone_running cal
    unfold State.laneDone at hdone
    simp only [hlock, List.foldl_nil, ite_self]
    generalize State.calResult _ = u at *
    cases u.host.running
    case none => exact ⟨u, rfl, fun _ => hdone⟩
    case some c =>
      refine ⟨_, rfl, fun _ => ?_⟩
      split
      · rw [State.lane_of_blv (State.endCmd_blv ..)]
        exact hdone
      · exact hdone
  · split
    · exact ⟨_, rfl, fun h => absurd h hlock⟩
    · exact ⟨_, rfl, fun h => absurd h hlock⟩

theorem mapComplete_counts : ∃ t, exec .mapComplete s = .next t ∧ t.blv.mapNext = s.blv.mapNext + 1 := by
  rw [exec_mapComplete, execMapComplete]
  exact ⟨_, rfl, rfl⟩

end Sys2Proof.Machine
end

section
/-! PROOF. Where the commands of the step sequencer complete, short of the commit (R163 to R176, R181, R297). -/
namespace Sys2Proof.Machine

variable {s : State}

/-! ### Recesses -/

theorem recessDemand_completes (us : Nat) (overdue : Bool) : ∃ t, exec (.recessDemand us overdue) s = .next t ∧
    (s.top.state = .running → overdue = false → t = { s with seq := { s.seq with demands := s.seq.demands ++ [us] } }) := by
  rw [exec_recessDemand, execRecessDemand]
  refine ⟨_, rfl, fun hrun hnot => ?_⟩
  rw [hnot, Bool.and_false]
  exact (if_neg Bool.false_ne_true).trans (State.grantIdle_running hrun)

theorem forcedRecessWaitEnd_completes : exec .forcedRecessWaitEnd s = .next { s with seq := { s.seq with flitWait := false } } := by
  rw [exec_forcedRecessWaitEnd, execForcedRecessWaitEnd]

theorem recessWorkDone_ends (hgrant : s.seq.grant.isSome = true) (hlamps : s.seq.work.lamps = []) (hlanes : s.seq.work.lanes = []) :
    ∃ t, exec .recessWorkDone s = .next t ∧ t.seq.grant = none := by
  rw [exec_recessWorkDone, execRecessWorkDone]
  exact ⟨_, if_pos (by rw [hgrant, hlamps, hlanes]; rfl), s.endRecess_spec.1⟩

/-! ### The decision of a step -/

/-- No placed shallot reports a bit of the mask (R64). -/
theorem State.anyArith_false {mask : BitVec 4} (h : ∀ n, n < 8 → (s.shal n).placed = true → (s.shal n).arithStatus &&& mask = 0) : s.anyArith mask = false := by
  rw [State.anyArith, List.any_eq_false]
  intro n hn
  obtain ⟨hn8, hplaced⟩ := List.mem_filter.1 hn
  rw [h n (List.mem_range.1 hn8) hplaced]
  decide

/-- Without twin pairs nothing is compared (R396). -/
theorem State.twinDecision_none (h : s.cond.twins = 0) : s.twinDecision = (s, true) := by
  have hstep : ∀ n, s.cond.twins.getLsbD n = false := fun n => by rw [h]; exact BitVec.getLsbD_zero
  exact foldl_eq_self fun n _ => if_neg (by rw [hstep]; decide)

/-- A clean execution without output windows commits (R163). -/
theorem State.decideEnd_commits (h6 : s.anyArith 6 = false) (h1 : s.anyArith 1 = false) (hfailed : s.seq.exe.failed = false) (htwins : s.cond.twins = 0)
    (hraises : s.seq.raises = []) (hwindows : s.activeWindows true = []) : s.decideEnd = s.beginCommit [] := by
  unfold State.decideEnd
  rw [h6, hfailed]
  refine (if_neg Bool.false_ne_true).trans ?_
  rw [State.twinDecision_none htwins]
  refine (if_neg Bool.false_ne_true).trans ?_
  rw [h1, hraises]
  refine (if_neg (by cases s.seq.exe.second <;> decide)).trans ?_
  rw [hwindows]
  rfl

theorem drainComplete_commits (twins : List TwinReport) (hrun : s.top.state = .running) (hphase : s.seq.phase = .drain) (hending : s.seq.exe.ending = none)
    (hflights : s.seq.exe.flights = []) (hloads : s.loadsDone = true) (hfailed : s.seq.exe.failed = false) (htwins : s.cond.twins = 0)
    (harith : ∀ n, n < 8 → (s.shal n).placed = true → (s.shal n).arithStatus &&& 6 = 0 ∧ (s.shal n).arithStatus &&& 1 = 0) (hraises : s.seq.raises = [])
    (hwindows : s.activeWindows true = []) : ∃ t, exec (.drainComplete twins) s = .next t ∧ t.seq.phase = .commit := by
  rw [exec_drainComplete, execDrainComplete]
  dsimp only
  rw [if_pos ⟨hrun, hphase, .inr ⟨List.isEmpty_iff.2 hflights, hloads⟩⟩, hending]
  refine ⟨_, if_neg Bool.false_ne_true, ?_⟩
  have hdecide := State.decideEnd_commits (s := { s with cond := { s.cond with twinReports := reportTbl twins } })
    (State.anyArith_false fun n hn hp => (harith n hn hp).1) (State.anyArith_false fun n hn hp => (harith n hn hp).2) hfailed htwins hraises hwindows
  rw [hdecide]
  rfl

/-- The second execution of a step runs wide (R67, R90). -/
theorem restoreDone_again (hrun : s.top.state = .running) (hphase : s.seq.phase = .restore) (hheld : HeldAct.failed ∉ s.seq.heldActs)
    (hverdict : s.seq.exe.verdict = some .rerun) : ∃ t, exec .restoreDone s = .next t ∧ t.seq.phase = .start ∧ t.seq.exe.wide = true ∧ t.seq.exe.second = true := by
  rw [exec_restoreDone, execRestoreDone]
  rw [if_pos ⟨hrun, hphase, by simpa using hheld⟩, hverdict]
  generalize s.restoreAll = t
  exact ⟨t.runAgain false, rfl, rfl, Bool.or_true _, Bool.or_true _⟩

/-! ### The way to the start -/

theorem packageReady_fixes (hmay : s.mayBeReady = true) (hstart : s.seq.startAt = none)
    (halone : s.seq.replay = true ∨ (s.extBarrier = false ∧ (s.img.image.bind (fun j => j.domain)) = none)) :
    exec .packageReady s = .next { s with seq := { s.seq with phase := .start, startAt := some (s.top.now + 200) } } := by
  rw [exec_packageReady, execPackageReady]
  dsimp only
  rw [if_pos hmay, hstart]
  dsimp only
  by_cases hreplay : s.seq.replay = true
  · exact if_pos hreplay
  · obtain ⟨hext, hdomain⟩ := halone.resolve_left hreplay
    refine (if_neg hreplay).trans ((if_neg (by rw [hext]; decide)).trans ((if_neg ?_).trans rfl))
    rw [hdomain]
    decide

/-- The state with a member's READY noted (R171). -/
def State.readyNoted (s : State) (member : Nat) (tm : Word64) : State :=
  { s with seq := { s.seq with ready := s.seq.ready.filter (fun (r : Nat × Nat) => r.1 != member) ++ [(member, tm.toNat)] } }

/-- A package that is not ready itself fixes no start. -/
theorem State.checkReady_not (h : s.seq.ownReady = none) : s.checkReady = s := by
  unfold State.checkReady
  rw [h]
  cases s.img.image.bind (fun i => i.domain) <;> rfl

theorem State.mem_domainPeers {i : Image} {d : Nat × Nat × Nat} (himage : s.img.image = some i) (hdomain : i.domain = some d) {m : Nat} (hm : m < d.1)
    (hself : m ≠ d.2.1) : m ∈ s.domainPeers := by
  unfold State.domainPeers
  rw [himage, Option.bind_some, hdomain]
  exact List.mem_filter.2 ⟨by rw [upto_eq_range]; exact List.mem_range.2 hm, bne_iff_ne.2 hself⟩

theorem readyMsg_noted (member : Fin 2048) (step tm : Word64) {i : Image} {d : Nat × Nat × Nat} (hrun : s.top.state = .running) (hreplay : s.seq.replay = false)
    (hext : s.extBarrier = false) (himage : s.img.image = some i) (hdomain : i.domain = some d) (hm : member.val < d.1) (hself : member.val ≠ d.2.1)
    (hstep : step = s.nextStep) (hown : s.seq.ownReady = none) : exec (.readyMsg member step tm) s = .next (s.readyNoted member.val tm) := by
  rw [exec_readyMsg, execReadyMsg]
  refine (if_pos ⟨hrun, by rw [hreplay]; rfl, by rw [hext]; rfl, List.contains_iff_mem.2 (s.mem_domainPeers himage hdomain hm hself), hstep⟩).trans ?_
  exact congrArg Host.Outcome.next (State.checkReady_not (s := s.readyNoted member.val tm) hown)

section Waits

variable {o : Nat} (hrun : s.top.state = .running) (hphase : s.seq.phase = .barrier) (hown : s.seq.ownReady = some o)
include hrun hphase hown

theorem readyResend_sends (hext : s.extBarrier = false) : exec .readyResend s = .next (s.sendReady o) := by
  rw [exec_readyResend, execReadyResend]
  rw [hown]
  exact congrArg Host.Outcome.next (if_pos ⟨hrun, .inl hphase, by rw [hext]; rfl⟩)

theorem domainWaitTimer_raises (hext : s.extBarrier = false) {i : Image} {d : Nat × Nat × Nat} (himage : s.img.image = some i) (hdomain : i.domain = some d) :
    exec .domainWaitTimer s = .next (s.raise 0x0014 31 0 []) := by
  rw [exec_domainWaitTimer, execDomainWaitTimer]
  refine congrArg Host.Outcome.next (if_pos ?_)
  rw [State.awaitsReady, hrun, hphase, hown, hext, himage, Option.bind_some, hdomain]
  rfl

theorem syncIoRise_starts (hext : s.extBarrier = true) : exec .syncIoRise s = .next { s with seq := { s.seq with phase := .start, startAt := some (s.top.now + 1000) } } := by
  rw [exec_syncIoRise, execSyncIoRise]
  exact congrArg Host.Outcome.next (if_pos ⟨hext, hrun, hphase, by rw [hown]; rfl⟩)

end Waits

/-- The time base may be steered in LOADED, RUNNING and IDLE (R297). -/
theorem State.ptpOpen_of_state (h : s.top.state = .loaded ∨ s.top.state = .running ∨ s.top.state = .idle) : s.ptpOpen = true := by
  unfold State.ptpOpen State.netOpen
  rcases h with h | h | h <;> rw [h] <;> rfl

end Sys2Proof.Machine
end

section
/-! PROOF. The journal leaves the step sequencer's other registers alone, and records that waited under STALL are written (R164, R177 to R183, R308). -/
namespace Sys2Proof.Machine

/-! ### Records and the sequencer -/

/-- The step sequencer without the journal's own numbers. -/
def StepSeq.sansJournal (q : StepSeq) : StepSeq := { q with jseq := 0, head := 0, ring := [], dseq := 0 }

theorem State.leave_seq (s : State) (f : Frame) : (s.leave f).seq = s.seq := by
  unfold State.leave
  split <;> rfl

theorem State.sendFrame_seq (s : State) (f : Frame) : (s.sendFrame f).seq = s.seq := by
  unfold State.sendFrame
  split
  · rfl
  · exact s.leave_seq f

theorem State.journalDatagram_sansJournal (s : State) (sub : Nat) (udp : Nat × Nat) (dst : BitVec 128) (r : JRecord) (frag : Nat) (piece : List Byte) :
    (s.journalDatagram sub udp dst r frag piece).seq.sansJournal = s.seq.sansJournal := by
  unfold State.journalDatagram
  split
  · exact (congrArg StepSeq.sansJournal (s.sendFrame_seq _) :)
  · rfl

theorem State.journalOut_sansJournal (s : State) (count : Nat) (r : JRecord) : (s.journalOut count r).seq.sansJournal = s.seq.sansJournal := by
  unfold State.journalOut
  split
  · rfl
  · split
    · rfl
    · exact proj_foldl (fun t : State => t.seq.sansJournal) _ _ _ fun t c => State.journalDatagram_sansJournal ..

theorem State.seq_of_core {s t : State} (h : t.core = s.core) : t.seq = s.seq := congrArg StepCore.seq h

theorem State.ringWrite_seq (s : State) (count : Nat) (bs : List Byte) : (s.ringWrite count bs).seq = s.seq := by
  unfold State.ringWrite
  split
  · rfl
  · exact State.seq_of_core ((writeRegion_core ..).trans (writeRegion_core ..))

theorem State.putRecord_sansJournal (s : State) (r : JRecord) : (s.putRecord r).seq.sansJournal = s.seq.sansJournal := by
  unfold State.putRecord
  dsimp only
  refine (State.journalOut_sansJournal ..).trans ?_
  exact (congrArg StepSeq.sansJournal (State.ringWrite_seq s s.seq.head.toNat { r with seq := s.seq.jseq }.bytes) :)

/-! ### The end of a wait under STALL -/

variable {s : State}

/-- One record waited, and there is room for it: none waits any more. -/
theorem State.unstall_one {rec : JRecord} (hstalled : s.seq.stalled = [rec]) (hroom : s.journalRoom rec = true) :
    State.unstall 1 s = { s with seq := { s.seq with stalled := [] } }.putRecord rec := by
  unfold State.unstall
  rw [hstalled]
  exact if_pos hroom

/-- With nothing held back and no record left, only the list of what waited is emptied. -/
theorem State.runHeld_none (hstalled : s.seq.stalled = []) (hacts : s.seq.heldActs = []) : s.runHeld.seq = { s.seq with heldActs := [] } := by
  unfold State.runHeld
  rw [hstalled, hacts]
  rfl

theorem journalStallResume_ends {since : Nat} {rec : JRecord} (hsince : s.seq.stallSince = some since) (hstalled : s.seq.stalled = [rec])
    (hacts : s.seq.heldActs = []) (hroom : s.journalRoom rec = true) :
    ∃ t, exec .journalStallResume s = .next t ∧ t.seq.stalled = [] ∧ t.seq.stallSince = none := by
  rw [exec_journalStallResume, execJournalStallResume]
  rw [hsince]
  dsimp only
  have hone := State.unstall_one (s := { s with seq := { s.seq with waitUs := satAdd s.seq.waitUs ((s.top.now - since) / 1000) } }) hstalled hroom
  have hput := State.putRecord_sansJournal { s with seq := { s.seq with waitUs := satAdd s.seq.waitUs ((s.top.now - since) / 1000), stalled := [] } } rec
  rw [show s.seq.stalled.length = 1 from congrArg List.length hstalled, hone]
  generalize State.putRecord _ rec = t at *
  have hempty : t.seq.stalled = [] := congrArg StepSeq.stalled hput
  have hnone : t.seq.heldActs = [] := (congrArg StepSeq.heldActs hput).trans hacts
  rw [hempty]
  have hheld := State.runHeld_none (s := { t with seq := { t.seq with stalled := [], stallSince := none } }) rfl hnone
  exact ⟨_, rfl, (congrArg StepSeq.stalled hheld :), (congrArg StepSeq.stallSince hheld :)⟩

end Sys2Proof.Machine
end

section
/-! PROOF. What a commit does after its counters advance leaves them alone (R164, R201, R327 to R330, R371, R384, R460). -/
namespace Sys2Proof.Machine

/-- The step counters. -/
def State.steps (s : State) : Word64 × Word64 := (s.seq.committed, s.seq.current)

theorem State.steps_of_seq {s t : State} (h : t.seq = s.seq) : t.steps = s.steps := congrArg (fun q : StepSeq => (q.committed, q.current)) h

theorem State.steps_of_seq_counters {s t : State} (hcommitted : t.seq.committed = s.seq.committed) (hcurrent : t.seq.current = s.seq.current) : t.steps = s.steps :=
  Prod.ext hcommitted hcurrent

theorem State.steps_of_core {s t : State} (h : t.core = s.core) : t.steps = s.steps := State.steps_of_seq (State.seq_of_core h)

theorem steps_foldl {α : Type} {f : State → α → State} (h : ∀ s a, (f s a).steps = s.steps) (l : List α) (s : State) : (l.foldl f s).steps = s.steps :=
  proj_foldl State.steps f l s h

/-! ### Updates, events and packets -/

theorem modSh_steps (s : State) (n : Nat) (f : Shallot → Shallot) : (s.modSh n f).steps = s.steps := rfl
theorem modMem_steps (s : State) (h : Nat) (f : Stack → Stack) : (s.modMem h f).steps = s.steps := rfl
theorem modShs_steps (s : State) (test : Shallot → Bool) (f : Shallot → Shallot) : (s.modShs test f).steps = s.steps :=
  State.steps_of_seq (State.modShs_seq ..)
theorem raise_steps (s : State) (code plaza unit : Nat) (detail : List Byte) : (s.raise code plaza unit detail).steps = s.steps :=
  State.steps_of_seq (State.raise_seq ..)
theorem sendTo_steps (s : State) (dest kind : Nat) (bytes : List Byte) : (s.sendTo dest kind bytes).steps = s.steps :=
  State.steps_of_seq (State.sendTo_seq ..)
theorem sendNet_steps (s : State) (sub kind dst : Nat) (bytes : List Byte) : (s.sendNet sub kind dst bytes).steps = s.steps :=
  State.steps_of_seq (State.sendNet_seq ..)
theorem readRegion_steps (s : State) (r : Region) (region o len src : Nat) (env : MemEnv) (quiet : Bool) :
    (s.readRegion r region o len src env quiet).1.steps = s.steps := State.steps_of_core (readRegion_core ..)
theorem readUnit_steps (s : State) (h u region : Nat) (session : Bool) (src kind : Nat) (f : Option MemFault) (noSpare quiet : Bool) :
    (s.readUnit h u region session src kind f noSpare quiet).1.steps = s.steps := State.steps_of_core (readUnit_core ..)
theorem writeRegion_steps (s : State) (r : Region) (region o : Nat) (bs : List Byte) : (s.writeRegion r region o bs).1.steps = s.steps :=
  State.steps_of_core (writeRegion_core ..)
theorem writeUnit_steps (s : State) (r : Region) (region o at_ : Nat) (bs : List Byte) : (s.writeUnit r region o at_ bs).1.steps = s.steps :=
  State.steps_of_core (writeUnit_core ..)
theorem issueOp_steps (s : State) (o : ReachOp) : (s.issueOp o).steps = s.steps := State.steps_of_core (issueOp_core ..)

/-! ### Journal records (R177 to R183) -/

theorem putRecord_steps (s : State) (r : JRecord) : (s.putRecord r).steps = s.steps :=
  (congrArg (fun q : StepSeq => (q.committed, q.current)) (s.putRecord_sansJournal r) :)

theorem wrapRecord_steps (s : State) (r : JRecord) : (s.wrapRecord r).steps = s.steps := by
  unfold State.wrapRecord
  dsimp only
  split
  · exact putRecord_steps ..
  · exact (raise_steps ..).trans ((putRecord_steps ..).trans (putRecord_steps ..))

theorem record_steps (s : State) (r : JRecord) : (s.record r).steps = s.steps := by
  unfold State.record
  split
  · rfl
  · split
    · exact wrapRecord_steps ..
    · split
      · exact putRecord_steps ..
      · rfl

theorem recordInput_steps (s : State) (step : Word64) (type source index : Nat) (bs : List Byte) : (s.recordInput step type source index bs).steps = s.steps :=
  steps_foldl (fun _ _ => record_steps ..) _ _

/-- A write journaled under its stamp, if it has one. -/
theorem stampedInput_steps (s : State) (stamp : Option Word64) (type source index : Nat) (bs : List Byte) :
    (match stamp with | some k => s.recordInput k type source index bs | none => s).steps = s.steps := by
  cases stamp
  case none => rfl
  case some k => exact recordInput_steps ..

/-! ### What leaves at a commit (R164, R311, R319) -/

theorem releaseStream_steps (s : State) (st : Stream) : (s.releaseStream st).steps = s.steps := by
  unfold State.releaseStream
  dsimp only
  split
  · rfl
  · exact readRegion_steps ..

theorem releaseSched_steps (s : State) : s.releaseSched.steps = s.steps := by
  unfold State.releaseSched
  split
  · rfl
  · dsimp only
    split
    · rfl
    · exact steps_foldl releaseStream_steps _ _

theorem issueReach_steps (s : State) (trigger : Nat) : (s.issueReach trigger).steps = s.steps := by
  unfold State.issueReach
  split
  · rfl
  · dsimp only
    split
    · rfl
    · exact steps_foldl issueOp_steps _ _

theorem replyCall_steps (s : State) (e : Endpoint) (c : Call) : (s.replyCall e c).steps = s.steps := by
  unfold State.replyCall
  dsimp only
  split
  · exact (sendNet_steps ..).trans (readRegion_steps ..)
  · rfl

theorem releaseService_steps (s : State) : s.releaseService.steps = s.steps := by
  unfold State.releaseService
  split
  · rfl
  · dsimp only
    split
    · rfl
    · exact (steps_foldl (fun _ _ => sendNet_steps ..) _ _).trans (steps_foldl (fun _ _ => replyCall_steps ..) _ _)

theorem dropCkpt_steps (s : State) : s.dropCkpt.steps = s.steps := by
  have hshs := modShs_steps s (fun h => h.placed) (fun h => { h with pods := h.pods.mapAll (fun _ p => { p with ckpt := [] }) })
  unfold State.dropCkpt
  generalize s.modShs (fun h => h.placed) (fun h => { h with pods := h.pods.mapAll (fun _ p => { p with ckpt := [] }) }) = t at *
  exact hshs

theorem finishCommit_steps (s : State) : s.finishCommit.steps = (s.seq.current, s.seq.current + 1) := by
  have hkept : (((s.releaseSched.issueReach 1).releaseService).dropCkpt).steps = s.steps :=
    (dropCkpt_steps _).trans ((releaseService_steps _).trans ((issueReach_steps _ 1).trans (releaseSched_steps s)))
  unfold State.finishCommit
  generalize ((s.releaseSched.issueReach 1).releaseService).dropCkpt = t at *
  exact congrArg (fun k : Word64 => (k, k + 1)) (Prod.ext_iff.1 hkept).2

/-! ### Stamped requests (R285, R327 to R330, R340) -/

theorem sendAck_steps (s : State) (peer kind : Nat) (bytes : List Byte) : (s.sendAck peer kind bytes).steps = s.steps := by
  unfold State.sendAck
  split
  · exact sendTo_steps ..
  · rfl

theorem reachStatus_steps (s : State) (src : Nat) (h : ReachHdr) (st : Nat) : (s.reachStatus src h st).steps = s.steps := sendTo_steps ..

theorem reachBusy_steps (s : State) (g src : Nat) (h : ReachHdr) : (s.reachBusy g src h).steps = s.steps := reachStatus_steps ..

theorem reachDone_steps (s : State) (g src : Nat) (h : ReachHdr) : (s.reachDone g src h).steps = s.steps := sendAck_steps ..

theorem putTally_steps (s : State) (plaza index : Nat) (v : Tally) : (s.putTally plaza index v).steps = s.steps := by
  unfold State.putTally
  split <;> rfl

theorem message_steps (s : State) (g src : Nat) (h : ReachHdr) : (s.message g src h).steps = s.steps := by
  have hreleased : ∀ (t : State) (pl ix : Nat) (v : Tally), ({ t.putTally pl ix v with
      net := { (t.putTally pl ix v).net with releases := satAdd (t.putTally pl ix v).net.releases 1 } }.dropHeld pl ix).steps = t.steps :=
    fun t pl ix v => putTally_steps t pl ix v
  unfold State.message
  dsimp only
  repeat' split
  · exact (sendAck_steps ..).trans (hreleased ..)
  · exact putTally_steps ..
  · exact (sendAck_steps ..).trans (hreleased ..)
  · exact putTally_steps ..
  · rfl

theorem applyStore_steps (s : State) (g src : Nat) (h : ReachHdr) (data : List Byte) (stamp : Option Word64) : (s.applyStore g src h data stamp).steps = s.steps := by
  unfold State.applyStore
  split
  · exact reachBusy_steps ..
  · split
    · rfl
    · exact (reachDone_steps ..).trans ((message_steps ..).trans ((stampedInput_steps ..).trans (writeRegion_steps ..)))

theorem undoCell_steps (s : State) (own : Bool) (h addr region w old : Nat) : (s.undoCell own h addr region w old).steps = s.steps := by
  unfold State.undoCell
  split <;> rfl

theorem a96Overflow_steps (s : State) (own : Bool) (h addr : Nat) : (s.a96Overflow own h addr).steps = s.steps := by
  unfold State.a96Overflow
  dsimp only
  split
  · exact raise_steps ..
  · exact raise_steps ..

theorem atomicUnit_steps (s : State) (own : Bool) (r : Region) (region o aop : Nat) (old opnd new : List Byte) : (s.atomicUnit own r region o aop old opnd new).steps = s.steps := by
  unfold State.atomicUnit
  refine (writeUnit_steps ..).trans (steps_foldl (fun t c => ?_) _ _)
  dsimp only
  split
  · exact a96Overflow_steps ..
  · exact undoCell_steps ..

theorem atomicUnits_steps (r : Region) (region o aop src : Nat) (env : MemEnv) (opnd new : Nat → List Byte) (l : List Nat) (s : State) :
    (s.atomicUnits r region o aop src env opnd new l).1.steps = s.steps := by
  induction l generalizing s with
  | nil => rfl
  | cons i is ih =>
    unfold State.atomicUnits
    refine (ih _).trans ?_
    split
    · exact (atomicUnit_steps ..).trans (readUnit_steps ..)
    · exact readUnit_steps ..

theorem applyAtomic_steps (s : State) (r : Region) (region o aop flits src : Nat) (env : MemEnv) (data : Nat → List Byte) :
    (s.applyAtomic r region o aop flits src env data).1.steps = s.steps := by
  have hcount : ∀ (t : State) (h n : Nat), (t.countOdecc h n).steps = t.steps := fun t h n => by
    unfold State.countOdecc
    split <;> rfl
  have hunits := fun (opnd new : Nat → List Byte) (l : List Nat) =>
    (atomicUnits_steps r region o aop src env opnd new l (s.countOdecc (r.locate (64 * o)).1 env.odecc)).trans (hcount ..)
  unfold State.applyAtomic
  dsimp only
  specialize hunits (fun i => if aop % 128 == 11 then data (2 * i) else data i) (fun i => data (2 * i + 1)) (upto (aopUnits aop flits))
  generalize State.atomicUnits _ r region o aop src env _ _ _ = a at *
  split
  · exact (steps_foldl (fun _ _ => modMem_steps ..) _ _).trans hunits
  · exact hunits

theorem atomicReply_steps (s : State) (g src : Nat) (h : ReachHdr) (old : List Byte) : (s.atomicReply g src h old).steps = s.steps := sendAck_steps ..

/-- What an atomic answers once its cells stand (R330). -/
def State.atomicAnswered (s : State) (g src : Nat) (h : ReachHdr) (past : Bool) : Option (List Byte) → State
  | none => (s.reachStatus src h 4).reachDone g src h
  | some old =>
    let t := s.message g src h
    (if past then t.reachStatus src h 5 else if bitAt h.aop 7 then t.atomicReply g src h old else t).reachDone g src h

theorem atomicAnswered_steps (s : State) (g src : Nat) (h : ReachHdr) (past : Bool) (old : Option (List Byte)) : (s.atomicAnswered g src h past old).steps = s.steps := by
  cases old
  case none => exact (reachDone_steps _ g src h).trans (reachStatus_steps ..)
  case some old =>
    refine (reachDone_steps _ g src h).trans (Eq.trans ?_ (message_steps s g src h))
    split
    · exact reachStatus_steps ..
    · split
      · exact atomicReply_steps ..
      · rfl

theorem applyAtomicPkt_steps (s : State) (g src : Nat) (h : ReachHdr) (data : List Byte) (stamp : Option Word64) (env : MemEnv) :
    (s.applyAtomicPkt g src h data stamp env).steps = s.steps := by
  have hanswer : ∀ (a : State × Option (List Byte)) (past : Bool) (off : Nat) (bs : List Byte), a.1.steps = s.steps →
      ((match stamp with | some k => a.1.recordInput k 4 h.region off bs | none => a.1).atomicAnswered g src h past a.2).steps = s.steps :=
    fun a past off bs ha => (atomicAnswered_steps ..).trans ((stampedInput_steps ..).trans ha)
  unfold State.applyAtomicPkt
  split
  · exact reachBusy_steps ..
  · split
    · rfl
    · next r _ =>
      dsimp only
      have happlied : ∀ (n : Nat) (cell : Nat → List Byte), (if (chunks 64 data).isEmpty then (s, some [])
          else s.applyAtomic r h.region (h.offset / 64) h.aop n (24 + g) env cell).1.steps = s.steps := fun n cell => by
        split
        · rfl
        · exact applyAtomic_steps ..
      specialize happlied ((chunks 64 data).length - 1) (fun i => ((chunks 64 data)[i]?).getD [])
      generalize (if (chunks 64 data).isEmpty = true then _ else _ : State × Option (List Byte)) = a at *
      exact hanswer a _ _ _ happlied

theorem applyDeps_steps (src engine n : Nat) (s : State) : (State.applyDeps src engine n s).steps = s.steps := by
  induction n generalizing s with
  | zero => rfl
  | succ n ih =>
    unfold State.applyDeps
    dsimp only
    split
    · rfl
    · exact (ih _).trans (applyStore_steps ..)

theorem applyOrWait_steps (s : State) (g src : Nat) (h : ReachHdr) (data : List Byte) (stamp : Option Word64) (env : MemEnv) :
    (s.applyOrWait g src h data stamp env).steps = s.steps := by
  unfold State.applyOrWait
  dsimp only
  split
  · rfl
  · refine (applyDeps_steps ..).trans ?_
    split
    · exact applyStore_steps ..
    · exact applyAtomicPkt_steps ..

theorem applyStamps_steps (s : State) : s.applyStamps.steps = s.steps := by
  have hgw : ∀ (t : State) (g : Nat), (t.applyStampsGw g).steps = t.steps := fun t g => by
    unfold State.applyStampsGw
    exact steps_foldl (fun u x => (applyOrWait_steps (u.modGw g (fun w => { w with stamped := w.stamped.erase x })) g x.src x.hdr x.data (some x.step) {}).trans rfl) _ _
  exact (hgw ..).trans (hgw ..)

/-! ### The boundary (R201, R371, R384, R460) -/

theorem renumberClaims_steps (s : State) : s.renumberClaims.steps = s.steps := by
  unfold State.renumberClaims
  dsimp only
  repeat' split
  · exact raise_steps ..
  · rfl
  · exact raise_steps ..
  · rfl

theorem movePrivate_steps (s : State) : s.movePrivate.steps = s.steps := by
  unfold State.movePrivate
  refine steps_foldl (fun t n => ?_) _ _
  refine steps_foldl (fun u c => ?_) _ _
  split
  · exact raise_steps ..
  · rfl

theorem rotateInForce_steps (s : State) : s.rotateInForce.steps = s.steps := State.steps_of_seq s.rotateInForce_seq

theorem toLoaded_steps (s : State) : s.toLoaded.steps = s.steps := by
  unfold State.toLoaded
  exact (rotateInForce_steps _).trans ((State.steps_of_seq (State.endStart_seq _)).trans rfl)

theorem eachShallot_steps (s : State) (f : Nat → Shallot → Shallot) : (s.eachShallot f).steps = s.steps := by
  unfold State.eachShallot
  exact steps_foldl (fun u n => modSh_steps u n (f n)) _ _

theorem startClocks_steps (s : State) : s.startClocks.steps = s.steps := by
  unfold State.startClocks
  exact eachShallot_steps ..

theorem setTimetables_steps (s : State) (i : Option Image) (k : Nat) : (s.setTimetables i k).steps = s.steps := State.steps_of_seq rfl

/-- Placement `k` of an image is the active one (R201). -/
def State.placementActive (s : State) (i : Image) (k : Nat) : State := { s with img := { s.img with active := k }, cond := { s.cond with twins := i.twinsOf k } }

theorem placementActive_steps (s : State) (i : Image) (k : Nat) : (s.placementActive i k).steps = s.steps := State.steps_of_seq rfl

theorem State.changePlacement_eq (s : State) (i : Image) (k : Nat) : s.changePlacement i k =
    (((s.eachShallot (fun n h => h.place i k n)).startClocks.setTimetables (some i) k).placementActive i k).raise 0x0021 pkgPlaza 0
      [BitVec.ofNat 8 s.img.active, BitVec.ofNat 8 k] := by
  unfold State.changePlacement State.placementActive
  rfl

theorem changePlacement_steps (s : State) (i : Image) (k : Nat) : (s.changePlacement i k).steps = s.steps := by
  rw [State.changePlacement_eq, raise_steps, placementActive_steps, setTimetables_steps, startClocks_steps, eachShallot_steps]

theorem movePlacement_steps (s : State) : s.movePlacement.steps = s.steps := by
  unfold State.movePlacement
  split
  · rfl
  · split
    · split
      · rfl
      · exact changePlacement_steps ..
    · rfl

theorem beginRecess_steps (s : State) (k : RecessKind) (w : RecessWork) : (s.beginRecess k w).steps = s.steps := by
  have hshs := modShs_steps s (fun h => h.placed && h.recess.isNone) (fun h =>
    { h with recess := some k, recessAt := s.top.now, recessCount := satAdd h.recessCount 1 })
  unfold State.beginRecess
  generalize s.modShs (fun h => h.placed && h.recess.isNone) (fun h =>
    { h with recess := some k, recessAt := s.top.now, recessCount := satAdd h.recessCount 1 }) = t at *
  by_cases hrun : (s.top.state == .running) = true
  · rw [if_pos hrun]
    exact hshs
  · rw [if_neg hrun]
    rfl

/-- A recess that grants something begins, and else the barrier is next (R175). -/
theorem recessOrBarrier_steps (s : State) (w : RecessWork) : (if w.none then { s with seq := { s.seq with phase := .barrier } } else
    { s.beginRecess .scheduled w with seq := { (s.beginRecess .scheduled w).seq with phase := .recess } }).steps = s.steps := by
  have hrecess := beginRecess_steps s .scheduled w
  generalize s.beginRecess .scheduled w = t at *
  split
  · rfl
  · exact hrecess

theorem boundaryRecess_steps (s : State) (k : Nat) : (s.boundaryRecess k).steps = s.steps := by
  unfold State.boundaryRecess
  split
  · rfl
  · exact recessOrBarrier_steps s _

theorem boundaryRest_steps (s : State) : s.boundaryRest.steps = s.steps := by
  unfold State.boundaryRest
  dsimp only
  split
  · exact (toLoaded_steps _).trans (raise_steps ..)
  · split
    · exact toLoaded_steps _
    · exact (boundaryRecess_steps ..).trans (movePlacement_steps _)

theorem testsOver_steps (s : State) : s.testsOver.steps = s.steps := by
  unfold State.testsOver
  split
  · exact boundaryRest_steps s
  · rfl

theorem freshWindows_steps (s : State) : s.freshWindows.steps = s.steps := State.steps_of_seq rfl

/-- The boundary once the counters have advanced: the stamped writes, a rotation, the claims and the pods that leave their row path (R327, R371, R384). -/
def State.boundaryBegun (s : State) : State := s.finishCommit.freshWindows.applyStamps.rotateInForce.renumberClaims.movePrivate

theorem boundaryBegun_steps (s : State) : s.boundaryBegun.steps = (s.seq.current, s.seq.current + 1) := by
  unfold State.boundaryBegun
  rw [movePrivate_steps, renumberClaims_steps, rotateInForce_steps, applyStamps_steps, freshWindows_steps, finishCommit_steps]

/-- The boundary waits for its wire tests (R405). -/
def State.boundaryOpened (s : State) : State :=
  let t : State := { s with cond := s.cond.resume, seq := { s.seq with phase := .barrier } }
  { t with seq := { t.seq with boundaryDue := true } }

theorem boundaryOpened_steps (s : State) : s.boundaryOpened.steps = s.steps := State.steps_of_seq_counters rfl rfl

theorem commitComplete_boundary {s : State} (hrun : s.top.state = .running) (hphase : s.seq.phase = .commit) (hstalled : s.seq.stalled = [])
    (hmoved : s.windowsMoved true = true) : exec .commitComplete s = .next s.boundaryBegun.boundaryOpened.testsOver := by
  unfold State.boundaryOpened State.boundaryBegun
  rw [exec_commitComplete, execCommitComplete]
  rw [if_pos ⟨hrun, hphase, List.isEmpty_iff.2 hstalled, hmoved⟩]

/-- A commit ends with its step committed and the next one current (R164). -/
theorem commitComplete_advances {s : State} (hrun : s.top.state = .running) (hphase : s.seq.phase = .commit) (hstalled : s.seq.stalled = [])
    (hmoved : s.windowsMoved true = true) : ∃ t, exec .commitComplete s = .next t ∧ t.seq.committed = s.seq.current ∧ t.seq.current = s.seq.current + 1 := by
  have hsteps : s.boundaryBegun.boundaryOpened.testsOver.steps = (s.seq.current, s.seq.current + 1) := by
    rw [testsOver_steps, boundaryOpened_steps, boundaryBegun_steps]
  refine ⟨_, commitComplete_boundary hrun hphase hstalled hmoved, ?_⟩
  generalize s.boundaryBegun.boundaryOpened.testsOver = t at *
  exact Prod.ext_iff.1 hsteps

end Sys2Proof.Machine
end

section
/-! PROOF. Where STREAM, the lamp, calibration and recess commands and those of the step sequencer complete. -/
namespace Sys2Proof.Machine

/-- Settles O57: each command's own completion; the commit's by the step counters that its boundary leaves alone. -/
theorem lightAndStepCommandsComplete : Obligations.LightAndStepCommandsComplete := by
  unfold Obligations.LightAndStepCommandsComplete
  intro p a w l f ps p0 g cal readings weak us overdue twins member step tm s k rec since o i d
    q x u e lamp running waits inDomain drained clean
  refine ⟨fun hpair ha32 hfit => stream_completes p a hpair ha32 hfit, fadeValue_completes l f, driveAdjust_completes l,
    fun hwarm => ⟨spareReady_locked l hwarm, spareReady_again l hwarm⟩,
    fun hdemand hrun hactive hdue hout hswitch => crossfadeDeadline_forces l hdemand hrun hactive hdue hout hswitch,
    fun hgrant hspare hactive hready => crossfade_begins l ps hgrant hspare hactive hready,
    fun hfading hspare hk => crossfadeStep_completes l hfading hspare hk,
    p0Update_writes l p0, p0WriteRetry_writes l, ?_, ?_, laneGroupRecalDone_ends cal, mapComplete_counts, recessDemand_completes us overdue,
    forcedRecessWaitEnd_completes, recessWorkDone_ends, ?_, journalStallResume_ends, fun hrun => commitComplete_advances hrun, fun hrun => restoreDone_again hrun,
    packageReady_fixes, ?_, ?_, ?_, ?_, ?_⟩
  · intro hmay h1
    obtain ⟨-, hnext, hlast, -⟩ := (calibrationsAndRecesses.1 g cal readings weak s)
    refine ⟨hnext hmay h1, fun h8 => ?_⟩
    obtain ⟨t, hexec, hphase, hdone, -⟩ := hlast hmay h8
    exact ⟨t, hexec, hphase, hdone⟩
  · exact fun hgrant hlane hlamps hwait hpending hfree => laneGroupRecal_starts g hgrant hlane hlamps hwait hpending hfree
  · rintro ⟨hrun, hphase, hending, hflights, hloads⟩ ⟨hfailed, htwins, harith, hraises⟩ hwindows _
    exact drainComplete_commits twins hrun hphase hending hflights hloads hfailed htwins harith hraises hwindows
  · rintro hrun hreplay hext ⟨himage, hdomain⟩ hm hself hstep hown
    exact readyMsg_noted member step tm hrun hreplay hext himage hdomain hm hself hstep hown
  · exact fun ⟨hrun, hphase, hown⟩ hext => readyResend_sends hrun hphase hown hext
  · exact fun ⟨hrun, hphase, hown⟩ hext ⟨himage, hdomain⟩ => domainWaitTimer_raises hrun hphase hown hext himage hdomain
  · exact fun ⟨hrun, hphase, hown⟩ hext => syncIoRise_starts hrun hphase hown hext
  · intro hpps hstate
    obtain ⟨t, hexec, hwhole, -⟩ := ppsEdge_aligns hpps (State.ptpOpen_of_state hstate)
    exact ⟨t, hexec, hwhole⟩

end Sys2Proof.Machine
end
